-- ==== Sys2Proof/Word.lean ====
section
/-!
DEFINITION. The words of the part: bytes on its lines, the index types of its tables (00_scope.md, Conventions)
and the saturating count.
-/
namespace Sys2Proof

/-- One byte of a frame or of a record image. -/
abbrev Byte := BitVec 8

/-- Door index 0-95 (00_scope.md, Conventions). -/
abbrev DoorIx := Fin 96

/-- Compartment index 0-31. -/
abbrev CompIx := Fin 32

/-- HPU index 0-7. -/
abbrev HpuIx := Fin 8

/-- Group index 0-23; the system group ALL is no index. -/
abbrev GroupIx := Fin 24

/-- Station port 0-7. -/
abbrev PortIx := Fin 8

/-- Run slot: 0-3 are the station slots and 4 is slot S (11_frame_and_record_formats.md, 11.1). -/
abbrev SlotIx := Fin 5

/-- A saturating count: one more, stopping at `top` (00_scope.md, Saturating and clamped values). -/
def satInc (top n : Nat) : Nat := min (n + 1) top

/-- A count down to 0. -/
def countDown (n : Nat) : Nat := n - 1

end Sys2Proof
end

