-- ==== Sys2Proof/Config.lean ====
section
/-!
DEFINITION. What the manual leaves open: free values, each an opaque constant. Nothing proves a value of one, so a
theorem that mentions one holds whatever the part does. An order left open is applied to `State.freeCount`, the
number of free choices taken so far, so that each choice is a fresh one.
-/
namespace Sys2Proof

/-- The actions that take a presentation of a door (R5). MC's progress of a passage and MC's handling of a handle
change are two of them, because one report may bring both (R115, R118). -/
inductive PresentAct where
  | MS | CS | MC_PASSAGE | MC_HANDLE | GRU | IB
  deriving DecidableEq, Repr

/-- DESIGN CHOICE, entry 1 (safe). The place an action takes in a presentation, lowest first: R5 orders none of them.
Equal places keep the order of the constructors, so every order of the six is some choice of places. -/
opaque Config.presentationPlace : Nat → PresentAct → Nat

/-- DESIGN CHOICE, entry 2 (safe). Whether the flush for LOCAL is taken before the abort of the runs (R102, R108). -/
opaque Config.flushBeforeAbort : Nat → Bool

/-- DESIGN CHOICE, entry 3 (safe). Whether the RESULT of a COMMISSION is placed before the first ZONE_SUMMARY to the
same port (R182). -/
opaque Config.resultBeforeSummary : Nat → Bool

/-- DESIGN CHOICE, entry 4 (safe). Whether the pending flag stands set after a ZONE_SUMMARY whose placing dropped an
older one (R149 clears the flag, R172 sets it). -/
opaque Config.pendingAfterDrop : Nat → Bool

/-- DESIGN CHOICE, entry 5 (safe). The 32-bit seconds counter one second after 4,294,967,295. -/
opaque Config.secondsAfterTop : BitVec 32

end Sys2Proof
end

