-- ==== Sys2Proof/Syntax.lean ====
section
/-!
DEFINITION. The commands of the part: one constructor for each row of spec/opcode_table.json, with the operands the
rules give the row. Operands that cross a port are the bytes of the payload (11_frame_and_record_formats.md); an
operand that the part itself knows (a door, an HPU, a port, a slot whose timer expired) is an index.
-/
namespace Sys2Proof

/-- The two door ring ports. -/
inductive RingPort where
  | EAST | WEST
  deriving DecidableEq, Repr

/-- The motion of a REPORT (11.3). -/
inductive Motion where
  | NONE | CLOSING | OPENING
  deriving DecidableEq, Repr

/-- The handle of a REPORT or EVENT (11.3). -/
inductive HandleCode where
  | IDLE | OPEN | CLOSE
  deriving DecidableEq, Repr

/-- The state an HPU reports of itself (11.3). -/
inductive HpuCode where
  | READY | FAILED
  deriving DecidableEq, Repr

/-- What one byte time of a UART line delivers: the byte, and whether its framing failed (R165). -/
structure RxByte where
  byte : Byte
  framingError : Bool
  deriving DecidableEq, Repr

/-- The payload of a REPORT (11.3). -/
structure ReportBits where
  closedLimit : Bool
  openLimit : Bool
  motion : Motion
  handle : HandleCode
  lowPressure : Bool
  sensorFault : Bool
  deriving DecidableEq, Repr

/-- A station command whose mode, table or counter-set code names nothing (R168 step 2, R173 step 1): the payload
bytes as they were sent. -/
inductive UnknownCode where
  /-- MODE_SET with this mode code -/
  | modeSet (code : Byte)
  /-- TABLE_WRITE with this table code, and the bytes after it -/
  | tableWrite (table : Byte) (rest : List Byte)
  /-- TABLE_READ of this table code, first index and count -/
  | tableRead (table first count : Byte)
  /-- COUNTER_READ of this set code and clear flag -/
  | counterRead (set clear : Byte)
  deriving DecidableEq, Repr

/-- The commands. The order is the order of spec/opcode_table.json. -/
inductive Instr where
  | heartbeat (port : PortIx)
  | modeSetLocal (port : PortIx)
  | modeSetClosed (port : PortIx)
  | modeSetEmergency (port : PortIx)
  | doorClose (port : PortIx) (door cls : Byte)
  | doorOpen (port : PortIx) (door cls : Byte)
  | groupClose (port : PortIx) (group cls : Byte)
  | groupOpen (port : PortIx) (group cls : Byte)
  | runCancel (port : PortIx) (run : Byte)
  | alarmAck (port : PortIx) (kind subject : Byte)
  | alarmAckAll (port : PortIx)
  | snapshotReq (port : PortIx)
  | tableWriteDoor (port : PortIx) (index : Byte) (image : List Byte)
  | tableWriteHpu (port : PortIx) (index : Byte) (image : List Byte)
  | tableWriteGroup (port : PortIx) (index : Byte) (image : List Byte)
  | tableWritePermitRow (port : PortIx) (index : Byte) (image : List Byte)
  | tableWriteSystemRecord (port : PortIx) (index : Byte) (image : List Byte)
  | tableReadDoorConfig (port : PortIx) (first count : Byte)
  | tableReadDoorState (port : PortIx) (first count : Byte)
  | tableReadHpuConfig (port : PortIx) (first count : Byte)
  | tableReadHpuState (port : PortIx) (first count : Byte)
  | tableReadGroup (port : PortIx) (first count : Byte)
  | tableReadPermitConfig (port : PortIx) (first count : Byte)
  | tableReadPermitState (port : PortIx) (first count : Byte)
  | tableReadSystemRecord (port : PortIx) (first count : Byte)
  | tableReadAlarmList (port : PortIx) (first count : Byte)
  | counterReadStation (port : PortIx) (clear : Byte)
  | counterReadRing (port : PortIx) (clear : Byte)
  | commission (port : PortIx)
  | decommission (port : PortIx)
  | save (port : PortIx)
  | restart (port : PortIx)
  | stationFrameDiscarded (port : PortIx) (bytes : List RxByte)
  | stationInterbyteTimeout (port : PortIx) (bytes : List RxByte)
  | stationFrameSent (port : PortIx)
  | snapshotPartSent (port : PortIx)
  | saveComplete
  | warmRestart
  | resetAsserted
  | coldStart
  | emergencyCloseAsserted
  | emergencyCloseReleased
  | report (port : RingPort) (src seq : Byte) (bits : ReportBits)
  | event (port : RingPort) (src seq : Byte) (handle : HandleCode) (lowPressure sensorFault : Bool)
  | hpuReport (port : RingPort) (src seq : Byte) (state : HpuCode) (pressure : Nat)
  | loopCopy (port : RingPort) (seq : Byte)
  | ringFrameDiscarded (port : RingPort) (bytes : List RxByte)
  | ringInterbyteTimeout (port : RingPort) (bytes : List RxByte)
  | orderSend
  | pollSend
  | replyLimitExpiry
  | loopTimerExpiry
  | loopIntervalExpiry
  | reportAgeExpiry (hpu : HpuIx)
  | supervisionTick
  | secondsCounterIncrement
  | preWarningExpiry (door : DoorIx)
  | readyAgeExpiry (door : DoorIx)
  | startWindowExpiry (door : DoorIx)
  | deadlineExpiry (door : DoorIx)
  | hardLimitExpiry (door : DoorIx)
  | waitAgeExpiry (slot : SlotIx)
  | heldTimeExpiry (door : DoorIx)
  | openAtSeaTimerExpiry (door : DoorIx)
  | heartbeatWindowExpiry (port : PortIx)
  | summaryElapsedExpiry (port : PortIx)
  | walkStep (slot : SlotIx)
  | codeThatNamesNothing (port : PortIx) (code : UnknownCode)
  deriving DecidableEq, Repr

end Sys2Proof
end

