-- ==== Sys2Proof/WellFormed.lean ====
section
/-!
DEFINITION. Which commands are well formed: the operands an accepted frame or an event of the part can carry
(11_frame_and_record_formats.md). The meanings are total; this says which operands stand for something outside.
-/
namespace Sys2Proof

/-- Source address of a node's frame: 1-126 (R190). -/
def wfNode (a : Byte) : Bool := decide (1 ≤ a.toNat) && decide (a.toNat ≤ 126)

/-- The pressure of an HPU_REPORT: 0-4095 (R190). -/
def wfPressure (p : Nat) : Bool := decide (p ≤ 4095)

/-- The kind of an ALARM_ACK naming one record: any code but 255, which is ALL (R191). -/
def wfAckKind (k : Byte) : Bool := decide (k.toNat ≠ 255)

/-- The image length of a TABLE_WRITE of fixed length `n` (R191). -/
def wfImage (n : Nat) (image : List Byte) : Bool := decide (image.length = n)

/-- The image length a group image's own entry count gives: 3 + ceil(14 × count / 8) (11.5, R193). -/
def wfGroupImage (image : List Byte) : Bool :=
  decide (3 ≤ image.length) && decide (image.length = 3 + (14 * (image.getD 2 0).toNat + 7) / 8)

/-- A code that names nothing (R168 step 2, R173 step 1, R191). -/
def UnknownCode.namesNothing : UnknownCode → Bool
  | .modeSet c => decide (2 < c.toNat)
  | .tableWrite t _ => decide (8 < t.toNat) || [1, 3, 6, 8].contains t.toNat
  | .tableRead t _ _ => decide (8 < t.toNat)
  | .counterRead c _ => decide (1 < c.toNat)

/-- A TABLE_WRITE carries at least a table and a record index (R191). -/
def UnknownCode.lengthOk : UnknownCode → Bool
  | .tableWrite _ rest => decide (1 ≤ rest.length)
  | _ => true

/-- Only a station slot's run waits: ALL, the one group of slot S, has no preconditions (R101). -/
def wfWaitSlot (slot : SlotIx) : Bool := decide (slot.val < 4)

/-- Well-formed commands. -/
def Instr.wf : Instr → Bool
  | .alarmAck _ kind _ => wfAckKind kind
  | .tableWriteDoor _ _ image => wfImage 16 image
  | .tableWriteHpu _ _ image => wfImage 8 image
  | .tableWriteGroup _ _ image => wfGroupImage image
  | .tableWritePermitRow _ _ image => wfImage 12 image
  | .tableWriteSystemRecord _ _ image => wfImage 9 image
  | .report _ src _ _ => wfNode src
  | .event _ src _ _ _ _ => wfNode src
  | .hpuReport _ src _ _ pressure => wfNode src && wfPressure pressure
  | .waitAgeExpiry slot => wfWaitSlot slot
  | .codeThatNamesNothing _ code => code.namesNothing && code.lengthOk
  | .heartbeat _ | .modeSetLocal _ | .modeSetClosed _ | .modeSetEmergency _ | .doorClose _ _ _ | .doorOpen _ _ _
  | .groupClose _ _ _ | .groupOpen _ _ _ | .runCancel _ _ | .alarmAckAll _ | .snapshotReq _
  | .tableReadDoorConfig _ _ _ | .tableReadDoorState _ _ _ | .tableReadHpuConfig _ _ _ | .tableReadHpuState _ _ _
  | .tableReadGroup _ _ _ | .tableReadPermitConfig _ _ _ | .tableReadPermitState _ _ _
  | .tableReadSystemRecord _ _ _ | .tableReadAlarmList _ _ _ | .counterReadStation _ _ | .counterReadRing _ _
  | .commission _ | .decommission _ | .save _ | .restart _ | .stationFrameDiscarded _ _ | .stationInterbyteTimeout _ _
  | .stationFrameSent _ | .snapshotPartSent _ | .saveComplete | .warmRestart | .resetAsserted | .coldStart
  | .emergencyCloseAsserted | .emergencyCloseReleased | .loopCopy _ _ | .ringFrameDiscarded _ _
  | .ringInterbyteTimeout _ _ | .orderSend | .pollSend | .replyLimitExpiry | .loopTimerExpiry | .loopIntervalExpiry
  | .reportAgeExpiry _ | .supervisionTick | .secondsCounterIncrement | .preWarningExpiry _ | .readyAgeExpiry _
  | .startWindowExpiry _ | .deadlineExpiry _ | .hardLimitExpiry _ | .heldTimeExpiry _ | .openAtSeaTimerExpiry _
  | .heartbeatWindowExpiry _ | .summaryElapsedExpiry _ | .walkStep _ => true

end Sys2Proof
end

