-- ==== Sys2Proof/Decode.lean ====
section
/-!
DEFINITION. Byte order, the CRC-16, the envelopes, and the reading of a frame's kind and payload as a command
(11_frame_and_record_formats.md), with the writing of a command as a frame beside it. No row of
spec/opcode_table.json gives bits, so `decodeTableWord` answers none.
-/
namespace Sys2Proof

/-- The command a word spells by the table's bits. No row of the table gives bits. -/
def decodeTableWord (_nbits _w : Nat) : Option Instr := none

/-! ### Byte order: most significant byte first (chapter 11) -/

/-- One byte of a number. -/
def byteOf (n : Nat) : Byte := BitVec.ofNat 8 n

/-- Two bytes, most significant first. -/
def be2 (n : Nat) : List Byte := [byteOf (n / 256), byteOf n]

/-- Three bytes, most significant first. -/
def be3 (n : Nat) : List Byte := [byteOf (n / 65536), byteOf (n / 256), byteOf n]

/-- Four bytes, most significant first. -/
def be4 (n : Nat) : List Byte := [byteOf (n / 16777216), byteOf (n / 65536), byteOf (n / 256), byteOf n]

/-- The byte at place `i`, 0 past the end. -/
def byteAt (l : List Byte) (i : Nat) : Nat := (l.getD i 0).toNat

/-- The two-byte field at place `i`. -/
def wordAt (l : List Byte) (i : Nat) : Nat := 256 * byteAt l i + byteAt l (i + 1)

/-! ### The CRC-16 (R189) -/

/-- One bit of the CRC-16: generator 0x1021, most significant bit first. -/
def crc16Bit (c : BitVec 16) : BitVec 16 := if c.msb then (c <<< 1) ^^^ 0x1021#16 else c <<< 1

/-- One byte of the CRC-16. -/
def crc16Byte (c : BitVec 16) (b : Byte) : BitVec 16 :=
  crc16Bit (crc16Bit (crc16Bit (crc16Bit (crc16Bit (crc16Bit (crc16Bit (crc16Bit
    (c ^^^ (b.setWidth 16 <<< 8)))))))))

/-- R189: initial value 0xFFFF, the result not inverted. -/
def crc16 (l : List Byte) : BitVec 16 := l.foldl crc16Byte 0xFFFF#16

/-- The CRC-16 of a frame's bytes, high byte first. -/
def crcBytes (l : List Byte) : List Byte := be2 (crc16 l).toNat

/-! ### Envelopes (11.2) -/

/-- The station frame of a kind and a payload: delimiter 0x5A, kind, length, payload, CRC-16. -/
def stationFrameBytes (kind : Byte) (payload : List Byte) : List Byte :=
  let body := kind :: byteOf payload.length :: payload
  0x5A#8 :: body ++ crcBytes body

/-- The ring frame of a destination, source, kind, sequence and payload: delimiter 0x5B, then the CRC-16. -/
def ringFrameBytes (dest src kind seq : Byte) (payload : List Byte) : List Byte :=
  let body := dest :: src :: kind :: seq :: byteOf payload.length :: payload
  0x5B#8 :: body ++ crcBytes body

/-! ### Station payloads (11.4, R191) -/

/-- A TABLE_WRITE of a table, an index and an image, its length checked (R191). -/
def decodeTableWrite (p : PortIx) (table index : Byte) (image : List Byte) : Option Instr :=
  match table.toNat with
  | 0 => if image.length = 16 then some (.tableWriteDoor p index image) else none
  | 2 => if image.length = 8 then some (.tableWriteHpu p index image) else none
  | 4 => if wfGroupImage image then some (.tableWriteGroup p index image) else none
  | 5 => if image.length = 12 then some (.tableWritePermitRow p index image) else none
  | 7 => if image.length = 9 then some (.tableWriteSystemRecord p index image) else none
  | _ => some (.codeThatNamesNothing p (.tableWrite table (index :: image)))

/-- A TABLE_READ of a table, a first index and a count. -/
def decodeTableRead (p : PortIx) (table first count : Byte) : Instr :=
  match table.toNat with
  | 0 => .tableReadDoorConfig p first count
  | 1 => .tableReadDoorState p first count
  | 2 => .tableReadHpuConfig p first count
  | 3 => .tableReadHpuState p first count
  | 4 => .tableReadGroup p first count
  | 5 => .tableReadPermitConfig p first count
  | 6 => .tableReadPermitState p first count
  | 7 => .tableReadSystemRecord p first count
  | 8 => .tableReadAlarmList p first count
  | _ => .codeThatNamesNothing p (.tableRead table first count)

/-- A MODE_SET of a mode code. -/
def decodeModeSet (p : PortIx) (mode : Byte) : Instr :=
  match mode.toNat with
  | 0 => .modeSetLocal p
  | 1 => .modeSetClosed p
  | 2 => .modeSetEmergency p
  | _ => .codeThatNamesNothing p (.modeSet mode)

/-- A COUNTER_READ of a counter set (0 STATION, 1 RING). -/
def decodeCounterRead (p : PortIx) (set clear : Byte) : Instr :=
  match set.toNat with
  | 0 => .counterReadStation p clear
  | 1 => .counterReadRing p clear
  | _ => .codeThatNamesNothing p (.counterRead set clear)

/-- R191: the command of a station frame's kind and payload; none where the kind is no command kind or the length
is not the kind's, and the frame is discarded under R165. -/
def decodeStationCommand (p : PortIx) (kind : Byte) (payload : List Byte) : Option Instr :=
  match kind.toNat, payload with
  | 1, [] => some (.heartbeat p)
  | 2, [m] => some (decodeModeSet p m)
  | 3, [d, c] => some (.doorClose p d c)
  | 4, [d, c] => some (.doorOpen p d c)
  | 5, [g, c] => some (.groupClose p g c)
  | 6, [g, c] => some (.groupOpen p g c)
  | 7, [r] => some (.runCancel p r)
  | 8, [k, x] => some (if k.toNat = 255 then .alarmAckAll p else .alarmAck p k x)
  | 9, [] => some (.snapshotReq p)
  | 10, t :: i :: image => decodeTableWrite p t i image
  | 11, [t, f, n] => some (decodeTableRead p t f n)
  | 12, [s, c] => some (decodeCounterRead p s c)
  | 13, [] => some (.commission p)
  | 14, [] => some (.decommission p)
  | 15, [] => some (.save p)
  | 16, [] => some (.restart p)
  | _, _ => none

/-- The kind and payload of a station command; none for the events that are no station command. -/
def encodeStationCommand : Instr → Option (PortIx × Byte × List Byte)
  | .heartbeat p => some (p, 1, [])
  | .modeSetLocal p => some (p, 2, [0])
  | .modeSetClosed p => some (p, 2, [1])
  | .modeSetEmergency p => some (p, 2, [2])
  | .doorClose p d c => some (p, 3, [d, c])
  | .doorOpen p d c => some (p, 4, [d, c])
  | .groupClose p g c => some (p, 5, [g, c])
  | .groupOpen p g c => some (p, 6, [g, c])
  | .runCancel p r => some (p, 7, [r])
  | .alarmAck p k x => some (p, 8, [k, x])
  | .alarmAckAll p => some (p, 8, [255, 0])
  | .snapshotReq p => some (p, 9, [])
  | .tableWriteDoor p i image => some (p, 10, 0 :: i :: image)
  | .tableWriteHpu p i image => some (p, 10, 2 :: i :: image)
  | .tableWriteGroup p i image => some (p, 10, 4 :: i :: image)
  | .tableWritePermitRow p i image => some (p, 10, 5 :: i :: image)
  | .tableWriteSystemRecord p i image => some (p, 10, 7 :: i :: image)
  | .tableReadDoorConfig p f n => some (p, 11, [0, f, n])
  | .tableReadDoorState p f n => some (p, 11, [1, f, n])
  | .tableReadHpuConfig p f n => some (p, 11, [2, f, n])
  | .tableReadHpuState p f n => some (p, 11, [3, f, n])
  | .tableReadGroup p f n => some (p, 11, [4, f, n])
  | .tableReadPermitConfig p f n => some (p, 11, [5, f, n])
  | .tableReadPermitState p f n => some (p, 11, [6, f, n])
  | .tableReadSystemRecord p f n => some (p, 11, [7, f, n])
  | .tableReadAlarmList p f n => some (p, 11, [8, f, n])
  | .counterReadStation p c => some (p, 12, [0, c])
  | .counterReadRing p c => some (p, 12, [1, c])
  | .commission p => some (p, 13, [])
  | .decommission p => some (p, 14, [])
  | .save p => some (p, 15, [])
  | .restart p => some (p, 16, [])
  | .codeThatNamesNothing p (.modeSet c) => some (p, 2, [c])
  | .codeThatNamesNothing p (.tableWrite t rest) => some (p, 10, t :: rest)
  | .codeThatNamesNothing p (.tableRead t f n) => some (p, 11, [t, f, n])
  | .codeThatNamesNothing p (.counterRead s c) => some (p, 12, [s, c])
  | .stationFrameDiscarded _ _ | .stationInterbyteTimeout _ _ | .stationFrameSent _ | .snapshotPartSent _
  | .saveComplete | .warmRestart | .resetAsserted | .coldStart | .emergencyCloseAsserted | .emergencyCloseReleased
  | .report _ _ _ _ | .event _ _ _ _ _ _ | .hpuReport _ _ _ _ _ | .loopCopy _ _ | .ringFrameDiscarded _ _
  | .ringInterbyteTimeout _ _ | .orderSend | .pollSend | .replyLimitExpiry | .loopTimerExpiry | .loopIntervalExpiry
  | .reportAgeExpiry _ | .supervisionTick | .secondsCounterIncrement | .preWarningExpiry _ | .readyAgeExpiry _
  | .startWindowExpiry _ | .deadlineExpiry _ | .hardLimitExpiry _ | .waitAgeExpiry _ | .heldTimeExpiry _
  | .openAtSeaTimerExpiry _ | .heartbeatWindowExpiry _ | .summaryElapsedExpiry _ | .walkStep _ => none

/-! ### Ring payloads (11.3, R190) -/

/-- Bits 3-2 of a REPORT: motion; code 3 fails. -/
def decodeMotion (n : Nat) : Option Motion :=
  match n with
  | 0 => some .NONE
  | 1 => some .CLOSING
  | 2 => some .OPENING
  | _ => none

/-- Bits 5-4 of a REPORT or EVENT: handle; code 3 fails. -/
def decodeHandle (n : Nat) : Option HandleCode :=
  match n with
  | 0 => some .IDLE
  | 1 => some .OPEN
  | 2 => some .CLOSE
  | _ => none

/-- The code of a motion. -/
def motionCode : Motion → Nat
  | .NONE => 0
  | .CLOSING => 1
  | .OPENING => 2

/-- The code of a reported handle. -/
def handleCodeNat : HandleCode → Nat
  | .IDLE => 0
  | .OPEN => 1
  | .CLOSE => 2

/-- The payload of a REPORT. -/
def decodeReportBits (b : Byte) : Option ReportBits :=
  match decodeMotion (b.toNat / 4 % 4), decodeHandle (b.toNat / 16 % 4) with
  | some m, some h => some ⟨b.getLsbD 0, b.getLsbD 1, m, h, b.getLsbD 6, b.getLsbD 7⟩
  | _, _ => none

/-- The payload byte of a REPORT. -/
def encodeReportBits (r : ReportBits) : Byte :=
  byteOf (r.closedLimit.toNat + 2 * r.openLimit.toNat + 4 * motionCode r.motion + 16 * handleCodeNat r.handle
    + 64 * r.lowPressure.toNat + 128 * r.sensorFault.toNat)

/-- What a ring frame that passes its checks is. -/
inductive RingFrameRead where
  /-- a frame of a node or a LOOP copy: a command of its own row -/
  | command (c : Instr)
  /-- a frame of a kind that only the part sends, discarded by kind (R130) -/
  | partSent
  /-- a frame that fails its length or field checks (R190) -/
  | bad
  deriving DecidableEq, Repr

/-- A REPORT, EVENT or HPU_REPORT is addressed to the part by a node (R190). -/
def fromNode (dest src : Byte) : Bool := decide (dest.toNat = 0) && wfNode src

/-- POLL and the orders are addressed to a node by the part (R190). -/
def fromPart (dest src : Byte) : Bool := wfNode dest && decide (src.toNat = 0)

/-- R190: a ring frame's fields after its CRC has passed, arriving at `rp`. -/
def decodeRingFrame (rp : RingPort) (dest src kind seq : Byte) (payload : List Byte) : RingFrameRead :=
  match kind.toNat, payload with
  | 17, [b] =>
    match decodeReportBits b with
    | some r => if fromNode dest src then .command (.report rp src seq r) else .bad
    | none => .bad
  | 18, [b] =>
    match decodeHandle (b.toNat / 16 % 4) with
    | some h =>
      if fromNode dest src && decide (b.toNat % 16 = 0) then
        .command (.event rp src seq h (b.getLsbD 6) (b.getLsbD 7))
      else .bad
    | none => .bad
  | 19, [st, hi, lo] =>
    let p := 256 * hi.toNat + lo.toNat
    if fromNode dest src && decide (p ≤ 4095) then
      match st.toNat with
      | 0 => .command (.hpuReport rp src seq .READY p)
      | 1 => .command (.hpuReport rp src seq .FAILED p)
      | _ => .bad
    else .bad
  | 6, [] => if dest.toNat = 0 ∧ src.toNat = 0 then .command (.loopCopy rp seq) else .bad
  | 1, [] | 2, [] | 4, [] | 5, [] => if fromPart dest src then .partSent else .bad
  | 3, [_] => if fromPart dest src then .partSent else .bad
  | _, _ => .bad

/-- The destination, source, kind, sequence and payload of a ring command; none for every other command. -/
def encodeRingCommand : Instr → Option (RingPort × Byte × Byte × Byte × Byte × List Byte)
  | .report rp src seq r => some (rp, 0, src, 17, seq, [encodeReportBits r])
  | .event rp src seq h low fault => some (rp, 0, src, 18, seq, [encodeReportBits ⟨false, false, .NONE, h, low, fault⟩])
  | .hpuReport rp src seq .READY p => some (rp, 0, src, 19, seq, 0 :: be2 p)
  | .hpuReport rp src seq .FAILED p => some (rp, 0, src, 19, seq, 1 :: be2 p)
  | .loopCopy rp seq => some (rp, 0, 0, 6, seq, [])
  | .heartbeat _ | .modeSetLocal _ | .modeSetClosed _ | .modeSetEmergency _ | .doorClose _ _ _ | .doorOpen _ _ _
  | .groupClose _ _ _ | .groupOpen _ _ _ | .runCancel _ _ | .alarmAck _ _ _ | .alarmAckAll _ | .snapshotReq _
  | .tableWriteDoor _ _ _ | .tableWriteHpu _ _ _ | .tableWriteGroup _ _ _ | .tableWritePermitRow _ _ _
  | .tableWriteSystemRecord _ _ _ | .tableReadDoorConfig _ _ _ | .tableReadDoorState _ _ _ | .tableReadHpuConfig _ _ _
  | .tableReadHpuState _ _ _ | .tableReadGroup _ _ _ | .tableReadPermitConfig _ _ _ | .tableReadPermitState _ _ _
  | .tableReadSystemRecord _ _ _ | .tableReadAlarmList _ _ _ | .counterReadStation _ _ | .counterReadRing _ _
  | .commission _ | .decommission _ | .save _ | .restart _ | .stationFrameDiscarded _ _ | .stationInterbyteTimeout _ _
  | .stationFrameSent _ | .snapshotPartSent _ | .saveComplete | .warmRestart | .resetAsserted | .coldStart
  | .emergencyCloseAsserted | .emergencyCloseReleased | .ringFrameDiscarded _ _ | .ringInterbyteTimeout _ _
  | .orderSend | .pollSend | .replyLimitExpiry | .loopTimerExpiry | .loopIntervalExpiry | .reportAgeExpiry _
  | .supervisionTick | .secondsCounterIncrement | .preWarningExpiry _ | .readyAgeExpiry _ | .startWindowExpiry _
  | .deadlineExpiry _ | .hardLimitExpiry _ | .waitAgeExpiry _ | .heldTimeExpiry _ | .openAtSeaTimerExpiry _
  | .heartbeatWindowExpiry _ | .summaryElapsedExpiry _ | .walkStep _ | .codeThatNamesNothing _ _ => none

end Sys2Proof
end

