-- ==== Sys2Proof/Machine/State.lean ====
section
/-!
DEFINITION. The state of the part as plain data, one structure for each owning block (00_scope.md, Block overview;
R1, R50), and the state after reset. Codes of configuration fields are held as the numbers of their bytes, because a
loaded image may hold a code that a write would refuse (R194).
-/
namespace Sys2Proof.Machine

/-- Why the part stops with a fault. No rule stops the part, so there is no reason: nobody raises one (safe). -/
inductive Fault where
  deriving DecidableEq, Repr

/-- Why a command is given no meaning. -/
inductive Refusal where
  /-- Raised by `exec` for a command whose meaning is not modelled; no arm raises it (safe). -/
  | notModelled (mnemonic : String)
  deriving DecidableEq, Repr

/-! ### Named values (11.1) -/

/-- Position of a door (1.3). -/
inductive Position where
  | UNKNOWN | OPEN | CLOSED | CLOSING | OPENING | STOPPED
  deriving DecidableEq, Repr

/-- Handle of a door as the door record holds it (1.3). -/
inductive Handle where
  | UNKNOWN | IDLE | OPEN | CLOSE
  deriving DecidableEq, Repr

/-- Fault latch (1.5). -/
inductive Latch where
  | NONE | NOT_STARTED | OVERTIME | STALLED | WRONG_WAY
  deriving DecidableEq, Repr

/-- Direction of a demand, an entry or a run (R19). -/
inductive Direction where
  | CLOSE | OPEN
  deriving DecidableEq, Repr

/-- Phase of an entry (3.3). -/
inductive Phase where
  | WARNING | READY | MOVING
  deriving DecidableEq, Repr

/-- Phase of a passage record (6.4). -/
inductive PassagePhase where
  | OPENING | HELD | RECLOSING
  deriving DecidableEq, Repr

/-- System mode (R105). -/
inductive Mode where
  | LOCAL | CLOSED | EMERGENCY
  deriving DecidableEq, Repr

/-- State of an HPU (3.5). -/
inductive HpuState where
  | UNKNOWN | READY | FAILED | LOST
  deriving DecidableEq, Repr

/-- Source group (R19). -/
inductive SourceGroup where
  | A | B | C
  deriving DecidableEq, Repr

/-- Origin of a demand or an entry (R19, R80). -/
inductive Origin where
  | STATION (port : PortIx) | RUN (slot : SlotIx) | LOCAL | PASSAGE | LINE | MODE | ADOPTED
  deriving DecidableEq, Repr

/-- Part state (R179). -/
inductive PartState where
  | UNCONFIGURED | IN_SERVICE
  deriving DecidableEq, Repr

/-- Image status (R184). -/
inductive ImageStatus where
  | GOOD | INVALID
  deriving DecidableEq, Repr

/-- Indication of a compartment (R146). -/
inductive Indication where
  | SEALED | MOVING | OPEN | UNKNOWN | NONE
  deriving DecidableEq, Repr

/-- Stage of a run that is not IDLE (R88); a slot whose context is IDLE holds none. -/
inductive RunState where
  | WALKING | WAITING | TRACKING
  deriving DecidableEq, Repr

/-- Kinds of alarm (8.5). -/
inductive AlarmKind where
  | DOOR_SILENT | DOOR_SENSOR | DOOR_FAULT | TRAVEL_OVERTIME | UNSUPERVISED_MOTION | PASSAGE_OVERDUE
  | DOOR_OPEN_AT_SEA | PRECONDITION_BYPASSED | HPU_FAILED | HPU_SILENT | ADMISSION_DELAY | RING_OPEN
  | STATION_SILENT | BRIDGE_LOST | EMERGENCY_LINE | STORE_INVALID | LIST_FULL
  deriving DecidableEq, Repr

/-- State of an alarm record (R153). -/
inductive AlarmState where
  | ACTIVE_UNACK | ACTIVE_ACKED | CLEARED_UNACK
  deriving DecidableEq, Repr

/-- Kinds of frame the part sends on a station port (R191). -/
inductive OutKind where
  | RESULT | RUN_REPORT | ZONE_SUMMARY | ALARM_NOTICE | SNAPSHOT_PART
  deriving DecidableEq, Repr

/-! ### The configuration tables (chapters 1, 3, 5 and 9) -/

/-- Door record, configuration fields (1.2). -/
structure DoorConfig where
  present : Nat
  node : Nat
  compA : Nat
  compB : Nat
  hpu : Nat
  draw : Nat
  closeNominal : Nat
  openNominal : Nat
  tolerance : Nat
  preWarn : Nat
  doorClass : Nat
  passageLimit : Nat
  deriving DecidableEq, Repr

/-- HPU record, configuration fields (3.5). -/
structure HpuConfig where
  present : Nat
  node : Nat
  capacity : Nat
  reserve : Nat
  nominal : Nat
  deriving DecidableEq, Repr

/-- One entry of a group's list: a door, and a precondition door where 127 means absent (11.5). -/
structure GroupEntry where
  door : Nat
  pre : Nat
  deriving DecidableEq, Repr

/-- Group record (5.1). `count` is the entry count byte; in every record a write takes it is the list's length. -/
structure GroupRec where
  present : Nat
  waitLimit : Nat
  count : Nat
  entries : List GroupEntry
  deriving DecidableEq, Repr

/-- Permit row (9.2). Bits 0-4 of `notices` are DOOR, HPU, RING, STATION, SYSTEM. -/
structure PermitRow where
  role : Nat
  sourceGroup : Nat
  maxClass : Nat
  groupMask : BitVec 24
  summaryMask : BitVec 32
  notices : BitVec 5
  hbRequired : Nat
  deriving DecidableEq, Repr

/-- System record (9.5). -/
structure SystemRecord where
  startMode : Nat
  orderCode : Nat
  directLane : Nat
  lookAhead : Nat
  waitLimit : Nat
  hbMin : Nat
  hbMax : Nat
  lossAction : Nat
  deriving DecidableEq, Repr

/-- The configuration tables: what the stored image holds a copy of (R184). -/
structure Tables where
  doors : Vector DoorConfig 96
  hpus : Vector HpuConfig 8
  groups : Vector GroupRec 24
  permits : Vector PermitRow 8
  system : SystemRecord
  deriving DecidableEq, Repr

/-- Blank door record (1.2). -/
def DoorConfig.blank : DoorConfig := ⟨0, 1, 0, 1, 0, 1, 10, 10, 0, 50, 0, 60⟩
/-- Blank HPU record (3.5). -/
def HpuConfig.blank : HpuConfig := ⟨0, 1, 1, 0, 1⟩
/-- Blank group record (5.1). -/
def GroupRec.blank : GroupRec := ⟨0, 30, 0, []⟩
/-- Blank permit row (9.2). -/
def PermitRow.blank : PermitRow := ⟨0, 0, 0, 0, 0, 0, 0⟩
/-- Blank system record (9.5). -/
def SystemRecord.blank : SystemRecord := ⟨1, 5, 3, 2, 30, 5, 30, 0⟩
/-- Blank tables (R186). -/
def Tables.blank : Tables where
  doors := Vector.replicate 96 DoorConfig.blank
  hpus := Vector.replicate 8 HpuConfig.blank
  groups := Vector.replicate 24 GroupRec.blank
  permits := Vector.replicate 8 PermitRow.blank
  system := SystemRecord.blank

/-! ### Configuration Store (chapter 10) -/

/-- CFS. `save` is the port that asked for the SAVE in flight, `saveBuffer` the image being written, `image` the
stored image with its CRC-32: no bytes where the store has never been written or is being written (entry 9). -/
structure Cfs where
  part : PartState
  status : ImageStatus
  save : Option PortIx
  saveBuffer : List Byte
  restartPending : Bool
  image : List Byte
  deriving DecidableEq, Repr

/-! ### Station Ports (chapter 9) -/

/-- Receive state of a station port or a ring port: HUNT, or IN_FRAME with the bytes received after the start
delimiter (R165, R189). -/
inductive RxState where
  | HUNT
  | IN_FRAME (got : List Byte)
  deriving DecidableEq, Repr

/-- An outgoing station frame: its kind and its payload (R192). -/
structure Frame where
  kind : OutKind
  payload : List Byte
  deriving DecidableEq, Repr

/-- What SP holds for one port (R165, R172, R177, R124). `partGone`: a SNAPSHOT_PART has left the port and IB has not
been told yet (entry 11). -/
structure StationPort where
  rx : RxState
  queue : List Frame
  part : Option Frame
  partGone : Bool
  accepted : Nat
  discarded : Nat
  refused : Nat
  hbElapsed : Nat
  silent : Bool
  early : Nat
  deriving DecidableEq, Repr

/-! ### Close Schedule (chapter 3) -/

/-- Run tag: slot of acceptance and run number (R21, R89). -/
structure RunTag where
  slot : SlotIx
  number : Byte
  deriving DecidableEq, Repr

/-- A schedule entry (3.1); its door is its place in the schedule. `deadline` and `hardLimit` are 0 until MS sets
them. `startWindow` is MS's own timer (R65) and `moveWarn` the warn flag of the MOVE of the dispatch or reversal, which
a repeat carries again (R70, entry 24). -/
structure Entry where
  direction : Direction
  cls : Nat
  group : SourceGroup
  origin : Origin
  tag : Option RunTag
  arrival : Nat
  phase : Phase
  warnRemaining : Nat
  readyAge : Nat
  overtaken : Nat
  repeatUsed : Bool
  started : Bool
  elapsed : Nat
  deadline : Nat
  hardLimit : Nat
  overtimeRaised : Bool
  startWindow : Nat
  moveWarn : Bool
  deriving DecidableEq, Repr

/-- The admission fields of one HPU (3.5): committed flow F, effective capacity E, delay alarm flag. -/
structure HpuFlow where
  committed : Nat
  capacityE : Nat
  delayAlarm : Bool
  deriving DecidableEq, Repr

/-- CS: the schedule by door, the arrival counter and the admission fields. -/
structure Cs where
  entries : Vector (Option Entry) 96
  nextArrival : Nat
  flow : Vector HpuFlow 8
  deriving DecidableEq, Repr

/-! ### Movement Supervisor (chapters 1 and 4) -/

/-- Supervision fields of a door (1.5, 1.6). -/
structure Supervision where
  latch : Latch
  lastClose : Nat
  priorClose : Nat
  lastOpen : Nat
  priorOpen : Nat
  closeFresh : Bool
  openFresh : Bool
  overrun : Nat
  deriving DecidableEq, Repr

/-- MS: the supervision fields and the MOVE repeat counter (R70). -/
structure Ms where
  doors : Vector Supervision 96
  moveRepeats : Nat
  deriving DecidableEq, Repr

/-! ### Group Run Unit (chapter 5) -/

/-- The group of a run: a stored group, or the system group ALL (R87). -/
inductive GroupRef where
  | stored (g : GroupIx)
  | ALL
  deriving DecidableEq, Repr

/-- Who launched a run (5.2). -/
inductive RunOrigin where
  | STATION (port : PortIx) | MODE | LINE
  deriving DecidableEq, Repr

/-- A run context (5.2). -/
structure Run where
  slot : SlotIx
  acceptedIn : SlotIx
  group : GroupRef
  direction : Direction
  cls : Nat
  source : SourceGroup
  origin : RunOrigin
  number : Byte
  cursor : Nat
  state : RunState
  waitAge : Nat
  enqueued : Nat
  merged : Nat
  already : Nat
  overruled : Nat
  refused : Nat
  completed : Nat
  faulted : Nat
  outstanding : Nat
  deriving DecidableEq, Repr

/-- GRU: the five slots (none = IDLE), the slotting order (most recent last), the suspension stack (top first) and
the run counter; `resumed`, the model's own: the slots into which a run resumed WAITING during the operation under way and
has yet to look at its precondition (entry 12), in the order of their resumes. -/
structure Gru where
  slots : Vector (Option Run) 5
  slotting : List SlotIx
  stack : List Run
  counter : Byte
  resumed : List SlotIx
  deriving DecidableEq, Repr

/-! ### Mode Controller (chapter 6) -/

/-- A passage record (6.4). -/
structure Passage where
  phase : PassagePhase
  held : Nat
  overdue : Bool
  demanded : Bool
  deriving DecidableEq, Repr

/-- Sea fields of a door (1.7). -/
structure Sea where
  openAtSea : Nat
  denied : Nat
  deriving DecidableEq, Repr

/-- Open-at-sea timer of a door (R123); `due`: it has reached 100 and the expiry has not been taken (entry 6). -/
structure OasTimer where
  ticks : Nat
  due : Bool
  deriving DecidableEq, Repr

/-- MC. -/
structure Mc where
  mode : Mode
  line : Bool
  passages : Vector (Option Passage) 96
  sea : Vector Sea 96
  oas : Vector OasTimer 96
  bridgeLost : Bool
  deriving DecidableEq, Repr

/-! ### Ring Controller (chapters 1 and 7) -/

/-- Reported fields of a door (1.3) but the last accepted sequence, which is the duplicate filter's (R132). `shown` is the
model's own: a report has shown a position of the door since its position was last set UNKNOWN by a start, by R4 or by
DECOMMISSION (R71, entry 47). -/
structure Reported where
  position : Position
  handle : Handle
  lowPressure : Bool
  sensorFault : Bool
  lost : Bool
  misses : Nat
  shown : Bool
  deriving DecidableEq, Repr

/-- What RC holds of an HPU (3.5). -/
structure HpuReported where
  state : HpuState
  pressure : Nat
  age : Nat
  deriving DecidableEq, Repr

/-- A ring port: receive state and counters (R143, R189). -/
structure RingSide where
  rx : RxState
  received : Nat
  discarded : Nat
  deriving DecidableEq, Repr

/-- The kind of a pending order (R139). -/
inductive OrderKind where
  | WARN
  | MOVE (direction : Direction) (warn : Bool)
  | STOP
  | DENY
  deriving DecidableEq, Repr

/-- A pending order. -/
structure PendingOrder where
  door : DoorIx
  kind : OrderKind
  deriving DecidableEq, Repr

/-- A waiting loop check (R141). -/
structure LoopCheck where
  seq : Byte
  eastCopy : Bool
  westCopy : Bool
  timer : Nat
  deriving DecidableEq, Repr

/-- RC. The filter's entry of address a stands at place a - 1. `pollEnded` says that the poll of the polled door has
ended while it is still open (R134). -/
structure Rc where
  reported : Vector Reported 96
  hpus : Vector HpuReported 8
  east : RingSide
  west : RingSide
  secondCopies : Nat
  loopMisses : Nat
  txSeq : Byte
  filter : Vector (Option Byte) 126
  polled : Option DoorIx
  pollEnded : Bool
  replyLimit : Nat
  orders : List PendingOrder
  loop : Option LoopCheck
  incomplete : Nat
  interval : Nat
  deriving DecidableEq, Repr

/-! ### Indication Builder and Alarm List (chapter 8) -/

/-- Summary pacing of a port (R149). -/
structure Pacing where
  elapsed : Nat
  pending : Bool
  deriving DecidableEq, Repr

/-- One line of the snapshot buffer (R151). -/
structure SnapLine where
  door : DoorIx
  position : Position
  entry : Option (Direction × Nat × Phase)
  latch : Latch
  passage : Option PassagePhase
  lost : Bool
  deriving DecidableEq, Repr

/-- A snapshot being sent (R151). `stale`: the part in SP's hands belongs to an abandoned snapshot (R152). -/
structure Sending where
  port : PortIx
  n : Nat
  k : Nat
  stale : Bool
  deriving DecidableEq, Repr

/-- IB. -/
structure Ib where
  comps : Vector Indication 32
  allClosed : Bool
  pacing : Vector Pacing 8
  sending : Option Sending
  snapNumber : Byte
  buffer : List SnapLine
  deriving DecidableEq, Repr

/-- An alarm record (R153); the subject is its code (11.1), 255 for none. -/
structure AlarmRecord where
  kind : AlarmKind
  subject : Nat
  state : AlarmState
  raised : BitVec 32
  count : Nat
  deriving DecidableEq, Repr

/-- AL: the list, the lost-alarm counter and the level of the ALARM line. -/
structure Al where
  records : List AlarmRecord
  lost : Nat
  line : Bool
  deriving DecidableEq, Repr

/-! ### Pins -/

/-- The discrete inputs, and the frames last put on the lines (entry 20): `ringOut` by the last step in which
the ring could send, out of both ports (R129), `stationOut` the frame that last left each station port. -/
structure Pins where
  emClose : Bool
  reset : Bool
  ringOut : List (List Byte)
  stationOut : Vector (List Byte) 8
  deriving DecidableEq, Repr

/-! ### The state -/

/-- The state of the part. `freeCount` is the model's own: how many free choices have been taken (entry 1). `pending`
holds the commands waiting, first in, first out. -/
structure State where
  tables : Tables
  cfs : Cfs
  sp : Vector StationPort 8
  cs : Cs
  ms : Ms
  gru : Gru
  mc : Mc
  rc : Rc
  ib : Ib
  al : Al
  pins : Pins
  seconds : BitVec 32
  freeCount : Nat
  pending : List Instr
  deriving DecidableEq, Repr

/-! ### Cold-start values -/

/-- A station port after a cold start (R178, R128). -/
def StationPort.cold : StationPort := ⟨.HUNT, [], none, false, 0, 0, 0, 0, false, 0⟩
/-- CS after a cold start of a part with no present HPU (R63). -/
def Cs.empty : Cs := ⟨Vector.replicate 96 none, 0, Vector.replicate 8 ⟨0, 0, false⟩⟩
/-- Supervision fields after a cold start (R16). -/
def Supervision.cold : Supervision := ⟨.NONE, 0, 0, 0, 0, false, false, 0⟩
/-- MS after a cold start (R84). -/
def Ms.cold : Ms := ⟨Vector.replicate 96 Supervision.cold, 0⟩
/-- GRU after a cold start (R104). -/
def Gru.cold : Gru := ⟨Vector.replicate 5 none, [], [], 0, []⟩
/-- MC after a cold start (R127), with the line's level as read. -/
def Mc.cold (line : Bool) : Mc :=
  ⟨.LOCAL, line, Vector.replicate 96 none, Vector.replicate 96 ⟨0, 0⟩, Vector.replicate 96 ⟨0, false⟩, false⟩
/-- The start values of the reported fields (R16). -/
def Reported.start : Reported := ⟨.UNKNOWN, .UNKNOWN, false, false, false, 0, false⟩
/-- An HPU after a start (R63). -/
def HpuReported.start : HpuReported := ⟨.UNKNOWN, 0, 0⟩
/-- A ring port after a cold start (R145). -/
def RingSide.cold : RingSide := ⟨.HUNT, 0, 0⟩
/-- RC after a cold start (R145). -/
def Rc.cold : Rc where
  reported := Vector.replicate 96 Reported.start
  hpus := Vector.replicate 8 HpuReported.start
  east := RingSide.cold
  west := RingSide.cold
  secondCopies := 0
  loopMisses := 0
  txSeq := 0
  filter := Vector.replicate 126 none
  polled := none
  pollEnded := true
  replyLimit := 0
  orders := []
  loop := none
  incomplete := 0
  interval := 0
/-- IB after a cold start with no present door (R164). -/
def Ib.cold : Ib :=
  ⟨Vector.replicate 32 .NONE, false, Vector.replicate 8 ⟨0, false⟩, none, 0, []⟩

/-- The part after reset (R186): the cold start of a part whose store was never written, with the EMERGENCY CLOSE line
released (entry 8). The tables are blank, the part UNCONFIGURED, and STORE_INVALID is raised. -/
def State.reset : State where
  tables := Tables.blank
  cfs := ⟨.UNCONFIGURED, .INVALID, none, [], false, []⟩
  sp := Vector.replicate 8 StationPort.cold
  cs := Cs.empty
  ms := Ms.cold
  gru := Gru.cold
  mc := Mc.cold false
  rc := Rc.cold
  ib := Ib.cold
  al := ⟨[⟨.STORE_INVALID, 255, .ACTIVE_UNACK, 0, 1⟩], 0, true⟩
  pins := ⟨false, false, [], Vector.replicate 8 []⟩
  seconds := 0
  freeCount := 0
  pending := []

end Sys2Proof.Machine
end

