-- ==== Sys2Proof/Machine/Ops.lean ====
section
/-!
DEFINITION. The named operations over the state that every block uses: reading and writing one record of a table, the
transmit queues of SP (R172), the order queue of RC (R139), the sending of ring frames (R129), free choices, and the
outcome of a command.
-/
namespace Sys2Proof.Machine

/-! ### Tables of records -/

/-- Change the record at `i`. -/
def upd {α : Type} {n : Nat} (v : Vector α n) (i : Fin n) (f : α → α) : Vector α n := v.set i (f v[i])

/-- Write the record at `i`. -/
def put {α : Type} {n : Nat} (v : Vector α n) (i : Fin n) (x : α) : Vector α n := v.set i x

/-- Change every record, knowing its index. -/
def updAll {α : Type} {n : Nat} (v : Vector α n) (f : Fin n → α → α) : Vector α n := Vector.ofFn fun i => f i v[i]

/-- The doors in ascending index. -/
def allDoors : List DoorIx := List.finRange 96
/-- The HPUs in ascending index. -/
def allHpus : List HpuIx := List.finRange 8
/-- The groups in ascending index. -/
def allGroups : List GroupIx := List.finRange 24
/-- The station ports in ascending number. -/
def allPorts : List PortIx := List.finRange 8
/-- The compartments in ascending index. -/
def allComps : List CompIx := List.finRange 32
/-- The station run slots 0-3. -/
def stationSlots : List SlotIx := [0, 1, 2, 3]
/-- Slot S. -/
def slotS : SlotIx := 4

/-- Take an action for each index of a list, first to last. -/
def forEach {ι : Type} (l : List ι) (act : ι → State → State) (s : State) : State := l.foldl (fun s i => act i s) s

/-- An index below `n`, or none. -/
def ix? (n k : Nat) : Option (Fin n) := if h : k < n then some ⟨k, h⟩ else none

/-! ### Reading -/

/-- The part is IN_SERVICE (R179). -/
def State.inService (s : State) : Bool := decide (s.cfs.part = .IN_SERVICE)
/-- A present door: present = yes (R2). -/
def State.isPresent (s : State) (d : DoorIx) : Bool := decide (s.tables.doors[d].present = 1)
/-- A present HPU (3.5). -/
def State.hpuPresent (s : State) (h : HpuIx) : Bool := decide (s.tables.hpus[h].present = 1)
/-- The door is of class ESCAPE (1.2); else it is STANDARD. -/
def State.isEscape (s : State) (d : DoorIx) : Bool := decide (s.tables.doors[d].doorClass = 1)
/-- The present doors in ascending index. -/
def State.presentDoors (s : State) : List DoorIx := allDoors.filter s.isPresent
/-- Position of a door (1.3). -/
def State.position (s : State) (d : DoorIx) : Position := s.rc.reported[d].position
/-- Handle of a door (1.3). -/
def State.handle (s : State) (d : DoorIx) : Handle := s.rc.reported[d].handle
/-- The door's entry in the schedule, if it has one (R38). -/
def State.entry (s : State) (d : DoorIx) : Option Entry := s.cs.entries[d]
/-- The door's passage record, if one stands (R117). -/
def State.passage (s : State) (d : DoorIx) : Option Passage := s.mc.passages[d]
/-- The door's fault latch (1.5). -/
def State.latch (s : State) (d : DoorIx) : Latch := s.ms.doors[d].latch
/-- The HPU a door draws on. The field is 0-7 whenever the door can have an entry (entry 22). -/
def State.hpuOf (s : State) (d : DoorIx) : HpuIx := Fin.ofNat 8 s.tables.doors[d].hpu
/-- The draw of a door (1.2). -/
def State.draw (s : State) (d : DoorIx) : Nat := s.tables.doors[d].draw
/-- A permit row (R166). -/
def State.row (s : State) (p : PortIx) : PermitRow := s.tables.permits[p]

/-- The place of a node address in the duplicate filter (R132). -/
def nodeIx (addr : Nat) : Option (Fin 126) := if h : 1 ≤ addr ∧ addr ≤ 126 then some ⟨addr - 1, by omega⟩ else none

/-- The duplicate filter's entry of an address (R132). -/
def State.filterAt (s : State) (addr : Nat) : Option Byte :=
  match nodeIx addr with
  | some i => s.rc.filter[i]
  | none => none

/-- The last accepted sequence of a door: the filter entry of a present door's address (R132); the start value none
for a door that is not present (R2, entry 29). -/
def State.lastSequence (s : State) (d : DoorIx) : Option Byte :=
  if s.isPresent d then s.filterAt s.tables.doors[d].node else none

/-! ### Writing -/

/-- Change what SP holds of one port. -/
def State.modPort (s : State) (p : PortIx) (f : StationPort → StationPort) : State := { s with sp := upd s.sp p f }
/-- Change a door's supervision fields. -/
def State.modSup (s : State) (d : DoorIx) (f : Supervision → Supervision) : State :=
  { s with ms := { s.ms with doors := upd s.ms.doors d f } }
/-- Change the admission fields of an HPU. -/
def State.modFlow (s : State) (h : HpuIx) (f : HpuFlow → HpuFlow) : State :=
  { s with cs := { s.cs with flow := upd s.cs.flow h f } }
/-- Change a door's sea fields. -/
def State.modSea (s : State) (d : DoorIx) (f : Sea → Sea) : State :=
  { s with mc := { s.mc with sea := upd s.mc.sea d f } }
/-- Change a door's reported fields. -/
def State.modReported (s : State) (d : DoorIx) (f : Reported → Reported) : State :=
  { s with rc := { s.rc with reported := upd s.rc.reported d f } }
/-- Change what RC holds of an HPU. -/
def State.modHpu (s : State) (h : HpuIx) (f : HpuReported → HpuReported) : State :=
  { s with rc := { s.rc with hpus := upd s.rc.hpus h f } }
/-- Change a port's summary pacing. -/
def State.setPacing (s : State) (p : PortIx) (x : Pacing) : State :=
  { s with ib := { s.ib with pacing := put s.ib.pacing p x } }
/-- Write the duplicate filter's entry of an address. -/
def State.setFilter (s : State) (addr : Nat) (x : Option Byte) : State :=
  match nodeIx addr with
  | some i => { s with rc := { s.rc with filter := put s.rc.filter i x } }
  | none => s

/-- R123: when a condition of the open-at-sea timer fails, the timer is set to 0. -/
def State.zeroOas (s : State) (d : DoorIx) : State :=
  { s with mc := { s.mc with oas := put s.mc.oas d ⟨0, false⟩ } }

/-- Write a door's entry where one already stands: its fields change and the door keeps it. -/
def State.setEntry (s : State) (d : DoorIx) (e : Entry) : State :=
  { s with cs := { s.cs with entries := put s.cs.entries d (some e) } }

/-- Give a door an entry: the door has an entry from here on, so its open-at-sea timer is 0 (R123). -/
def State.makeEntry (s : State) (d : DoorIx) (e : Entry) : State := (s.setEntry d e).zeroOas d

/-- Discard a door's entry. -/
def State.dropEntry (s : State) (d : DoorIx) : State :=
  { s with cs := { s.cs with entries := put s.cs.entries d none } }

/-- Write a door's passage record where one stands. -/
def State.setPassage (s : State) (d : DoorIx) (x : Passage) : State :=
  { s with mc := { s.mc with passages := put s.mc.passages d (some x) } }

/-- Make a passage record: the door has one from here on, so its open-at-sea timer is 0 (R123). -/
def State.makePassage (s : State) (d : DoorIx) (x : Passage) : State := (s.setPassage d x).zeroOas d

/-- Remove a door's passage record. -/
def State.dropPassage (s : State) (d : DoorIx) : State :=
  { s with mc := { s.mc with passages := put s.mc.passages d none } }

/-- Write a door's position; a door at CLOSED has its open-at-sea timer at 0 (R123). -/
def State.setPosition (s : State) (d : DoorIx) (x : Position) : State :=
  let s := s.modReported d fun r => { r with position := x }
  if x = .CLOSED then s.zeroOas d else s

/-! ### Transmit queues (R172) -/

/-- A queued ZONE_SUMMARY. -/
def Frame.isSummary (f : Frame) : Bool := decide (f.kind = .ZONE_SUMMARY)
/-- A queued ALARM_NOTICE. -/
def Frame.isNotice (f : Frame) : Bool := decide (f.kind = .ALARM_NOTICE)
/-- A queued SNAPSHOT_PART. -/
def Frame.isPart (f : Frame) : Bool := decide (f.kind = .SNAPSHOT_PART)

/-- The most frames a transmit queue holds. -/
def queueSize : Nat := 64

/-- What becomes of a queue in which a frame other than a part is to be placed (R172). -/
inductive Placing where
  /-- there is room, or the oldest ALARM_NOTICE was dropped: the frame joins this queue -/
  | room (queue : List Frame)
  /-- the oldest ZONE_SUMMARY was dropped: the frame joins this queue, and the summary is pending -/
  | summaryDropped (queue : List Frame)
  /-- the frame itself is dropped -/
  | lost
  deriving DecidableEq, Repr

/-- R172: making room in a queue. The frame whose bytes are leaving holds its place, and is dropped where it is the oldest
of its kind (entry 71). -/
def placing (q : List Frame) : Placing :=
  if q.length < queueSize then .room q
  else if q.any Frame.isSummary then .summaryDropped (q.eraseP Frame.isSummary)
  else if q.any Frame.isNotice then .room (q.eraseP Frame.isNotice)
  else .lost

/-- The port's summary mask is not zero (R149). -/
def hasMask (s : State) (p : PortIx) : Bool := decide ((s.row p).summaryMask ≠ 0)

/-- R172: a dropped summary is pending on a port that is sent summaries, in both part states (entry 61); the pending
flag of a port whose mask is zero stands clear (R149, entry 36). -/
def pendSummary (p : PortIx) (s : State) : State :=
  if hasMask s p then s.setPacing p { s.ib.pacing[p] with pending := true } else s

/-- Place a RESULT, RUN_REPORT, ZONE_SUMMARY or ALARM_NOTICE in a port's transmit queue (R172). -/
def place (p : PortIx) (f : Frame) (s : State) : State :=
  match placing s.sp[p].queue with
  | .room q => s.modPort p fun t => { t with queue := q ++ [f] }
  | .summaryDropped q => pendSummary p (s.modPort p fun t => { t with queue := q ++ [f] })
  | .lost => s

/-- A waiting SNAPSHOT_PART joins the transmit queue when a place is free (R172). -/
def joinPart (p : PortIx) (s : State) : State :=
  match s.sp[p].part with
  | some f => if s.sp[p].queue.length < queueSize then
      s.modPort p fun t => { t with queue := t.queue ++ [f], part := none } else s
  | none => s

/-- IB hands a SNAPSHOT_PART to SP: it waits in the part place and joins the queue when a place is free (R172). -/
def handPart (p : PortIx) (f : Frame) (s : State) : State :=
  joinPart p (s.modPort p fun t => { t with part := some f })

/-! ### Order queue (R139) -/

/-- A new order replaces the pending order of its door in its place, or joins the end. -/
def queued (q : List PendingOrder) (o : PendingOrder) : List PendingOrder :=
  if q.any (fun x => decide (x.door = o.door)) then q.map fun x => if x.door = o.door then o else x else q ++ [o]

/-- Queue an order for a door (R139). -/
def queueOrder (d : DoorIx) (k : OrderKind) (s : State) : State :=
  { s with rc := { s.rc with orders := queued s.rc.orders ⟨d, k⟩ } }

/-- Queue an order where the rule gives one. -/
def queueOrder? (d : DoorIx) (k : Option OrderKind) (s : State) : State :=
  match k with
  | some k => queueOrder d k s
  | none => s

/-- A configuration write removes the door's pending order (R138). -/
def unqueueOrder (d : DoorIx) (s : State) : State :=
  { s with rc := { s.rc with orders := s.rc.orders.filter fun x => decide (x.door ≠ d) } }

/-! ### Ring sending (R129, R190) -/

/-- The ring kind code and payload of an order (11.3). -/
def OrderKind.wire : OrderKind → Byte × List Byte
  | .WARN => (2, [])
  | .MOVE dir warn => (3, [byteOf ((if dir = .OPEN then 1 else 0) + (if warn then 2 else 0))])
  | .STOP => (4, [])
  | .DENY => (5, [])

/-- Send one frame out of both ring ports under the next sequence number (R129); `dest` is 0 for LOOP. The frame is
added to the frames this step has sent. -/
def ringSend (dest : Byte) (kind : Byte) (payload : List Byte) (s : State) : State :=
  { s with rc := { s.rc with txSeq := s.rc.txSeq + 1 }
           pins := { s.pins with ringOut := s.pins.ringOut ++ [ringFrameBytes dest 0 kind s.rc.txSeq payload] } }

/-- A step that sends on the ring begins with no frame sent. -/
def ringQuiet (s : State) : State := { s with pins := { s.pins with ringOut := [] } }

/-- Send the order at the head of the queue to its door's node address; it leaves the queue (R140). -/
def sendHeadOrder (s : State) : State :=
  match s.rc.orders with
  | o :: rest =>
    ringSend (byteOf s.tables.doors[o.door].node) o.kind.wire.1 o.kind.wire.2
      { s with rc := { s.rc with orders := rest } }
  | [] => s

/-! ### Free choices -/

/-- Take the next free choice of `which`: the value and the state in which it has been taken. -/
def freeChoice (which : Nat → Bool) (s : State) : Bool × State :=
  (which s.freeCount, { s with freeCount := s.freeCount + 1 })

/-! ### Outcome of a command -/

/-- The outcome type of a command. -/
abbrev Outcome := Host.Outcome State Fault Refusal

/-- While RESET is asserted the part takes nothing (R186): only the pins and the start events act then. -/
def awake (f : State → State) (s : State) : Outcome := .next (if s.pins.reset then s else f s)

end Sys2Proof.Machine
end

