-- ==== Sys2Proof/Machine/Operands.lean ====
section
/-!
DEFINITION. The codes and record images of chapter 11: the bytes of every named value, the images a TABLE_WRITE
carries and a TABLE_READ returns, their refused and clamped fields (R3, R49, R86, sections 9.2 and 9.5), and the
stored image with its CRC-32 (R184, R194).
-/
namespace Sys2Proof.Machine

/-! ### Common codes (11.1) -/

/-- Code of a position. -/
def Position.code : Position → Nat
  | .UNKNOWN => 0 | .OPEN => 1 | .CLOSED => 2 | .CLOSING => 3 | .OPENING => 4 | .STOPPED => 5
/-- Code of a handle in the state view. -/
def Handle.code : Handle → Nat
  | .UNKNOWN => 0 | .IDLE => 1 | .OPEN => 2 | .CLOSE => 3
/-- Code of a fault latch. -/
def Latch.code : Latch → Nat
  | .NONE => 0 | .NOT_STARTED => 1 | .OVERTIME => 2 | .STALLED => 3 | .WRONG_WAY => 4
/-- Code of a direction. -/
def Direction.code : Direction → Nat
  | .CLOSE => 0 | .OPEN => 1
/-- Code of a phase. -/
def Phase.code : Phase → Nat
  | .WARNING => 0 | .READY => 1 | .MOVING => 2
/-- Code of a passage phase, 0 for no record. -/
def passageCode : Option PassagePhase → Nat
  | none => 0 | some .OPENING => 1 | some .HELD => 2 | some .RECLOSING => 3
/-- Code of a mode. -/
def Mode.code : Mode → Nat
  | .LOCAL => 0 | .CLOSED => 1 | .EMERGENCY => 2
/-- Code of an HPU state. -/
def HpuState.code : HpuState → Nat
  | .UNKNOWN => 0 | .READY => 1 | .FAILED => 2 | .LOST => 3
/-- Code of a group: 255 for ALL. -/
def GroupRef.code : GroupRef → Nat
  | .stored g => g.val | .ALL => 255
/-- Code of a compartment indication in a ZONE_SUMMARY; 5 is NOT_SHOWN (R192). -/
def Indication.code : Indication → Nat
  | .SEALED => 0 | .MOVING => 1 | .OPEN => 2 | .UNKNOWN => 3 | .NONE => 4
/-- Code of an alarm state. -/
def AlarmState.code : AlarmState → Nat
  | .ACTIVE_UNACK => 0 | .ACTIVE_ACKED => 1 | .CLEARED_UNACK => 2
/-- Code of an alarm kind. -/
def AlarmKind.code : AlarmKind → Nat
  | .DOOR_SILENT => 1 | .DOOR_SENSOR => 2 | .DOOR_FAULT => 3 | .TRAVEL_OVERTIME => 4 | .UNSUPERVISED_MOTION => 5
  | .PASSAGE_OVERDUE => 6 | .DOOR_OPEN_AT_SEA => 7 | .PRECONDITION_BYPASSED => 8 | .HPU_FAILED => 9 | .HPU_SILENT => 10
  | .ADMISSION_DELAY => 11 | .RING_OPEN => 12 | .STATION_SILENT => 13 | .BRIDGE_LOST => 14 | .EMERGENCY_LINE => 15
  | .STORE_INVALID => 16 | .LIST_FULL => 17
/-- The alarm kinds in the order of their codes. -/
def alarmKinds : List AlarmKind :=
  [.DOOR_SILENT, .DOOR_SENSOR, .DOOR_FAULT, .TRAVEL_OVERTIME, .UNSUPERVISED_MOTION, .PASSAGE_OVERDUE,
   .DOOR_OPEN_AT_SEA, .PRECONDITION_BYPASSED, .HPU_FAILED, .HPU_SILENT, .ADMISSION_DELAY, .RING_OPEN, .STATION_SILENT,
   .BRIDGE_LOST, .EMERGENCY_LINE, .STORE_INVALID, .LIST_FULL]
/-- The alarm kind of a code, none outside 1-17 (R191). -/
def alarmKindOf (code : Nat) : Option AlarmKind := alarmKinds.find? fun k => decide (k.code = code)
/-- The subject code of no subject. -/
def noSubject : Nat := 255

/-- Result codes (R171, 11.1). -/
inductive ResultCode where
  | DONE | OVERRULED | DOOR_FAULT | NOT_PERMITTED | UNKNOWN_TARGET | WRONG_MODE | BUSY | NO_ROOM | IN_FLIGHT
  | INVALID_VALUE | INVALID_REFERENCE | NOT_CONFIGURED
  deriving DecidableEq, Repr

/-- Code of a result. -/
def ResultCode.code : ResultCode → Nat
  | .DONE => 0 | .OVERRULED => 1 | .DOOR_FAULT => 2 | .NOT_PERMITTED => 3 | .UNKNOWN_TARGET => 4 | .WRONG_MODE => 5
  | .BUSY => 6 | .NO_ROOM => 7 | .IN_FLIGHT => 8 | .INVALID_VALUE => 9 | .INVALID_REFERENCE => 10 | .NOT_CONFIGURED => 11

/-- Kind code of an outgoing frame (R191). -/
def OutKind.code : OutKind → Nat
  | .RESULT => 129 | .RUN_REPORT => 130 | .ZONE_SUMMARY => 131 | .ALARM_NOTICE => 132 | .SNAPSHOT_PART => 133

/-- A byte of a flag. -/
def flagByte (b : Bool) : Byte := byteOf b.toNat

/-- Hold a value in a range (00_scope.md, clamped values). -/
def clampTo (lo hi n : Nat) : Nat := max lo (min n hi)

/-! ### Door configuration view (11.5, 1.2, R3) -/

/-- Image of a door record. -/
def DoorConfig.encode (c : DoorConfig) : List Byte :=
  [byteOf c.present, byteOf c.node, byteOf c.compA, byteOf c.compB, byteOf c.hpu] ++ be2 c.draw ++ be2 c.closeNominal
    ++ be2 c.openNominal ++ [byteOf c.tolerance, byteOf c.preWarn, byteOf c.doorClass] ++ be2 c.passageLimit

/-- The record of a door image. -/
def DoorConfig.decode (l : List Byte) : DoorConfig where
  present := byteAt l 0
  node := byteAt l 1
  compA := byteAt l 2
  compB := byteAt l 3
  hpu := byteAt l 4
  draw := wordAt l 5
  closeNominal := wordAt l 7
  openNominal := wordAt l 9
  tolerance := byteAt l 11
  preWarn := byteAt l 12
  doorClass := byteAt l 13
  passageLimit := wordAt l 14

/-- A node address outside 1-126. -/
def badNode (a : Nat) : Bool := decide (a < 1) || decide (126 < a)

/-- A field holds a value that a write refuses (1.2). -/
def DoorConfig.refused (c : DoorConfig) : Bool :=
  decide (1 < c.present) || badNode c.node || decide (31 < c.compA) || decide (31 < c.compB) || decide (c.compB = c.compA)
    || decide (7 < c.hpu) || decide (1 < c.doorClass)

/-- The clamped fields at the nearest ends of their ranges (1.2). -/
def DoorConfig.clamp (c : DoorConfig) : DoorConfig :=
  { c with draw := clampTo 1 1000 c.draw, closeNominal := clampTo 10 1500 c.closeNominal,
           openNominal := clampTo 10 1500 c.openNominal, tolerance := clampTo 0 100 c.tolerance,
           preWarn := clampTo 0 100 c.preWarn, passageLimit := clampTo 5 600 c.passageLimit }

/-! ### HPU configuration view (11.5, 3.5, R49) -/

/-- Image of an HPU record. -/
def HpuConfig.encode (c : HpuConfig) : List Byte :=
  [byteOf c.present, byteOf c.node] ++ be2 c.capacity ++ be2 c.reserve ++ be2 c.nominal

/-- The record of an HPU image. -/
def HpuConfig.decode (l : List Byte) : HpuConfig where
  present := byteAt l 0
  node := byteAt l 1
  capacity := wordAt l 2
  reserve := wordAt l 4
  nominal := wordAt l 6

/-- A field holds a value that a write refuses (3.5). -/
def HpuConfig.refused (c : HpuConfig) : Bool := decide (1 < c.present) || badNode c.node

/-- R49: capacity is clamped first, then the reserve against the clamped capacity. -/
def HpuConfig.clamp (c : HpuConfig) : HpuConfig :=
  let cap := clampTo 1 4000 c.capacity
  { c with capacity := cap, reserve := clampTo 0 cap c.reserve, nominal := clampTo 1 4000 c.nominal }

/-! ### Group record (11.5, 5.1, R86, R193) -/

/-- The `n` low bits of a number, most significant first. -/
def natBits (n x : Nat) : List Bool := (List.range n).map fun k => x.testBit (n - 1 - k)

/-- A number from its bits, most significant first. -/
def bitsNat (l : List Bool) : Nat := l.foldl (fun a b => 2 * a + b.toNat) 0

/-- Bits packed into bytes from bit 7 onward, the last byte filled with zero bits. -/
def packBits (l : List Bool) : List Byte :=
  (List.range ((l.length + 7) / 8)).map fun i => byteOf (bitsNat ((List.range 8).map fun k => l.getD (8 * i + k) false))

/-- The bits of bytes, bit 7 of the first byte first. -/
def unpackBits (l : List Byte) : List Bool := l.flatMap fun b => natBits 8 b.toNat

/-- The 14 bits of a list entry: the door in the first 7, the precondition door in the last 7. -/
def GroupEntry.bits (e : GroupEntry) : List Bool := natBits 7 e.door ++ natBits 7 e.pre

/-- The list entry at place `k` of the packed bits. -/
def GroupEntry.ofBits (bits : List Bool) (k : Nat) : GroupEntry :=
  ⟨bitsNat ((List.range 7).map fun i => bits.getD (14 * k + i) false),
   bitsNat ((List.range 7).map fun i => bits.getD (14 * k + 7 + i) false)⟩

/-- Image of a group record: 3 + ceil(14 × count / 8) bytes. -/
def GroupRec.encode (g : GroupRec) : List Byte :=
  [byteOf g.present, byteOf g.waitLimit, byteOf g.count] ++ packBits (g.entries.flatMap GroupEntry.bits)

/-- The record of a group image; the bits that fill its last byte are not read (entry 62). A place of the stored image
holds at most 32 entries whatever its count byte says (entry 41). -/
def GroupRec.decode (l : List Byte) : GroupRec where
  present := byteAt l 0
  waitLimit := byteAt l 1
  count := byteAt l 2
  entries := (List.range (min (byteAt l 2) 32)).map (GroupEntry.ofBits (unpackBits (l.drop 3)))

/-- A list entry whose door is 96-127, or whose precondition door is 96-126 (R193). -/
def GroupEntry.refused (e : GroupEntry) : Bool := decide (95 < e.door) || (decide (95 < e.pre) && decide (e.pre ≠ 127))

/-- A field holds a value that a write refuses (5.1, R86, R193). -/
def GroupRec.refused (g : GroupRec) : Bool :=
  decide (1 < g.present) || decide (32 < g.count) || g.entries.any GroupEntry.refused
    || (decide (g.present = 1) && decide (g.count = 0))

/-- The wait limit is 1-255 s (R86). -/
def GroupRec.clamp (g : GroupRec) : GroupRec := { g with waitLimit := clampTo 1 255 g.waitLimit }

/-! ### Permit-row configuration view (11.5, 9.2) -/

/-- Image of a permit row. -/
def PermitRow.encode (r : PermitRow) : List Byte :=
  [byteOf r.role, byteOf r.sourceGroup, byteOf r.maxClass] ++ be3 r.groupMask.toNat ++ be4 r.summaryMask.toNat
    ++ [byteOf r.notices.toNat, byteOf r.hbRequired]

/-- The row of an image; bits 7-5 of the notice enables are stored as zero (R193). -/
def PermitRow.decode (l : List Byte) : PermitRow where
  role := byteAt l 0
  sourceGroup := byteAt l 1
  maxClass := byteAt l 2
  groupMask := BitVec.ofNat 24 (65536 * byteAt l 3 + wordAt l 4)
  summaryMask := BitVec.ofNat 32 (65536 * wordAt l 6 + wordAt l 8)
  notices := BitVec.ofNat 5 (byteAt l 10)
  hbRequired := byteAt l 11

/-- A field holds a value that a write refuses (9.2). -/
def PermitRow.refused (r : PermitRow) : Bool :=
  decide (4 < r.role) || decide (1 < r.sourceGroup) || decide (1 < r.hbRequired)

/-- The max class is 0-3 (9.2). -/
def PermitRow.clamp (r : PermitRow) : PermitRow := { r with maxClass := clampTo 0 3 r.maxClass }

/-! ### System record (11.5, 9.5, R173) -/

/-- Image of the system record. -/
def SystemRecord.encode (r : SystemRecord) : List Byte :=
  [byteOf r.startMode, byteOf r.orderCode, byteOf r.directLane, byteOf r.lookAhead, byteOf r.waitLimit, byteOf r.hbMin]
    ++ be2 r.hbMax ++ [byteOf r.lossAction]

/-- The system record of an image. -/
def SystemRecord.decode (l : List Byte) : SystemRecord where
  startMode := byteAt l 0
  orderCode := byteAt l 1
  directLane := byteAt l 2
  lookAhead := byteAt l 3
  waitLimit := byteAt l 4
  hbMin := byteAt l 5
  hbMax := wordAt l 6
  lossAction := byteAt l 8

/-- A field holds a value that a write refuses (9.5). -/
def SystemRecord.refused (r : SystemRecord) : Bool :=
  decide (1 < r.startMode) || decide (r.orderCode < 1) || decide (6 < r.orderCode) || decide (3 < r.directLane)
    || decide (1 < r.lossAction)

/-- R173 step 4: the window maximum first, then the minimum; a minimum not below the maximum becomes the maximum
less 1. -/
def SystemRecord.clamp (r : SystemRecord) : SystemRecord :=
  let top := clampTo 10 600 r.hbMax
  let low := clampTo 2 50 r.hbMin
  { r with lookAhead := clampTo 0 3 r.lookAhead, waitLimit := clampTo 10 255 r.waitLimit,
           hbMin := if low < top then low else top - 1, hbMax := top }

/-! ### State views (11.5) -/

/-- Door state view, 19 bytes. -/
def doorStateView (s : State) (d : DoorIx) : List Byte :=
  let r := s.rc.reported[d]
  let m := s.ms.doors[d]
  let x := s.mc.sea[d]
  [byteOf r.position.code, byteOf r.handle.code,
   byteOf (r.lowPressure.toNat + 2 * r.sensorFault.toNat + 4 * r.lost.toNat + 8 * (s.lastSequence d).isNone.toNat
     + 16 * m.closeFresh.toNat + 32 * m.openFresh.toNat),
   byteOf r.misses, (s.lastSequence d).getD 0, byteOf m.latch.code]
    ++ be2 m.lastClose ++ be2 m.priorClose ++ be2 m.lastOpen ++ be2 m.priorOpen
    ++ [byteOf m.overrun] ++ be2 x.openAtSea ++ [byteOf x.denied, 0]

/-- HPU state view, 11 bytes. -/
def hpuStateView (s : State) (h : HpuIx) : List Byte :=
  let r := s.rc.hpus[h]
  let f := s.cs.flow[h]
  [byteOf r.state.code] ++ be2 r.pressure ++ be2 r.age ++ be3 f.committed ++ be2 f.capacityE ++ [flagByte f.delayAlarm]

/-- Permit-row state view, 4 bytes. -/
def permitStateView (s : State) (p : PortIx) : List Byte :=
  be2 s.sp[p].hbElapsed ++ [flagByte s.sp[p].silent, byteOf s.sp[p].early]

/-- Alarm record, 8 bytes. -/
def AlarmRecord.encode (r : AlarmRecord) : List Byte :=
  [byteOf r.kind.code, byteOf r.subject, byteOf r.state.code] ++ be4 r.raised.toNat ++ [byteOf r.count]

/-- A line of a SNAPSHOT_PART, 3 bytes (R192). -/
def SnapLine.encode (l : SnapLine) : List Byte :=
  let e : Nat := match l.entry with
    | some (dir, cls, ph) => 128 + 64 * dir.code + 16 * cls + 4 * ph.code
    | none => 0
  [byteOf l.door.val, byteOf (l.position.code + 8 * l.latch.code + 128 * l.lost.toNat),
   byteOf (e + passageCode l.passage)]

/-! ### The stored image (R184, R194) -/

/-- One bit of the CRC-32: generator 0x04C11DB7. -/
def crc32Bit (c : BitVec 32) (bit : Bool) : BitVec 32 :=
  if c.msb != bit then (c <<< 1) ^^^ 0x04C11DB7#32 else c <<< 1

/-- One byte of the CRC-32, least significant bit first. -/
def crc32Byte (c : BitVec 32) (b : Byte) : BitVec 32 := (List.range 8).foldl (fun c i => crc32Bit c (b.getLsbD i)) c

/-- R184: initial value all ones, the result inverted (entry 18). -/
def crc32 (l : List Byte) : BitVec 32 := ~~~ l.foldl crc32Byte 0xFFFFFFFF#32

/-- A group's fixed place of 59 bytes: its image, then zeros (R194). -/
def GroupRec.place59 (g : GroupRec) : List Byte := (g.encode ++ List.replicate 59 0).take 59

/-- The contents of the image, 3121 bytes, in the order of R184. -/
def Tables.encode (t : Tables) : List Byte :=
  t.doors.toList.flatMap DoorConfig.encode ++ t.hpus.toList.flatMap HpuConfig.encode
    ++ t.groups.toList.flatMap GroupRec.place59 ++ t.permits.toList.flatMap PermitRow.encode ++ t.system.encode

/-- The image with its CRC-32, high byte first. -/
def Tables.image (t : Tables) : List Byte := t.encode ++ be4 (crc32 t.encode).toNat

/-- Bytes `off` to `off + len - 1`. -/
def slice (l : List Byte) (off len : Nat) : List Byte := (l.drop off).take len

/-- R194: the tables of an image; a refused code is taken as written, a clamped field is held in its range. -/
def Tables.decode (l : List Byte) : Tables where
  doors := Vector.ofFn fun i : DoorIx => (DoorConfig.decode (slice l (16 * i.val) 16)).clamp
  hpus := Vector.ofFn fun i : HpuIx => (HpuConfig.decode (slice l (1536 + 8 * i.val) 8)).clamp
  groups := Vector.ofFn fun i : GroupIx => (GroupRec.decode (slice l (1600 + 59 * i.val) 59)).clamp
  permits := Vector.ofFn fun i : PortIx => (PermitRow.decode (slice l (3016 + 12 * i.val) 12)).clamp
  system := (SystemRecord.decode (slice l 3112 9)).clamp

/-- The tables of a stored image whose CRC-32 matches its contents; none where the image is bad (R184). -/
def loadImage (l : List Byte) : Option Tables :=
  if l.length = 3125 ∧ l.drop 3121 = be4 (crc32 (l.take 3121)).toNat then some (Tables.decode (l.take 3121)) else none

end Sys2Proof.Machine
end

