-- ==== Sys2Proof/Machine/Flags.lean ====
section
/-!
DEFINITION. The conditions and figures the rules compute from the state: positions and indications, effective
capacity and admission limits, the order of the schedule, deadlines, arbitration, the alarm count, bridge loss. Each
is a function of the state and changes nothing.
-/
namespace Sys2Proof.Machine

/-! ### Positions (R6, R7, 1.3) -/

/-- A sensor contradiction: both limits set, or the sensor fault flag (R7). -/
def contradiction (r : ReportBits) : Bool := (r.closedLimit && r.openLimit) || r.sensorFault

/-- R6: the position a REPORT shows. -/
def reportPosition (r : ReportBits) : Position :=
  if contradiction r then .UNKNOWN
  else match r.closedLimit, r.openLimit, r.motion with
    | true, _, .NONE => .CLOSED
    | true, _, .CLOSING => .CLOSED
    | true, _, .OPENING => .OPENING
    | false, true, .NONE => .OPEN
    | false, true, .OPENING => .OPEN
    | false, true, .CLOSING => .CLOSING
    | false, false, .CLOSING => .CLOSING
    | false, false, .OPENING => .OPENING
    | false, false, .NONE => .STOPPED

/-- The handle a frame reports. -/
def reportedHandle : HandleCode → Handle
  | .IDLE => .IDLE
  | .OPEN => .OPEN
  | .CLOSE => .CLOSE

/-- The target position of a direction (R19). -/
def Direction.target : Direction → Position
  | .CLOSE => .CLOSED
  | .OPEN => .OPEN

/-- The other direction. -/
def Direction.opposite : Direction → Direction
  | .CLOSE => .OPEN
  | .OPEN => .CLOSE

/-- The own moving state of a direction (R68). -/
def Direction.moving : Direction → Position
  | .CLOSE => .CLOSING
  | .OPEN => .OPENING

/-- A settled position: CLOSED or OPEN (1.3). -/
def Position.settled (p : Position) : Bool := decide (p = .CLOSED) || decide (p = .OPEN)

/-- The direction of a moving position, none for every other. -/
def Position.motionDirection : Position → Option Direction
  | .CLOSING => some .CLOSE
  | .OPENING => some .OPEN
  | _ => none

/-! ### Indications (R10, R146, R147) -/

/-- R10: the indication of a door, in the names of the compartment indications it gives (R146). -/
def Position.indication : Position → Indication
  | .CLOSED => .SEALED
  | .CLOSING | .OPENING => .MOVING
  | .OPEN | .STOPPED => .OPEN
  | .UNKNOWN => .UNKNOWN

/-- Severity of an indication (R146); NONE stands below all. -/
def Indication.severity : Indication → Nat
  | .NONE => 0 | .SEALED => 1 | .MOVING => 2 | .OPEN => 3 | .UNKNOWN => 4

/-- The more severe of two indications. -/
def worse (a b : Indication) : Indication := if a.severity < b.severity then b else a

/-- A door bounds a compartment (R146). -/
def bounds (s : State) (c : CompIx) (d : DoorIx) : Bool :=
  decide (s.tables.doors[d].compA = c.val) || decide (s.tables.doors[d].compB = c.val)

/-- R146: the most severe indication of the present doors that bound the compartment, NONE where there is none. -/
def compIndication (s : State) (c : CompIx) : Indication :=
  ((s.presentDoors.filter (bounds s c)).map fun d => (s.position d).indication).foldl worse .NONE

/-- R147: at least one door is present and every present door stands CLOSED. -/
def everyDoorClosed (s : State) : Bool :=
  !s.presentDoors.isEmpty && s.presentDoors.all fun d => decide (s.position d = .CLOSED)

/-- R148: how many present doors show an indication. -/
def countShowing (s : State) (i : Indication) : Nat :=
  (s.presentDoors.filter fun d => decide ((s.position d).indication = i)).length

/-! ### Capacity and admission (R51, R53, R60) -/

/-- R51: E from the state of the unit. -/
def capacityFor (state : HpuState) (c p pn : Nat) : Nat :=
  match state with
  | .READY => c * min p pn / pn
  | .FAILED => 0
  | .UNKNOWN | .LOST => c / 4

/-- The effective capacity of an HPU as it stands; 0 for one that is not present (R50, R51). -/
def effectiveCapacity (s : State) (h : HpuIx) : Nat :=
  if s.hpuPresent h then
    capacityFor s.rc.hpus[h].state s.tables.hpus[h].capacity s.rc.hpus[h].pressure s.tables.hpus[h].nominal
  else 0

/-- The class is the direct-lane class of the system record; NONE is code 0, and class 0 is never the direct lane
(R53). -/
def isDirectLane (s : State) (cls : Nat) : Bool := decide (cls ≠ 0) && decide (s.tables.system.directLane = cls)

/-- R53: the admission limit L of an HPU for a class. -/
def admissionLimit (s : State) (h : HpuIx) (cls : Nat) : Nat :=
  let e := s.cs.flow[h].capacityE
  let r := s.tables.hpus[h].reserve
  if isDirectLane s cls then e else if r < e then e - r else 0

/-- F + d ≤ L (R53). -/
def fits (s : State) (h : HpuIx) (cls draw : Nat) : Bool :=
  decide (s.cs.flow[h].committed + draw ≤ admissionLimit s h cls)

/-- The door's entry, if any, is on the HPU and in the phase. -/
def entryIn (s : State) (h : HpuIx) (ph : Phase) (d : DoorIx) : Bool :=
  match s.entry d with
  | some e => decide (e.phase = ph) && decide (s.hpuOf d = h)
  | none => false

/-- R60: the door has a READY entry on the HPU whose ready age is past the admission wait limit. -/
def waitsTooLong (s : State) (h : HpuIx) (d : DoorIx) : Bool :=
  match s.entry d with
  | some e => decide (e.phase = .READY) && decide (s.hpuOf d = h) && decide (10 * s.tables.system.waitLimit < e.readyAge)
  | none => false

/-- R60: some READY entry on the HPU has waited past the limit. -/
def admissionDelayed (s : State) (h : HpuIx) : Bool := allDoors.any (waitsTooLong s h)

/-! ### Order of the schedule (R39) -/

/-- R39: higher class first, then the lower arrival number. -/
def Entry.before (a b : Entry) : Bool :=
  decide (b.cls < a.cls) || (decide (a.cls = b.cls) && decide (a.arrival < b.arrival))

/-- The order of two doors by their entries; a door without an entry stands last. -/
def schedBefore (s : State) (a b : DoorIx) : Bool :=
  match s.entry a, s.entry b with
  | some x, some y => x.before y
  | some _, none => true
  | none, _ => false

/-- Insert a door in schedule order. -/
def insertDoor (s : State) (d : DoorIx) : List DoorIx → List DoorIx
  | [] => [d]
  | x :: rest => if schedBefore s d x then d :: x :: rest else x :: insertDoor s d rest

/-- Doors in schedule order. -/
def inScheduleOrder (s : State) (l : List DoorIx) : List DoorIx := l.foldr (insertDoor s) []

/-- The doors with an entry, in schedule order (R39). -/
def schedule (s : State) : List DoorIx := inScheduleOrder s (allDoors.filter fun d => (s.entry d).isSome)

/-- The READY entries on an HPU in schedule order (R56). -/
def readyOn (s : State) (h : HpuIx) : List DoorIx := inScheduleOrder s (allDoors.filter (entryIn s h .READY))

/-! ### Deadline and hard limit (R66, R67) -/

/-- The nominal of a direction (R66). -/
def nominalOf (c : DoorConfig) : Direction → Nat
  | .CLOSE => c.closeNominal
  | .OPEN => c.openNominal

/-- R67: D = ceil(N × (100 + tol) / 100). -/
def deadlineOf (n tol : Nat) : Nat := (n * (100 + tol) + 99) / 100

/-- R67: H = min(2 × D, 4095). -/
def hardLimitOf (d : Nat) : Nat := min (2 * d) 4095

/-! ### Arbitration (R28, R29) -/

/-- Place of a source group in the order an arbitration order code selects (R29). No rule reads another code, and
then no group stands before another. -/
def groupRank (code : Nat) (g : SourceGroup) : Nat :=
  match code, g with
  | 1, .A => 0 | 1, .B => 1 | 1, .C => 2
  | 2, .A => 0 | 2, .C => 1 | 2, .B => 2
  | 3, .B => 0 | 3, .A => 1 | 3, .C => 2
  | 4, .B => 0 | 4, .C => 1 | 4, .A => 2
  | 5, .C => 0 | 5, .A => 1 | 5, .B => 2
  | 6, .C => 0 | 6, .B => 1 | 6, .A => 2
  | _, _ => 0

/-- R29: a demand's class and group beat a claim's. -/
def beats (code cls : Nat) (g : SourceGroup) (claimCls : Nat) (claimGroup : SourceGroup) : Bool :=
  decide (claimCls < cls) || (decide (cls = claimCls) && decide (groupRank code g < groupRank code claimGroup))

/-- R28: the class at which a passage claims, by the mode standing. -/
def passageClass (m : Mode) : Nat := if m = .EMERGENCY then 3 else 2

/-- R28: the door's passage record claims OPEN: it stands in OPENING or HELD. -/
def passageClaims (s : State) (d : DoorIx) : Bool :=
  match s.passage d with
  | some x => decide (x.phase ≠ .RECLOSING)
  | none => false

/-! ### Alarm list (R153, R157, R161) -/

/-- A record in state ACTIVE_UNACK or CLEARED_UNACK. -/
def AlarmRecord.unacked (r : AlarmRecord) : Bool := decide (r.state ≠ .ACTIVE_ACKED)

/-- R153: the unacknowledged count of a list. -/
def unackCount (l : List AlarmRecord) : Nat := (l.filter AlarmRecord.unacked).length

/-- The record of a kind and a subject. -/
def AlarmRecord.isFor (k : AlarmKind) (x : Nat) (r : AlarmRecord) : Bool :=
  decide (r.kind = k) && decide (r.subject = x)

/-- R157: the records other than LIST_FULL. -/
def otherCount (l : List AlarmRecord) : Nat := (l.filter fun r => decide (r.kind ≠ .LIST_FULL)).length

/-- Notice category of a kind as its bit in the notice enables (8.5, 9.2). -/
def AlarmKind.category : AlarmKind → Nat
  | .DOOR_SILENT | .DOOR_SENSOR | .DOOR_FAULT | .TRAVEL_OVERTIME | .UNSUPERVISED_MOTION | .PASSAGE_OVERDUE
  | .DOOR_OPEN_AT_SEA | .PRECONDITION_BYPASSED => 0
  | .HPU_FAILED | .HPU_SILENT | .ADMISSION_DELAY => 1
  | .RING_OPEN => 2
  | .STATION_SILENT => 3
  | .BRIDGE_LOST | .EMERGENCY_LINE | .STORE_INVALID | .LIST_FULL => 4

/-! ### Roles and bridge loss (R126, R166, R169) -/

/-- Roles by their codes (11.5). -/
inductive Role where
  | NONE | BRIDGE | SAFETY | ENGINE | SERVICE
  deriving DecidableEq, Repr

/-- The role of a code; a code that names nothing, which no part in service holds, gives no role's rights. -/
def roleOf : Nat → Role
  | 1 => .BRIDGE
  | 2 => .SAFETY
  | 3 => .ENGINE
  | 4 => .SERVICE
  | _ => .NONE

/-- The row's role. -/
def State.roleAt (s : State) (p : PortIx) : Role := roleOf (s.row p).role

/-- The role a port's command is decided under: every port counts as SERVICE while UNCONFIGURED (R168). -/
def State.commandRole (s : State) (p : PortIx) : Role := if s.inService then s.roleAt p else .SERVICE

/-- The source group of a row: A or B (9.2). -/
def State.rowGroup (s : State) (p : PortIx) : SourceGroup := if (s.row p).sourceGroup = 1 then .B else .A

/-- A row that counts for bridge loss: role BRIDGE and heartbeat required (R126). -/
def countsForBridge (s : State) (p : PortIx) : Bool :=
  decide (s.roleAt p = .BRIDGE) && decide ((s.row p).hbRequired = 1)

/-- R126: at least one row counts, and every such row has its silent flag set. -/
def bridgeSilent (s : State) : Bool :=
  allPorts.any (countsForBridge s) && allPorts.all fun p => !countsForBridge s p || s.sp[p].silent

end Sys2Proof.Machine
end

