-- ==== Sys2Proof/Machine/Alarms.lean ====
section
/-!
DEFINITION. The Alarm List (chapter 8, 8.4): raising and clearing conditions, raising events, acknowledging, the
place kept for LIST_FULL, the ALARM line and the notices to the stations.
-/
namespace Sys2Proof.Machine

/-- What a notice says of the change (R162). -/
inductive Change where
  | CREATED | UPDATED | REMOVED
  deriving DecidableEq, Repr

/-- Code of a change (R192). -/
def Change.code : Change → Nat
  | .CREATED => 0 | .UPDATED => 1 | .REMOVED => 2

/-- R192: the ALARM_NOTICE of a change, with the unacknowledged count after it. -/
def noticeFrame (c : Change) (r : AlarmRecord) (unack : Nat) : Frame :=
  ⟨.ALARM_NOTICE, [byteOf r.kind.code, byteOf r.subject, byteOf c.code]
    ++ (if c = .REMOVED then [0, 0, 0, 0, 0, 0] else [byteOf r.state.code] ++ be4 r.raised.toNat ++ [byteOf r.count])
    ++ [byteOf unack]⟩

/-- R162: the row's notice enables include the category of the kind. -/
def wantsNotice (s : State) (k : AlarmKind) (p : PortIx) : Bool := (s.row p).notices.getLsbD k.category

/-- R162: the notice of a change goes to every station port whose enables include the category. -/
def notify (c : Change) (r : AlarmRecord) (s : State) : State :=
  forEach (allPorts.filter (wantsNotice s r.kind)) (fun p => place p (noticeFrame c r (unackCount s.al.records))) s

/-- Write the list; the ALARM line follows the unacknowledged count (R161). -/
def setRecords (l : List AlarmRecord) (s : State) : State :=
  { s with al := { s.al with records := l, line := decide (0 < unackCount l) } }

/-- The record of a kind and a subject, if one stands. -/
def findRecord (k : AlarmKind) (x : Nat) (s : State) : Option AlarmRecord := s.al.records.find? (AlarmRecord.isFor k x)

/-- Write a changed record in its place and give the notice. -/
def updateRecord (r : AlarmRecord) (s : State) : State :=
  notify .UPDATED r (setRecords (s.al.records.map fun q => if q.isFor r.kind r.subject then r else q) s)

/-- R153: a new record stands at the end, before LIST_FULL; LIST_FULL stands last. -/
def inserted (l : List AlarmRecord) (r : AlarmRecord) : List AlarmRecord :=
  if r.kind = .LIST_FULL then l ++ [r]
  else l.filter (fun q => decide (q.kind ≠ .LIST_FULL)) ++ [r] ++ l.filter (fun q => decide (q.kind = .LIST_FULL))

/-- Create a record (R153, R154, R156). -/
def createRecord (k : AlarmKind) (x : Nat) (st : AlarmState) (s : State) : State :=
  let r : AlarmRecord := ⟨k, x, st, s.seconds, 1⟩
  notify .CREATED r (setRecords (inserted s.al.records r) s)

/-- R154 for a record that stands: CLEARED_UNACK becomes ACTIVE_UNACK with its count incremented, an ACTIVE record
is left as it is. -/
def reraise (r : AlarmRecord) (s : State) : State :=
  if r.state = .CLEARED_UNACK then updateRecord { r with state := .ACTIVE_UNACK, count := satInc 255 r.count } s else s

/-- R157: the raise of LIST_FULL, whose place is kept for it. -/
def raiseListFull (s : State) : State :=
  match findRecord .LIST_FULL noSubject s with
  | some r => reraise r s
  | none => createRecord .LIST_FULL noSubject .ACTIVE_UNACK s

/-- R157: a raise that finds no room is lost. -/
def loseRaise (s : State) : State :=
  raiseListFull { s with al := { s.al with lost := satInc 65535 s.al.lost } }

/-- The places kept for records of every kind but LIST_FULL (R157). -/
def otherPlaces : Nat := 63

/-- A block raises a condition (R154, R157). -/
def raiseAlarm (k : AlarmKind) (x : Nat) (s : State) : State :=
  match findRecord k x s with
  | some r => reraise r s
  | none => if otherCount s.al.records < otherPlaces then createRecord k x .ACTIVE_UNACK s else loseRaise s

/-- A block raises an event (R156, R157). At a count of 255 nothing changes and no notice is given (R162). -/
def raiseEvent (k : AlarmKind) (x : Nat) (s : State) : State :=
  match findRecord k x s with
  | some r =>
    if r.state = .CLEARED_UNACK ∧ r.count < 255 then updateRecord { r with count := r.count + 1 } s else s
  | none => if otherCount s.al.records < otherPlaces then createRecord k x .CLEARED_UNACK s else loseRaise s

/-- R160: AL tells MS of the removal of a DOOR_FAULT record, and the door's latch returns to NONE (R12). -/
def onRemoval (r : AlarmRecord) (s : State) : State :=
  if r.kind = .DOOR_FAULT then
    match ix? 96 r.subject with
    | some d => s.modSup d fun m => { m with latch := .NONE }
    | none => s
  else s

/-- Take a record out of the list, give the notice and tell the raising block. -/
def dropRecord (r : AlarmRecord) (s : State) : State :=
  onRemoval r (notify .REMOVED r (setRecords (s.al.records.filter fun q => !q.isFor r.kind r.subject) s))

/-- R155 for a record that stands. -/
def clearRecord (r : AlarmRecord) (s : State) : State :=
  match r.state with
  | .ACTIVE_UNACK => updateRecord { r with state := .CLEARED_UNACK } s
  | .ACTIVE_ACKED => dropRecord r s
  | .CLEARED_UNACK => s

/-- The LIST_FULL condition clears at this many other records or fewer (R158). -/
def listFullClears : Nat := 48

/-- R158: tested at each removal of a record; the condition stands while its record is ACTIVE. -/
def testListFull (s : State) : State :=
  match findRecord .LIST_FULL noSubject s with
  | some r => if r.state ≠ .CLEARED_UNACK ∧ otherCount s.al.records ≤ listFullClears then clearRecord r s else s
  | none => s

/-- Remove a record, then make the test of R158. -/
def removeRecord (r : AlarmRecord) (s : State) : State := testListFull (dropRecord r s)

/-- A block clears a condition (R155, R158). -/
def clearAlarm (k : AlarmKind) (x : Nat) (s : State) : State :=
  match findRecord k x s with
  | some r => if r.state = .ACTIVE_ACKED then removeRecord r s else clearRecord r s
  | none => s

/-- Acknowledge a record (R159). -/
def ackRecord (r : AlarmRecord) (s : State) : State :=
  match r.state with
  | .ACTIVE_UNACK => updateRecord { r with state := .ACTIVE_ACKED } s
  | .ACTIVE_ACKED => s
  | .CLEARED_UNACK => removeRecord r s

/-- Acknowledge the record of a kind and a subject as it stands, if it still stands (R159). -/
def ackNamed (k : AlarmKind) (x : Nat) (s : State) : State :=
  match findRecord k x s with
  | some r => ackRecord r s
  | none => s

/-- R159: ALARM_ACK naming ALL acknowledges every record standing when it is taken, in list order. -/
def ackAll (s : State) : State := forEach s.al.records (fun r => ackNamed r.kind r.subject) s

/-- Raise a condition whose subject is a door. -/
def raiseDoor (k : AlarmKind) (d : DoorIx) : State → State := raiseAlarm k d.val
/-- Clear a condition whose subject is a door. -/
def clearDoor (k : AlarmKind) (d : DoorIx) : State → State := clearAlarm k d.val

end Sys2Proof.Machine
end

