-- ==== Sys2Proof/Machine/Indication.lean ====
section
/-!
DEFINITION. The Indication Builder (chapter 8, 8.1 to 8.3): compartment indications and the ALL CLOSED line,
ZONE_SUMMARY and its pacing, the snapshot.
-/
namespace Sys2Proof.Machine

/-! ### ZONE_SUMMARY (R148 to R150, R192) -/

/-- The port's summary mask includes the compartment. -/
def watches (s : State) (p : PortIx) (c : CompIx) : Bool := (s.row p).summaryMask.getLsbD c.val

/-- Code of a compartment in a summary to a port: 5 is NOT_SHOWN (R148, R192). -/
def summaryCode (s : State) (p : PortIx) (c : CompIx) : Nat := if watches s p c then s.ib.comps[c].code else 5

/-- R192: byte `m` of the compartment indications, compartment 2m in bits 7-4 and 2m + 1 in bits 3-0. -/
def summaryByte (s : State) (p : PortIx) (m : Fin 16) : Byte :=
  byteOf (16 * summaryCode s p ⟨2 * m.val, by omega⟩ + summaryCode s p ⟨2 * m.val + 1, by omega⟩)

/-- R148, R192: the ZONE_SUMMARY of a port, read as it is built. -/
def zoneSummary (s : State) (p : PortIx) : Frame :=
  ⟨.ZONE_SUMMARY, (List.finRange 16).map (summaryByte s p)
    ++ [byteOf (countShowing s .SEALED), byteOf (countShowing s .MOVING), byteOf (countShowing s .OPEN),
        byteOf (countShowing s .UNKNOWN), byteOf s.mc.mode.code, byteOf (unackCount s.al.records)]⟩

/-- The placing of a frame on the port would drop an older ZONE_SUMMARY (R172). -/
def dropsSummary (s : State) (p : PortIx) : Bool :=
  match placing s.sp[p].queue with
  | .summaryDropped _ => true
  | .room _ | .lost => false

/-- R149: a ZONE_SUMMARY is sent to the port, its summary elapsed is 0 and its pending flag clear; so too where step 3
of R172 drops the summary itself (entry 67). Where the placing dropped an older summary, whether the flag then stands set
is left open (entry 4). -/
def sendSummary (p : PortIx) (s : State) : State :=
  let t := place p (zoneSummary s p) s
  if dropsSummary s p then
    let (pend, u) := freeChoice Config.pendingAfterDrop t
    u.setPacing p ⟨0, pend⟩
  else t.setPacing p ⟨0, false⟩

/-- The least summary elapsed at which a change is sent at once, in ticks (R149). -/
def summaryHold : Nat := 5
/-- The summary elapsed at which a summary is sent whatever has changed, in ticks (R149). -/
def summaryPeriod : Nat := 20

/-- R149: a change of indication of a compartment the port watches. -/
def pacingChange (p : PortIx) (s : State) : State :=
  if s.ib.pacing[p].elapsed < summaryHold then s.setPacing p { s.ib.pacing[p] with pending := true } else sendSummary p s

/-- R150: at an entry into IN_SERVICE every port with a non-zero mask is sent a ZONE_SUMMARY. -/
def sendSummaries (s : State) : State := forEach (allPorts.filter (hasMask s)) sendSummary s

/-- Every port's pacing state at elapsed 0, pending clear (R150, R164). -/
def clearPacing (s : State) : State := { s with ib := { s.ib with pacing := Vector.replicate 8 ⟨0, false⟩ } }

/-! ### Compartments and the ALL CLOSED line (R146, R147) -/

/-- The compartments of a list whose indication would change. -/
def changedComps (s : State) (l : List CompIx) : List CompIx :=
  l.filter fun c => decide (compIndication s c ≠ s.ib.comps[c])

/-- Write the indications of the compartments of a list, and the ALL CLOSED line. -/
def writeComps (l : List CompIx) (s : State) : State :=
  { s with ib := { s.ib with comps := updAll s.ib.comps (fun c old => if l.contains c then compIndication s c else old)
                             allClosed := everyDoorClosed s } }

/-- R146, R147, R149: recompute compartments; a change is handed to the pacing of every port that watches a changed
compartment, once (entry 63), while the part is IN_SERVICE. -/
def recomputeComps (l : List CompIx) (s : State) : State :=
  let changed := changedComps s l
  let t := writeComps l s
  if t.inService then forEach (allPorts.filter fun p => changed.any (watches t p)) pacingChange t else t

/-- The compartments with these codes. -/
def compsOf (codes : List Nat) : List CompIx := allComps.filter fun c => codes.contains c.val

/-- Recompute the two compartments of a door (R146). -/
def recomputeDoor (d : DoorIx) (s : State) : State :=
  recomputeComps (compsOf [s.tables.doors[d].compA, s.tables.doors[d].compB]) s

/-- R164: every compartment from the positions as they stand, and the ALL CLOSED line released. -/
def recomputeReleased (s : State) : State :=
  let t := writeComps allComps s
  { t with ib := { t.ib with allClosed := false } }

/-! ### The snapshot (R151, R152, R192) -/

/-- R151: the line of a door as its state stands. -/
def snapLine (s : State) (d : DoorIx) : SnapLine :=
  ⟨d, s.position d, (s.entry d).map fun e => (e.direction, e.cls, e.phase), s.latch d, (s.passage d).map Passage.phase,
   s.rc.reported[d].lost⟩

/-- Lines in one part. -/
def linesPerPart : Nat := 16

/-- R152, R192: SNAPSHOT_PART `k` of `n`, with the lines of the buffer that exist. -/
def snapshotPart (s : State) (n k : Nat) : Frame :=
  ⟨.SNAPSHOT_PART, [s.ib.snapNumber, byteOf k, byteOf n]
    ++ ((s.ib.buffer.drop ((k - 1) * linesPerPart)).take linesPerPart).flatMap SnapLine.encode⟩

/-- Write the sending state. -/
def setSending (x : Option Sending) (s : State) : State := { s with ib := { s.ib with sending := x } }

/-- R152: hand part `k` to SP. -/
def handOn (x : Sending) (s : State) : State := handPart x.port (snapshotPart s x.n x.k) (setSending (some x) s)

/-- R151: latch the snapshot of the present doors under the next number. -/
def latchSnapshot (s : State) : State :=
  { s with ib := { s.ib with snapNumber := s.ib.snapNumber + 1, buffer := s.presentDoors.map (snapLine s) } }

/-- R151: the part count of a snapshot of the doors present. -/
def partCount (s : State) : Nat := (s.presentDoors.length + (linesPerPart - 1)) / linesPerPart

/-- R152: SP reports that a part has left the port. A report of a part of an abandoned snapshot changes no count, and
part 1 of the new one is handed on. -/
def partSent (p : PortIx) (s : State) : State :=
  match s.ib.sending with
  | some x =>
    if x.port ≠ p then s
    else if x.stale then handOn { x with stale := false } s
    else if x.n < x.k + 1 then setSending none s
    else handOn { x with k := x.k + 1 } s
  | none => s

end Sys2Proof.Machine
end

