-- ==== Sys2Proof/Machine/Completion.lean ====
section
/-!
DEFINITION. Group runs as CS reports to them (5.2, 5.5, 5.6): the slots and the stack, RUN_REPORT, the reports of tags, and
completion and resume, which are taken at the report that brings a run's outstanding to 0.
-/
namespace Sys2Proof.Machine

/-! ### The slots and the stack (R88, R91) -/

/-- All five slots, station slots first. -/
def allSlots : List SlotIx := List.finRange 5

/-- Write a slot. -/
def setSlot (i : SlotIx) (x : Option Run) (s : State) : State :=
  { s with gru := { s.gru with slots := put s.gru.slots i x } }

/-- Write the slotting order. -/
def setSlotting (l : List SlotIx) (s : State) : State := { s with gru := { s.gru with slotting := l } }

/-- Write the suspension stack. -/
def setStack (l : List Run) (s : State) : State := { s with gru := { s.gru with stack := l } }

/-- Write the slots whose resumed runs have their precondition to look at again. -/
def setResumed (l : List SlotIx) (s : State) : State := { s with gru := { s.gru with resumed := l } }

/-- Every live context: the active runs, then the stack. -/
def liveRuns (s : State) : List Run := allSlots.filterMap (fun i => s.gru.slots[i]) ++ s.gru.stack

/-- The slot whose run holds a number. -/
def slotNumbered (s : State) (n : Byte) : Option SlotIx :=
  allSlots.find? fun i => match s.gru.slots[i] with
    | some r => decide (r.number = n)
    | none => false

/-- Change the run context that holds a run number, wherever it stands; no context holds the number: nothing (R96). -/
def modRun (number : Byte) (f : Run → Run) (s : State) : State :=
  let g := fun r : Run => if r.number = number then f r else r
  { s with gru := { s.gru with slots := updAll s.gru.slots (fun _ x => x.map g), stack := s.gru.stack.map g } }

/-! ### RUN_REPORT (R97, R192) -/

/-- The end mark of a RUN_REPORT. -/
inductive EndMark where
  | COMPLETE | CANCELLED
  deriving DecidableEq, Repr

/-- R192: the RUN_REPORT of a run. -/
def runReport (m : EndMark) (r : Run) : Frame :=
  ⟨.RUN_REPORT, [r.number, byteOf r.acceptedIn.val, byteOf r.group.code, byteOf r.direction.code, byteOf r.cls,
    (if m = .CANCELLED then 1 else 0), byteOf r.cursor, byteOf r.enqueued, byteOf r.merged, byteOf r.already,
    byteOf r.overruled, byteOf r.refused, byteOf r.completed, byteOf r.faulted, byteOf r.outstanding]⟩

/-- R97: the report destination. -/
def reportPorts (s : State) (r : Run) : List PortIx :=
  match r.origin with
  | .STATION p => [p]
  | .MODE | .LINE => allPorts.filter fun p => decide (s.roleAt p = .BRIDGE) || decide (s.roleAt p = .SAFETY)

/-- Send a run's RUN_REPORT to its destination. -/
def sendReport (m : EndMark) (r : Run) (s : State) : State := forEach (reportPorts s r) (fun p => place p (runReport m r)) s

/-! ### Completion and resume (R97 to R99) -/

/-- R97: a run is complete: TRACKING with outstanding 0. -/
def Run.done (r : Run) : Bool := decide (r.state = .TRACKING) && decide (r.outstanding = 0)

/-- R98: the top of a stack resumes into a free station slot, which joins the end of the slotting order. A context that is
complete completes at once, and the one beneath it resumes. A run that resumes WALKING takes its walk step as a step of its
own (entry 13), and one that resumes WAITING looks at its precondition again when the operation under way has ended
(entry 12). -/
def resumeTop (i : SlotIx) : List Run → State → State
  | [], s => setStack [] s
  | r :: rest, s =>
    if r.done then resumeTop i rest (sendReport .COMPLETE r s)
    else
      let t := setSlotting (s.gru.slotting ++ [i]) (setSlot i (some { r with slot := i }) (setStack rest s))
      if r.state = .WAITING then setResumed (t.gru.resumed ++ [i]) t else t

/-- R97, R98, R100: a slot is given up; a station slot leaves the slotting order and takes the top of the stack. -/
def vacate (i : SlotIx) (s : State) : State :=
  let t := setSlotting (s.gru.slotting.filter fun k => decide (k ≠ i)) (setSlot i none s)
  if i = slotS then t else resumeTop i t.gru.stack t

/-- R97: the run in a slot completes, if it is complete: its RUN_REPORT, then the slot. -/
def completeSlot (i : SlotIx) (s : State) : State :=
  match s.gru.slots[i] with
  | some r => if r.done then vacate i (sendReport .COMPLETE r s) else s
  | none => s

/-- R99: the stacked context of a run number completes where it stands, if it is complete. -/
def completeStacked (number : Byte) (s : State) : State :=
  match s.gru.stack.find? fun r => decide (r.number = number) && r.done with
  | some r => setStack (s.gru.stack.filter fun x => decide (x.number ≠ number)) (sendReport .COMPLETE r s)
  | none => s

/-- R97, R99: the run of a number completes, if it is complete, wherever its context stands. -/
def completeRun (number : Byte) (s : State) : State :=
  match slotNumbered s number with
  | some i => completeSlot i s
  | none => completeStacked number s

/-! ### Reports of tags to GRU (R34, R96, R97) -/

/-- One more of a run's outcome counts, saturating at 255 (5.2). -/
def countUp (n : Nat) : Nat := satInc 255 n

/-- What CS reports of a tagged entry that left the schedule or lost its tag (R96). -/
inductive TagFate where
  | completed | faulted | overruled
  deriving DecidableEq, Repr

/-- R96: a reported fate counts once and decrements outstanding. -/
def Run.takeFate (fate : TagFate) (r : Run) : Run :=
  match fate with
  | .completed => { r with completed := countUp r.completed, outstanding := countDown r.outstanding }
  | .faulted => { r with faulted := countUp r.faulted, outstanding := countDown r.outstanding }
  | .overruled => { r with overruled := countUp r.overruled, outstanding := countDown r.outstanding }

/-- R96: the fate of an entry's tag, if it has one, counts in the context that holds its number. -/
def countTag (tag : Option RunTag) (fate : TagFate) (s : State) : State :=
  match tag with
  | some t => modRun t.number (Run.takeFate fate) s
  | none => s

/-- CS reports an entry's tag, if it has one, with its fate; the report that brings the outstanding of a TRACKING run to 0
completes the run (R97). -/
def reportTag (tag : Option RunTag) (fate : TagFate) (s : State) : State :=
  match tag with
  | some t => completeRun t.number (countTag tag fate s)
  | none => s

end Sys2Proof.Machine
end

