-- ==== Sys2Proof/Machine/Schedule.lean ====
section
/-!
DEFINITION. The Close Schedule (chapter 3): arrival numbers, effective capacity, the
admission pass with dispatch, ADMISSION_DELAY, the removal of entries and the requests of R48 that remove or detach.
-/
namespace Sys2Proof.Machine

/-! ### Arrival numbers (R40, R41) -/

/-- The value at which the arrival counter makes CS renumber (R41). -/
def arrivalTop : Nat := 4294967295

/-- The doors but `d` whose entries stand. -/
def otherEntries (s : State) (d : DoorIx) : List DoorIx :=
  allDoors.filter fun x => decide (x ≠ d) && (s.entry x).isSome

/-- R41: how many standing entries but that of `d` hold a lower arrival number. -/
def arrivalRank (s : State) (d : DoorIx) (n : Nat) : Nat :=
  ((otherEntries s d).filter fun x => match s.entry x with
    | some e => decide (e.arrival < n)
    | none => false).length

/-- R41: the entries but that of `d` take the numbers 0, 1, 2, … in the order of their old numbers. -/
def renumber (d : DoorIx) (s : State) : State :=
  { s with cs := { s.cs with
      entries := updAll s.cs.entries (fun x e =>
        if x = d then e else e.map fun y => { y with arrival := arrivalRank s d y.arrival })
      nextArrival := (otherEntries s d).length } }

/-- R40, R41: the number the entry made or replaced for `d` takes, and the state in which it is taken. -/
def takeArrival (d : DoorIx) (s : State) : Nat × State :=
  let t := if s.cs.nextArrival = arrivalTop then renumber d s else s
  (t.cs.nextArrival, { t with cs := { t.cs with nextArrival := t.cs.nextArrival + 1 } })

/-! ### ADMISSION_DELAY (R60) -/

/-- R60: the test of an HPU's ADMISSION_DELAY condition. -/
def evalDelay (h : HpuIx) (s : State) : State :=
  if admissionDelayed s h then
    if s.cs.flow[h].delayAlarm then s
    else raiseAlarm .ADMISSION_DELAY h.val (s.modFlow h fun f => { f with delayAlarm := true })
  else
    if s.cs.flow[h].delayAlarm then
      clearAlarm .ADMISSION_DELAY h.val (s.modFlow h fun f => { f with delayAlarm := false })
    else s

/-! ### Dispatch (R66, R67) -/

/-- The start window, in ticks (R65). -/
def startWindowTicks : Nat := 20

/-- The deadline of a movement of a door in a direction (R67). -/
def doorDeadline (s : State) (d : DoorIx) (dir : Direction) : Nat :=
  deadlineOf (nominalOf s.tables.doors[d] dir) s.tables.doors[d].tolerance

/-- R66: the warn flag of the MOVE of a dispatch: CLOSE unless the origin is LOCAL. -/
def dispatchWarn (e : Entry) : Bool := decide (e.direction = .CLOSE) && decide (e.origin ≠ .LOCAL)

/-- R66, R58: an entry as dispatch leaves it. -/
def Entry.dispatched (deadline : Nat) (warn : Bool) (e : Entry) : Entry :=
  { e with phase := .MOVING, started := false, repeatUsed := false, elapsed := 0, startWindow := startWindowTicks,
           deadline := deadline, hardLimit := hardLimitOf deadline, overtimeRaised := false, moveWarn := warn }

/-- R58, R66: admits the door's entry: MOVING, its draw committed, MOVE queued; then the test of R60. -/
def admitDoor (d : DoorIx) (s : State) : State :=
  match s.entry d with
  | some e =>
    let warn := dispatchWarn e
    let t := s.setEntry d (e.dispatched (doorDeadline s d e.direction) warn)
    let u := t.modFlow (s.hpuOf d) fun f => { f with committed := f.committed + s.draw d }
    evalDelay (s.hpuOf d) (queueOrder d (.MOVE e.direction warn) u)
  | none => s

/-! ### The admission pass (R55 to R57) -/

/-- The class of a door's entry. -/
def entryClass (s : State) (d : DoorIx) : Nat :=
  match s.entry d with
  | some e => e.cls
  | none => 0

/-- The overtaken count of a door's entry. -/
def overtakenOf (s : State) (d : DoorIx) : Nat :=
  match s.entry d with
  | some e => e.overtaken
  | none => 0

/-- The overtaken count at which look-ahead is withheld (R57). -/
def overtakenCap : Nat := 3

/-- The door's entry fits on its HPU as the flow stands (R53, R56). -/
def entryFits (s : State) (h : HpuIx) (d : DoorIx) : Bool := fits s h (entryClass s d) (s.draw d)

/-- R57: one more overtaking of a head. -/
def overtake (head : DoorIx) (s : State) : State :=
  match s.entry head with
  | some e => s.setEntry head { e with overtaken := satInc overtakenCap e.overtaken }
  | none => s

/-- R56 step 2, R57: examine the entries of a list past a head that does not fit. -/
def lookAhead (h : HpuIx) (head : DoorIx) : List DoorIx → State → State
  | [], s => s
  | d :: rest, s =>
    if overtakenCap ≤ overtakenOf s head then s
    else if entryFits s h d then lookAhead h head rest (overtake head (admitDoor d s))
    else lookAhead h head rest s

/-- R56: walk the READY entries of the HPU, given in schedule order. -/
def passWalk (h : HpuIx) : List DoorIx → State → State
  | [], s => s
  | head :: rest, s =>
    if entryFits s h head then passWalk h rest (admitDoor head s)
    else lookAhead h head
      ((rest.filter fun d => decide (entryClass s d = entryClass s head)).take s.tables.system.lookAhead) s

/-- R56: one admission pass for an HPU. -/
def pass (h : HpuIx) (s : State) : State := passWalk h (readyOn s h) s

/-- R52: recompute E of an HPU; a new value causes a pass. -/
def recomputeE (h : HpuIx) (s : State) : State :=
  let e := effectiveCapacity s h
  if s.cs.flow[h].capacityE = e then s else pass h (s.modFlow h fun f => { f with capacityE := e })

/-! ### Passage records ended by CS (R33, R119, R121) -/

/-- R121: end a passage record: it is removed, and PASSAGE_OVERDUE clears. -/
def endPassage (d : DoorIx) (s : State) : State := clearDoor .PASSAGE_OVERDUE d (s.dropPassage d)

/-- A passage record in RECLOSING whose reclose has been demanded (R119). -/
def Passage.reclosed (x : Passage) : Bool := decide (x.phase = .RECLOSING) && x.demanded

/-- R119, R33: the removal, replacement or reversal of the CLOSE entry of a passage in RECLOSING ends the record. -/
def recloseGone (d : DoorIx) (dir : Direction) (s : State) : State :=
  match s.passage d with
  | some x => if x.reclosed ∧ dir = .CLOSE then endPassage d s else s
  | none => s

/-! ### Leaving the schedule (R47) -/

/-- The causes of R47. -/
inductive RemovalCause where
  | ARRIVAL | WITHOUT_MOVEMENT | FAULT (latch : Latch) | RELEASE | FLUSH | DENIED | CANCEL
  deriving DecidableEq, Repr

/-- R47: the order queued with a removal. -/
def RemovalCause.order (c : RemovalCause) (ph : Phase) : Option OrderKind :=
  match c with
  | .ARRIVAL => none
  | .WITHOUT_MOVEMENT | .FLUSH | .CANCEL => if ph = .WARNING then some .STOP else none
  | .FAULT latch => if latch = .WRONG_WAY then some .STOP else none
  | .RELEASE => if ph = .MOVING then some .STOP else none
  | .DENIED => some .DENY

/-- R47: the fate reported for a removed entry's tag. -/
def RemovalCause.fate (c : RemovalCause) : Option TagFate :=
  match c with
  | .ARRIVAL | .WITHOUT_MOVEMENT | .RELEASE => some .completed
  | .FAULT _ => some .faulted
  | .FLUSH | .DENIED => some .overruled
  | .CANCEL => none

/-- R47 step 2: the tag of a removed entry is reported with its fate. The flush for LOCAL reports to runs that are aborted
with it, of which none completes and none resumes (R102, R108), so its report counts alone. -/
def RemovalCause.report (c : RemovalCause) (tag : Option RunTag) (s : State) : State :=
  match c.fate with
  | some fate => if c = .FLUSH then countTag tag fate s else reportTag tag fate s
  | none => s

/-- R47 steps 1 to 3 and the order of the removal: release the draw, report the tag, discard the entry; a reclose
record whose entry it was ends (R119), all before the pass (entries 34 and 64). -/
def takeOut (c : RemovalCause) (d : DoorIx) (s : State) : State :=
  match s.entry d with
  | some e =>
    let s := if e.phase = .MOVING then
        s.modFlow (s.hpuOf d) fun f => { f with committed := f.committed - s.draw d } else s
    recloseGone d e.direction (queueOrder? d (c.order e.phase) ((c.report e.tag s).dropEntry d))
  | none => s

/-- R47: remove a door's entry: the effects of `takeOut`, then the pass and, for a READY entry, the test of R60; then
TRAVEL_OVERTIME ends (R71, R72, R74; for a release, entry 64). -/
def removeEntry (c : RemovalCause) (d : DoorIx) (s : State) : State :=
  match s.entry d with
  | some e =>
    let h := s.hpuOf d
    let s := takeOut c d s
    let s := if e.phase = .WARNING then s else pass h s
    let s := if e.phase = .READY then evalDelay h s else s
    clearDoor .TRAVEL_OVERTIME d s
  | none => s

/-! ### Requests of MC and GRU (R48) -/

/-- The HPUs of the doors of a list, in ascending index. -/
def hpusOf (s : State) (l : List DoorIx) : List HpuIx := allHpus.filter fun h => l.any fun d => decide (s.hpuOf d = h)

/-- The doors of a list whose entries stand READY. -/
def readyAmong (s : State) (l : List DoorIx) : List DoorIx :=
  l.filter fun d => match s.entry d with
    | some e => decide (e.phase = .READY)
    | none => false

/-- R48: a request acts on the entries of the doors of a list, and ends with one pass for every HPU whose entries it
changed. -/
def request (act : DoorIx → State → State) (l : List DoorIx) (s : State) : State :=
  forEach (hpusOf s l) pass (forEach l act s)

/-- R48: remove the entries of the doors of a list; after the passes the test of R60 for every HPU that lost a READY
entry, in ascending index (entry 64). -/
def removeAll (c : RemovalCause) (l : List DoorIx) (s : State) : State :=
  forEach (hpusOf s (readyAmong s l)) evalDelay (request (takeOut c) l s)

/-- The doors of the schedule, in schedule order, whose entries meet a test (entry 23). -/
def matching (s : State) (t : DoorIx → Entry → Bool) : List DoorIx :=
  (schedule s).filter fun d => match s.entry d with
    | some e => t d e
    | none => false

/-- R48, flush for LOCAL: CLOSE entries of class 0-2 in WARNING or READY. -/
def flushes (_ : DoorIx) (e : Entry) : Bool :=
  decide (e.direction = .CLOSE) && decide (e.cls ≤ 2) && decide (e.phase ≠ .MOVING)

/-- R48: the flush for LOCAL. -/
def flush (s : State) : State := removeAll .FLUSH (matching s flushes) s

/-- An entry carries the tag of a run number (R89). -/
def tagged (number : Byte) (_ : DoorIx) (e : Entry) : Bool :=
  match e.tag with
  | some t => decide (t.number = number)
  | none => false

/-- Detach a door's tag. -/
def dropTag (d : DoorIx) (s : State) : State :=
  match s.entry d with
  | some e => s.setEntry d { e with tag := none }
  | none => s

/-- R48, detach: the tag leaves every entry that carries it. -/
def detachTag (number : Byte) (s : State) : State := request dropTag (matching s (tagged number)) s

/-- R48, cancel: a WARNING or READY entry with the tag is removed, a MOVING one loses the tag. -/
def cancelOne (d : DoorIx) (s : State) : State :=
  match s.entry d with
  | some e => if e.phase = .MOVING then dropTag d s else takeOut .CANCEL d s
  | none => s

/-- R48: the cancel of a run's tag. -/
def cancelTag (number : Byte) (s : State) : State :=
  let l := matching s (tagged number)
  forEach (hpusOf s (readyAmong s l)) evalDelay (request cancelOne l s)

end Sys2Proof.Machine
end

