-- ==== Sys2Proof/Machine/Arbitration.lean ====
section
/-!
DEFINITION. Demands and their decision (chapter 2): the steps of R22, new entries, merging, replacement, reversal, the
passage claims; and the requests of R48 that raise or reverse.
-/
namespace Sys2Proof.Machine

/-- A demand (R19). -/
structure Demand where
  door : DoorIx
  direction : Direction
  cls : Nat
  group : SourceGroup
  origin : Origin
  tag : Option RunTag
  deriving DecidableEq, Repr

/-- The outcome of a demand (R22, R31, R32). -/
inductive DemandOutcome where
  | ENQUEUED | MERGED | REPLACED | REVERSED | ALREADY | OVERRULED | DOOR_FAULT | WRONG_MODE | NOT_CONFIGURED
  deriving DecidableEq, Repr

/-! ### New entries (R26) -/

/-- R26: a new entry begins in WARNING: a CLOSE of origin other than LOCAL on a door with a pre-warning. -/
def warnsFirst (dir : Direction) (origin : Origin) (preWarn : Nat) : Bool :=
  decide (dir = .CLOSE) && decide (origin ≠ .LOCAL) && decide (0 < preWarn)

/-- R26: the entry a demand makes, with its arrival number. -/
def Demand.newEntry (m : Demand) (preWarn arrival : Nat) : Entry :=
  let warns := warnsFirst m.direction m.origin preWarn
  { direction := m.direction, cls := m.cls, group := m.group, origin := m.origin, tag := m.tag, arrival := arrival,
    phase := if warns then .WARNING else .READY, warnRemaining := if warns then preWarn else 0, readyAge := 0,
    overtaken := 0, repeatUsed := false, started := false, elapsed := 0, deadline := 0, hardLimit := 0,
    overtimeRaised := false, startWindow := 0, moveWarn := false }

/-- The pre-warn of a door. -/
def State.preWarn (s : State) (d : DoorIx) : Nat := s.tables.doors[d].preWarn

/-- R26: ENQUEUED. An entry in WARNING queues WARN; one created READY causes a pass. -/
def enqueue (m : Demand) (s : State) : State :=
  let (n, s) := takeArrival m.door s
  let e := m.newEntry (s.preWarn m.door) n
  let s := s.makeEntry m.door e
  if e.phase = .WARNING then queueOrder m.door .WARN s else pass (s.hpuOf m.door) s

/-! ### Merging (R27) -/

/-- R27: an entry as a merge leaves it. -/
def Entry.merged (m : Demand) (e : Entry) : Entry :=
  if e.cls < m.cls then { e with cls := m.cls, group := m.group, origin := m.origin } else e

/-- R27: MERGED; a class that rose causes a pass (R42). -/
def merge (m : Demand) (e : Entry) (s : State) : State :=
  let t := s.setEntry m.door (e.merged m)
  if e.cls < m.cls then pass (t.hpuOf m.door) t else t

/-! ### Claims (R28, R29, R33) -/

/-- R29: the demand beats the door's entry. -/
def beatsEntry (s : State) (m : Demand) (e : Entry) : Bool :=
  beats s.tables.system.orderCode m.cls m.group e.cls e.group

/-- R28, R29: the demand beats the claim of the door's passage: an OPEN claim, which opposes a CLOSE demand alone. -/
def beatsPassage (s : State) (m : Demand) : Bool :=
  !(decide (m.direction = .CLOSE) && passageClaims s m.door)
    || beats s.tables.system.orderCode m.cls m.group (passageClass s.mc.mode) .C

/-- R33: a winning demand ends the passage record it has beaten, before the entry is changed (entry 64). -/
def endBeaten (m : Demand) (s : State) : State :=
  if m.direction = .CLOSE ∧ passageClaims s m.door then endPassage m.door s else s

/-! ### Replacement (R31) and reversal (R32) -/

/-- R31: the order queued with a replacement (entry 44). -/
def replaceOrder (m : Demand) (new : Phase) : Option OrderKind :=
  match m.direction with
  | .OPEN => some .STOP
  | .CLOSE => if new = .WARNING then some .WARN else none

/-- R31, R33: REPLACED. The passage record ends first, and then the displaced tag counts overruled (R34, entry 64), which
may complete its run (R97). The new phase READY, or a READY entry replaced into
WARNING, causes a pass (R55), and the replacement of a READY entry the test of R60. The order is queued before the pass
(entry 45), and the test follows the pass (entry 57). -/
def replace (m : Demand) (e : Entry) (s : State) : State :=
  let s := reportTag e.tag .overruled (recloseGone m.door e.direction (endBeaten m s))
  let (n, s) := takeArrival m.door s
  let x := m.newEntry (s.preWarn m.door) n
  let s := queueOrder? m.door (replaceOrder m x.phase) (s.setEntry m.door x)
  let s := pass (s.hpuOf m.door) s
  if e.phase = .READY then evalDelay (s.hpuOf m.door) s else s

/-- R32, R78: an entry as a reversal leaves it. -/
def Entry.reversed (m : Demand) (deadline : Nat) (e : Entry) : Entry :=
  { e with direction := m.direction, cls := m.cls, group := m.group, origin := m.origin, tag := m.tag,
           started := false, repeatUsed := false, elapsed := 0, startWindow := startWindowTicks,
           deadline := deadline, hardLimit := hardLimitOf deadline, moveWarn := decide (m.direction = .CLOSE) }

/-- R32, R78: the reversal of a MOVING entry: the tag displaced, MOVE queued in the new direction, the supervision
restarted. -/
def reverseEntry (m : Demand) (e : Entry) (s : State) : State :=
  let s := reportTag e.tag .overruled s
  let s := s.setEntry m.door (e.reversed m (doorDeadline s m.door m.direction))
  queueOrder m.door (.MOVE m.direction (decide (m.direction = .CLOSE))) s

/-- R32, R33: REVERSED. The passage record ends before the displaced tag is reported (entry 64); a class that rose causes a pass (R42, entry 16), taken after MOVE is queued (entry 56). -/
def reverse (m : Demand) (e : Entry) (s : State) : State :=
  let s := reverseEntry m e (recloseGone m.door e.direction (endBeaten m s))
  if e.cls < m.cls then pass (s.hpuOf m.door) s else s

/-! ### The decision (R22) -/

/-- R22 steps 7 and 8: no entry stands and no claim opposes the demand any longer. -/
def settleDemand (m : Demand) (s : State) : DemandOutcome × State :=
  if s.position m.door = m.direction.target then (.ALREADY, s) else (.ENQUEUED, enqueue m s)

/-- R22 steps 4 to 8. -/
def decideClaims (m : Demand) (s : State) : DemandOutcome × State :=
  match s.entry m.door with
  | some e =>
    if e.direction = m.direction then (.MERGED, merge m e s)
    else if beatsEntry s m e ∧ beatsPassage s m then
      if e.phase = .MOVING then (.REVERSED, reverse m e s) else (.REPLACED, replace m e s)
    else (.OVERRULED, s)
  | none =>
    if beatsPassage s m then settleDemand m (endBeaten m s) else (.OVERRULED, s)

/-- R22: the decision of a demand: its outcome, and the state it leaves. -/
def decideDemand (m : Demand) (s : State) : DemandOutcome × State :=
  if s.inService = false then (.NOT_CONFIGURED, s)
  else if s.mc.mode = .EMERGENCY ∧ m.direction = .OPEN ∧ m.origin ≠ .PASSAGE then (.WRONG_MODE, s)
  else if m.direction = .OPEN ∧ s.latch m.door ≠ .NONE then (.DOOR_FAULT, s)
  else decideClaims m s

/-! ### Raise, deny and reverse for EMERGENCY (R48) -/

/-- R48: set the class of a door's entry to 3. -/
def raiseEntry (d : DoorIx) (s : State) : State :=
  match s.entry d with
  | some e => s.setEntry d { e with cls := 3 }
  | none => s

/-- CLOSE entries whose class the raise changes. -/
def raises (_ : DoorIx) (e : Entry) : Bool := decide (e.direction = .CLOSE) && decide (e.cls ≠ 3)

/-- OPEN entries of STANDARD doors in a phase. -/
def opensStandard (s : State) (ph : Phase) (d : DoorIx) (e : Entry) : Bool :=
  decide (e.direction = .OPEN) && !s.isEscape d && decide (e.phase = ph)

/-- R48: the raise for EMERGENCY, with one pass for every HPU whose entries it changed. -/
def raiseForEmergency (s : State) : State := request raiseEntry (matching s raises) s

/-- R48: the deny for EMERGENCY. -/
def denyForEmergency (s : State) : State := removeAll .DENIED (matching s (opensStandard s .READY)) s

/-- What the reverse for EMERGENCY gives an entry: CLOSE, class 3, source group A, no tag (R48). -/
def emergencyClose (origin : Origin) (d : DoorIx) : Demand := ⟨d, .CLOSE, 3, .A, origin, none⟩

/-- R48: reverse one door's entry for EMERGENCY. -/
def reverseOne (origin : Origin) (d : DoorIx) (s : State) : State :=
  match s.entry d with
  | some e => reverseEntry (emergencyClose origin d) e s
  | none => s

/-- R48: the reverse for EMERGENCY, with one pass for every HPU whose entries it changed. -/
def reverseForEmergency (origin : Origin) (s : State) : State :=
  request (reverseOne origin) (matching s (opensStandard s .MOVING)) s

end Sys2Proof.Machine
end

