-- ==== Sys2Proof/Machine/Runs.lean ====
section
/-!
DEFINITION. The Group Run Unit (chapter 5): walk steps and preconditions, counts, acceptance and preemption, the look of
resumed runs, cancel, the system slot and the abort.
-/
namespace Sys2Proof.Machine

/-! ### Walking (R93 to R95) -/

/-- The length of a run's list (R87). -/
def listLength (s : State) (r : Run) : Nat :=
  match r.group with
  | .stored g => s.tables.groups[g].entries.length
  | .ALL => 96

/-- The list entry at a run's cursor: for ALL the door of that index, with no precondition (R87). -/
def listEntry (s : State) (r : Run) : Option GroupEntry :=
  match r.group with
  | .stored g => s.tables.groups[g].entries[r.cursor]?
  | .ALL => if r.cursor < 96 then some ⟨r.cursor, 127⟩ else none

/-- R93: the origin of a run's demands. -/
def Run.demandOrigin (r : Run) : Origin :=
  match r.origin with
  | .STATION _ => .RUN r.acceptedIn
  | .MODE => .MODE
  | .LINE => .LINE

/-- R21, R93: the demand a run submits for a door. -/
def Run.demand (r : Run) (d : DoorIx) : Demand :=
  ⟨d, r.direction, r.cls, r.source, r.demandOrigin, some ⟨r.acceptedIn, r.number⟩⟩

/-- R34: the outcome of a run's own demand counts once. -/
def Run.takeOutcome (o : DemandOutcome) (r : Run) : Run :=
  match o with
  | .ENQUEUED | .REPLACED | .REVERSED => { r with enqueued := countUp r.enqueued, outstanding := r.outstanding + 1 }
  | .MERGED => { r with merged := countUp r.merged }
  | .ALREADY => { r with already := countUp r.already }
  | .OVERRULED => { r with overruled := countUp r.overruled }
  | .DOOR_FAULT | .WRONG_MODE => { r with refused := countUp r.refused }
  | .NOT_CONFIGURED => r

/-- R93, R97: advance the cursor of the run in a slot; at the end of the list it enters TRACKING, and completes at once
where its outstanding is 0. -/
def advance (i : SlotIx) (s : State) : State :=
  match s.gru.slots[i] with
  | some r =>
    completeSlot i (setSlot i (some { r with
      cursor := r.cursor + 1
      state := if r.cursor + 1 < listLength s r then .WALKING else .TRACKING }) s)
  | none => s

/-- The door a run's cursor stands at; ALL passes over a door that is not present (R87). -/
def walkDoor (s : State) (r : Run) : Option DoorIx :=
  match listEntry s r with
  | some e =>
    match ix? 96 e.door with
    | some d => if r.group = .ALL ∧ s.isPresent d = false then none else some d
    | none => none
  | none => none

/-- R93: submit the demand for the door at the cursor, count its outcome and advance. -/
def submitAt (i : SlotIx) (s : State) : State :=
  match s.gru.slots[i] with
  | some r =>
    match walkDoor s r with
    | some d =>
      let (o, t) := decideDemand (r.demand d) s
      advance i (modRun r.number (Run.takeOutcome o) t)
    | none => advance i s
  | none => s

/-- The precondition door at a run's cursor, if its entry names one. -/
def preconditionOf (s : State) (r : Run) : Option DoorIx :=
  match listEntry s r with
  | some e => ix? 96 e.pre
  | none => none

/-- The evaluation of a precondition (R94). -/
inductive PreResult where
  | MET | BYPASSED | NOT_MET
  deriving DecidableEq, Repr

/-- R94: the evaluation of a precondition door against a run's target. -/
def evalPrecondition (s : State) (dir : Direction) (p : DoorIx) : PreResult :=
  if s.position p = dir.target then .MET
  else if s.position p = .UNKNOWN ∨ s.latch p ≠ .NONE then .BYPASSED
  else .NOT_MET

/-- R95: PRECONDITION_BYPASSED with the waiting door as subject. -/
def raiseBypass (r : Run) (s : State) : State :=
  match listEntry s r with
  | some e => raiseEvent .PRECONDITION_BYPASSED e.door s
  | none => s

/-- R95: the bypass of the precondition at the cursor of the run in a slot: the event, then the demand (entry 68). -/
def bypassAt (i : SlotIx) (s : State) : State :=
  match s.gru.slots[i] with
  | some r => submitAt i (raiseBypass r s)
  | none => s

/-- Change the state and the wait age of the run in a slot. -/
def setStage (i : SlotIx) (st : RunState) (age : Nat) (s : State) : State :=
  match s.gru.slots[i] with
  | some r => setSlot i (some { r with state := st, waitAge := age }) s
  | none => s

/-- R93, R94: the run in a slot takes its list entry: the precondition first, then the demand. A run that has to wait
stands WAITING at the wait age given. -/
def takeListEntry (i : SlotIx) (age : Nat) (s : State) : State :=
  match s.gru.slots[i] with
  | some r =>
    match preconditionOf s r with
    | some p =>
      match evalPrecondition s r.direction p with
      | .MET => submitAt i s
      | .BYPASSED => bypassAt i s
      | .NOT_MET => setStage i .WAITING age s
    | none => submitAt i s
  | none => s

/-- The run in a slot stands in a state. -/
def slotIn (s : State) (i : SlotIx) (st : RunState) : Bool :=
  match s.gru.slots[i] with
  | some r => decide (r.state = st)
  | none => false

/-- R93: a walk step of the run in a slot, if it is WALKING. -/
def walkStep (i : SlotIx) (s : State) : State := if slotIn s i .WALKING then takeListEntry i 0 s else s

/-- The run in a slot is WAITING on a door. -/
def waitsOn (s : State) (d : DoorIx) (i : SlotIx) : Bool :=
  match s.gru.slots[i] with
  | some r => decide (r.state = .WAITING) && decide (preconditionOf s r = some d)
  | none => false

/-- R94, R98 at resume: a WAITING run looks at its precondition again and keeps its wait age where it is not met. -/
def lookAgain (i : SlotIx) (s : State) : State :=
  match s.gru.slots[i] with
  | some r => takeListEntry i r.waitAge s
  | none => s

/-- R95: the wait of the run in a slot on a door that is presented: met at the target, bypassed at UNKNOWN, and left
running at any other position. -/
def hearPresentation (d : DoorIx) (i : SlotIx) (s : State) : State :=
  match s.gru.slots[i] with
  | some r =>
    if s.position d = r.direction.target then submitAt i s
    else if s.position d = .UNKNOWN then bypassAt i s
    else s
  | none => s

/-- Take an action for every run that is WAITING on a door, in ascending slot, S last (entry 49). A run that resumes
meanwhile looks for itself (entry 12). -/
def forWaiting (d : DoorIx) (act : SlotIx → State → State) (s : State) : State :=
  forEach (allSlots.filter (waitsOn s d)) act s

/-- R95: a presentation of a door reaches the runs WAITING on it. -/
def pokeRuns (d : DoorIx) (s : State) : State := forWaiting d (hearPresentation d) s

/-- R95: a fault latched on a door bypasses the waits of the runs WAITING on it. -/
def bypassWaits (d : DoorIx) (s : State) : State := forWaiting d bypassAt s

/-! ### Runs resumed WAITING (R98) -/

/-- R98: the run of the slot resumed first of those that have not looked yet looks at its precondition again, if it still
waits. -/
def settleOne (s : State) : State :=
  match s.gru.resumed with
  | i :: rest =>
    let t := setResumed rest s
    if slotIn t i .WAITING then lookAgain i t else t
  | [] => s

/-- R98: every run that resumed WAITING looks at its precondition again. A demand that a look makes may complete a run and
let another context resume, so there are at most as many looks as slots noted and contexts stacked (entry 12). -/
def settleRuns (s : State) : State :=
  forEach (List.range (s.gru.resumed.length + s.gru.stack.length)) (fun _ => settleOne) s

/-! ### Acceptance (R89 to R92) -/

/-- R89: a run number is held by a live context. -/
def numberHeld (s : State) (n : Byte) : Bool := (liveRuns s).any fun r => decide (r.number = n)

/-- R89: the number the next run takes: the first from the counter on that no live context holds. -/
def nextNumber (s : State) : Byte :=
  (((List.range 256).map fun k => s.gru.counter + BitVec.ofNat 8 k).find? fun n => !numberHeld s n).getD s.gru.counter

/-- R92: a run as it is accepted or launched. -/
def newRun (i : SlotIx) (group : GroupRef) (dir : Direction) (cls : Nat) (source : SourceGroup) (origin : RunOrigin)
    (number : Byte) : Run :=
  { slot := i, acceptedIn := i, group := group, direction := dir, cls := cls, source := source, origin := origin,
    number := number, cursor := 0, state := .WALKING, waitAge := 0, enqueued := 0, merged := 0, already := 0,
    overruled := 0, refused := 0, completed := 0, faulted := 0, outstanding := 0 }

/-- R89, R92: a run takes a slot under the next number; a station slot joins the slotting order. -/
def takeSlot (i : SlotIx) (group : GroupRef) (dir : Direction) (cls : Nat) (source : SourceGroup) (origin : RunOrigin)
    (s : State) : State :=
  let n := nextNumber s
  let t := setSlot i (some (newRun i group dir cls source origin n)) { s with gru := { s.gru with counter := n + 1 } }
  if i = slotS then t else setSlotting (t.gru.slotting ++ [i]) t

/-- The station slot of lowest number that is free. -/
def freeStationSlot (s : State) : Option SlotIx := stationSlots.find? fun i => (s.gru.slots[i]).isNone

/-- The class of the run in a slot. -/
def slotClass (s : State) (i : SlotIx) : Option Nat := (s.gru.slots[i]).map Run.cls

/-- R90 step 5: the lowest class among the active station runs. -/
def lowestClass (s : State) : Option Nat := (stationSlots.filterMap (slotClass s)).min?

/-- R91: the victim: of the runs of the lowest class, the one whose slot stands latest in the slotting order. -/
def victim (s : State) : Option SlotIx :=
  s.gru.slotting.reverse.find? fun i => (lowestClass s).isSome && decide (slotClass s i = lowestClass s)

/-- R91: push the victim's context on the stack; its slot leaves the slotting order. -/
def suspend (i : SlotIx) (s : State) : State :=
  match s.gru.slots[i] with
  | some r =>
    setSlotting (s.gru.slotting.filter fun k => decide (k ≠ i)) (setSlot i none (setStack (r :: s.gru.stack) s))
  | none => s

/-- The most contexts the stack holds (R91). -/
def stackSize : Nat := 4

/-- What GRU answers a group command (R90). -/
inductive GroupAnswer where
  | TAKEN (slot : SlotIx) | REFUSED (code : ResultCode)
  deriving DecidableEq, Repr

/-- R90 steps 4 to 7: the slot a run of a class takes, with the victim to suspend, or the refusal. -/
def chooseSlot (s : State) (cls : Nat) : GroupAnswer × Option SlotIx :=
  match freeStationSlot s with
  | some i => (.TAKEN i, none)
  | none =>
    if (lowestClass s).all fun low => decide (low < cls) then
      if s.gru.stack.length < stackSize then
        match victim s with
        | some i => (.TAKEN i, some i)
        | none => (.REFUSED .BUSY, none)
      else (.REFUSED .NO_ROOM, none)
    else (.REFUSED .BUSY, none)

/-- R90 to R92: accept a run of a class for a port, or refuse it. -/
def acceptRun (p : PortIx) (group : GroupRef) (dir : Direction) (cls : Nat) (s : State) : GroupAnswer × State :=
  match chooseSlot s cls with
  | (.TAKEN i, v) =>
    let t := match v with
      | some k => suspend k s
      | none => s
    (.TAKEN i, takeSlot i group dir cls (s.rowGroup p) (.STATION p) t)
  | (.REFUSED c, _) => (.REFUSED c, s)

/-! ### Cancel (R100) -/

/-- The live context that holds a run number. -/
def runNumbered (s : State) (n : Byte) : Option Run := (liveRuns s).find? fun r => decide (r.number = n)

/-- R100: cancel a run: its tag, its report with the counts as they stood, its context. -/
def cancelRun (r : Run) (s : State) : State :=
  let t := sendReport .CANCELLED r (cancelTag r.number s)
  match slotNumbered s r.number with
  | some i => vacate i t
  | none => setStack (t.gru.stack.filter fun x => decide (x.number ≠ r.number)) t

/-! ### The system slot and the abort (R101, R102) -/

/-- R101: launch an ALL CLOSE run into slot S; a run standing there is replaced without a report. Runs that resumed WAITING
look at their preconditions before the launch (entry 12). The new run takes its number while the replaced run still stands
in S, so the number of the replaced run is passed over (entry 69). -/
def launchSystem (cls : Nat) (origin : RunOrigin) (s : State) : State :=
  let s := settleRuns s
  let s := match s.gru.slots[slotS] with
    | some r => detachTag r.number s
    | none => s
  takeSlot slotS .ALL .CLOSE cls .A origin s

/-- R102: every run is aborted: its tag detached, slots first, then the stack from the top (entry 50), the slots free,
the slotting order and the stack empty, and no run left to look at a precondition. No RUN_REPORT is sent. -/
def abortRuns (s : State) : State :=
  let t := forEach (liveRuns s) (fun r => detachTag r.number) s
  { t with gru := { t.gru with slots := Vector.replicate 5 none, slotting := [], stack := [], resumed := [] } }

end Sys2Proof.Machine
end

