-- ==== Sys2Proof/Machine/Movement.lean ====
section
/-!
DEFINITION. The Movement Supervisor (chapter 4): the judging of presentations, arrival and travel capture, faults and
the fault latch, hold-to-run release, doors found moving; and CS's completion without movement (R46).
-/
namespace Sys2Proof.Machine

/-! ### Travel record (R13) -/

/-- R13: a travel time enters the pair of its direction. -/
def Supervision.capture (dir : Direction) (time : Nat) (m : Supervision) : Supervision :=
  match dir with
  | .CLOSE =>
    { m with priorClose := m.lastClose, lastClose := min time 4095,
             overrun := if m.closeFresh then satInc 255 m.overrun else m.overrun, closeFresh := true }
  | .OPEN =>
    { m with priorOpen := m.lastOpen, lastOpen := min time 4095,
             overrun := if m.openFresh then satInc 255 m.overrun else m.overrun, openFresh := true }

/-- What a presentation carries beside the record as updated: the position and the handle before (R5), and whether a
report had shown a position before it (R71, entry 47). -/
structure Before where
  position : Position
  handle : Handle
  shown : Bool
  deriving DecidableEq, Repr

/-- The position and handle of a door as they stand. -/
def before (s : State) (d : DoorIx) : Before := ⟨s.position d, s.handle d, s.rc.reported[d].shown⟩

/-- R71 step 1, R13: an arrival is captured unless the entry is ADOPTED, the position before was already the target, or
the door was admitted before any report had shown it, as at its first report after a start. Any other position before of
UNKNOWN is not the target (entry 47). -/
def captures (e : Entry) (b : Before) : Bool :=
  decide (e.origin ≠ .ADOPTED) && decide (b.position ≠ e.direction.target) && b.shown

/-- R71: the arrival of a MOVING entry. -/
def arrive (d : DoorIx) (e : Entry) (b : Before) (s : State) : State :=
  let t := if captures e b then s.modSup d (Supervision.capture e.direction e.elapsed) else s
  removeEntry .ARRIVAL d t

/-! ### Faults (R11, R74, R95) -/

/-- Write a door's fault latch. -/
def setLatch (d : DoorIx) (k : Latch) (s : State) : State := s.modSup d fun m => { m with latch := k }

/-- R74: the movement of a door ends in a fault; the runs waiting on the door are told of the latch (R95) after DOOR_FAULT
is raised, within the action of MS (entry 66). -/
def faultDoor (k : Latch) (d : DoorIx) (s : State) : State :=
  bypassWaits d (raiseDoor .DOOR_FAULT d (setLatch d k (removeEntry (.FAULT k) d s)))

/-! ### Judging a presentation (R68) -/

/-- What a presentation makes of a MOVING entry (R68). -/
inductive Judgement where
  | ARRIVED | STARTS | STALLED | WRONG_WAY | NO_EFFECT
  deriving DecidableEq, Repr

/-- R68, R75, R77: the judgement by the position after the update, the position before it and started. -/
def judge (dir : Direction) (started : Bool) (prev now : Position) : Judgement :=
  if now = dir.target then .ARRIVED
  else if now = dir.moving then (if started then .NO_EFFECT else .STARTS)
  else if now = .UNKNOWN then .NO_EFFECT
  else if now = .STOPPED then (if started then .STALLED else .NO_EFFECT)
  else if now = dir.opposite.target then (if started then .WRONG_WAY else .NO_EFFECT)
  else if started then .WRONG_WAY
  else if prev = dir.opposite.moving then .NO_EFFECT
  else .WRONG_WAY

/-- R69: the entry becomes started and its start window is closed. -/
def startEntry (d : DoorIx) (e : Entry) (s : State) : State :=
  s.setEntry d { e with started := true, startWindow := 0 }

/-- R68: judge a presentation of a door whose entry is MOVING. -/
def judgeEntry (d : DoorIx) (e : Entry) (b : Before) (s : State) : State :=
  match judge e.direction e.started b.position (s.position d) with
  | .ARRIVED => arrive d e b s
  | .STARTS => startEntry d e s
  | .STALLED => faultDoor .STALLED d s
  | .WRONG_WAY => faultDoor .WRONG_WAY d s
  | .NO_EFFECT => s

/-- R79: the handle comes to IDLE from a handle that was not IDLE. -/
def comesToIdle (prev now : Handle) : Bool := decide (now = .IDLE) && decide (prev ≠ .IDLE)

/-- R79: hold-to-run release of a MOVING entry of origin LOCAL, if it still stands. -/
def releaseOnIdle (d : DoorIx) (prev : Handle) (s : State) : State :=
  match s.entry d with
  | some e =>
    if e.phase = .MOVING ∧ e.origin = .LOCAL ∧ comesToIdle prev (s.handle d) then removeEntry .RELEASE d s else s
  | none => s

/-! ### Doors found moving (R80 to R82) -/

/-- R80: the entry of an adopted door. -/
def adoptedEntry (dir : Direction) (arrival deadline : Nat) : Entry :=
  { direction := dir, cls := 1, group := .A, origin := .ADOPTED, tag := none, arrival := arrival, phase := .MOVING,
    warnRemaining := 0, readyAge := 0, overtaken := 0, repeatUsed := false, started := true, elapsed := 0,
    deadline := deadline, hardLimit := hardLimitOf deadline, overtimeRaised := false, startWindow := 0,
    moveWarn := false }

/-- R80: adopt a door found moving: no test of flow, no order, no pass. -/
def adopt (d : DoorIx) (dir : Direction) (s : State) : State :=
  let (n, s) := takeArrival d s
  let s := s.makeEntry d (adoptedEntry dir n (doorDeadline s d dir))
  s.modFlow (s.hpuOf d) fun f => { f with committed := f.committed + s.draw d }

/-- R81: a STANDARD door adopted opening in EMERGENCY is reversed at once; its class rises, so a pass follows (entry 16),
taken after MOVE is queued (entry 56). -/
def reverseAdopted (d : DoorIx) (dir : Direction) (s : State) : State :=
  if dir = .OPEN ∧ s.mc.mode = .EMERGENCY ∧ s.isEscape d = false then pass (s.hpuOf d) (reverseOne .MODE d s) else s

/-- R80, R82: a door found moving is adopted, or raises UNSUPERVISED_MOTION while its latch is set. -/
def foundMoving (d : DoorIx) (dir : Direction) (s : State) : State :=
  if s.latch d = .NONE then reverseAdopted d dir (adopt d dir s) else raiseDoor .UNSUPERVISED_MOTION d s

/-- R80: the direction in which a door without an entry is found moving. -/
def foundDirection (prev now : Position) : Option Direction := if now = prev then none else now.motionDirection

/-! ### MS and CS at a presentation -/

/-- R76, R82: at a settled position DOOR_FAULT and UNSUPERVISED_MOTION clear (entry 55). -/
def clearAtRest (d : DoorIx) (s : State) : State :=
  if (s.position d).settled then clearDoor .UNSUPERVISED_MOTION d (clearDoor .DOOR_FAULT d s) else s

/-- MS takes a presentation (R68, R76, R79, R80, R82); what rest clears, clears before the judgement (entry 39), and
the judgement is made before the release of R79 (entry 48). -/
def presentMS (d : DoorIx) (b : Before) (s : State) : State :=
  let s := clearAtRest d s
  match s.entry d with
  | some e => if e.phase = .MOVING then releaseOnIdle d b.handle (judgeEntry d e b s) else s
  | none =>
    match foundDirection b.position (s.position d) with
    | some dir => foundMoving d dir s
    | none => s

/-- R46: CS completes a WARNING or READY entry whose door is presented at its target. -/
def presentCS (d : DoorIx) (s : State) : State :=
  match s.entry d with
  | some e =>
    if e.phase ≠ .MOVING ∧ s.position d = e.direction.target then removeEntry .WITHOUT_MOVEMENT d s else s
  | none => s

/-! ### Expiries of MS (R70, R72, R73) -/

/-- R70: MOVE is queued again, the repeat is used, the window reopens and the repeat is counted. -/
def repeatMove (d : DoorIx) (e : Entry) (s : State) : State :=
  let t := s.setEntry d { e with repeatUsed := true, startWindow := startWindowTicks }
  queueOrder d (.MOVE e.direction e.moveWarn) { t with ms := { t.ms with moveRepeats := satInc 65535 t.ms.moveRepeats } }

/-- R70: the start window of a MOVING entry expires. -/
def windowExpires (d : DoorIx) (e : Entry) (s : State) : State :=
  if e.repeatUsed = false then repeatMove d e s
  else if s.position d = .UNKNOWN then s.setEntry d { e with startWindow := startWindowTicks }
  else faultDoor .NOT_STARTED d s

/-- R72: the deadline of a MOVING entry expires. -/
def deadlineExpires (d : DoorIx) (e : Entry) (s : State) : State :=
  if e.overtimeRaised then s else raiseDoor .TRAVEL_OVERTIME d (s.setEntry d { e with overtimeRaised := true })

end Sys2Proof.Machine
end

