-- ==== Sys2Proof/Machine/Modes.lean ====
section
/-!
DEFINITION. The Mode Controller (chapter 6): mode entries and their actions, local handles, passages, bridge loss.
-/
namespace Sys2Proof.Machine

/-- Write the mode. -/
def setMode (m : Mode) (s : State) : State := { s with mc := { s.mc with mode := m } }

/-! ### Reclose and passage demands (R20, R115, R118, R119) -/

/-- R115, R118: a passage or reclose demand: source group C, origin PASSAGE, no tag. -/
def passageDemand (dir : Direction) (cls : Nat) (d : DoorIx) : Demand := ⟨d, dir, cls, .C, .PASSAGE, none⟩

/-- R119: MC acts on the outcome of a reclose: ALREADY and OVERRULED end the record, every other outcome keeps it. -/
def recloseOutcome (d : DoorIx) (o : DemandOutcome) (s : State) : State :=
  if o = .ALREADY ∨ o = .OVERRULED then endPassage d s else s

/-- R118: submit the reclose of a passage in RECLOSING, at the class of the mode. -/
def submitReclose (d : DoorIx) (x : Passage) (s : State) : State :=
  let s := s.setPassage d { x with phase := .RECLOSING, demanded := true }
  let (o, s) := decideDemand (passageDemand .CLOSE (passageClass s.mc.mode) d) s
  recloseOutcome d o s

/-- R118 step 1: the OPEN entry of origin PASSAGE is removed. -/
def releasePassageEntry (d : DoorIx) (s : State) : State :=
  match s.entry d with
  | some e => if e.direction = .OPEN ∧ e.origin = .PASSAGE then removeEntry .RELEASE d s else s
  | none => s

/-- R118: the end of hold of a passage in OPENING or HELD. -/
def endHold (d : DoorIx) (x : Passage) (s : State) : State :=
  let s := releasePassageEntry d s
  if s.position d = .OPENING then s.setPassage d { x with phase := .RECLOSING, demanded := false }
  else submitReclose d x s

/-- R118: the handle leaves OPEN: a passage in OPENING or HELD takes its end of hold. -/
def endHoldOf (d : DoorIx) (s : State) : State :=
  match s.passage d with
  | some x => if x.phase = .RECLOSING then s else endHold d x s
  | none => s

/-- R115, R117: the record a passage demand's outcome makes, if it makes one. -/
def passageMade : DemandOutcome → Option Passage
  | .ENQUEUED | .REPLACED | .REVERSED | .MERGED => some ⟨.OPENING, 0, false, false⟩
  | .ALREADY => some ⟨.HELD, 0, false, false⟩
  | .OVERRULED | .DOOR_FAULT | .WRONG_MODE | .NOT_CONFIGURED => none

/-- End the door's passage record, if it has one (R115, R121). -/
def endAnyPassage (d : DoorIx) (s : State) : State :=
  match s.passage d with
  | some _ => endPassage d s
  | none => s

/-- R115: submit a passage OPEN demand; a record made replaces one in RECLOSING, which ends after the decision
(entry 68). An OPEN that itself wins over the CLOSE entry of a RECLOSING record makes the new record, by R115, though R33
says that the door then opens with no passage standing (entry 70). -/
def openPassage (d : DoorIx) (s : State) : State :=
  let (o, s) := decideDemand (passageDemand .OPEN (passageClass s.mc.mode) d) s
  match passageMade o with
  | some x => (endAnyPassage d s).makePassage d x
  | none => s

/-! ### Handles (R112 to R116) -/

/-- R114: the entry of origin LOCAL is released: READY removed, MOVING removed for hold-to-run release. -/
def releaseLocal (d : DoorIx) (s : State) : State :=
  match s.entry d with
  | some e => if e.origin = .LOCAL ∧ e.phase ≠ .WARNING then removeEntry .RELEASE d s else s
  | none => s

/-- R116: the handle of a STANDARD door is denied: counted, and DENY queued unless the entry warns or moves. -/
def denyHandle (d : DoorIx) (s : State) : State :=
  let t := s.modSea d fun x => { x with denied := satInc 255 x.denied }
  match t.entry d with
  | some e => if e.phase = .READY then queueOrder d .DENY t else t
  | none => queueOrder d .DENY t

/-- R113: a local demand. -/
def localDemand (dir : Direction) (d : DoorIx) (s : State) : State :=
  (decideDemand ⟨d, dir, 0, .C, .LOCAL, none⟩ s).2

/-- R112: what the new handle asks for, by the mode and the door class. -/
def handleDemand (d : DoorIx) (new : Handle) (s : State) : State :=
  match new, s.mc.mode with
  | .OPEN, .LOCAL => localDemand .OPEN d s
  | .CLOSE, .LOCAL => localDemand .CLOSE d s
  | .OPEN, .CLOSED => openPassage d s
  | .OPEN, .EMERGENCY => if s.isEscape d then openPassage d s else denyHandle d s
  | .CLOSE, .CLOSED | .CLOSE, .EMERGENCY | .IDLE, _ | .UNKNOWN, _ => s

/-- R112, R114, R118: a handle change: release of a local entry, end of hold (entry 64), then the demand. -/
def handleChange (d : DoorIx) (prev new : Handle) (s : State) : State :=
  let s := if prev = .OPEN ∨ prev = .CLOSE then releaseLocal d s else s
  let s := if prev = .OPEN ∧ s.mc.mode ≠ .LOCAL then endHoldOf d s else s
  handleDemand d new s

/-- MC takes the handle of a presentation (R112): a change to UNKNOWN is not acted on. -/
def presentHandle (d : DoorIx) (prev : Handle) (s : State) : State :=
  let new := s.handle d
  if new = prev ∨ new = .UNKNOWN then s else handleChange d prev new s

/-- MC takes the position of a presentation for a standing passage (R117 to R119). -/
def progressPassage (d : DoorIx) (x : Passage) (s : State) : State :=
  match x.phase with
  | .OPENING => if s.position d = .OPEN ∧ s.handle d = .OPEN then s.setPassage d { x with phase := .HELD } else s
  | .HELD => s
  | .RECLOSING =>
    if x.demanded then (if s.position d = .CLOSED then endPassage d s else s)
    else if s.position d = .OPENING then s
    else submitReclose d x s

/-- MC takes the position of a presentation (R117 to R119, R123); the clear comes first (entry 55). -/
def presentPassage (d : DoorIx) (s : State) : State :=
  let s := if s.position d = .CLOSED then clearDoor .DOOR_OPEN_AT_SEA d s else s
  match s.passage d with
  | some x => progressPassage d x s
  | none => s

/-! ### Mode entries (R108 to R110, R121, R123) -/

/-- R108: clear DOOR_OPEN_AT_SEA of every door and set every open-at-sea timer to 0. -/
def clearAtSea (s : State) : State :=
  let t := forEach allDoors (clearDoor .DOOR_OPEN_AT_SEA) s
  { t with mc := { t.mc with oas := Vector.replicate 96 ⟨0, false⟩ } }

/-- R102: the flush and the abort meet: an entry is to be flushed and a run is to be aborted. Where either is missing,
both orders leave the same part. -/
def flushMeetsAbort (s : State) : Bool := !(matching s flushes).isEmpty && !(liveRuns s).isEmpty

/-- R102, R108: the abort and the flush, in the order left open (entry 2). In both orders no run completes and
none resumes. -/
def abortAndFlush (s : State) : State :=
  if flushMeetsAbort s then
    let (flushFirst, t) := freeChoice Config.flushBeforeAbort s
    if flushFirst then abortRuns (flush t) else flush (abortRuns t)
  else flush (abortRuns s)

/-- R108: entry into LOCAL; the passages end door by door, then the conditions clear door by door (entry 52). -/
def enterLocal (s : State) : State := clearAtSea (forEach allDoors endAnyPassage (abortAndFlush (setMode .LOCAL s)))

/-- R109: entry into CLOSED from LOCAL. -/
def enterClosedFromLocal (s : State) : State := launchSystem 2 .MODE (setMode .CLOSED s)

/-- R109: entry into CLOSED from EMERGENCY. -/
def enterClosedFromEmergency (s : State) : State := setMode .CLOSED s

/-- The cause of an entry into EMERGENCY (R106, R107). -/
inductive EmergencyCause where
  | LINE | MODE
  deriving DecidableEq, Repr

/-- R48, R110: the origin of the reversed entries. -/
def EmergencyCause.origin : EmergencyCause → Origin
  | .LINE => .LINE
  | .MODE => .MODE

/-- R101, R110: the origin of the system run. -/
def EmergencyCause.runOrigin : EmergencyCause → RunOrigin
  | .LINE => .LINE
  | .MODE => .MODE

/-- R110 step 2: the passage record of a STANDARD door ends, and a reclose of class 3 is submitted. -/
def takePassage (d : DoorIx) (s : State) : State :=
  match s.passage d with
  | some _ => if s.isEscape d then s else (decideDemand (passageDemand .CLOSE 3 d) (endPassage d s)).2
  | none => s

/-- R110: entry into EMERGENCY; step 2 takes the doors in ascending index (entry 51). -/
def enterEmergency (c : EmergencyCause) (s : State) : State :=
  launchSystem 3 c.runOrigin
    (forEach allDoors takePassage
      (reverseForEmergency c.origin (denyForEmergency (raiseForEmergency (setMode .EMERGENCY s)))))

/-! ### Bridge loss (R126) -/

/-- Write the bridge-loss state. -/
def setBridgeLost (b : Bool) (s : State) : State := { s with mc := { s.mc with bridgeLost := b } }

/-- R126: bridge loss begins: BRIDGE_LOST, and the action of the system record. -/
def loseBridge (s : State) : State :=
  let t := raiseAlarm .BRIDGE_LOST noSubject (setBridgeLost true s)
  if t.tables.system.lossAction = 1 ∧ t.mc.mode = .LOCAL then enterClosedFromLocal t else t

/-- R126: MC evaluates bridge loss, while the part is IN_SERVICE. -/
def evalBridge (s : State) : State :=
  if s.inService = false then s
  else if bridgeSilent s then (if s.mc.bridgeLost then s else loseBridge s)
  else if s.mc.bridgeLost then clearAlarm .BRIDGE_LOST noSubject (setBridgeLost false s) else s

/-! ### Presentations (R5, R8, R9) -/

/-- IB takes a presentation: a changed position recomputes the door's compartments (R146). -/
def presentIB (d : DoorIx) (prev : Position) (s : State) : State := if s.position d = prev then s else recomputeDoor d s

/-- One action takes a presentation of a door. -/
def takePresentation (d : DoorIx) (b : Before) (a : PresentAct) : State → State :=
  match a with
  | .MS => presentMS d b
  | .CS => presentCS d
  | .MC_PASSAGE => presentPassage d
  | .MC_HANDLE => presentHandle d b.handle
  | .GRU => pokeRuns d
  | .IB => presentIB d b.position

/-- The six actions. -/
def presentActs : List PresentAct := [.MS, .CS, .MC_PASSAGE, .MC_HANDLE, .GRU, .IB]

/-- Insert an action by its place; an action stands after those of lower place. -/
def insertAct (place : PresentAct → Nat) (a : PresentAct) : List PresentAct → List PresentAct
  | [] => [a]
  | x :: rest => if place a ≤ place x then a :: x :: rest else x :: insertAct place a rest

/-- The six actions in the order of their places (entry 1). -/
def actOrder (place : PresentAct → Nat) : List PresentAct := presentActs.foldr (insertAct place) []

/-- A presentation of a door, its actions taken in an order. -/
def presentIn (order : List PresentAct) (d : DoorIx) (b : Before) (s : State) : State :=
  settleRuns (forEach order (takePresentation d b) s)

/-- R5: the presentation of a door to the blocks, in the order left open (entry 1). While the part is UNCONFIGURED no
block but IB acts on it (R135). -/
def present (d : DoorIx) (b : Before) (s : State) : State :=
  if s.inService then
    presentIn (actOrder (Config.presentationPlace s.freeCount)) d b { s with freeCount := s.freeCount + 1 }
  else presentIB d b.position s

end Sys2Proof.Machine
end

