-- ==== Sys2Proof/Machine/Ring.lean ====
section
/-!
DEFINITION. The Ring Controller (chapters 1 and 7): matching and the duplicate filter, the taking of REPORT, EVENT,
HPU_REPORT and LOOP, the poll cycle, the loop check and the misses.
-/
namespace Sys2Proof.Machine

/-! ### Counters and matching (R130, R131, R143) -/

/-- One more of a 16-bit count, saturating at 65535 (R143, R177). -/
def count16 (n : Nat) : Nat := satInc 65535 n

/-- Change a ring port. -/
def modSide (p : RingPort) (f : RingSide → RingSide) (s : State) : State :=
  match p with
  | .EAST => { s with rc := { s.rc with east := f s.rc.east } }
  | .WEST => { s with rc := { s.rc with west := f s.rc.west } }

/-- A frame at a ring port is discarded and counted. -/
def ringDiscard (p : RingPort) (s : State) : State := modSide p (fun x => { x with discarded := count16 x.discarded }) s

/-- A frame at a ring port is counted received. -/
def ringReceive (p : RingPort) (s : State) : State := modSide p (fun x => { x with received := count16 x.received }) s

/-- A whole frame has arrived: the port's receive state is HUNT (R189, R165). -/
def ringHunt (p : RingPort) (s : State) : State := modSide p (fun x => { x with rx := .HUNT }) s

/-- R131: the present door of a node address, of lowest index. -/
def doorAt (s : State) (src : Byte) : Option DoorIx :=
  allDoors.find? fun d => s.isPresent d && decide (s.tables.doors[d].node = src.toNat)

/-- R131: the present HPU of a node address, of lowest index. -/
def hpuAt (s : State) (src : Byte) : Option HpuIx :=
  allHpus.find? fun h => s.hpuPresent h && decide (s.tables.hpus[h].node = src.toNat)

/-- R132: a second copy is discarded and counted. -/
def secondCopy (p : RingPort) (s : State) : State :=
  let t := ringReceive p s
  { t with rc := { t.rc with secondCopies := count16 t.rc.secondCopies } }

/-- R132: the duplicate filter of a matched frame: a second copy, or acceptance and then the rule for its kind. -/
def filtered (p : RingPort) (src seq : Byte) (take : State → State) (s : State) : State :=
  if s.filterAt src.toNat = some seq then secondCopy p s
  else take (ringReceive p (s.setFilter src.toNat (some seq)))

/-! ### REPORT and EVENT (R5 to R8, R134, R135) -/

/-- R9, R5, R8: an accepted frame of a door ends the LOST state, and DOOR_SILENT clears. -/
def heardFrom (d : DoorIx) (s : State) : State :=
  clearDoor .DOOR_SILENT d (s.modReported d fun r => { r with lost := false, misses := 0 })

/-- R5, R7: the fields of a REPORT, and DOOR_SENSOR (entry 55). A position other than UNKNOWN has been shown (entry 47). -/
def takeReport (d : DoorIx) (r : ReportBits) (s : State) : State :=
  let s := heardFrom d s
  let s := s.modReported d fun x =>
    { x with handle := reportedHandle r.handle, lowPressure := r.lowPressure, sensorFault := r.sensorFault
             shown := x.shown || decide (reportPosition r ≠ .UNKNOWN) }
  let s := s.setPosition d (reportPosition r)
  if contradiction r then raiseDoor .DOOR_SENSOR d s else clearDoor .DOOR_SENSOR d s

/-- R8, R7: the fields of an EVENT; a set sensor fault flag makes the position UNKNOWN and raises DOOR_SENSOR. -/
def takeEvent (d : DoorIx) (h : HandleCode) (low fault : Bool) (s : State) : State :=
  let s := heardFrom d s
  let s := s.modReported d fun x =>
    { x with handle := reportedHandle h, lowPressure := low, sensorFault := fault }
  if fault then raiseDoor .DOOR_SENSOR d (s.setPosition d .UNKNOWN) else s

/-- R134: the poll ends; it stays open until the next POLL. -/
def endPoll (s : State) : State := { s with rc := { s.rc with pollEnded := true } }

/-- A REPORT (R5, R131, R132, R134). -/
def reportArrives (p : RingPort) (src seq : Byte) (r : ReportBits) (s : State) : State :=
  match doorAt s src with
  | some d =>
    if s.rc.polled = some d then
      filtered p src seq (fun t => present d (before t d) (takeReport d r (endPoll t))) s
    else ringDiscard p s
  | none => ringDiscard p s

/-- An EVENT (R8, R131, R132, R135). -/
def eventArrives (p : RingPort) (src seq : Byte) (h : HandleCode) (low fault : Bool) (s : State) : State :=
  match doorAt s src with
  | some d => filtered p src seq (fun t => present d (before t d) (takeEvent d h low fault t)) s
  | none => ringDiscard p s

/-! ### HPU_REPORT (R136, R137) -/

/-- The state an HPU reports. -/
def reportedHpu : HpuCode → HpuState
  | .READY => .READY
  | .FAILED => .FAILED

/-- R136: the alarm conditions of an HPU at its report, while the part is IN_SERVICE: HPU_FAILED first (entry 54). -/
def hpuAlarms (h : HpuIx) (st : HpuCode) (s : State) : State :=
  if s.inService then
    clearAlarm .HPU_SILENT h.val
      (if st = .FAILED then raiseAlarm .HPU_FAILED h.val s else clearAlarm .HPU_FAILED h.val s)
  else s

/-- R136: the fields, the alarms, and E. -/
def takeHpuReport (h : HpuIx) (st : HpuCode) (pressure : Nat) (s : State) : State :=
  recomputeE h (hpuAlarms h st (s.modHpu h fun _ => ⟨reportedHpu st, pressure, 0⟩))

/-- An HPU_REPORT (R131, R132, R136). -/
def hpuReportArrives (p : RingPort) (src seq : Byte) (st : HpuCode) (pressure : Nat) (s : State) : State :=
  match hpuAt s src with
  | some h => filtered p src seq (takeHpuReport h st pressure) s
  | none => ringDiscard p s

/-- The report age at which an HPU falls silent, in ticks (R137). -/
def silentAge : Nat := 30

/-- R137: a present HPU that is not LOST has been silent for 30 ticks, IN_SERVICE. -/
def hpuSilent (s : State) (h : HpuIx) : Bool :=
  s.inService && s.hpuPresent h && decide (silentAge ≤ s.rc.hpus[h].age) && decide (s.rc.hpus[h].state ≠ .LOST)

/-- R137: the HPU becomes LOST, HPU_SILENT is raised, and then CS recomputes E (entry 60). -/
def loseHpu (h : HpuIx) (s : State) : State :=
  recomputeE h (raiseAlarm .HPU_SILENT h.val (s.modHpu h fun x => { x with state := .LOST }))

/-! ### The loop check (R141, R142) -/

/-- Write the loop check. -/
def setLoop (x : Option LoopCheck) (s : State) : State := { s with rc := { s.rc with loop := x } }

/-- The loop timer of a check, in ticks (R141). -/
def loopTicks : Nat := 10

/-- R141: start a loop check if none is waiting. -/
def startLoop (s : State) : State :=
  match s.rc.loop with
  | some _ => s
  | none => ringSend 0 6 [] (setLoop (some ⟨s.rc.txSeq, false, false, loopTicks⟩) s)

/-- R141: the flag of the copy that arrives at a port stands set: EAST's copy arrives at WEST. -/
def LoopCheck.copySeen (x : LoopCheck) : RingPort → Bool
  | .WEST => x.eastCopy
  | .EAST => x.westCopy

/-- R141: set the flag of the copy that arrives at a port. -/
def LoopCheck.setCopy (x : LoopCheck) : RingPort → LoopCheck
  | .WEST => { x with eastCopy := true }
  | .EAST => { x with westCopy := true }

/-- R141: the LOOP copy that the waiting check takes from a port. -/
def loopTaken (s : State) (p : RingPort) (seq : Byte) : Option LoopCheck :=
  match s.rc.loop with
  | some x => if x.seq = seq ∧ x.copySeen p = false then some x else none
  | none => none

/-- R142: a check ends complete. -/
def loopComplete (s : State) : State :=
  clearAlarm .RING_OPEN noSubject { s with rc := { s.rc with loop := none, incomplete := 0 } }

/-- R142: a check ends incomplete. -/
def loopIncomplete (s : State) : State :=
  let t := { s with rc := { s.rc with loop := none, incomplete := satInc 2 s.rc.incomplete,
                                      loopMisses := count16 s.rc.loopMisses } }
  if s.rc.incomplete = 1 then raiseAlarm .RING_OPEN noSubject t else t

/-- A LOOP copy (R141, R142). -/
def loopArrives (p : RingPort) (seq : Byte) (s : State) : State :=
  match loopTaken s p seq with
  | some x =>
    let y := x.setCopy p
    let t := ringReceive p s
    if y.eastCopy ∧ y.westCopy then loopComplete t else setLoop (some y) t
  | none => ringDiscard p s

/-! ### The poll cycle (R133, R134, R140) -/

/-- The reply limit of a poll, in ticks (R134). -/
def replyTicks : Nat := 3

/-- R133, R134: send POLL to a door; its poll is open. -/
def sendPoll (d : DoorIx) (s : State) : State :=
  let t := ringSend (byteOf s.tables.doors[d].node) 1 [] s
  { t with rc := { t.rc with polled := some d, pollEnded := false, replyLimit := replyTicks } }

/-- R133: the present door of lowest index. -/
def firstDoor (s : State) : Option DoorIx := allDoors.find? s.isPresent

/-- R133: the present door of lowest index above the polled door. -/
def nextDoor (s : State) : Option DoorIx :=
  match s.rc.polled with
  | some k => allDoors.find? fun d => s.isPresent d && decide (k < d)
  | none => none

/-- R133: the end of a cycle: a loop check if none is waiting, then POLL to the present door of lowest index. -/
def endCycle (s : State) : State :=
  match firstDoor s with
  | some d => sendPoll d (startLoop s)
  | none => startLoop s

/-- R133: the next POLL. -/
def pollNext (s : State) : State :=
  match nextDoor s with
  | some d => sendPoll d s
  | none => endCycle s

/-- R133: at an entry into IN_SERVICE the cycle begins with a POLL to the present door of lowest index. -/
def startPolling (s : State) : State :=
  match firstDoor s with
  | some d => sendPoll d s
  | none => s

/-- R133, R140: the poll has ended, and the cycle runs: orders and then the next POLL may go. -/
def mayTransmit (s : State) : Bool := s.inService && s.rc.pollEnded

/-- R134: the poll of a door waits for its reply past the reply limit. -/
def replyOverdue (s : State) : Option DoorIx :=
  if s.inService ∧ s.rc.pollEnded = false ∧ s.rc.replyLimit = 0 then s.rc.polled else none

/-- Consecutive misses at which a door is LOST (R9). -/
def missLimit : Nat := 3

/-- R9, R134: the third consecutive miss: comms LOST, position UNKNOWN, DOOR_SILENT, and then the presentation of the
change (entry 59). -/
def loseDoor (d : DoorIx) (s : State) : State :=
  let t := (s.modReported d fun r => { r with lost := true }).setPosition d .UNKNOWN
  present d (before s d) (raiseDoor .DOOR_SILENT d t)

/-- R9, R134: a poll ends as a miss. -/
def missPoll (d : DoorIx) (s : State) : State :=
  let t := (endPoll s).modReported d fun r => { r with misses := satInc missLimit r.misses }
  if t.rc.reported[d].misses = missLimit ∧ t.rc.reported[d].lost = false then loseDoor d t else t

end Sys2Proof.Machine
end

