-- ==== Sys2Proof/Machine/Receive.lean ====
section
/-!
DEFINITION. Reception of bytes (R165, R189, R190, R191): HUNT and IN_FRAME of station ports and ring ports, and which
frames they discard. A frame that is accepted is a command of its own row and is passed over here (entry 10).
-/
namespace Sys2Proof.Machine

/-- The shape of an envelope: its start delimiter, the bytes up to and with the length byte, the greatest length
(11.2, R165, R189). -/
structure Envelope where
  delimiter : Byte
  header : Nat
  maxLength : Nat
  deriving DecidableEq, Repr

/-- Station frames: kind, length, at most 64 payload bytes. -/
def stationEnvelope : Envelope := ⟨0x5A, 2, 64⟩
/-- Ring frames: destination, source, kind, sequence, length, at most 8 payload bytes. -/
def ringEnvelope : Envelope := ⟨0x5B, 5, 8⟩

/-- What a byte brings a port to. -/
inductive RxResult where
  /-- the port waits for more -/
  | stays (rx : RxState)
  /-- the frame is discarded, and the port is in HUNT -/
  | discards
  /-- the last CRC byte has come: these are the bytes after the delimiter -/
  | whole (got : List Byte)
  deriving DecidableEq, Repr

/-- R165: a byte in IN_FRAME, after the bytes got. -/
def inFrameByte (e : Envelope) (got : List Byte) (b : RxByte) : RxResult :=
  let all := got ++ [b.byte]
  let len := byteAt all (e.header - 1)
  if b.framingError then .discards
  else if all.length < e.header then .stays (.IN_FRAME all)
  else if e.maxLength < len then .discards
  else if all.length = e.header + len + 2 then .whole all
  else .stays (.IN_FRAME all)

/-- R165: a byte at a port. In HUNT only the start delimiter, received without a framing error, counts (entry 37). -/
def rxByte (e : Envelope) (rx : RxState) (b : RxByte) : RxResult :=
  match rx with
  | .HUNT => .stays (if b.byte = e.delimiter ∧ b.framingError = false then .IN_FRAME [] else .HUNT)
  | .IN_FRAME got => inFrameByte e got b

/-- R189: the CRC-16 of the bytes after the delimiter matches their last two. -/
def crcMatches (got : List Byte) : Bool :=
  decide (got.drop (got.length - 2) = crcBytes (got.take (got.length - 2)))

/-- The payload of a whole frame. -/
def wholePayload (e : Envelope) (got : List Byte) : List Byte := (got.drop e.header).take (got.length - e.header - 2)

/-! ### Station ports -/

/-- R165: a whole frame at a station port is accepted. -/
def stationAccepts (p : PortIx) (got : List Byte) : Bool :=
  crcMatches got && (decodeStationCommand p (got.getD 0 0) (wholePayload stationEnvelope got)).isSome

/-- Write a station port's receive state. -/
def setRx (p : PortIx) (x : RxState) (s : State) : State := s.modPort p fun t => { t with rx := x }

/-- R165: a frame at a station port is discarded and counted, and the port is in HUNT. -/
def stationDiscard (p : PortIx) (s : State) : State :=
  s.modPort p fun t => { t with rx := .HUNT, discarded := count16 t.discarded }

/-- R165: one byte at a station port. -/
def stationByte (p : PortIx) (s : State) (b : RxByte) : State :=
  match rxByte stationEnvelope s.sp[p].rx b with
  | .stays x => setRx p x s
  | .discards => stationDiscard p s
  | .whole got => if stationAccepts p got then setRx p .HUNT s else stationDiscard p s

/-- The bytes that arrive at a station port. -/
def stationBytes (p : PortIx) (l : List RxByte) (s : State) : State := l.foldl (stationByte p) s

/-- R165: more than one tick passes without a byte: a port IN_FRAME discards its frame. -/
def stationTimeout (p : PortIx) (s : State) : State :=
  match s.sp[p].rx with
  | .IN_FRAME _ => stationDiscard p s
  | .HUNT => s

/-! ### Ring ports -/

/-- Receive state of a ring port. -/
def ringRx (s : State) : RingPort → RxState
  | .EAST => s.rc.east.rx
  | .WEST => s.rc.west.rx

/-- R131, R141: a ring command is discarded by the rule that takes its kind. -/
def ringUnwanted (s : State) : Instr → Bool
  | .report _ src _ _ =>
    match doorAt s src with
    | some d => decide (s.rc.polled ≠ some d)
    | none => true
  | .event _ src _ _ _ _ => (doorAt s src).isNone
  | .hpuReport _ src _ _ _ => (hpuAt s src).isNone
  | .loopCopy p seq => (loopTaken s p seq).isNone
  | _ => true

/-- R130: a whole frame at a ring port is discarded: a check fails, the part sends its kind, or its rule does not
take it. -/
def ringRejects (s : State) (p : RingPort) (got : List Byte) : Bool :=
  !crcMatches got ||
    match decodeRingFrame p (got.getD 0 0) (got.getD 1 0) (got.getD 2 0) (got.getD 3 0) (wholePayload ringEnvelope got) with
    | .command c => ringUnwanted s c
    | .partSent | .bad => true

/-- Write a ring port's receive state. -/
def setRingRx (p : RingPort) (x : RxState) (s : State) : State := modSide p (fun t => { t with rx := x }) s

/-- R130, R189: one byte at a ring port. -/
def ringByte (p : RingPort) (s : State) (b : RxByte) : State :=
  match rxByte ringEnvelope (ringRx s p) b with
  | .stays x => setRingRx p x s
  | .discards => ringDiscard p (ringHunt p s)
  | .whole got => if ringRejects s p got then ringDiscard p (ringHunt p s) else ringHunt p s

/-- The bytes that arrive at a ring port. -/
def ringBytes (p : RingPort) (l : List RxByte) (s : State) : State := l.foldl (ringByte p) s

/-- R189: more than one tick passes without a byte: a port IN_FRAME discards its frame. -/
def ringTimeout (p : RingPort) (s : State) : State :=
  match ringRx s p with
  | .IN_FRAME _ => ringDiscard p (ringHunt p s)
  | .HUNT => s

end Sys2Proof.Machine
end

