-- ==== Sys2Proof/Machine/Answers.lean ====
section
/-!
DEFINITION. Station Ports (chapter 9): the steps of R168 and the role matrix, RESULT frames and the port counters, the
clamp of the class, the readings of R176 and R177, the heartbeat of R124.
-/
namespace Sys2Proof.Machine

/-! ### Accepting and answering (R165, R171, R192) -/

/-- R165: a frame of the port is accepted. -/
def acceptFrame (p : PortIx) (s : State) : State :=
  s.modPort p fun t => { t with rx := .HUNT, accepted := count16 t.accepted }

/-- R192: a RESULT: the kind answered, the code with the clamp mark in bit 7, the data. -/
def resultFrame (kind : Nat) (code : ResultCode) (clamped : Bool) (data : List Byte) : Frame :=
  ⟨.RESULT, [byteOf kind, byteOf (code.code + 128 * clamped.toNat)] ++ data⟩

/-- R171: answer DONE with data. -/
def answerDone (p : PortIx) (kind : Nat) (clamped : Bool) (data : List Byte) (s : State) : State :=
  place p (resultFrame kind .DONE clamped data) s

/-- R171, R177: answer a refusal code, with its data, and count it: every code but DONE refuses (entry 40). -/
def refuseWith (p : PortIx) (kind : Nat) (code : ResultCode) (clamped : Bool) (data : List Byte) (s : State) : State :=
  place p (resultFrame kind code clamped data) (s.modPort p fun t => { t with refused := count16 t.refused })

/-- R171: answer a refusal code without data. -/
def refuse (p : PortIx) (kind : Nat) (code : ResultCode) (s : State) : State := refuseWith p kind code false [] s

/-! ### The steps of R168 -/

/-- What R168 and R169 say of a command: its kind code, the roles it is permitted, whether it is decided while
UNCONFIGURED (step 1), refused in EMERGENCY (step 4), refused during a SAVE or a pending restart (step 5). -/
structure Gate where
  kind : Nat
  roles : List Role
  unconfigured : Bool
  emergency : Bool
  exclusive : Bool
  deriving DecidableEq, Repr

/-- Every role (R169). -/
def anyRole : List Role := [.NONE, .BRIDGE, .SAFETY, .ENGINE, .SERVICE]

/-- Gate of an operating command. -/
def operating (kind : Nat) (roles : List Role) : Gate := ⟨kind, roles, false, false, false⟩
/-- Gate of an OPEN command (step 4). -/
def opening (kind : Nat) : Gate := ⟨kind, [.BRIDGE], false, true, false⟩
/-- Gate of a reading command, taken in both part states. -/
def reading (kind : Nat) (roles : List Role) : Gate := ⟨kind, roles, true, false, false⟩
/-- Gate of the SERVICE commands of step 5. -/
def exclusive (kind : Nat) : Gate := ⟨kind, [.SERVICE], true, false, true⟩

/-- R168 step 5: a SAVE is in flight or a restart is pending. -/
def storeBusy (s : State) : Bool := s.cfs.save.isSome || s.cfs.restartPending

/-- R168 steps 1 to 5, with step 2's test given. -/
def gateRefusal (g : Gate) (namesNothing : Bool) (p : PortIx) (s : State) : Option ResultCode :=
  if s.inService = false ∧ g.unconfigured = false then some .NOT_CONFIGURED
  else if namesNothing then some .INVALID_VALUE
  else if g.roles.contains (s.commandRole p) = false then some .NOT_PERMITTED
  else if g.emergency ∧ s.mc.mode = .EMERGENCY then some .WRONG_MODE
  else if g.exclusive ∧ storeBusy s then some .BUSY
  else none

/-- R168: an accepted command is counted, then refused by the first step that refuses, or handed on. -/
def decideCommand (g : Gate) (namesNothing : Bool) (p : PortIx) (handTo : State → State) (s : State) : State :=
  let t := acceptFrame p s
  match gateRefusal g namesNothing p t with
  | some c => refuse p g.kind c t
  | none => handTo t

/-! ### MODE_SET (R106) -/

/-- R106: MC decides a request for LOCAL. -/
def requestLocal (p : PortIx) (s : State) : State :=
  match s.mc.mode with
  | .LOCAL => answerDone p 2 false [] s
  | .CLOSED => answerDone p 2 false [] (settleRuns (enterLocal s))
  | .EMERGENCY => refuse p 2 .WRONG_MODE s

/-- R106: MC decides a request for CLOSED. -/
def requestClosed (p : PortIx) (s : State) : State :=
  match s.mc.mode with
  | .LOCAL => answerDone p 2 false [] (settleRuns (enterClosedFromLocal s))
  | .CLOSED => answerDone p 2 false [] s
  | .EMERGENCY => if s.mc.line then refuse p 2 .WRONG_MODE s else answerDone p 2 false [] (enterClosedFromEmergency s)

/-- R106: MC decides a request for EMERGENCY. -/
def requestEmergency (p : PortIx) (s : State) : State :=
  match s.mc.mode with
  | .LOCAL | .CLOSED => answerDone p 2 false [] (settleRuns (enterEmergency .MODE s))
  | .EMERGENCY => answerDone p 2 false [] s

/-! ### Door commands (R35, R170) -/

/-- R170: the class used. -/
def usedClass (s : State) (p : PortIx) (requested : Nat) : Nat := min requested (s.row p).maxClass

/-- R35, R192: the outcome code of a DONE to a door command; none where the outcome refuses. -/
def doneOutcome : DemandOutcome → Option Nat
  | .ENQUEUED | .REPLACED | .REVERSED => some 0
  | .MERGED => some 1
  | .ALREADY => some 2
  | .OVERRULED | .DOOR_FAULT | .WRONG_MODE | .NOT_CONFIGURED => none

/-- R35: the refusal code of an outcome. -/
def refusedOutcome : DemandOutcome → ResultCode
  | .OVERRULED => .OVERRULED
  | .DOOR_FAULT => .DOOR_FAULT
  | .WRONG_MODE => .WRONG_MODE
  | .NOT_CONFIGURED => .NOT_CONFIGURED
  | .ENQUEUED | .REPLACED | .REVERSED | .MERGED | .ALREADY => .DONE

/-- R35: answer a station's demand by its outcome. -/
def answerDemand (p : PortIx) (kind : Nat) (clamped : Bool) (o : DemandOutcome) (s : State) : State :=
  match doneOutcome o with
  | some k => answerDone p kind clamped [byteOf k] s
  | none => refuseWith p kind (refusedOutcome o) clamped [] s

/-- R168 step 6: the present door that a byte names. -/
def presentDoor (s : State) (door : Byte) : Option DoorIx :=
  match ix? 96 door.toNat with
  | some d => if s.isPresent d then some d else none
  | none => none

/-- R168 routing: the demand of a station's door command. -/
def stationDemand (s : State) (p : PortIx) (dir : Direction) (d : DoorIx) (requested : Nat) : Demand :=
  ⟨d, dir, usedClass s p requested, s.rowGroup p, .STATION p, none⟩

/-- R168 steps 6 and 7, R35: a door command. -/
def doorCommand (p : PortIx) (kind : Nat) (dir : Direction) (door cls : Byte) (s : State) : State :=
  match presentDoor s door with
  | some d =>
    let (o, t) := decideDemand (stationDemand s p dir d cls.toNat) s
    answerDemand p kind (decide (usedClass s p cls.toNat ≠ cls.toNat)) o (settleRuns t)
  | none => refuse p kind .UNKNOWN_TARGET s

/-! ### Group commands (R90) -/

/-- The group a byte names (11.1). -/
def groupNamed (b : Byte) : Option GroupRef :=
  if b.toNat = 255 then some .ALL else (ix? 24 b.toNat).map .stored

/-- R90 steps 1 and 2; ALL is always present and not masked (R87). -/
def groupRefusal (s : State) (p : PortIx) : GroupRef → Option ResultCode
  | .stored g =>
    if s.tables.groups[g].present ≠ 1 then some .UNKNOWN_TARGET
    else if (s.row p).groupMask.getLsbD g.val = false then some .NOT_PERMITTED
    else none
  | .ALL => none

/-- The number of the run in a slot. -/
def slotNumber (s : State) (i : SlotIx) : Byte :=
  match s.gru.slots[i] with
  | some r => r.number
  | none => 0

/-- R90 steps 3 to 7, R92: accept the run, or refuse it; the clamp mark goes with both. -/
def launchStation (p : PortIx) (kind : Nat) (dir : Direction) (g : GroupRef) (requested : Nat) (s : State) : State :=
  let used := usedClass s p requested
  let clamped := decide (used ≠ requested)
  match acceptRun p g dir used s with
  | (.TAKEN i, t) => answerDone p kind clamped [slotNumber t i, byteOf i.val] t
  | (.REFUSED c, t) => refuseWith p kind c clamped [] t

/-- R168 step 6, R90: a group command. -/
def groupCommand (p : PortIx) (kind : Nat) (dir : Direction) (group cls : Byte) (s : State) : State :=
  match groupNamed group with
  | some g =>
    match groupRefusal s p g with
    | some c => refuse p kind c s
    | none => launchStation p kind dir g cls.toNat s
  | none => refuse p kind .UNKNOWN_TARGET s

/-! ### RUN_CANCEL (R100), ALARM_ACK (R159), SNAPSHOT_REQ (R151) -/

/-- R100: the refusal of a cancel of a run. -/
def cancelRefusal (s : State) (p : PortIx) (r : Run) : Option ResultCode :=
  match r.origin with
  | .STATION q => if q ≠ p ∧ s.roleAt p ≠ .BRIDGE then some .NOT_PERMITTED else none
  | .MODE | .LINE =>
    if s.roleAt p ≠ .BRIDGE then some .NOT_PERMITTED
    else if s.mc.mode = .EMERGENCY then some .WRONG_MODE
    else none

/-- R100: a RUN_CANCEL. -/
def runCancel (p : PortIx) (n : Byte) (s : State) : State :=
  match runNumbered s n with
  | some r =>
    match cancelRefusal s p r with
    | some c => refuse p 7 c s
    | none => answerDone p 7 false [] (settleRuns (cancelRun r s))
  | none => refuse p 7 .UNKNOWN_TARGET s

/-- R159, R191: an ALARM_ACK naming one record; the subject is compared as sent. -/
def alarmAck (p : PortIx) (kind subject : Byte) (s : State) : State :=
  match alarmKindOf kind.toNat with
  | some k =>
    match findRecord k subject.toNat s with
    | some r => answerDone p 8 false [] (ackRecord r s)
    | none => refuse p 8 .UNKNOWN_TARGET s
  | none => refuse p 8 .INVALID_VALUE s

/-- R151: the snapshot is latched and answered, the RESULT before the first part; a part of an abandoned snapshot is
still in SP's hands, so part 1 waits for its report (R152). -/
def takeSnapshot (p : PortIx) (abandoned : Bool) (s : State) : State :=
  let n := partCount s
  let t := latchSnapshot s
  let u := answerDone p 9 false [t.ib.snapNumber, byteOf n] t
  if abandoned then setSending (some ⟨p, n, 1, true⟩) u else handOn ⟨p, n, 1, false⟩ u

/-- R151: a SNAPSHOT_REQ. -/
def snapshotReq (p : PortIx) (s : State) : State :=
  match s.ib.sending with
  | none => takeSnapshot p false s
  | some x => if x.port = p then takeSnapshot p true s else refuse p 9 .BUSY s

/-! ### TABLE_READ (R14, R176, R193) -/

/-- The bytes of records that one RESULT payload holds: 64 less the header and the read's three data bytes (R193). -/
def readRoom : Nat := 59

/-- The records of a list that fit whole in some bytes, first to last. -/
def fitting : Nat → List (List Byte) → List (List Byte)
  | _, [] => []
  | room, r :: rest => if r.length ≤ room then r :: fitting (room - r.length) rest else []

/-- R176: the records a read returns: from the first index on, at most the count, as many as fit. -/
def recordsRead (records : List (List Byte)) (first count : Nat) : List (List Byte) :=
  fitting readRoom ((records.drop first).take count)

/-- R176: answer a read of a table of `size` places with its records; then the effect of the read on those returned. -/
def tableRead (p : PortIx) (table size : Nat) (records : List (List Byte)) (first count : Byte)
    (effect : Nat → State → State) (s : State) : State :=
  if size ≤ first.toNat then refuse p 11 .INVALID_VALUE s
  else
    let l := recordsRead records first.toNat count.toNat
    effect l.length (answerDone p 11 false ([byteOf table, first, byteOf l.length] ++ l.flatten) s)

/-- A read that changes no field of a record (R176). -/
def noEffect (_ : Nat) (s : State) : State := s

/-- R14: a read of the door state view clears both fresh flags of every door it returned. -/
def clearFresh (first n : Nat) (s : State) : State :=
  { s with ms := { s.ms with doors := updAll s.ms.doors fun d m =>
      if first ≤ d.val ∧ d.val < first + n then { m with closeFresh := false, openFresh := false } else m } }

/-- Records of the door configuration view. -/
def doorConfigs (s : State) : List (List Byte) := allDoors.map fun d => s.tables.doors[d].encode
/-- Records of the door state view. -/
def doorStates (s : State) : List (List Byte) := allDoors.map (doorStateView s)
/-- Records of the HPU configuration view. -/
def hpuConfigs (s : State) : List (List Byte) := allHpus.map fun h => s.tables.hpus[h].encode
/-- Records of the HPU state view. -/
def hpuStates (s : State) : List (List Byte) := allHpus.map (hpuStateView s)
/-- Records of the Group Table. -/
def groupRecords (s : State) : List (List Byte) := allGroups.map fun g => s.tables.groups[g].encode
/-- Records of the permit-row configuration view. -/
def permitConfigs (s : State) : List (List Byte) := allPorts.map fun p => (s.row p).encode
/-- Records of the permit-row state view. -/
def permitStates (s : State) : List (List Byte) := allPorts.map (permitStateView s)
/-- The alarm records standing, in list order. -/
def alarmRecords (s : State) : List (List Byte) := s.al.records.map AlarmRecord.encode

/-! ### COUNTER_READ (R177, R192) -/

/-- The STATION set: accepted, discarded and refused, port 0 first. -/
def stationCounters (s : State) : List Byte :=
  allPorts.flatMap fun p => be2 s.sp[p].accepted ++ be2 s.sp[p].discarded ++ be2 s.sp[p].refused

/-- R177: every counter of the STATION set is 0. -/
def clearStationCounters (s : State) : State :=
  { s with sp := updAll s.sp fun _ t => { t with accepted := 0, discarded := 0, refused := 0 } }

/-- The RING set. -/
def ringCounters (s : State) : List Byte :=
  be2 s.rc.east.received ++ be2 s.rc.east.discarded ++ be2 s.rc.west.received ++ be2 s.rc.west.discarded
    ++ be2 s.rc.secondCopies ++ be2 s.rc.loopMisses ++ be2 s.ms.moveRepeats ++ be2 s.al.lost

/-- R177: every counter of the RING set is 0. -/
def clearRingCounters (s : State) : State :=
  { s with rc := { s.rc with east := { s.rc.east with received := 0, discarded := 0 }
                             west := { s.rc.west with received := 0, discarded := 0 }
                             secondCopies := 0
                             loopMisses := 0 }
           ms := { s.ms with moveRepeats := 0 }
           al := { s.al with lost := 0 } }

/-- R177: a COUNTER_READ: the values as they stand, then the clear where the flag is not 0. -/
def counterRead (p : PortIx) (set : Nat) (counters : List Byte) (clear : Byte) (reset : State → State) (s : State) :
    State :=
  let t := answerDone p 12 false (byteOf set :: counters) s
  if clear = 0 then t else reset t

/-! ### HEARTBEAT (R124) -/

/-- R124: the silent flag clears, STATION_SILENT clears for the port, and then MC is told (entry 68). -/
def unsilence (p : PortIx) (s : State) : State :=
  evalBridge (clearAlarm .STATION_SILENT p.val (s.modPort p fun t => { t with silent := false }))

/-- R124: a HEARTBEAT accepted on a port that must send them. -/
def heartbeatTaken (p : PortIx) (s : State) : State :=
  if s.sp[p].hbElapsed < s.tables.system.hbMin then s.modPort p fun t => { t with early := satInc 255 t.early }
  else
    let t := s.modPort p fun t => { t with hbElapsed := 0 }
    if s.sp[p].silent then unsilence p t else t

/-- R124: a HEARTBEAT that no step refuses. -/
def heartbeat (p : PortIx) (s : State) : State := if (s.row p).hbRequired = 1 then heartbeatTaken p s else s

/-- R125: a row's elapsed has reached the window maximum and its silent flag is clear, IN_SERVICE. -/
def windowReached (s : State) (p : PortIx) : Bool :=
  s.inService && decide ((s.row p).hbRequired = 1) && decide (s.tables.system.hbMax ≤ s.sp[p].hbElapsed)
    && !s.sp[p].silent

/-- R125: the row is silent: the flag, STATION_SILENT, and then MC is told (entry 68). -/
def fallSilent (p : PortIx) (s : State) : State :=
  evalBridge (raiseAlarm .STATION_SILENT p.val (s.modPort p fun t => { t with silent := true }))

end Sys2Proof.Machine
end

