-- ==== Sys2Proof/Machine/TableWrites.lean ====
section
/-!
DEFINITION. TABLE_WRITE (R173 to R175) with its effects on the owning blocks (R4, R59, R62, R125, R138, R150, R167), and
the commissioning checks (R181).
-/
namespace Sys2Proof.Machine

/-- A record as a RESULT names it: table code and index (R175, R181). -/
structure RecordName where
  table : Nat
  index : Nat
  deriving DecidableEq, Repr

/-- The two data bytes that name a record (R192). -/
def RecordName.bytes (r : RecordName) : List Byte := [byteOf r.table, byteOf r.index]

/-! ### Cross checks (R175) over the tables as the write would leave them -/

/-- The HPU that a door record names. -/
def DoorConfig.hpuIx (c : DoorConfig) : HpuIx := Fin.ofNat 8 c.hpu

/-- C − R of an HPU. -/
def HpuConfig.free (c : HpuConfig) : Nat := c.capacity - c.reserve

/-- A door of the tables is present. -/
def Tables.doorPresent (t : Tables) (d : DoorIx) : Bool := decide (t.doors[d].present = 1)
/-- An HPU of the tables is present. -/
def Tables.hpuPresent (t : Tables) (h : HpuIx) : Bool := decide (t.hpus[h].present = 1)
/-- A group of the tables is present. -/
def Tables.groupPresent (t : Tables) (g : GroupIx) : Bool := decide (t.groups[g].present = 1)

/-- A door's HPU is not present, or its draw exceeds C − R. -/
def Tables.drawFails (t : Tables) (d : DoorIx) : Bool :=
  let c := t.doors[d]
  !t.hpuPresent c.hpuIx || decide ((t.hpus[c.hpuIx]).free < c.draw)

/-- A present door but those excluded has the node address. -/
def Tables.doorWith (t : Tables) (node : Nat) (other : DoorIx → Bool) : Option DoorIx :=
  allDoors.find? fun d => other d && t.doorPresent d && decide (t.doors[d].node = node)

/-- A present HPU but those excluded has the node address. -/
def Tables.hpuWith (t : Tables) (node : Nat) (other : HpuIx → Bool) : Option HpuIx :=
  allHpus.find? fun h => other h && t.hpuPresent h && decide (t.hpus[h].node = node)

/-- R85: the list of a group, from the doors already listed on: each listed door is present and listed once, each
precondition door present and listed before. -/
def Tables.listOk (t : Tables) : List Nat → List GroupEntry → Bool
  | _, [] => true
  | seen, e :: rest =>
    (match ix? 96 e.door with
      | some d => t.doorPresent d
      | none => false)
    && !seen.contains e.door
    && (decide (e.pre = 127) ||
        ((match ix? 96 e.pre with
          | some q => t.doorPresent q
          | none => false) && seen.contains e.pre))
    && t.listOk (e.door :: seen) rest

/-- R85: a present group's list breaks a condition, or holds no entry (R181). -/
def Tables.groupFails (t : Tables) (g : GroupIx) : Bool :=
  t.groups[g].entries.isEmpty || !t.listOk [] t.groups[g].entries

/-- A present group lists the door, as a door or as a precondition door. -/
def Tables.lists (t : Tables) (d : DoorIx) (g : GroupIx) : Bool :=
  t.groupPresent g && t.groups[g].entries.any fun e => decide (e.door = d.val) || decide (e.pre = d.val)

/-- Some row has role SERVICE. -/
def Tables.hasService (t : Tables) : Bool := allPorts.any fun p => decide (t.permits[p].role = 4)

/-- The first of two answers. -/
def orElse {α : Type} (a b : Option α) : Option α :=
  match a with
  | some x => some x
  | none => b

/-- R175: a door write, over the tables with the written record in place. -/
def crossDoor (t : Tables) (d : DoorIx) : Option RecordName :=
  if t.doorPresent d then
    orElse (if t.drawFails d then some ⟨2, t.doors[d].hpu⟩ else none)
      (orElse ((t.doorWith t.doors[d].node fun x => decide (x ≠ d)).map fun x => ⟨0, x.val⟩)
        ((t.hpuWith t.doors[d].node fun _ => true).map fun h => ⟨2, h.val⟩))
  else
    orElse (if allDoors.any t.doorPresent then none else some ⟨0, d.val⟩)
      ((allGroups.find? (t.lists d)).map fun g => ⟨4, g.val⟩)

/-- The present doors on an HPU. -/
def Tables.doorsOn (t : Tables) (h : HpuIx) : List DoorIx :=
  allDoors.filter fun d => t.doorPresent d && decide (t.doors[d].hpu = h.val)

/-- R175: an HPU write. -/
def crossHpu (t : Tables) (h : HpuIx) : Option RecordName :=
  if t.hpuPresent h then
    orElse (if (t.doorsOn h).any fun d => decide ((t.hpus[h]).free < t.doors[d].draw) then some ⟨2, h.val⟩ else none)
      (orElse ((t.doorWith t.hpus[h].node fun _ => true).map fun d => ⟨0, d.val⟩)
        ((t.hpuWith t.hpus[h].node fun x => decide (x ≠ h)).map fun x => ⟨2, x.val⟩))
  else if (t.doorsOn h).isEmpty then none else some ⟨2, h.val⟩

/-- R175: a group write. -/
def crossGroup (t : Tables) (g : GroupIx) : Option RecordName :=
  if t.groupPresent g && t.groupFails g then some ⟨4, g.val⟩ else none

/-- R175, R167: a permit-row write. -/
def crossPermit (t : Tables) (p : PortIx) : Option RecordName := if t.hasService then none else some ⟨5, p.val⟩

/-! ### In use (R174) -/

/-- R174: the door has an entry or a passage record. -/
def doorInUse (s : State) (d : DoorIx) : Bool := (s.entry d).isSome || (s.passage d).isSome

/-- R174: the HPU has committed flow, or a door whose HPU field names it has an entry in READY or WARNING. -/
def hpuInUse (s : State) (h : HpuIx) : Bool :=
  decide (0 < s.cs.flow[h].committed)
    || allDoors.any fun d => decide (s.tables.doors[d].hpu = h.val) && (match s.entry d with
        | some e => decide (e.phase ≠ .MOVING)
        | none => false)

/-- R174: the group stands in a live context. -/
def groupInUse (s : State) (g : GroupIx) : Bool := (liveRuns s).any fun r => decide (r.group = .stored g)

/-! ### Effects of a taken write -/

/-- Write the tables. -/
def setTables (t : Tables) (s : State) : State := { s with tables := t }

/-- R138: the filter entries of the old and the new address become none. -/
def resetFilters (old new : Nat) (s : State) : State := (s.setFilter old none).setFilter new none

/-- R138: the polled door's poll, if it still waits, ends without a result. -/
def endPollOf (d : DoorIx) (s : State) : State := if s.rc.polled = some d then endPoll s else s

/-- R4, R138: the write changed a door's address or present flag. -/
def resetDoor (d : DoorIx) (old new : Nat) (s : State) : State :=
  (unqueueOrder d (endPollOf d (resetFilters old new s))).modReported d fun _ => Reported.start

/-- R4: the door conditions cleared when a door is made not present (entry 55). -/
def doorConditions : List AlarmKind := [.DOOR_SILENT, .DOOR_SENSOR, .DOOR_FAULT, .UNSUPERVISED_MOTION, .DOOR_OPEN_AT_SEA]

/-- R4, R123: a door made not present: its conditions clear, its open-at-sea timer is 0. -/
def dismissDoor (d : DoorIx) (s : State) : State :=
  (forEach doorConditions (fun k => clearDoor k d) s).zeroOas d

/-- R4: a write changed the address or the present flag of a door record. -/
def DoorConfig.moved (old new : DoorConfig) : Bool := decide (old.node ≠ new.node) || decide (old.present ≠ new.present)

/-- R4: a write changed a compartment or the present flag. -/
def DoorConfig.rezoned (old new : DoorConfig) : Bool :=
  decide (old.compA ≠ new.compA) || decide (old.compB ≠ new.compB) || decide (old.present ≠ new.present)

/-- R4, R138: the effects of a taken door-record write (entry 55). -/
def doorWritten (d : DoorIx) (old new : DoorConfig) (s : State) : State :=
  let b := before s d
  let s := setTables { s.tables with doors := put s.tables.doors d new } s
  let s := if old.moved new then resetDoor d old.node new.node s else s
  let s := if old.present = 1 ∧ new.present ≠ 1 then dismissDoor d s else s
  let s := if old.rezoned new then recomputeComps (compsOf [old.compA, old.compB, new.compA, new.compB]) s else s
  if old.node ≠ new.node ∧ old.present = 1 ∧ new.present = 1 then present d b s else s

/-- R62: a write changed the address or the present flag of an HPU record. -/
def HpuConfig.moved (old new : HpuConfig) : Bool := decide (old.node ≠ new.node) || decide (old.present ≠ new.present)

/-- R62, R138: an HPU made not present: its conditions clear (entry 55), and its delay alarm flag
(entry 35). -/
def dismissHpu (h : HpuIx) (s : State) : State :=
  clearAlarm .ADMISSION_DELAY h.val
    (clearAlarm .HPU_SILENT h.val (clearAlarm .HPU_FAILED h.val (s.modFlow h fun f => { f with delayAlarm := false })))

/-- R62, R138: the effects of a taken HPU-record write; the clears come before E is recomputed (entry 64). -/
def hpuWritten (h : HpuIx) (old new : HpuConfig) (s : State) : State :=
  let s := setTables { s.tables with hpus := put s.tables.hpus h new } s
  let s := if old.moved new then
      (resetFilters old.node new.node s).modHpu h fun _ => HpuReported.start else s
  let s := if old.present = 1 ∧ new.present ≠ 1 then dismissHpu h s else s
  recomputeE h s

/-- R125: a permit-row write on the port's heartbeat state. -/
def heartbeatWritten (p : PortIx) (old new : PermitRow) (s : State) : State :=
  if old.hbRequired = new.hbRequired then s
  else
    let t := s.modPort p fun t => { t with hbElapsed := 0, silent := false }
    if old.hbRequired = 1 then clearAlarm .STATION_SILENT p.val t else t

/-- R150: a permit-row write on the port's summary pacing; summaries are sent IN_SERVICE alone (R148). -/
def pacingWritten (p : PortIx) (old new : PermitRow) (s : State) : State :=
  if old.summaryMask = new.summaryMask then s
  else if new.summaryMask = 0 then s.setPacing p ⟨0, false⟩
  else if s.inService = false then s
  else if old.summaryMask = 0 then sendSummary p s
  else pacingChange p s

/-- R125, R126, R150, R167: the effects of a taken permit-row write; MC is told of every one. -/
def permitWritten (p : PortIx) (old new : PermitRow) (s : State) : State :=
  pacingWritten p old new (evalBridge (heartbeatWritten p old new
    (setTables { s.tables with permits := put s.tables.permits p new } s)))

/-- The present HPUs in ascending index. -/
def presentHpus (s : State) : List HpuIx := allHpus.filter s.hpuPresent

/-- R59: the effects of a taken system-record write: the passes, then the tests (entry 55), each in ascending HPU
(entry 65). -/
def systemWritten (old new : SystemRecord) (s : State) : State :=
  let s := setTables { s.tables with system := new } s
  let s := if old.directLane ≠ new.directLane ∨ old.lookAhead ≠ new.lookAhead then forEach (presentHpus s) pass s else s
  if old.waitLimit ≠ new.waitLimit then forEach (presentHpus s) evalDelay s else s

/-! ### The write (R173) -/

/-- The kind code of TABLE_WRITE. -/
def writeKind : Nat := 10

/-- R173 steps 2 to 6: a write of a record whose index is in the table. -/
def decideWrite (p : PortIx) (inUse refused clamped : Bool) (conflict : Option RecordName) (write : State → State)
    (s : State) : State :=
  if inUse then refuse p writeKind .IN_FLIGHT s
  else if refused then refuse p writeKind .INVALID_VALUE s
  else
    match (if s.inService then conflict else none) with
    | some r => refuseWith p writeKind .INVALID_REFERENCE false r.bytes s
    | none => answerDone p writeKind clamped [] (settleRuns (write s))

/-- R173: a door-record write. -/
def writeDoor (p : PortIx) (index : Byte) (image : List Byte) (s : State) : State :=
  match ix? 96 index.toNat with
  | some d =>
    let c := DoorConfig.decode image
    let t := { s.tables with doors := put s.tables.doors d c.clamp }
    decideWrite p (doorInUse s d) c.refused (decide (c.clamp ≠ c)) (crossDoor t d)
      (doorWritten d s.tables.doors[d] c.clamp) s
  | none => refuse p writeKind .INVALID_VALUE s

/-- R173: an HPU-record write. -/
def writeHpu (p : PortIx) (index : Byte) (image : List Byte) (s : State) : State :=
  match ix? 8 index.toNat with
  | some h =>
    let c := HpuConfig.decode image
    let t := { s.tables with hpus := put s.tables.hpus h c.clamp }
    decideWrite p (hpuInUse s h) c.refused (decide (c.clamp ≠ c)) (crossHpu t h)
      (hpuWritten h s.tables.hpus[h] c.clamp) s
  | none => refuse p writeKind .INVALID_VALUE s

/-- R173: a group-record write. -/
def writeGroup (p : PortIx) (index : Byte) (image : List Byte) (s : State) : State :=
  match ix? 24 index.toNat with
  | some g =>
    let c := GroupRec.decode image
    let t := { s.tables with groups := put s.tables.groups g c.clamp }
    decideWrite p (groupInUse s g) c.refused (decide (c.clamp ≠ c)) (crossGroup t g) (setTables t) s
  | none => refuse p writeKind .INVALID_VALUE s

/-- R173: a permit-row write. -/
def writePermit (p : PortIx) (index : Byte) (image : List Byte) (s : State) : State :=
  match ix? 8 index.toNat with
  | some q =>
    let c := PermitRow.decode image
    let t := { s.tables with permits := put s.tables.permits q c.clamp }
    decideWrite p false c.refused (decide (c.clamp ≠ c)) (crossPermit t q) (permitWritten q (s.row q) c.clamp) s
  | none => refuse p writeKind .INVALID_VALUE s

/-- R173: a system-record write. -/
def writeSystem (p : PortIx) (index : Byte) (image : List Byte) (s : State) : State :=
  if index.toNat = 0 then
    let c := SystemRecord.decode image
    decideWrite p (decide (s.mc.mode ≠ .LOCAL)) c.refused (decide (c.clamp ≠ c)) none
      (systemWritten s.tables.system c.clamp) s
  else refuse p writeKind .INVALID_VALUE s

/-! ### Commissioning checks (R181) -/

/-- Check 0: a field holds what a write would refuse. -/
def check0 (t : Tables) : Option RecordName :=
  orElse ((allDoors.find? fun d => (t.doors[d]).refused).map fun d => ⟨0, d.val⟩)
    (orElse ((allHpus.find? fun h => (t.hpus[h]).refused).map fun h => ⟨2, h.val⟩)
      (orElse ((allGroups.find? fun g => (t.groups[g]).refused).map fun g => ⟨4, g.val⟩)
        (orElse ((allPorts.find? fun p => (t.permits[p]).refused).map fun p => ⟨5, p.val⟩)
          (if t.system.refused then some ⟨7, 0⟩ else none))))

/-- Check 1: no door is present. -/
def check1 (t : Tables) : Option RecordName := if allDoors.any t.doorPresent then none else some ⟨0, 0⟩

/-- Check 2: a present door's HPU or draw. -/
def check2 (t : Tables) : Option RecordName :=
  (allDoors.find? fun d => t.doorPresent d && t.drawFails d).map fun d => ⟨0, d.val⟩

/-- Check 3: a node address held by a record walked before: doors first, then HPUs. -/
def check3 (t : Tables) : Option RecordName :=
  orElse ((allDoors.find? fun d => t.doorPresent d && (t.doorWith t.doors[d].node fun x => decide (x < d)).isSome).map
      fun d => ⟨0, d.val⟩)
    ((allHpus.find? fun h => t.hpuPresent h &&
        ((t.doorWith t.hpus[h].node fun _ => true).isSome || (t.hpuWith t.hpus[h].node fun x => decide (x < h)).isSome)).map
      fun h => ⟨2, h.val⟩)

/-- Check 4: a present group's list. -/
def check4 (t : Tables) : Option RecordName :=
  (allGroups.find? fun g => t.groupPresent g && t.groupFails g).map fun g => ⟨4, g.val⟩

/-- Check 5: no row has role SERVICE. -/
def check5 (t : Tables) : Option RecordName := if t.hasService then none else some ⟨5, 0⟩

/-- R181: the commissioning checks: the record that fails first, none where they pass. -/
def commissionChecks (t : Tables) : Option RecordName :=
  orElse (check0 t) (orElse (check1 t) (orElse (check2 t) (orElse (check3 t) (orElse (check4 t) (check5 t)))))

end Sys2Proof.Machine
end

