-- ==== Sys2Proof/Machine/Store.lean ====
section
/-!
DEFINITION. The Configuration Store and the starts (chapter 10), with the values each block takes at a start, at an
entry into IN_SERVICE and at DECOMMISSION (R16 to R18, R63, R64, R84, R104, R127, R128, R145, R164, R178), the
EMERGENCY CLOSE line (R107) and the frames that leave a port (R152, R172).
-/
namespace Sys2Proof.Machine

/-- Write the part state. -/
def setPart (x : PartState) (s : State) : State := { s with cfs := { s.cfs with part := x } }

/-! ### Entry into IN_SERVICE (R182) -/

/-- R127: MC enters EMERGENCY if the line is asserted, else the start mode, and evaluates bridge loss. -/
def enterStartMode (s : State) : State :=
  evalBridge
    (if s.mc.line then enterEmergency .LINE s
     else if s.tables.system.startMode = 1 then enterClosedFromLocal s
     else enterLocal s)

/-- R128: the elapsed of every row with heartbeat required begins from 0. -/
def startHeartbeats (s : State) : State :=
  { s with sp := updAll s.sp fun p t => if (s.row p).hbRequired = 1 then { t with hbElapsed := 0 } else t }

/-- The present HPUs whose state is FAILED (R145). -/
def failedHpus (s : State) : List HpuIx := (presentHpus s).filter fun h => decide (s.rc.hpus[h].state = .FAILED)

/-- R145: every report age 0 (entry 46), HPU_FAILED for each present HPU that is FAILED, in ascending index (entry 58),
and the poll cycle starts. -/
def startRing (s : State) : State :=
  let t := { s with rc := { s.rc with hpus := updAll s.rc.hpus fun _ x => { x with age := 0 } } }
  startPolling (forEach (failedHpus t) (fun h => raiseAlarm .HPU_FAILED h.val) t)

/-- R182: the part state IN_SERVICE and the entry actions of MC, SP and RC, in this order (entry 17). -/
def enterBlocks (s : State) : State :=
  settleRuns (startRing (startHeartbeats (enterStartMode (setPart .IN_SERVICE (ringQuiet s)))))

/-- R182: an entry into IN_SERVICE, with the summaries of IB. -/
def enterService (s : State) : State := sendSummaries (enterBlocks s)

/-! ### COMMISSION (R180, R182) -/

/-- The kind code of COMMISSION. -/
def commissionKind : Nat := 13

/-- R182: the entry of a COMMISSION: its RESULT stands before or after the first ZONE_SUMMARY to its port, in the
order left open (entry 3). -/
def commissionTaken (p : PortIx) (s : State) : State :=
  let t := enterBlocks s
  if hasMask t p then
    let (resultFirst, u) := freeChoice Config.resultBeforeSummary t
    if resultFirst then sendSummaries (answerDone p commissionKind false [] u)
    else answerDone p commissionKind false [] (sendSummaries u)
  else answerDone p commissionKind false [] (sendSummaries t)

/-- R180: a COMMISSION. -/
def commission (p : PortIx) (s : State) : State :=
  if s.inService then refuse p commissionKind .WRONG_MODE s
  else
    match commissionChecks s.tables with
    | some r => refuseWith p commissionKind .INVALID_REFERENCE false r.bytes s
    | none => commissionTaken p s

/-! ### DECOMMISSION (R183) -/

/-- R183: an entry, an active run or a stacked context stands. -/
def partBusy (s : State) : Bool := allDoors.any (fun d => (s.entry d).isSome) || !(liveRuns s).isEmpty

/-- R140: every pending order is sent, in queue order. -/
def sendOrders (s : State) : State := s.rc.orders.foldl (fun s _ => sendHeadOrder s) s

/-- R145: the poll cycle stops and the loop interval starts from 0. -/
def stopPolling (s : State) : State :=
  { s with rc := { s.rc with polled := none, pollEnded := true, replyLimit := 0, interval := 0 } }

/-- R145, R64: an HPU in state LOST is set UNKNOWN and its E recomputed; HPU_FAILED and HPU_SILENT clear
(entry 53). -/
def quietHpu (h : HpuIx) (s : State) : State :=
  let s := if s.rc.hpus[h].state = .LOST then
      recomputeE h (s.modHpu h fun x => { x with state := .UNKNOWN }) else s
  clearAlarm .HPU_SILENT h.val (clearAlarm .HPU_FAILED h.val s)

/-- R18: a present door at DECOMMISSION; its next report is again the first that shows a position (entry 47). -/
def quietDoor (d : DoorIx) (s : State) : State :=
  clearDoor .DOOR_SILENT d
    (s.modReported d fun r => { r with position := .UNKNOWN, lost := false, misses := 0, shown := false })

/-- R128: a port's heartbeat at DECOMMISSION; the early count is kept. -/
def quietPort (p : PortIx) (s : State) : State :=
  clearAlarm .STATION_SILENT p.val (s.modPort p fun t => { t with hbElapsed := 0, silent := false })

/-- R127, R128: MC at DECOMMISSION. -/
def quietMode (s : State) : State :=
  clearAlarm .BRIDGE_LOST noSubject
    { s with mc := { s.mc with bridgeLost := false, oas := Vector.replicate 96 ⟨0, false⟩ } }

/-- R183: the blocks act as their chapters give; the clears are taken in the order written here (entry 53). -/
def decommissioned (s : State) : State :=
  let s := stopPolling (sendOrders (setPart .UNCONFIGURED (ringQuiet s)))
  let s := forEach s.presentDoors quietDoor (forEach allHpus quietHpu s)
  recomputeReleased (clearPacing (quietMode (forEach allPorts quietPort s)))

/-- The kind code of DECOMMISSION. -/
def decommissionKind : Nat := 14

/-- R183: a DECOMMISSION. -/
def decommission (p : PortIx) (s : State) : State :=
  if s.inService = false ∨ s.mc.mode ≠ .LOCAL then refuse p decommissionKind .WRONG_MODE s
  else if partBusy s then refuse p decommissionKind .IN_FLIGHT s
  else answerDone p decommissionKind false [] (decommissioned s)

/-! ### SAVE (R185) -/

/-- The kind code of SAVE. -/
def saveKind : Nat := 15

/-- R185: a SAVE is taken: the tables are copied, the store is being written, and the RESULT waits. -/
def save (p : PortIx) (s : State) : State :=
  { s with cfs := { s.cfs with save := some p, saveBuffer := s.tables.image, image := [] } }

/-- R185: a SAVE in flight for a port completes. -/
def saveCompletes (p : PortIx) (s : State) : State :=
  answerDone p saveKind false []
    (clearAlarm .STORE_INVALID noSubject
      { s with cfs := { s.cfs with save := none, saveBuffer := [], image := s.cfs.saveBuffer, status := .GOOD } })

/-! ### Starts (R186, R187) -/

/-- R107: EMERGENCY_LINE is raised at once where the line is asserted at a start. -/
def raiseLine (s : State) : State := if s.mc.line then raiseAlarm .EMERGENCY_LINE noSubject s else s

/-- R184: STORE_INVALID is raised where the image status is INVALID. -/
def raiseStore (s : State) : State :=
  if s.cfs.status = .INVALID then raiseAlarm .STORE_INVALID noSubject s else s

/-- R63, R64: every HPU's committed flow 0, E from the state UNKNOWN, the delay alarm flag clear. -/
def startFlow (s : State) : Vector HpuFlow 8 := Vector.ofFn fun h => ⟨0, effectiveCapacity s h, false⟩

/-- R186 steps 1 and 2: every block's cold-start values, with tables and the status of the image. The stored image, the
level of the EMERGENCY CLOSE pin and the model's own fields stand. -/
def coldState (t : Tables) (status : ImageStatus) (s : State) : State :=
  let c : State :=
    { tables := t
      cfs := ⟨.UNCONFIGURED, status, none, [], false, s.cfs.image⟩
      sp := Vector.replicate 8 StationPort.cold
      cs := Cs.empty
      ms := Ms.cold
      gru := Gru.cold
      mc := Mc.cold s.pins.emClose
      rc := Rc.cold
      ib := Ib.cold
      al := ⟨[], 0, false⟩
      pins := ⟨s.pins.emClose, false, [], Vector.replicate 8 []⟩
      seconds := 0
      freeCount := s.freeCount
      pending := s.pending }
  recomputeReleased { c with cs := { c.cs with flow := startFlow c } }

/-- R186 step 3: the outcome of a cold start. -/
def coldStart (s : State) : State :=
  match loadImage s.cfs.image with
  | some t =>
    if commissionChecks t = none then enterService (raiseLine (coldState t .GOOD s))
    else raiseLine (raiseStore (coldState t .INVALID s))
  | none => raiseLine (raiseStore (coldState Tables.blank .INVALID s))

/-- R178, R128: a station port at a warm restart. -/
def StationPort.warm (t : StationPort) : StationPort :=
  { StationPort.cold with accepted := t.accepted, discarded := t.discarded, refused := t.refused, early := t.early }

/-- R17: supervision fields at a warm restart. -/
def Supervision.warm (m : Supervision) : Supervision := { m with latch := .NONE }

/-- R145: a ring port at a warm restart. -/
def RingSide.warm (x : RingSide) : RingSide := { x with rx := .HUNT }

/-- R187 steps 1 and 2: what a warm restart keeps and clears. -/
def warmState (s : State) : State :=
  let w : State :=
    { s with
      cfs := { s.cfs with part := .UNCONFIGURED, restartPending := false }
      sp := updAll s.sp fun _ t => t.warm
      cs := Cs.empty
      ms := { s.ms with doors := updAll s.ms.doors fun _ m => m.warm }
      gru := { Gru.cold with counter := s.gru.counter }
      mc := { Mc.cold s.pins.emClose with sea := s.mc.sea }
      rc := { Rc.cold with east := s.rc.east.warm, west := s.rc.west.warm, secondCopies := s.rc.secondCopies,
                           loopMisses := s.rc.loopMisses }
      ib := Ib.cold
      al := ⟨[], s.al.lost, false⟩ }
  recomputeReleased { w with cs := { w.cs with flow := startFlow w } }

/-- R187: a warm restart. -/
def warmRestart (s : State) : State :=
  let t := raiseLine (warmState s)
  raiseStore (if commissionChecks t.tables = none then enterService t else t)

/-- The kind code of RESTART. -/
def restartKind : Nat := 16

/-- R187: a RESTART is taken: answered DONE, and the restart is pending. -/
def restart (p : PortIx) (s : State) : State :=
  answerDone p restartKind false [] { s with cfs := { s.cfs with restartPending := true } }

/-- The RESULT DONE of a RESTART. -/
def isRestartResult (f : Frame) : Bool :=
  decide (f.kind = .RESULT) && decide (f.payload = [byteOf restartKind, byteOf ResultCode.DONE.code])

/-- R187: a restart is pending and its RESULT has left the port or been dropped. -/
def restartDue (s : State) : Bool :=
  s.cfs.restartPending && allPorts.all fun p => !s.sp[p].queue.any isRestartResult

/-! ### RESET (R186) -/

/-- R186: RESET is asserted: everything in flight is abandoned, and the lines are released. -/
def resetAsserted (s : State) : State :=
  { s with
    cfs := { s.cfs with save := none, saveBuffer := [], restartPending := false }
    sp := updAll s.sp fun _ t => { t with rx := .HUNT, queue := [], part := none, partGone := false }
    cs := Cs.empty
    gru := { Gru.cold with counter := s.gru.counter }
    mc := { s.mc with passages := Vector.replicate 96 none }
    rc := { s.rc with orders := [], polled := none, pollEnded := true, replyLimit := 0, loop := none,
                      east := s.rc.east.warm, west := s.rc.west.warm }
    ib := { s.ib with allClosed := false, sending := none, buffer := [] }
    al := { s.al with line := false }
    pins := { s.pins with reset := true } }

/-! ### The EMERGENCY CLOSE line (R107) -/

/-- Write the level of the EMERGENCY CLOSE pin. -/
def setPin (level : Bool) (s : State) : State := { s with pins := { s.pins with emClose := level } }

/-- Write the level of the line as last taken. -/
def setLine (level : Bool) (s : State) : State := { s with mc := { s.mc with line := level } }

/-- R107: the line's assertion is taken: EMERGENCY_LINE, then the entry (entry 68). -/
def lineAsserted (s : State) : State :=
  let t := raiseAlarm .EMERGENCY_LINE noSubject (setLine true s)
  if t.inService ∧ t.mc.mode ≠ .EMERGENCY then settleRuns (enterEmergency .LINE t) else t

/-- R107: the line's release is taken. -/
def lineReleased (s : State) : State := clearAlarm .EMERGENCY_LINE noSubject (setLine false s)

/-! ### Frames that leave a station port (R152, R172) -/

/-- The frame at the head of a port's queue leaves the port; a place is free for a waiting part. -/
def frameLeaves (p : PortIx) (f : Frame) (rest : List Frame) (s : State) : State :=
  let s := s.modPort p fun t => { t with queue := rest, partGone := t.partGone || f.isPart }
  joinPart p
    { s with pins := { s.pins with
        stationOut := put s.pins.stationOut p (stationFrameBytes (byteOf f.kind.code) f.payload) } }

/-- R172: the frame at the head of the queue, if there is one, leaves the port. -/
def frameSent (p : PortIx) (s : State) : State :=
  match s.sp[p].queue with
  | f :: rest => frameLeaves p f rest s
  | [] => s

/-- SP tells IB that a part has left the port. -/
def reportPart (p : PortIx) (s : State) : State := partSent p (s.modPort p fun t => { t with partGone := false })

/-- R152, R172: a snapshot part has left the port: at a STATION_FRAME_SENT before, or now from the head of the queue
(entry 11). -/
def snapshotPartLeft (p : PortIx) (s : State) : State :=
  if s.sp[p].partGone then reportPart p s
  else
    match s.sp[p].queue with
    | f :: rest => if f.isPart then reportPart p (frameLeaves p f rest s) else s
    | [] => s

end Sys2Proof.Machine
end

