-- ==== Sys2Proof/Machine/Timers.lean ====
section
/-!
DEFINITION. The supervision tick, the seconds counter and the expiries (R43, R44, R60, R65, R70, R72, R73, R95, R120,
R122, R123, R124, R134, R137, R141, R149). The tick counts; each expiry is a command of its own (entry 6).
-/
namespace Sys2Proof.Machine

/-- R122: the conditions in which a door's accumulator grows. -/
def standsOpenAtSea (s : State) (d : DoorIx) : Bool :=
  s.inService && decide (s.mc.mode ≠ .LOCAL) && s.isPresent d && decide (s.position d ≠ .CLOSED)

/-! ### The tick -/

/-- R43, R44, R65: the counting fields of an entry. -/
def Entry.tick (e : Entry) : Entry :=
  match e.phase with
  | .WARNING => { e with warnRemaining := countDown e.warnRemaining }
  | .READY => { e with readyAge := satInc 65535 e.readyAge }
  | .MOVING =>
    { e with elapsed := satInc 4095 e.elapsed,
             startWindow := if e.started then e.startWindow else countDown e.startWindow }

/-- R95: a WAITING run in a slot counts its wait age. -/
def Run.tick (r : Run) : Run := if r.state = .WAITING then { r with waitAge := satInc 2550 r.waitAge } else r

/-- R120: the held time of a passage in OPENING or HELD. -/
def Passage.tick (x : Passage) : Passage := if x.phase = .RECLOSING then x else { x with held := satInc 65535 x.held }

/-- The open-at-sea timer's greatest value, in ticks (R123). -/
def oasTicks : Nat := 100

/-- R123: the conditions of a door's open-at-sea timer. -/
def oasRuns (s : State) (d : DoorIx) : Bool :=
  standsOpenAtSea s d && (s.entry d).isNone && (s.passage d).isNone

/-- R123: a tick of an open-at-sea timer; the expiry is due when it reaches 100. -/
def OasTimer.tick (runs : Bool) (x : OasTimer) : OasTimer :=
  if runs then ⟨satInc oasTicks x.ticks, x.due || decide (x.ticks + 1 = oasTicks)⟩ else ⟨0, false⟩

/-- R124: a tick of a port's heartbeat elapsed. -/
def tickHeartbeat (s : State) (p : PortIx) (t : StationPort) : StationPort :=
  if s.inService ∧ (s.row p).hbRequired = 1 ∧ t.hbElapsed < s.tables.system.hbMax then
    { t with hbElapsed := t.hbElapsed + 1 } else t

/-- R137: a tick of a present HPU's report age. -/
def tickAge (s : State) (h : HpuIx) (x : HpuReported) : HpuReported :=
  if s.hpuPresent h then { x with age := satInc 65535 x.age } else x

/-- R149: a tick of a port's summary elapsed. -/
def tickPacing (s : State) (p : PortIx) (x : Pacing) : Pacing :=
  if s.inService ∧ hasMask s p then { x with elapsed := satInc summaryPeriod x.elapsed } else x

/-- The loop interval at which a check is started, in ticks (R141). -/
def loopIntervalTicks : Nat := 50

/-- R134, R137, R141: the ring's timers. -/
def tickRing (s : State) : Rc :=
  { s.rc with
    hpus := updAll s.rc.hpus (tickAge s)
    replyLimit := countDown s.rc.replyLimit
    loop := s.rc.loop.map fun x => { x with timer := countDown x.timer }
    interval := if s.inService then s.rc.interval else satInc loopIntervalTicks s.rc.interval }

/-- The counting of one tick in every block. -/
def countTick (s : State) : State :=
  { s with
    cs := { s.cs with entries := updAll s.cs.entries fun _ e => e.map Entry.tick }
    gru := { s.gru with slots := updAll s.gru.slots fun _ r => r.map Run.tick }
    mc := { s.mc with passages := updAll s.mc.passages fun _ x => x.map Passage.tick
                      oas := updAll s.mc.oas fun d x => x.tick (oasRuns s d) }
    sp := updAll s.sp (tickHeartbeat s)
    rc := tickRing s
    ib := { s.ib with pacing := updAll s.ib.pacing (tickPacing s) } }

/-- R60 at a tick: a delayed HPU that no longer is clears; the raise is READY_AGE_EXPIRY's. -/
def tickDelay (h : HpuIx) (s : State) : State := if admissionDelayed s h then s else evalDelay h s

/-- SUPERVISION_TICK; the HPUs whose condition clears are taken in ascending index (entry 65). -/
def supervisionTick (s : State) : State := forEach allHpus tickDelay (countTick s)

/-! ### The seconds counter (R122) -/

/-- The seconds counter one second on (entry 5). -/
def nextSecond (n : BitVec 32) : BitVec 32 := if n = 0xFFFFFFFF#32 then Config.secondsAfterTop else n + 1

/-- R122: a second of a door's accumulator. -/
def Sea.second (grows : Bool) (x : Sea) : Sea :=
  if grows then { x with openAtSea := satInc 65535 x.openAtSea } else x

/-- SECONDS_COUNTER_INCREMENT. -/
def secondsIncrement (s : State) : State :=
  { s with seconds := nextSecond s.seconds
           mc := { s.mc with sea := updAll s.mc.sea fun d x => x.second (standsOpenAtSea s d) } }

/-! ### Expiries -/

/-- R43: a pre-warning expires: READY at ready age 0, and a pass. -/
def warningExpires (d : DoorIx) (e : Entry) (s : State) : State :=
  pass (s.hpuOf d) (s.setEntry d { e with phase := .READY, readyAge := 0 })

/-- R43: the entry's pre-warning has run out. -/
def Entry.warned (e : Entry) : Bool := decide (e.phase = .WARNING) && decide (e.warnRemaining = 0)

/-- R65: the entry's start window has run out. -/
def Entry.windowOut (e : Entry) : Bool := decide (e.phase = .MOVING) && !e.started && decide (e.startWindow = 0)

/-- R65: the entry's elapsed has reached D. -/
def Entry.late (e : Entry) : Bool := decide (e.phase = .MOVING) && decide (e.deadline ≤ e.elapsed)

/-- R65: the entry's elapsed has reached H. -/
def Entry.overdue (e : Entry) : Bool := decide (e.phase = .MOVING) && decide (e.hardLimit ≤ e.elapsed)

/-- An expiry of a door's entry, if the entry stands and its timer has run out. -/
def onEntry (ran : Entry → Bool) (d : DoorIx) (act : Entry → State → State) (s : State) : State :=
  match s.entry d with
  | some e => if ran e then act e s else s
  | none => s

/-- R60: READY_AGE_EXPIRY of a door's entry. -/
def readyAgeExpires (d : DoorIx) (s : State) : State :=
  if waitsTooLong s (s.hpuOf d) d then evalDelay (s.hpuOf d) s else s

/-- R95: the precondition wait limit of a run in ticks; ALL has none (R101). -/
def waitLimitTicks (s : State) (r : Run) : Option Nat :=
  match r.group with
  | .stored g => some (10 * s.tables.groups[g].waitLimit)
  | .ALL => none

/-- R95: the run in a slot has waited as long as its group allows. -/
def waitedOut (s : State) (i : SlotIx) : Bool :=
  match s.gru.slots[i] with
  | some r => decide (r.state = .WAITING) && (waitLimitTicks s r).any fun n => decide (n ≤ r.waitAge)
  | none => false

/-- R120: a passage's held time exceeds the door's passage limit, and its overdue flag is clear. -/
def heldTooLong (s : State) (d : DoorIx) (x : Passage) : Bool :=
  decide (10 * s.tables.doors[d].passageLimit < x.held) && !x.overdue

/-- R120: HELD_TIME_EXPIRY. -/
def heldTimeExpires (d : DoorIx) (s : State) : State :=
  match s.passage d with
  | some x => if heldTooLong s d x then raiseDoor .PASSAGE_OVERDUE d (s.setPassage d { x with overdue := true }) else s
  | none => s

/-- R123: OPEN_AT_SEA_TIMER_EXPIRY: the expiry that is due is taken. -/
def openAtSeaExpires (d : DoorIx) (s : State) : State :=
  if s.mc.oas[d].due then
    raiseDoor .DOOR_OPEN_AT_SEA d { s with mc := { s.mc with oas := upd s.mc.oas d fun x => { x with due := false } } }
  else s

/-- R149: the port's summary is due (entry 43). -/
def summaryDue (s : State) (p : PortIx) : Bool :=
  s.inService && hasMask s p &&
    ((decide (summaryHold ≤ s.ib.pacing[p].elapsed) && s.ib.pacing[p].pending)
      || decide (summaryPeriod ≤ s.ib.pacing[p].elapsed))

/-- R142: LOOP_TIMER_EXPIRY of a waiting check. -/
def loopTimerExpires (s : State) : State :=
  match s.rc.loop with
  | some x => if x.timer = 0 then loopIncomplete s else s
  | none => s

/-- R141: LOOP_INTERVAL_EXPIRY, while the part is UNCONFIGURED. -/
def loopIntervalExpires (s : State) : State :=
  if s.inService = false ∧ loopIntervalTicks ≤ s.rc.interval then
    let t := startLoop (ringQuiet s)
    { t with rc := { t.rc with interval := 0 } }
  else s

end Sys2Proof.Machine
end

