-- ==== Sys2Proof/Machine/StationCommands.lean ====
section
/-!
DEFINITION. The meanings of the operating commands of the stations (R106, R124, R35, R90, R100, R159, R151) and of a
command whose code names nothing (R168).
-/
namespace Sys2Proof.Machine

/-- HEARTBEAT (R124, R169). -/
def execHeartbeat (p : PortIx) (s : State) : Outcome :=
  awake (decideCommand (operating 1 anyRole) false p (heartbeat p)) s

/-- MODE_SET requesting LOCAL (R106). -/
def execModeSetLocal (p : PortIx) (s : State) : Outcome :=
  awake (decideCommand (operating 2 [.BRIDGE]) false p (requestLocal p)) s

/-- MODE_SET requesting CLOSED (R106). -/
def execModeSetClosed (p : PortIx) (s : State) : Outcome :=
  awake (decideCommand (operating 2 [.BRIDGE]) false p (requestClosed p)) s

/-- MODE_SET requesting EMERGENCY (R106). -/
def execModeSetEmergency (p : PortIx) (s : State) : Outcome :=
  awake (decideCommand (operating 2 [.BRIDGE, .SAFETY]) false p (requestEmergency p)) s

/-- The roles that may close (R169). -/
def closingRoles : List Role := [.BRIDGE, .SAFETY, .ENGINE]

/-- DOOR_CLOSE (R22, R35, R168). -/
def execDoorClose (p : PortIx) (door cls : Byte) (s : State) : Outcome :=
  awake (decideCommand (operating 3 closingRoles) false p (doorCommand p 3 .CLOSE door cls)) s

/-- DOOR_OPEN (R22, R35, R168). -/
def execDoorOpen (p : PortIx) (door cls : Byte) (s : State) : Outcome :=
  awake (decideCommand (opening 4) false p (doorCommand p 4 .OPEN door cls)) s

/-- GROUP_CLOSE (R90 to R92). -/
def execGroupClose (p : PortIx) (group cls : Byte) (s : State) : Outcome :=
  awake (decideCommand (operating 5 closingRoles) false p (groupCommand p 5 .CLOSE group cls)) s

/-- GROUP_OPEN (R90 to R92). -/
def execGroupOpen (p : PortIx) (group cls : Byte) (s : State) : Outcome :=
  awake (decideCommand (opening 6) false p (groupCommand p 6 .OPEN group cls)) s

/-- RUN_CANCEL (R100): every role passes step 3. -/
def execRunCancel (p : PortIx) (run : Byte) (s : State) : Outcome :=
  awake (decideCommand (operating 7 anyRole) false p (runCancel p run)) s

/-- ALARM_ACK naming one record (R159); a kind code outside 1-17 names nothing (R168 step 2). -/
def execAlarmAck (p : PortIx) (kind subject : Byte) (s : State) : Outcome :=
  awake (decideCommand (operating 8 closingRoles) (alarmKindOf kind.toNat).isNone p (alarmAck p kind subject)) s

/-- ALARM_ACK naming ALL (R159). -/
def execAlarmAckAll (p : PortIx) (s : State) : Outcome :=
  awake (decideCommand (operating 8 closingRoles) false p fun t => answerDone p 8 false [] (ackAll t)) s

/-- SNAPSHOT_REQ (R151). -/
def execSnapshotReq (p : PortIx) (s : State) : Outcome :=
  awake (decideCommand (operating 9 anyRole) false p (snapshotReq p)) s

/-- A TABLE_WRITE code that names nothing: above 8 at step 2 of R168, a state view or the alarm list at step 1 of R173
(R191). -/
def unknownWrite (p : PortIx) (table : Byte) (s : State) : State :=
  decideCommand (exclusive 10) (decide (8 < table.toNat)) p (refuse p 10 .INVALID_VALUE) s

/-- R168 step 2, R173 step 1: a command whose mode, table or counter-set code names nothing. -/
def codeRefused (p : PortIx) (c : UnknownCode) (s : State) : State :=
  match c with
  | .modeSet _ => decideCommand (operating 2 anyRole) true p id s
  | .tableWrite table _ => unknownWrite p table s
  | .tableRead _ _ _ => decideCommand (reading 11 anyRole) true p id s
  | .counterRead _ _ => decideCommand (reading 12 [.SERVICE]) true p id s

/-- CODE_THAT_NAMES_NOTHING (R168). A code that names something is no command of this row (entry 31). -/
def execCodeThatNamesNothing (p : PortIx) (c : UnknownCode) (s : State) : Outcome :=
  awake (fun t => if c.namesNothing then codeRefused p c t else t) s

end Sys2Proof.Machine
end

