-- ==== Sys2Proof/Machine/TableCommands.lean ====
section
/-!
DEFINITION. The meanings of the management commands that write and read the tables and the counters (R173 to R177). A
TABLE_WRITE whose image has not the length of its table is a frame discarded under R191 (entry 10).
-/
namespace Sys2Proof.Machine

/-- R191: a TABLE_WRITE is accepted at the length its table gives, and discarded at any other. -/
def writeOfLength (ok : Bool) (p : PortIx) (write : State → State) (s : State) : State :=
  if ok then decideCommand (exclusive 10) false p write s else stationDiscard p s

/-- TABLE_WRITE of a door record (R3, R4, R173). -/
def execTableWriteDoor (p : PortIx) (index : Byte) (image : List Byte) (s : State) : Outcome :=
  awake (writeOfLength (wfImage 16 image) p (writeDoor p index image)) s

/-- TABLE_WRITE of an HPU record (R49, R62, R173). -/
def execTableWriteHpu (p : PortIx) (index : Byte) (image : List Byte) (s : State) : Outcome :=
  awake (writeOfLength (wfImage 8 image) p (writeHpu p index image)) s

/-- TABLE_WRITE of a group record (R86, R173, R193). -/
def execTableWriteGroup (p : PortIx) (index : Byte) (image : List Byte) (s : State) : Outcome :=
  awake (writeOfLength (wfGroupImage image) p (writeGroup p index image)) s

/-- TABLE_WRITE of a permit row (R167, R173). -/
def execTableWritePermitRow (p : PortIx) (index : Byte) (image : List Byte) (s : State) : Outcome :=
  awake (writeOfLength (wfImage 12 image) p (writePermit p index image)) s

/-- TABLE_WRITE of the system record (R59, R173). -/
def execTableWriteSystemRecord (p : PortIx) (index : Byte) (image : List Byte) (s : State) : Outcome :=
  awake (writeOfLength (wfImage 9 image) p (writeSystem p index image)) s

/-- The gate of the readings that SERVICE alone may make (R169). -/
def serviceRead : Gate := reading 11 [.SERVICE]

/-- TABLE_READ of the door configuration view (R176). -/
def execTableReadDoorConfig (p : PortIx) (first count : Byte) (s : State) : Outcome :=
  awake (decideCommand serviceRead false p fun t => tableRead p 0 96 (doorConfigs t) first count noEffect t) s

/-- TABLE_READ of the door state view (R14, R176). -/
def execTableReadDoorState (p : PortIx) (first count : Byte) (s : State) : Outcome :=
  awake (decideCommand serviceRead false p fun t =>
    tableRead p 1 96 (doorStates t) first count (clearFresh first.toNat) t) s

/-- TABLE_READ of the HPU configuration view (R176). -/
def execTableReadHpuConfig (p : PortIx) (first count : Byte) (s : State) : Outcome :=
  awake (decideCommand serviceRead false p fun t => tableRead p 2 8 (hpuConfigs t) first count noEffect t) s

/-- TABLE_READ of the HPU state view (R176). -/
def execTableReadHpuState (p : PortIx) (first count : Byte) (s : State) : Outcome :=
  awake (decideCommand serviceRead false p fun t => tableRead p 3 8 (hpuStates t) first count noEffect t) s

/-- TABLE_READ of the Group Table (R176). -/
def execTableReadGroup (p : PortIx) (first count : Byte) (s : State) : Outcome :=
  awake (decideCommand serviceRead false p fun t => tableRead p 4 24 (groupRecords t) first count noEffect t) s

/-- TABLE_READ of the permit-row configuration view (R176). -/
def execTableReadPermitConfig (p : PortIx) (first count : Byte) (s : State) : Outcome :=
  awake (decideCommand serviceRead false p fun t => tableRead p 5 8 (permitConfigs t) first count noEffect t) s

/-- TABLE_READ of the permit-row state view (R176). -/
def execTableReadPermitState (p : PortIx) (first count : Byte) (s : State) : Outcome :=
  awake (decideCommand serviceRead false p fun t => tableRead p 6 8 (permitStates t) first count noEffect t) s

/-- TABLE_READ of the system record (R176). -/
def execTableReadSystemRecord (p : PortIx) (first count : Byte) (s : State) : Outcome :=
  awake (decideCommand serviceRead false p fun t => tableRead p 7 1 [t.tables.system.encode] first count noEffect t) s

/-- TABLE_READ of the alarm list (R169, R176). -/
def execTableReadAlarmList (p : PortIx) (first count : Byte) (s : State) : Outcome :=
  awake (decideCommand (reading 11 [.BRIDGE, .SAFETY, .ENGINE, .SERVICE]) false p fun t =>
    tableRead p 8 64 (alarmRecords t) first count noEffect t) s

/-- COUNTER_READ of the STATION set (R177). -/
def execCounterReadStation (p : PortIx) (clear : Byte) (s : State) : Outcome :=
  awake (decideCommand (reading 12 [.SERVICE]) false p fun t =>
    counterRead p 0 (stationCounters t) clear clearStationCounters t) s

/-- COUNTER_READ of the RING set (R177). -/
def execCounterReadRing (p : PortIx) (clear : Byte) (s : State) : Outcome :=
  awake (decideCommand (reading 12 [.SERVICE]) false p fun t =>
    counterRead p 1 (ringCounters t) clear clearRingCounters t) s

end Sys2Proof.Machine
end

