-- ==== Sys2Proof/Machine/StartCommands.lean ====
section
/-!
DEFINITION. The meanings of the commands and events of the store, the starts, the pins and the station ports
(R152, R165, R172, R180 to R187, R107).
-/
namespace Sys2Proof.Machine

/-- COMMISSION (R180 to R182). -/
def execCommission (p : PortIx) (s : State) : Outcome :=
  awake (decideCommand (exclusive 13) false p (commission p)) s

/-- DECOMMISSION (R183). -/
def execDecommission (p : PortIx) (s : State) : Outcome :=
  awake (decideCommand (exclusive 14) false p (decommission p)) s

/-- SAVE (R185). -/
def execSave (p : PortIx) (s : State) : Outcome := awake (decideCommand (exclusive 15) false p (save p)) s

/-- RESTART (R187). -/
def execRestart (p : PortIx) (s : State) : Outcome := awake (decideCommand (exclusive 16) false p (restart p)) s

/-- The completion of a SAVE (R185); none is in flight: nothing. -/
def execSaveComplete (s : State) : Outcome :=
  awake (fun t => match t.cfs.save with
    | some p => saveCompletes p t
    | none => t) s

/-- The warm restart of a pending RESTART (R187); none is due: nothing. -/
def execWarmRestart (s : State) : Outcome := awake (fun t => if restartDue t then warmRestart t else t) s

/-- The assertion of RESET (R186). -/
def execResetAsserted (s : State) : Outcome := .next (resetAsserted s)

/-- Power-on, or the release of RESET: a cold start (R186). -/
def execColdStart (s : State) : Outcome := .next (coldStart s)

/-- The assertion of EMERGENCY CLOSE (R107), a change of its level (entry 30). In RESET the pin alone moves. -/
def execEmergencyCloseAsserted (s : State) : Outcome :=
  awake (fun t => if t.mc.line then t else lineAsserted t) (setPin true s)

/-- The release of EMERGENCY CLOSE (R107), a change of its level (entry 30). In RESET the pin alone moves. -/
def execEmergencyCloseReleased (s : State) : Outcome :=
  awake (fun t => if t.mc.line then lineReleased t else t) (setPin false s)

/-- Bytes at a station port that end in a discarded frame (R165, R191, entry 10). -/
def execStationFrameDiscarded (p : PortIx) (bytes : List RxByte) (s : State) : Outcome :=
  awake (stationBytes p bytes) s

/-- Bytes at a station port, and then more than one tick without a byte (R165). -/
def execStationInterbyteTimeout (p : PortIx) (bytes : List RxByte) (s : State) : Outcome :=
  awake (fun t => stationTimeout p (stationBytes p bytes t)) s

/-- A frame has left a station port (R172). -/
def execStationFrameSent (p : PortIx) (s : State) : Outcome := awake (frameSent p) s

/-- A snapshot part has left a station port (R152). -/
def execSnapshotPartSent (p : PortIx) (s : State) : Outcome := awake (snapshotPartLeft p) s

end Sys2Proof.Machine
end

