-- ==== Sys2Proof/Machine/RingEvents.lean ====
section
/-!
DEFINITION. The meanings of the events of the door ring (chapter 7): frames that arrive, orders and polls that go out,
and the expiries of the ring's timers.
-/
namespace Sys2Proof.Machine

/-- A REPORT at a ring port (R5, R131, R132, R134). -/
def execReport (p : RingPort) (src seq : Byte) (r : ReportBits) (s : State) : Outcome :=
  awake (fun t => reportArrives p src seq r (ringHunt p t)) s

/-- An EVENT at a ring port (R8, R132, R135). -/
def execEvent (p : RingPort) (src seq : Byte) (h : HandleCode) (low fault : Bool) (s : State) : Outcome :=
  awake (fun t => eventArrives p src seq h low fault (ringHunt p t)) s

/-- An HPU_REPORT at a ring port (R132, R136). -/
def execHpuReport (p : RingPort) (src seq : Byte) (st : HpuCode) (pressure : Nat) (s : State) : Outcome :=
  awake (fun t => hpuReportArrives p src seq st pressure (ringHunt p t)) s

/-- A LOOP copy at a ring port (R141, R142). -/
def execLoopCopy (p : RingPort) (seq : Byte) (s : State) : Outcome :=
  awake (fun t => loopArrives p seq (ringHunt p t)) s

/-- Bytes at a ring port that end in a discarded frame (R130, R189, entry 10). -/
def execRingFrameDiscarded (p : RingPort) (bytes : List RxByte) (s : State) : Outcome := awake (ringBytes p bytes) s

/-- Bytes at a ring port, and then more than one tick without a byte (R189). -/
def execRingInterbyteTimeout (p : RingPort) (bytes : List RxByte) (s : State) : Outcome :=
  awake (fun t => ringTimeout p (ringBytes p bytes t)) s

/-- The order at the head of the queue is sent, once the poll has ended (R140); none waits: nothing. -/
def execOrderSend (s : State) : Outcome :=
  awake (fun t => if mayTransmit t && !t.rc.orders.isEmpty then sendHeadOrder (ringQuiet t) else t) s

/-- The next POLL is sent, once the poll has ended and the order queue is empty (R133, R140). -/
def execPollSend (s : State) : Outcome :=
  awake (fun t => if mayTransmit t && t.rc.orders.isEmpty then pollNext (ringQuiet t) else t) s

/-- The reply limit of the open poll reaches 0: a miss (R9, R134). -/
def execReplyLimitExpiry (s : State) : Outcome :=
  awake (fun t => match replyOverdue t with
    | some d => missPoll d t
    | none => t) s

/-- The loop timer of a waiting check reaches 0 (R142). -/
def execLoopTimerExpiry (s : State) : Outcome := awake loopTimerExpires s

/-- The loop interval reaches 50 while the part is UNCONFIGURED (R141). -/
def execLoopIntervalExpiry (s : State) : Outcome := awake loopIntervalExpires s

/-- The report age of an HPU reaches 30 ticks (R137). -/
def execReportAgeExpiry (h : HpuIx) (s : State) : Outcome := awake (fun t => if hpuSilent t h then loseHpu h t else t) s

end Sys2Proof.Machine
end

