-- ==== Sys2Proof/Machine/TimerEvents.lean ====
section
/-!
DEFINITION. The meanings of the tick, of the seconds counter, of the expiries of the blocks' timers and of a walk step.
An expiry whose timer has not run out changes nothing (entry 6).
-/
namespace Sys2Proof.Machine

/-- SUPERVISION_TICK (R65). -/
def execSupervisionTick (s : State) : Outcome := awake supervisionTick s

/-- SECONDS_COUNTER_INCREMENT (R122). -/
def execSecondsCounterIncrement (s : State) : Outcome := awake secondsIncrement s

/-- PRE_WARNING_EXPIRY (R43). -/
def execPreWarningExpiry (d : DoorIx) (s : State) : Outcome := awake (onEntry Entry.warned d (warningExpires d)) s

/-- READY_AGE_EXPIRY (R60). -/
def execReadyAgeExpiry (d : DoorIx) (s : State) : Outcome := awake (readyAgeExpires d) s

/-- START_WINDOW_EXPIRY (R70, R74). -/
def execStartWindowExpiry (d : DoorIx) (s : State) : Outcome :=
  awake (fun t => settleRuns (onEntry Entry.windowOut d (windowExpires d) t)) s

/-- DEADLINE_EXPIRY (R72). -/
def execDeadlineExpiry (d : DoorIx) (s : State) : Outcome := awake (onEntry Entry.late d (deadlineExpires d)) s

/-- HARD_LIMIT_EXPIRY (R73, R74). -/
def execHardLimitExpiry (d : DoorIx) (s : State) : Outcome :=
  awake (fun t => settleRuns (onEntry Entry.overdue d (fun _ => faultDoor .OVERTIME d) t)) s

/-- WAIT_AGE_EXPIRY (R95). -/
def execWaitAgeExpiry (i : SlotIx) (s : State) : Outcome :=
  awake (fun t => settleRuns (if waitedOut t i then bypassAt i t else t)) s

/-- HELD_TIME_EXPIRY (R120). -/
def execHeldTimeExpiry (d : DoorIx) (s : State) : Outcome := awake (heldTimeExpires d) s

/-- OPEN_AT_SEA_TIMER_EXPIRY (R123). -/
def execOpenAtSeaTimerExpiry (d : DoorIx) (s : State) : Outcome := awake (openAtSeaExpires d) s

/-- HEARTBEAT_WINDOW_EXPIRY (R125, R126). -/
def execHeartbeatWindowExpiry (p : PortIx) (s : State) : Outcome :=
  awake (fun t => if windowReached t p then fallSilent p t else t) s

/-- SUMMARY_ELAPSED_EXPIRY (R149). -/
def execSummaryElapsedExpiry (p : PortIx) (s : State) : Outcome :=
  awake (fun t => if summaryDue t p then sendSummary p t else t) s

/-- WALK_STEP (R93). -/
def execWalkStep (i : SlotIx) (s : State) : Outcome := awake (fun t => settleRuns (walkStep i t)) s

end Sys2Proof.Machine
end

