-- ==== Sys2Proof/Machine/Dispatch.lean ====
section
/-!
DEFINITION. The meaning of each command: one direct call for each constructor of `Instr`.
-/
namespace Sys2Proof.Machine

/-- The effect of a command on everything but the queue. -/
def exec (i : Instr) (s : State) : Host.Outcome State Fault Refusal :=
  match i with
  | .heartbeat port => Sys2Proof.Machine.execHeartbeat port s
  | .modeSetLocal port => Sys2Proof.Machine.execModeSetLocal port s
  | .modeSetClosed port => Sys2Proof.Machine.execModeSetClosed port s
  | .modeSetEmergency port => Sys2Proof.Machine.execModeSetEmergency port s
  | .doorClose port door cls => Sys2Proof.Machine.execDoorClose port door cls s
  | .doorOpen port door cls => Sys2Proof.Machine.execDoorOpen port door cls s
  | .groupClose port group cls => Sys2Proof.Machine.execGroupClose port group cls s
  | .groupOpen port group cls => Sys2Proof.Machine.execGroupOpen port group cls s
  | .runCancel port run => Sys2Proof.Machine.execRunCancel port run s
  | .alarmAck port kind subject => Sys2Proof.Machine.execAlarmAck port kind subject s
  | .alarmAckAll port => Sys2Proof.Machine.execAlarmAckAll port s
  | .snapshotReq port => Sys2Proof.Machine.execSnapshotReq port s
  | .tableWriteDoor port index image => Sys2Proof.Machine.execTableWriteDoor port index image s
  | .tableWriteHpu port index image => Sys2Proof.Machine.execTableWriteHpu port index image s
  | .tableWriteGroup port index image => Sys2Proof.Machine.execTableWriteGroup port index image s
  | .tableWritePermitRow port index image => Sys2Proof.Machine.execTableWritePermitRow port index image s
  | .tableWriteSystemRecord port index image => Sys2Proof.Machine.execTableWriteSystemRecord port index image s
  | .tableReadDoorConfig port first count => Sys2Proof.Machine.execTableReadDoorConfig port first count s
  | .tableReadDoorState port first count => Sys2Proof.Machine.execTableReadDoorState port first count s
  | .tableReadHpuConfig port first count => Sys2Proof.Machine.execTableReadHpuConfig port first count s
  | .tableReadHpuState port first count => Sys2Proof.Machine.execTableReadHpuState port first count s
  | .tableReadGroup port first count => Sys2Proof.Machine.execTableReadGroup port first count s
  | .tableReadPermitConfig port first count => Sys2Proof.Machine.execTableReadPermitConfig port first count s
  | .tableReadPermitState port first count => Sys2Proof.Machine.execTableReadPermitState port first count s
  | .tableReadSystemRecord port first count => Sys2Proof.Machine.execTableReadSystemRecord port first count s
  | .tableReadAlarmList port first count => Sys2Proof.Machine.execTableReadAlarmList port first count s
  | .counterReadStation port clear => Sys2Proof.Machine.execCounterReadStation port clear s
  | .counterReadRing port clear => Sys2Proof.Machine.execCounterReadRing port clear s
  | .commission port => Sys2Proof.Machine.execCommission port s
  | .decommission port => Sys2Proof.Machine.execDecommission port s
  | .save port => Sys2Proof.Machine.execSave port s
  | .restart port => Sys2Proof.Machine.execRestart port s
  | .stationFrameDiscarded port bytes => Sys2Proof.Machine.execStationFrameDiscarded port bytes s
  | .stationInterbyteTimeout port bytes => Sys2Proof.Machine.execStationInterbyteTimeout port bytes s
  | .stationFrameSent port => Sys2Proof.Machine.execStationFrameSent port s
  | .snapshotPartSent port => Sys2Proof.Machine.execSnapshotPartSent port s
  | .saveComplete => Sys2Proof.Machine.execSaveComplete s
  | .warmRestart => Sys2Proof.Machine.execWarmRestart s
  | .resetAsserted => Sys2Proof.Machine.execResetAsserted s
  | .coldStart => Sys2Proof.Machine.execColdStart s
  | .emergencyCloseAsserted => Sys2Proof.Machine.execEmergencyCloseAsserted s
  | .emergencyCloseReleased => Sys2Proof.Machine.execEmergencyCloseReleased s
  | .report port src seq bits => Sys2Proof.Machine.execReport port src seq bits s
  | .event port src seq handle lowPressure sensorFault => Sys2Proof.Machine.execEvent port src seq handle lowPressure sensorFault s
  | .hpuReport port src seq state pressure => Sys2Proof.Machine.execHpuReport port src seq state pressure s
  | .loopCopy port seq => Sys2Proof.Machine.execLoopCopy port seq s
  | .ringFrameDiscarded port bytes => Sys2Proof.Machine.execRingFrameDiscarded port bytes s
  | .ringInterbyteTimeout port bytes => Sys2Proof.Machine.execRingInterbyteTimeout port bytes s
  | .orderSend => Sys2Proof.Machine.execOrderSend s
  | .pollSend => Sys2Proof.Machine.execPollSend s
  | .replyLimitExpiry => Sys2Proof.Machine.execReplyLimitExpiry s
  | .loopTimerExpiry => Sys2Proof.Machine.execLoopTimerExpiry s
  | .loopIntervalExpiry => Sys2Proof.Machine.execLoopIntervalExpiry s
  | .reportAgeExpiry hpu => Sys2Proof.Machine.execReportAgeExpiry hpu s
  | .supervisionTick => Sys2Proof.Machine.execSupervisionTick s
  | .secondsCounterIncrement => Sys2Proof.Machine.execSecondsCounterIncrement s
  | .preWarningExpiry door => Sys2Proof.Machine.execPreWarningExpiry door s
  | .readyAgeExpiry door => Sys2Proof.Machine.execReadyAgeExpiry door s
  | .startWindowExpiry door => Sys2Proof.Machine.execStartWindowExpiry door s
  | .deadlineExpiry door => Sys2Proof.Machine.execDeadlineExpiry door s
  | .hardLimitExpiry door => Sys2Proof.Machine.execHardLimitExpiry door s
  | .waitAgeExpiry slot => Sys2Proof.Machine.execWaitAgeExpiry slot s
  | .heldTimeExpiry door => Sys2Proof.Machine.execHeldTimeExpiry door s
  | .openAtSeaTimerExpiry door => Sys2Proof.Machine.execOpenAtSeaTimerExpiry door s
  | .heartbeatWindowExpiry port => Sys2Proof.Machine.execHeartbeatWindowExpiry port s
  | .summaryElapsedExpiry port => Sys2Proof.Machine.execSummaryElapsedExpiry port s
  | .walkStep slot => Sys2Proof.Machine.execWalkStep slot s
  | .codeThatNamesNothing port code => Sys2Proof.Machine.execCodeThatNamesNothing port code s

end Sys2Proof.Machine
end

