-- ==== Sys2Proof/Safety.lean ====
section
/-!
DEFINITION. What a safe run is, in the terms the claims use: the laws the manual states of the part as a whole, when a
port may give a command, and how a command ends.
-/
namespace Sys2Proof.Machine

/-! ### How a command ends -/

/-- The command answers a next state, of which `P` holds. -/
def Ends (c : Instr) (s : State) (P : State → Prop) : Prop := ∃ t, exec c s = .next t ∧ P t

/-- RESET is not asserted (R186). -/
abbrev Awake (s : State) : Prop := s.pins.reset = false

/-- The port may give an operating command that these roles are permitted (R168 steps 1 and 3). -/
abbrev Operates (s : State) (p : PortIx) (roles : List Role) : Prop :=
  Awake s ∧ s.inService = true ∧ s.roleAt p ∈ roles

/-- The port may give a command of SERVICE (R168 step 3). -/
abbrev Manages (s : State) (p : PortIx) : Prop := Awake s ∧ s.commandRole p = .SERVICE

/-- The port may give a command that step 5 of R168 guards. -/
abbrev ManagesStore (s : State) (p : PortIx) : Prop := Manages s p ∧ storeBusy s = false

/-- An order for a door is pending (R139). -/
abbrev Pending (s : State) (d : DoorIx) (k : OrderKind) : Prop := (⟨d, k⟩ : PendingOrder) ∈ s.rc.orders

/-- A run slot is IDLE (R88). -/
abbrev SlotIdle (s : State) (i : SlotIx) : Prop := s.gru.slots[i] = none

/-! ### Answers, ports and frames (R165, R171, R172) -/

/-- R171, R172: the frame stands last in the port's queue; a queue of 64 frames in which none gives way has dropped
it. -/
abbrev Answered (t : State) (p : PortIx) (f : Frame) : Prop :=
  t.sp[p].queue.getLast? = some f
  ∨ (queueSize ≤ t.sp[p].queue.length ∧ t.sp[p].queue.any Frame.isSummary = false
      ∧ t.sp[p].queue.any Frame.isNotice = false)

/-- The command was answered DONE. -/
abbrev Done (t : State) (p : PortIx) (kind : Nat) (clamped : Bool) (data : List Byte) : Prop :=
  Answered t p (resultFrame kind .DONE clamped data)

/-- SP stands but for the transmit queues. -/
abbrev OnlyQueues (s t : State) : Prop := ∀ q : PortIx, t.sp[q] = { s.sp[q] with queue := t.sp[q].queue }

/-- RC stands but for the order queue. -/
abbrev OnlyOrders (s t : State) : Prop := t.rc = { s.rc with orders := t.rc.orders }

/-- IB stands but for the pending flags of the summaries. -/
abbrev OnlyPacing (s t : State) : Prop := t.ib = { s.ib with pacing := t.ib.pacing }

/-- The tables, the store, the pins and the seconds counter stand, SP but for its queues and IB but for the pending
flags of the summaries. -/
abbrev Aside (s t : State) : Prop :=
  t.tables = s.tables ∧ t.cfs = s.cfs ∧ t.pins = s.pins ∧ t.seconds = s.seconds ∧ OnlyQueues s t ∧ OnlyPacing s t

/-- The fields of an entry that an admission pass leaves as they are. -/
def Entry.claim (e : Entry) : Direction × Nat × SourceGroup × Origin × Option RunTag × Nat :=
  (e.direction, e.cls, e.group, e.origin, e.tag, e.arrival)

/-- The claim fields of a door's entry. -/
def claimOf (s : State) (d : DoorIx) : Option (Direction × Nat × SourceGroup × Origin × Option RunTag × Nat) :=
  (s.entry d).map Entry.claim

/-- The phase of a door's entry. -/
def phaseOf (s : State) (d : DoorIx) : Option Phase := (s.entry d).map Entry.phase

/-! ### Claims (R28, R29) -/

/-- A claim on a door (R28). -/
structure Claim where
  direction : Direction
  cls : Nat
  group : SourceGroup
  deriving DecidableEq, Repr

/-- R28: the claims that stand on a door: its entry, and its passage record in OPENING or HELD. -/
def claims (s : State) (d : DoorIx) : List Claim :=
  (match s.entry d with
    | some e => [⟨e.direction, e.cls, e.group⟩]
    | none => [])
  ++ (match s.passage d with
    | some x => if x.phase = .RECLOSING then [] else [⟨.OPEN, if s.mc.mode = .EMERGENCY then 3 else 2, .C⟩]
    | none => [])

/-- R29: the source group order that each code selects, earliest first. -/
def groupOrder : Nat → List SourceGroup
  | 1 => [.A, .B, .C]
  | 2 => [.A, .C, .B]
  | 3 => [.B, .A, .C]
  | 4 => [.B, .C, .A]
  | 5 => [.C, .A, .B]
  | 6 => [.C, .B, .A]
  | _ => []

/-- R29: a demand beats a claim under a code. -/
abbrev Beats (code : Nat) (m : Demand) (c : Claim) : Prop :=
  c.cls < m.cls ∨ (m.cls = c.cls ∧ (groupOrder code).idxOf m.group < (groupOrder code).idxOf c.group)

/-- R29: a demand wins when it beats every claim that opposes it. -/
abbrev Wins (s : State) (m : Demand) : Prop :=
  ∀ c ∈ claims s m.door, c.direction ≠ m.direction → Beats s.tables.system.orderCode m c

/-! ### Laws of the order queue and the transmit queues (R139, R172) -/

/-- R139: at most one order stands for a door. -/
abbrev OrderLaw (s : State) : Prop := (s.rc.orders.map PendingOrder.door).Nodup

/-- R172: a transmit queue holds at most 64 frames. -/
abbrev QueueLaw (s : State) : Prop := ∀ p : PortIx, s.sp[p].queue.length ≤ queueSize

/-! ### Laws of the alarm list (R153, R156, R157, R161) -/

/-- The pair of a record (R153). -/
def AlarmRecord.pair (r : AlarmRecord) : AlarmKind × Nat := (r.kind, r.subject)

/-- R153, R156, R157: one record a pair, at most 63 other than LIST_FULL, LIST_FULL last and without subject, no event
record ACTIVE. -/
abbrev AlarmLaw (s : State) : Prop :=
  (s.al.records.map AlarmRecord.pair).Nodup
  ∧ otherCount s.al.records ≤ otherPlaces
  ∧ (∀ r ∈ s.al.records.dropLast, r.kind ≠ .LIST_FULL)
  ∧ (∀ r ∈ s.al.records, r.kind = .LIST_FULL → r.subject = noSubject)
  ∧ ∀ r ∈ s.al.records, r.kind = .PRECONDITION_BYPASSED → r.state = .CLEARED_UNACK

/-- R161: outside RESET the ALARM line is asserted while an unacknowledged record stands. -/
abbrev AlarmLineLaw (s : State) : Prop := Awake s → s.al.line = decide (0 < unackCount s.al.records)

/-- The condition of a kind and a subject does not stand: a record of the pair, if there is one, is CLEARED_UNACK. -/
abbrev Cleared (s : State) (k : AlarmKind) (x : Nat) : Prop :=
  ∀ r ∈ s.al.records, r.kind = k → r.subject = x → r.state = .CLEARED_UNACK

/-- A condition stands: a record of the pair is ACTIVE. -/
abbrev Standing (s : State) (k : AlarmKind) (x : Nat) : Prop :=
  ∃ r ∈ s.al.records, r.pair = (k, x) ∧ r.state ≠ .CLEARED_UNACK

/-- The alarm list takes a raise of the pair: the pair has a record, or there is room (R157). -/
abbrev HasRoom (s : State) (k : AlarmKind) (x : Nat) : Prop :=
  otherCount s.al.records < 63 ∨ ∃ r ∈ s.al.records, r.pair = (k, x)

/-- The alarm list takes a raise of the pair also after one other record was made: the pair has a record, or two places
are free (R157). -/
abbrev HasSpare (s : State) (k : AlarmKind) (x : Nat) : Prop :=
  otherCount s.al.records < 62 ∨ ∃ r ∈ s.al.records, r.pair = (k, x)

/-- Of the alarm records other than LIST_FULL only those of the given pairs may differ. -/
abbrev OnlyAlarms (s t : State) (pairs : List (AlarmKind × Nat)) : Prop :=
  (∀ r ∈ s.al.records, r.pair ∉ pairs → r.kind ≠ .LIST_FULL → r ∈ t.al.records)
  ∧ ∀ r ∈ t.al.records, r.pair ∉ pairs → r.kind ≠ .LIST_FULL → r ∈ s.al.records

/-! ### Laws of the schedule (R12, R39, R54) -/

/-- The draw a door has committed: its own where its entry is MOVING. -/
def movingDraw (s : State) (d : DoorIx) : Nat :=
  match s.entry d with
  | some e => if e.phase = .MOVING then s.draw d else 0
  | none => 0

/-- R54: the committed flow of every HPU is the sum of the draws of the MOVING entries on it. -/
abbrev FlowLaw (s : State) : Prop :=
  ∀ h : HpuIx, s.cs.flow[h].committed = ((allDoors.filter fun d => decide (s.hpuOf d = h)).map (movingDraw s)).sum

/-- The door has an OPEN entry. -/
def hasOpenEntry (s : State) (d : DoorIx) : Bool :=
  match s.entry d with
  | some e => decide (e.direction = .OPEN)
  | none => false

/-- R12: a door whose fault latch is set has no OPEN entry. -/
abbrev LatchLaw (s : State) : Prop := ∀ d : DoorIx, s.latch d ≠ .NONE → hasOpenEntry s d = false

/-- The arrival number of a door's entry. -/
def arrivalOf (s : State) (d : DoorIx) : Option Nat := (s.entry d).map Entry.arrival

/-- R39 to R41: every arrival number was given by the counter, and no two entries hold the same one. -/
abbrev ArrivalLaw (s : State) : Prop :=
  s.cs.nextArrival ≤ arrivalTop
  ∧ (∀ d : DoorIx, ∀ n ∈ arrivalOf s d, n < s.cs.nextArrival)
  ∧ ∀ a b : DoorIx, a ≠ b → ∀ n ∈ arrivalOf s a, n ∉ arrivalOf s b

/-- R57: no entry has been overtaken more than three times. -/
abbrev OvertakenLaw (s : State) : Prop := ∀ d : DoorIx, ∀ e ∈ s.entry d, e.overtaken ≤ 3

/-- R3, R181: the HPU field of a door that has an entry is an HPU's (entry 22). -/
abbrev HpuFieldLaw (s : State) : Prop := ∀ d : DoorIx, (s.entry d).isSome = true → s.tables.doors[d].hpu ≤ 7

/-! ### Laws of the runs (R89, R91, R97) -/

/-- R88, R91: the slotting order holds the station slots that hold a run, each once; the suspension stack holds at
most four contexts, its classes not rising from the top down; while it holds one every station slot holds a run, of a
class no lower than any context on it. -/
abbrev StackLaw (s : State) : Prop :=
  s.gru.slotting.Nodup ∧ (∀ i : SlotIx, i ∈ s.gru.slotting ↔ i ∈ stationSlots ∧ ¬SlotIdle s i)
  ∧ s.gru.stack.length ≤ stackSize
  ∧ (s.gru.stack.map Run.cls).Pairwise (fun a b => b ≤ a)
  ∧ ∀ r ∈ s.gru.stack, ∀ i ∈ stationSlots, ∃ c ∈ slotClass s i, r.cls ≤ c

/-- R97 to R99: between two commands no complete run stands, and no resumed run has its precondition to look at again. -/
abbrev SettledLaw (s : State) : Prop := (∀ r ∈ liveRuns s, r.done = false) ∧ s.gru.resumed = []

/-- The doors whose entries carry a run number. -/
def taggedDoors (s : State) (number : Byte) : List DoorIx :=
  allDoors.filter fun d => match s.entry d with
    | some e => tagged number d e
    | none => false

/-- R89: the live run numbers are distinct, every tag belongs to a live context, and the outstanding count of a run is
the number of entries that carry its tag. -/
abbrev TagLaw (s : State) : Prop :=
  ((liveRuns s).map Run.number).Nodup
  ∧ (∀ n : Byte, taggedDoors s n ≠ [] → n ∈ (liveRuns s).map Run.number)
  ∧ ∀ r ∈ liveRuns s, r.outstanding = (taggedDoors s r.number).length

/-! ### Laws of the mode, the part state and the doors (R2, R22, R107, R179) -/

/-- R107: while the part is IN_SERVICE and the line's assertion has been taken, the mode is EMERGENCY. -/
abbrev EmergencyLaw (s : State) : Prop := s.inService = true → s.mc.line = true → s.mc.mode = .EMERGENCY

/-- R2: a door that is not present holds the start values of its reported fields, and no poll of it waits. -/
abbrev AbsentLaw (s : State) : Prop :=
  ∀ d : DoorIx, s.isPresent d = false →
    s.rc.reported[d] = Reported.start ∧ (s.rc.polled = some d → s.rc.pollEnded = true)

/-- R22, R105, R108, R133: no passage record stands in LOCAL; while the part is UNCONFIGURED the mode is LOCAL, the
schedule, the slots and the stack are empty, and no door is polled. -/
abbrev QuietLaw (s : State) : Prop :=
  (s.mc.mode = .LOCAL → ∀ d : DoorIx, s.passage d = none)
  ∧ (s.inService = false →
      s.mc.mode = .LOCAL ∧ (∀ d : DoorIx, s.entry d = none) ∧ (∀ i : SlotIx, SlotIdle s i) ∧ s.gru.stack = []
      ∧ s.rc.polled = none)

/-- A law is kept by every step of the part. -/
def KeptByStep (law : State → Prop) : Prop := ∀ s t : State, law s → step s = .next t → law t

/-! ### Tables a write can have left (1.2, 3.5, 5.1, 9.2, 9.5) -/

/-- A door record holds values of its table alone. -/
abbrev DoorConfig.inRange (c : DoorConfig) : Prop := c.refused = false ∧ c.clamp = c
/-- An HPU record holds values of its table alone. -/
abbrev HpuConfig.inRange (c : HpuConfig) : Prop := c.refused = false ∧ c.clamp = c
/-- A group record holds values of its table alone, and as many entries as its count says. -/
abbrev GroupRec.inRange (g : GroupRec) : Prop := g.refused = false ∧ g.clamp = g ∧ g.entries.length = g.count
/-- A permit row holds values of its table alone. -/
abbrev PermitRow.inRange (r : PermitRow) : Prop := r.refused = false ∧ r.clamp = r
/-- The system record holds values of its table alone. -/
abbrev SystemRecord.inRange (r : SystemRecord) : Prop := r.refused = false ∧ r.clamp = r

/-- Every field that a write clamps stands clamped, and every group's list is as its count says, 32 entries at most. -/
abbrev Tables.clamped (t : Tables) : Prop :=
  (∀ d : DoorIx, (t.doors[d]).clamp = t.doors[d]) ∧ (∀ h : HpuIx, (t.hpus[h]).clamp = t.hpus[h])
  ∧ (∀ g : GroupIx, (t.groups[g]).clamp = t.groups[g] ∧ t.groups[g].entries.length = min t.groups[g].count 32)
  ∧ (∀ p : PortIx, (t.permits[p]).clamp = t.permits[p]) ∧ t.system.clamp = t.system

/-- Every record of the tables holds values that a write would take and leave as they are. -/
abbrev Tables.inRange (t : Tables) : Prop :=
  (∀ d : DoorIx, (t.doors[d]).inRange) ∧ (∀ h : HpuIx, (t.hpus[h]).inRange) ∧ (∀ g : GroupIx, (t.groups[g]).inRange)
  ∧ (∀ p : PortIx, (t.permits[p]).inRange) ∧ t.system.inRange

/-- R3, R173, R175, R181: every field that a write clamps is within its range, the tables pass the commissioning checks
while the part is in service, and the HPU field of every door with an entry names an HPU. -/
abbrev TableLaw (s : State) : Prop :=
  s.tables.clamped ∧ (s.inService = true → commissionChecks s.tables = none) ∧ HpuFieldLaw s

/-! ### The queue of commands and the outcome of a command -/

/-- The commands that may change the tables (R173, R186). -/
def writesTables : Instr → Bool
  | .tableWriteDoor _ _ _ | .tableWriteHpu _ _ _ | .tableWriteGroup _ _ _ | .tableWritePermitRow _ _ _
  | .tableWriteSystemRecord _ _ _ | .coldStart => true
  | _ => false

/-- The commands that may change the part state (R179). -/
def changesPart : Instr → Bool
  | .commission _ | .decommission _ | .warmRestart | .coldStart => true
  | _ => false

/-- The commands that may change the mode (R105): a request, the line, a change of the silent flags that bridge loss
follows, a start. -/
def changesMode : Instr → Bool
  | .modeSetLocal _ | .modeSetClosed _ | .modeSetEmergency _ | .emergencyCloseAsserted | .heartbeat _
  | .heartbeatWindowExpiry _ | .tableWritePermitRow _ _ _ | .commission _ | .warmRestart | .coldStart => true
  | _ => false

/-! ### Admission (R56 to R58) -/

/-- The door stands READY on the HPU. -/
abbrev ReadyOn (s : State) (h : HpuIx) (d : DoorIx) : Prop := entryIn s h .READY d = true

/-- The door is the first READY entry on the HPU in schedule order. -/
abbrev HeadOn (s : State) (h : HpuIx) (d : DoorIx) : Prop :=
  ReadyOn s h d ∧ ∀ x : DoorIx, ReadyOn s h x → x ≠ d → schedBefore s d x = true

/-- A pass from `s` to `t` admitted the door. -/
abbrev AdmittedIn (s t : State) (h : HpuIx) (d : DoorIx) : Prop :=
  ReadyOn s h d ∧ phaseOf t d = some .MOVING

/-- The doors a pass admitted past a door that stands before them. -/
def overtakers (s t : State) (h : HpuIx) (head : DoorIx) : List DoorIx :=
  allDoors.filter fun d => decide (AdmittedIn s t h d) && schedBefore s head d

/-- The arrival number of a door's entry, 0 where it has none. -/
def arrivalNo (s : State) (d : DoorIx) : Nat := (arrivalOf s d).getD 0

/-- R39: the entry of `x` stands before that of `y`: a higher class, or the same class and the lower arrival number. -/
abbrev Precedes (s : State) (x y : DoorIx) : Prop :=
  entryClass s y < entryClass s x ∨ (entryClass s x = entryClass s y ∧ arrivalNo s x < arrivalNo s y)

/-- R56 step 2: the further READY entries on the HPU of a head's class. -/
def further (s : State) (h : HpuIx) (head : DoorIx) : List DoorIx :=
  allDoors.filter fun x =>
    decide (ReadyOn s h x ∧ entryClass s x = entryClass s head ∧ arrivalNo s head < arrivalNo s x)

/-- R56 step 2: one of the first of them, as many as the look-ahead depth says. -/
abbrev Examined (s : State) (h : HpuIx) (head x : DoorIx) : Prop :=
  x ∈ further s h head
  ∧ ((further s h head).filter fun y => decide (arrivalNo s y < arrivalNo s x)).length < s.tables.system.lookAhead

/-- R53, R56: the entry fits with the draws committed that a pass from `s` to `t` admitted before it. -/
abbrev FitsInTurn (s t : State) (h : HpuIx) (x : DoorIx) : Prop :=
  s.cs.flow[h].committed + ((allDoors.filter fun y => decide (AdmittedIn s t h y ∧ Precedes s y x)).map s.draw).sum
    + s.draw x ≤ admissionLimit s h (entryClass s x)

/-- R55 to R57: no head fits on a present HPU, as an admission pass leaves it. -/
abbrev PassedLaw (s : State) : Prop :=
  ∀ h : HpuIx, s.hpuPresent h = true → ∀ d : DoorIx, HeadOn s h d → entryFits s h d = false

/-- R55: one admission pass of the HPU was taken on the schedule `c`, and nothing else befell the schedule. -/
abbrev Passed (s t : State) (h : HpuIx) (c : Cs) : Prop := t.cs = (pass h { s with cs := c }).cs

/-- R55, R60: one admission pass of the HPU was taken on the schedule `c`, and then the test of its delay alarm flag. -/
abbrev PassedAndTested (s t : State) (h : HpuIx) (c : Cs) : Prop :=
  let u := pass h { s with cs := c }
  t.cs = { u.cs with flow := upd u.cs.flow h fun f => { f with delayAlarm := admissionDelayed t h } }

/-- R52, R55: E of the HPU was recomputed: a new value caused one admission pass, the value it held changed nothing of the
schedule. -/
abbrev Recomputed (s t : State) (h : HpuIx) : Prop :=
  let e := effectiveCapacity t h
  (s.cs.flow[h].capacityE = e → t.cs = s.cs)
  ∧ (s.cs.flow[h].capacityE ≠ e →
      Passed s t h { s.cs with flow := upd s.cs.flow h fun f => { f with capacityE := e } })

/-- R47 steps 1 and 3: the schedule without a door's entry, its draw released where it was MOVING. -/
def schedWithout (s : State) (d : DoorIx) : Cs :=
  { s.cs with entries := s.cs.entries.set d none
              flow := upd s.cs.flow (s.hpuOf d) fun f => { f with committed := f.committed - movingDraw s d } }

/-- R26: the schedule with a door's entry made new by a demand, under the next arrival number. -/
def schedWith (s : State) (m : Demand) : Cs :=
  { s.cs with entries := s.cs.entries.set m.door (some (m.newEntry (s.preWarn m.door) s.cs.nextArrival))
              nextArrival := s.cs.nextArrival + 1 }

/-! ### Demands (chapter 2) -/

/-- The direction of a door's entry. -/
def directionOf (s : State) (d : DoorIx) : Option Direction := (s.entry d).map Entry.direction

/-- R33: a CLOSE demand that wins ends a passage record in OPENING or HELD. -/
def passageAfter (s : State) (m : Demand) : Option Passage :=
  match s.passage m.door with
  | some x => if m.direction = .CLOSE ∧ x.phase ≠ .RECLOSING then none else some x
  | none => none

/-- The RUN_REPORT frames that wait at a port. -/
abbrev reportsAt (s : State) (q : PortIx) : List Frame := s.sp[q].queue.filter fun f => decide (f.kind = .RUN_REPORT)

/-- R97: the RUN_REPORT of a run stands in the queue of each port of its destination that had room: the port of its
origin, and for a system run every BRIDGE and SAFETY row. -/
abbrev ReportSent (s t : State) (m : EndMark) (r : Run) : Prop :=
  ∀ q : PortIx, r.origin = .STATION q ∨ (r.origin ∈ [RunOrigin.MODE, .LINE] ∧ s.roleAt q ∈ [.BRIDGE, .SAFETY]) →
    s.sp[q].queue.length ≤ 40 → runReport m r ∈ t.sp[q].queue

/-- R34, R96 to R99: what GRU holds after a report that changes its contexts by `f`. Where no context completes, every
context stands changed by `f` and nothing else. In a part that meets the laws of the runs a context that completes is
reported; one in a slot leaves it, to the top of the stack where it is a station slot and a context is stacked; one on the
stack leaves the stack; every other context stands. -/
abbrev Told (s t : State) (f : Run → Run) : Prop :=
  t.gru.counter = s.gru.counter
  ∧ ((∀ r ∈ liveRuns s, (f r).done = false) →
      (∀ i : SlotIx, t.gru.slots[i] = (s.gru.slots[i]).map f) ∧ t.gru.stack = s.gru.stack.map f
      ∧ t.gru.slotting = s.gru.slotting ∧ t.gru.resumed = s.gru.resumed)
  ∧ (TagLaw s → SettledLaw s →
      (∀ i : SlotIx, ∀ r ∈ s.gru.slots[i], (f r).done = true →
        ReportSent s t .COMPLETE (f r)
        ∧ (∀ j : SlotIx, j ≠ i → t.gru.slots[j] = s.gru.slots[j])
        ∧ (i = slotS ∨ s.gru.stack = [] → SlotIdle t i ∧ t.gru.stack = s.gru.stack ∧ t.gru.resumed = []
            ∧ t.gru.slotting = s.gru.slotting.filter fun k => decide (k ≠ i))
        ∧ (i ≠ slotS → ∀ x ∈ s.gru.stack.head?,
            t.gru.slots[i] = some { x with slot := i } ∧ t.gru.stack = s.gru.stack.tail
            ∧ t.gru.slotting = (s.gru.slotting.filter fun k => decide (k ≠ i)) ++ [i]
            ∧ t.gru.resumed = if x.state = .WAITING then [i] else []))
      ∧ ∀ r ∈ s.gru.stack, (f r).done = true →
          ReportSent s t .COMPLETE (f r) ∧ t.gru.slots = s.gru.slots ∧ t.gru.slotting = s.gru.slotting
          ∧ t.gru.stack = s.gru.stack.filter fun x => decide (x.number ≠ r.number))

/-- R34: the fate overruled of a displaced tag, in the context that holds its number. -/
def overruledBy (tag : Option RunTag) (r : Run) : Run :=
  match tag with
  | some x => if r.number = x.number then
      { r with overruled := min (r.overruled + 1) 255, outstanding := r.outstanding - 1 } else r
  | none => r

/-- R96: the fate completed of the tag of a removed entry, in the context that holds its number. -/
def completedBy (tag : Option RunTag) (r : Run) : Run :=
  match tag with
  | some x => if r.number = x.number then
      { r with completed := min (r.completed + 1) 255, outstanding := r.outstanding - 1 } else r
  | none => r

/-- R96: the fate faulted of the tag of a removed entry, in the context that holds its number. -/
def faultedBy (tag : Option RunTag) (r : Run) : Run :=
  match tag with
  | some x => if r.number = x.number then
      { r with faulted := min (r.faulted + 1) 255, outstanding := r.outstanding - 1 } else r
  | none => r

/-- R41: an arrival number after a renumbering for a door: how many standing entries of other doors hold a lower one. -/
def renumbered (s : State) (d : DoorIx) (n : Nat) : Nat :=
  (allDoors.filter fun x => decide (x ≠ d) && match s.entry x with
    | some e => decide (e.arrival < n)
    | none => false).length

/-- R41: a demand at the top of the arrival counter has renumbered the other entries in their order, and its own entry
takes the number that follows. -/
abbrev Renumbered (s t : State) (m : Demand) : Prop :=
  let n := (allDoors.filter fun x => decide (x ≠ m.door) && (s.entry x).isSome).length
  claimOf t m.door = some (m.direction, m.cls, m.group, m.origin, m.tag, n) ∧ t.cs.nextArrival = n + 1
  ∧ ∀ x : DoorIx, x ≠ m.door →
      claimOf t x = (s.entry x).map fun e => { e with arrival := renumbered s m.door e.arrival }.claim

/-! ### Station commands: the steps that refuse (R168, R169) -/

/-- R169: the roles that a station command is permitted. -/
def permittedRoles : Instr → List Role
  | .modeSetLocal _ | .modeSetClosed _ | .doorOpen _ _ _ | .groupOpen _ _ _ => [.BRIDGE]
  | .modeSetEmergency _ => [.BRIDGE, .SAFETY]
  | .doorClose _ _ _ | .groupClose _ _ _ | .alarmAck _ _ _ | .alarmAckAll _ => [.BRIDGE, .SAFETY, .ENGINE]
  | .tableReadAlarmList _ _ _ => [.BRIDGE, .SAFETY, .ENGINE, .SERVICE]
  | .heartbeat _ | .snapshotReq _ | .runCancel _ _ => [.NONE, .BRIDGE, .SAFETY, .ENGINE, .SERVICE]
  | _ => [.SERVICE]

/-- An OPEN command (R168 step 4). -/
def isOpenCommand : Instr → Bool
  | .doorOpen _ _ _ | .groupOpen _ _ _ => true
  | _ => false

/-- A command whose code names something (R168 step 2). -/
def codeKnown : Instr → Bool
  | .codeThatNamesNothing _ _ => false
  | .alarmAck _ kind _ => decide (1 ≤ kind.toNat ∧ kind.toNat ≤ 17)
  | _ => true

/-- The kinds whose commands step 5 of R168 guards: TABLE_WRITE, COMMISSION, DECOMMISSION, SAVE, RESTART. -/
def guardedKinds : List Nat := [10, 13, 14, 15, 16]

/-! ### Bridge loss (R126) -/

/-- R126: BRIDGE_LOST is raised where bridge loss begins and the list has room for it, cleared where it ends, and its
record stands where it neither begins nor ends. -/
abbrev BridgeAlarmFollows (s t : State) (room : Prop) : Prop :=
  (s.mc.bridgeLost = false → t.mc.bridgeLost = true → room → Standing t .BRIDGE_LOST noSubject)
  ∧ (s.mc.bridgeLost = true → t.mc.bridgeLost = false → AlarmLaw s → Cleared t .BRIDGE_LOST noSubject)
  ∧ (t.mc.bridgeLost = s.mc.bridgeLost →
      ∀ r ∈ s.al.records, r.pair = (.BRIDGE_LOST, noSubject) → r ∈ t.al.records)

/-! ### MODE_SET (R106, R108 to R110) -/

/-- The claim fields of an entry whose tag is detached where it is of the run that slot S held (R101). -/
def claimLess (s : State) (e : Entry) : Direction × Nat × SourceGroup × Origin × Option RunTag × Nat :=
  match s.gru.slots[slotS], e.tag with
  | some r, some x => if x.number = r.number then { e with tag := none }.claim else e.claim
  | _, _ => e.claim

/-- R101: an ALL CLOSE run of a class has been launched into slot S: the new run walks from the start of the list, the
replaced run's tag is gone, and every other slot, the stack and every other claim stands. -/
abbrev Launched (s t : State) (cls : Nat) (origin : RunOrigin) : Prop :=
  t.gru = { s.gru with slots := s.gru.slots.set slotS (some (newRun slotS .ALL .CLOSE cls .A origin (nextNumber s)))
                       counter := nextNumber s + 1 }
  ∧ (∀ d : DoorIx, claimOf t d = (s.entry d).map (claimLess s))
  ∧ t.ms = s.ms ∧ OnlyOrders s t

/-- The claim fields of an entry from which the tag of a live run is detached (R102). -/
def claimFreed (s : State) (e : Entry) : Direction × Nat × SourceGroup × Origin × Option RunTag × Nat :=
  match e.tag with
  | some x => if numberHeld s x.number then { e with tag := none }.claim else e.claim
  | none => e.claim

/-- A CLOSE entry of class 0-2 that does not move (R48, R108). -/
def flushed (e : Entry) : Bool :=
  decide (e.direction = .CLOSE) && decide (e.cls ≤ 2) && decide (e.phase ≠ .MOVING)

/-- R48, R110: what an entry into EMERGENCY leaves; the clause about slot S is for a part that meets the laws of the runs,
the clauses about entries for one that meets them with an empty suspension stack, where no run resumes, and an arrival
counter below its top, where nothing is renumbered. -/
abbrev EmergencyEntered (s t : State) (c : EmergencyCause) : Prop :=
  t.mc.mode = .EMERGENCY ∧ t.mc.line = s.mc.line ∧ t.mc.sea = s.mc.sea ∧ t.mc.bridgeLost = s.mc.bridgeLost
  ∧ (StackLaw s → TagLaw s → (t.gru.slots[slotS]).map (fun r => { r with number := 0 })
      = some (newRun slotS .ALL .CLOSE 3 .A c.runOrigin 0))
  ∧ (∀ d : DoorIx, s.isEscape d = false → t.passage d = none)
  ∧ (s.gru.stack = [] → TagLaw s → SettledLaw s → s.cs.nextArrival + 96 < arrivalTop →
      (∀ d : DoorIx, ∀ e ∈ t.entry d, (e.direction = .CLOSE → e.cls = 3)
        ∧ (e.direction = .OPEN → s.isEscape d = true ∨ e.phase = .WARNING))
      ∧ (∀ d : DoorIx, ∀ e ∈ s.entry d, e.direction = .CLOSE →
          claimOf t d = some (claimLess s { e with cls := 3 }))
      ∧ (∀ d : DoorIx, ∀ e ∈ s.entry d, e.direction = .OPEN → s.isEscape d = true →
          claimOf t d = some (claimLess s e))
      ∧ (∀ d : DoorIx, ∀ e ∈ s.entry d, e.direction = .OPEN → s.isEscape d = false → e.phase = .MOVING →
          claimOf t d = some (.CLOSE, 3, .A, c.origin, none, e.arrival) ∧ phaseOf t d = some .MOVING
          ∧ (t.entry d).map Entry.started = some false ∧ Pending t d (.MOVE .CLOSE true)))
  ∧ t.ms = s.ms ∧ OnlyOrders s t

/-! ### Door commands (R22, R35, R168, R170) -/

/-- R170: the class a row's command is used at. -/
def classUsed (s : State) (p : PortIx) (cls : Byte) : Nat := min cls.toNat (s.row p).maxClass

/-- R170: the clamp mark. -/
def marked (s : State) (p : PortIx) (cls : Byte) : Bool := decide (classUsed s p cls ≠ cls.toNat)

/-- R26, R170: a station's demand has been ENQUEUED for a door: the entry made at the class used, in the row's source
group, under the next arrival number, answered DONE; every other claim stands. -/
abbrev EnqueuedFor (s t : State) (p : PortIx) (cls : Byte) (d : DoorIx) (dir : Direction)
    (kind : Nat) : Prop :=
  claimOf t d = some (dir, classUsed s p cls, s.rowGroup p, .STATION p, none, s.cs.nextArrival)
  ∧ (∀ x : DoorIx, x ≠ d → claimOf t x = claimOf s x)
  ∧ t.cs.nextArrival = s.cs.nextArrival + 1 ∧ t.mc.oas[d] = ⟨0, false⟩ ∧ t.mc.passages = s.mc.passages
  ∧ t.mc.sea = s.mc.sea ∧ t.mc.mode = s.mc.mode ∧ t.gru = s.gru ∧ t.ms = s.ms ∧ OnlyOrders s t
  ∧ Done t p kind (marked s p cls) [0] ∧ Aside (acceptFrame p s) t

/-! ### Group commands (R89 to R92) -/

/-- The port may command groups in the direction (R168 steps 1, 3 and 4). -/
abbrev Commands (s : State) (p : PortIx) (dir : Direction) : Prop :=
  (dir = .CLOSE → Operates s p [.BRIDGE, .SAFETY, .ENGINE])
  ∧ (dir = .OPEN → Operates s p [.BRIDGE] ∧ s.mc.mode ≠ .EMERGENCY)

/-- The port's row includes the group, and the group is present; ALL always is (R87, R90 steps 1 and 2). -/
abbrev Includes (s : State) (p : PortIx) (g : GroupRef) : Prop :=
  ∀ i : GroupIx, g = .stored i → s.tables.groups[i].present = 1 ∧ (s.row p).groupMask.getLsbD i.val = true

/-- The group command of a direction. -/
def groupInstr (p : PortIx) (group cls : Byte) : Direction → Instr
  | .CLOSE => .groupClose p group cls
  | .OPEN => .groupOpen p group cls

/-- The kind code of the group command of a direction. -/
def groupKind : Direction → Nat
  | .CLOSE => 5
  | .OPEN => 6

/-- The run in a slot holds the lowest class among the station runs, and of those it stands latest in the slotting order
(R91). -/
abbrev VictimAt (s : State) (k : SlotIx) (r : Run) : Prop :=
  s.gru.slots[k] = some r ∧ (∀ j ∈ stationSlots, ∃ x ∈ s.gru.slots[j], r.cls ≤ x.cls)
  ∧ s.gru.slotting.reverse.find? (fun i => decide (slotClass s i = some r.cls)) = some k

/-! ### RUN_CANCEL (R48, R100) -/

/-- R100: who may cancel a run. -/
abbrev MayCancel (s : State) (p : PortIx) (r : Run) : Prop :=
  (∀ q : PortIx, r.origin = .STATION q → q = p ∨ s.roleAt p = .BRIDGE)
  ∧ (r.origin = .MODE ∨ r.origin = .LINE → s.roleAt p = .BRIDGE ∧ s.mc.mode ≠ .EMERGENCY)

/-! ### Preconditions (R94, R98) -/

/-- R94: the entry names no precondition door, or one at the run's target. -/
abbrev PreMet (s : State) (r : Run) (e : GroupEntry) : Prop :=
  ∀ q : DoorIx, e.pre = q.val → s.position q = r.direction.target

/-- R94: the precondition is not met and is bypassed: the door is UNKNOWN, or its fault latch is set. -/
abbrev PreBypassed (s : State) (r : Run) (e : GroupEntry) : Prop :=
  ∃ q : DoorIx, e.pre = q.val ∧ s.position q ≠ r.direction.target ∧ (s.position q = .UNKNOWN ∨ s.latch q ≠ .NONE)

/-- R94: the precondition is neither met nor bypassed: the run waits. -/
abbrev PreWaits (s : State) (r : Run) (e : GroupEntry) : Prop :=
  ∃ q : DoorIx, e.pre = q.val ∧ s.position q ≠ r.direction.target ∧ s.position q ≠ .UNKNOWN ∧ s.latch q = .NONE

/-- R98: a context that resumes stands as it was stacked: it is not WAITING, or its precondition still is not met. -/
abbrev ResumesAsStacked (s : State) (x : Run) : Prop := x.state ≠ .WAITING ∨ ∃ e ∈ listEntry s x, PreWaits s x e

/-- The run number stands in a slot. -/
abbrev NumberedIn (s : State) (i : SlotIx) (n : Byte) : Prop := (s.gru.slots[i]).map Run.number = some n

/-! ### Alarms (R12, R154 to R161) -/

/-- R153: the record as acknowledged. -/
def acked (r : AlarmRecord) : AlarmRecord := { r with state := .ACTIVE_ACKED }

/-- R153: the list with the record of the pair changed in its place. -/
def inPlace (l : List AlarmRecord) (r : AlarmRecord) : List AlarmRecord := l.map fun q => if q.pair = r.pair then r else q

/-- R162: the notices of these changes, each with the unacknowledged count after it, were placed, in their order, at each
port whose row enables the category, where its queue has room for them; the other ports stand. -/
abbrev Noticed (s t : State) (l : List (Change × AlarmRecord × Nat)) : Prop :=
  ∀ q : PortIx,
    let frames := (l.filter fun x => (s.row q).notices.getLsbD x.2.1.kind.category).map fun x =>
      noticeFrame x.1 x.2.1 x.2.2
    s.sp[q].queue.length + frames.length ≤ 64 → t.sp[q] = { s.sp[q] with queue := s.sp[q].queue ++ frames }

/-- R161, R162: the alarm list became `l` by these changes, the ALARM line follows it, and nothing else changed but the
queues of the notices and, at the removal of a DOOR_FAULT record, a latch. -/
abbrev ListBecame (s t : State) (l : List AlarmRecord) (changes : List (Change × AlarmRecord × Nat)) : Prop :=
  t.al = { s.al with records := l, line := decide (0 < unackCount l) } ∧ Noticed s t changes ∧ OnlyQueues s t ∧ OnlyPacing s t
  ∧ t = { s with al := t.al, sp := t.sp, ib := t.ib, ms := t.ms }

/-- R12, R76, R160: the latch of a door after a presentation at a position that ends its entry in no fault: NONE where a
settled position removes the door's DOOR_FAULT record, which stood ACTIVE_ACKED, and else as it was. -/
def restedLatch (s : State) (d : DoorIx) (now : Position) : Latch :=
  if (now = .CLOSED ∨ now = .OPEN) ∧ ∃ r ∈ s.al.records, r.pair = (.DOOR_FAULT, d.val) ∧ r.state = .ACTIVE_ACKED then .NONE
  else s.latch d

/-! ### The ZONE_SUMMARY (R148, R192) -/

/-- R148, R192: the ZONE_SUMMARY of a port as the state stands: two compartments a byte, 5 for one outside the mask, the
four door counts, the mode and the unacknowledged count. -/
def summaryOf (s : State) (p : PortIx) : Frame :=
  let code := fun (c : Nat) => if h : c < 32 then
      (if (s.row p).summaryMask.getLsbD c then s.ib.comps[c].code else 5) else 5
  let count := fun (i : Indication) =>
    byteOf ((s.presentDoors.filter fun d => decide ((s.position d).indication = i)).length)
  ⟨.ZONE_SUMMARY, ((List.range 16).map fun m => byteOf (16 * code (2 * m) + code (2 * m + 1)))
    ++ [count .SEALED, count .MOVING, count .OPEN, count .UNKNOWN, byteOf s.mc.mode.code,
        byteOf (unackCount s.al.records)]⟩

/-- R149: a compartment of these codes that the port watches has an indication other than the one held. -/
abbrev Watched (s : State) (p : PortIx) (codes : List Nat) (now : CompIx → Indication) : Prop :=
  ∃ c : CompIx, c.val ∈ codes ∧ (s.row p).summaryMask.getLsbD c.val = true ∧ now c ≠ s.ib.comps[c]

/-! ### The tables (R3, R4, R49, R62, R86, R173 to R175) -/

/-- A TABLE_WRITE was taken: the tables stand as given, and it was answered with the clamp mark. -/
abbrev Written (s t : State) (p : PortIx) (new : Tables) (clamped : Bool) : Prop :=
  t.tables = new ∧ Done t p 10 clamped [] ∧ t.cfs = s.cfs ∧ t.mc.sea = s.mc.sea ∧ t.seconds = s.seconds
  ∧ t.pins = s.pins ∧ t.sp[p].accepted = min (s.sp[p].accepted + 1) 65535

/-! ### Reading (R14, R176, R177) -/

/-- R171, R176: the answer of a TABLE_READ. -/
def readAnswer (p : PortIx) (table : Nat) (records : List (List Byte)) (first count : Byte) (s : State) :
    State :=
  let l := recordsRead records first.toNat count.toNat
  answerDone p 11 false (BitVec.ofNat 8 table :: first :: BitVec.ofNat 8 l.length :: l.flatten) (acceptFrame p s)

/-- R177: the counts of a port that COUNTER_READ clears. -/
def uncounted (x : StationPort) : StationPort := { x with accepted := 0, discarded := 0, refused := 0 }

/-! ### Commissioning (R180 to R183) -/

/-- R85: the list of a present group. -/
abbrev ListOk (t : Tables) (l : List GroupEntry) : Prop :=
  l ≠ [] ∧ (l.map GroupEntry.door).Nodup
  ∧ (∀ e ∈ l, ∃ d : DoorIx, d.val = e.door ∧ t.doorPresent d = true)
  ∧ ∀ k ∈ List.range l.length, ∀ e ∈ l[k]?, e.pre = 127 ∨
      ((∃ d : DoorIx, d.val = e.pre ∧ t.doorPresent d = true) ∧ e.pre ∈ (l.take k).map GroupEntry.door)

/-- R127: the mode an entry into IN_SERVICE brings. -/
def startMode (s : State) : Mode :=
  if s.mc.line then .EMERGENCY else if s.tables.system.startMode = 1 then .CLOSED else .LOCAL

/-- R101, R127: the run in slot S after an entry into a mode of a part whose slots were empty. -/
def startRun (s : State) : Option Run :=
  match startMode s with
  | .EMERGENCY => some (newRun slotS .ALL .CLOSE 3 .A .LINE s.gru.counter)
  | .CLOSED => some (newRun slotS .ALL .CLOSE 2 .A .MODE s.gru.counter)
  | .LOCAL => none

/-- The ZONE_SUMMARY frames that wait at a port. -/
abbrev summariesAt (s : State) (q : PortIx) : List Frame := s.sp[q].queue.filter Frame.isSummary

/-- R127, R128, R133, R145, R150, R182: a part whose schedule, slots and passages are empty has entered IN_SERVICE: the
mode, the system run, the first POLL out, every report age 0, the elapsed of the rows with heartbeat required; HPU_FAILED
raised for each present HPU that is FAILED, where the list has room; and at a port whose queue has room one ZONE_SUMMARY
more where its mask is not zero, none where it is, with its pacing begun. -/
abbrev EnteredService (s t : State) : Prop :=
  t.cfs.part = .IN_SERVICE ∧ t.tables = s.tables ∧ t.mc.mode = startMode s ∧ t.mc.line = s.mc.line
  ∧ t.gru.slots[slotS] = startRun s ∧ (∀ i : SlotIx, i ≠ slotS → SlotIdle t i) ∧ t.gru.stack = []
  ∧ (∀ d : DoorIx, t.entry d = none ∧ t.passage d = none)
  ∧ t.cs.nextArrival = s.cs.nextArrival
  ∧ (∀ h : HpuIx, t.rc.hpus[h] = { s.rc.hpus[h] with age := 0 })
  ∧ t.rc.polled = firstDoor s
  ∧ (∀ d ∈ firstDoor s, t.rc.pollEnded = false ∧ t.rc.replyLimit = 3
      ∧ t.pins.ringOut = [ringFrameBytes (byteOf s.tables.doors[d].node) 0 1 s.rc.txSeq []])
  ∧ (∀ q : PortIx, (s.row q).hbRequired = 1 → t.sp[q].hbElapsed = 0)
  ∧ (∀ q : PortIx, (s.row q).summaryMask ≠ 0 → t.ib.pacing[q].elapsed = 0)
  ∧ t.rc.reported = s.rc.reported ∧ t.rc.filter = s.rc.filter ∧ t.ms = s.ms ∧ t.mc.sea = s.mc.sea
  ∧ (∀ h : HpuIx, s.hpuPresent h = true → s.rc.hpus[h].state = .FAILED → otherCount s.al.records ≤ 54 →
      Standing t .HPU_FAILED h.val)
  ∧ (AlarmLaw s → otherCount s.al.records ≤ 20 → ∀ q : PortIx, s.sp[q].queue.length ≤ 20 →
      summariesAt t q = summariesAt s q ++ (if (s.row q).summaryMask = 0 then [] else [zoneSummary t q])
      ∧ ((s.row q).summaryMask ≠ 0 → t.ib.pacing[q] = ⟨0, false⟩))

/-! ### SAVE, RESTART, RESET and the starts (R184 to R187) -/

/-- The part as a cold start finds it with a bad image (R16, R63, R84, R104, R127, R128, R145, R164, R178, R186). -/
def coldBlank (s : State) : State :=
  { State.reset with
    cfs := { State.reset.cfs with image := s.cfs.image }
    mc := Mc.cold s.pins.emClose
    pins := { State.reset.pins with emClose := s.pins.emClose }
    freeCount := s.freeCount
    pending := s.pending }

/-- An alarm record just made: ACTIVE_UNACK, raised at the seconds given, one occurrence. -/
def freshRecord (k : AlarmKind) (x : Nat) (raised : BitVec 32) : AlarmRecord := ⟨k, x, .ACTIVE_UNACK, raised, 1⟩

/-- R16, R17, R63, R64, R84, R104, R127, R128, R145, R150, R164, R178, R182: what a start leaves of a part whose kept fields
are those of `k`: its tables, its store, its seconds, its travel records and sea fields, its counters and what last left its
ports. Every other field of every block takes its start value, and the alarm list holds the given records. Where the
commissioning checks pass, the part is IN_SERVICE in the mode of the line and the start mode, with its system run, the
first POLL, sequence 0, out and one ZONE_SUMMARY at each port with a mask; where they fail it is UNCONFIGURED and LOCAL,
with no run, no poll and no summary. No frame waits at a station port but the notices and those summaries. -/
abbrev Started (k t : State) (records : List AlarmRecord) : Prop :=
  let serves := commissionChecks k.tables = none
  let idle : Rc :=
    { reported := Vector.replicate 96 Reported.start, hpus := Vector.replicate 8 HpuReported.start
      east := { k.rc.east with rx := .HUNT }, west := { k.rc.west with rx := .HUNT }
      secondCopies := k.rc.secondCopies, loopMisses := k.rc.loopMisses, txSeq := 0
      filter := Vector.replicate 126 none, polled := none, pollEnded := true, replyLimit := 0, orders := []
      loop := none, incomplete := 0, interval := 0 }
  t.tables = k.tables ∧ t.seconds = k.seconds
  ∧ t.cfs = { k.cfs with part := if serves then .IN_SERVICE else .UNCONFIGURED, restartPending := false }
  ∧ (∀ d : DoorIx, t.entry d = none) ∧ t.cs.nextArrival = 0
  ∧ (∀ h : HpuIx, t.cs.flow[h] = ⟨0, effectiveCapacity t h, false⟩)
  ∧ (∀ d : DoorIx, t.ms.doors[d] = { k.ms.doors[d] with latch := .NONE }) ∧ t.ms.moveRepeats = k.ms.moveRepeats
  ∧ t.mc = { mode := if serves then startMode t else .LOCAL, line := k.pins.emClose
             passages := Vector.replicate 96 none, sea := k.mc.sea, oas := Vector.replicate 96 ⟨0, false⟩
             bridgeLost := false }
  ∧ (∀ c : CompIx, t.ib.comps[c] = compIndication t c)
  ∧ t.ib = { comps := t.ib.comps, allClosed := false, pacing := Vector.replicate 8 ⟨0, false⟩, sending := none
             snapNumber := 0, buffer := [] }
  ∧ t.al = ⟨records, k.al.lost, decide (records ≠ [])⟩
  ∧ (∀ q : PortIx, t.sp[q] = { k.sp[q] with rx := .HUNT, queue := t.sp[q].queue, part := none, partGone := false
                                            hbElapsed := 0, silent := false })
  ∧ (∀ q : PortIx, ∀ f ∈ t.sp[q].queue, f.kind = .ALARM_NOTICE ∨ f.kind = .ZONE_SUMMARY)
  ∧ (∀ q : PortIx, (summariesAt t q).length = if serves ∧ (k.row q).summaryMask ≠ 0 then 1 else 0)
  ∧ t.gru = { slots := (Vector.replicate 5 none).set slotS (if serves then startRun { t with gru := k.gru } else none)
              slotting := [], stack := [], resumed := []
              counter := if serves ∧ startMode t ≠ .LOCAL then k.gru.counter + 1 else k.gru.counter }
  ∧ (¬serves → t.rc = idle ∧ t.pins = k.pins)
  ∧ (serves → ∃ d ∈ firstDoor k,
      t.rc = { idle with txSeq := 1, polled := some d, pollEnded := false, replyLimit := 3 }
      ∧ t.pins = { k.pins with ringOut := [ringFrameBytes (byteOf k.tables.doors[d].node) 0 1 0 []] })

/-! ### The door ring: frames that arrive (R5 to R9, R130 to R137) -/

/-- A ring port as SP's counterpart on the ring holds it. -/
def sideOf (s : State) : RingPort → RingSide
  | .EAST => s.rc.east
  | .WEST => s.rc.west

/-- A frame was taken at a ring port from a node: its sequence is the last one accepted of the address, it was counted
received, and nothing of the other port and of the other addresses changed. -/
abbrev Accepted (s t : State) (rp : RingPort) (src seq : Byte) : Prop :=
  t.filterAt src.toNat = some seq
  ∧ (∀ a ∈ List.range 128, a ≠ src.toNat → t.filterAt a = s.filterAt a)
  ∧ sideOf t rp = { sideOf s rp with rx := .HUNT, received := min ((sideOf s rp).received + 1) 65535 }
  ∧ (∀ q ∈ [RingPort.EAST, .WEST], q ≠ rp → sideOf t q = sideOf s q)
  ∧ t.rc.secondCopies = s.rc.secondCopies

/-- The door of a node address: the present door of lowest index (R131). -/
abbrev NamesDoor (s : State) (src : Byte) (d : DoorIx) : Prop :=
  s.isPresent d = true ∧ s.tables.doors[d].node = src.toNat
  ∧ ∀ x : DoorIx, x < d → s.isPresent x = true → s.tables.doors[x].node ≠ src.toNat

/-! ### The door ring: bytes (R165, R189 to R191) -/

/-- Bytes received without a framing error. -/
def received (l : List Byte) : List RxByte := l.map fun b => ⟨b, false⟩

/-! ### The door ring: what the part sends (R129, R133, R134, R140 to R142) -/

/-- The copy of a loop check that arrives at a port: EAST's copy arrives at WEST (R141). -/
def copyAt (x : LoopCheck) : RingPort → Bool
  | .WEST => x.eastCopy
  | .EAST => x.westCopy

/-! ### Movements judged (R68 to R71, R74 to R76, R79 to R82) -/

/-- No run waits on a precondition and none is suspended: no run submits a demand while another block acts. -/
abbrev NoRunHears (s : State) : Prop :=
  (∀ i : SlotIx, slotIn s i .WAITING = false) ∧ s.gru.stack = []

/-- R13: the supervision fields after a travel time was captured. -/
def captured (dir : Direction) (time : Nat) (m : Supervision) : Supervision :=
  match dir with
  | .CLOSE => { m with priorClose := m.lastClose, lastClose := min time 4095, closeFresh := true,
                       overrun := if m.closeFresh then min (m.overrun + 1) 255 else m.overrun }
  | .OPEN => { m with priorOpen := m.lastOpen, lastOpen := min time 4095, openFresh := true,
                      overrun := if m.openFresh then min (m.overrun + 1) 255 else m.overrun }

/-- R68: the position is neither limit nor the entry's own moving state, and is the opposite one where the entry must have
started, or came from elsewhere: a fault WRONG_WAY. -/
abbrev wrongWay (e : Entry) (prev now : Position) : Prop :=
  (now = e.direction.opposite.target ∧ e.started = true)
  ∨ (now = e.direction.opposite.moving ∧ (e.started = true ∨ prev ≠ e.direction.opposite.moving))

/-- A REPORT of the polled door is taken that shows its handle as it stands, at a door without a passage, and no complete
run stands (R131, R132, R134). -/
abbrev ReportTaken (s : State) (src seq : Byte) (r : ReportBits) (d : DoorIx) : Prop :=
  Awake s ∧ s.inService = true ∧ wfNode src = true ∧ s.rc.polled = some d ∧ NamesDoor s src d
  ∧ s.filterAt src.toNat ≠ some seq ∧ SettledLaw s ∧ reportedHandle r.handle = s.handle d ∧ s.passage d = none

/-! ### The tick and the seconds counter (R43, R44, R60, R65, R95, R120, R122 to R124, R134, R137, R141, R149) -/

/-- One tick of an entry: the warning counts down, a READY entry ages, a movement's elapsed grows and its start window
counts down until it starts. -/
def entryTicked (e : Entry) : Entry :=
  match e.phase with
  | .WARNING => { e with warnRemaining := e.warnRemaining - 1 }
  | .READY => { e with readyAge := min (e.readyAge + 1) 65535 }
  | .MOVING => { e with elapsed := min (e.elapsed + 1) 4095
                        startWindow := if e.started then e.startWindow else e.startWindow - 1 }

/-- R123: the open-at-sea timer of a door counts. -/
abbrev CountsAtSea (s : State) (d : DoorIx) : Prop :=
  s.inService = true ∧ s.mc.mode ≠ .LOCAL ∧ s.isPresent d = true ∧ s.position d ≠ .CLOSED

/-! ### Expiries (R43, R60, R70, R72 to R74, R95, R120, R123 to R126, R149) -/

/-- A movement of the door ended in a fault: its entry is gone, its draw released and its tag reported faulted, a pass
taken (R47), the latch holds the kind, DOOR_FAULT stands (R74); the removal's pass may raise ADMISSION_DELAY before it
(R60), so the list has a place to spare. -/
abbrev Faulted (s t : State) (d : DoorIx) (k : Latch) : Prop :=
  t.entry d = none ∧ (∀ e ∈ s.entry d, Told s t (faultedBy e.tag)) ∧ Passed s t (s.hpuOf d) (schedWithout s d)
  ∧ t.latch d = k ∧ (HasSpare s .DOOR_FAULT d.val → Standing t .DOOR_FAULT d.val)
  ∧ (∀ x : DoorIx, x ≠ d → claimOf t x = claimOf s x ∧ t.ms.doors[x] = s.ms.doors[x])
  ∧ t.ms.doors[d] = { s.ms.doors[d] with latch := k } ∧ OnlyOrders s t ∧ Aside s t

end Sys2Proof.Machine
end

