-- ==== Sys2Proof/Certificates/Slice0/Obligations.lean ====
section
/-!
DEFINITION. The statements for the provers. A statement about a command concludes that `exec` answers a next state and
says what that state holds, for every state and every operand that meet its hypotheses. A number after `entry` or
`entries` is that of a row of notes/assumptions: what the clause rests on is the model's choice there.
-/

open Sys2Proof Sys2Proof.Machine

/-! ### The queue of commands and the outcome of a command -/

/-- A step of a part whose queue is not empty is the command at the front, run on the part with the rest of the queue.
That an empty queue idles is the model's choice (entry 7). -/
def Obligations.StepTakesFront : Prop :=
  ∀ (c : Instr) (rest : List Instr) (s : State),
    step (s.withPending (c :: rest)) = exec c (s.withPending rest) ∧ step (s.withPending []) = .next (s.withPending [])

/-- Every command answers a next state and leaves the commands waiting as they are. The tables change only by a
TABLE_WRITE or a cold start, the stored image only by SAVE and its completion, the part state only by COMMISSION,
DECOMMISSION and a start, the mode only by its requests, the line, bridge loss (a HEARTBEAT, a window expiry, a
permit-row write) and a start, the seconds counter only by its increment and a cold start, the snapshot number only by
SNAPSHOT_REQ and a start, and the level of the EMERGENCY CLOSE pin only by its two edges. -/
def Obligations.OnlyTheirCommandsChange : Prop :=
  ∀ (c : Instr) (s : State), Ends c s fun t =>
    t.pending = s.pending
    ∧ (writesTables c = false → t.tables = s.tables)
    ∧ ((∀ p, c ≠ .save p) → c ≠ .saveComplete → t.cfs.image = s.cfs.image)
    ∧ (changesPart c = false → t.cfs.part = s.cfs.part)
    ∧ (changesMode c = false → t.mc.mode = s.mc.mode)
    ∧ (c ≠ .secondsCounterIncrement → c ≠ .coldStart → t.seconds = s.seconds)
    ∧ ((∀ p, c ≠ .snapshotReq p) → c ≠ .warmRestart → c ≠ .coldStart → t.ib.snapNumber = s.ib.snapNumber)
    ∧ (c ≠ .emergencyCloseAsserted → c ≠ .emergencyCloseReleased → t.pins.emClose = s.pins.emClose)

/-- R186: while RESET is asserted every command but its own two and the edges of the EMERGENCY CLOSE line leaves the
part as it is, and those edges move the pin alone. The assertion empties the transmit queues, the order queue, the
schedule, the passages, the slots, the stack and the snapshot, ends a SAVE and a poll, brings the station ports to
HUNT, releases the ALARM and ALL CLOSED lines, and leaves the tables and the stored image. What stands in a part held
in RESET is the model's choice (entry 19). -/
def Obligations.HeldInReset : Prop :=
  (∀ (c : Instr) (s : State), s.pins.reset = true →
     (c = .emergencyCloseAsserted ∧ exec c s = .next { s with pins := { s.pins with emClose := true } })
     ∨ (c = .emergencyCloseReleased ∧ exec c s = .next { s with pins := { s.pins with emClose := false } })
     ∨ c = .resetAsserted ∨ c = .coldStart ∨ exec c s = .next s)
  ∧ (∀ s : State, Ends .resetAsserted s fun t =>
       t.pins.reset = true ∧ t.al.line = false ∧ t.ib.allClosed = false
       ∧ t.cfs.save = none ∧ t.cfs.image = s.cfs.image ∧ t.tables = s.tables
       ∧ (∀ q : PortIx, t.sp[q].queue = [] ∧ t.sp[q].part = none ∧ t.sp[q].rx = .HUNT)
       ∧ t.rc.orders = [] ∧ t.rc.loop = none ∧ t.rc.polled = none
       ∧ (∀ d : DoorIx, t.entry d = none ∧ t.passage d = none)
       ∧ (∀ i : SlotIx, SlotIdle t i) ∧ t.gru.stack = [] ∧ t.ib.sending = none ∧ t.ib.buffer = [])

/-! ### Laws that every step keeps -/

/-- R139, R172: a step of a part in which no door has two pending orders and no transmit queue more than 64 frames
leaves such a part. -/
def Obligations.QueuesKept : Prop :=
  KeptByStep fun s => OrderLaw s ∧ QueueLaw s

/-- R153, R156, R157, R161: every step keeps one record a pair of kind and subject, at most 63 records other than
LIST_FULL, LIST_FULL last and without subject, no event record ACTIVE, and outside RESET an ALARM line that is
asserted exactly while an unacknowledged record stands. -/
def Obligations.AlarmListKept : Prop :=
  KeptByStep fun s => AlarmLaw s ∧ AlarmLineLaw s

/-- R12, R39 to R41, R54, R57: every step keeps the committed flow of each HPU equal to the sum of the draws of the
MOVING entries on it, no OPEN entry at a door whose fault latch is set, arrival numbers that are distinct, below the
arrival counter, which never passes its greatest value, and no entry overtaken more than three times. In a part whose
tables are lawful too (TablesKept), every step keeps that no head fits on a present HPU (R42, R43, R47, R48, R52, R55,
R59): each event that could let one fit takes an admission pass, or leaves it no fit. -/
def Obligations.ScheduleKept : Prop :=
  KeptByStep (fun s => FlowLaw s ∧ LatchLaw s ∧ ArrivalLaw s ∧ OvertakenLaw s)
  ∧ KeptByStep fun s => (FlowLaw s ∧ LatchLaw s ∧ ArrivalLaw s ∧ OvertakenLaw s) ∧ TableLaw s ∧ PassedLaw s

/-- R2, R105, R107, R108, R179: every step keeps the mode EMERGENCY while the part is in service with the line
asserted; no passage in LOCAL; out of service the mode LOCAL, the schedule, the slots and the stack empty and no door
polled; and at a door that is not present the start values of its reported fields and no poll that waits. -/
def Obligations.ModeLawsKept : Prop :=
  KeptByStep fun s => EmergencyLaw s ∧ QuietLaw s ∧ AbsentLaw s

/-- R88, R89, R91, R97, R99: every step keeps a slotting order that holds exactly the occupied station slots, each
once; at most four suspended contexts in falling class from the top, under station slots that all hold runs of no
lower class; distinct run numbers, every tag of a live run, outstanding counts equal to the entries that carry the
tag; no run that is TRACKING with nothing outstanding; and no resumed run that has yet to look at its precondition, which
the model holds within a command alone (entry 12). -/
def Obligations.RunsKept : Prop :=
  KeptByStep fun s => StackLaw s ∧ TagLaw s ∧ SettledLaw s

/-- R3, R173, R175, R181, R185, R187: every step keeps every field that a write clamps within its range, tables that
pass the commissioning checks while the part is in service, an HPU's number in the HPU field of every door with an
entry, and, while a SAVE is in flight, the image of the tables in its buffer. -/
def Obligations.TablesKept : Prop :=
  KeptByStep fun s =>
    TableLaw s ∧ ((s.cfs.save).isSome = true → s.cfs.saveBuffer = s.tables.image)

/-- R146, R147: every step keeps every compartment at the most severe indication of the present doors that bound it,
and, outside RESET, the ALL CLOSED line asserted exactly while a door is present and every present door stands CLOSED.
-/
def Obligations.IndicationsKept : Prop :=
  KeptByStep fun s =>
    (∀ c : CompIx, s.ib.comps[c] = compIndication s c) ∧ (Awake s → s.ib.allClosed = everyDoorClosed s)

/-- The state after reset meets the laws of the queues, the alarm list, the schedule, the modes, the runs, the tables
and the indications. That state is a cold start of a part whose store was never written (entry 8). -/
def Obligations.ResetMeetsLaws : Prop :=
  OrderLaw State.reset ∧ QueueLaw State.reset ∧ AlarmLaw State.reset ∧ AlarmLineLaw State.reset ∧ FlowLaw State.reset
  ∧ LatchLaw State.reset ∧ ArrivalLaw State.reset ∧ EmergencyLaw State.reset ∧ QuietLaw State.reset
  ∧ AbsentLaw State.reset ∧ StackLaw State.reset ∧ TagLaw State.reset ∧ SettledLaw State.reset
  ∧ OvertakenLaw State.reset ∧ HpuFieldLaw State.reset ∧ PassedLaw State.reset
  ∧ State.reset.tables.clamped ∧ State.reset.inService = false ∧ State.reset.cfs.save = none
  ∧ (∀ c : CompIx, State.reset.ib.comps[c] = compIndication State.reset c)
  ∧ State.reset.ib.allClosed = everyDoorClosed State.reset

/-! ### Frames and images -/

/-- 11.2 to 11.4: for every well-formed command that a station frame carries, the kind and payload written for it are
read back at its port as the command; and so are the fields and payload of every well-formed frame that a ring port
receives. -/
def Obligations.FramesReadBack : Prop :=
  (∀ (c : Instr) (p : PortIx) (kind : Byte) (payload : List Byte), c.wf = true →
     encodeStationCommand c = some (p, kind, payload) → decodeStationCommand p kind payload = some c)
  ∧ (∀ (c : Instr) (p : RingPort) (dest src kind seq : Byte) (payload : List Byte), c.wf = true →
       encodeRingCommand c = some (p, dest, src, kind, seq, payload) →
       decodeRingFrame p dest src kind seq payload = .command c)

/-- R184, R194: for all tables whose fields hold values of their ranges, the image that a SAVE stores, with its
CRC-32, has 3125 bytes and is read back at a start as those tables. -/
def Obligations.StoredImageReadsBack : Prop :=
  ∀ t : Tables, t.inRange → t.image.length = 3125 ∧ loadImage t.image = some t

/-! ### Figures -/

/-- R6: the position that RC derives from a REPORT without sensor fault, for each line of the rule's table; with the
sensor fault flag set it is UNKNOWN whatever the limits and the motion show. -/
def Obligations.PositionOfReport : Prop :=
  ∀ r : ReportBits,
    (r.sensorFault = true → reportPosition r = .UNKNOWN)
    ∧ (r.sensorFault = false →
      (r.closedLimit = true → r.openLimit = false → r.motion = .NONE → reportPosition r = .CLOSED)
      ∧ (r.closedLimit = true → r.openLimit = false → r.motion = .CLOSING → reportPosition r = .CLOSED)
      ∧ (r.closedLimit = true → r.openLimit = false → r.motion = .OPENING → reportPosition r = .OPENING)
      ∧ (r.closedLimit = false → r.openLimit = true → r.motion = .NONE → reportPosition r = .OPEN)
      ∧ (r.closedLimit = false → r.openLimit = true → r.motion = .OPENING → reportPosition r = .OPEN)
      ∧ (r.closedLimit = false → r.openLimit = true → r.motion = .CLOSING → reportPosition r = .CLOSING)
      ∧ (r.closedLimit = false → r.openLimit = false → r.motion = .CLOSING → reportPosition r = .CLOSING)
      ∧ (r.closedLimit = false → r.openLimit = false → r.motion = .OPENING → reportPosition r = .OPENING)
      ∧ (r.closedLimit = false → r.openLimit = false → r.motion = .NONE → reportPosition r = .STOPPED)
      ∧ (r.closedLimit = true → r.openLimit = true → reportPosition r = .UNKNOWN))

/-- R67: for a door record in range and either direction, D is the ceiling of N × (100 + tol) / 100, H is the lesser
of 2 × D and 4095, the product is at most 300,000, D is 10 to 3000, H is 20 to 4095, and D stands below H. -/
def Obligations.DeadlineAndHardLimit : Prop :=
  ∀ (s : State) (d : DoorIx) (dir : Direction), (s.tables.doors[d]).inRange →
    let n := nominalOf s.tables.doors[d] dir
    let tol := s.tables.doors[d].tolerance
    let late := doorDeadline s d dir
    n * (100 + tol) ≤ 100 * late ∧ 100 * late < n * (100 + tol) + 100
    ∧ hardLimitOf late = min (2 * late) 4095
    ∧ n * (100 + tol) ≤ 300000 ∧ 10 ≤ late ∧ late ≤ 3000 ∧ 20 ≤ hardLimitOf late ∧ hardLimitOf late ≤ 4095
    ∧ late < hardLimitOf late

/-- R51: for a present HPU, E is C × min(P, Pn) / Pn rounded down in READY, never above C and 0 at pressure 0; 0 in
FAILED; a quarter of C rounded down in UNKNOWN and LOST; and for a record in range the product is at most 16,000,000.
-/
def Obligations.EffectiveCapacity : Prop :=
  ∀ (s : State) (h : HpuIx), s.hpuPresent h = true →
    let c := s.tables.hpus[h].capacity
    let pn := s.tables.hpus[h].nominal
    let p := s.rc.hpus[h].pressure
    let e := effectiveCapacity s h
    (s.rc.hpus[h].state = .READY → e = c * min p pn / pn ∧ e ≤ c ∧ (p = 0 → e = 0))
    ∧ (s.rc.hpus[h].state = .FAILED → e = 0)
    ∧ (s.rc.hpus[h].state = .UNKNOWN → e = c / 4)
    ∧ (s.rc.hpus[h].state = .LOST → e = c / 4)
    ∧ ((s.tables.hpus[h]).inRange → c * min p pn ≤ 16000000)

/-- R53: for the direct-lane class, which class 0 never is, L is E; for any other class it is E − R where E is above R
and 0 where it is not; and an entry of draw d fits exactly when F + d is at most L. -/
def Obligations.AdmissionLimit : Prop :=
  ∀ (s : State) (h : HpuIx) (cls draw : Nat),
    let e := s.cs.flow[h].capacityE
    let r := s.tables.hpus[h].reserve
    let l := admissionLimit s h cls
    (cls ≠ 0 → s.tables.system.directLane = cls → l = e)
    ∧ ((cls = 0 ∨ s.tables.system.directLane ≠ cls) → r < e → l = e - r)
    ∧ ((cls = 0 ∨ s.tables.system.directLane ≠ cls) → e ≤ r → l = 0)
    ∧ (fits s h cls draw = true ↔ s.cs.flow[h].committed + draw ≤ l)

/-! ### Admission (R56 to R58) -/

/-- R56 to R58, R60: in a pass of one HPU, entries that are not READY on it stand and every entry keeps its claim; an
admitted entry is dispatched with its timers set and its MOVE queued; the head that stays READY does not fit, is
passed only by entries of its own class, no more of them than the look-ahead depth, its overtaken count says how many
and never passes 3. An entry is admitted only where it fits in its turn. Every READY entry before the head that stays is
admitted, and that head does not fit in its turn; of those behind it, only the first W READY entries of its class are
examined, and one of them is admitted exactly where it fits in its turn and the head has been overtaken fewer than three
times. The committed flow grows by the draws admitted and by no more than E allows, and E stands; at an
admission the delay alarm flag is tested, and ADMISSION_DELAY follows it; nothing else changes but the frames of those
notices. -/
def Obligations.AdmissionPass : Prop :=
  ∀ (h : HpuIx) (s : State), ArrivalLaw s → OrderLaw s → OvertakenLaw s →
    let t := pass h s
    let admitted := ∃ d : DoorIx, AdmittedIn s t h d
    let delayed := fun (x : State) => x.cs.flow[h].delayAlarm
    (∀ d : DoorIx, entryIn s h .READY d = false → t.entry d = s.entry d)
    ∧ (∀ d : DoorIx, claimOf t d = claimOf s d)
    ∧ (∀ d : DoorIx, AdmittedIn s t h d →
        t.entry d = (s.entry d).map (fun e => e.dispatched (doorDeadline s d e.direction) (dispatchWarn e))
        ∧ ∃ e ∈ s.entry d, Pending t d (.MOVE e.direction (dispatchWarn e)))
    ∧ (∀ d : DoorIx, HeadOn t h d → entryFits t h d = false
        ∧ overtakenOf t d = overtakenOf s d + (overtakers s t h d).length ∧ overtakenOf t d ≤ 3
        ∧ (overtakers s t h d).length ≤ s.tables.system.lookAhead
        ∧ ∀ x ∈ overtakers s t h d, entryClass s x = entryClass s d)
    ∧ (∀ x : DoorIx, AdmittedIn s t h x → FitsInTurn s t h x)
    ∧ (∀ d : DoorIx, HeadOn t h d → ¬FitsInTurn s t h d
        ∧ (∀ x : DoorIx, ReadyOn s h x → Precedes s x d → AdmittedIn s t h x)
        ∧ (∀ x : DoorIx, AdmittedIn s t h x → Precedes s d x → Examined s h d x)
        ∧ ∀ x : DoorIx, Examined s h d x → (AdmittedIn s t h x ↔ FitsInTurn s t h x
            ∧ overtakenOf s d + ((overtakers s t h d).filter fun y => decide (Precedes s y x)).length < 3))
    ∧ (∀ g : HpuIx, g ≠ h → t.cs.flow[g] = s.cs.flow[g])
    ∧ t.cs.flow[h].committed = s.cs.flow[h].committed
        + ((allDoors.filter fun d => decide (AdmittedIn s t h d)).map s.draw).sum
    ∧ (t.cs.flow[h].committed = s.cs.flow[h].committed ∨ t.cs.flow[h].committed ≤ s.cs.flow[h].capacityE)
    ∧ t.cs.flow[h].capacityE = s.cs.flow[h].capacityE
    ∧ (¬admitted → delayed t = delayed s ∧ t.al = s.al)
    ∧ (admitted → delayed t = admissionDelayed t h)
    ∧ (delayed s = true → delayed t = true → t.al = s.al)
    ∧ (delayed s = true → delayed t = false → AlarmLaw s → Cleared t .ADMISSION_DELAY h.val)
    ∧ (delayed s = false → delayed t = true → HasRoom s .ADMISSION_DELAY h.val → Standing t .ADMISSION_DELAY h.val)
    ∧ OnlyAlarms s t [(.ADMISSION_DELAY, h.val)]
    ∧ t.cs.nextArrival = s.cs.nextArrival ∧ OnlyOrders s t ∧ Aside s t
    ∧ t = { s with cs := t.cs, rc := t.rc, al := t.al, sp := t.sp, ib := t.ib }

/-! ### Demands (chapter 2) -/

/-- R22, R28, R29: NOT_CONFIGURED out of service; WRONG_MODE for an OPEN that is no passage's in EMERGENCY; DOOR_FAULT
for an OPEN of a latched door; MERGED where the entry has the demand's direction; OVERRULED where an opposing claim is
not beaten; else REVERSED, REPLACED, ALREADY or ENQUEUED by the phase of the entry and the position. A demand that is
refused or overruled changes nothing. -/
def Obligations.DemandDecision : Prop :=
  ∀ (m : Demand) (s : State),
    let o := (decideDemand m s).1
    let t := (decideDemand m s).2
    let wrongMode := s.mc.mode = .EMERGENCY ∧ m.direction = .OPEN ∧ m.origin ≠ .PASSAGE
    let latched := m.direction = .OPEN ∧ s.latch m.door ≠ .NONE
    (s.inService = false → o = .NOT_CONFIGURED ∧ t = s)
    ∧ (s.inService = true → wrongMode → o = .WRONG_MODE ∧ t = s)
    ∧ (s.inService = true → ¬wrongMode → latched → o = .DOOR_FAULT ∧ t = s)
    ∧ (s.inService = true → ¬wrongMode → ¬latched →
        (directionOf s m.door = some m.direction → o = .MERGED)
        ∧ (directionOf s m.door ≠ some m.direction → ¬Wins s m → o = .OVERRULED ∧ t = s)
        ∧ (directionOf s m.door ≠ some m.direction → Wins s m →
            (phaseOf s m.door = some .MOVING → o = .REVERSED)
            ∧ (phaseOf s m.door = some .WARNING ∨ phaseOf s m.door = some .READY → o = .REPLACED)
            ∧ (phaseOf s m.door = none → s.position m.door = m.direction.target → o = .ALREADY)
            ∧ (phaseOf s m.door = none → s.position m.door ≠ m.direction.target → o = .ENQUEUED)))

/-- R21, R26, R33, R40, R41, R55, R123: below the top of the arrival counter an ENQUEUED demand leaves an entry with its
own direction, class, group, origin and tag under the next arrival number; a CLOSE that is not LOCAL at a door with a
pre-warning stands in WARNING with WARN queued and nothing admitted, any other is READY, and the admission pass its
creation causes is taken, which may admit it; a CLOSE ends the passage record in OPENING or HELD; the open-at-sea timer
begins again; every other entry keeps its claim. At the top the other entries are renumbered in their order and the new
one takes the number that follows. -/
def Obligations.DemandEnqueued : Prop :=
  (∀ (m : Demand) (s : State), s.inService = true → (decideDemand m s).1 = .ENQUEUED → s.cs.nextArrival ≠ arrivalTop →
     let t := (decideDemand m s).2
     claimOf t m.door = some (m.direction, m.cls, m.group, m.origin, m.tag, s.cs.nextArrival)
     ∧ (∀ x : DoorIx, x ≠ m.door → claimOf t x = claimOf s x)
     ∧ t.cs.nextArrival = s.cs.nextArrival + 1
     ∧ (m.direction = .CLOSE → m.origin ≠ .LOCAL → 0 < s.preWarn m.door →
         phaseOf t m.door = some .WARNING ∧ (t.entry m.door).map Entry.warnRemaining = some (s.preWarn m.door)
         ∧ Pending t m.door .WARN ∧ t.cs.flow = s.cs.flow ∧ ∀ x : DoorIx, x ≠ m.door → t.entry x = s.entry x)
     ∧ ((m.direction = .OPEN ∨ m.origin = .LOCAL ∨ s.preWarn m.door = 0) → Passed s t (s.hpuOf m.door) (schedWith s m))
     ∧ ((m.direction = .OPEN ∨ m.origin = .LOCAL ∨ s.preWarn m.door = 0) →
         phaseOf t m.door = some .READY ∨ (phaseOf t m.door = some .MOVING
           ∧ Pending t m.door (.MOVE m.direction (decide (m.direction = .CLOSE ∧ m.origin ≠ .LOCAL)))))
     ∧ t.passage m.door = passageAfter s m ∧ (∀ x : DoorIx, x ≠ m.door → t.passage x = s.passage x)
     ∧ t.mc.oas[m.door] = ⟨0, false⟩ ∧ t.mc.sea = s.mc.sea ∧ t.mc.mode = s.mc.mode
     ∧ t.gru = s.gru ∧ t.ms = s.ms ∧ OnlyOrders s t ∧ Aside s t)
  ∧ ∀ (m : Demand) (s : State), s.inService = true → (decideDemand m s).1 = .ENQUEUED → s.cs.nextArrival = arrivalTop →
      Renumbered s (decideDemand m s).2 m

/-- R27, R31 to R34, R40 to R42, R55, R60, R78: MERGED raises class, group and origin where the demand's class is
higher, keeps the tag and the arrival number, with the admission pass a raised class causes, and changes nothing where
it is not; REPLACED makes a new entry of the demand under the next arrival number, with WARN or STOP queued where it
does not move, one admission pass taken, and the delay alarm flag tested where a READY entry was replaced; REVERSED
turns the MOVING entry round with the arrival number and the flow kept, the supervision begun again and MOVE queued in
the new direction. At the top of the arrival counter a replacement renumbers the other entries in their order and takes
the number that follows. The last two displace the tag: its run counts one overruled and one fewer outstanding, and a
TRACKING run with nothing left completes at that report: its RUN_REPORT goes out, and its slot is free or taken by the
top of the stack; a winning OPEN against a demanded reclose ends the passage record, a winning CLOSE one in OPENING or
HELD. The admission pass of a reversal that raises the class is the model's reading (entry 16), and so is the order of a
replaced passage entry, by R31's table (entry 44). -/
def Obligations.DemandOnAnEntry : Prop :=
  (∀ (m : Demand) (s : State), (decideDemand m s).1 = .MERGED → ∀ e ∈ s.entry m.door,
     let t := (decideDemand m s).2
     (m.cls ≤ e.cls → t = s)
     ∧ (e.cls < m.cls →
         claimOf t m.door = some (e.direction, m.cls, m.group, m.origin, e.tag, e.arrival)
         ∧ (e.phase ≠ .READY → t.entry m.door = some { e with cls := m.cls, group := m.group, origin := m.origin })
         ∧ (let x := { e with cls := m.cls, group := m.group, origin := m.origin }
            Passed s t (s.hpuOf m.door) { s.cs with entries := s.cs.entries.set m.door (some x) })
         ∧ (∀ x : DoorIx, x ≠ m.door → claimOf t x = claimOf s x)
         ∧ t.cs.nextArrival = s.cs.nextArrival ∧ t.gru = s.gru ∧ t.ms = s.ms ∧ t.mc = s.mc
         ∧ OnlyOrders s t ∧ Aside s t))
  ∧ (∀ (m : Demand) (s : State), (decideDemand m s).1 = .REPLACED → ∀ e ∈ s.entry m.door,
       let t := (decideDemand m s).2
       let warns := m.direction = .CLOSE ∧ m.origin ≠ .LOCAL ∧ 0 < s.preWarn m.door
       (s.cs.nextArrival ≠ arrivalTop →
         claimOf t m.door = some (m.direction, m.cls, m.group, m.origin, m.tag, s.cs.nextArrival)
         ∧ (∀ x : DoorIx, x ≠ m.door → claimOf t x = claimOf s x)
         ∧ t.cs.nextArrival = s.cs.nextArrival + 1
         ∧ (e.phase = .READY → PassedAndTested s t (s.hpuOf m.door) (schedWith s m))
         ∧ (e.phase ≠ .READY → Passed s t (s.hpuOf m.door) (schedWith s m)))
       ∧ (s.cs.nextArrival = arrivalTop → Renumbered s t m)
       ∧ (warns → phaseOf t m.door = some .WARNING ∧ Pending t m.door .WARN
           ∧ (t.entry m.door).map Entry.warnRemaining = some (s.preWarn m.door))
       ∧ (¬warns → phaseOf t m.door = some .READY ∨ phaseOf t m.door = some .MOVING)
       ∧ (m.direction = .OPEN → phaseOf t m.door = some .READY → Pending t m.door .STOP)
       ∧ Told s t (overruledBy e.tag)
       ∧ (∀ x : DoorIx, x ≠ m.door → t.passage x = s.passage x)
       ∧ (m.direction = .CLOSE → t.passage m.door = passageAfter s m)
       ∧ (m.direction = .OPEN → t.passage m.door = (s.passage m.door).filter fun x =>
           decide (x.phase ≠ .RECLOSING) || !x.demanded)
       ∧ t.mc.oas = s.mc.oas ∧ t.mc.sea = s.mc.sea ∧ t.mc.mode = s.mc.mode ∧ t.ms = s.ms ∧ OnlyOrders s t ∧ Aside s t)
  ∧ (∀ (m : Demand) (s : State), (decideDemand m s).1 = .REVERSED → ∀ e ∈ s.entry m.door,
       let t := (decideDemand m s).2
       let late := doorDeadline s m.door m.direction
       t.entry m.door = some { e with direction := m.direction, cls := m.cls, group := m.group, origin := m.origin,
                                      tag := m.tag, started := false, repeatUsed := false, elapsed := 0, startWindow := 20,
                                      deadline := late, hardLimit := hardLimitOf late,
                                      moveWarn := decide (m.direction = .CLOSE) }
       ∧ Pending t m.door (.MOVE m.direction (decide (m.direction = .CLOSE)))
       ∧ (∀ x : DoorIx, x ≠ m.door → claimOf t x = claimOf s x)
       ∧ (e.cls < m.cls →
           Passed s t (s.hpuOf m.door) { s.cs with entries := s.cs.entries.set m.door (t.entry m.door) })
       ∧ (m.cls ≤ e.cls → t.cs.flow = s.cs.flow ∧ ∀ x : DoorIx, x ≠ m.door → t.entry x = s.entry x)
       ∧ t.cs.nextArrival = s.cs.nextArrival
       ∧ Told s t (overruledBy e.tag)
       ∧ (∀ x : DoorIx, x ≠ m.door → t.passage x = s.passage x)
       ∧ (m.direction = .CLOSE → t.passage m.door = passageAfter s m)
       ∧ (m.direction = .OPEN → t.passage m.door = (s.passage m.door).filter fun x =>
           decide (x.phase ≠ .RECLOSING) || !x.demanded)
       ∧ t.mc.oas = s.mc.oas ∧ t.mc.sea = s.mc.sea ∧ t.mc.mode = s.mc.mode ∧ t.ms = s.ms ∧ OnlyOrders s t ∧ Aside s t)

/-! ### Station commands: the steps that refuse (R168, R169) -/

/-- R168, R169, R173 step 1: a well-formed station command that one of the steps 1, 3, 4 and 5 refuses is counted
accepted and refused and answered with the step's code, and nothing else changes: NOT_CONFIGURED for an operating
command out of service, NOT_PERMITTED in service for a role the command is not given, WRONG_MODE for an OPEN command
of a bridge row in EMERGENCY, BUSY for a command of the store's guard while a SAVE or a RESTART stands. A MODE_SET,
TABLE_WRITE, TABLE_READ or COUNTER_READ whose code names nothing is refused INVALID_VALUE, a MODE_SET out of service
NOT_CONFIGURED; a TABLE_WRITE of a table that is read only is refused NOT_PERMITTED, BUSY or INVALID_VALUE in that
order. -/
def Obligations.CommandsRefused : Prop :=
  (∀ (c : Instr) (s : State), Awake s → c.wf = true → codeKnown c = true → ∀ x ∈ encodeStationCommand c,
     let kind := x.2.1.toNat
     let refused := fun code => refuse x.1 kind code (acceptFrame x.1 s)
     (s.inService = false → kind ≤ 9 → exec c s = .next (refused .NOT_CONFIGURED))
     ∧ (s.inService = true → s.roleAt x.1 ∉ permittedRoles c → exec c s = .next (refused .NOT_PERMITTED))
     ∧ (s.inService = true → s.roleAt x.1 = .BRIDGE → s.mc.mode = .EMERGENCY → isOpenCommand c = true →
         exec c s = .next (refused .WRONG_MODE))
     ∧ (s.commandRole x.1 = .SERVICE → storeBusy s = true → kind ∈ guardedKinds → exec c s = .next (refused .BUSY)))
  ∧ (∀ (p : PortIx) (x y z : Byte) (rest : List Byte) (s : State), Awake s →
       let refused := fun kind c => refuse p kind c (acceptFrame p s)
       let named := fun code => exec (.codeThatNamesNothing p code) s
       (2 < x.toNat → named (.modeSet x) =
           .next (refused 2 (if s.inService then .INVALID_VALUE else .NOT_CONFIGURED)))
       ∧ (8 < x.toNat → named (.tableWrite x rest) = .next (refused 10 .INVALID_VALUE))
       ∧ (x.toNat ∈ [1, 3, 6, 8] →
           (s.commandRole p ≠ .SERVICE → named (.tableWrite x rest) = .next (refused 10 .NOT_PERMITTED))
           ∧ (s.commandRole p = .SERVICE → storeBusy s = true → named (.tableWrite x rest) = .next (refused 10 .BUSY))
           ∧ (s.commandRole p = .SERVICE → storeBusy s = false →
               named (.tableWrite x rest) = .next (refused 10 .INVALID_VALUE)))
       ∧ (8 < x.toNat → named (.tableRead x y z) = .next (refused 11 .INVALID_VALUE))
       ∧ (1 < x.toNat → named (.counterRead x y) = .next (refused 12 .INVALID_VALUE)))

/-! ### HEARTBEAT and bridge loss (R124 to R126) -/

/-- R124 to R126: a HEARTBEAT on a port without heartbeat required is counted accepted and nothing more; an early one
counts early; one in time begins the window again, and ends a silence with STATION_SILENT cleared. The expiry of a
window that has reached its maximum sets the silent flag, raises STATION_SILENT, and where every required bridge row is
silent is bridge loss, which raises BRIDGE_LOST where the list has room beside STATION_SILENT and enters CLOSED from
LOCAL when the loss action says so; where it ends BRIDGE_LOST clears. That an expiry which is not due changes nothing
(entry 6), and that STATION_SILENT is raised before MC is told (entry 68), are the model's choices. -/
def Obligations.HeartbeatsTaken : Prop :=
  (∀ (p : PortIx) (s : State), Awake s → s.inService = true →
     let x := s.sp[p]
     let counted : StationPort := { x with rx := .HUNT, accepted := count16 x.accepted }
     let timely := (s.row p).hbRequired = 1 ∧ s.tables.system.hbMin ≤ x.hbElapsed
     ((s.row p).hbRequired ≠ 1 → exec (.heartbeat p) s = .next { s with sp := s.sp.set p counted })
     ∧ ((s.row p).hbRequired = 1 → x.hbElapsed < s.tables.system.hbMin →
         exec (.heartbeat p) s = .next { s with sp := s.sp.set p { counted with early := min (x.early + 1) 255 } })
     ∧ (timely → x.silent = false →
         exec (.heartbeat p) s = .next { s with sp := s.sp.set p { counted with hbElapsed := 0 } })
     ∧ (timely → x.silent = true → AlarmLaw s → Ends (.heartbeat p) s fun t =>
         OnlyQueues { s with sp := s.sp.set p { counted with hbElapsed := 0, silent := false } } t
         ∧ Cleared t .STATION_SILENT p.val ∧ t.mc.bridgeLost = bridgeSilent t
         ∧ BridgeAlarmFollows s t (HasRoom s .BRIDGE_LOST noSubject) ∧ t.tables = s.tables ∧ t.cfs = s.cfs
         ∧ (bridgeSilent t = false → t.mc.mode = s.mc.mode ∧ t.gru = s.gru ∧ t.cs = s.cs)))
  ∧ (∀ (p : PortIx) (s : State), Awake s →
       let due := s.inService = true ∧ (s.row p).hbRequired = 1 ∧ s.tables.system.hbMax ≤ s.sp[p].hbElapsed
         ∧ s.sp[p].silent = false
       (¬due → exec (.heartbeatWindowExpiry p) s = .next s)
       ∧ (due → Ends (.heartbeatWindowExpiry p) s fun t =>
           OnlyQueues { s with sp := upd s.sp p fun x => { x with silent := true } } t
           ∧ (HasRoom s .STATION_SILENT p.val → Standing t .STATION_SILENT p.val)
           ∧ t.mc.bridgeLost = bridgeSilent t ∧ BridgeAlarmFollows s t (HasSpare s .BRIDGE_LOST noSubject)
           ∧ (bridgeSilent t = true → s.mc.bridgeLost = false → s.tables.system.lossAction = 1 → s.mc.mode = .LOCAL →
               t.mc.mode = .CLOSED ∧ (t.gru.slots[slotS]).map (fun r => { r with number := 0 })
                 = some (newRun slotS .ALL .CLOSE 2 .A .MODE 0))
           ∧ (bridgeSilent t = false ∨ s.mc.bridgeLost = true ∨ s.tables.system.lossAction ≠ 1 ∨ s.mc.mode ≠ .LOCAL →
               t.mc.mode = s.mc.mode ∧ t.cs = s.cs ∧ t.gru = s.gru)
           ∧ t.ms = s.ms ∧ OnlyOrders s t ∧ t.tables = s.tables ∧ t.cfs = s.cfs ∧ t.pins = s.pins))

/-! ### MODE_SET (R106, R108 to R110) -/

/-- R101, R106, R109: in CLOSED it is answered DONE; in EMERGENCY it is refused WRONG_MODE under the line and else
leaves EMERGENCY with nothing changed but the mode; in LOCAL it enters CLOSED and launches an ALL CLOSE run of class 2
into slot S under the next free run number, detaching the tags of a run it replaces. That the number of the replaced run
counts as held (entry 69) and that the RESULT stands last (entry 15) are the model's choices. -/
def Obligations.ModeSetClosed : Prop :=
  ∀ (p : PortIx) (s : State), Operates s p [.BRIDGE] →
    let u := acceptFrame p s
    (s.mc.mode = .CLOSED → exec (.modeSetClosed p) s = .next (answerDone p 2 false [] u))
    ∧ (s.mc.mode = .EMERGENCY → s.mc.line = true → exec (.modeSetClosed p) s = .next (refuse p 2 .WRONG_MODE u))
    ∧ (s.mc.mode = .EMERGENCY → s.mc.line = false →
        exec (.modeSetClosed p) s = .next (answerDone p 2 false [] { u with mc := { u.mc with mode := .CLOSED } }))
    ∧ (s.mc.mode = .LOCAL → SettledLaw s → Ends (.modeSetClosed p) s fun t =>
        t.mc = { s.mc with mode := .CLOSED } ∧ Launched s t 2 .MODE ∧ Done t p 2 false [] ∧ Aside u t)

/-- R48, R102, R106, R108: in LOCAL it is answered DONE, in EMERGENCY refused WRONG_MODE; in CLOSED it enters LOCAL,
aborts every run and detaches its tags, flushes the CLOSE entries of class 0 to 2 that do not move, with STOP where they
warned, removes every passage, and clears the open-at-sea timers and conditions. That an admission pass at the end of a
detach may take a READY entry into movement before it is flushed is the model's reading (entry 42). The order of the
abort and the flush, which are left open, is a free choice (entry 2); the order of the detach requests (entry 50), that
of the clears (entry 52), and that the RESULT stands last (entry 15) are the model's choices. In either order no run
completes and no RUN_REPORT is sent. For a part that meets the law of the alarm list. -/
def Obligations.ModeSetLocal : Prop :=
  ∀ (p : PortIx) (s : State), Operates s p [.BRIDGE] →
    let u := acceptFrame p s
    (s.mc.mode = .LOCAL → exec (.modeSetLocal p) s = .next (answerDone p 2 false [] u))
    ∧ (s.mc.mode = .EMERGENCY → exec (.modeSetLocal p) s = .next (refuse p 2 .WRONG_MODE u))
    ∧ (s.mc.mode = .CLOSED → AlarmLaw s → Ends (.modeSetLocal p) s fun t =>
        t.mc.mode = .LOCAL
        ∧ (∀ d : DoorIx, t.passage d = none ∧ t.mc.oas[d] = ⟨0, false⟩ ∧ Cleared t .DOOR_OPEN_AT_SEA d.val)
        ∧ t.mc.sea = s.mc.sea ∧ t.mc.line = s.mc.line ∧ t.mc.bridgeLost = s.mc.bridgeLost
        ∧ (∀ i : SlotIx, SlotIdle t i) ∧ t.gru.slotting = [] ∧ t.gru.stack = [] ∧ t.gru.counter = s.gru.counter
        ∧ (∀ q : PortIx, reportsAt t q = reportsAt s q)
        ∧ (∀ d : DoorIx, ∀ e ∈ s.entry d, flushed e = false → claimOf t d = some (claimFreed s e))
        ∧ (∀ d : DoorIx, ∀ e ∈ s.entry d, flushed e = true → e.phase = .WARNING → t.entry d = none ∧ Pending t d .STOP)
        ∧ (∀ d : DoorIx, ∀ e ∈ s.entry d, flushed e = true → e.phase = .READY →
            t.entry d = none ∨ (claimOf t d = some (claimFreed s e) ∧ phaseOf t d = some .MOVING))
        ∧ (∀ d : DoorIx, s.entry d = none → t.entry d = none)
        ∧ t.ms = s.ms ∧ OnlyOrders s t ∧ Done t p 2 false [] ∧ Aside u t)

/-- R101, R106, R107, R110: MODE_SET requesting EMERGENCY is answered DONE; in any other mode it enters EMERGENCY with an
ALL CLOSE run of class 3 in slot S, no passage at a STANDARD door, every CLOSE entry at class 3, and a MOVING OPEN
entry of a STANDARD door reversed to a CLOSE of class 3 with MOVE queued, its arrival number kept. The assertion of the
EMERGENCY CLOSE line raises EMERGENCY_LINE and in service, out of EMERGENCY, enters EMERGENCY in the same way with
cause LINE; its release clears EMERGENCY_LINE and leaves the mode. The clause about slot S is for a part that meets the
laws of the runs, the clauses about entries for one that meets them with an empty suspension stack and an arrival counter
below its top. That the RESULT stands last (entry 15) and that EMERGENCY_LINE is raised before the entry (entry 68) are the
model's choices, and that an edge to the level which stands already moves the pin alone is its reading (entry 30). -/
def Obligations.EmergencyEntries : Prop :=
  (∀ (p : PortIx) (s : State), Operates s p [.BRIDGE, .SAFETY] →
     let u := acceptFrame p s
     (s.mc.mode = .EMERGENCY → exec (.modeSetEmergency p) s = .next (answerDone p 2 false [] u))
     ∧ (s.mc.mode ≠ .EMERGENCY → Ends (.modeSetEmergency p) s fun t =>
         EmergencyEntered s t .MODE ∧ Done t p 2 false [] ∧ Aside u t))
  ∧ (∀ s : State, Awake s →
       (s.mc.line = true → exec .emergencyCloseAsserted s = .next { s with pins := { s.pins with emClose := true } })
       ∧ (s.mc.line = false → Ends .emergencyCloseAsserted s fun t =>
           t.mc.line = true ∧ t.pins = { s.pins with emClose := true } ∧ t.tables = s.tables ∧ t.cfs = s.cfs
           ∧ (HasRoom s .EMERGENCY_LINE noSubject → Standing t .EMERGENCY_LINE noSubject)
           ∧ (s.inService = false ∨ s.mc.mode = .EMERGENCY →
               t.mc = { s.mc with line := true } ∧ t.cs = s.cs ∧ t.gru = s.gru ∧ t.rc = s.rc ∧ t.ms = s.ms)
           ∧ (s.inService = true → s.mc.mode ≠ .EMERGENCY →
               EmergencyEntered { s with mc := { s.mc with line := true } } t .LINE)
           ∧ OnlyQueues s t ∧ OnlyPacing s t ∧ t.seconds = s.seconds))
  ∧ (∀ s : State, Awake s → AlarmLaw s →
       (s.mc.line = false → exec .emergencyCloseReleased s = .next { s with pins := { s.pins with emClose := false } })
       ∧ (s.mc.line = true → Ends .emergencyCloseReleased s fun t =>
           Cleared t .EMERGENCY_LINE noSubject ∧ t.mc = { s.mc with line := false }
           ∧ t.pins = { s.pins with emClose := false }
           ∧ t.tables = s.tables ∧ t.cfs = s.cfs ∧ t.cs = s.cs ∧ t.ms = s.ms ∧ t.gru = s.gru ∧ t.rc = s.rc
           ∧ OnlyQueues s t ∧ OnlyPacing s t ∧ t.seconds = s.seconds))

/-! ### Door commands (R22, R35, R168, R170) -/

/-- R22, R26, R35, R168, R170: a demand of a station on a present door with no entry, no passage and another position is
ENQUEUED at the lower of the class asked and the row's greatest, in the row's source group, under the next arrival
number, warned where it must be, and answered DONE with the clamp mark; every door command is answered with the outcome
of its demand, DONE with ENQUEUED, MERGED or ALREADY, or the refusal code, after the runs it let resume have looked at
their preconditions; a door that is no present door is refused UNKNOWN_TARGET. That those looks come first and the
RESULT stands last are the model's choices (entries 12 and 15); that OVERRULED is counted as refused is its reading
(entry 40). -/
def Obligations.DoorCommandsAnswered : Prop :=
  (∀ (p : PortIx) (door cls : Byte) (d : DoorIx) (s : State), door.toNat = d.val → s.isPresent d = true →
     s.entry d = none → s.passage d = none → SettledLaw s → s.cs.nextArrival ≠ arrivalTop →
     (Operates s p [.BRIDGE, .SAFETY, .ENGINE] → s.position d ≠ .CLOSED → Ends (.doorClose p door cls) s fun t =>
         EnqueuedFor s t p cls d .CLOSE 3
         ∧ (0 < s.preWarn d → phaseOf t d = some .WARNING ∧ Pending t d .WARN)
         ∧ (s.preWarn d = 0 → phaseOf t d = some .READY ∨ phaseOf t d = some .MOVING))
     ∧ (Operates s p [.BRIDGE] → s.mc.mode ≠ .EMERGENCY → s.latch d = .NONE → s.position d ≠ .OPEN →
         Ends (.doorOpen p door cls) s fun t =>
           EnqueuedFor s t p cls d .OPEN 4 ∧ (phaseOf t d = some .READY ∨ phaseOf t d = some .MOVING)))
  ∧ (∀ (p : PortIx) (door cls : Byte) (s : State),
       let u := acceptFrame p s
       let claimed := fun (dir : Direction) (d : DoorIx) =>
         (⟨d, dir, classUsed s p cls, s.rowGroup p, .STATION p, none⟩ : Demand)
       let answered := fun (c : Instr) (kind : Nat) (m : Demand) =>
         let o := (decideDemand m u).1
         let v := settleRuns (decideDemand m u).2
         (o = .ENQUEUED ∨ o = .REPLACED ∨ o = .REVERSED → exec c s = .next (answerDone p kind (marked s p cls) [0] v))
         ∧ (o = .MERGED → exec c s = .next (answerDone p kind (marked s p cls) [1] v))
         ∧ (o = .ALREADY → exec c s = .next (answerDone p kind (marked s p cls) [2] v))
         ∧ (o = .OVERRULED → exec c s = .next (refuseWith p kind .OVERRULED (marked s p cls) [] v))
         ∧ (o = .DOOR_FAULT → exec c s = .next (refuseWith p kind .DOOR_FAULT (marked s p cls) [] v))
       (Operates s p [.BRIDGE, .SAFETY, .ENGINE] →
           (∀ d : DoorIx, door.toNat = d.val → s.isPresent d = true → answered (.doorClose p door cls) 3 (claimed .CLOSE d))
           ∧ ((∀ d : DoorIx, door.toNat = d.val → s.isPresent d = false) →
               exec (.doorClose p door cls) s = .next (refuse p 3 .UNKNOWN_TARGET u)))
       ∧ (Operates s p [.BRIDGE] → s.mc.mode ≠ .EMERGENCY →
           (∀ d : DoorIx, door.toNat = d.val → s.isPresent d = true → answered (.doorOpen p door cls) 4 (claimed .OPEN d))
           ∧ ((∀ d : DoorIx, door.toNat = d.val → s.isPresent d = false) →
               exec (.doorOpen p door cls) s = .next (refuse p 4 .UNKNOWN_TARGET u))))

/-! ### Group commands and RUN_CANCEL (R48, R89 to R92, R100) -/

/-- R89 to R92: a group command takes the free station slot of lowest number under the next run number and joins the
slotting order; with every station slot held it suspends the run of lowest class, latest in the slotting order among
those, where its own class is higher and the stack has room; it is refused UNKNOWN_TARGET for a group that is not
present, NOT_PERMITTED for one outside the row's mask, BUSY where no run is lower and NO_ROOM where the stack is full.
The run number is the first from the counter on that no live context holds. -/
def Obligations.GroupCommands : Prop :=
  (∀ (p : PortIx) (group cls : Byte) (dir : Direction) (g : GroupRef) (i : SlotIx) (s : State),
     group.toNat = g.code → Commands s p dir → Includes s p g →
     i.val < 4 → SlotIdle s i → (∀ j : SlotIx, j < i → ¬SlotIdle s j) →
     Ends (groupInstr p group cls dir) s fun t =>
       t.gru = { s.gru with
         slots := s.gru.slots.set i
           (some (newRun i g dir (classUsed s p cls) (s.rowGroup p) (.STATION p) (nextNumber s)))
         slotting := s.gru.slotting ++ [i]
         counter := nextNumber s + 1 }
       ∧ Done t p (groupKind dir) (marked s p cls) [nextNumber s, BitVec.ofNat 8 i.val]
       ∧ t.cs = s.cs ∧ t.ms = s.ms ∧ t.mc = s.mc ∧ t.rc = s.rc ∧ t.al = s.al ∧ Aside (acceptFrame p s) t)
  ∧ (∀ (p : PortIx) (group cls : Byte) (dir : Direction) (g : GroupRef) (k : SlotIx) (s : State),
       group.toNat = g.code → Commands s p dir → Includes s p g → k.val < 4 → ∀ r ∈ s.gru.slots[k], VictimAt s k r →
       r.cls < classUsed s p cls → s.gru.stack.length < 4 →
       Ends (groupInstr p group cls dir) s fun t =>
         t.gru = { slots := s.gru.slots.set k
                     (some (newRun k g dir (classUsed s p cls) (s.rowGroup p) (.STATION p) (nextNumber s)))
                   slotting := (s.gru.slotting.filter fun i => decide (i ≠ k)) ++ [k]
                   stack := r :: s.gru.stack
                   counter := nextNumber s + 1
                   resumed := s.gru.resumed }
         ∧ Done t p (groupKind dir) (marked s p cls) [nextNumber s, BitVec.ofNat 8 k.val]
         ∧ t.cs = s.cs ∧ t.ms = s.ms ∧ t.mc = s.mc ∧ t.rc = s.rc ∧ t.al = s.al ∧ Aside (acceptFrame p s) t)
  ∧ (∀ (p : PortIx) (group cls : Byte) (dir : Direction) (s : State),
       Commands s p dir →
       let u := acceptFrame p s
       let c := groupInstr p group cls dir
       let kind := groupKind dir
       let full := ∀ j ∈ stationSlots, ¬SlotIdle s j
       (24 ≤ group.toNat → group.toNat ≠ 255 → exec c s = .next (refuse p kind .UNKNOWN_TARGET u))
       ∧ (∀ g : GroupIx, group.toNat = g.val → s.tables.groups[g].present ≠ 1 →
           exec c s = .next (refuse p kind .UNKNOWN_TARGET u))
       ∧ (∀ g : GroupIx, group.toNat = g.val → s.tables.groups[g].present = 1 →
           (s.row p).groupMask.getLsbD g.val = false → exec c s = .next (refuse p kind .NOT_PERMITTED u))
       ∧ (∀ g : GroupRef, group.toNat = g.code → Includes s p g → full →
           ((∀ j ∈ stationSlots, ∀ r ∈ s.gru.slots[j], classUsed s p cls ≤ r.cls) →
             exec c s = .next (refuseWith p kind .BUSY (marked s p cls) [] u))
           ∧ ((∃ j ∈ stationSlots, ∃ r ∈ s.gru.slots[j], r.cls < classUsed s p cls) → 4 ≤ s.gru.stack.length →
             exec c s = .next (refuseWith p kind .NO_ROOM (marked s p cls) [] u))))
  ∧ (∀ s : State, (liveRuns s).length ≤ 9 →
       numberHeld s (nextNumber s) = false
       ∧ ∃ k ∈ List.range 10, nextNumber s = s.gru.counter + BitVec.ofNat 8 k
           ∧ ∀ j ∈ List.range k, numberHeld s (s.gru.counter + BitVec.ofNat 8 j) = true)

/-- R48, R97, R98, R100: a cancelled run is live no longer, its RUN_REPORT with the counts as they stood goes to every
port of its destination (a system run's to every BRIDGE and SAFETY row), wherever its context stands and whatever is
stacked, no entry carries its tag, and it is answered DONE. The context at the top of the suspension stack resumes into
the station slot it frees, at the end of the slotting order; slot S takes none, and a cancel of a stacked context takes
it off the stack. Where that context is not WAITING, or its precondition still is not met, it resumes as it was stacked,
every other run stands as it was, the cancelled run's WARNING entries are gone with STOP queued and its READY ones are
gone, its MOVING ones go on untagged, and every other claim stands; one that resumes WAITING with its precondition met or
bypassed, and entries left, walks on past it. A number no run holds is refused UNKNOWN_TARGET, a run of another station
by a row that is no bridge's, or a system run by one, NOT_PERMITTED, and a system run in EMERGENCY WRONG_MODE. That the
RESULT stands last is the model's choice (entry 15), and so are the admission pass after a cancel (entry 42) and that a
resumed run looks when the cancel has ended (entry 12). -/
def Obligations.RunCancelDecided : Prop :=
  (∀ (p : PortIx) (n : Byte) (s : State), Awake s → s.inService = true → TagLaw s → SettledLaw s →
     ∀ r ∈ runNumbered s n, MayCancel s p r →
     let freed := stationSlots.filter fun i => decide (NumberedIn s i n)
     Ends (.runCancel p n) s fun t =>
       (∀ x ∈ liveRuns t, x.number ≠ n)
       ∧ (∀ d : DoorIx, d ∉ taggedDoors t n)
       ∧ ReportSent s t .CANCELLED r
       ∧ ((freed ≠ [] → ∀ x ∈ s.gru.stack.head?, ResumesAsStacked s x) →
           (∀ i : SlotIx, t.gru.slots[i] = if i ∈ freed then s.gru.stack.head?.map fun x => { x with slot := i }
             else if NumberedIn s i n then none else s.gru.slots[i])
           ∧ t.gru.stack = (if freed = [] then s.gru.stack.filter fun x => decide (x.number ≠ n) else s.gru.stack.tail)
           ∧ t.gru.slotting = (s.gru.slotting.filter fun i => decide (¬NumberedIn s i n))
               ++ (if s.gru.stack = [] then [] else freed)
           ∧ t.gru.counter = s.gru.counter ∧ t.gru.resumed = []
           ∧ (∀ d : DoorIx, claimOf t d = (s.entry d).bind fun e =>
               if tagged n d e then (if e.phase = .MOVING then some { e with tag := none }.claim else none)
               else some e.claim)
           ∧ (∀ d : DoorIx, ∀ e ∈ s.entry d, tagged n d e = true → e.phase = .WARNING → Pending t d .STOP))
       ∧ (∀ i ∈ freed, ∀ x ∈ s.gru.stack.head?, ¬ResumesAsStacked s x → x.cursor + 1 < listLength s x →
           (t.gru.slots[i]).map (fun y => (y.number, y.slot, y.cursor, y.state)) = some (x.number, i, x.cursor + 1, .WALKING))
       ∧ Done t p 7 false [] ∧ t.ms = s.ms ∧ t.mc.mode = s.mc.mode ∧ OnlyOrders s t ∧ Aside (acceptFrame p s) t)
  ∧ (∀ (p : PortIx) (n : Byte) (s : State), Awake s → s.inService = true →
       let u := acceptFrame p s
       ((∀ x ∈ liveRuns s, x.number ≠ n) → exec (.runCancel p n) s = .next (refuse p 7 .UNKNOWN_TARGET u))
       ∧ ∀ r ∈ runNumbered s n,
           (∀ q : PortIx, r.origin = .STATION q → q ≠ p → s.roleAt p ≠ .BRIDGE →
             exec (.runCancel p n) s = .next (refuse p 7 .NOT_PERMITTED u))
           ∧ (r.origin = .MODE ∨ r.origin = .LINE → s.roleAt p ≠ .BRIDGE →
             exec (.runCancel p n) s = .next (refuse p 7 .NOT_PERMITTED u))
           ∧ (r.origin = .MODE ∨ r.origin = .LINE → s.roleAt p = .BRIDGE → s.mc.mode = .EMERGENCY →
             exec (.runCancel p n) s = .next (refuse p 7 .WRONG_MODE u)))

/-! ### Alarms (R12, R154 to R161) -/

/-- R12, R153 to R162, R191: what a raise, an event, a clear and an acknowledgement leave of the alarm list. A raise
makes a record ACTIVE_UNACK, an event one CLEARED_UNACK, raised now, of count 1, at the end before LIST_FULL; a raise
finds a CLEARED_UNACK record ACTIVE_UNACK again and counts it in its place, and leaves an ACTIVE one; an event counts
its record up to 255; either finds no room with 63 other records, is counted lost, and raises LIST_FULL. A clear makes
ACTIVE_UNACK CLEARED_UNACK and removes ACTIVE_ACKED. The ALARM line follows, and the notice of each change is placed at
each port whose row enables its category. An ALARM_ACK naming a record makes ACTIVE_UNACK ACTIVE_ACKED and removes
CLEARED_UNACK; every other record stands but LIST_FULL, which clears with the removal that leaves 48 others; the removal
of a DOOR_FAULT record takes the door's latch to NONE; a pair without a record is refused UNKNOWN_TARGET, a code that is
neither a kind's nor that of ALL INVALID_VALUE. ALARM_ACK naming ALL leaves every record acknowledged, those that were
cleared gone with the latches of their doors, and the ALARM line released. That the RESULT stands last is the model's
choice (entry 15). -/
def Obligations.AlarmsRaisedClearedAcknowledged : Prop :=
  (∀ (k : AlarmKind) (x : Nat) (s : State), k ≠ .LIST_FULL → AlarmLaw s →
     let list := s.al.records
     let others := list.filter fun q => decide (q.kind ≠ .LIST_FULL)
     let last := list.filter fun q => decide (q.kind = .LIST_FULL)
     let created := fun (t : State) (r : AlarmRecord) =>
       let l := others ++ [r] ++ last
       ListBecame s t l [(.CREATED, r, unackCount l)] ∧ t.ms = s.ms
     let changed := fun (t : State) (r : AlarmRecord) =>
       ListBecame s t (inPlace list r) [(.UPDATED, r, unackCount (inPlace list r))] ∧ t.ms = s.ms
     let new := freshRecord k x s.seconds
     ((∀ r ∈ list, r.pair ≠ (k, x)) → otherCount list < 63 →
       created (raiseAlarm k x s) new ∧ created (raiseEvent k x s) { new with state := .CLEARED_UNACK })
     ∧ ((∀ r ∈ list, r.pair ≠ (k, x)) → 63 ≤ otherCount list →
       let t := raiseAlarm k x s
       let u := { s with al := { s.al with lost := min (s.al.lost + 1) 65535 } }
       let full := freshRecord .LIST_FULL noSubject s.seconds
       raiseEvent k x s = t
       ∧ (last = [] → ListBecame u t (list ++ [full]) [(.CREATED, full, unackCount (list ++ [full]))] ∧ t.ms = s.ms)
       ∧ ∀ f ∈ last,
           (f.state ≠ .CLEARED_UNACK → t = u)
           ∧ (f.state = .CLEARED_UNACK →
               let r := { f with state := .ACTIVE_UNACK, count := min (f.count + 1) 255 }
               ListBecame u t (inPlace list r) [(.UPDATED, r, unackCount (inPlace list r))] ∧ t.ms = s.ms))
     ∧ ((∀ r ∈ list, r.pair ≠ (k, x)) → clearAlarm k x s = s)
     ∧ ∀ r ∈ list, r.pair = (k, x) →
         (r.state ≠ .CLEARED_UNACK → raiseAlarm k x s = s)
         ∧ (r.state = .CLEARED_UNACK →
             changed (raiseAlarm k x s) { r with state := .ACTIVE_UNACK, count := min (r.count + 1) 255 }
             ∧ (r.count < 255 → changed (raiseEvent k x s) { r with count := r.count + 1 })
             ∧ (255 ≤ r.count → raiseEvent k x s = s)
             ∧ clearAlarm k x s = s)
         ∧ (r.state = .ACTIVE_UNACK → changed (clearAlarm k x s) { r with state := .CLEARED_UNACK })
         ∧ (r.state = .ACTIVE_ACKED →
             let t := clearAlarm k x s
             let l := list.filter fun q => decide (q.pair ≠ (k, x))
             let removed : Change × AlarmRecord × Nat := (.REMOVED, r, unackCount l)
             (48 < otherCount l ∨ Cleared s .LIST_FULL noSubject → ListBecame s t l [removed])
             ∧ (otherCount l ≤ 48 → ∀ f ∈ last,
                 (f.state = .ACTIVE_UNACK →
                   let g := { f with state := .CLEARED_UNACK }
                   ListBecame s t (inPlace l g) [removed, (.UPDATED, g, unackCount (inPlace l g))])
                 ∧ (f.state = .ACTIVE_ACKED →
                   let m := l.filter fun q => decide (q.kind ≠ .LIST_FULL)
                   ListBecame s t m [removed, (.REMOVED, f, unackCount m)]))
             ∧ (∀ d : DoorIx, t.ms.doors[d] =
                 { s.ms.doors[d] with latch := if k = .DOOR_FAULT ∧ x = d.val then .NONE else s.latch d })
             ∧ t.ms.moveRepeats = s.ms.moveRepeats))
  ∧ (∀ (p : PortIx) (kind subject : Byte) (s : State), Operates s p [.BRIDGE, .SAFETY, .ENGINE] → AlarmLaw s →
     AlarmLineLaw s →
     (kind.toNat = 0 ∨ (17 < kind.toNat ∧ kind.toNat ≠ 255) →
       exec (.alarmAck p kind subject) s = .next (refuse p 8 .INVALID_VALUE (acceptFrame p s)))
     ∧ ((1 ≤ kind.toNat ∧ kind.toNat ≤ 17) → (∀ r ∈ s.al.records, kind.toNat = r.kind.code → subject.toNat ≠ r.subject) →
       exec (.alarmAck p kind subject) s = .next (refuse p 8 .UNKNOWN_TARGET (acceptFrame p s)))
     ∧ ∀ r ∈ s.al.records, kind.toNat = r.kind.code → subject.toNat = r.subject →
       Ends (.alarmAck p kind subject) s fun t =>
         (r.state ≠ .CLEARED_UNACK → t.al.records = s.al.records.map fun q => if q.pair = r.pair then acked q else q)
         ∧ (r.state = .CLEARED_UNACK →
             (∀ q ∈ t.al.records, q.pair ≠ r.pair)
             ∧ (∀ q ∈ s.al.records, q.pair ≠ r.pair → q.kind ≠ .LIST_FULL → q ∈ t.al.records)
             ∧ (∀ q ∈ t.al.records, q ∈ s.al.records ∨ q.kind = .LIST_FULL)
             ∧ (48 < otherCount t.al.records → t.al.records = s.al.records.filter fun q => decide (q.pair ≠ r.pair))
             ∧ (otherCount t.al.records ≤ 48 → Cleared t .LIST_FULL noSubject))
         ∧ (∀ d : DoorIx, t.latch d =
             if r.pair = (.DOOR_FAULT, d.val) ∧ r.state = .CLEARED_UNACK then .NONE else s.latch d)
         ∧ t.al.line = decide (0 < unackCount t.al.records) ∧ t.al.lost = s.al.lost
         ∧ Done t p 8 false [] ∧ t.cs = s.cs ∧ t.gru = s.gru ∧ t.mc = s.mc ∧ t.rc = s.rc ∧ Aside (acceptFrame p s) t)
  ∧ (∀ (p : PortIx) (s : State), Operates s p [.BRIDGE, .SAFETY, .ENGINE] → AlarmLaw s → AlarmLineLaw s →
       Ends (.alarmAckAll p) s fun t =>
         (∀ q ∈ t.al.records, q.state = .ACTIVE_ACKED)
         ∧ t.al.line = false
         ∧ (∀ r ∈ s.al.records, r.state ≠ .CLEARED_UNACK → r.kind ≠ .LIST_FULL → acked r ∈ t.al.records)
         ∧ (∀ q ∈ t.al.records, ∃ r ∈ s.al.records, r.pair = q.pair ∧ r.state ≠ .CLEARED_UNACK)
         ∧ (∀ d : DoorIx, (∃ r ∈ s.al.records, r.pair = (.DOOR_FAULT, d.val) ∧ r.state = .CLEARED_UNACK) → t.latch d = .NONE)
         ∧ (∀ d : DoorIx, (∀ r ∈ s.al.records, r.pair = (.DOOR_FAULT, d.val) → r.state ≠ .CLEARED_UNACK) →
             t.latch d = s.latch d)
         ∧ t.al.lost = s.al.lost ∧ Done t p 8 false []
         ∧ t.cs = s.cs ∧ t.gru = s.gru ∧ t.mc = s.mc ∧ t.rc = s.rc ∧ Aside (acceptFrame p s) t)

/-! ### The snapshot and the transmit queues (R151, R152, R172) -/

/-- R151, R152, R172: a SNAPSHOT_REQ latches position, entry, latch, passage and comms of each present door in door
order under the next snapshot number, is answered with the number and the part count, and hands part 1 on, into the
queue where it has room and else into the part place; a request of the port that is being sent to begins again with its
part in SP's hands stale, and one of another port is refused BUSY. A frame other than a part joins the end of the queue;
in a queue of 64 the oldest ZONE_SUMMARY gives way, its port's summary pending again, else the oldest ALARM_NOTICE, else
the frame is lost. The frame at the head leaves the port, and a part that waits takes the place; when a part has been
reported sent the next one is handed on, part 1 where the part was stale, or the snapshot ends. The record of the bytes
that left is the model's (entry 20), and so are the report of a part as a command of its own and the flag of a stale one
(entry 11). That a dropped summary makes its port's pending flag stand also while the part is UNCONFIGURED, and only at
a port with a mask, is the model's reading (entries 36 and 61). -/
def Obligations.SnapshotsAndFrames : Prop :=
  (∀ (p : PortIx) (s : State), Awake s → s.inService = true →
    let n := (s.presentDoors.length + 15) / 16
    let u := acceptFrame p s
    let result := resultFrame 9 .DONE false [s.ib.snapNumber + 1, byteOf n]
    let latched := fun (t : State) =>
      t.ib.snapNumber = s.ib.snapNumber + 1
      ∧ t.ib.buffer = s.presentDoors.map (fun d => (⟨d, s.position d,
          (s.entry d).map fun e => (e.direction, e.cls, e.phase), s.latch d, (s.passage d).map Passage.phase,
          s.rc.reported[d].lost⟩ : SnapLine))
      ∧ t.ib.comps = s.ib.comps ∧ t.ib.allClosed = s.ib.allClosed
      ∧ (∀ q : PortIx, q ≠ p → t.sp[q] = s.sp[q])
      ∧ t.sp[p] = { u.sp[p] with queue := t.sp[p].queue, part := t.sp[p].part }
      ∧ t = { s with sp := t.sp, ib := t.ib }
    (s.ib.sending = none → Ends (.snapshotReq p) s fun t =>
        latched t ∧ t.ib.sending = some ⟨p, n, 1, false⟩
        ∧ (s.sp[p].queue.length ≤ 62 → t.sp[p].queue = s.sp[p].queue ++ [result, snapshotPart t n 1]
            ∧ t.sp[p].part = none)
        ∧ (63 ≤ s.sp[p].queue.length → Answered t p result ∧ t.sp[p].part = some (snapshotPart t n 1)))
    ∧ (∀ x ∈ s.ib.sending, x.port = p → Ends (.snapshotReq p) s fun t =>
        latched t ∧ t.ib.sending = some ⟨p, n, 1, true⟩ ∧ Answered t p result ∧ t.sp[p].part = s.sp[p].part)
    ∧ (∀ x ∈ s.ib.sending, x.port ≠ p → exec (.snapshotReq p) s = .next (refuse p 9 .BUSY u)))
  ∧ (∀ (p : PortIx) (f : Frame) (s : State),
     let q := s.sp[p].queue
     let t := place p f s
     (q.length < 64 → t.sp[p].queue = q ++ [f])
     ∧ (64 ≤ q.length → (q.any Frame.isSummary) = true → t.sp[p].queue = q.eraseP Frame.isSummary ++ [f]
         ∧ ((s.row p).summaryMask ≠ 0 → t.ib.pacing[p].pending = true))
     ∧ (64 ≤ q.length → (q.any Frame.isSummary) = false → (q.any Frame.isNotice) = true →
         t.sp[p].queue = q.eraseP Frame.isNotice ++ [f])
     ∧ (64 ≤ q.length → (q.any Frame.isSummary) = false → (q.any Frame.isNotice) = false → t = s)
     ∧ (∀ r : PortIx, r ≠ p → t.sp[r] = s.sp[r] ∧ t.ib.pacing[r] = s.ib.pacing[r])
     ∧ t.sp[p] = { s.sp[p] with queue := t.sp[p].queue } ∧ t = { s with sp := t.sp, ib := t.ib } ∧ OnlyPacing s t)
  ∧ (∀ (p : PortIx) (f : Frame) (rest : List Frame) (s : State), Awake s → rest.length < 64 →
       let v : State := { s with sp := upd s.sp p fun x => { x with queue := f :: rest } }
       let left := rest ++ s.sp[p].part.toList
       let onlyPort := fun (t : State) =>
         (∀ q : PortIx, q ≠ p → t.sp[q] = s.sp[q] ∧ t.pins.stationOut[q] = s.pins.stationOut[q])
         ∧ t = { s with sp := t.sp, ib := { s.ib with sending := t.ib.sending },
                        pins := { s.pins with stationOut := t.pins.stationOut } }
       let handed := fun (base : List Frame) (y : Sending) (t : State) =>
         t.ib.sending = some y
         ∧ (base.length < 64 → t.sp[p] = { s.sp[p] with queue := base ++ [snapshotPart s y.n y.k], part := none,
                                                        partGone := false })
         ∧ (base.length = 64 → t.sp[p] = { s.sp[p] with queue := base, part := some (snapshotPart s y.n y.k),
                                                        partGone := false })
       let goesOn := fun (base : List Frame) (x : Sending) (t : State) =>
         (x.stale = true → handed base { x with stale := false } t)
         ∧ (x.stale = false → x.k < x.n → handed base { x with k := x.k + 1 } t)
         ∧ (x.stale = false → x.n ≤ x.k → t.ib.sending = none
             ∧ t.sp[p] = { s.sp[p] with queue := base, part := none, partGone := false })
       Ends (.stationFrameSent p) v (fun t =>
         t.sp[p] = { s.sp[p] with queue := left, part := none,
                                  partGone := s.sp[p].partGone || decide (f.kind = .SNAPSHOT_PART) }
         ∧ t.pins.stationOut[p] = stationFrameBytes (byteOf f.kind.code) f.payload
         ∧ t.ib.sending = s.ib.sending ∧ onlyPort t)
       ∧ (∀ x ∈ s.ib.sending, x.port = p →
           (f.kind = .SNAPSHOT_PART → s.sp[p].partGone = false → Ends (.snapshotPartSent p) v fun t =>
             goesOn left x t ∧ t.pins.stationOut[p] = stationFrameBytes (byteOf f.kind.code) f.payload ∧ onlyPort t)
           ∧ (s.sp[p].part = none → s.sp[p].partGone = true → Ends (.snapshotPartSent p) v fun t =>
             goesOn (f :: rest) x t ∧ t.pins = s.pins ∧ onlyPort t))
       ∧ (f.kind ≠ .SNAPSHOT_PART → s.sp[p].partGone = false → exec (.snapshotPartSent p) v = .next v))
  ∧ (∀ (p : PortIx) (s : State), s.sp[p].queue = [] →
       exec (.stationFrameSent p) s = .next s
       ∧ (s.sp[p].partGone = false → exec (.snapshotPartSent p) s = .next s))

/-! ### Local handles (R112 to R116) -/

/-- R112 to R116: a handle that did not change, or changed to UNKNOWN, asks for nothing. A change to OPEN or CLOSE in
LOCAL submits a demand of class 0, group C and origin LOCAL; a change to OPEN in CLOSED, or in EMERGENCY at an ESCAPE
door, a passage OPEN demand of class 2, in EMERGENCY 3, whose outcome makes a record in OPENING or, where the door
stands OPEN, in HELD, in place of one in RECLOSING, or none; that the record is made also where the demand wins over the
CLOSE entry of one in RECLOSING is the model's reading of R115 against R33 (entry 70); in EMERGENCY at a STANDARD door it counts one denied and
queues DENY unless the entry warns or moves; any other change asks for nothing. A change that leaves OPEN or CLOSE
first releases the entry of origin LOCAL, with STOP where it moved and nothing captured or latched. An EVENT that
shows the handle taken to OPEN at a door that is not OPEN and has no entry has these effects whatever order the blocks
act in (entry 1). -/
def Obligations.HandlesTaken : Prop :=
  (∀ (d : DoorIx) (prev : Handle) (s : State), s.inService = true →
     let new := s.handle d
     let t := presentHandle d prev s
     let changed := new ≠ prev ∧ new ≠ .UNKNOWN
     let leaves := prev = .OPEN ∨ prev = .CLOSE
     let mine := ∃ e ∈ s.entry d, e.origin = .LOCAL ∧ e.phase ≠ .WARNING
     let endsHold := prev = .OPEN ∧ s.mc.mode ≠ .LOCAL ∧ ∃ x ∈ s.passage d, x.phase ≠ .RECLOSING
     let asked := fun (dir : Direction) => (⟨d, dir, 0, .C, .LOCAL, none⟩ : Demand)
     let passing := (⟨d, .OPEN, if s.mc.mode = .EMERGENCY then 3 else 2, .C, .PASSAGE, none⟩ : Demand)
     let o := (decideDemand passing s).1
     let u := (decideDemand passing s).2
     let made := fun (ph : PassagePhase) =>
       t.mc = { u.mc with passages := u.mc.passages.set d (some ⟨ph, 0, false, false⟩), oas := u.mc.oas.set d ⟨0, false⟩ }
       ∧ t.cs = u.cs ∧ t.rc = u.rc ∧ t.ms = u.ms ∧ t.gru = u.gru ∧ Aside u t
       ∧ (AlarmLaw s → (s.passage d).isSome = true → Cleared t .PASSAGE_OVERDUE d.val)
     (¬changed → t = s)
     ∧ (changed → ¬(leaves ∧ mine) → ¬endsHold →
         (new = .IDLE → t = s)
         ∧ (new = .CLOSE → s.mc.mode ≠ .LOCAL → t = s)
         ∧ (new = .CLOSE → s.mc.mode = .LOCAL → t = (decideDemand (asked .CLOSE) s).2)
         ∧ (new = .OPEN → s.mc.mode = .LOCAL → t = (decideDemand (asked .OPEN) s).2)
         ∧ (new = .OPEN → s.mc.mode = .CLOSED ∨ (s.mc.mode = .EMERGENCY ∧ s.isEscape d = true) →
             (o = .OVERRULED ∨ o = .DOOR_FAULT → t = s)
             ∧ (o = .ALREADY → made .HELD)
             ∧ (o = .ENQUEUED ∨ o = .REPLACED ∨ o = .REVERSED ∨ o = .MERGED → made .OPENING))
         ∧ (new = .OPEN → s.mc.mode = .EMERGENCY → s.isEscape d = false →
             t = { s with
               rc := t.rc
               mc := { s.mc with
                 sea := s.mc.sea.set d { s.mc.sea[d] with denied := min (s.mc.sea[d].denied + 1) 255 } } }
             ∧ OnlyOrders s t
             ∧ (phaseOf s d = none ∨ phaseOf s d = some .READY → Pending t d .DENY)
             ∧ (phaseOf s d = some .WARNING ∨ phaseOf s d = some .MOVING → t.rc = s.rc)))
     ∧ (changed → leaves → s.passage d = none → ∀ e ∈ s.entry d, e.origin = .LOCAL → e.phase ≠ .WARNING → e.tag = none →
         let v := removeEntry .RELEASE d s
         (new = .IDLE → t = v) ∧ (new ≠ .IDLE → t = presentHandle d .IDLE v)
         ∧ v.entry d = none
         ∧ (e.phase = .MOVING → Pending v d .STOP)
         ∧ (e.phase = .READY → ∀ q ∈ v.rc.orders, q.door = d → q ∈ s.rc.orders)
         ∧ (AlarmLaw s → Cleared v .TRAVEL_OVERTIME d.val)
         ∧ (∀ x : DoorIx, x ≠ d → claimOf v x = claimOf s x)
         ∧ v.ms = s.ms ∧ v.gru = s.gru ∧ v.mc = s.mc ∧ OnlyOrders s v ∧ Aside s v))
  ∧ (∀ (rp : RingPort) (src seq : Byte) (low : Bool) (d : DoorIx) (s : State), Awake s → s.inService = true →
       wfNode src = true → NamesDoor s src d → s.filterAt src.toNat ≠ some seq → NoRunHears s → SettledLaw s →
       s.handle d = .IDLE → s.position d ≠ .OPEN → s.entry d = none → s.passage d = none → s.latch d = .NONE →
       s.cs.nextArrival ≠ arrivalTop →
       let opens := fun (t : State) (cls : Nat) (origin : Origin) =>
         claimOf t d = some (.OPEN, cls, .C, origin, none, s.cs.nextArrival) ∧ t.mc.sea = s.mc.sea
       Ends (.event rp src seq .OPEN low false) s fun t =>
         t.handle d = .OPEN
         ∧ (s.mc.mode = .LOCAL → opens t 0 .LOCAL ∧ t.passage d = none)
         ∧ (s.mc.mode = .CLOSED → opens t 2 .PASSAGE ∧ t.passage d = some ⟨.OPENING, 0, false, false⟩)
         ∧ (s.mc.mode = .EMERGENCY → s.isEscape d = true →
             opens t 3 .PASSAGE ∧ t.passage d = some ⟨.OPENING, 0, false, false⟩)
         ∧ (s.mc.mode = .EMERGENCY → s.isEscape d = false →
             t.entry d = none ∧ t.passage d = none ∧ Pending t d .DENY
             ∧ t.mc.sea[d].denied = min (s.mc.sea[d].denied + 1) 255)
         ∧ (∀ x : DoorIx, x ≠ d → claimOf t x = claimOf s x ∧ t.passage x = s.passage x))

/-! ### The tables (R3, R4, R49, R62, R86, R173 to R175) -/

/-- R3, R49, R86, R173 to R175: whatever the image, what a write that is not refused leaves is in the range of its
table; and a write of a door, HPU, group, permit-row or system record that is not in use, with an image that no check
refuses, replaces that record alone with its clamped image and is answered DONE with the clamp mark. That the RESULT
stands last is the model's choice (entry 15). That the fill bits of a group image are not read is its reading (entry
62). -/
def Obligations.TableWritesReplaceOneRecord : Prop :=
  ((∀ l : List Byte, (DoorConfig.decode l).refused = false → (DoorConfig.decode l).clamp.inRange)
   ∧ (∀ l : List Byte, (HpuConfig.decode l).refused = false → (HpuConfig.decode l).clamp.inRange)
   ∧ (∀ l : List Byte, (GroupRec.decode l).refused = false → (GroupRec.decode l).clamp.inRange)
   ∧ (∀ l : List Byte, (PermitRow.decode l).refused = false → (PermitRow.decode l).clamp.inRange)
   ∧ ∀ l : List Byte, (SystemRecord.decode l).refused = false → (SystemRecord.decode l).clamp.inRange)
  ∧ (∀ (p : PortIx) (index : Byte) (image : List Byte) (s : State), ManagesStore s p →
       (∀ d : DoorIx, index.toNat = d.val → image.length = 16 →
         let c := DoorConfig.decode image
         let new := { s.tables with doors := s.tables.doors.set d c.clamp }
         c.refused = false → s.entry d = none → s.passage d = none → (s.inService = true → crossDoor new d = none) →
         Ends (.tableWriteDoor p index image) s fun t => Written s t p new (decide (c.clamp ≠ c)))
       ∧ (∀ h : HpuIx, index.toNat = h.val → image.length = 8 →
         let c := HpuConfig.decode image
         let new := { s.tables with hpus := s.tables.hpus.set h c.clamp }
         c.refused = false → hpuInUse s h = false → (s.inService = true → crossHpu new h = none) →
         Ends (.tableWriteHpu p index image) s fun t => Written s t p new (decide (c.clamp ≠ c)))
       ∧ (∀ g : GroupIx, index.toNat = g.val → wfGroupImage image = true →
         let c := GroupRec.decode image
         let new := { s.tables with groups := s.tables.groups.set g c.clamp }
         c.refused = false → (∀ r ∈ liveRuns s, r.group ≠ .stored g) → (s.inService = true → crossGroup new g = none) →
         Ends (.tableWriteGroup p index image) s fun t => Written s t p new (decide (c.clamp ≠ c)))
       ∧ (∀ q : PortIx, index.toNat = q.val → image.length = 12 →
         let c := PermitRow.decode image
         let new := { s.tables with permits := s.tables.permits.set q c.clamp }
         c.refused = false → (s.inService = true → ∃ r : PortIx, new.permits[r].role = 4) →
         Ends (.tableWritePermitRow p index image) s fun t => Written s t p new (decide (c.clamp ≠ c)))
       ∧ (index.toNat = 0 → image.length = 9 → s.mc.mode = .LOCAL →
         let c := SystemRecord.decode image
         c.refused = false →
         Ends (.tableWriteSystemRecord p index image) s fun t =>
           Written s t p { s.tables with system := c.clamp } (decide (c.clamp ≠ c))))

/-- R173, R175, R191: an index outside the table or an image that holds a value a write refuses is INVALID_VALUE, a
record in use IN_FLIGHT, the system record out of LOCAL IN_FLIGHT; in service a door, HPU or group record that fails its
cross check, or a permit row that leaves no row of role SERVICE, is INVALID_REFERENCE with the record named, each after
the tests before it; an image of another length than its table's is a frame that is discarded (entry 10). -/
def Obligations.TableWritesRefused : Prop :=
  ∀ (p : PortIx) (index : Byte) (image : List Byte) (s : State), ManagesStore s p →
    let u := acceptFrame p s
    let refused := fun code => Host.Outcome.next (refuse p 10 code u)
    let named := fun (table record : Nat) =>
      Host.Outcome.next (refuseWith p 10 .INVALID_REFERENCE false [byteOf table, byteOf record] u)
    (image.length ≠ 16 → exec (.tableWriteDoor p index image) s = .next (stationDiscard p s))
    ∧ (image.length = 16 → 96 ≤ index.toNat → exec (.tableWriteDoor p index image) s = refused .INVALID_VALUE)
    ∧ (∀ d : DoorIx, index.toNat = d.val → image.length = 16 →
        (s.entry d ≠ none ∨ s.passage d ≠ none → exec (.tableWriteDoor p index image) s = refused .IN_FLIGHT)
        ∧ (s.entry d = none → s.passage d = none → (DoorConfig.decode image).refused = true →
            exec (.tableWriteDoor p index image) s = refused .INVALID_VALUE)
        ∧ (s.entry d = none → s.passage d = none → (DoorConfig.decode image).refused = false → s.inService = true →
            ∀ r ∈ crossDoor { s.tables with doors := s.tables.doors.set d (DoorConfig.decode image).clamp } d,
              exec (.tableWriteDoor p index image) s = named r.table r.index))
    ∧ (image.length ≠ 8 → exec (.tableWriteHpu p index image) s = .next (stationDiscard p s))
    ∧ (wfGroupImage image = false → exec (.tableWriteGroup p index image) s = .next (stationDiscard p s))
    ∧ (image.length ≠ 12 → exec (.tableWritePermitRow p index image) s = .next (stationDiscard p s))
    ∧ (image.length ≠ 9 → exec (.tableWriteSystemRecord p index image) s = .next (stationDiscard p s))
    ∧ (image.length = 8 → 8 ≤ index.toNat → exec (.tableWriteHpu p index image) s = refused .INVALID_VALUE)
    ∧ (∀ h : HpuIx, index.toNat = h.val → image.length = 8 →
        let c := HpuConfig.decode image
        (hpuInUse s h = true → exec (.tableWriteHpu p index image) s = refused .IN_FLIGHT)
        ∧ (hpuInUse s h = false → c.refused = true → exec (.tableWriteHpu p index image) s = refused .INVALID_VALUE)
        ∧ (hpuInUse s h = false → c.refused = false → s.inService = true →
            ∀ r ∈ crossHpu { s.tables with hpus := s.tables.hpus.set h c.clamp } h,
              exec (.tableWriteHpu p index image) s = named r.table r.index))
    ∧ (wfGroupImage image = true → 24 ≤ index.toNat →
        exec (.tableWriteGroup p index image) s = refused .INVALID_VALUE)
    ∧ (∀ g : GroupIx, index.toNat = g.val → wfGroupImage image = true →
        let c := GroupRec.decode image
        let inUse := ∃ r ∈ liveRuns s, r.group = .stored g
        (inUse → exec (.tableWriteGroup p index image) s = refused .IN_FLIGHT)
        ∧ (¬inUse → c.refused = true → exec (.tableWriteGroup p index image) s = refused .INVALID_VALUE)
        ∧ (¬inUse → c.refused = false → s.inService = true →
            ∀ r ∈ crossGroup { s.tables with groups := s.tables.groups.set g c.clamp } g,
              exec (.tableWriteGroup p index image) s = named r.table r.index))
    ∧ (image.length = 12 → 8 ≤ index.toNat → exec (.tableWritePermitRow p index image) s = refused .INVALID_VALUE)
    ∧ (∀ q : PortIx, index.toNat = q.val → image.length = 12 →
        let c := PermitRow.decode image
        (c.refused = true → exec (.tableWritePermitRow p index image) s = refused .INVALID_VALUE)
        ∧ (c.refused = false → s.inService = true → (∀ r : PortIx, (s.tables.permits.set q c.clamp)[r].role ≠ 4) →
            exec (.tableWritePermitRow p index image) s = named 5 q.val))
    ∧ (image.length = 9 → index.toNat ≠ 0 → exec (.tableWriteSystemRecord p index image) s = refused .INVALID_VALUE)
    ∧ (image.length = 9 → index.toNat = 0 → s.mc.mode ≠ .LOCAL →
        exec (.tableWriteSystemRecord p index image) s = refused .IN_FLIGHT)
    ∧ (image.length = 9 → index.toNat = 0 → s.mc.mode = .LOCAL → (SystemRecord.decode image).refused = true →
        exec (.tableWriteSystemRecord p index image) s = refused .INVALID_VALUE)

/-- R4, R52, R62, R125, R126, R138: a door write that changes the address or the present flag gives the reported fields
their start values, forgets the addresses in the filter, ends a poll of the door and removes its pending order, the
others keeping theirs in their order; where the door is present before and after in service, for a part in which no run
waits and none is suspended, since a run that hears of the change may queue new orders behind. One that leaves address
and flag touches neither filter nor queue; one that makes the door not present clears its conditions. An HPU write does
the same of its record, its conditions and E. A permit-row write that changes heartbeat required begins the window again
without silence; bridge loss is judged anew at the write of any row in service, BRIDGE_LOST follows it, and a loss that
begins enters CLOSED from LOCAL when the loss action says so; one that changes the summary mask of the row sends its
port a ZONE_SUMMARY from 0, sets its pacing state to elapsed 0 at 0, and between two others sends at an elapsed of 5 or
more and else sets pending (R150), in service (R148); the other ports' pacing stands. A system-record write that changes
the direct lane or the look-ahead takes one admission pass for each present HPU, in ascending order (entry 65); one that
changes the wait limit tests ADMISSION_DELAY of each (R59, R60), after the passes (entry 65); another changes nothing of
the schedule. For a part that meets R97 between commands, and whose doors with an entry name an HPU (entry 22). -/
def Obligations.TableWritesReset : Prop :=
  (∀ (p : PortIx) (index : Byte) (image : List Byte) (d : DoorIx) (s : State), ManagesStore s p →
     index.toNat = d.val → image.length = 16 →
     let c := DoorConfig.decode image
     let old := s.tables.doors[d]
     c.refused = false → s.entry d = none → s.passage d = none → AlarmLaw s → SettledLaw s → HpuFieldLaw s →
     (s.inService = true → crossDoor { s.tables with doors := s.tables.doors.set d c.clamp } d = none) →
     Ends (.tableWriteDoor p index image) s fun t =>
       (old.node ≠ c.node ∨ old.present ≠ c.present →
         t.rc.reported[d] = Reported.start
         ∧ t.filterAt old.node = none ∧ t.filterAt c.node = none
         ∧ (s.rc.polled = some d → t.rc.pollEnded = true)
         ∧ (s.inService = false ∨ NoRunHears s ∨ ¬(old.present = 1 ∧ c.present = 1) →
             t.rc.orders = s.rc.orders.filter fun o => decide (o.door ≠ d)))
       ∧ (old.node = c.node → old.present = c.present →
         t.rc.filter = s.rc.filter ∧ t.rc.reported = s.rc.reported ∧ t.rc.orders = s.rc.orders)
       ∧ (old.present = 1 → c.present = 0 →
         (∀ k ∈ [AlarmKind.DOOR_SILENT, .DOOR_SENSOR, .DOOR_FAULT, .UNSUPERVISED_MOTION, .DOOR_OPEN_AT_SEA],
           Cleared t k d.val)
         ∧ t.mc.oas[d] = ⟨0, false⟩ ∧ ∀ o ∈ t.rc.orders, o.door ≠ d)
       ∧ (∀ x : DoorIx, x ≠ d → t.rc.reported[x] = s.rc.reported[x])
       ∧ t.rc.hpus = s.rc.hpus ∧ t.rc.txSeq = s.rc.txSeq ∧ t.rc.loop = s.rc.loop)
  ∧ (∀ (p : PortIx) (index : Byte) (image : List Byte) (s : State), ManagesStore s p → AlarmLaw s → SettledLaw s →
       HpuFieldLaw s →
       (∀ h : HpuIx, index.toNat = h.val → image.length = 8 →
         let c := HpuConfig.decode image
         let old := s.tables.hpus[h]
         c.refused = false → hpuInUse s h = false →
         (s.inService = true → crossHpu { s.tables with hpus := s.tables.hpus.set h c.clamp } h = none) →
         Ends (.tableWriteHpu p index image) s fun t =>
           (old.node ≠ c.node ∨ old.present ≠ c.present →
             t.rc.hpus[h] = HpuReported.start ∧ t.filterAt old.node = none ∧ t.filterAt c.node = none)
           ∧ (old.node = c.node → old.present = c.present → t.rc.hpus = s.rc.hpus ∧ t.rc.filter = s.rc.filter)
           ∧ (old.present = 1 → c.present = 0 →
             Cleared t .HPU_FAILED h.val ∧ Cleared t .HPU_SILENT h.val ∧ Cleared t .ADMISSION_DELAY h.val)
           ∧ t.cs.flow[h].capacityE = effectiveCapacity t h ∧ t.rc.reported = s.rc.reported)
       ∧ (∀ q : PortIx, index.toNat = q.val → image.length = 12 →
         let c := PermitRow.decode image
         c.refused = false →
         (s.inService = true → ∃ r : PortIx, (s.tables.permits.set q c.clamp)[r].role = 4) →
         Ends (.tableWritePermitRow p index image) s fun t =>
           ((s.row q).hbRequired ≠ c.hbRequired → t.sp[q].hbElapsed = 0 ∧ t.sp[q].silent = false)
           ∧ ((s.row q).hbRequired = c.hbRequired → t.sp[q].hbElapsed = s.sp[q].hbElapsed ∧ t.sp[q].silent = s.sp[q].silent)
           ∧ ((s.row q).hbRequired = 1 → c.hbRequired = 0 → Cleared t .STATION_SILENT q.val)
           ∧ (s.inService = true → t.mc.bridgeLost = bridgeSilent t
               ∧ BridgeAlarmFollows s t (HasRoom s .BRIDGE_LOST noSubject)
               ∧ t.mc.mode = if s.mc.bridgeLost = false ∧ bridgeSilent t = true ∧ s.tables.system.lossAction = 1
                   ∧ s.mc.mode = .LOCAL then .CLOSED else s.mc.mode)
           ∧ (∀ x : PortIx, x ≠ q → s.sp[x].queue.length ≤ 40 →
               t.ib.pacing[x] = s.ib.pacing[x] ∧ summariesAt t x = summariesAt s x)
           ∧ (s.sp[q].queue.length ≤ 40 →
               let old := (s.row q).summaryMask
               let new := c.clamp.summaryMask
               let now := s.ib.pacing[q]
               let sent := t.ib.pacing[q] = ⟨0, false⟩ ∧ summariesAt t q = summariesAt s q ++ [summaryOf t q]
               let unsent := fun (y : Pacing) => t.ib.pacing[q] = y ∧ summariesAt t q = summariesAt s q
               (new = old → unsent now)
               ∧ (new ≠ old → new = 0 → unsent ⟨0, false⟩)
               ∧ (new ≠ old → new ≠ 0 → s.inService = false → unsent now)
               ∧ (new ≠ old → new ≠ 0 → s.inService = true →
                   (old = 0 → sent)
                   ∧ (old ≠ 0 → now.elapsed < 5 → unsent ⟨now.elapsed, true⟩)
                   ∧ (old ≠ 0 → 5 ≤ now.elapsed → sent))))
       ∧ (index.toNat = 0 → image.length = 9 → s.mc.mode = .LOCAL →
         let c := SystemRecord.decode image
         let old := s.tables.system
         let new := c.clamp
         let hpus := (List.finRange 8).filter s.hpuPresent
         let u := { s with tables := { s.tables with system := new } }
         let v := if new.directLane = old.directLane ∧ new.lookAhead = old.lookAhead then u
           else hpus.foldl (fun x h => pass h x) u
         c.refused = false →
         Ends (.tableWriteSystemRecord p index image) s fun t =>
           (∀ d : DoorIx, t.entry d = v.entry d) ∧ t.rc = v.rc ∧ t.cs.nextArrival = s.cs.nextArrival
           ∧ t.ms = s.ms ∧ t.gru = s.gru ∧ t.mc = s.mc
           ∧ (new.waitLimit = old.waitLimit → t.cs = v.cs ∧ t.al = v.al)
           ∧ (new.waitLimit ≠ old.waitLimit → ∀ h : HpuIx,
               let was := v.cs.flow[h].delayAlarm
               let is := t.cs.flow[h].delayAlarm
               t.cs.flow[h] = { v.cs.flow[h] with delayAlarm := is }
               ∧ (s.hpuPresent h = false → is = was)
               ∧ (s.hpuPresent h = true →
                   (is = true ↔ ∃ d : DoorIx, ∃ e ∈ v.entry d, s.hpuOf d = h ∧ e.phase = .READY
                     ∧ 10 * new.waitLimit < e.readyAge)
                   ∧ (was = false → is = true → otherCount s.al.records ≤ 54 → Standing t .ADMISSION_DELAY h.val)
                   ∧ (was = true → is = false → Cleared t .ADMISSION_DELAY h.val)))))

/-! ### Reading (R14, R176, R177) -/

/-- R14, R168, R169, R176, R193: a read returns, from the first index on and at most as many as the count asks, as
many whole records as 59 bytes hold; every view gives the records as they stand in its layout; nothing changes but the
travel fresh flags of the doors whose state view was returned; a first index outside the table is INVALID_VALUE. -/
def Obligations.TableReads : Prop :=
  (∀ (records : List (List Byte)) (first count : Nat),
     let asked := (records.drop first).take count
     let l := recordsRead records first count
     l = asked.take l.length ∧ l.flatten.length ≤ 59
     ∧ (l.length < asked.length → 59 < (asked.take (l.length + 1)).flatten.length))
  ∧ (∀ (p : PortIx) (first count : Byte) (s : State),
       let doors : List DoorIx := List.finRange 96
       let hpus : List HpuIx := List.finRange 8
       let reads := fun (c : Instr) (table size : Nat) (records : List (List Byte)) =>
         (size ≤ first.toNat → exec c s = .next (refuse p 11 .INVALID_VALUE (acceptFrame p s)))
         ∧ (first.toNat < size → exec c s = .next (readAnswer p table records first count s))
       (Manages s p ∨ Operates s p [.BRIDGE, .SAFETY, .ENGINE] →
         reads (.tableReadAlarmList p first count) 8 64 (s.al.records.map AlarmRecord.encode))
       ∧ (Manages s p → reads (.tableReadDoorConfig p first count) 0 96 (doors.map fun d => s.tables.doors[d].encode)
       ∧ reads (.tableReadHpuConfig p first count) 2 8 (hpus.map fun h => s.tables.hpus[h].encode)
       ∧ reads (.tableReadHpuState p first count) 3 8 (hpus.map (hpuStateView s))
       ∧ reads (.tableReadGroup p first count) 4 24 ((List.finRange 24).map fun g : GroupIx => s.tables.groups[g].encode)
       ∧ reads (.tableReadPermitConfig p first count) 5 8 (hpus.map fun q => (s.row q).encode)
       ∧ reads (.tableReadPermitState p first count) 6 8 (hpus.map (permitStateView (acceptFrame p s)))
       ∧ reads (.tableReadSystemRecord p first count) 7 1 [s.tables.system.encode]
       ∧ (96 ≤ first.toNat → exec (.tableReadDoorState p first count) s
           = .next (refuse p 11 .INVALID_VALUE (acceptFrame p s)))
       ∧ (first.toNat < 96 →
           let views := doors.map (doorStateView s)
           let n := (recordsRead views first.toNat count.toNat).length
           Ends (.tableReadDoorState p first count) s fun t =>
             t = { readAnswer p 1 views first count s with ms := t.ms } ∧ t.ms.moveRepeats = s.ms.moveRepeats
             ∧ (∀ d : DoorIx, first.toNat ≤ d.val → d.val < first.toNat + n →
                 t.ms.doors[d] = { s.ms.doors[d] with closeFresh := false, openFresh := false })
             ∧ ∀ d : DoorIx, (d.val < first.toNat ∨ first.toNat + n ≤ d.val) → t.ms.doors[d] = s.ms.doors[d])))

/-- R177: a COUNTER_READ answers with the counters of its set, two bytes each, its own frame counted, and with a clear
flag that is not 0 then sets each counter of that set to 0 and no other. -/
def Obligations.CounterReads : Prop :=
  ∀ (p : PortIx) (clear : Byte) (s : State), Manages s p →
    let u := acceptFrame p s
    let ports := (List.finRange 8).flatMap fun q : PortIx =>
      be2 u.sp[q].accepted ++ be2 u.sp[q].discarded ++ be2 u.sp[q].refused
    let ring := be2 s.rc.east.received ++ be2 s.rc.east.discarded ++ be2 s.rc.west.received ++ be2 s.rc.west.discarded
      ++ be2 s.rc.secondCopies ++ be2 s.rc.loopMisses ++ be2 s.ms.moveRepeats ++ be2 s.al.lost
    let a := answerDone p 12 false (0 :: ports) u
    let b := answerDone p 12 false (1 :: ring) u
    (clear = 0 → exec (.counterReadStation p clear) s = .next a)
    ∧ (clear ≠ 0 → Ends (.counterReadStation p clear) s fun t =>
        (∀ q : PortIx, t.sp[q] = uncounted a.sp[q]) ∧ t = { a with sp := t.sp })
    ∧ (clear = 0 → exec (.counterReadRing p clear) s = .next b)
    ∧ (clear ≠ 0 → Ends (.counterReadRing p clear) s fun t =>
        t = { b with ms := { b.ms with moveRepeats := 0 }, al := { b.al with lost := 0 },
                     rc := { b.rc with east := { b.rc.east with received := 0, discarded := 0 },
                                       west := { b.rc.west with received := 0, discarded := 0 },
                                       secondCopies := 0, loopMisses := 0 } })

/-! ### Commissioning (R180 to R183) -/

/-- R85, R181: the checks pass exactly when no field holds what a write refuses, a door is present, every present door
fits on a present HPU within capacity less reserve, no two present nodes share an address, every present group's list
is not empty, without repeats, of present doors with preconditions that stand before them, and a row has role SERVICE.
-/
def Obligations.CommissioningChecks : Prop :=
  ∀ t : Tables, commissionChecks t = none ↔
    ((∀ d : DoorIx, (t.doors[d]).refused = false) ∧ (∀ h : HpuIx, (t.hpus[h]).refused = false)
      ∧ (∀ g : GroupIx, (t.groups[g]).refused = false) ∧ (∀ p : PortIx, (t.permits[p]).refused = false)
      ∧ t.system.refused = false)
    ∧ (∃ d : DoorIx, t.doorPresent d = true)
    ∧ (∀ d : DoorIx, t.doorPresent d = true → ∀ h : HpuIx, h.val = t.doors[d].hpu →
        t.hpuPresent h = true ∧ t.doors[d].draw ≤ t.hpus[h].capacity - t.hpus[h].reserve)
    ∧ (∀ a b : DoorIx, a ≠ b → t.doorPresent a = true → t.doorPresent b = true → t.doors[a].node ≠ t.doors[b].node)
    ∧ (∀ a b : HpuIx, a ≠ b → t.hpuPresent a = true → t.hpuPresent b = true → t.hpus[a].node ≠ t.hpus[b].node)
    ∧ (∀ (d : DoorIx) (h : HpuIx), t.doorPresent d = true → t.hpuPresent h = true → t.doors[d].node ≠ t.hpus[h].node)
    ∧ (∀ g : GroupIx, t.groupPresent g = true → ListOk t t.groups[g].entries)
    ∧ ∃ p : PortIx, t.permits[p].role = 4

/-- R127, R128, R133, R145, R150, R180, R182: in service it is refused WRONG_MODE; with a failing check INVALID_REFERENCE
with the record; else the part enters IN_SERVICE in the mode of the line and the start mode with its system run, the first
POLL is out, the report ages and the windows begin at 0, HPU_FAILED is raised for each present HPU that is FAILED, where the
list has room for every raise of the entry, each port with a mask is sent one ZONE_SUMMARY, where its queue has room, and
its RESULT stands in the queue. The order of RESULT and
first summary is free (entry 3); the order of the blocks' entry actions is the model's (entry 17). The record of the
POLL that left is the model's (entry 20). That the report ages are set to 0 at a COMMISSION is the model's reading,
against R64 (entry 46). -/
def Obligations.Commissioned : Prop :=
  ∀ (p : PortIx) (s : State), ManagesStore s p →
    let u := acceptFrame p s
    (s.inService = true → exec (.commission p) s = .next (refuse p 13 .WRONG_MODE u))
    ∧ (s.inService = false → ∀ r ∈ commissionChecks s.tables,
        exec (.commission p) s = .next (refuseWith p 13 .INVALID_REFERENCE false [byteOf r.table, byteOf r.index] u))
    ∧ (s.inService = false → commissionChecks s.tables = none → QuietLaw s → (∀ q : PortIx, s.sp[q].silent = false) →
        (∀ d : DoorIx, s.passage d = none) →
        Ends (.commission p) s fun t =>
          EnteredService s t ∧ t.cfs = { s.cfs with part := .IN_SERVICE }
          ∧ (s.sp[p].queue.length ≤ 30 → resultFrame 13 .DONE false [] ∈ t.sp[p].queue)
          ∧ t.seconds = s.seconds ∧ t.sp[p].accepted = min (s.sp[p].accepted + 1) 65535)

/-- R18, R64, R128, R145, R164, R183: refused WRONG_MODE out of service or out of LOCAL, IN_FLIGHT with an entry or a
run standing; else the part is UNCONFIGURED, the orders have been sent and polling has stopped, present doors are
UNKNOWN with comms OK, LOST HPUs UNKNOWN, the heartbeat, summary and open-at-sea state is at its start values, the
conditions of doors, HPUs, stations and bridge are cleared, and tables, latches, sea fields and the snapshot stand. That
the RESULT stands after the notices of the clears is the model's choice (entry 15), and so is the record of the orders
that left (entry 20). -/
def Obligations.Decommissioned : Prop :=
  ∀ (p : PortIx) (s : State), ManagesStore s p →
    let u := acceptFrame p s
    (s.inService = false ∨ s.mc.mode ≠ .LOCAL → exec (.decommission p) s = .next (refuse p 14 .WRONG_MODE u))
    ∧ (s.inService = true → s.mc.mode = .LOCAL → ((∃ d : DoorIx, s.entry d ≠ none) ∨ liveRuns s ≠ []) →
        exec (.decommission p) s = .next (refuse p 14 .IN_FLIGHT u))
    ∧ (s.inService = true → s.mc.mode = .LOCAL → (∀ d : DoorIx, s.entry d = none) → liveRuns s = [] → AlarmLaw s →
        Ends (.decommission p) s fun t =>
          t.cfs = { s.cfs with part := .UNCONFIGURED } ∧ t.tables = s.tables ∧ t.mc.mode = .LOCAL
          ∧ t.rc.orders = [] ∧ t.rc.polled = none ∧ t.rc.replyLimit = 0 ∧ t.rc.interval = 0
          ∧ t.pins.ringOut.length = s.rc.orders.length ∧ t.rc.txSeq = s.rc.txSeq + BitVec.ofNat 8 s.rc.orders.length
          ∧ t.rc.filter = s.rc.filter ∧ t.rc.loop = s.rc.loop ∧ t.rc.incomplete = s.rc.incomplete
          ∧ (∀ d : DoorIx, t.rc.reported[d] =
              if s.isPresent d then { s.rc.reported[d] with position := .UNKNOWN, lost := false, misses := 0, shown := false }
              else s.rc.reported[d])
          ∧ (∀ h : HpuIx, t.rc.hpus[h] =
              if s.rc.hpus[h].state = .LOST then { s.rc.hpus[h] with state := .UNKNOWN } else s.rc.hpus[h])
          ∧ (∀ h : HpuIx, s.rc.hpus[h].state = .LOST → t.cs.flow[h].capacityE = effectiveCapacity t h)
          ∧ (∀ q : PortIx, t.sp[q].hbElapsed = 0 ∧ t.sp[q].silent = false ∧ t.sp[q].early = s.sp[q].early)
          ∧ t.mc.bridgeLost = false ∧ (∀ d : DoorIx, t.mc.oas[d] = ⟨0, false⟩) ∧ t.mc.sea = s.mc.sea
          ∧ (∀ d : DoorIx, s.isPresent d = true → Cleared t .DOOR_SILENT d.val)
          ∧ (∀ h : HpuIx, Cleared t .HPU_FAILED h.val ∧ Cleared t .HPU_SILENT h.val)
          ∧ (∀ q : PortIx, Cleared t .STATION_SILENT q.val) ∧ Cleared t .BRIDGE_LOST noSubject
          ∧ t.ib.allClosed = false ∧ t.ib.sending = s.ib.sending ∧ t.ib.buffer = s.ib.buffer
          ∧ t.ib.snapNumber = s.ib.snapNumber ∧ (∀ c : CompIx, t.ib.comps[c] = compIndication t c)
          ∧ (∀ q : PortIx, t.ib.pacing[q].elapsed = 0)
          ∧ (∀ d : DoorIx, t.latch d = s.latch d) ∧ t.seconds = s.seconds ∧ Done t p 14 false [])

/-! ### SAVE, RESTART and the starts (R184 to R187) -/

/-- R184, R185: SAVE copies the image of the tables and leaves the store without a good image, which the model holds as
no bytes (entry 9); its completion stores the copy, sets the image GOOD, clears STORE_INVALID and answers DONE at the
port that asked; a completion with no SAVE in flight changes nothing (entry 6). That the RESULT stands last is the
model's choice (entry 15). -/
def Obligations.SavedAndCompleted : Prop :=
  ∀ (p : PortIx) (s : State),
    (ManagesStore s p → exec (.save p) s = .next
      { acceptFrame p s with cfs := { s.cfs with save := some p, saveBuffer := s.tables.image, image := [] } })
    ∧ (Awake s → s.cfs.save = none → exec .saveComplete s = .next s)
    ∧ (Awake s → AlarmLaw s → ∀ q ∈ s.cfs.save, Ends .saveComplete s fun t =>
        t.cfs = { s.cfs with save := none, saveBuffer := [], image := s.cfs.saveBuffer, status := .GOOD }
        ∧ Cleared t .STORE_INVALID noSubject ∧ Done t q 15 false []
        ∧ t.tables = s.tables ∧ t.cs = s.cs ∧ t.ms = s.ms ∧ t.gru = s.gru ∧ t.mc = s.mc ∧ t.rc = s.rc
        ∧ t.pins = s.pins ∧ t.seconds = s.seconds ∧ OnlyQueues s t ∧ OnlyPacing s t)

/-- R17, R63, R64, R84, R104, R127, R145, R150, R164, R178, R182, R187: a RESTART is answered DONE and pending; the warm
restart waits until its RESULT has left. Then it keeps tables, store, seconds, travel and sea fields, the counters, the
lost-alarm count and what last left the ports; it brings every other field of every block to its start value (latches NONE;
schedule, slots, stack, passages, order queue, filter, loop check and part places empty; arrival counter, transmit sequence
counter, incomplete count, loop interval and snapshot number 0), drops the frames that waited, and raises EMERGENCY_LINE
and STORE_INVALID alone, where they hold. By the checks it is in service, with its mode, its system run, the first POLL
under sequence 0 and one ZONE_SUMMARY at each port with a mask, or UNCONFIGURED with none of them. A warm restart that is
not due changes nothing (entry 6). That the ring ports stand in HUNT is the model's reading (entry 32); the order of the
two records (entry 17) and the record of the POLL that left (entry 20) are its own. -/
def Obligations.Restarted : Prop :=
  ∀ (p : PortIx) (s : State),
    (ManagesStore s p → exec (.restart p) s = .next
      (answerDone p 16 false [] { acceptFrame p s with cfs := { s.cfs with restartPending := true } }))
    ∧ (Awake s → s.cfs.restartPending = false → exec .warmRestart s = .next s)
    ∧ (Awake s → (∃ q : PortIx, resultFrame 16 .DONE false [] ∈ s.sp[q].queue) → exec .warmRestart s = .next s)
    ∧ (Awake s → s.cfs.restartPending = true → (∀ q : PortIx, resultFrame 16 .DONE false [] ∉ s.sp[q].queue) →
        Ends .warmRestart s fun t => Started s t
          ((if s.pins.emClose then [freshRecord .EMERGENCY_LINE noSubject s.seconds] else [])
            ++ if s.cfs.status = .INVALID then [freshRecord .STORE_INVALID noSubject s.seconds] else []))

/-- R16, R63, R84, R104, R127, R145, R150, R164, R178, R182, R186: with no good image a cold start leaves blank tables, an
UNCONFIGURED part and STORE_INVALID, and EMERGENCY_LINE where the line is asserted, whatever stood before. With a good image
its tables stand, also those that hold fields out of range, and every other field of every block is at its cold-start value
but for what the entry into IN_SERVICE makes of it: where the tables pass the checks the part is IN_SERVICE with its mode,
its system run, the first POLL under sequence 0 and one ZONE_SUMMARY at each port with a mask, and EMERGENCY_LINE is raised
where the line is asserted; where they fail it is UNCONFIGURED with STORE_INVALID before that. The order of the two records
is the model's choice (entry 17), that the ring ports stand in HUNT its reading (entry 32), and the records of what left the
part are its own (entry 20). -/
def Obligations.ColdStarts : Prop :=
  (∀ s : State, loadImage s.cfs.image = none →
     (s.pins.emClose = false → exec .coldStart s = .next (coldBlank s))
     ∧ (s.pins.emClose = true → exec .coldStart s = .next { coldBlank s with
         al := ⟨[⟨.STORE_INVALID, 255, .ACTIVE_UNACK, 0, 1⟩, ⟨.EMERGENCY_LINE, 255, .ACTIVE_UNACK, 0, 1⟩], 0, true⟩ }))
  ∧ (∀ (tables : Tables) (s : State),
       loadImage s.cfs.image = some tables ∨ (tables.inRange ∧ s.cfs.image = tables.image) →
       let serves := commissionChecks tables = none
       let blank := { coldBlank s with
         tables := tables
         cfs := ⟨.UNCONFIGURED, if serves then .GOOD else .INVALID, none, [], false, s.cfs.image⟩ }
       Ends .coldStart s fun t => Started blank t
         ((if serves then [] else [freshRecord .STORE_INVALID noSubject 0])
           ++ if s.pins.emClose then [freshRecord .EMERGENCY_LINE noSubject 0] else []))

/-! ### Passages (R117 to R121, R123) -/

/-- R117 to R119, R121, R123: a record in OPENING becomes HELD at a presentation of OPEN with the handle OPEN; one in HELD
stands; one in RECLOSING whose reclose was demanded ends at CLOSED, and one whose reclose was deferred submits it at
the first position that is not OPENING, and ends where it is overruled. The handle leaving OPEN ends the hold: the OPEN
entry of origin PASSAGE is gone, with STOP where it moved, one of another origin stands; the reclose of class 2, in
EMERGENCY 3, is deferred at OPENING, ends the record at CLOSED, and else is ENQUEUED with the pre-warning of the door.
The removal of the CLOSE entry ends a demanded reclose. The end of a record clears PASSAGE_OVERDUE, and a presentation
of CLOSED clears DOOR_OPEN_AT_SEA. An EVENT that shows the handle let go at a door held OPEN has these effects whatever
order the blocks act in (entry 1). -/
def Obligations.PassagesProgress : Prop :=
  (∀ (d : DoorIx) (s : State), s.inService = true →
     let t := presentPassage d s
     let now := s.position d
     let stands := (now ≠ .CLOSED → t = s) ∧ t.mc = s.mc ∧ t.cs = s.cs ∧ t.rc = s.rc ∧ t.gru = s.gru
     let becomes := fun (x : Passage) => { s with mc := { s.mc with passages := s.mc.passages.set d (some x) } }
     let ended := t.passage d = none ∧ (AlarmLaw s → Cleared t .PASSAGE_OVERDUE d.val)
       ∧ (∀ y : DoorIx, y ≠ d → t.passage y = s.passage y) ∧ t.cs = s.cs ∧ t.rc = s.rc ∧ t.gru = s.gru
     let reclose := (⟨d, .CLOSE, if s.mc.mode = .EMERGENCY then 3 else 2, .C, .PASSAGE, none⟩ : Demand)
     (now = .CLOSED → AlarmLaw s → Cleared t .DOOR_OPEN_AT_SEA d.val)
     ∧ (s.passage d = none → stands)
     ∧ ∀ x ∈ s.passage d,
         (x.phase = .OPENING → now = .OPEN → s.handle d = .OPEN → t = becomes { x with phase := .HELD })
         ∧ (x.phase = .OPENING → now ≠ .OPEN ∨ s.handle d ≠ .OPEN → stands)
         ∧ (x.phase = .HELD → stands)
         ∧ (x.phase = .RECLOSING → x.demanded = true → (now = .CLOSED → ended) ∧ (now ≠ .CLOSED → t = s))
         ∧ (x.phase = .RECLOSING → x.demanded = false →
             let o := (decideDemand reclose (becomes { x with demanded := true })).1
             let u := (decideDemand reclose (becomes { x with demanded := true })).2
             (now = .OPENING → t = s)
             ∧ (now ≠ .OPENING → now ≠ .CLOSED →
                 (o = .OVERRULED → ended) ∧ (o ≠ .OVERRULED → t = u ∧ t.passage d = some { x with demanded := true }))
             ∧ (now = .CLOSED → s.entry d = none → ended)))
  ∧ (∀ (d : DoorIx) (s : State), s.inService = true → s.mc.mode ≠ .LOCAL → s.handle d = .IDLE ∨ s.handle d = .CLOSE →
       s.cs.nextArrival ≠ arrivalTop → ∀ x ∈ s.passage d, x.phase ≠ .RECLOSING → (∀ e ∈ s.entry d, e.origin ≠ .LOCAL) →
       let t := presentHandle d .OPEN s
       let now := s.position d
       let cls := if s.mc.mode = .EMERGENCY then 3 else 2
       let own := ∀ e ∈ s.entry d, e.direction = .OPEN ∧ e.origin = .PASSAGE
       let recloses := fun (b : Bool) => t.passage d = some { x with phase := .RECLOSING, demanded := b }
       (own → now = .OPENING → t.entry d = none ∧ recloses false ∧ (phaseOf s d = some .MOVING → Pending t d .STOP))
       ∧ (own → now = .CLOSED → t.entry d = none ∧ t.passage d = none ∧ (AlarmLaw s → Cleared t .PASSAGE_OVERDUE d.val))
       ∧ (own → now ≠ .OPENING → now ≠ .CLOSED →
           claimOf t d = some (.CLOSE, cls, .C, .PASSAGE, none, s.cs.nextArrival) ∧ recloses true
           ∧ (0 < s.preWarn d → phaseOf t d = some .WARNING ∧ Pending t d .WARN)
           ∧ (s.preWarn d = 0 → phaseOf t d = some .READY ∨ phaseOf t d = some .MOVING))
       ∧ (own → (s.entry d).isSome = true → AlarmLaw s → Cleared t .TRAVEL_OVERTIME d.val)
       ∧ (∀ e ∈ s.entry d, e.direction = .OPEN → e.origin ≠ .PASSAGE →
           (now = .OPENING → t.entry d = some e ∧ recloses false)
           ∧ (now ≠ .OPENING →
               ¬Beats s.tables.system.orderCode ⟨d, .CLOSE, cls, .C, .PASSAGE, none⟩ ⟨.OPEN, e.cls, e.group⟩ →
               t.entry d = some e ∧ t.passage d = none))
       ∧ t.ms = s.ms ∧ t.mc.sea = s.mc.sea ∧ (∀ y : DoorIx, y ≠ d → claimOf t y = claimOf s y ∧ t.passage y = s.passage y)
       ∧ OnlyOrders s t ∧ Aside s t)
  ∧ (∀ (c : RemovalCause) (d : DoorIx) (s : State), ∀ x ∈ s.passage d, x.phase = .RECLOSING → x.demanded = true →
       ∀ e ∈ s.entry d, e.direction = .CLOSE →
       (removeEntry c d s).passage d = none ∧ (AlarmLaw s → Cleared (removeEntry c d s) .PASSAGE_OVERDUE d.val))
  ∧ (∀ (rp : RingPort) (src seq : Byte) (low : Bool) (d : DoorIx) (s : State), Awake s → s.inService = true →
       wfNode src = true → NamesDoor s src d → s.filterAt src.toNat ≠ some seq → NoRunHears s → SettledLaw s →
       s.mc.mode ≠ .LOCAL → s.handle d = .OPEN → s.position d = .OPEN → s.entry d = none →
       s.cs.nextArrival ≠ arrivalTop → ∀ x ∈ s.passage d, x.phase = .HELD →
       Ends (.event rp src seq .IDLE low false) s fun t =>
         claimOf t d = some (.CLOSE, if s.mc.mode = .EMERGENCY then 3 else 2, .C, .PASSAGE, none, s.cs.nextArrival)
         ∧ t.passage d = some { x with phase := .RECLOSING, demanded := true }
         ∧ (0 < s.preWarn d → phaseOf t d = some .WARNING ∧ Pending t d .WARN)
         ∧ (s.preWarn d = 0 → phaseOf t d = some .READY ∨ phaseOf t d = some .MOVING)
         ∧ ∀ y : DoorIx, y ≠ d → claimOf t y = claimOf s y ∧ t.passage y = s.passage y)

/-! ### The door ring: frames that arrive (R5 to R9, R130 to R137) -/

/-- R5 to R9, R131, R132, R134, R135: an accepted REPORT updates position, handle and flags, ends the poll and the LOST
state, and raises or clears DOOR_SENSOR; an EVENT updates handle and flags, its position only to UNKNOWN under a sensor
fault, and never clears DOOR_SENSOR; both are counted received, make their sequence the last accepted of the address and
clear DOOR_SILENT, whatever order the blocks they are presented to act in (entry 1). That DOOR_SENSOR follows the frames
while the part is UNCONFIGURED too is the model's reading (entry 33). That DOOR_SENSOR is raised before the presentation
is its choice (entry 55). -/
def Obligations.DoorFramesTaken : Prop :=
  (∀ (rp : RingPort) (src seq : Byte) (r : ReportBits) (s : State), Awake s → wfNode src = true → AlarmLaw s →
     ∀ d ∈ s.rc.polled, NamesDoor s src d → s.filterAt src.toNat ≠ some seq →
     Ends (.report rp src seq r) s fun t =>
       t.rc.reported[d] = ⟨reportPosition r, reportedHandle r.handle, r.lowPressure, r.sensorFault, false, 0,
         s.rc.reported[d].shown || decide (reportPosition r ≠ .UNKNOWN)⟩
       ∧ (∀ x : DoorIx, x ≠ d → t.rc.reported[x] = s.rc.reported[x])
       ∧ Accepted s t rp src seq ∧ t.rc.pollEnded = true ∧ t.rc.polled = s.rc.polled ∧ t.rc.hpus = s.rc.hpus
       ∧ Cleared t .DOOR_SILENT d.val
       ∧ (r.closedLimit && r.openLimit || r.sensorFault → HasRoom s .DOOR_SENSOR d.val → Standing t .DOOR_SENSOR d.val)
       ∧ ((r.closedLimit && r.openLimit || r.sensorFault) = false → Cleared t .DOOR_SENSOR d.val)
       ∧ t.tables = s.tables ∧ t.cfs = s.cfs ∧ t.pins = s.pins ∧ t.seconds = s.seconds ∧ t.mc.mode = s.mc.mode)
  ∧ (∀ (rp : RingPort) (src seq : Byte) (h : HandleCode) (low fault : Bool) (d : DoorIx) (s : State), Awake s →
       wfNode src = true → AlarmLaw s → NamesDoor s src d → s.filterAt src.toNat ≠ some seq →
       Ends (.event rp src seq h low fault) s fun t =>
         t.rc.reported[d] = ⟨if fault then .UNKNOWN else s.position d, reportedHandle h, low, fault, false, 0,
           s.rc.reported[d].shown⟩
         ∧ (∀ x : DoorIx, x ≠ d → t.rc.reported[x] = s.rc.reported[x])
         ∧ Accepted s t rp src seq ∧ t.rc.pollEnded = s.rc.pollEnded ∧ t.rc.polled = s.rc.polled ∧ t.rc.hpus = s.rc.hpus
         ∧ Cleared t .DOOR_SILENT d.val
         ∧ (fault = true → HasRoom s .DOOR_SENSOR d.val → Standing t .DOOR_SENSOR d.val)
         ∧ (fault = false → ∀ q ∈ s.al.records, q.pair = (.DOOR_SENSOR, d.val) → q ∈ t.al.records)
         ∧ t.tables = s.tables ∧ t.cfs = s.cfs ∧ t.pins = s.pins ∧ t.seconds = s.seconds ∧ t.mc.mode = s.mc.mode)

/-- R50 to R52, R55, R132, R136, R137: an accepted HPU_REPORT sets the state, pressure and age of its HPU, E follows,
with an admission pass where it changes and none where it does not, and in service HPU_FAILED and HPU_SILENT follow; at
a report age of 30 in service a present HPU becomes LOST with a quarter of its capacity, the pass that follows taken,
and HPU_SILENT raised; an expiry that is not due changes nothing (entry 6). That HPU_FAILED is raised first at a report,
and HPU_SILENT before E is recomputed at a loss, are the model's choices (entries 54 and 60). -/
def Obligations.HpuReports : Prop :=
  (∀ (rp : RingPort) (src seq : Byte) (st : HpuCode) (pressure : Nat) (h : HpuIx) (s : State), Awake s →
     wfNode src = true → pressure ≤ 4095 → AlarmLaw s → s.hpuPresent h = true → s.tables.hpus[h].node = src.toNat →
     (∀ x : HpuIx, x < h → s.hpuPresent x = true → s.tables.hpus[x].node ≠ src.toNat) →
     s.filterAt src.toNat ≠ some seq →
     Ends (.hpuReport rp src seq st pressure) s fun t =>
       t.rc.hpus[h] = ⟨if st = .FAILED then .FAILED else .READY, pressure, 0⟩
       ∧ (∀ x : HpuIx, x ≠ h → t.rc.hpus[x] = s.rc.hpus[x] ∧ t.cs.flow[x] = s.cs.flow[x])
       ∧ t.cs.flow[h].capacityE = effectiveCapacity t h ∧ Recomputed s t h
       ∧ Accepted s t rp src seq ∧ t.rc.reported = s.rc.reported ∧ t.rc.polled = s.rc.polled
       ∧ (s.inService = true → Cleared t .HPU_SILENT h.val
           ∧ (st = .READY → Cleared t .HPU_FAILED h.val)
           ∧ (st = .FAILED → HasRoom s .HPU_FAILED h.val → Standing t .HPU_FAILED h.val))
       ∧ (∀ d : DoorIx, claimOf t d = claimOf s d) ∧ t.ms = s.ms ∧ t.mc = s.mc ∧ t.gru = s.gru ∧ Aside s t)
  ∧ (∀ (h : HpuIx) (s : State), Awake s →
       (hpuSilent s h = true ↔
         s.inService = true ∧ s.hpuPresent h = true ∧ 30 ≤ s.rc.hpus[h].age ∧ s.rc.hpus[h].state ≠ .LOST)
       ∧ (hpuSilent s h = false → exec (.reportAgeExpiry h) s = .next s)
       ∧ (hpuSilent s h = true → Ends (.reportAgeExpiry h) s fun t =>
           t.rc.hpus[h] = { s.rc.hpus[h] with state := .LOST }
           ∧ (∀ x : HpuIx, x ≠ h → t.rc.hpus[x] = s.rc.hpus[x] ∧ t.cs.flow[x] = s.cs.flow[x])
           ∧ t.cs.flow[h].capacityE = s.tables.hpus[h].capacity / 4 ∧ Recomputed s t h
           ∧ (HasRoom s .HPU_SILENT h.val → Standing t .HPU_SILENT h.val)
           ∧ (∀ d : DoorIx, claimOf t d = claimOf s d) ∧ t.rc.reported = s.rc.reported
           ∧ t.ms = s.ms ∧ t.mc = s.mc ∧ t.gru = s.gru ∧ Aside s t))

/-- R131, R132, R143: a frame of a node that names nothing present, and a REPORT of a door that is not the polled one,
is discarded and counted; a second copy is counted received and as a second copy; nothing else changes but that the
port is in HUNT. -/
def Obligations.NodeFramesDiscarded : Prop :=
  ∀ (rp : RingPort) (src seq : Byte) (r : ReportBits) (h : HandleCode) (low fault : Bool) (st : HpuCode)
    (pressure : Nat) (d : DoorIx) (s : State), Awake s → wfNode src = true →
    let hunt := modSide rp (fun x => { x with rx := .HUNT })
    let discarded := Host.Outcome.next (modSide rp (fun x => { x with discarded := min (x.discarded + 1) 65535 }) (hunt s))
    let copy := modSide rp (fun x => { x with received := min (x.received + 1) 65535 }) (hunt s)
    let second := Host.Outcome.next
      { copy with rc := { copy.rc with secondCopies := min (s.rc.secondCopies + 1) 65535 } }
    ((∀ x : DoorIx, s.isPresent x = true → s.tables.doors[x].node ≠ src.toNat) →
      exec (.report rp src seq r) s = discarded ∧ exec (.event rp src seq h low fault) s = discarded)
    ∧ ((∀ x : HpuIx, s.hpuPresent x = true → s.tables.hpus[x].node ≠ src.toNat) →
      exec (.hpuReport rp src seq st pressure) s = discarded)
    ∧ (∀ u : HpuIx, s.hpuPresent u = true → s.tables.hpus[u].node = src.toNat → s.filterAt src.toNat = some seq →
        exec (.hpuReport rp src seq st pressure) s = second)
    ∧ (NamesDoor s src d → s.rc.polled ≠ some d → exec (.report rp src seq r) s = discarded)
    ∧ (NamesDoor s src d → s.filterAt src.toNat = some seq →
        (s.rc.polled = some d → exec (.report rp src seq r) s = second)
        ∧ exec (.event rp src seq h low fault) s = second)

/-! ### Bytes (R165, R189 to R191) -/

/-- R130, R165, R189 to R191: from HUNT a whole station frame with a wrong CRC-16, or of a kind or length that is no
command's, is discarded and counted; so is a ring frame with a wrong CRC-16, with bad fields or of a kind the part
alone sends; a frame broken off is discarded at the timeout, one with a framing error or too great a length at that
byte; bytes before a delimiter are passed over. That an accepted frame is a command of its own and passed over here is
the model's choice (entry 10). -/
def Obligations.BytesReceived : Prop :=
  (∀ (p : PortIx) (kind c1 c2 : Byte) (payload other : List Byte) (k : Nat) (s : State), Awake s →
     s.sp[p].rx = .HUNT → payload.length ≤ 64 →
     let body := kind :: byteOf payload.length :: payload
     let frame := 0x5A#8 :: body ++ [c1, c2]
     let lost := { s with sp := upd s.sp p fun x => { x with discarded := min (x.discarded + 1) 65535 } }
     (crcBytes body ≠ [c1, c2] → exec (.stationFrameDiscarded p (received frame)) s = .next lost)
     ∧ (crcBytes body = [c1, c2] → decodeStationCommand p kind payload = none →
         exec (.stationFrameDiscarded p (received frame)) s = .next lost)
     ∧ (crcBytes body = [c1, c2] → (decodeStationCommand p kind payload).isSome = true →
         exec (.stationFrameDiscarded p (received frame)) s = .next s)
     ∧ (0 < k → k < frame.length → exec (.stationInterbyteTimeout p (received (frame.take k))) s = .next lost)
     ∧ (0x5A#8 ∉ other → exec (.stationFrameDiscarded p (received (other ++ frame))) s
         = exec (.stationFrameDiscarded p (received frame)) s)
     ∧ exec (.stationFrameDiscarded p (received [0x5A#8, kind] ++ [⟨c1, true⟩])) s = .next lost
     ∧ (64 < c1.toNat → exec (.stationFrameDiscarded p (received [0x5A#8, kind, c1])) s = .next lost))
  ∧ (∀ (p : RingPort) (dest src kind seq c1 c2 : Byte) (payload other : List Byte) (k : Nat) (s : State), Awake s →
       (sideOf s p).rx = .HUNT → payload.length ≤ 8 →
       let body := dest :: src :: kind :: seq :: byteOf payload.length :: payload
       let frame := 0x5B#8 :: body ++ [c1, c2]
       let lost := modSide p (fun x => { x with discarded := min (x.discarded + 1) 65535 }) s
       (crcBytes body ≠ [c1, c2] → exec (.ringFrameDiscarded p (received frame)) s = .next lost)
       ∧ (crcBytes body = [c1, c2] → decodeRingFrame p dest src kind seq payload ∈ [RingFrameRead.bad, .partSent] →
           exec (.ringFrameDiscarded p (received frame)) s = .next lost)
       ∧ (0 < k → k < frame.length → exec (.ringInterbyteTimeout p (received (frame.take k))) s = .next lost)
       ∧ (0x5B#8 ∉ other → exec (.ringFrameDiscarded p (received (other ++ frame))) s
           = exec (.ringFrameDiscarded p (received frame)) s)
       ∧ exec (.ringFrameDiscarded p (received [0x5B#8, dest] ++ [⟨c1, true⟩])) s = .next lost
       ∧ (8 < c1.toNat → exec (.ringFrameDiscarded p (received [0x5B#8, dest, src, kind, seq, c1])) s = .next lost))

/-! ### The door ring: what the part sends (R129, R133, R134, R140 to R142) -/

/-- R129, R133, R134, R140, R141: while the poll has ended the order at the head leaves under the next sequence
number; with none waiting the present door of lowest index above the polled door is polled; at the end of a cycle a
loop check starts, if none waits, and the first present door is polled. At any other time nothing changes (entry 6);
the record of the frames sent is the model's (entry 20). -/
def Obligations.RingTraffic : Prop :=
  (∀ s : State, Awake s →
     (s.inService = false ∨ s.rc.pollEnded = false ∨ s.rc.orders = [] → exec .orderSend s = .next s)
     ∧ (s.inService = true → s.rc.pollEnded = true → ∀ o ∈ s.rc.orders.head?,
         exec .orderSend s = .next { s with
           rc := { s.rc with orders := s.rc.orders.tail, txSeq := s.rc.txSeq + 1 }
           pins := { s.pins with ringOut :=
             [ringFrameBytes (byteOf s.tables.doors[o.door].node) 0 o.kind.wire.1 s.rc.txSeq o.kind.wire.2] } }))
  ∧ (∀ s : State, Awake s →
       let poll := fun (d : DoorIx) (seq : Byte) => ringFrameBytes (byteOf s.tables.doors[d].node) 0 1 seq []
       (s.inService = false ∨ s.rc.pollEnded = false ∨ s.rc.orders ≠ [] → exec .pollSend s = .next s)
       ∧ (s.inService = true → s.rc.pollEnded = true → s.rc.orders = [] →
           (∀ k ∈ s.rc.polled, ∀ d : DoorIx, k < d → s.isPresent d = true →
             (∀ x : DoorIx, k < x → x < d → s.isPresent x = false) →
             exec .pollSend s = .next { s with
               rc := { s.rc with polled := some d, pollEnded := false, replyLimit := 3, txSeq := s.rc.txSeq + 1 }
               pins := { s.pins with ringOut := [poll d s.rc.txSeq] } })
           ∧ ((∀ k ∈ s.rc.polled, ∀ x : DoorIx, k < x → s.isPresent x = false) →
               ∀ d : DoorIx, s.isPresent d = true → (∀ x : DoorIx, x < d → s.isPresent x = false) →
               ((s.rc.loop).isSome = true → exec .pollSend s = .next { s with
                 rc := { s.rc with polled := some d, pollEnded := false, replyLimit := 3, txSeq := s.rc.txSeq + 1 }
                 pins := { s.pins with ringOut := [poll d s.rc.txSeq] } })
               ∧ (s.rc.loop = none → exec .pollSend s = .next { s with
                 rc := { s.rc with polled := some d, pollEnded := false, replyLimit := 3, txSeq := s.rc.txSeq + 2,
                                   loop := some ⟨s.rc.txSeq, false, false, 10⟩ }
                 pins := { s.pins with ringOut :=
                   [ringFrameBytes 0 0 6 s.rc.txSeq [], poll d (s.rc.txSeq + 1)] } }))))

/-- R9, R134: the miss is counted up to 3; the third in a row makes the door LOST with position UNKNOWN and raises
DOOR_SILENT; an expiry that is not due changes nothing (entry 6). That DOOR_SILENT is raised before the change is
presented is the model's choice (entry 59). -/
def Obligations.PollsAreMissed : Prop :=
  ∀ s : State, Awake s →
    (s.inService = false ∨ s.rc.pollEnded = true ∨ s.rc.replyLimit ≠ 0 ∨ s.rc.polled = none →
      exec .replyLimitExpiry s = .next s)
    ∧ (s.inService = true → s.rc.pollEnded = false → s.rc.replyLimit = 0 → ∀ d ∈ s.rc.polled,
        let misses := min (s.rc.reported[d].misses + 1) 3
        Ends .replyLimitExpiry s fun t =>
          t.rc.pollEnded = true ∧ t.rc.polled = s.rc.polled
          ∧ (misses < 3 ∨ s.rc.reported[d].lost = true → t.rc.reported[d] = { s.rc.reported[d] with misses := misses }
              ∧ t.al = s.al ∧ t.cs = s.cs ∧ t.mc = s.mc ∧ t.gru = s.gru)
          ∧ (misses = 3 → s.rc.reported[d].lost = false →
              t.rc.reported[d] = { s.rc.reported[d] with misses := 3, lost := true, position := .UNKNOWN }
              ∧ (HasRoom s .DOOR_SILENT d.val → Standing t .DOOR_SILENT d.val))
          ∧ (∀ x : DoorIx, x ≠ d → t.rc.reported[x] = s.rc.reported[x])
          ∧ t.rc.filter = s.rc.filter ∧ t.rc.hpus = s.rc.hpus ∧ t.tables = s.tables ∧ t.cfs = s.cfs ∧ t.pins = s.pins)

/-- R141 to R143: a copy that a waiting check wants is counted received and sets its flag, the second ends the check
complete with RING_OPEN cleared; any other copy is discarded and counted; a timer that has run out ends it incomplete,
counts a loop miss, and the second in a row raises RING_OPEN; out of service an interval of 50 ticks starts a check
unless one waits. An expiry that is not due changes nothing (entry 6). The record of the frames sent is the model's
(entry 20). -/
def Obligations.LoopChecks : Prop :=
  ∀ (rp : RingPort) (seq : Byte) (s : State), Awake s →
    let hunt := modSide rp (fun x => { x with rx := .HUNT }) s
    let taken := modSide rp (fun x => { x with received := min (x.received + 1) 65535 }) hunt
    let wanted := ∃ x ∈ s.rc.loop, x.seq = seq ∧ copyAt x rp = false
    (¬wanted → exec (.loopCopy rp seq) s
      = .next (modSide rp (fun x => { x with discarded := min (x.discarded + 1) 65535 }) hunt))
    ∧ (∀ x ∈ s.rc.loop, x.seq = seq → copyAt x rp = false →
        (x.eastCopy = false → x.westCopy = false → exec (.loopCopy rp seq) s = .next { taken with
          rc := { taken.rc with loop := some { x with eastCopy := decide (rp = .WEST), westCopy := decide (rp = .EAST) } } })
        ∧ (x.eastCopy = true ∨ x.westCopy = true → AlarmLaw s → Ends (.loopCopy rp seq) s fun t =>
            t.rc = { taken.rc with loop := none, incomplete := 0 } ∧ Cleared t .RING_OPEN noSubject
            ∧ t.cs = s.cs ∧ t.ms = s.ms ∧ t.gru = s.gru ∧ t.mc = s.mc ∧ Aside s t))
    ∧ ((∀ x ∈ s.rc.loop, x.timer ≠ 0) → exec .loopTimerExpiry s = .next s)
    ∧ (∀ x ∈ s.rc.loop, x.timer = 0 → Ends .loopTimerExpiry s fun t =>
        t.rc = { s.rc with loop := none, incomplete := min (s.rc.incomplete + 1) 2,
                           loopMisses := min (s.rc.loopMisses + 1) 65535 }
        ∧ (s.rc.incomplete = 1 → HasRoom s .RING_OPEN noSubject → Standing t .RING_OPEN noSubject)
        ∧ (s.rc.incomplete ≠ 1 → t.al = s.al)
        ∧ t.cs = s.cs ∧ t.ms = s.ms ∧ t.gru = s.gru ∧ t.mc = s.mc ∧ Aside s t)
    ∧ (s.inService = true ∨ s.rc.interval < 50 → exec .loopIntervalExpiry s = .next s)
    ∧ (s.inService = false → 50 ≤ s.rc.interval →
        (s.rc.loop = none → exec .loopIntervalExpiry s = .next { s with
          rc := { s.rc with loop := some ⟨s.rc.txSeq, false, false, 10⟩, txSeq := s.rc.txSeq + 1, interval := 0 }
          pins := { s.pins with ringOut := [ringFrameBytes 0 0 6 s.rc.txSeq []] } })
        ∧ ((s.rc.loop).isSome = true → exec .loopIntervalExpiry s = .next { s with
          rc := { s.rc with interval := 0 }, pins := { s.pins with ringOut := [] } }))

/-! ### Movements (R13, R68 to R77, R79 to R82) -/

/-- R13, R46, R47, R55, R60, R68, R69, R71, R72, R74 to R77, R79, R82, R96, R97: a presentation of a door with a MOVING
entry: at the target the entry is gone and the travel time captured, except for an adopted door, one that stood there
before, or one that no report had shown since its start; its own moving state starts it; STOPPED after the start is
STALLED; the opposite limit after the start, and the opposite moving state after it or newly shown, is WRONG_WAY with
STOP queued; the opposite limit before the start, and any other position, leaves the entry. An entry of origin LOCAL
that is left is gone with STOP when the handle comes to IDLE (entry 48). A settled position clears UNSUPERVISED_MOTION,
and DOOR_FAULT but for the fault judged at it (entry 39): the latch returns to NONE exactly where the door's DOOR_FAULT
record stood ACTIVE_ACKED and is removed, and is kept otherwise (R12, R76, R160), as at any position that is not settled
unless a fault is judged. An entry that leaves the schedule takes TRAVEL_OVERTIME with it, and its draw where it was
MOVING; a MOVING or READY one leaves with an admission pass, a READY one with the test of the delay alarm flag. An
arrival and a release tell the run of the tag completed, a fault tells it faulted, and a TRACKING run with nothing left
completes at that. A WARNING or READY entry whose door is presented at its target is gone, with STOP where it warned,
and its run counts one completed. For a part in which no run waits and none is suspended where an entry is judged. That
an arrival from any other UNKNOWN is captured is the model's reading of R71 (entry 47). The DOOR_FAULT clauses leave a
place for an ADMISSION_DELAY of the removal's own pass. A REPORT of the polled door, its handle unchanged and its door
without a passage, has the effects of arrival, start, stall, wrong way and completion without movement whatever order
the blocks act in (entry 1). -/
def Obligations.MovementsJudged : Prop :=
  (∀ (d : DoorIx) (b : Before) (s : State), s.inService = true → NoRunHears s →
    ∀ e ∈ s.entry d, e.phase = .MOVING →
    let prev := b.position
    let now := s.position d
    let t := presentMS d b s
    let released := e.origin = .LOCAL ∧ s.handle d = .IDLE ∧ b.handle ≠ .IDLE
    let stalls := now = .STOPPED ∧ e.started = true
    (now = e.direction.target →
      t.entry d = none
      ∧ t.ms.doors[d] =
          { (if e.origin = .ADOPTED ∨ prev = now ∨ b.shown = false then s.ms.doors[d]
              else captured e.direction e.elapsed s.ms.doors[d])
            with latch := t.latch d }
      ∧ (t.latch d = s.latch d ∨ t.latch d = .NONE))
    ∧ (AlarmLaw s → ¬stalls → ¬wrongWay e prev now → t.latch d = restedLatch s d now)
    ∧ (¬released →
        (now = e.direction.moving → e.started = false →
          t = { s with cs := { s.cs with entries := s.cs.entries.set d (some { e with started := true, startWindow := 0 }) } })
        ∧ (now = e.direction.moving → e.started = true → t = s)
        ∧ (now = .UNKNOWN → t = s)
        ∧ (now = .STOPPED → e.started = false → t = s)
        ∧ (now = e.direction.opposite.moving → e.started = false → prev = now → t = s)
        ∧ (now = e.direction.opposite.target → e.started = false →
            t.cs = s.cs ∧ t.rc = s.rc ∧ t.gru = s.gru ∧ t.mc = s.mc ∧ Aside s t
            ∧ t.ms.doors[d] = { s.ms.doors[d] with latch := t.latch d }
            ∧ OnlyAlarms s t [(.DOOR_FAULT, d.val), (.UNSUPERVISED_MOTION, d.val)]))
    ∧ (released → now ≠ e.direction.target → ¬stalls → ¬wrongWay e prev now →
        t.entry d = none ∧ Pending t d .STOP ∧ t.ms.doors[d] = { s.ms.doors[d] with latch := t.latch d }
        ∧ (t.latch d = s.latch d ∨ t.latch d = .NONE))
    ∧ (stalls →
        t.entry d = none ∧ t.latch d = .STALLED ∧ (HasSpare s .DOOR_FAULT d.val → Standing t .DOOR_FAULT d.val))
    ∧ (wrongWay e prev now →
        t.entry d = none ∧ t.latch d = .WRONG_WAY ∧ Pending t d .STOP
        ∧ (now = e.direction.opposite.moving → HasSpare s .DOOR_FAULT d.val → Standing t .DOOR_FAULT d.val)
        ∧ (otherCount s.al.records < 62 → Standing t .DOOR_FAULT d.val))
    ∧ (now = e.direction.target ∨ (released ∧ ¬stalls ∧ ¬wrongWay e prev now) →
        Told s t (completedBy e.tag) ∧ Passed s t (s.hpuOf d) (schedWithout s d))
    ∧ (stalls ∨ wrongWay e prev now → Told s t (faultedBy e.tag) ∧ Passed s t (s.hpuOf d) (schedWithout s d))
    ∧ (AlarmLaw s → t.entry d = none → Cleared t .TRAVEL_OVERTIME d.val)
    ∧ (AlarmLaw s → now = .CLOSED ∨ now = .OPEN → Cleared t .UNSUPERVISED_MOTION d.val
        ∧ (¬wrongWay e prev now → Cleared t .DOOR_FAULT d.val))
    ∧ (∀ x : DoorIx, x ≠ d → claimOf t x = claimOf s x ∧ t.ms.doors[x] = s.ms.doors[x]))
  ∧ (∀ (d : DoorIx) (b : Before) (s : State), AlarmLaw s →
       s.position d = .CLOSED ∨ s.position d = .OPEN → phaseOf s d ≠ some .MOVING →
       let t := presentMS d b s
       (∀ x : DoorIx, t.ms.doors[x] = { s.ms.doors[x] with latch := if x = d then restedLatch s d (s.position d) else s.latch x })
       ∧ Cleared t .DOOR_FAULT d.val ∧ Cleared t .UNSUPERVISED_MOTION d.val ∧ t.cs = s.cs ∧ t.rc = s.rc ∧ t.gru = s.gru
       ∧ t.mc = s.mc ∧ OnlyAlarms s t [(.DOOR_FAULT, d.val), (.UNSUPERVISED_MOTION, d.val)] ∧ Aside s t)
  ∧ (∀ (d : DoorIx) (b : Before) (s : State),
       s.position d ≠ .CLOSED → s.position d ≠ .OPEN → phaseOf s d ≠ some .MOVING →
       (presentMS d b s).ms = s.ms)
  ∧ (∀ (d : DoorIx) (s : State), ∀ e ∈ s.entry d,
       let t := presentCS d s
       (e.phase = .MOVING ∨ s.position d ≠ e.direction.target → t = s)
       ∧ (e.phase ≠ .MOVING → s.position d = e.direction.target →
           t.entry d = none
           ∧ (e.phase = .WARNING → Pending t d .STOP ∧ t.cs = schedWithout s d)
           ∧ (e.phase = .READY → PassedAndTested s t (s.hpuOf d) (schedWithout s d))
           ∧ (e.phase = .READY → ∀ q ∈ t.rc.orders, q.door = d → q ∈ s.rc.orders)
           ∧ Told s t (completedBy e.tag)
           ∧ (∀ x : DoorIx, x ≠ d → claimOf t x = claimOf s x) ∧ t.cs.nextArrival = s.cs.nextArrival
           ∧ t.ms = s.ms ∧ OnlyOrders s t ∧ Aside s t))
  ∧ (∀ (c : RemovalCause) (d : DoorIx) (s : State), AlarmLaw s → (s.entry d).isSome = true →
       (removeEntry c d s).entry d = none ∧ Cleared (removeEntry c d s) .TRAVEL_OVERTIME d.val)
  ∧ (∀ (c : RemovalCause) (d : DoorIx) (s : State), ∀ e ∈ s.entry d,
       let t := removeEntry c d s
       (e.phase = .WARNING → t.cs = schedWithout s d)
       ∧ (e.phase = .READY → PassedAndTested s t (s.hpuOf d) (schedWithout s d))
       ∧ (e.phase = .MOVING → Passed s t (s.hpuOf d) (schedWithout s d)))
  ∧ (∀ (rp : RingPort) (src seq : Byte) (r : ReportBits) (d : DoorIx) (s : State), ReportTaken s src seq r d →
       NoRunHears s → ∀ e ∈ s.entry d, Ends (.report rp src seq r) s fun t =>
         let now := reportPosition r
         let stalls := now = .STOPPED ∧ e.started = true
         (e.phase = .MOVING → stalls ∨ wrongWay e (s.position d) now →
           Told s t (faultedBy e.tag) ∧ Passed s t (s.hpuOf d) (schedWithout s d))
         ∧ (e.phase = .MOVING → now = e.direction.target →
           t.entry d = none ∧ Told s t (completedBy e.tag) ∧ Passed s t (s.hpuOf d) (schedWithout s d)
           ∧ t.ms.doors[d] = { (if e.origin = .ADOPTED ∨ s.position d = now ∨ s.rc.reported[d].shown = false then s.ms.doors[d]
               else captured e.direction e.elapsed s.ms.doors[d]) with latch := t.latch d })
         ∧ (e.phase = .MOVING → now = e.direction.moving → e.started = false →
           t.entry d = some { e with started := true, startWindow := 0 } ∧ t.ms = s.ms)
         ∧ (e.phase = .MOVING → now = .STOPPED → e.started = true → t.entry d = none ∧ t.latch d = .STALLED)
         ∧ (e.phase = .MOVING → wrongWay e (s.position d) now →
           t.entry d = none ∧ t.latch d = .WRONG_WAY ∧ Pending t d .STOP)
         ∧ (e.phase ≠ .MOVING → now = e.direction.target →
           t.entry d = none ∧ Told s t (completedBy e.tag)
           ∧ (e.phase = .WARNING → Pending t d .STOP ∧ t.cs = schedWithout s d)
           ∧ (e.phase = .READY → PassedAndTested s t (s.hpuOf d) (schedWithout s d)))
         ∧ (AlarmLaw s → e.phase ≠ .MOVING ∨ ((now ≠ .STOPPED ∨ e.started = false) ∧ ¬wrongWay e (s.position d) now) →
           t.latch d = restedLatch s d now)
         ∧ t.position d = now ∧ (∀ x : DoorIx, x ≠ d → claimOf t x = claimOf s x ∧ t.ms.doors[x] = s.ms.doors[x]))

/-- R80 to R82: the door is given a MOVING entry of origin ADOPTED and class 1 under the next arrival number with its
draw committed; a STANDARD door opening in EMERGENCY is turned to a CLOSE of class 3 with MOVE queued; a latched one
raises UNSUPERVISED_MOTION and gets no entry. A REPORT of the polled door, its handle unchanged and its door without a
passage, has these effects whatever order the blocks act in (entry 1). -/
def Obligations.DoorsFoundMoving : Prop :=
  (∀ (d : DoorIx) (dir : Direction) (b : Before) (s : State), s.entry d = none →
       s.position d = dir.moving → b.position ≠ dir.moving → s.cs.nextArrival ≠ arrivalTop →
       let t := presentMS d b s
       let turned := dir = .OPEN ∧ s.mc.mode = .EMERGENCY ∧ s.isEscape d = false
       (s.latch d ≠ .NONE →
         (HasRoom s .UNSUPERVISED_MOTION d.val → Standing t .UNSUPERVISED_MOTION d.val)
         ∧ t.cs = s.cs ∧ t.rc = s.rc ∧ t.ms = s.ms ∧ t.mc = s.mc ∧ t.gru = s.gru ∧ Aside s t)
       ∧ (s.latch d = .NONE →
           phaseOf t d = some .MOVING
           ∧ (turned → claimOf t d = some (.CLOSE, 3, .A, .MODE, none, s.cs.nextArrival) ∧ Pending t d (.MOVE .CLOSE true))
           ∧ (¬turned → claimOf t d = some (dir, 1, .A, .ADOPTED, none, s.cs.nextArrival)
               ∧ (t.entry d).map (fun e => (e.started, e.elapsed, e.deadline)) = some (true, 0, doorDeadline s d dir)
               ∧ t.cs.flow[s.hpuOf d].committed = s.cs.flow[s.hpuOf d].committed + s.draw d
               ∧ t.rc = s.rc ∧ t.al = s.al)
           ∧ t.cs.nextArrival = s.cs.nextArrival + 1 ∧ t.mc.oas[d] = ⟨0, false⟩
           ∧ (∀ x : DoorIx, x ≠ d → claimOf t x = claimOf s x) ∧ t.ms = s.ms ∧ t.gru = s.gru))
  ∧ (∀ (rp : RingPort) (src seq : Byte) (r : ReportBits) (d : DoorIx) (dir : Direction) (s : State),
       ReportTaken s src seq r d → NoRunHears s → s.entry d = none → reportPosition r = dir.moving →
       s.position d ≠ dir.moving → s.cs.nextArrival ≠ arrivalTop →
       let turned := dir = .OPEN ∧ s.mc.mode = .EMERGENCY ∧ s.isEscape d = false
       Ends (.report rp src seq r) s fun t =>
         (s.latch d ≠ .NONE → t.entry d = none
           ∧ (HasRoom s .UNSUPERVISED_MOTION d.val → Standing t .UNSUPERVISED_MOTION d.val))
         ∧ (s.latch d = .NONE → phaseOf t d = some .MOVING
           ∧ (turned → claimOf t d = some (.CLOSE, 3, .A, .MODE, none, s.cs.nextArrival) ∧ Pending t d (.MOVE .CLOSE true))
           ∧ (¬turned → claimOf t d = some (dir, 1, .A, .ADOPTED, none, s.cs.nextArrival)))
         ∧ t.ms = s.ms ∧ ∀ x : DoorIx, x ≠ d → claimOf t x = claimOf s x)

/-! ### Time (R43, R44, R60, R65, R70, R72, R73, R95, R120, R122 to R124, R134, R137, R141, R149) -/

/-- R43, R44, R60, R65, R95, R120, R122 to R124, R134, R137, R141, R149: one supervision tick counts every timer of
every block once, clears ADMISSION_DELAY where no READY entry is late any more, and changes nothing else but what that
clear brings with it, the frames of its notices and LIST_FULL; it takes no expiry and raises nothing, the expiries
being commands of their own (entry 6). One second counts the seconds counter, whose value after its greatest is left
open (entry 5), and the accumulator of every present door that is not CLOSED in service out of LOCAL. -/
def Obligations.TimeCounts : Prop :=
  (∀ s : State, Awake s → Ends .supervisionTick s fun t =>
     let relieved := fun (h : HpuIx) => s.cs.flow[h].delayAlarm = true ∧ admissionDelayed t h = false
     (∀ d : DoorIx, t.entry d = (s.entry d).map entryTicked)
     ∧ (∀ d : DoorIx, t.passage d = (s.passage d).map fun x =>
         if x.phase = .RECLOSING then x else { x with held := min (x.held + 1) 65535 })
     ∧ (∀ d : DoorIx,
         (CountsAtSea s d → s.entry d = none → s.passage d = none →
           t.mc.oas[d].ticks = min (s.mc.oas[d].ticks + 1) 100
           ∧ (t.mc.oas[d].due = true ↔ s.mc.oas[d].due = true ∨ s.mc.oas[d].ticks = 99))
         ∧ (¬CountsAtSea s d ∨ s.entry d ≠ none ∨ s.passage d ≠ none → t.mc.oas[d] = ⟨0, false⟩))
     ∧ t.mc = { s.mc with passages := t.mc.passages, oas := t.mc.oas }
     ∧ (∀ i : SlotIx, t.gru.slots[i] = (s.gru.slots[i]).map fun r =>
         if r.state = .WAITING then { r with waitAge := min (r.waitAge + 1) 2550 } else r)
     ∧ t.gru = { s.gru with slots := t.gru.slots }
     ∧ (∀ q : PortIx, t.sp[q] = { s.sp[q] with
         queue := t.sp[q].queue
         hbElapsed :=
           if s.inService = true ∧ (s.row q).hbRequired = 1 ∧ s.sp[q].hbElapsed < s.tables.system.hbMax
           then s.sp[q].hbElapsed + 1 else s.sp[q].hbElapsed })
     ∧ (∀ h : HpuIx, t.rc.hpus[h] =
         if s.hpuPresent h then { s.rc.hpus[h] with age := min (s.rc.hpus[h].age + 1) 65535 } else s.rc.hpus[h])
     ∧ t.rc = { s.rc with
         hpus := t.rc.hpus
         replyLimit := s.rc.replyLimit - 1
         loop := s.rc.loop.map fun x => { x with timer := x.timer - 1 }
         interval := if s.inService then s.rc.interval else min (s.rc.interval + 1) 50 }
     ∧ (∀ q : PortIx, t.ib.pacing[q].elapsed =
         if s.inService = true ∧ (s.row q).summaryMask ≠ 0 then min (s.ib.pacing[q].elapsed + 1) 20
         else s.ib.pacing[q].elapsed)
     ∧ t.ib = { s.ib with pacing := t.ib.pacing }
     ∧ (∀ h : HpuIx, t.cs.flow[h] = { s.cs.flow[h] with delayAlarm := s.cs.flow[h].delayAlarm && admissionDelayed t h })
     ∧ (∀ h : HpuIx, AlarmLaw s → relieved h → Cleared t .ADMISSION_DELAY h.val)
     ∧ ((∀ h : HpuIx, ¬relieved h) → t.al = s.al ∧ ∀ q : PortIx, t.sp[q].queue = s.sp[q].queue
         ∧ t.ib.pacing[q].pending = s.ib.pacing[q].pending)
     ∧ (∀ q ∈ t.al.records, q ∈ s.al.records ∨ (q.state = .CLEARED_UNACK ∧ (q.kind = .LIST_FULL ∨
         ∃ h : HpuIx, relieved h ∧ q.pair = (.ADMISSION_DELAY, h.val))))
     ∧ (∀ r ∈ s.al.records, r ∈ t.al.records ∨ r.kind = .LIST_FULL
         ∨ ∃ h : HpuIx, relieved h ∧ r.pair = (.ADMISSION_DELAY, h.val))
     ∧ t.al.lost = s.al.lost
     ∧ t.cs.nextArrival = s.cs.nextArrival
     ∧ t = { s with cs := t.cs, gru := t.gru, mc := t.mc, sp := t.sp, rc := t.rc, ib := t.ib, al := t.al })
  ∧ (∀ s : State, Awake s → Ends .secondsCounterIncrement s fun t =>
       (s.seconds ≠ 0xFFFFFFFF#32 → t.seconds = s.seconds + 1)
       ∧ (∀ d : DoorIx, (CountsAtSea s d →
             t.mc.sea[d] = { s.mc.sea[d] with openAtSea := min (s.mc.sea[d].openAtSea + 1) 65535 })
           ∧ (¬CountsAtSea s d → t.mc.sea[d] = s.mc.sea[d]))
       ∧ t = { s with seconds := t.seconds, mc := { s.mc with sea := t.mc.sea } })

/-- R43, R44, R55: the entry whose warn remaining is 0 becomes READY at ready age 0, and the admission pass of its HPU
is taken, which may admit it with its MOVE queued; claims stand; an expiry that is not due changes nothing (entry 6). -/
def Obligations.PreWarningExpires : Prop :=
  ∀ (d : DoorIx) (s : State), Awake s →
    ((∀ e ∈ s.entry d, e.phase ≠ .WARNING ∨ e.warnRemaining ≠ 0) → exec (.preWarningExpiry d) s = .next s)
    ∧ (∀ e ∈ s.entry d, e.phase = .WARNING → e.warnRemaining = 0 → Ends (.preWarningExpiry d) s fun t =>
        Passed s t (s.hpuOf d) { s.cs with entries := s.cs.entries.set d (some { e with phase := .READY, readyAge := 0 }) }
        ∧ (∀ x : DoorIx, claimOf t x = claimOf s x)
        ∧ (phaseOf t d = some .READY ∨ phaseOf t d = some .MOVING)
        ∧ (t.entry d).map Entry.readyAge = some 0
        ∧ (phaseOf t d = some .MOVING → Pending t d (.MOVE e.direction (dispatchWarn e)))
        ∧ t.cs.nextArrival = s.cs.nextArrival ∧ t.ms = s.ms ∧ t.gru = s.gru ∧ t.mc = s.mc ∧ OnlyOrders s t ∧ Aside s t)

/-- R47, R55, R70, R73, R74, R96, R97: a first start window repeats the MOVE with its warn flag and counts the repeat; a
second with the position known is NOT_STARTED, with it UNKNOWN opens again; the hard limit is OVERTIME; a fault removes
the entry, releases its draw with an admission pass, tells its run faulted, which completes where nothing is left, sets
the latch and raises DOOR_FAULT. An expiry that is not due changes nothing (entry 6). The fault clauses are for a part
in which no run waits and none is suspended. That the repeat's MOVE carries the warn flag kept from the dispatch or
reversal is the model's reading (entry 24). DOOR_FAULT has a place beside an ADMISSION_DELAY of the removal's own pass.
-/
def Obligations.MovementsTimeOut : Prop :=
  ∀ (d : DoorIx) (s : State), Awake s → SettledLaw s →
    ((∀ e ∈ s.entry d, e.phase ≠ .MOVING ∨ e.started = true ∨ e.startWindow ≠ 0) →
      exec (.startWindowExpiry d) s = .next s)
    ∧ ((∀ e ∈ s.entry d, e.phase ≠ .MOVING ∨ e.elapsed < e.hardLimit) → exec (.hardLimitExpiry d) s = .next s)
    ∧ (∀ e ∈ s.entry d, e.phase = .MOVING → e.started = false → e.startWindow = 0 →
        (e.repeatUsed = false → Ends (.startWindowExpiry d) s fun t =>
          t.entry d = some { e with repeatUsed := true, startWindow := 20 }
          ∧ (∀ x : DoorIx, x ≠ d → t.entry x = s.entry x) ∧ t.cs.flow = s.cs.flow
          ∧ Pending t d (.MOVE e.direction e.moveWarn)
          ∧ t.ms = { s.ms with moveRepeats := min (s.ms.moveRepeats + 1) 65535 }
          ∧ t.gru = s.gru ∧ t.mc = s.mc ∧ t.al = s.al ∧ OnlyOrders s t ∧ Aside s t)
        ∧ (e.repeatUsed = true → s.position d = .UNKNOWN → exec (.startWindowExpiry d) s = .next
            { s with cs := { s.cs with entries := s.cs.entries.set d (some { e with startWindow := 20 }) } })
        ∧ (e.repeatUsed = true → s.position d ≠ .UNKNOWN → NoRunHears s → Ends (.startWindowExpiry d) s fun t =>
            Faulted s t d .NOT_STARTED))
    ∧ (∀ e ∈ s.entry d, e.phase = .MOVING → e.hardLimit ≤ e.elapsed → NoRunHears s →
        Ends (.hardLimitExpiry d) s fun t => Faulted s t d .OVERTIME)

/-- R60, R72, R120, R123: the deadline of a MOVING entry raises TRAVEL_OVERTIME once and the movement goes on; a READY
entry past ten times the admission wait limit raises ADMISSION_DELAY once for its HPU; a passage held past ten times
its limit raises PASSAGE_OVERDUE once; an open-at-sea timer that has reached its end raises DOOR_OPEN_AT_SEA; nothing
else changes. An expiry that is not due changes nothing (entry 6). -/
def Obligations.LateAlarms : Prop :=
  (∀ (d : DoorIx) (s : State), Awake s →
     ((∀ e ∈ s.entry d, e.phase ≠ .MOVING ∨ e.elapsed < e.deadline ∨ e.overtimeRaised = true) →
       exec (.deadlineExpiry d) s = .next s)
     ∧ (∀ e ∈ s.entry d, e.phase = .MOVING → e.deadline ≤ e.elapsed → e.overtimeRaised = false →
         Ends (.deadlineExpiry d) s fun t =>
           (HasRoom s .TRAVEL_OVERTIME d.val → Standing t .TRAVEL_OVERTIME d.val)
           ∧ t.cs = { s.cs with entries := s.cs.entries.set d (some { e with overtimeRaised := true }) }
           ∧ t.ms = s.ms ∧ t.gru = s.gru ∧ t.mc = s.mc ∧ t.rc = s.rc ∧ Aside s t))
  ∧ (∀ (d : DoorIx) (s : State), Awake s →
       let h := s.hpuOf d
       let late := ∃ e ∈ s.entry d, e.phase = .READY ∧ 10 * s.tables.system.waitLimit < e.readyAge
       (¬late ∨ s.cs.flow[h].delayAlarm = true → exec (.readyAgeExpiry d) s = .next s)
       ∧ (late → s.cs.flow[h].delayAlarm = false → Ends (.readyAgeExpiry d) s fun t =>
           t.cs = { s.cs with flow := upd s.cs.flow h fun f => { f with delayAlarm := true } }
           ∧ (HasRoom s .ADMISSION_DELAY h.val → Standing t .ADMISSION_DELAY h.val)
           ∧ t.ms = s.ms ∧ t.gru = s.gru ∧ t.mc = s.mc ∧ t.rc = s.rc ∧ Aside s t))
  ∧ (∀ (d : DoorIx) (s : State), Awake s →
       ((∀ x ∈ s.passage d, x.held ≤ 10 * s.tables.doors[d].passageLimit ∨ x.overdue = true) →
         exec (.heldTimeExpiry d) s = .next s)
       ∧ (∀ x ∈ s.passage d, 10 * s.tables.doors[d].passageLimit < x.held → x.overdue = false →
           Ends (.heldTimeExpiry d) s fun t =>
             t.mc = { s.mc with passages := s.mc.passages.set d (some { x with overdue := true }) }
             ∧ (HasRoom s .PASSAGE_OVERDUE d.val → Standing t .PASSAGE_OVERDUE d.val)
             ∧ t.cs = s.cs ∧ t.ms = s.ms ∧ t.gru = s.gru ∧ t.rc = s.rc ∧ Aside s t)
       ∧ (s.mc.oas[d].due = false → exec (.openAtSeaTimerExpiry d) s = .next s)
       ∧ (s.mc.oas[d].due = true → Ends (.openAtSeaTimerExpiry d) s fun t =>
           t.mc = { s.mc with oas := s.mc.oas.set d ⟨s.mc.oas[d].ticks, false⟩ }
           ∧ (HasRoom s .DOOR_OPEN_AT_SEA d.val → Standing t .DOOR_OPEN_AT_SEA d.val)
           ∧ t.cs = s.cs ∧ t.ms = s.ms ∧ t.gru = s.gru ∧ t.rc = s.rc ∧ Aside s t))

/-- R146 to R149, R192: a summary is due in service at a port with a mask at an elapsed of 5 or more with pending set
(entry 43) or of 20; its frame holds the indication of each compartment in the mask and NOT_SHOWN for the others, the
counts of present doors by indication, the mode and the unacknowledged count; its elapsed begins again and, where none
was dropped for it, its pending flag is clear. An expiry that is not due changes nothing (entry 6). That the elapsed
begins again also where the summary itself is dropped is the model's choice (entry 67). A recomputation gives its
compartments the indications of the doors that bound them and the ALL CLOSED line its level; in service a port that
watches a compartment whose indication changed is sent its summary at an elapsed of 5 or more and else has its change
pending, once for one recomputation (entry 63); every other port stands, and out of service all do. A presentation that
changes a door's position recomputes its two compartments, one that repeats it none, and a REPORT of the polled door that
shows another position has these effects on the pacing of every port with room in its queue. -/
def Obligations.SummaryExpires : Prop :=
  (∀ (p : PortIx) (s : State), Awake s →
    let x := s.ib.pacing[p]
    let due := s.inService = true ∧ (s.row p).summaryMask ≠ 0 ∧ ((5 ≤ x.elapsed ∧ x.pending = true) ∨ 20 ≤ x.elapsed)
    (¬due → exec (.summaryElapsedExpiry p) s = .next s)
    ∧ (due → Ends (.summaryElapsedExpiry p) s fun t =>
        Answered t p (summaryOf s p) ∧ t.ib.pacing[p].elapsed = 0
        ∧ (s.sp[p].queue.length < 64 → t.ib.pacing[p].pending = false)
        ∧ (∀ q : PortIx, q ≠ p → t.sp[q] = s.sp[q] ∧ t.ib.pacing[q] = s.ib.pacing[q])
        ∧ OnlyQueues s t ∧ OnlyPacing s t ∧ t = { s with sp := t.sp, ib := t.ib, freeCount := t.freeCount }))
  ∧ (∀ (l : List CompIx) (s : State),
       let t := recomputeComps l s
       (∀ c : CompIx, t.ib.comps[c] = if c ∈ l then compIndication s c else s.ib.comps[c])
       ∧ t.ib = { s.ib with comps := t.ib.comps, allClosed := everyDoorClosed s, pacing := t.ib.pacing }
       ∧ (s.inService = false → t.sp = s.sp ∧ t.ib.pacing = s.ib.pacing)
       ∧ (s.inService = true → ∀ p : PortIx,
           let x := s.ib.pacing[p]
           let changed := Watched s p (l.map Fin.val) (compIndication s)
           (¬changed → t.sp[p] = s.sp[p] ∧ t.ib.pacing[p] = x)
           ∧ (changed → x.elapsed < 5 → t.sp[p] = s.sp[p] ∧ t.ib.pacing[p] = ⟨x.elapsed, true⟩)
           ∧ (changed → 5 ≤ x.elapsed → Answered t p (summaryOf t p) ∧ t.ib.pacing[p].elapsed = 0
               ∧ (s.sp[p].queue.length < 64 → t.sp[p].queue = s.sp[p].queue ++ [summaryOf t p]
                   ∧ t.ib.pacing[p].pending = false)))
       ∧ OnlyQueues s t ∧ t = { s with sp := t.sp, ib := t.ib, freeCount := t.freeCount })
  ∧ (∀ (d : DoorIx) (prev : Position) (s : State),
       (s.position d = prev → presentIB d prev s = s)
       ∧ (s.position d ≠ prev → ∃ l : List CompIx,
           (∀ c : CompIx, c ∈ l ↔ c.val = s.tables.doors[d].compA ∨ c.val = s.tables.doors[d].compB)
           ∧ presentIB d prev s = recomputeComps l s))
  ∧ (∀ (rp : RingPort) (src seq : Byte) (r : ReportBits) (d : DoorIx) (s : State), ReportTaken s src seq r d →
       NoRunHears s → reportPosition r ≠ s.position d → Ends (.report rp src seq r) s fun t =>
         ∀ p : PortIx, s.sp[p].queue.length ≤ 40 →
           let x := s.ib.pacing[p]
           let changed := Watched s p [s.tables.doors[d].compA, s.tables.doors[d].compB] (compIndication t)
           (¬changed → summariesAt t p = summariesAt s p ∧ t.ib.pacing[p] = x)
           ∧ (changed → x.elapsed < 5 → summariesAt t p = summariesAt s p ∧ t.ib.pacing[p] = ⟨x.elapsed, true⟩)
           ∧ (changed → 5 ≤ x.elapsed → t.ib.pacing[p] = ⟨0, false⟩
               ∧ ∃ f : Frame, f.isSummary = true ∧ summariesAt t p = summariesAt s p ++ [f]))

/-! ### Walking runs (R87, R93 to R97) -/

/-- R87, R93, R94, R97: a WALKING run whose precondition is not met waits; one that is met, or has none, submits its
demand, counts the outcome and advances; one bypassed records the event with the door as subject, submits and advances;
ALL passes over a door that is not present, one a step (entry 14). Past its last entry, whichever it is, the run stands
TRACKING while entries carry its tag and else leaves its slot with a RUN_REPORT to every port of its destination: the
port of its origin, for a system run every BRIDGE and SAFETY row. A step of a slot that holds no WALKING run changes
nothing (entry 6). For an empty suspension stack, where no run resumes. That PRECONDITION_BYPASSED is recorded before
the demand is the model's choice (entry 68). -/
def Obligations.RunsWalk : Prop :=
  ∀ (i : SlotIx) (s : State), Awake s → SettledLaw s → s.gru.stack = [] →
    (slotIn s i .WALKING = false → exec (.walkStep i) s = .next s)
    ∧ ∀ r ∈ s.gru.slots[i], r.state = .WALKING → ∀ e ∈ listEntry s r,
        let past := fun (o : DemandOutcome) => { Run.takeOutcome o r with
          cursor := r.cursor + 1, state := if r.cursor + 1 < listLength s r then .WALKING else .TRACKING }
        let goesOn := fun (x : Run) (u t : State) =>
          (x.state = .WALKING ∨ x.outstanding ≠ 0 → t.gru.slots[i] = some x)
          ∧ (x.state = .TRACKING → x.outstanding = 0 →
              SlotIdle t i ∧ i ∉ t.gru.slotting ∧ ReportSent s t .COMPLETE x)
          ∧ (∀ y : DoorIx, claimOf t y = claimOf u y) ∧ t.ms = s.ms ∧ t.mc.mode = s.mc.mode ∧ OnlyOrders s t ∧ Aside s t
        (PreWaits s r e →
          exec (.walkStep i) s = .next
            { s with gru := { s.gru with slots := s.gru.slots.set i (some { r with state := .WAITING, waitAge := 0 }) } })
        ∧ ∀ d : DoorIx, e.door = d.val →
            (r.group = .ALL → s.isPresent d = false →
              let x := past .NOT_CONFIGURED
              (x.state = .WALKING ∨ x.outstanding ≠ 0 → exec (.walkStep i) s = .next { s with gru := { s.gru with
                slots := s.gru.slots.set i (some x) } })
              ∧ Ends (.walkStep i) s fun t => goesOn x s t ∧ t.cs = s.cs ∧ t.al = s.al ∧ t.rc = s.rc)
            ∧ ((r.group = .ALL → s.isPresent d = true) →
                (∀ x ∈ s.entry d, x.tag.map RunTag.number ≠ some r.number) →
                let x := past (decideDemand (r.demand d) s).1
                let u := (decideDemand (r.demand d) s).2
                (PreMet s r e → Ends (.walkStep i) s (goesOn x u))
                ∧ (PreBypassed s r e → Ends (.walkStep i) s fun t => goesOn x u t
                    ∧ (HasRoom s .PRECONDITION_BYPASSED d.val →
                        ∃ y ∈ t.al.records, y.pair = (.PRECONDITION_BYPASSED, d.val))))

/-- R94, R95: a wait ends at the first presentation of the precondition door at the target, with the listed door's
demand submitted and counted and the run walking on; at UNKNOWN, at a fault latched on the door, and at a wait age of
ten times the group's wait limit it is bypassed: the event PRECONDITION_BYPASSED is recorded with the listed door, and
the demand follows in the same way. Any other position, another door, and a shorter wait (entry 6) leave it. For an
empty suspension stack, where no run resumes, and for one run that waits on the door (entry 49 orders several). A REPORT
that shows the precondition door at the target, or makes it UNKNOWN, ends the wait so, whatever order the blocks act in
(entry 1). That the event is recorded before the demand is the model's choice (entry 68). -/
def Obligations.WaitAgeExpires : Prop :=
  (∀ (i : SlotIx) (g : GroupIx) (d : DoorIx) (s : State), Awake s → SettledLaw s →
    ((∀ r ∈ s.gru.slots[i], r.state ≠ .WAITING ∨ r.group = .ALL
        ∨ (r.group = .stored g ∧ r.waitAge < 10 * s.tables.groups[g].waitLimit)) → exec (.waitAgeExpiry i) s = .next s)
    ∧ (s.gru.stack = [] → ∀ r ∈ s.gru.slots[i], r.state = .WAITING → r.group = .stored g →
        10 * s.tables.groups[g].waitLimit ≤ r.waitAge → (listEntry s r).map GroupEntry.door = some d.val →
        r.cursor + 1 < listLength s r → (∀ x ∈ s.entry d, x.tag.map RunTag.number ≠ some r.number) →
        Ends (.waitAgeExpiry i) s fun t =>
          t.gru.slots[i] = some { Run.takeOutcome (decideDemand (r.demand d) s).1 r with
            cursor := r.cursor + 1, state := .WALKING }
          ∧ (HasRoom s .PRECONDITION_BYPASSED d.val → ∃ q ∈ t.al.records, q.pair = (.PRECONDITION_BYPASSED, d.val))
          ∧ (∀ x : DoorIx, claimOf t x = claimOf (decideDemand (r.demand d) s).2 x) ∧ t.ms = s.ms ∧ OnlyOrders s t
          ∧ Aside s t))
  ∧ (∀ (i : SlotIx) (p d : DoorIx) (s : State), ∀ r ∈ s.gru.slots[i], r.state = .WAITING →
       listEntry s r = some ⟨d.val, p.val⟩ → r.cursor + 1 < listLength s r →
       (∀ j : SlotIx, j ≠ i → slotIn s j .WAITING = false) →
       (∀ x ∈ s.entry d, x.tag.map RunTag.number ≠ some r.number) →
       (∀ j : SlotIx, j ≠ i → ∀ x ∈ s.gru.slots[j], x.number ≠ r.number) →
       let u := (decideDemand (r.demand d) s).2
       let goesOn := fun (t : State) =>
         t.gru.slots[i] = some { Run.takeOutcome (decideDemand (r.demand d) s).1 r with
           cursor := r.cursor + 1, state := .WALKING }
         ∧ (∀ x : DoorIx, claimOf t x = claimOf u x) ∧ t.ms = s.ms ∧ OnlyOrders s t ∧ Aside s t
       let bypassed := fun (t : State) => goesOn t
         ∧ (HasRoom s .PRECONDITION_BYPASSED d.val → ∃ q ∈ t.al.records, q.pair = (.PRECONDITION_BYPASSED, d.val))
       (s.position p = r.direction.target → goesOn (pokeRuns p s) ∧ (pokeRuns p s).al = u.al)
       ∧ (s.position p = .UNKNOWN → bypassed (pokeRuns p s))
       ∧ (s.position p ≠ r.direction.target → s.position p ≠ .UNKNOWN → pokeRuns p s = s)
       ∧ bypassed (bypassWaits p s)
       ∧ ∀ x : DoorIx, x ≠ p → pokeRuns x s = s ∧ bypassWaits x s = s)
  ∧ (∀ (rp : RingPort) (src seq : Byte) (b : ReportBits) (i : SlotIx) (p d : DoorIx) (s : State),
       ReportTaken s src seq b p → p ≠ d → s.entry p = none → s.gru.stack = [] → ∀ r ∈ s.gru.slots[i], r.state = .WAITING →
       listEntry s r = some ⟨d.val, p.val⟩ → r.cursor + 1 < listLength s r →
       (∀ j : SlotIx, j ≠ i → slotIn s j .WAITING = false) →
       (∀ x ∈ s.entry d, x.tag.map RunTag.number ≠ some r.number) →
       (∀ j : SlotIx, j ≠ i → ∀ x ∈ s.gru.slots[j], x.number ≠ r.number) →
       reportPosition b = r.direction.target ∨ reportPosition b = .UNKNOWN →
       Ends (.report rp src seq b) s fun t =>
         t.gru.slots[i] = some { Run.takeOutcome (decideDemand (r.demand d) s).1 r with
           cursor := r.cursor + 1, state := .WALKING }
         ∧ (∀ x : DoorIx, claimOf t x = claimOf (decideDemand (r.demand d) s).2 x)
         ∧ (reportPosition b = .UNKNOWN → HasSpare s .PRECONDITION_BYPASSED d.val →
             ∃ q ∈ t.al.records, q.pair = (.PRECONDITION_BYPASSED, d.val)))
end

