-- ==== Sys2Proof/Laws/State.lean ====
section
/-!
SUPPORT. What each named update of the state writes and what it leaves: one lemma for each field of each update, true by
unfolding the update, so that no later proof unfolds one. Then the readings of one record of a table after an update.
-/
namespace Sys2Proof.Machine

set_option Elab.async false

/-! ### State.modPort -/
section
variable (s : State) (p : PortIx) (f : StationPort → StationPort)

@[simp] theorem State.modPort_tables : (s.modPort p f).tables = s.tables := rfl
@[simp] theorem State.modPort_cfs : (s.modPort p f).cfs = s.cfs := rfl
@[simp] theorem State.modPort_sp : (s.modPort p f).sp = upd s.sp p f := rfl
@[simp] theorem State.modPort_cs : (s.modPort p f).cs = s.cs := rfl
@[simp] theorem State.modPort_ms : (s.modPort p f).ms = s.ms := rfl
@[simp] theorem State.modPort_gru : (s.modPort p f).gru = s.gru := rfl
@[simp] theorem State.modPort_mc : (s.modPort p f).mc = s.mc := rfl
@[simp] theorem State.modPort_rc : (s.modPort p f).rc = s.rc := rfl
@[simp] theorem State.modPort_ib : (s.modPort p f).ib = s.ib := rfl
@[simp] theorem State.modPort_al : (s.modPort p f).al = s.al := rfl
@[simp] theorem State.modPort_pins : (s.modPort p f).pins = s.pins := rfl
@[simp] theorem State.modPort_seconds : (s.modPort p f).seconds = s.seconds := rfl
@[simp] theorem State.modPort_freeCount : (s.modPort p f).freeCount = s.freeCount := rfl
@[simp] theorem State.modPort_pending : (s.modPort p f).pending = s.pending := rfl

end

/-! ### State.modSup -/
section
variable (s : State) (d : DoorIx) (f : Supervision → Supervision)

@[simp] theorem State.modSup_tables : (s.modSup d f).tables = s.tables := rfl
@[simp] theorem State.modSup_cfs : (s.modSup d f).cfs = s.cfs := rfl
@[simp] theorem State.modSup_sp : (s.modSup d f).sp = s.sp := rfl
@[simp] theorem State.modSup_cs : (s.modSup d f).cs = s.cs := rfl
@[simp] theorem State.modSup_ms_doors : (s.modSup d f).ms.doors = upd s.ms.doors d f := rfl
@[simp] theorem State.modSup_ms_moveRepeats : (s.modSup d f).ms.moveRepeats = s.ms.moveRepeats := rfl
@[simp] theorem State.modSup_gru : (s.modSup d f).gru = s.gru := rfl
@[simp] theorem State.modSup_mc : (s.modSup d f).mc = s.mc := rfl
@[simp] theorem State.modSup_rc : (s.modSup d f).rc = s.rc := rfl
@[simp] theorem State.modSup_ib : (s.modSup d f).ib = s.ib := rfl
@[simp] theorem State.modSup_al : (s.modSup d f).al = s.al := rfl
@[simp] theorem State.modSup_pins : (s.modSup d f).pins = s.pins := rfl
@[simp] theorem State.modSup_seconds : (s.modSup d f).seconds = s.seconds := rfl
@[simp] theorem State.modSup_freeCount : (s.modSup d f).freeCount = s.freeCount := rfl
@[simp] theorem State.modSup_pending : (s.modSup d f).pending = s.pending := rfl

end

/-! ### State.modFlow -/
section
variable (s : State) (h : HpuIx) (f : HpuFlow → HpuFlow)

@[simp] theorem State.modFlow_tables : (s.modFlow h f).tables = s.tables := rfl
@[simp] theorem State.modFlow_cfs : (s.modFlow h f).cfs = s.cfs := rfl
@[simp] theorem State.modFlow_sp : (s.modFlow h f).sp = s.sp := rfl
@[simp] theorem State.modFlow_cs_entries : (s.modFlow h f).cs.entries = s.cs.entries := rfl
@[simp] theorem State.modFlow_cs_nextArrival : (s.modFlow h f).cs.nextArrival = s.cs.nextArrival := rfl
@[simp] theorem State.modFlow_cs_flow : (s.modFlow h f).cs.flow = upd s.cs.flow h f := rfl
@[simp] theorem State.modFlow_ms : (s.modFlow h f).ms = s.ms := rfl
@[simp] theorem State.modFlow_gru : (s.modFlow h f).gru = s.gru := rfl
@[simp] theorem State.modFlow_mc : (s.modFlow h f).mc = s.mc := rfl
@[simp] theorem State.modFlow_rc : (s.modFlow h f).rc = s.rc := rfl
@[simp] theorem State.modFlow_ib : (s.modFlow h f).ib = s.ib := rfl
@[simp] theorem State.modFlow_al : (s.modFlow h f).al = s.al := rfl
@[simp] theorem State.modFlow_pins : (s.modFlow h f).pins = s.pins := rfl
@[simp] theorem State.modFlow_seconds : (s.modFlow h f).seconds = s.seconds := rfl
@[simp] theorem State.modFlow_freeCount : (s.modFlow h f).freeCount = s.freeCount := rfl
@[simp] theorem State.modFlow_pending : (s.modFlow h f).pending = s.pending := rfl

end

/-! ### State.modSea -/
section
variable (s : State) (d : DoorIx) (f : Sea → Sea)

@[simp] theorem State.modSea_tables : (s.modSea d f).tables = s.tables := rfl
@[simp] theorem State.modSea_cfs : (s.modSea d f).cfs = s.cfs := rfl
@[simp] theorem State.modSea_sp : (s.modSea d f).sp = s.sp := rfl
@[simp] theorem State.modSea_cs : (s.modSea d f).cs = s.cs := rfl
@[simp] theorem State.modSea_ms : (s.modSea d f).ms = s.ms := rfl
@[simp] theorem State.modSea_gru : (s.modSea d f).gru = s.gru := rfl
@[simp] theorem State.modSea_mc_mode : (s.modSea d f).mc.mode = s.mc.mode := rfl
@[simp] theorem State.modSea_mc_line : (s.modSea d f).mc.line = s.mc.line := rfl
@[simp] theorem State.modSea_mc_passages : (s.modSea d f).mc.passages = s.mc.passages := rfl
@[simp] theorem State.modSea_mc_sea : (s.modSea d f).mc.sea = upd s.mc.sea d f := rfl
@[simp] theorem State.modSea_mc_oas : (s.modSea d f).mc.oas = s.mc.oas := rfl
@[simp] theorem State.modSea_mc_bridgeLost : (s.modSea d f).mc.bridgeLost = s.mc.bridgeLost := rfl
@[simp] theorem State.modSea_rc : (s.modSea d f).rc = s.rc := rfl
@[simp] theorem State.modSea_ib : (s.modSea d f).ib = s.ib := rfl
@[simp] theorem State.modSea_al : (s.modSea d f).al = s.al := rfl
@[simp] theorem State.modSea_pins : (s.modSea d f).pins = s.pins := rfl
@[simp] theorem State.modSea_seconds : (s.modSea d f).seconds = s.seconds := rfl
@[simp] theorem State.modSea_freeCount : (s.modSea d f).freeCount = s.freeCount := rfl
@[simp] theorem State.modSea_pending : (s.modSea d f).pending = s.pending := rfl

end

/-! ### State.modReported -/
section
variable (s : State) (d : DoorIx) (f : Reported → Reported)

@[simp] theorem State.modReported_tables : (s.modReported d f).tables = s.tables := rfl
@[simp] theorem State.modReported_cfs : (s.modReported d f).cfs = s.cfs := rfl
@[simp] theorem State.modReported_sp : (s.modReported d f).sp = s.sp := rfl
@[simp] theorem State.modReported_cs : (s.modReported d f).cs = s.cs := rfl
@[simp] theorem State.modReported_ms : (s.modReported d f).ms = s.ms := rfl
@[simp] theorem State.modReported_gru : (s.modReported d f).gru = s.gru := rfl
@[simp] theorem State.modReported_mc : (s.modReported d f).mc = s.mc := rfl
@[simp] theorem State.modReported_rc_reported : (s.modReported d f).rc.reported = upd s.rc.reported d f := rfl
@[simp] theorem State.modReported_rc_hpus : (s.modReported d f).rc.hpus = s.rc.hpus := rfl
@[simp] theorem State.modReported_rc_east : (s.modReported d f).rc.east = s.rc.east := rfl
@[simp] theorem State.modReported_rc_west : (s.modReported d f).rc.west = s.rc.west := rfl
@[simp] theorem State.modReported_rc_secondCopies : (s.modReported d f).rc.secondCopies = s.rc.secondCopies := rfl
@[simp] theorem State.modReported_rc_loopMisses : (s.modReported d f).rc.loopMisses = s.rc.loopMisses := rfl
@[simp] theorem State.modReported_rc_txSeq : (s.modReported d f).rc.txSeq = s.rc.txSeq := rfl
@[simp] theorem State.modReported_rc_filter : (s.modReported d f).rc.filter = s.rc.filter := rfl
@[simp] theorem State.modReported_rc_polled : (s.modReported d f).rc.polled = s.rc.polled := rfl
@[simp] theorem State.modReported_rc_pollEnded : (s.modReported d f).rc.pollEnded = s.rc.pollEnded := rfl
@[simp] theorem State.modReported_rc_replyLimit : (s.modReported d f).rc.replyLimit = s.rc.replyLimit := rfl
@[simp] theorem State.modReported_rc_orders : (s.modReported d f).rc.orders = s.rc.orders := rfl
@[simp] theorem State.modReported_rc_loop : (s.modReported d f).rc.loop = s.rc.loop := rfl
@[simp] theorem State.modReported_rc_incomplete : (s.modReported d f).rc.incomplete = s.rc.incomplete := rfl
@[simp] theorem State.modReported_rc_interval : (s.modReported d f).rc.interval = s.rc.interval := rfl
@[simp] theorem State.modReported_ib : (s.modReported d f).ib = s.ib := rfl
@[simp] theorem State.modReported_al : (s.modReported d f).al = s.al := rfl
@[simp] theorem State.modReported_pins : (s.modReported d f).pins = s.pins := rfl
@[simp] theorem State.modReported_seconds : (s.modReported d f).seconds = s.seconds := rfl
@[simp] theorem State.modReported_freeCount : (s.modReported d f).freeCount = s.freeCount := rfl
@[simp] theorem State.modReported_pending : (s.modReported d f).pending = s.pending := rfl

end

/-! ### State.modHpu -/
section
variable (s : State) (h : HpuIx) (f : HpuReported → HpuReported)

@[simp] theorem State.modHpu_tables : (s.modHpu h f).tables = s.tables := rfl
@[simp] theorem State.modHpu_cfs : (s.modHpu h f).cfs = s.cfs := rfl
@[simp] theorem State.modHpu_sp : (s.modHpu h f).sp = s.sp := rfl
@[simp] theorem State.modHpu_cs : (s.modHpu h f).cs = s.cs := rfl
@[simp] theorem State.modHpu_ms : (s.modHpu h f).ms = s.ms := rfl
@[simp] theorem State.modHpu_gru : (s.modHpu h f).gru = s.gru := rfl
@[simp] theorem State.modHpu_mc : (s.modHpu h f).mc = s.mc := rfl
@[simp] theorem State.modHpu_rc_reported : (s.modHpu h f).rc.reported = s.rc.reported := rfl
@[simp] theorem State.modHpu_rc_hpus : (s.modHpu h f).rc.hpus = upd s.rc.hpus h f := rfl
@[simp] theorem State.modHpu_rc_east : (s.modHpu h f).rc.east = s.rc.east := rfl
@[simp] theorem State.modHpu_rc_west : (s.modHpu h f).rc.west = s.rc.west := rfl
@[simp] theorem State.modHpu_rc_secondCopies : (s.modHpu h f).rc.secondCopies = s.rc.secondCopies := rfl
@[simp] theorem State.modHpu_rc_loopMisses : (s.modHpu h f).rc.loopMisses = s.rc.loopMisses := rfl
@[simp] theorem State.modHpu_rc_txSeq : (s.modHpu h f).rc.txSeq = s.rc.txSeq := rfl
@[simp] theorem State.modHpu_rc_filter : (s.modHpu h f).rc.filter = s.rc.filter := rfl
@[simp] theorem State.modHpu_rc_polled : (s.modHpu h f).rc.polled = s.rc.polled := rfl
@[simp] theorem State.modHpu_rc_pollEnded : (s.modHpu h f).rc.pollEnded = s.rc.pollEnded := rfl
@[simp] theorem State.modHpu_rc_replyLimit : (s.modHpu h f).rc.replyLimit = s.rc.replyLimit := rfl
@[simp] theorem State.modHpu_rc_orders : (s.modHpu h f).rc.orders = s.rc.orders := rfl
@[simp] theorem State.modHpu_rc_loop : (s.modHpu h f).rc.loop = s.rc.loop := rfl
@[simp] theorem State.modHpu_rc_incomplete : (s.modHpu h f).rc.incomplete = s.rc.incomplete := rfl
@[simp] theorem State.modHpu_rc_interval : (s.modHpu h f).rc.interval = s.rc.interval := rfl
@[simp] theorem State.modHpu_ib : (s.modHpu h f).ib = s.ib := rfl
@[simp] theorem State.modHpu_al : (s.modHpu h f).al = s.al := rfl
@[simp] theorem State.modHpu_pins : (s.modHpu h f).pins = s.pins := rfl
@[simp] theorem State.modHpu_seconds : (s.modHpu h f).seconds = s.seconds := rfl
@[simp] theorem State.modHpu_freeCount : (s.modHpu h f).freeCount = s.freeCount := rfl
@[simp] theorem State.modHpu_pending : (s.modHpu h f).pending = s.pending := rfl

end

/-! ### State.setPacing -/
section
variable (s : State) (p : PortIx) (x : Pacing)

@[simp] theorem State.setPacing_tables : (s.setPacing p x).tables = s.tables := rfl
@[simp] theorem State.setPacing_cfs : (s.setPacing p x).cfs = s.cfs := rfl
@[simp] theorem State.setPacing_sp : (s.setPacing p x).sp = s.sp := rfl
@[simp] theorem State.setPacing_cs : (s.setPacing p x).cs = s.cs := rfl
@[simp] theorem State.setPacing_ms : (s.setPacing p x).ms = s.ms := rfl
@[simp] theorem State.setPacing_gru : (s.setPacing p x).gru = s.gru := rfl
@[simp] theorem State.setPacing_mc : (s.setPacing p x).mc = s.mc := rfl
@[simp] theorem State.setPacing_rc : (s.setPacing p x).rc = s.rc := rfl
@[simp] theorem State.setPacing_ib_comps : (s.setPacing p x).ib.comps = s.ib.comps := rfl
@[simp] theorem State.setPacing_ib_allClosed : (s.setPacing p x).ib.allClosed = s.ib.allClosed := rfl
@[simp] theorem State.setPacing_ib_pacing : (s.setPacing p x).ib.pacing = put s.ib.pacing p x := rfl
@[simp] theorem State.setPacing_ib_sending : (s.setPacing p x).ib.sending = s.ib.sending := rfl
@[simp] theorem State.setPacing_ib_snapNumber : (s.setPacing p x).ib.snapNumber = s.ib.snapNumber := rfl
@[simp] theorem State.setPacing_ib_buffer : (s.setPacing p x).ib.buffer = s.ib.buffer := rfl
@[simp] theorem State.setPacing_al : (s.setPacing p x).al = s.al := rfl
@[simp] theorem State.setPacing_pins : (s.setPacing p x).pins = s.pins := rfl
@[simp] theorem State.setPacing_seconds : (s.setPacing p x).seconds = s.seconds := rfl
@[simp] theorem State.setPacing_freeCount : (s.setPacing p x).freeCount = s.freeCount := rfl
@[simp] theorem State.setPacing_pending : (s.setPacing p x).pending = s.pending := rfl

end

/-! ### State.zeroOas -/
section
variable (s : State) (d : DoorIx)

@[simp] theorem State.zeroOas_tables : (s.zeroOas d).tables = s.tables := rfl
@[simp] theorem State.zeroOas_cfs : (s.zeroOas d).cfs = s.cfs := rfl
@[simp] theorem State.zeroOas_sp : (s.zeroOas d).sp = s.sp := rfl
@[simp] theorem State.zeroOas_cs : (s.zeroOas d).cs = s.cs := rfl
@[simp] theorem State.zeroOas_ms : (s.zeroOas d).ms = s.ms := rfl
@[simp] theorem State.zeroOas_gru : (s.zeroOas d).gru = s.gru := rfl
@[simp] theorem State.zeroOas_mc_mode : (s.zeroOas d).mc.mode = s.mc.mode := rfl
@[simp] theorem State.zeroOas_mc_line : (s.zeroOas d).mc.line = s.mc.line := rfl
@[simp] theorem State.zeroOas_mc_passages : (s.zeroOas d).mc.passages = s.mc.passages := rfl
@[simp] theorem State.zeroOas_mc_sea : (s.zeroOas d).mc.sea = s.mc.sea := rfl
@[simp] theorem State.zeroOas_mc_oas : (s.zeroOas d).mc.oas = put s.mc.oas d ⟨0, false⟩ := rfl
@[simp] theorem State.zeroOas_mc_bridgeLost : (s.zeroOas d).mc.bridgeLost = s.mc.bridgeLost := rfl
@[simp] theorem State.zeroOas_rc : (s.zeroOas d).rc = s.rc := rfl
@[simp] theorem State.zeroOas_ib : (s.zeroOas d).ib = s.ib := rfl
@[simp] theorem State.zeroOas_al : (s.zeroOas d).al = s.al := rfl
@[simp] theorem State.zeroOas_pins : (s.zeroOas d).pins = s.pins := rfl
@[simp] theorem State.zeroOas_seconds : (s.zeroOas d).seconds = s.seconds := rfl
@[simp] theorem State.zeroOas_freeCount : (s.zeroOas d).freeCount = s.freeCount := rfl
@[simp] theorem State.zeroOas_pending : (s.zeroOas d).pending = s.pending := rfl

end

/-! ### State.setEntry -/
section
variable (s : State) (d : DoorIx) (e : Entry)

@[simp] theorem State.setEntry_tables : (s.setEntry d e).tables = s.tables := rfl
@[simp] theorem State.setEntry_cfs : (s.setEntry d e).cfs = s.cfs := rfl
@[simp] theorem State.setEntry_sp : (s.setEntry d e).sp = s.sp := rfl
@[simp] theorem State.setEntry_cs_entries : (s.setEntry d e).cs.entries = put s.cs.entries d (some e) := rfl
@[simp] theorem State.setEntry_cs_nextArrival : (s.setEntry d e).cs.nextArrival = s.cs.nextArrival := rfl
@[simp] theorem State.setEntry_cs_flow : (s.setEntry d e).cs.flow = s.cs.flow := rfl
@[simp] theorem State.setEntry_ms : (s.setEntry d e).ms = s.ms := rfl
@[simp] theorem State.setEntry_gru : (s.setEntry d e).gru = s.gru := rfl
@[simp] theorem State.setEntry_mc : (s.setEntry d e).mc = s.mc := rfl
@[simp] theorem State.setEntry_rc : (s.setEntry d e).rc = s.rc := rfl
@[simp] theorem State.setEntry_ib : (s.setEntry d e).ib = s.ib := rfl
@[simp] theorem State.setEntry_al : (s.setEntry d e).al = s.al := rfl
@[simp] theorem State.setEntry_pins : (s.setEntry d e).pins = s.pins := rfl
@[simp] theorem State.setEntry_seconds : (s.setEntry d e).seconds = s.seconds := rfl
@[simp] theorem State.setEntry_freeCount : (s.setEntry d e).freeCount = s.freeCount := rfl
@[simp] theorem State.setEntry_pending : (s.setEntry d e).pending = s.pending := rfl

end

/-! ### State.dropEntry -/
section
variable (s : State) (d : DoorIx)

@[simp] theorem State.dropEntry_tables : (s.dropEntry d).tables = s.tables := rfl
@[simp] theorem State.dropEntry_cfs : (s.dropEntry d).cfs = s.cfs := rfl
@[simp] theorem State.dropEntry_sp : (s.dropEntry d).sp = s.sp := rfl
@[simp] theorem State.dropEntry_cs_entries : (s.dropEntry d).cs.entries = put s.cs.entries d none := rfl
@[simp] theorem State.dropEntry_cs_nextArrival : (s.dropEntry d).cs.nextArrival = s.cs.nextArrival := rfl
@[simp] theorem State.dropEntry_cs_flow : (s.dropEntry d).cs.flow = s.cs.flow := rfl
@[simp] theorem State.dropEntry_ms : (s.dropEntry d).ms = s.ms := rfl
@[simp] theorem State.dropEntry_gru : (s.dropEntry d).gru = s.gru := rfl
@[simp] theorem State.dropEntry_mc : (s.dropEntry d).mc = s.mc := rfl
@[simp] theorem State.dropEntry_rc : (s.dropEntry d).rc = s.rc := rfl
@[simp] theorem State.dropEntry_ib : (s.dropEntry d).ib = s.ib := rfl
@[simp] theorem State.dropEntry_al : (s.dropEntry d).al = s.al := rfl
@[simp] theorem State.dropEntry_pins : (s.dropEntry d).pins = s.pins := rfl
@[simp] theorem State.dropEntry_seconds : (s.dropEntry d).seconds = s.seconds := rfl
@[simp] theorem State.dropEntry_freeCount : (s.dropEntry d).freeCount = s.freeCount := rfl
@[simp] theorem State.dropEntry_pending : (s.dropEntry d).pending = s.pending := rfl

end

/-! ### State.setPassage -/
section
variable (s : State) (d : DoorIx) (x : Passage)

@[simp] theorem State.setPassage_tables : (s.setPassage d x).tables = s.tables := rfl
@[simp] theorem State.setPassage_cfs : (s.setPassage d x).cfs = s.cfs := rfl
@[simp] theorem State.setPassage_sp : (s.setPassage d x).sp = s.sp := rfl
@[simp] theorem State.setPassage_cs : (s.setPassage d x).cs = s.cs := rfl
@[simp] theorem State.setPassage_ms : (s.setPassage d x).ms = s.ms := rfl
@[simp] theorem State.setPassage_gru : (s.setPassage d x).gru = s.gru := rfl
@[simp] theorem State.setPassage_mc_mode : (s.setPassage d x).mc.mode = s.mc.mode := rfl
@[simp] theorem State.setPassage_mc_line : (s.setPassage d x).mc.line = s.mc.line := rfl
@[simp] theorem State.setPassage_mc_passages : (s.setPassage d x).mc.passages = put s.mc.passages d (some x) := rfl
@[simp] theorem State.setPassage_mc_sea : (s.setPassage d x).mc.sea = s.mc.sea := rfl
@[simp] theorem State.setPassage_mc_oas : (s.setPassage d x).mc.oas = s.mc.oas := rfl
@[simp] theorem State.setPassage_mc_bridgeLost : (s.setPassage d x).mc.bridgeLost = s.mc.bridgeLost := rfl
@[simp] theorem State.setPassage_rc : (s.setPassage d x).rc = s.rc := rfl
@[simp] theorem State.setPassage_ib : (s.setPassage d x).ib = s.ib := rfl
@[simp] theorem State.setPassage_al : (s.setPassage d x).al = s.al := rfl
@[simp] theorem State.setPassage_pins : (s.setPassage d x).pins = s.pins := rfl
@[simp] theorem State.setPassage_seconds : (s.setPassage d x).seconds = s.seconds := rfl
@[simp] theorem State.setPassage_freeCount : (s.setPassage d x).freeCount = s.freeCount := rfl
@[simp] theorem State.setPassage_pending : (s.setPassage d x).pending = s.pending := rfl

end

/-! ### State.dropPassage -/
section
variable (s : State) (d : DoorIx)

@[simp] theorem State.dropPassage_tables : (s.dropPassage d).tables = s.tables := rfl
@[simp] theorem State.dropPassage_cfs : (s.dropPassage d).cfs = s.cfs := rfl
@[simp] theorem State.dropPassage_sp : (s.dropPassage d).sp = s.sp := rfl
@[simp] theorem State.dropPassage_cs : (s.dropPassage d).cs = s.cs := rfl
@[simp] theorem State.dropPassage_ms : (s.dropPassage d).ms = s.ms := rfl
@[simp] theorem State.dropPassage_gru : (s.dropPassage d).gru = s.gru := rfl
@[simp] theorem State.dropPassage_mc_mode : (s.dropPassage d).mc.mode = s.mc.mode := rfl
@[simp] theorem State.dropPassage_mc_line : (s.dropPassage d).mc.line = s.mc.line := rfl
@[simp] theorem State.dropPassage_mc_passages : (s.dropPassage d).mc.passages = put s.mc.passages d none := rfl
@[simp] theorem State.dropPassage_mc_sea : (s.dropPassage d).mc.sea = s.mc.sea := rfl
@[simp] theorem State.dropPassage_mc_oas : (s.dropPassage d).mc.oas = s.mc.oas := rfl
@[simp] theorem State.dropPassage_mc_bridgeLost : (s.dropPassage d).mc.bridgeLost = s.mc.bridgeLost := rfl
@[simp] theorem State.dropPassage_rc : (s.dropPassage d).rc = s.rc := rfl
@[simp] theorem State.dropPassage_ib : (s.dropPassage d).ib = s.ib := rfl
@[simp] theorem State.dropPassage_al : (s.dropPassage d).al = s.al := rfl
@[simp] theorem State.dropPassage_pins : (s.dropPassage d).pins = s.pins := rfl
@[simp] theorem State.dropPassage_seconds : (s.dropPassage d).seconds = s.seconds := rfl
@[simp] theorem State.dropPassage_freeCount : (s.dropPassage d).freeCount = s.freeCount := rfl
@[simp] theorem State.dropPassage_pending : (s.dropPassage d).pending = s.pending := rfl

end

/-! ### queueOrder -/
section
variable (s : State) (d : DoorIx) (k : OrderKind)

@[simp] theorem queueOrder_tables : (queueOrder d k s).tables = s.tables := rfl
@[simp] theorem queueOrder_cfs : (queueOrder d k s).cfs = s.cfs := rfl
@[simp] theorem queueOrder_sp : (queueOrder d k s).sp = s.sp := rfl
@[simp] theorem queueOrder_cs : (queueOrder d k s).cs = s.cs := rfl
@[simp] theorem queueOrder_ms : (queueOrder d k s).ms = s.ms := rfl
@[simp] theorem queueOrder_gru : (queueOrder d k s).gru = s.gru := rfl
@[simp] theorem queueOrder_mc : (queueOrder d k s).mc = s.mc := rfl
@[simp] theorem queueOrder_rc_reported : (queueOrder d k s).rc.reported = s.rc.reported := rfl
@[simp] theorem queueOrder_rc_hpus : (queueOrder d k s).rc.hpus = s.rc.hpus := rfl
@[simp] theorem queueOrder_rc_east : (queueOrder d k s).rc.east = s.rc.east := rfl
@[simp] theorem queueOrder_rc_west : (queueOrder d k s).rc.west = s.rc.west := rfl
@[simp] theorem queueOrder_rc_secondCopies : (queueOrder d k s).rc.secondCopies = s.rc.secondCopies := rfl
@[simp] theorem queueOrder_rc_loopMisses : (queueOrder d k s).rc.loopMisses = s.rc.loopMisses := rfl
@[simp] theorem queueOrder_rc_txSeq : (queueOrder d k s).rc.txSeq = s.rc.txSeq := rfl
@[simp] theorem queueOrder_rc_filter : (queueOrder d k s).rc.filter = s.rc.filter := rfl
@[simp] theorem queueOrder_rc_polled : (queueOrder d k s).rc.polled = s.rc.polled := rfl
@[simp] theorem queueOrder_rc_pollEnded : (queueOrder d k s).rc.pollEnded = s.rc.pollEnded := rfl
@[simp] theorem queueOrder_rc_replyLimit : (queueOrder d k s).rc.replyLimit = s.rc.replyLimit := rfl
@[simp] theorem queueOrder_rc_orders : (queueOrder d k s).rc.orders = queued s.rc.orders ⟨d, k⟩ := rfl
@[simp] theorem queueOrder_rc_loop : (queueOrder d k s).rc.loop = s.rc.loop := rfl
@[simp] theorem queueOrder_rc_incomplete : (queueOrder d k s).rc.incomplete = s.rc.incomplete := rfl
@[simp] theorem queueOrder_rc_interval : (queueOrder d k s).rc.interval = s.rc.interval := rfl
@[simp] theorem queueOrder_ib : (queueOrder d k s).ib = s.ib := rfl
@[simp] theorem queueOrder_al : (queueOrder d k s).al = s.al := rfl
@[simp] theorem queueOrder_pins : (queueOrder d k s).pins = s.pins := rfl
@[simp] theorem queueOrder_seconds : (queueOrder d k s).seconds = s.seconds := rfl
@[simp] theorem queueOrder_freeCount : (queueOrder d k s).freeCount = s.freeCount := rfl
@[simp] theorem queueOrder_pending : (queueOrder d k s).pending = s.pending := rfl

end

/-! ### setRecords -/
section
variable (s : State) (l : List AlarmRecord)

@[simp] theorem setRecords_tables : (setRecords l s).tables = s.tables := rfl
@[simp] theorem setRecords_cfs : (setRecords l s).cfs = s.cfs := rfl
@[simp] theorem setRecords_sp : (setRecords l s).sp = s.sp := rfl
@[simp] theorem setRecords_cs : (setRecords l s).cs = s.cs := rfl
@[simp] theorem setRecords_ms : (setRecords l s).ms = s.ms := rfl
@[simp] theorem setRecords_gru : (setRecords l s).gru = s.gru := rfl
@[simp] theorem setRecords_mc : (setRecords l s).mc = s.mc := rfl
@[simp] theorem setRecords_rc : (setRecords l s).rc = s.rc := rfl
@[simp] theorem setRecords_ib : (setRecords l s).ib = s.ib := rfl
@[simp] theorem setRecords_al_records : (setRecords l s).al.records = l := rfl
@[simp] theorem setRecords_al_lost : (setRecords l s).al.lost = s.al.lost := rfl
@[simp] theorem setRecords_al_line : (setRecords l s).al.line = decide (0 < unackCount l) := rfl
@[simp] theorem setRecords_pins : (setRecords l s).pins = s.pins := rfl
@[simp] theorem setRecords_seconds : (setRecords l s).seconds = s.seconds := rfl
@[simp] theorem setRecords_freeCount : (setRecords l s).freeCount = s.freeCount := rfl
@[simp] theorem setRecords_pending : (setRecords l s).pending = s.pending := rfl

end

/-! ### setSending -/
section
variable (s : State) (x : Option Sending)

@[simp] theorem setSending_tables : (setSending x s).tables = s.tables := rfl
@[simp] theorem setSending_cfs : (setSending x s).cfs = s.cfs := rfl
@[simp] theorem setSending_sp : (setSending x s).sp = s.sp := rfl
@[simp] theorem setSending_cs : (setSending x s).cs = s.cs := rfl
@[simp] theorem setSending_ms : (setSending x s).ms = s.ms := rfl
@[simp] theorem setSending_gru : (setSending x s).gru = s.gru := rfl
@[simp] theorem setSending_mc : (setSending x s).mc = s.mc := rfl
@[simp] theorem setSending_rc : (setSending x s).rc = s.rc := rfl
@[simp] theorem setSending_ib_comps : (setSending x s).ib.comps = s.ib.comps := rfl
@[simp] theorem setSending_ib_allClosed : (setSending x s).ib.allClosed = s.ib.allClosed := rfl
@[simp] theorem setSending_ib_pacing : (setSending x s).ib.pacing = s.ib.pacing := rfl
@[simp] theorem setSending_ib_sending : (setSending x s).ib.sending = x := rfl
@[simp] theorem setSending_ib_snapNumber : (setSending x s).ib.snapNumber = s.ib.snapNumber := rfl
@[simp] theorem setSending_ib_buffer : (setSending x s).ib.buffer = s.ib.buffer := rfl
@[simp] theorem setSending_al : (setSending x s).al = s.al := rfl
@[simp] theorem setSending_pins : (setSending x s).pins = s.pins := rfl
@[simp] theorem setSending_seconds : (setSending x s).seconds = s.seconds := rfl
@[simp] theorem setSending_freeCount : (setSending x s).freeCount = s.freeCount := rfl
@[simp] theorem setSending_pending : (setSending x s).pending = s.pending := rfl

end

/-! ### setSlot -/
section
variable (s : State) (i : SlotIx) (x : Option Run)

@[simp] theorem setSlot_tables : (setSlot i x s).tables = s.tables := rfl
@[simp] theorem setSlot_cfs : (setSlot i x s).cfs = s.cfs := rfl
@[simp] theorem setSlot_sp : (setSlot i x s).sp = s.sp := rfl
@[simp] theorem setSlot_cs : (setSlot i x s).cs = s.cs := rfl
@[simp] theorem setSlot_ms : (setSlot i x s).ms = s.ms := rfl
@[simp] theorem setSlot_gru_slots : (setSlot i x s).gru.slots = put s.gru.slots i x := rfl
@[simp] theorem setSlot_gru_slotting : (setSlot i x s).gru.slotting = s.gru.slotting := rfl
@[simp] theorem setSlot_gru_stack : (setSlot i x s).gru.stack = s.gru.stack := rfl
@[simp] theorem setSlot_gru_counter : (setSlot i x s).gru.counter = s.gru.counter := rfl
@[simp] theorem setSlot_gru_resumed : (setSlot i x s).gru.resumed = s.gru.resumed := rfl
@[simp] theorem setSlot_mc : (setSlot i x s).mc = s.mc := rfl
@[simp] theorem setSlot_rc : (setSlot i x s).rc = s.rc := rfl
@[simp] theorem setSlot_ib : (setSlot i x s).ib = s.ib := rfl
@[simp] theorem setSlot_al : (setSlot i x s).al = s.al := rfl
@[simp] theorem setSlot_pins : (setSlot i x s).pins = s.pins := rfl
@[simp] theorem setSlot_seconds : (setSlot i x s).seconds = s.seconds := rfl
@[simp] theorem setSlot_freeCount : (setSlot i x s).freeCount = s.freeCount := rfl
@[simp] theorem setSlot_pending : (setSlot i x s).pending = s.pending := rfl

end

/-! ### setSlotting -/
section
variable (s : State) (l : List SlotIx)

@[simp] theorem setSlotting_tables : (setSlotting l s).tables = s.tables := rfl
@[simp] theorem setSlotting_cfs : (setSlotting l s).cfs = s.cfs := rfl
@[simp] theorem setSlotting_sp : (setSlotting l s).sp = s.sp := rfl
@[simp] theorem setSlotting_cs : (setSlotting l s).cs = s.cs := rfl
@[simp] theorem setSlotting_ms : (setSlotting l s).ms = s.ms := rfl
@[simp] theorem setSlotting_gru_slots : (setSlotting l s).gru.slots = s.gru.slots := rfl
@[simp] theorem setSlotting_gru_slotting : (setSlotting l s).gru.slotting = l := rfl
@[simp] theorem setSlotting_gru_stack : (setSlotting l s).gru.stack = s.gru.stack := rfl
@[simp] theorem setSlotting_gru_counter : (setSlotting l s).gru.counter = s.gru.counter := rfl
@[simp] theorem setSlotting_gru_resumed : (setSlotting l s).gru.resumed = s.gru.resumed := rfl
@[simp] theorem setSlotting_mc : (setSlotting l s).mc = s.mc := rfl
@[simp] theorem setSlotting_rc : (setSlotting l s).rc = s.rc := rfl
@[simp] theorem setSlotting_ib : (setSlotting l s).ib = s.ib := rfl
@[simp] theorem setSlotting_al : (setSlotting l s).al = s.al := rfl
@[simp] theorem setSlotting_pins : (setSlotting l s).pins = s.pins := rfl
@[simp] theorem setSlotting_seconds : (setSlotting l s).seconds = s.seconds := rfl
@[simp] theorem setSlotting_freeCount : (setSlotting l s).freeCount = s.freeCount := rfl
@[simp] theorem setSlotting_pending : (setSlotting l s).pending = s.pending := rfl

end

/-! ### setStack -/
section
variable (s : State) (l : List Run)

@[simp] theorem setStack_tables : (setStack l s).tables = s.tables := rfl
@[simp] theorem setStack_cfs : (setStack l s).cfs = s.cfs := rfl
@[simp] theorem setStack_sp : (setStack l s).sp = s.sp := rfl
@[simp] theorem setStack_cs : (setStack l s).cs = s.cs := rfl
@[simp] theorem setStack_ms : (setStack l s).ms = s.ms := rfl
@[simp] theorem setStack_gru_slots : (setStack l s).gru.slots = s.gru.slots := rfl
@[simp] theorem setStack_gru_slotting : (setStack l s).gru.slotting = s.gru.slotting := rfl
@[simp] theorem setStack_gru_stack : (setStack l s).gru.stack = l := rfl
@[simp] theorem setStack_gru_counter : (setStack l s).gru.counter = s.gru.counter := rfl
@[simp] theorem setStack_gru_resumed : (setStack l s).gru.resumed = s.gru.resumed := rfl
@[simp] theorem setStack_mc : (setStack l s).mc = s.mc := rfl
@[simp] theorem setStack_rc : (setStack l s).rc = s.rc := rfl
@[simp] theorem setStack_ib : (setStack l s).ib = s.ib := rfl
@[simp] theorem setStack_al : (setStack l s).al = s.al := rfl
@[simp] theorem setStack_pins : (setStack l s).pins = s.pins := rfl
@[simp] theorem setStack_seconds : (setStack l s).seconds = s.seconds := rfl
@[simp] theorem setStack_freeCount : (setStack l s).freeCount = s.freeCount := rfl
@[simp] theorem setStack_pending : (setStack l s).pending = s.pending := rfl

end

/-! ### setResumed -/
section
variable (s : State) (l : List SlotIx)

@[simp] theorem setResumed_tables : (setResumed l s).tables = s.tables := rfl
@[simp] theorem setResumed_cfs : (setResumed l s).cfs = s.cfs := rfl
@[simp] theorem setResumed_sp : (setResumed l s).sp = s.sp := rfl
@[simp] theorem setResumed_cs : (setResumed l s).cs = s.cs := rfl
@[simp] theorem setResumed_ms : (setResumed l s).ms = s.ms := rfl
@[simp] theorem setResumed_gru_slots : (setResumed l s).gru.slots = s.gru.slots := rfl
@[simp] theorem setResumed_gru_slotting : (setResumed l s).gru.slotting = s.gru.slotting := rfl
@[simp] theorem setResumed_gru_stack : (setResumed l s).gru.stack = s.gru.stack := rfl
@[simp] theorem setResumed_gru_counter : (setResumed l s).gru.counter = s.gru.counter := rfl
@[simp] theorem setResumed_gru_resumed : (setResumed l s).gru.resumed = l := rfl
@[simp] theorem setResumed_mc : (setResumed l s).mc = s.mc := rfl
@[simp] theorem setResumed_rc : (setResumed l s).rc = s.rc := rfl
@[simp] theorem setResumed_ib : (setResumed l s).ib = s.ib := rfl
@[simp] theorem setResumed_al : (setResumed l s).al = s.al := rfl
@[simp] theorem setResumed_pins : (setResumed l s).pins = s.pins := rfl
@[simp] theorem setResumed_seconds : (setResumed l s).seconds = s.seconds := rfl
@[simp] theorem setResumed_freeCount : (setResumed l s).freeCount = s.freeCount := rfl
@[simp] theorem setResumed_pending : (setResumed l s).pending = s.pending := rfl

end

/-! ### setMode -/
section
variable (s : State) (m : Mode)

@[simp] theorem setMode_tables : (setMode m s).tables = s.tables := rfl
@[simp] theorem setMode_cfs : (setMode m s).cfs = s.cfs := rfl
@[simp] theorem setMode_sp : (setMode m s).sp = s.sp := rfl
@[simp] theorem setMode_cs : (setMode m s).cs = s.cs := rfl
@[simp] theorem setMode_ms : (setMode m s).ms = s.ms := rfl
@[simp] theorem setMode_gru : (setMode m s).gru = s.gru := rfl
@[simp] theorem setMode_mc_mode : (setMode m s).mc.mode = m := rfl
@[simp] theorem setMode_mc_line : (setMode m s).mc.line = s.mc.line := rfl
@[simp] theorem setMode_mc_passages : (setMode m s).mc.passages = s.mc.passages := rfl
@[simp] theorem setMode_mc_sea : (setMode m s).mc.sea = s.mc.sea := rfl
@[simp] theorem setMode_mc_oas : (setMode m s).mc.oas = s.mc.oas := rfl
@[simp] theorem setMode_mc_bridgeLost : (setMode m s).mc.bridgeLost = s.mc.bridgeLost := rfl
@[simp] theorem setMode_rc : (setMode m s).rc = s.rc := rfl
@[simp] theorem setMode_ib : (setMode m s).ib = s.ib := rfl
@[simp] theorem setMode_al : (setMode m s).al = s.al := rfl
@[simp] theorem setMode_pins : (setMode m s).pins = s.pins := rfl
@[simp] theorem setMode_seconds : (setMode m s).seconds = s.seconds := rfl
@[simp] theorem setMode_freeCount : (setMode m s).freeCount = s.freeCount := rfl
@[simp] theorem setMode_pending : (setMode m s).pending = s.pending := rfl

end

/-! ### setBridgeLost -/
section
variable (s : State) (b : Bool)

@[simp] theorem setBridgeLost_tables : (setBridgeLost b s).tables = s.tables := rfl
@[simp] theorem setBridgeLost_cfs : (setBridgeLost b s).cfs = s.cfs := rfl
@[simp] theorem setBridgeLost_sp : (setBridgeLost b s).sp = s.sp := rfl
@[simp] theorem setBridgeLost_cs : (setBridgeLost b s).cs = s.cs := rfl
@[simp] theorem setBridgeLost_ms : (setBridgeLost b s).ms = s.ms := rfl
@[simp] theorem setBridgeLost_gru : (setBridgeLost b s).gru = s.gru := rfl
@[simp] theorem setBridgeLost_mc_mode : (setBridgeLost b s).mc.mode = s.mc.mode := rfl
@[simp] theorem setBridgeLost_mc_line : (setBridgeLost b s).mc.line = s.mc.line := rfl
@[simp] theorem setBridgeLost_mc_passages : (setBridgeLost b s).mc.passages = s.mc.passages := rfl
@[simp] theorem setBridgeLost_mc_sea : (setBridgeLost b s).mc.sea = s.mc.sea := rfl
@[simp] theorem setBridgeLost_mc_oas : (setBridgeLost b s).mc.oas = s.mc.oas := rfl
@[simp] theorem setBridgeLost_mc_bridgeLost : (setBridgeLost b s).mc.bridgeLost = b := rfl
@[simp] theorem setBridgeLost_rc : (setBridgeLost b s).rc = s.rc := rfl
@[simp] theorem setBridgeLost_ib : (setBridgeLost b s).ib = s.ib := rfl
@[simp] theorem setBridgeLost_al : (setBridgeLost b s).al = s.al := rfl
@[simp] theorem setBridgeLost_pins : (setBridgeLost b s).pins = s.pins := rfl
@[simp] theorem setBridgeLost_seconds : (setBridgeLost b s).seconds = s.seconds := rfl
@[simp] theorem setBridgeLost_freeCount : (setBridgeLost b s).freeCount = s.freeCount := rfl
@[simp] theorem setBridgeLost_pending : (setBridgeLost b s).pending = s.pending := rfl

end

/-! ### setLine -/
section
variable (s : State) (b : Bool)

@[simp] theorem setLine_tables : (setLine b s).tables = s.tables := rfl
@[simp] theorem setLine_cfs : (setLine b s).cfs = s.cfs := rfl
@[simp] theorem setLine_sp : (setLine b s).sp = s.sp := rfl
@[simp] theorem setLine_cs : (setLine b s).cs = s.cs := rfl
@[simp] theorem setLine_ms : (setLine b s).ms = s.ms := rfl
@[simp] theorem setLine_gru : (setLine b s).gru = s.gru := rfl
@[simp] theorem setLine_mc_mode : (setLine b s).mc.mode = s.mc.mode := rfl
@[simp] theorem setLine_mc_line : (setLine b s).mc.line = b := rfl
@[simp] theorem setLine_mc_passages : (setLine b s).mc.passages = s.mc.passages := rfl
@[simp] theorem setLine_mc_sea : (setLine b s).mc.sea = s.mc.sea := rfl
@[simp] theorem setLine_mc_oas : (setLine b s).mc.oas = s.mc.oas := rfl
@[simp] theorem setLine_mc_bridgeLost : (setLine b s).mc.bridgeLost = s.mc.bridgeLost := rfl
@[simp] theorem setLine_rc : (setLine b s).rc = s.rc := rfl
@[simp] theorem setLine_ib : (setLine b s).ib = s.ib := rfl
@[simp] theorem setLine_al : (setLine b s).al = s.al := rfl
@[simp] theorem setLine_pins : (setLine b s).pins = s.pins := rfl
@[simp] theorem setLine_seconds : (setLine b s).seconds = s.seconds := rfl
@[simp] theorem setLine_freeCount : (setLine b s).freeCount = s.freeCount := rfl
@[simp] theorem setLine_pending : (setLine b s).pending = s.pending := rfl

end

/-! ### setLoop -/
section
variable (s : State) (x : Option LoopCheck)

@[simp] theorem setLoop_tables : (setLoop x s).tables = s.tables := rfl
@[simp] theorem setLoop_cfs : (setLoop x s).cfs = s.cfs := rfl
@[simp] theorem setLoop_sp : (setLoop x s).sp = s.sp := rfl
@[simp] theorem setLoop_cs : (setLoop x s).cs = s.cs := rfl
@[simp] theorem setLoop_ms : (setLoop x s).ms = s.ms := rfl
@[simp] theorem setLoop_gru : (setLoop x s).gru = s.gru := rfl
@[simp] theorem setLoop_mc : (setLoop x s).mc = s.mc := rfl
@[simp] theorem setLoop_rc_reported : (setLoop x s).rc.reported = s.rc.reported := rfl
@[simp] theorem setLoop_rc_hpus : (setLoop x s).rc.hpus = s.rc.hpus := rfl
@[simp] theorem setLoop_rc_east : (setLoop x s).rc.east = s.rc.east := rfl
@[simp] theorem setLoop_rc_west : (setLoop x s).rc.west = s.rc.west := rfl
@[simp] theorem setLoop_rc_secondCopies : (setLoop x s).rc.secondCopies = s.rc.secondCopies := rfl
@[simp] theorem setLoop_rc_loopMisses : (setLoop x s).rc.loopMisses = s.rc.loopMisses := rfl
@[simp] theorem setLoop_rc_txSeq : (setLoop x s).rc.txSeq = s.rc.txSeq := rfl
@[simp] theorem setLoop_rc_filter : (setLoop x s).rc.filter = s.rc.filter := rfl
@[simp] theorem setLoop_rc_polled : (setLoop x s).rc.polled = s.rc.polled := rfl
@[simp] theorem setLoop_rc_pollEnded : (setLoop x s).rc.pollEnded = s.rc.pollEnded := rfl
@[simp] theorem setLoop_rc_replyLimit : (setLoop x s).rc.replyLimit = s.rc.replyLimit := rfl
@[simp] theorem setLoop_rc_orders : (setLoop x s).rc.orders = s.rc.orders := rfl
@[simp] theorem setLoop_rc_loop : (setLoop x s).rc.loop = x := rfl
@[simp] theorem setLoop_rc_incomplete : (setLoop x s).rc.incomplete = s.rc.incomplete := rfl
@[simp] theorem setLoop_rc_interval : (setLoop x s).rc.interval = s.rc.interval := rfl
@[simp] theorem setLoop_ib : (setLoop x s).ib = s.ib := rfl
@[simp] theorem setLoop_al : (setLoop x s).al = s.al := rfl
@[simp] theorem setLoop_pins : (setLoop x s).pins = s.pins := rfl
@[simp] theorem setLoop_seconds : (setLoop x s).seconds = s.seconds := rfl
@[simp] theorem setLoop_freeCount : (setLoop x s).freeCount = s.freeCount := rfl
@[simp] theorem setLoop_pending : (setLoop x s).pending = s.pending := rfl

end

/-! ### endPoll -/
section
variable (s : State)

@[simp] theorem endPoll_tables : (endPoll s).tables = s.tables := rfl
@[simp] theorem endPoll_cfs : (endPoll s).cfs = s.cfs := rfl
@[simp] theorem endPoll_sp : (endPoll s).sp = s.sp := rfl
@[simp] theorem endPoll_cs : (endPoll s).cs = s.cs := rfl
@[simp] theorem endPoll_ms : (endPoll s).ms = s.ms := rfl
@[simp] theorem endPoll_gru : (endPoll s).gru = s.gru := rfl
@[simp] theorem endPoll_mc : (endPoll s).mc = s.mc := rfl
@[simp] theorem endPoll_rc_reported : (endPoll s).rc.reported = s.rc.reported := rfl
@[simp] theorem endPoll_rc_hpus : (endPoll s).rc.hpus = s.rc.hpus := rfl
@[simp] theorem endPoll_rc_east : (endPoll s).rc.east = s.rc.east := rfl
@[simp] theorem endPoll_rc_west : (endPoll s).rc.west = s.rc.west := rfl
@[simp] theorem endPoll_rc_secondCopies : (endPoll s).rc.secondCopies = s.rc.secondCopies := rfl
@[simp] theorem endPoll_rc_loopMisses : (endPoll s).rc.loopMisses = s.rc.loopMisses := rfl
@[simp] theorem endPoll_rc_txSeq : (endPoll s).rc.txSeq = s.rc.txSeq := rfl
@[simp] theorem endPoll_rc_filter : (endPoll s).rc.filter = s.rc.filter := rfl
@[simp] theorem endPoll_rc_polled : (endPoll s).rc.polled = s.rc.polled := rfl
@[simp] theorem endPoll_rc_pollEnded : (endPoll s).rc.pollEnded = true := rfl
@[simp] theorem endPoll_rc_replyLimit : (endPoll s).rc.replyLimit = s.rc.replyLimit := rfl
@[simp] theorem endPoll_rc_orders : (endPoll s).rc.orders = s.rc.orders := rfl
@[simp] theorem endPoll_rc_loop : (endPoll s).rc.loop = s.rc.loop := rfl
@[simp] theorem endPoll_rc_incomplete : (endPoll s).rc.incomplete = s.rc.incomplete := rfl
@[simp] theorem endPoll_rc_interval : (endPoll s).rc.interval = s.rc.interval := rfl
@[simp] theorem endPoll_ib : (endPoll s).ib = s.ib := rfl
@[simp] theorem endPoll_al : (endPoll s).al = s.al := rfl
@[simp] theorem endPoll_pins : (endPoll s).pins = s.pins := rfl
@[simp] theorem endPoll_seconds : (endPoll s).seconds = s.seconds := rfl
@[simp] theorem endPoll_freeCount : (endPoll s).freeCount = s.freeCount := rfl
@[simp] theorem endPoll_pending : (endPoll s).pending = s.pending := rfl

end

/-! ### setTables -/
section
variable (s : State) (t : Tables)

@[simp] theorem setTables_tables : (setTables t s).tables = t := rfl
@[simp] theorem setTables_cfs : (setTables t s).cfs = s.cfs := rfl
@[simp] theorem setTables_sp : (setTables t s).sp = s.sp := rfl
@[simp] theorem setTables_cs : (setTables t s).cs = s.cs := rfl
@[simp] theorem setTables_ms : (setTables t s).ms = s.ms := rfl
@[simp] theorem setTables_gru : (setTables t s).gru = s.gru := rfl
@[simp] theorem setTables_mc : (setTables t s).mc = s.mc := rfl
@[simp] theorem setTables_rc : (setTables t s).rc = s.rc := rfl
@[simp] theorem setTables_ib : (setTables t s).ib = s.ib := rfl
@[simp] theorem setTables_al : (setTables t s).al = s.al := rfl
@[simp] theorem setTables_pins : (setTables t s).pins = s.pins := rfl
@[simp] theorem setTables_seconds : (setTables t s).seconds = s.seconds := rfl
@[simp] theorem setTables_freeCount : (setTables t s).freeCount = s.freeCount := rfl
@[simp] theorem setTables_pending : (setTables t s).pending = s.pending := rfl

end

/-! ### setPart -/
section
variable (s : State) (x : PartState)

@[simp] theorem setPart_tables : (setPart x s).tables = s.tables := rfl
@[simp] theorem setPart_cfs_part : (setPart x s).cfs.part = x := rfl
@[simp] theorem setPart_cfs_status : (setPart x s).cfs.status = s.cfs.status := rfl
@[simp] theorem setPart_cfs_save : (setPart x s).cfs.save = s.cfs.save := rfl
@[simp] theorem setPart_cfs_saveBuffer : (setPart x s).cfs.saveBuffer = s.cfs.saveBuffer := rfl
@[simp] theorem setPart_cfs_restartPending : (setPart x s).cfs.restartPending = s.cfs.restartPending := rfl
@[simp] theorem setPart_cfs_image : (setPart x s).cfs.image = s.cfs.image := rfl
@[simp] theorem setPart_sp : (setPart x s).sp = s.sp := rfl
@[simp] theorem setPart_cs : (setPart x s).cs = s.cs := rfl
@[simp] theorem setPart_ms : (setPart x s).ms = s.ms := rfl
@[simp] theorem setPart_gru : (setPart x s).gru = s.gru := rfl
@[simp] theorem setPart_mc : (setPart x s).mc = s.mc := rfl
@[simp] theorem setPart_rc : (setPart x s).rc = s.rc := rfl
@[simp] theorem setPart_ib : (setPart x s).ib = s.ib := rfl
@[simp] theorem setPart_al : (setPart x s).al = s.al := rfl
@[simp] theorem setPart_pins : (setPart x s).pins = s.pins := rfl
@[simp] theorem setPart_seconds : (setPart x s).seconds = s.seconds := rfl
@[simp] theorem setPart_freeCount : (setPart x s).freeCount = s.freeCount := rfl
@[simp] theorem setPart_pending : (setPart x s).pending = s.pending := rfl

end

/-! ### setPin -/
section
variable (s : State) (b : Bool)

@[simp] theorem setPin_tables : (setPin b s).tables = s.tables := rfl
@[simp] theorem setPin_cfs : (setPin b s).cfs = s.cfs := rfl
@[simp] theorem setPin_sp : (setPin b s).sp = s.sp := rfl
@[simp] theorem setPin_cs : (setPin b s).cs = s.cs := rfl
@[simp] theorem setPin_ms : (setPin b s).ms = s.ms := rfl
@[simp] theorem setPin_gru : (setPin b s).gru = s.gru := rfl
@[simp] theorem setPin_mc : (setPin b s).mc = s.mc := rfl
@[simp] theorem setPin_rc : (setPin b s).rc = s.rc := rfl
@[simp] theorem setPin_ib : (setPin b s).ib = s.ib := rfl
@[simp] theorem setPin_al : (setPin b s).al = s.al := rfl
@[simp] theorem setPin_pins_emClose : (setPin b s).pins.emClose = b := rfl
@[simp] theorem setPin_pins_reset : (setPin b s).pins.reset = s.pins.reset := rfl
@[simp] theorem setPin_pins_ringOut : (setPin b s).pins.ringOut = s.pins.ringOut := rfl
@[simp] theorem setPin_pins_stationOut : (setPin b s).pins.stationOut = s.pins.stationOut := rfl
@[simp] theorem setPin_seconds : (setPin b s).seconds = s.seconds := rfl
@[simp] theorem setPin_freeCount : (setPin b s).freeCount = s.freeCount := rfl
@[simp] theorem setPin_pending : (setPin b s).pending = s.pending := rfl

end

/-! ### Reading a record after an update -/

section
variable {α : Type} {n : Nat}

@[simp] theorem getElem_put (v : Vector α n) (i : Fin n) (x : α) (j : Nat) (h : j < n) :
    (put v i x)[j] = if i.val = j then x else v[j] := by
  simp [put, Vector.getElem_set]

@[simp] theorem getElem_upd (v : Vector α n) (i : Fin n) (f : α → α) (j : Nat) (h : j < n) :
    (upd v i f)[j] = if i.val = j then f v[i] else v[j] := by
  simp [upd, Vector.getElem_set]

@[simp] theorem getElem_updAll (v : Vector α n) (f : Fin n → α → α) (j : Nat) (h : j < n) :
    (updAll v f)[j] = f ⟨j, h⟩ v[j] := by
  simp [updAll]

end

section
variable (s : State) (d x : DoorIx)

theorem entry_setEntry (e : Entry) : (s.setEntry d e).entry x = if d = x then some e else s.entry x := by
  simp [State.entry, Fin.ext_iff]

theorem entry_dropEntry : (s.dropEntry d).entry x = if d = x then none else s.entry x := by
  simp [State.entry, Fin.ext_iff]

theorem passage_setPassage (y : Passage) : (s.setPassage d y).passage x = if d = x then some y else s.passage x := by
  simp [State.passage, Fin.ext_iff]

theorem passage_dropPassage : (s.dropPassage d).passage x = if d = x then none else s.passage x := by
  simp [State.passage, Fin.ext_iff]

theorem latch_modSup (f : Supervision → Supervision) :
    (s.modSup d f).latch x = if d = x then (f s.ms.doors[d]).latch else s.latch x := by
  simp only [State.latch, Fin.getElem_fin, State.modSup_ms_doors, getElem_upd, Fin.val_inj]
  split <;> rfl

theorem position_modReported (f : Reported → Reported) :
    (s.modReported d f).position x = if d = x then (f s.rc.reported[d]).position else s.position x := by
  simp only [State.position, Fin.getElem_fin, State.modReported_rc_reported, getElem_upd, Fin.val_inj]
  split <;> rfl

end

end Sys2Proof.Machine
end

