-- ==== Sys2Proof/Laws/Frames.lean ====
section
/-!
SUPPORT. What the shared operations leave alone: a chain of frames, each with everything the one before it keeps and
more, and for each operation the strongest of them that it meets. A proof about a command cites these lemmas and does not
unfold the operations.
-/
namespace Sys2Proof.Machine

set_option Elab.async false

/-! ### The frames -/

/-- What every operation of a block keeps while the part is IN_SERVICE: the tables, the store, the pins, the seconds
counter, the queue of commands, SP but for its queues, RC but for its orders, IB but for pending flags, the sea fields and
the line. -/
structure BlockFrame (s t : State) : Prop where
  tables : t.tables = s.tables
  cfs : t.cfs = s.cfs
  pins : t.pins = s.pins
  seconds : t.seconds = s.seconds
  pending : t.pending = s.pending
  queues : OnlyQueues s t
  orders : OnlyOrders s t
  pacing : OnlyPacing s t
  sea : t.mc.sea = s.mc.sea
  line : t.mc.line = s.mc.line

/-- What the operations of GRU keep beside: the mode, the bridge-loss state, the run counter, the free choices, the count
of repeats. -/
structure RunFrame (s t : State) : Prop extends BlockFrame s t where
  mode : t.mc.mode = s.mc.mode
  bridgeLost : t.mc.bridgeLost = s.mc.bridgeLost
  counter : t.gru.counter = s.gru.counter
  freeCount : t.freeCount = s.freeCount
  moveRepeats : t.ms.moveRepeats = s.ms.moveRepeats

/-- What an admission pass keeps beside: the runs, MC and the arrival counter. -/
structure ScheduleFrame (s t : State) : Prop extends RunFrame s t where
  gru : t.gru = s.gru
  mc : t.mc = s.mc
  nextArrival : t.cs.nextArrival = s.cs.nextArrival

/-- What raising, clearing and acknowledging alarms keep beside: the schedule and RC. -/
structure AlarmFrame (s t : State) : Prop extends ScheduleFrame s t where
  cs : t.cs = s.cs
  rc : t.rc = s.rc

/-- What placing a frame keeps beside: MS and the alarm list. -/
structure PlaceFrame (s t : State) : Prop extends AlarmFrame s t where
  ms : t.ms = s.ms
  al : t.al = s.al

section
variable {s t u : State}

theorem OnlyQueues.trans (h : OnlyQueues s t) (g : OnlyQueues t u) : OnlyQueues s u := fun q => by rw [g q, h q]
theorem OnlyOrders.trans (h : OnlyOrders s t) (g : OnlyOrders t u) : OnlyOrders s u := by
  unfold OnlyOrders at *; rw [g, h]
theorem OnlyPacing.trans (h : OnlyPacing s t) (g : OnlyPacing t u) : OnlyPacing s u := by
  unfold OnlyPacing at *; rw [g, h]

theorem BlockFrame.refl (s : State) : BlockFrame s s := ⟨rfl, rfl, rfl, rfl, rfl, fun _ => rfl, rfl, rfl, rfl, rfl⟩
theorem RunFrame.refl (s : State) : RunFrame s s := ⟨.refl s, rfl, rfl, rfl, rfl, rfl⟩
theorem ScheduleFrame.refl (s : State) : ScheduleFrame s s := ⟨.refl s, rfl, rfl, rfl⟩
theorem AlarmFrame.refl (s : State) : AlarmFrame s s := ⟨.refl s, rfl, rfl⟩
theorem PlaceFrame.refl (s : State) : PlaceFrame s s := ⟨.refl s, rfl, rfl⟩

theorem BlockFrame.trans (h : BlockFrame s t) (g : BlockFrame t u) : BlockFrame s u where
  tables := g.tables.trans h.tables
  cfs := g.cfs.trans h.cfs
  pins := g.pins.trans h.pins
  seconds := g.seconds.trans h.seconds
  pending := g.pending.trans h.pending
  queues := h.queues.trans g.queues
  orders := h.orders.trans g.orders
  pacing := h.pacing.trans g.pacing
  sea := g.sea.trans h.sea
  line := g.line.trans h.line

theorem RunFrame.trans (h : RunFrame s t) (g : RunFrame t u) : RunFrame s u where
  toBlockFrame := h.toBlockFrame.trans g.toBlockFrame
  mode := g.mode.trans h.mode
  bridgeLost := g.bridgeLost.trans h.bridgeLost
  counter := g.counter.trans h.counter
  freeCount := g.freeCount.trans h.freeCount
  moveRepeats := g.moveRepeats.trans h.moveRepeats

theorem ScheduleFrame.trans (h : ScheduleFrame s t) (g : ScheduleFrame t u) : ScheduleFrame s u where
  toRunFrame := h.toRunFrame.trans g.toRunFrame
  gru := g.gru.trans h.gru
  mc := g.mc.trans h.mc
  nextArrival := g.nextArrival.trans h.nextArrival

theorem AlarmFrame.trans (h : AlarmFrame s t) (g : AlarmFrame t u) : AlarmFrame s u where
  toScheduleFrame := h.toScheduleFrame.trans g.toScheduleFrame
  cs := g.cs.trans h.cs
  rc := g.rc.trans h.rc

theorem PlaceFrame.trans (h : PlaceFrame s t) (g : PlaceFrame t u) : PlaceFrame s u where
  toAlarmFrame := h.toAlarmFrame.trans g.toAlarmFrame
  ms := g.ms.trans h.ms
  al := g.al.trans h.al

end

/-- A relation that every action of a list meets holds from the first state to the last. -/
theorem forEach_rel {ι : Type} {R : State → State → Prop} (refl : ∀ s, R s s) (trans : ∀ {s t u}, R s t → R t u → R s u)
    {act : ι → State → State} (h : ∀ i s, R s (act i s)) (l : List ι) (s : State) : R s (forEach l act s) := by
  induction l generalizing s with
  | nil => exact refl s
  | cons i rest ih => exact trans (h i s) (ih (act i s))

/-! ### The primitive updates -/

theorem PlaceFrame.modPort_queue (s : State) (p : PortIx) (f : StationPort → StationPort)
    (h : ∀ x, f x = { x with queue := (f x).queue }) : PlaceFrame s (s.modPort p f) := by
  refine ⟨⟨⟨⟨⟨rfl, rfl, rfl, rfl, rfl, fun q => ?_, rfl, rfl, rfl, rfl⟩, rfl, rfl, rfl, rfl, rfl⟩, rfl, rfl, rfl⟩,
    rfl, rfl⟩, rfl, rfl⟩
  simp only [Fin.getElem_fin, State.modPort_sp, getElem_upd, Fin.val_inj]
  split
  · subst q; exact h _
  · rfl

theorem PlaceFrame.setPacing (s : State) (p : PortIx) (x : Pacing) : PlaceFrame s (s.setPacing p x) :=
  ⟨⟨⟨⟨⟨rfl, rfl, rfl, rfl, rfl, fun _ => rfl, rfl, rfl, rfl, rfl⟩, rfl, rfl, rfl, rfl, rfl⟩, rfl, rfl, rfl⟩,
    rfl, rfl⟩, rfl, rfl⟩

theorem AlarmFrame.setRecords (s : State) (l : List AlarmRecord) : AlarmFrame s (setRecords l s) :=
  ⟨⟨⟨⟨rfl, rfl, rfl, rfl, rfl, fun _ => rfl, rfl, rfl, rfl, rfl⟩, rfl, rfl, rfl, rfl, rfl⟩, rfl, rfl, rfl⟩,
    rfl, rfl⟩

theorem AlarmFrame.modSup (s : State) (d : DoorIx) (f : Supervision → Supervision) : AlarmFrame s (s.modSup d f) :=
  ⟨⟨⟨⟨rfl, rfl, rfl, rfl, rfl, fun _ => rfl, rfl, rfl, rfl, rfl⟩, rfl, rfl, rfl, rfl, rfl⟩, rfl, rfl, rfl⟩,
    rfl, rfl⟩

theorem ScheduleFrame.modFlow (s : State) (h : HpuIx) (f : HpuFlow → HpuFlow) : ScheduleFrame s (s.modFlow h f) :=
  ⟨⟨⟨rfl, rfl, rfl, rfl, rfl, fun _ => rfl, rfl, rfl, rfl, rfl⟩, rfl, rfl, rfl, rfl, rfl⟩, rfl, rfl, rfl⟩

theorem ScheduleFrame.setEntry (s : State) (d : DoorIx) (e : Entry) : ScheduleFrame s (s.setEntry d e) :=
  ⟨⟨⟨rfl, rfl, rfl, rfl, rfl, fun _ => rfl, rfl, rfl, rfl, rfl⟩, rfl, rfl, rfl, rfl, rfl⟩, rfl, rfl, rfl⟩

theorem ScheduleFrame.dropEntry (s : State) (d : DoorIx) : ScheduleFrame s (s.dropEntry d) :=
  ⟨⟨⟨rfl, rfl, rfl, rfl, rfl, fun _ => rfl, rfl, rfl, rfl, rfl⟩, rfl, rfl, rfl, rfl, rfl⟩, rfl, rfl, rfl⟩

theorem ScheduleFrame.queueOrder (s : State) (d : DoorIx) (k : OrderKind) : ScheduleFrame s (queueOrder d k s) :=
  ⟨⟨⟨rfl, rfl, rfl, rfl, rfl, fun _ => rfl, rfl, rfl, rfl, rfl⟩, rfl, rfl, rfl, rfl, rfl⟩, rfl, rfl, rfl⟩

theorem ScheduleFrame.queueOrder? (s : State) (d : DoorIx) (k : Option OrderKind) :
    ScheduleFrame s (queueOrder? d k s) := by
  cases k with
  | none => exact .refl s
  | some k => exact .queueOrder s d k

theorem RunFrame.dropPassage (s : State) (d : DoorIx) : RunFrame s (s.dropPassage d) :=
  ⟨⟨rfl, rfl, rfl, rfl, rfl, fun _ => rfl, rfl, rfl, rfl, rfl⟩, rfl, rfl, rfl, rfl, rfl⟩

theorem RunFrame.makeEntry (s : State) (d : DoorIx) (e : Entry) : RunFrame s (s.makeEntry d e) :=
  ⟨⟨rfl, rfl, rfl, rfl, rfl, fun _ => rfl, rfl, rfl, rfl, rfl⟩, rfl, rfl, rfl, rfl, rfl⟩

theorem RunFrame.modRun (number : Byte) (f : Run → Run) (s : State) : RunFrame s (modRun number f s) :=
  ⟨⟨rfl, rfl, rfl, rfl, rfl, fun _ => rfl, rfl, rfl, rfl, rfl⟩, rfl, rfl, rfl, rfl, rfl⟩

theorem RunFrame.setSlot (s : State) (i : SlotIx) (x : Option Run) : RunFrame s (setSlot i x s) :=
  ⟨⟨rfl, rfl, rfl, rfl, rfl, fun _ => rfl, rfl, rfl, rfl, rfl⟩, rfl, rfl, rfl, rfl, rfl⟩

theorem RunFrame.setSlotting (s : State) (l : List SlotIx) : RunFrame s (setSlotting l s) :=
  ⟨⟨rfl, rfl, rfl, rfl, rfl, fun _ => rfl, rfl, rfl, rfl, rfl⟩, rfl, rfl, rfl, rfl, rfl⟩

theorem RunFrame.setStack (s : State) (l : List Run) : RunFrame s (setStack l s) :=
  ⟨⟨rfl, rfl, rfl, rfl, rfl, fun _ => rfl, rfl, rfl, rfl, rfl⟩, rfl, rfl, rfl, rfl, rfl⟩

theorem RunFrame.setResumed (s : State) (l : List SlotIx) : RunFrame s (setResumed l s) :=
  ⟨⟨rfl, rfl, rfl, rfl, rfl, fun _ => rfl, rfl, rfl, rfl, rfl⟩, rfl, rfl, rfl, rfl, rfl⟩

/-! ### Frames and alarms -/

theorem PlaceFrame.pendSummary (p : PortIx) (s : State) : PlaceFrame s (pendSummary p s) := by
  unfold Machine.pendSummary
  split
  · exact .setPacing ..
  · exact .refl s

theorem PlaceFrame.place (p : PortIx) (f : Frame) (s : State) : PlaceFrame s (place p f s) := by
  unfold Machine.place
  split
  · exact .modPort_queue s p _ fun _ => rfl
  · exact (PlaceFrame.modPort_queue s p _ fun _ => rfl).trans (.pendSummary ..)
  · exact .refl s

theorem PlaceFrame.forEach {ι : Type} {act : ι → State → State} (h : ∀ i s, PlaceFrame s (act i s)) (l : List ι)
    (s : State) : PlaceFrame s (forEach l act s) := forEach_rel .refl .trans h l s

theorem PlaceFrame.notify (c : Change) (r : AlarmRecord) (s : State) : PlaceFrame s (notify c r s) :=
  .forEach (fun _ _ => .place ..) _ s

theorem AlarmFrame.updateRecord (r : AlarmRecord) (s : State) : AlarmFrame s (updateRecord r s) :=
  (AlarmFrame.setRecords ..).trans (PlaceFrame.notify ..).toAlarmFrame

theorem AlarmFrame.createRecord (k : AlarmKind) (x : Nat) (st : AlarmState) (s : State) :
    AlarmFrame s (createRecord k x st s) :=
  (AlarmFrame.setRecords ..).trans (PlaceFrame.notify ..).toAlarmFrame

theorem AlarmFrame.reraise (r : AlarmRecord) (s : State) : AlarmFrame s (reraise r s) := by
  unfold Machine.reraise
  split
  · exact .updateRecord ..
  · exact .refl s

theorem AlarmFrame.raiseListFull (s : State) : AlarmFrame s (raiseListFull s) := by
  unfold Machine.raiseListFull
  split
  · exact .reraise ..
  · exact .createRecord ..

theorem AlarmFrame.loseRaise (s : State) : AlarmFrame s (loseRaise s) :=
  AlarmFrame.trans (t := { s with al := { s.al with lost := satInc 65535 s.al.lost } })
    ⟨⟨⟨⟨rfl, rfl, rfl, rfl, rfl, fun _ => rfl, rfl, rfl, rfl, rfl⟩, rfl, rfl, rfl, rfl, rfl⟩, rfl, rfl, rfl⟩,
      rfl, rfl⟩
    (.raiseListFull _)

theorem AlarmFrame.raiseAlarm (k : AlarmKind) (x : Nat) (s : State) : AlarmFrame s (raiseAlarm k x s) := by
  unfold Machine.raiseAlarm
  split
  · exact .reraise ..
  · split
    · exact .createRecord ..
    · exact .loseRaise s

theorem AlarmFrame.raiseEvent (k : AlarmKind) (x : Nat) (s : State) : AlarmFrame s (raiseEvent k x s) := by
  unfold Machine.raiseEvent
  split
  · split
    · exact .updateRecord ..
    · exact .refl s
  · split
    · exact .createRecord ..
    · exact .loseRaise s

theorem AlarmFrame.onRemoval (r : AlarmRecord) (s : State) : AlarmFrame s (onRemoval r s) := by
  unfold Machine.onRemoval
  split
  · split
    · exact .modSup ..
    · exact .refl s
  · exact .refl s

theorem AlarmFrame.dropRecord (r : AlarmRecord) (s : State) : AlarmFrame s (dropRecord r s) :=
  ((AlarmFrame.setRecords ..).trans (PlaceFrame.notify ..).toAlarmFrame).trans (.onRemoval ..)

theorem AlarmFrame.clearRecord (r : AlarmRecord) (s : State) : AlarmFrame s (clearRecord r s) := by
  unfold Machine.clearRecord
  split
  · exact .updateRecord ..
  · exact .dropRecord ..
  · exact .refl s

theorem AlarmFrame.testListFull (s : State) : AlarmFrame s (testListFull s) := by
  unfold Machine.testListFull
  split
  · split
    · exact .clearRecord ..
    · exact .refl s
  · exact .refl s

theorem AlarmFrame.removeRecord (r : AlarmRecord) (s : State) : AlarmFrame s (removeRecord r s) :=
  (AlarmFrame.dropRecord r s).trans (.testListFull _)

theorem AlarmFrame.clearAlarm (k : AlarmKind) (x : Nat) (s : State) : AlarmFrame s (clearAlarm k x s) := by
  unfold Machine.clearAlarm
  split
  · split
    · exact .removeRecord ..
    · exact .clearRecord ..
  · exact .refl s

theorem AlarmFrame.ackNamed (k : AlarmKind) (x : Nat) (s : State) : AlarmFrame s (ackNamed k x s) := by
  unfold Machine.ackNamed
  split
  · unfold ackRecord
    split
    · exact .updateRecord ..
    · exact .refl s
    · exact .removeRecord ..
  · exact .refl s

theorem AlarmFrame.forEach {ι : Type} {act : ι → State → State} (h : ∀ i s, AlarmFrame s (act i s)) (l : List ι)
    (s : State) : AlarmFrame s (forEach l act s) := forEach_rel .refl .trans h l s

theorem AlarmFrame.ackAll (s : State) : AlarmFrame s (ackAll s) := .forEach (fun _ _ => .ackNamed ..) _ s

theorem AlarmFrame.raiseDoor (k : AlarmKind) (d : DoorIx) (s : State) : AlarmFrame s (raiseDoor k d s) := .raiseAlarm ..

theorem AlarmFrame.clearDoor (k : AlarmKind) (d : DoorIx) (s : State) : AlarmFrame s (clearDoor k d s) := .clearAlarm ..

/-! ### Completion and resume -/

theorem RunFrame.forEach {ι : Type} {act : ι → State → State} (h : ∀ i s, RunFrame s (act i s)) (l : List ι)
    (s : State) : RunFrame s (forEach l act s) := forEach_rel .refl .trans h l s

theorem PlaceFrame.sendReport (m : EndMark) (r : Run) (s : State) : PlaceFrame s (sendReport m r s) :=
  .forEach (fun _ _ => .place ..) _ s

theorem RunFrame.resumeTop (i : SlotIx) (l : List Run) (s : State) : RunFrame s (resumeTop i l s) := by
  induction l generalizing s with
  | nil => exact .setStack ..
  | cons r rest ih =>
    unfold Machine.resumeTop
    split
    · exact (PlaceFrame.sendReport ..).toRunFrame.trans (ih _)
    · have taken := ((RunFrame.setStack s rest).trans (.setSlot _ i (some { r with slot := i }))).trans
        (.setSlotting _ (s.gru.slotting ++ [i]))
      simp only
      split
      · exact taken.trans (.setResumed ..)
      · exact taken

/-- Giving up a slot keeps everything but the slots, the slotting order, the stack, the resumed slots and the queues. -/
theorem RunFrame.vacate (i : SlotIx) (s : State) : RunFrame s (vacate i s) := by
  unfold Machine.vacate
  simp only
  have freed := (RunFrame.setSlot s i none).trans (.setSlotting _ (s.gru.slotting.filter fun k => decide (k ≠ i)))
  split
  · exact freed
  · exact freed.trans (.resumeTop ..)

theorem RunFrame.completeSlot (i : SlotIx) (s : State) : RunFrame s (completeSlot i s) := by
  unfold Machine.completeSlot
  split
  · split
    · exact (PlaceFrame.sendReport ..).toRunFrame.trans (.vacate ..)
    · exact .refl s
  · exact .refl s

/-- The completion of a run keeps everything but GRU and the queues. -/
theorem RunFrame.completeRun (number : Byte) (s : State) : RunFrame s (completeRun number s) := by
  unfold Machine.completeRun completeStacked
  split
  · exact .completeSlot ..
  · split
    · exact (PlaceFrame.sendReport ..).toRunFrame.trans (.setStack ..)
    · exact .refl s

theorem RunFrame.countTag (tag : Option RunTag) (fate : TagFate) (s : State) : RunFrame s (countTag tag fate s) := by
  unfold Machine.countTag
  split
  · exact .modRun ..
  · exact .refl s

/-- A report of a tag keeps everything but GRU and the queues. -/
theorem RunFrame.reportTag (tag : Option RunTag) (fate : TagFate) (s : State) : RunFrame s (reportTag tag fate s) := by
  unfold Machine.reportTag
  split
  · exact (RunFrame.countTag ..).trans (.completeRun ..)
  · exact .refl s

/-- A run that is not complete does not leave its slot. -/
theorem completeSlot_eq_self {i : SlotIx} {s : State} (h : ∀ r ∈ s.gru.slots[i], r.done = false) :
    completeSlot i s = s := by
  unfold Machine.completeSlot
  split
  · next r hr => simp [h r hr]
  · rfl

/-- Where no live run is complete no report completes one. -/
theorem completeRun_eq_self {number : Byte} {s : State} (h : ∀ r ∈ liveRuns s, r.done = false) :
    completeRun number s = s := by
  unfold Machine.completeRun
  split
  · next i _ =>
    refine completeSlot_eq_self fun r hr => h r ?_
    exact List.mem_append_left _ (List.mem_filterMap.mpr ⟨i, List.mem_finRange i, hr⟩)
  · unfold completeStacked
    split
    · next r hr =>
      have found := List.find?_some hr
      have stands := h r (List.mem_append_right _ (List.mem_of_find?_eq_some hr))
      simp [stands] at found
    · rfl

/-! ### Admission -/

theorem ScheduleFrame.evalDelay (h : HpuIx) (s : State) : ScheduleFrame s (evalDelay h s) := by
  unfold Machine.evalDelay
  split
  · split
    · exact .refl s
    · exact (ScheduleFrame.modFlow ..).trans (AlarmFrame.raiseAlarm ..).toScheduleFrame
  · split
    · exact (ScheduleFrame.modFlow ..).trans (AlarmFrame.clearAlarm ..).toScheduleFrame
    · exact .refl s

theorem ScheduleFrame.admitDoor (d : DoorIx) (s : State) : ScheduleFrame s (admitDoor d s) := by
  unfold Machine.admitDoor
  split
  · exact (((ScheduleFrame.setEntry ..).trans (.modFlow ..)).trans (.queueOrder ..)).trans (.evalDelay ..)
  · exact .refl s

theorem ScheduleFrame.overtake (d : DoorIx) (s : State) : ScheduleFrame s (overtake d s) := by
  unfold Machine.overtake
  split
  · exact .setEntry ..
  · exact .refl s

theorem ScheduleFrame.lookAhead (h : HpuIx) (head : DoorIx) (l : List DoorIx) (s : State) :
    ScheduleFrame s (lookAhead h head l s) := by
  induction l generalizing s with
  | nil => exact .refl s
  | cons d rest ih =>
    unfold Machine.lookAhead
    split
    · exact .refl s
    · split
      · exact ((ScheduleFrame.admitDoor ..).trans (.overtake ..)).trans (ih _)
      · exact ih s

theorem ScheduleFrame.passWalk (h : HpuIx) (l : List DoorIx) (s : State) : ScheduleFrame s (passWalk h l s) := by
  induction l generalizing s with
  | nil => exact .refl s
  | cons d rest ih =>
    unfold Machine.passWalk
    split
    · exact (ScheduleFrame.admitDoor d s).trans (ih _)
    · exact .lookAhead ..

/-- An admission pass changes the schedule, the orders, the alarms and the queues alone. -/
theorem ScheduleFrame.pass (h : HpuIx) (s : State) : ScheduleFrame s (pass h s) := .passWalk ..

theorem ScheduleFrame.recomputeE (h : HpuIx) (s : State) : ScheduleFrame s (recomputeE h s) := by
  unfold Machine.recomputeE
  simp only
  split
  · exact .refl s
  · exact (ScheduleFrame.modFlow ..).trans (.pass ..)

theorem ScheduleFrame.forEach {ι : Type} {act : ι → State → State} (h : ∀ i s, ScheduleFrame s (act i s)) (l : List ι)
    (s : State) : ScheduleFrame s (forEach l act s) := forEach_rel .refl .trans h l s

/-! ### Removal, requests and demands -/

theorem RunFrame.endPassage (d : DoorIx) (s : State) : RunFrame s (endPassage d s) :=
  (RunFrame.dropPassage ..).trans (AlarmFrame.clearDoor ..).toRunFrame

theorem RunFrame.recloseGone (d : DoorIx) (dir : Direction) (s : State) : RunFrame s (recloseGone d dir s) := by
  unfold Machine.recloseGone
  split
  · split
    · exact .endPassage ..
    · exact .refl s
  · exact .refl s

theorem RunFrame.takeArrival (d : DoorIx) (s : State) : RunFrame s (takeArrival d s).2 := by
  unfold Machine.takeArrival renumber
  simp only
  split <;>
    exact ⟨⟨rfl, rfl, rfl, rfl, rfl, fun _ => rfl, rfl, rfl, rfl, rfl⟩, rfl, rfl, rfl, rfl, rfl⟩

theorem RunFrame.report (c : RemovalCause) (tag : Option RunTag) (s : State) : RunFrame s (c.report tag s) := by
  unfold RemovalCause.report
  split
  · split
    · exact .countTag ..
    · exact .reportTag ..
  · exact .refl s

theorem RunFrame.takeOut (c : RemovalCause) (d : DoorIx) (s : State) : RunFrame s (takeOut c d s) := by
  unfold Machine.takeOut
  split
  · next e _ =>
    have flow : RunFrame s (if e.phase = .MOVING then
        s.modFlow (s.hpuOf d) fun f => { f with committed := f.committed - s.draw d } else s) := by
      split
      · exact (ScheduleFrame.modFlow ..).toRunFrame
      · exact .refl s
    exact ((flow.trans (.report c e.tag _)).trans ((ScheduleFrame.dropEntry ..).trans (.queueOrder? ..)).toRunFrame).trans
      (.recloseGone ..)
  · exact .refl s

/-- The removal of an entry keeps everything but the schedule, the tags' runs, the passages, the orders, the alarms and the
queues. -/
theorem RunFrame.removeEntry (c : RemovalCause) (d : DoorIx) (s : State) : RunFrame s (removeEntry c d s) := by
  unfold Machine.removeEntry
  split
  · next e _ =>
    have passed : ∀ u, RunFrame u (if e.phase = .WARNING then u else Machine.pass (s.hpuOf d) u) := fun u => by
      split
      · exact .refl u
      · exact (ScheduleFrame.pass ..).toRunFrame
    have tested : ∀ u, RunFrame u (if e.phase = .READY then Machine.evalDelay (s.hpuOf d) u else u) := fun u => by
      split
      · exact (ScheduleFrame.evalDelay ..).toRunFrame
      · exact .refl u
    exact (((RunFrame.takeOut c d s).trans (passed _)).trans (tested _)).trans (AlarmFrame.clearDoor ..).toRunFrame
  · exact .refl s

theorem RunFrame.request {act : DoorIx → State → State} (h : ∀ d s, RunFrame s (act d s)) (l : List DoorIx)
    (s : State) : RunFrame s (request act l s) :=
  (RunFrame.forEach h l s).trans (ScheduleFrame.forEach (fun _ _ => .pass ..) _ _).toRunFrame

theorem RunFrame.removeAll (c : RemovalCause) (l : List DoorIx) (s : State) : RunFrame s (removeAll c l s) :=
  (RunFrame.request (.takeOut c) l s).trans (ScheduleFrame.forEach (fun _ _ => .evalDelay ..) _ _).toRunFrame

theorem RunFrame.dropTag (d : DoorIx) (s : State) : RunFrame s (dropTag d s) := by
  unfold Machine.dropTag
  split
  · exact (ScheduleFrame.setEntry ..).toRunFrame
  · exact .refl s

theorem RunFrame.detachTag (number : Byte) (s : State) : RunFrame s (detachTag number s) := .request .dropTag _ s

theorem RunFrame.cancelTag (number : Byte) (s : State) : RunFrame s (cancelTag number s) := by
  refine (RunFrame.request (fun d s => ?_) _ s).trans (ScheduleFrame.forEach (fun _ _ => .evalDelay ..) _ _).toRunFrame
  unfold cancelOne
  split
  · split
    · exact .dropTag ..
    · exact .takeOut ..
  · exact .refl s

theorem RunFrame.ite {c : Prop} [Decidable c] {s a b : State} (h : RunFrame s a) (k : RunFrame s b) :
    RunFrame s (if c then a else b) := by
  split
  · exact h
  · exact k

theorem RunFrame.enqueue (m : Demand) (s : State) : RunFrame s (enqueue m s) := by
  unfold Machine.enqueue
  simp only
  exact ((RunFrame.takeArrival m.door s).trans (.makeEntry ..)).trans
    (.ite (ScheduleFrame.queueOrder ..).toRunFrame (ScheduleFrame.pass ..).toRunFrame)

theorem RunFrame.merge (m : Demand) (e : Entry) (s : State) : RunFrame s (merge m e s) := by
  unfold Machine.merge
  simp only
  refine (ScheduleFrame.setEntry s m.door (e.merged m)).toRunFrame.trans ?_
  split
  · exact (ScheduleFrame.pass ..).toRunFrame
  · exact .refl _

theorem RunFrame.endBeaten (m : Demand) (s : State) : RunFrame s (endBeaten m s) := by
  unfold Machine.endBeaten
  split
  · exact .endPassage ..
  · exact .refl s

theorem RunFrame.replace (m : Demand) (e : Entry) (s : State) : RunFrame s (replace m e s) := by
  unfold Machine.replace
  simp only
  exact ((((((RunFrame.endBeaten m s).trans (.recloseGone ..)).trans (.reportTag e.tag .overruled _)).trans
    (.takeArrival m.door _)).trans (ScheduleFrame.setEntry ..).toRunFrame).trans
    ((ScheduleFrame.queueOrder? ..).trans (.pass ..)).toRunFrame).trans
    (.ite (ScheduleFrame.evalDelay ..).toRunFrame (.refl _))

theorem RunFrame.reverseEntry (m : Demand) (e : Entry) (s : State) : RunFrame s (reverseEntry m e s) :=
  (RunFrame.reportTag ..).trans ((ScheduleFrame.setEntry ..).trans (.queueOrder ..)).toRunFrame

theorem RunFrame.reverse (m : Demand) (e : Entry) (s : State) : RunFrame s (reverse m e s) := by
  unfold Machine.reverse
  simp only
  exact (((RunFrame.endBeaten m s).trans (.recloseGone ..)).trans (.reverseEntry m e _)).trans
    (.ite (ScheduleFrame.pass ..).toRunFrame (.refl _))

/-- The decision of a demand keeps everything but the schedule, the displaced tag's run, the passage and the open-at-sea
timer of the door, the orders, the alarms and the queues. -/
theorem RunFrame.decideDemand (m : Demand) (s : State) : RunFrame s (decideDemand m s).2 := by
  unfold Machine.decideDemand
  split
  · exact .refl s
  split
  · exact .refl s
  split
  · exact .refl s
  unfold decideClaims
  split
  · split
    · exact .merge ..
    split
    · split
      · exact .reverse ..
      · exact .replace ..
    · exact .refl s
  · split
    · unfold settleDemand
      split
      · exact .endBeaten ..
      · exact (RunFrame.endBeaten m s).trans (.enqueue ..)
    · exact .refl s

/-! ### Runs -/

theorem RunFrame.advance (i : SlotIx) (s : State) : RunFrame s (advance i s) := by
  unfold Machine.advance
  split
  · exact (RunFrame.setSlot ..).trans (.completeSlot ..)
  · exact .refl s

theorem RunFrame.submitAt (i : SlotIx) (s : State) : RunFrame s (submitAt i s) := by
  unfold Machine.submitAt
  split
  · next r _ =>
    split
    · next d _ =>
      exact ((RunFrame.decideDemand (r.demand d) s).trans (.modRun ..)).trans (.advance i _)
    · exact .advance i s
  · exact .refl s

theorem RunFrame.bypassAt (i : SlotIx) (s : State) : RunFrame s (bypassAt i s) := by
  unfold Machine.bypassAt raiseBypass
  split
  · split
    · exact (AlarmFrame.raiseEvent ..).toRunFrame.trans (.submitAt ..)
    · exact .submitAt ..
  · exact .refl s

theorem RunFrame.takeListEntry (i : SlotIx) (age : Nat) (s : State) : RunFrame s (takeListEntry i age s) := by
  unfold Machine.takeListEntry
  split
  · split
    · split
      · exact .submitAt ..
      · exact .bypassAt ..
      · unfold setStage
        split
        · exact .setSlot ..
        · exact .refl s
    · exact .submitAt ..
  · exact .refl s

theorem RunFrame.walkStep (i : SlotIx) (s : State) : RunFrame s (walkStep i s) := by
  unfold Machine.walkStep
  split
  · exact .takeListEntry ..
  · exact .refl s

theorem RunFrame.lookAgain (i : SlotIx) (s : State) : RunFrame s (lookAgain i s) := by
  unfold Machine.lookAgain
  split
  · exact .takeListEntry ..
  · exact .refl s

theorem RunFrame.forWaiting (d : DoorIx) {act : SlotIx → State → State} (h : ∀ i s, RunFrame s (act i s)) (s : State) :
    RunFrame s (forWaiting d act s) := .forEach h _ s

theorem RunFrame.pokeRuns (d : DoorIx) (s : State) : RunFrame s (pokeRuns d s) := by
  refine .forWaiting d (fun i u => ?_) s
  unfold hearPresentation
  split
  · split
    · exact .submitAt ..
    · split
      · exact .bypassAt ..
      · exact .refl u
  · exact .refl u

theorem RunFrame.bypassWaits (d : DoorIx) (s : State) : RunFrame s (bypassWaits d s) := .forWaiting d .bypassAt s

theorem RunFrame.settleOne (s : State) : RunFrame s (settleOne s) := by
  unfold Machine.settleOne
  split
  · simp only
    split
    · exact (RunFrame.setResumed ..).trans (.lookAgain ..)
    · exact .setResumed ..
  · exact .refl s

/-- Where no run has resumed no run looks again. -/
theorem settleRuns_eq_self {s : State} (h : s.gru.resumed = []) : settleRuns s = s := by
  have still : Machine.settleOne s = s := by unfold Machine.settleOne; rw [h]
  unfold Machine.settleRuns Machine.forEach
  induction List.range (s.gru.resumed.length + s.gru.stack.length) with
  | nil => rfl
  | cons _ rest ih => simpa only [List.foldl_cons, still] using ih

/-- The look of resumed runs keeps everything but the runs, what their demands change, and the queues. -/
theorem RunFrame.settleRuns (s : State) : RunFrame s (settleRuns s) := .forEach (fun _ => .settleOne) _ s

theorem RunFrame.cancelRun (r : Run) (s : State) : RunFrame s (cancelRun r s) := by
  unfold Machine.cancelRun
  simp only
  have told := (RunFrame.cancelTag r.number s).trans (PlaceFrame.sendReport .CANCELLED r _).toRunFrame
  split
  · exact told.trans (.vacate ..)
  · exact told.trans (.setStack ..)

theorem RunFrame.faultDoor (k : Latch) (d : DoorIx) (s : State) : RunFrame s (faultDoor k d s) :=
  (((RunFrame.removeEntry (.FAULT k) d s).trans (AlarmFrame.modSup ..).toRunFrame).trans
    (AlarmFrame.raiseDoor ..).toRunFrame).trans (.bypassWaits ..)

/-! ### Mode entries -/

theorem BlockFrame.setMode (m : Mode) (s : State) : BlockFrame s (setMode m s) :=
  ⟨rfl, rfl, rfl, rfl, rfl, fun _ => rfl, rfl, rfl, rfl, rfl⟩

theorem BlockFrame.takeSlot (i : SlotIx) (g : GroupRef) (dir : Direction) (cls : Nat) (x : SourceGroup) (o : RunOrigin)
    (s : State) : BlockFrame s (takeSlot i g dir cls x o s) := by
  unfold Machine.takeSlot
  simp only
  split <;> exact ⟨rfl, rfl, rfl, rfl, rfl, fun _ => rfl, rfl, rfl, rfl, rfl⟩

theorem BlockFrame.launchSystem (cls : Nat) (o : RunOrigin) (s : State) : BlockFrame s (launchSystem cls o s) := by
  unfold Machine.launchSystem
  refine BlockFrame.trans (t := Machine.settleRuns s) (RunFrame.settleRuns s).toBlockFrame ?_
  simp only
  split
  · exact (RunFrame.detachTag ..).toBlockFrame.trans (.takeSlot ..)
  · exact .takeSlot ..

theorem BlockFrame.forEach {ι : Type} {act : ι → State → State} (h : ∀ i s, BlockFrame s (act i s)) (l : List ι)
    (s : State) : BlockFrame s (forEach l act s) := forEach_rel .refl .trans h l s

/-- An entry into EMERGENCY keeps the tables, the store, the pins, the clock, SP but for its queues, RC but for its orders,
IB but for pending flags, the sea fields and the line. -/
theorem BlockFrame.enterEmergency (c : EmergencyCause) (s : State) : BlockFrame s (enterEmergency c s) := by
  unfold Machine.enterEmergency raiseForEmergency denyForEmergency reverseForEmergency
  refine BlockFrame.trans ?_ (.launchSystem ..)
  refine BlockFrame.trans ?_ (.forEach (fun d u => ?_) _ _)
  · refine ((BlockFrame.setMode .EMERGENCY s).trans (RunFrame.request (fun d u => ?_) _ _).toBlockFrame).trans
      ((RunFrame.removeAll ..).toBlockFrame.trans (RunFrame.request (fun d u => ?_) _ _).toBlockFrame)
    · unfold raiseEntry
      split
      · exact (ScheduleFrame.setEntry ..).toRunFrame
      · exact .refl u
    · unfold reverseOne
      split
      · exact .reverseEntry ..
      · exact .refl u
  · unfold takePassage
    split
    · split
      · exact .refl u
      · exact ((RunFrame.endPassage d u).trans (.decideDemand ..)).toBlockFrame
    · exact .refl u

theorem BlockFrame.enterClosedFromLocal (s : State) : BlockFrame s (enterClosedFromLocal s) :=
  (BlockFrame.setMode .CLOSED s).trans (.launchSystem ..)

end Sys2Proof.Machine
end

