-- ==== Sys2Proof/Laws/PerInstr.lean ====
section
/-!
SUPPORT. The per-instruction family `Coded`: the kind codes under which a command crosses a port (R190, R191).
-/
namespace Sys2Proof.Laws

set_option Elab.async false

/-- A command that crosses a station port has a command kind of R191 and is no ring frame; a frame that a ring port takes
has the kind of a LOOP copy or of a node (R190). -/
def Coded.Statement (c : Instr) : Prop :=
  (∀ x ∈ encodeStationCommand c, 1 ≤ x.2.1.toNat ∧ x.2.1.toNat ≤ 16 ∧ encodeRingCommand c = none)
  ∧ ∀ x ∈ encodeRingCommand c, x.2.2.2.1.toNat ∈ [6, 17, 18, 19]

theorem Coded.heartbeat (port : PortIx) : Coded.Statement (.heartbeat port) := by
  simp [Coded.Statement, encodeStationCommand, encodeRingCommand]
theorem Coded.modeSetLocal (port : PortIx) : Coded.Statement (.modeSetLocal port) := by
  simp [Coded.Statement, encodeStationCommand, encodeRingCommand]
theorem Coded.modeSetClosed (port : PortIx) : Coded.Statement (.modeSetClosed port) := by
  simp [Coded.Statement, encodeStationCommand, encodeRingCommand]
theorem Coded.modeSetEmergency (port : PortIx) : Coded.Statement (.modeSetEmergency port) := by
  simp [Coded.Statement, encodeStationCommand, encodeRingCommand]
theorem Coded.doorClose (port : PortIx) (door cls : Byte) : Coded.Statement (.doorClose port door cls) := by
  simp [Coded.Statement, encodeStationCommand, encodeRingCommand]
theorem Coded.doorOpen (port : PortIx) (door cls : Byte) : Coded.Statement (.doorOpen port door cls) := by
  simp [Coded.Statement, encodeStationCommand, encodeRingCommand]
theorem Coded.groupClose (port : PortIx) (group cls : Byte) : Coded.Statement (.groupClose port group cls) := by
  simp [Coded.Statement, encodeStationCommand, encodeRingCommand]
theorem Coded.groupOpen (port : PortIx) (group cls : Byte) : Coded.Statement (.groupOpen port group cls) := by
  simp [Coded.Statement, encodeStationCommand, encodeRingCommand]
theorem Coded.runCancel (port : PortIx) (run : Byte) : Coded.Statement (.runCancel port run) := by
  simp [Coded.Statement, encodeStationCommand, encodeRingCommand]
theorem Coded.alarmAck (port : PortIx) (kind subject : Byte) : Coded.Statement (.alarmAck port kind subject) := by
  simp [Coded.Statement, encodeStationCommand, encodeRingCommand]
theorem Coded.alarmAckAll (port : PortIx) : Coded.Statement (.alarmAckAll port) := by
  simp [Coded.Statement, encodeStationCommand, encodeRingCommand]
theorem Coded.snapshotReq (port : PortIx) : Coded.Statement (.snapshotReq port) := by
  simp [Coded.Statement, encodeStationCommand, encodeRingCommand]
theorem Coded.tableWriteDoor (port : PortIx) (index : Byte) (image : List Byte) : Coded.Statement (.tableWriteDoor port index image) := by
  simp [Coded.Statement, encodeStationCommand, encodeRingCommand]
theorem Coded.tableWriteHpu (port : PortIx) (index : Byte) (image : List Byte) : Coded.Statement (.tableWriteHpu port index image) := by
  simp [Coded.Statement, encodeStationCommand, encodeRingCommand]
theorem Coded.tableWriteGroup (port : PortIx) (index : Byte) (image : List Byte) : Coded.Statement (.tableWriteGroup port index image) := by
  simp [Coded.Statement, encodeStationCommand, encodeRingCommand]
theorem Coded.tableWritePermitRow (port : PortIx) (index : Byte) (image : List Byte) : Coded.Statement (.tableWritePermitRow port index image) := by
  simp [Coded.Statement, encodeStationCommand, encodeRingCommand]
theorem Coded.tableWriteSystemRecord (port : PortIx) (index : Byte) (image : List Byte) : Coded.Statement (.tableWriteSystemRecord port index image) := by
  simp [Coded.Statement, encodeStationCommand, encodeRingCommand]
theorem Coded.tableReadDoorConfig (port : PortIx) (first count : Byte) : Coded.Statement (.tableReadDoorConfig port first count) := by
  simp [Coded.Statement, encodeStationCommand, encodeRingCommand]
theorem Coded.tableReadDoorState (port : PortIx) (first count : Byte) : Coded.Statement (.tableReadDoorState port first count) := by
  simp [Coded.Statement, encodeStationCommand, encodeRingCommand]
theorem Coded.tableReadHpuConfig (port : PortIx) (first count : Byte) : Coded.Statement (.tableReadHpuConfig port first count) := by
  simp [Coded.Statement, encodeStationCommand, encodeRingCommand]
theorem Coded.tableReadHpuState (port : PortIx) (first count : Byte) : Coded.Statement (.tableReadHpuState port first count) := by
  simp [Coded.Statement, encodeStationCommand, encodeRingCommand]
theorem Coded.tableReadGroup (port : PortIx) (first count : Byte) : Coded.Statement (.tableReadGroup port first count) := by
  simp [Coded.Statement, encodeStationCommand, encodeRingCommand]
theorem Coded.tableReadPermitConfig (port : PortIx) (first count : Byte) : Coded.Statement (.tableReadPermitConfig port first count) := by
  simp [Coded.Statement, encodeStationCommand, encodeRingCommand]
theorem Coded.tableReadPermitState (port : PortIx) (first count : Byte) : Coded.Statement (.tableReadPermitState port first count) := by
  simp [Coded.Statement, encodeStationCommand, encodeRingCommand]
theorem Coded.tableReadSystemRecord (port : PortIx) (first count : Byte) : Coded.Statement (.tableReadSystemRecord port first count) := by
  simp [Coded.Statement, encodeStationCommand, encodeRingCommand]
theorem Coded.tableReadAlarmList (port : PortIx) (first count : Byte) : Coded.Statement (.tableReadAlarmList port first count) := by
  simp [Coded.Statement, encodeStationCommand, encodeRingCommand]
theorem Coded.counterReadStation (port : PortIx) (clear : Byte) : Coded.Statement (.counterReadStation port clear) := by
  simp [Coded.Statement, encodeStationCommand, encodeRingCommand]
theorem Coded.counterReadRing (port : PortIx) (clear : Byte) : Coded.Statement (.counterReadRing port clear) := by
  simp [Coded.Statement, encodeStationCommand, encodeRingCommand]
theorem Coded.commission (port : PortIx) : Coded.Statement (.commission port) := by
  simp [Coded.Statement, encodeStationCommand, encodeRingCommand]
theorem Coded.decommission (port : PortIx) : Coded.Statement (.decommission port) := by
  simp [Coded.Statement, encodeStationCommand, encodeRingCommand]
theorem Coded.save (port : PortIx) : Coded.Statement (.save port) := by
  simp [Coded.Statement, encodeStationCommand, encodeRingCommand]
theorem Coded.restart (port : PortIx) : Coded.Statement (.restart port) := by
  simp [Coded.Statement, encodeStationCommand, encodeRingCommand]
theorem Coded.stationFrameDiscarded (port : PortIx) (bytes : List RxByte) : Coded.Statement (.stationFrameDiscarded port bytes) := by
  simp [Coded.Statement, encodeStationCommand, encodeRingCommand]
theorem Coded.stationInterbyteTimeout (port : PortIx) (bytes : List RxByte) : Coded.Statement (.stationInterbyteTimeout port bytes) := by
  simp [Coded.Statement, encodeStationCommand, encodeRingCommand]
theorem Coded.stationFrameSent (port : PortIx) : Coded.Statement (.stationFrameSent port) := by
  simp [Coded.Statement, encodeStationCommand, encodeRingCommand]
theorem Coded.snapshotPartSent (port : PortIx) : Coded.Statement (.snapshotPartSent port) := by
  simp [Coded.Statement, encodeStationCommand, encodeRingCommand]
theorem Coded.saveComplete : Coded.Statement .saveComplete := by
  simp [Coded.Statement, encodeStationCommand, encodeRingCommand]
theorem Coded.warmRestart : Coded.Statement .warmRestart := by
  simp [Coded.Statement, encodeStationCommand, encodeRingCommand]
theorem Coded.resetAsserted : Coded.Statement .resetAsserted := by
  simp [Coded.Statement, encodeStationCommand, encodeRingCommand]
theorem Coded.coldStart : Coded.Statement .coldStart := by
  simp [Coded.Statement, encodeStationCommand, encodeRingCommand]
theorem Coded.emergencyCloseAsserted : Coded.Statement .emergencyCloseAsserted := by
  simp [Coded.Statement, encodeStationCommand, encodeRingCommand]
theorem Coded.emergencyCloseReleased : Coded.Statement .emergencyCloseReleased := by
  simp [Coded.Statement, encodeStationCommand, encodeRingCommand]
theorem Coded.report (port : RingPort) (src seq : Byte) (bits : ReportBits) : Coded.Statement (.report port src seq bits) := by
  simp [Coded.Statement, encodeStationCommand, encodeRingCommand]
theorem Coded.event (port : RingPort) (src seq : Byte) (handle : HandleCode) (lowPressure sensorFault : Bool) : Coded.Statement (.event port src seq handle lowPressure sensorFault) := by
  simp [Coded.Statement, encodeStationCommand, encodeRingCommand]
theorem Coded.hpuReport (port : RingPort) (src seq : Byte) (state : HpuCode) (pressure : Nat) : Coded.Statement (.hpuReport port src seq state pressure) := by
  cases state <;> simp [Coded.Statement, encodeStationCommand, encodeRingCommand]
theorem Coded.loopCopy (port : RingPort) (seq : Byte) : Coded.Statement (.loopCopy port seq) := by
  simp [Coded.Statement, encodeStationCommand, encodeRingCommand]
theorem Coded.ringFrameDiscarded (port : RingPort) (bytes : List RxByte) : Coded.Statement (.ringFrameDiscarded port bytes) := by
  simp [Coded.Statement, encodeStationCommand, encodeRingCommand]
theorem Coded.ringInterbyteTimeout (port : RingPort) (bytes : List RxByte) : Coded.Statement (.ringInterbyteTimeout port bytes) := by
  simp [Coded.Statement, encodeStationCommand, encodeRingCommand]
theorem Coded.orderSend : Coded.Statement .orderSend := by
  simp [Coded.Statement, encodeStationCommand, encodeRingCommand]
theorem Coded.pollSend : Coded.Statement .pollSend := by
  simp [Coded.Statement, encodeStationCommand, encodeRingCommand]
theorem Coded.replyLimitExpiry : Coded.Statement .replyLimitExpiry := by
  simp [Coded.Statement, encodeStationCommand, encodeRingCommand]
theorem Coded.loopTimerExpiry : Coded.Statement .loopTimerExpiry := by
  simp [Coded.Statement, encodeStationCommand, encodeRingCommand]
theorem Coded.loopIntervalExpiry : Coded.Statement .loopIntervalExpiry := by
  simp [Coded.Statement, encodeStationCommand, encodeRingCommand]
theorem Coded.reportAgeExpiry (hpu : HpuIx) : Coded.Statement (.reportAgeExpiry hpu) := by
  simp [Coded.Statement, encodeStationCommand, encodeRingCommand]
theorem Coded.supervisionTick : Coded.Statement .supervisionTick := by
  simp [Coded.Statement, encodeStationCommand, encodeRingCommand]
theorem Coded.secondsCounterIncrement : Coded.Statement .secondsCounterIncrement := by
  simp [Coded.Statement, encodeStationCommand, encodeRingCommand]
theorem Coded.preWarningExpiry (door : DoorIx) : Coded.Statement (.preWarningExpiry door) := by
  simp [Coded.Statement, encodeStationCommand, encodeRingCommand]
theorem Coded.readyAgeExpiry (door : DoorIx) : Coded.Statement (.readyAgeExpiry door) := by
  simp [Coded.Statement, encodeStationCommand, encodeRingCommand]
theorem Coded.startWindowExpiry (door : DoorIx) : Coded.Statement (.startWindowExpiry door) := by
  simp [Coded.Statement, encodeStationCommand, encodeRingCommand]
theorem Coded.deadlineExpiry (door : DoorIx) : Coded.Statement (.deadlineExpiry door) := by
  simp [Coded.Statement, encodeStationCommand, encodeRingCommand]
theorem Coded.hardLimitExpiry (door : DoorIx) : Coded.Statement (.hardLimitExpiry door) := by
  simp [Coded.Statement, encodeStationCommand, encodeRingCommand]
theorem Coded.waitAgeExpiry (slot : SlotIx) : Coded.Statement (.waitAgeExpiry slot) := by
  simp [Coded.Statement, encodeStationCommand, encodeRingCommand]
theorem Coded.heldTimeExpiry (door : DoorIx) : Coded.Statement (.heldTimeExpiry door) := by
  simp [Coded.Statement, encodeStationCommand, encodeRingCommand]
theorem Coded.openAtSeaTimerExpiry (door : DoorIx) : Coded.Statement (.openAtSeaTimerExpiry door) := by
  simp [Coded.Statement, encodeStationCommand, encodeRingCommand]
theorem Coded.heartbeatWindowExpiry (port : PortIx) : Coded.Statement (.heartbeatWindowExpiry port) := by
  simp [Coded.Statement, encodeStationCommand, encodeRingCommand]
theorem Coded.summaryElapsedExpiry (port : PortIx) : Coded.Statement (.summaryElapsedExpiry port) := by
  simp [Coded.Statement, encodeStationCommand, encodeRingCommand]
theorem Coded.walkStep (slot : SlotIx) : Coded.Statement (.walkStep slot) := by
  simp [Coded.Statement, encodeStationCommand, encodeRingCommand]
theorem Coded.codeThatNamesNothing (port : PortIx) (code : UnknownCode) : Coded.Statement (.codeThatNamesNothing port code) := by
  cases code <;> simp [Coded.Statement, encodeStationCommand, encodeRingCommand]

end Sys2Proof.Laws
end

