-- ==== Sys2Proof/Tests/Slice0.lean ====
section
/-!
SUPPORT. Tests: the checks of WellFormed against ill-formed commands, worked figures and tables of the manual, small
steps, and for each statement with hypotheses states and operands that meet them, clause by clause. Expected results are
the manual's.
-/
namespace Sys2Proof.Tests
open Sys2Proof.Machine

set_option Elab.async false

/-! ### WellFormed refuses ill-formed commands (R190, R191, R168, R101) -/

theorem test_wf_refuses_node_0_and_127 :
    (Instr.report .EAST 0 0 ⟨true, false, .NONE, .IDLE, false, false⟩).wf = false
    ∧ (Instr.event .WEST 127 0 .IDLE false false).wf = false := by decide
theorem test_wf_refuses_pressure_4096 : (Instr.hpuReport .EAST 1 0 .READY 4096).wf = false := by decide
theorem test_wf_refuses_ack_kind_255 : (Instr.alarmAck 0 255 0).wf = false := by decide
theorem test_wf_refuses_image_lengths :
    (Instr.tableWriteDoor 3 0 (List.replicate 15 0)).wf = false
    ∧ (Instr.tableWriteHpu 3 0 (List.replicate 9 0)).wf = false
    ∧ (Instr.tableWritePermitRow 3 0 []).wf = false
    ∧ (Instr.tableWriteSystemRecord 3 0 (List.replicate 8 0)).wf = false := by decide
theorem test_wf_refuses_group_image_of_other_count : (Instr.tableWriteGroup 3 6 [1, 20, 3, 25, 252, 104, 193, 227]).wf = false := by
  decide
theorem test_wf_refuses_code_that_names_something :
    (Instr.codeThatNamesNothing 0 (.modeSet 2)).wf = false ∧ (Instr.codeThatNamesNothing 0 (.tableWrite 0 [0])).wf = false
    ∧ (Instr.codeThatNamesNothing 0 (.tableRead 8 0 0)).wf = false
    ∧ (Instr.codeThatNamesNothing 0 (.counterRead 1 0)).wf = false := by decide
theorem test_wf_refuses_table_write_without_index : (Instr.codeThatNamesNothing 0 (.tableWrite 9 [])).wf = false := by decide
theorem test_wf_refuses_wait_of_slot_S : (Instr.waitAgeExpiry 4).wf = false := by decide

/-! ### Worked figures and frames of the manual -/

/-- R189: the nine bytes 0x31 to 0x39 give 0x29B1. -/
theorem test_crc16_check_value : crc16 [0x31, 0x32, 0x33, 0x34, 0x35, 0x36, 0x37, 0x38, 0x39] = 0x29B1#16 := by
  decide +kernel
/-- 11.5, worked example: group 6 of Group Runs, 42 bits in 6 bytes. -/
theorem test_group_image :
    GroupRec.decode [1, 20, 3, 25, 252, 104, 193, 227, 64] = ⟨1, 20, 3, [⟨12, 127⟩, ⟨13, 12⟩, ⟨15, 13⟩]⟩
    ∧ (⟨1, 20, 3, [⟨12, 127⟩, ⟨13, 12⟩, ⟨15, 13⟩]⟩ : GroupRec).encode = [1, 20, 3, 25, 252, 104, 193, 227, 64] := by decide
/-- 3.6, the table of effective capacities. -/
theorem test_capacity_table :
    capacityFor .READY 600 1320 1600 = 495 ∧ capacityFor .READY 600 1750 1600 = 600 ∧ capacityFor .READY 600 800 1600 = 300
    ∧ capacityFor .READY 600 0 1600 = 0 ∧ capacityFor .LOST 600 7 1600 = 150 ∧ capacityFor .UNKNOWN 3 7 100 = 0
    ∧ capacityFor .READY 4000 4095 4000 = 4000 := by decide
/-- 4.2, the table of deadlines and hard limits. -/
theorem test_deadline_table :
    ([(247, 15), (300, 10), (333, 7), (200, 20), (180, 20), (1200, 80), (1500, 100), (10, 0)].map fun x =>
      (deadlineOf x.1 x.2, hardLimitOf (deadlineOf x.1 x.2)))
    = [(285, 570), (330, 660), (357, 714), (240, 480), (216, 432), (2160, 4095), (3000, 4095), (10, 20)] := by decide
/-- 11.4: DOOR_CLOSE is kind 3 with a door and a class, MODE_SET kind 2 with a mode. -/
theorem test_station_kinds :
    decodeStationCommand 0 3 [14, 2] = some (.doorClose 0 14 2) ∧ decodeStationCommand 1 2 [1] = some (.modeSetClosed 1)
    ∧ decodeStationCommand 0 8 [255, 9] = some (.alarmAckAll 0) ∧ decodeStationCommand 0 3 [14] = none := by decide
/-- 11.3: a REPORT of closed limit, motion CLOSING, handle CLOSE, low pressure. -/
theorem test_report_bits :
    decodeReportBits 0b01100101 = some ⟨true, false, .CLOSING, .CLOSE, true, false⟩ ∧ decodeReportBits 0b00001100 = none := by
  decide
theorem test_no_table_word_is_a_command : decodeTableWord 32 0 = none ∧ decodeTableWord 8 255 = none := by decide

/-! ### A small part: two doors on one HPU, four stations -/

/-- A present door: its address, draw, pre-warning and class. -/
def door (node draw preWarn cls : Nat) : DoorConfig := ⟨1, node, 0, 1, 0, draw, 10, 10, 0, preWarn, cls, 60⟩

/-- Door 0 STANDARD with a pre-warning and door 1 ESCAPE without, HPU 0, group 0 of both doors, a row for each role. -/
def tables : Tables where
  doors := (Tables.blank.doors.set 0 (door 1 30 50 0)).set 1 (door 2 20 0 1)
  hpus := Tables.blank.hpus.set 0 ⟨1, 10, 100, 10, 100⟩
  groups := Tables.blank.groups.set 0 ⟨1, 30, 2, [⟨0, 127⟩, ⟨1, 0⟩]⟩
  permits := (((Tables.blank.permits.set 0 ⟨1, 0, 2, 0xFFFFFF, 3, 31, 1⟩).set 1 ⟨2, 0, 3, 0xFFFFFF, 0, 0, 0⟩).set 2
    ⟨3, 1, 1, 0, 0, 0, 0⟩).set 3 ⟨4, 0, 0, 0, 0, 0, 0⟩
  system := ⟨1, 5, 3, 2, 30, 5, 30, 1⟩

/-- A door that reports have shown OPEN, its handle IDLE. -/
def seen : Reported := ⟨.OPEN, .IDLE, false, false, false, 0, true⟩

/-- A part with these tables that stands OPEN at every present door, its line released. -/
def partWith (p : PartState) (m : Mode) : State :=
  let s := { State.reset with
    tables := tables
    cfs := ⟨p, .GOOD, none, [], false, []⟩
    cs := { Cs.empty with flow := Cs.empty.flow.set 0 ⟨0, 100, false⟩ }
    mc := { Mc.cold false with mode := m }
    rc := { Rc.cold with
      reported := (Rc.cold.reported.set 0 seen).set 1 seen
      hpus := Rc.cold.hpus.set 0 ⟨.READY, 100, 0⟩
      polled := some 0 }
    al := ⟨[], 0, false⟩ }
  { s with ib := { s.ib with comps := Vector.ofFn (compIndication s) } }

/-- The part IN_SERVICE in mode CLOSED. -/
def base : State := partWith .IN_SERVICE .CLOSED
/-- The part IN_SERVICE in mode LOCAL. -/
def local' : State := partWith .IN_SERVICE .LOCAL
/-- The part IN_SERVICE in mode EMERGENCY. -/
def emergency : State := partWith .IN_SERVICE .EMERGENCY
/-- The part UNCONFIGURED, no door polled. -/
def idle : State :=
  let s := partWith .UNCONFIGURED .LOCAL
  { s with rc := { s.rc with polled := none } }

/-- An entry of class 1 in a phase. -/
def entry (dir : Direction) (ph : Phase) : Entry :=
  { direction := dir, cls := 1, group := .A, origin := .STATION 0, tag := none, arrival := 0, phase := ph,
    warnRemaining := 0, readyAge := 0, overtaken := 0, repeatUsed := false, started := false, elapsed := 0, deadline := 10,
    hardLimit := 20, overtimeRaised := false, startWindow := 20, moveWarn := true }

/-- The entry carries the tag of a run. -/
def Entry.of (e : Entry) (number : Byte) : Entry := { e with tag := some ⟨0, number⟩ }

/-- A run of port 0 in slot 0, class 1, WALKING. -/
def run (number : Byte) : Run := newRun 0 (.stored 0) .CLOSE 1 .A (.STATION 0) number

/-- A run stands in a slot. -/
def inSlot (i : SlotIx) (r : Run) (s : State) : State := setSlot i (some { r with slot := i, acceptedIn := i }) s

/-- Door 0 shows a position. -/
def shows (x : Position) (s : State) : State := s.modReported 0 fun r => { r with position := x }

/-- The latch of door 0 is set. -/
def latched (s : State) : State := s.modSup 0 fun m => { m with latch := .STALLED }

/-- A demand of class 1 on door 0. -/
def demand (dir : Direction) : Demand := ⟨0, dir, 1, .A, .STATION 0, none⟩

/-- The state a command leaves. -/
def after (c : Instr) (s : State) : State :=
  match exec c s with
  | .next t => t
  | .fault _ | .refused _ => s

/-- An ACTIVE_UNACK alarm record. -/
def record (k : AlarmKind) (x : Nat) (st : AlarmState) : AlarmRecord := ⟨k, x, st, 0, 1⟩

/-- The alarm list holds these records. -/
def listing (l : List AlarmRecord) (s : State) : State := setRecords l s

/-- The part with a MOVING entry, a WALKING run, an order, an alarm and a waiting command. -/
def busy : State :=
  let s := (base.setEntry 1 (Entry.of (entry .CLOSE .MOVING) 5)).modFlow 0 fun f => { f with committed := 20 }
  let s := setSlotting [0] (inSlot 0 { run 5 with outstanding := 1 } (listing [record .DOOR_SILENT 0 .ACTIVE_UNACK] s))
  { (queueOrder 1 .STOP s) with cs := { s.cs with nextArrival := 1 }, pending := [.orderSend] }

/-- Run 5 is TRACKING in slot 0, with one entry, at door 0. -/
def tracking (e : Entry) : State :=
  setSlotting [0] (inSlot 0 { run 5 with outstanding := 1, state := .TRACKING } (base.setEntry 0 (Entry.of e 5)))

/-! ### Completion at the report (R48, R97, R98) -/

/-- R48, R97: the deny ends the run of slot 2 before the reverse ends that of slot 0, so the stack top resumes into slot
2. -/
theorem test_completes_at_the_report :
    let ends := fun (n : Byte) => { run n with state := .TRACKING, outstanding := 1 }
    let s := { base with tables := { tables with doors := tables.doors.set 1 (door 2 20 0 0) } }
    let s := (s.setEntry 0 (Entry.of (entry .OPEN .READY) 6)).setEntry 1 (Entry.of (entry .OPEN .MOVING) 5)
    let t := enterEmergency .LINE (setStack [ends 7] (inSlot 0 (ends 5) (inSlot 2 (ends 6) s)))
    (t.gru.slots[(2 : SlotIx)]).map Run.number = some 7 ∧ t.gru.slots[(0 : SlotIx)] = none ∧ t.gru.stack = [] := by
  decide +kernel
/-- R102, R108: the flush that takes the last entry of a TRACKING run neither completes it nor lets a context resume. -/
theorem test_flush_completes_no_run :
    let s := setStack [run 7] (tracking (entry .CLOSE .WARNING))
    (flush s).gru.slots[(0 : SlotIx)] = some { run 5 with state := .TRACKING, overruled := 1 } ∧ (flush s).gru.stack = [run 7]
    ∧ reportsAt (abortRuns (flush s)) 0 = [] ∧ (flush s).entry 0 = none := by decide +kernel
/-- R98, R100: a run that resumes WAITING finds its precondition met and submits its demand, the last of its list. -/
theorem test_resumed_run_looks :
    let s := setStack [{ run 6 with state := .WAITING, cursor := 1 }] (inSlot 0 (run 5) (shows .CLOSED base))
    let t := after (.runCancel 0 5) s
    (t.gru.slots[(0 : SlotIx)]).map (fun r => (r.number, r.state, r.outstanding)) = some (6, .TRACKING, 1)
    ∧ t.gru.stack = [] ∧ t.gru.resumed = [] := by decide +kernel

/-! ### Witnesses: the queue, the laws, frames and figures -/

theorem witness_OnlyTheirCommandsChange :
    writesTables .orderSend = false ∧ changesPart .orderSend = false ∧ changesMode .orderSend = false
    ∧ Instr.orderSend ≠ .saveComplete ∧ Instr.orderSend ≠ .warmRestart ∧ Instr.orderSend ≠ .secondsCounterIncrement := by decide
theorem witness_HeldInReset : (after .resetAsserted busy).pins.reset = true := by decide +kernel
theorem witness_laws_kept_queues : OrderLaw busy ∧ QueueLaw busy ∧ busy.rc.orders ≠ [] := by decide +kernel
theorem witness_laws_kept_alarms : AlarmLaw busy ∧ AlarmLineLaw busy ∧ busy.al.line = true := by decide +kernel
theorem witness_laws_kept_schedule : FlowLaw busy ∧ LatchLaw busy ∧ ArrivalLaw busy ∧ OvertakenLaw busy := by decide +kernel
theorem witness_laws_kept_schedule_tables : TableLaw busy := by decide +kernel
theorem witness_laws_kept_schedule_passed : PassedLaw busy := by decide +kernel
theorem witness_laws_kept_schedule_waits :
    PassedLaw ((busy.setEntry 0 (entry .CLOSE .READY)).modFlow 0 fun f => { f with capacityE := 30 }) := by decide +kernel
theorem witness_laws_kept_schedule_owed :
    let late := busy.setEntry 0 (entry .CLOSE .READY)
    base.hpuPresent 0 = true ∧ HeadOn late 0 0 ∧ entryFits late 0 0 = true := by decide +kernel
theorem witness_laws_kept_mode : EmergencyLaw busy ∧ QuietLaw busy ∧ AbsentLaw busy := by decide +kernel
theorem witness_laws_kept_runs : StackLaw busy ∧ TagLaw busy ∧ SettledLaw busy := by decide +kernel
theorem witness_laws_kept_tables : busy.tables.clamped ∧ commissionChecks busy.tables = none ∧ HpuFieldLaw busy := by decide +kernel
theorem witness_laws_kept_save :
    (after (.save 3) busy).cfs.save.isSome = true ∧ (after (.save 3) busy).cfs.saveBuffer = busy.tables.image :=
  ⟨by decide +kernel, rfl⟩
theorem witness_laws_kept_indications :
    (∀ c : CompIx, busy.ib.comps[c] = compIndication busy c) ∧ busy.ib.allClosed = everyDoorClosed busy := by decide +kernel
theorem witness_laws_kept_step : ∃ t, step busy = .next t := ⟨_, rfl⟩
theorem witness_FramesReadBack :
    (Instr.doorClose 0 14 2).wf = true ∧ encodeStationCommand (.doorClose 0 14 2) = some (0, 3, [14, 2])
    ∧ (Instr.hpuReport .WEST 126 7 .FAILED 4095).wf = true
    ∧ encodeRingCommand (.hpuReport .WEST 126 7 .FAILED 4095) = some (.WEST, 0, 126, 19, 7, [1, 15, 255]) := by decide
theorem witness_StoredImageReadsBack : tables.inRange := by decide +kernel
theorem witness_PositionOfReport :
    ([(true, false, Motion.NONE), (true, false, .CLOSING), (true, false, .OPENING), (false, true, .NONE),
      (false, true, .OPENING), (false, true, .CLOSING), (false, false, .CLOSING), (false, false, .OPENING),
      (false, false, .NONE), (true, true, .NONE)].map fun x => reportPosition ⟨x.1, x.2.1, x.2.2, .IDLE, false, false⟩)
    = [.CLOSED, .CLOSED, .OPENING, .OPEN, .OPEN, .CLOSING, .CLOSING, .OPENING, .STOPPED, .UNKNOWN]
    ∧ reportPosition ⟨true, false, .NONE, .IDLE, false, true⟩ = .UNKNOWN := by decide
theorem witness_DeadlineAndHardLimit : (base.tables.doors[(0 : DoorIx)]).inRange := by decide +kernel
theorem witness_EffectiveCapacity :
    base.hpuPresent 0 = true ∧ base.rc.hpus[(0 : HpuIx)].state = .READY ∧ (base.tables.hpus[(0 : HpuIx)]).inRange
    ∧ (base.modHpu 0 fun _ => ⟨.FAILED, 0, 0⟩).rc.hpus[(0 : HpuIx)].state = .FAILED
    ∧ (base.modHpu 0 fun _ => ⟨.UNKNOWN, 0, 0⟩).rc.hpus[(0 : HpuIx)].state = .UNKNOWN
    ∧ (base.modHpu 0 fun _ => ⟨.LOST, 0, 0⟩).rc.hpus[(0 : HpuIx)].state = .LOST := by decide +kernel
theorem witness_AdmissionLimit :
    base.tables.system.directLane = 3 ∧ base.tables.system.directLane ≠ 1
    ∧ base.tables.hpus[(0 : HpuIx)].reserve < base.cs.flow[(0 : HpuIx)].capacityE
    ∧ (base.modFlow 0 fun f => { f with capacityE := 10 }).cs.flow[(0 : HpuIx)].capacityE
      ≤ base.tables.hpus[(0 : HpuIx)].reserve := by decide +kernel

/-! ### Witnesses: admission and demands -/

/-- Two READY entries, and room for the second alone. -/
def crowded : State :=
  let s := (base.setEntry 0 (entry .CLOSE .READY)).setEntry 1 { entry .CLOSE .READY with arrival := 1 }
  let s := s.modFlow 0 fun f => { f with capacityE := 30 }
  { s with cs := { s.cs with nextArrival := 2 } }

theorem witness_AdmissionPass :
    ArrivalLaw crowded ∧ OrderLaw crowded ∧ OvertakenLaw crowded ∧ AlarmLaw crowded ∧ HeadOn (pass 0 crowded) 0 0
    ∧ AdmittedIn crowded (pass 0 crowded) 0 1
    ∧ entryIn crowded 0 .READY 2 = false := by decide +kernel
/-- Five READY entries of one class, of draws 100, 10, 50, 10 and 10, and room for 20 draws, two to look at. -/
def queued5 : State :=
  let draws := (Vector.ofFn fun d : DoorIx => door (d.val + 1) ([100, 10, 50, 10, 10].getD d.val 1) 0 0)
  let s := { base with tables := { tables with doors := draws } }
  let t := [0, 1, 2, 3, 4].foldl (fun (x : State) d => x.setEntry d { entry .CLOSE .READY with arrival := d.val }) s
  { t with cs := { t.cs with nextArrival := 5, flow := t.cs.flow.set 0 ⟨0, 35, false⟩ } }

theorem witness_AdmissionPass_examined :
    ArrivalLaw queued5 ∧ HeadOn (pass 0 queued5) 0 0 ∧ Examined queued5 0 0 1 ∧ Examined queued5 0 0 2 ∧ ¬Examined queued5 0 0 3
    ∧ AdmittedIn queued5 (pass 0 queued5) 0 1 ∧ ReadyOn (pass 0 queued5) 0 2
    ∧ ¬FitsInTurn queued5 (pass 0 queued5) 0 2 ∧ ReadyOn (pass 0 queued5) 0 3 := by decide +kernel
theorem witness_AdmissionPass_delay :
    let late := fun (b : Bool) (age : Nat) =>
      ((base.setEntry 0 { entry .CLOSE .READY with readyAge := age }).setEntry 1 { entry .CLOSE .READY with arrival := 1 }).modFlow
        0 fun f => { f with capacityE := 30, delayAlarm := b }
    (∀ d : DoorIx, ¬AdmittedIn base (pass 0 base) 0 d)
    ∧ AdmittedIn (late true 0) (pass 0 (late true 0)) 0 1 ∧ (pass 0 (late true 0)).cs.flow[(0 : HpuIx)].delayAlarm = false
    ∧ (pass 0 (late false 301)).cs.flow[(0 : HpuIx)].delayAlarm = true
    ∧ (pass 0 (late true 301)).cs.flow[(0 : HpuIx)].delayAlarm = true
    ∧ HasRoom (late false 301) .ADMISSION_DELAY 0 := by decide +kernel
theorem witness_DemandDecision :
    State.reset.inService = false ∧ base.inService = true
    ∧ (emergency.mc.mode = .EMERGENCY ∧ (demand .OPEN).direction = .OPEN ∧ (demand .OPEN).origin ≠ .PASSAGE)
    ∧ (latched base).latch 0 ≠ .NONE
    ∧ directionOf (base.setEntry 0 (entry .CLOSE .READY)) 0 = some .CLOSE
    ∧ ¬Wins (base.setEntry 0 { entry .OPEN .READY with cls := 3 }) (demand .CLOSE)
    ∧ Wins (base.setEntry 0 { entry .OPEN .MOVING with cls := 0 }) (demand .CLOSE)
    ∧ Wins (base.setEntry 0 { entry .CLOSE .WARNING with cls := 0 }) (demand .OPEN)
    ∧ Wins (base.setEntry 0 { entry .CLOSE .READY with group := .B }) (demand .OPEN)
    ∧ Wins base (demand .OPEN) ∧ base.position 0 = (demand .OPEN).direction.target
    ∧ Wins base (demand .CLOSE) ∧ base.position 0 ≠ (demand .CLOSE).direction.target := by decide +kernel
theorem witness_DemandEnqueued :
    base.inService = true ∧ base.cs.nextArrival ≠ arrivalTop
    ∧ (decideDemand (demand .CLOSE) base).1 = .ENQUEUED ∧ 0 < base.preWarn 0
    ∧ (decideDemand { demand .CLOSE with door := 1 } base).1 = .ENQUEUED ∧ base.preWarn 1 = 0 := by decide +kernel
/-- The part with its arrival counter at the top. -/
def topped (s : State) : State := { s with cs := { s.cs with nextArrival := arrivalTop } }

theorem witness_renumbered :
    (decideDemand (demand .CLOSE) (topped base)).1 = .ENQUEUED
    ∧ (decideDemand (demand .CLOSE) (topped (base.setEntry 0 { entry .OPEN .READY with cls := 0 }))).1 = .REPLACED := by
  decide +kernel
theorem witness_DemandOnAnEntry_merged :
    (decideDemand (demand .CLOSE) (base.setEntry 0 (entry .CLOSE .READY))).1 = .MERGED
    ∧ (decideDemand { demand .CLOSE with cls := 2 } (base.setEntry 0 (entry .CLOSE .WARNING))).1 = .MERGED := by decide +kernel
theorem witness_DemandOnAnEntry_replaced :
    (decideDemand (demand .CLOSE) (base.setEntry 0 { entry .OPEN .READY with cls := 0 })).1 = .REPLACED
    ∧ (decideDemand { demand .OPEN with cls := 2 } (base.setEntry 0 (entry .CLOSE .WARNING))).1 = .REPLACED := by decide +kernel
theorem witness_DemandOnAnEntry_reversed :
    (decideDemand { demand .OPEN with group := .C } (base.setEntry 0 (entry .CLOSE .MOVING))).1 = .REVERSED
    ∧ (decideDemand { demand .CLOSE with cls := 2 } (base.setEntry 0 (entry .OPEN .MOVING))).1 = .REVERSED := by decide +kernel

theorem witness_Told_completes :
    let r := { run 5 with outstanding := 1, state := .TRACKING }
    let s := tracking (entry .CLOSE .MOVING)
    TagLaw s ∧ SettledLaw s ∧ s.gru.slots[(0 : SlotIx)] = some r ∧ (overruledBy (some ⟨0, 5⟩) r).done = true
    ∧ (completedBy (some ⟨0, 5⟩) r).done = true ∧ r.origin = .STATION 0 ∧ s.sp[(0 : PortIx)].queue.length ≤ 40
    ∧ s.gru.stack = [] ∧ (decideDemand { demand .OPEN with group := .C } s).1 = .REVERSED
    ∧ (decideDemand { demand .CLOSE with cls := 2 } (tracking (entry .OPEN .READY))).1 = .REPLACED
    ∧ (∀ x ∈ liveRuns busy, (overruledBy (some ⟨0, 5⟩) x).done = false) := by decide +kernel
theorem witness_Told_resumes :
    let s := setStack [{ run 6 with state := .WAITING }, run 7] (tracking (entry .CLOSE .MOVING))
    TagLaw s ∧ SettledLaw s ∧ s.gru.stack.head? = some { run 6 with state := .WAITING } ∧ (0 : SlotIx) ≠ slotS := by
  decide +kernel
theorem witness_Told_stacked :
    let r := { run 5 with outstanding := 1, state := .TRACKING }
    let s := setStack [run 6, r] (base.setEntry 0 (Entry.of (entry .CLOSE .MOVING) 5))
    TagLaw s ∧ SettledLaw s ∧ r ∈ s.gru.stack ∧ (overruledBy (some ⟨0, 5⟩) r).done = true
    ∧ (decideDemand { demand .OPEN with group := .C } s).1 = .REVERSED := by decide +kernel
theorem witness_Told_system :
    let r := { newRun slotS .ALL .CLOSE 2 .A .MODE 5 with state := .TRACKING, outstanding := 1 }
    let s := setSlot slotS (some r) (shows .CLOSED (base.setEntry 0 (Entry.of (entry .CLOSE .READY) 5)))
    TagLaw s ∧ SettledLaw s ∧ (completedBy (some ⟨0, 5⟩) r).done = true ∧ s.roleAt 1 = .SAFETY
    ∧ s.position 0 = Direction.CLOSE.target := by decide +kernel

/-! ### Witnesses: station commands -/

theorem witness_CommandsRefused :
    Awake base ∧ (Instr.modeSetClosed 0).wf = true ∧ codeKnown (.modeSetClosed 0) = true
    ∧ encodeStationCommand (.modeSetClosed 0) = some (0, 2, [1]) ∧ idle.inService = false
    ∧ base.roleAt 4 ∉ permittedRoles (.doorClose 4 0 0)
    ∧ emergency.roleAt 0 = .BRIDGE ∧ isOpenCommand (.doorOpen 0 0 0) = true
    ∧ base.commandRole 3 = .SERVICE ∧ storeBusy (after (.save 3) base) = true
    ∧ 2 < (3 : Byte).toNat ∧ 8 < (9 : Byte).toNat ∧ (8 : Byte).toNat ∈ [1, 3, 6, 8] ∧ base.commandRole 0 ≠ .SERVICE
    ∧ storeBusy base = false := by decide +kernel
theorem witness_HeartbeatsTaken :
    Awake base ∧ base.inService = true ∧ (base.row 3).hbRequired ≠ 1 ∧ (base.row 0).hbRequired = 1
    ∧ base.sp[(0 : PortIx)].hbElapsed < base.tables.system.hbMin
    ∧ base.tables.system.hbMin ≤ (base.modPort 0 fun x => { x with hbElapsed := 5 }).sp[(0 : PortIx)].hbElapsed
    ∧ AlarmLaw (base.modPort 0 fun x => { x with hbElapsed := 5, silent := true }) := by decide +kernel
theorem witness_PortFallsSilent :
    let s := local'.modPort 0 fun x => { x with hbElapsed := 30 }
    Awake s ∧ s.inService = true ∧ s.tables.system.hbMax ≤ s.sp[(0 : PortIx)].hbElapsed ∧ s.sp[(0 : PortIx)].silent = false
    ∧ HasRoom s .STATION_SILENT 0 ∧ bridgeSilent (after (.heartbeatWindowExpiry 0) s) = true ∧ s.mc.bridgeLost = false
    ∧ s.tables.system.lossAction = 1 ∧ s.mc.mode = .LOCAL := by decide +kernel
theorem witness_BridgeAlarmFollows :
    let silent := fun (s : State) => s.modPort 0 fun x => { x with hbElapsed := 5, silent := true }
    let s := setBridgeLost true (silent base)
    let begins := base.modPort 0 fun x => { x with hbElapsed := 30 }
    AlarmLaw s ∧ (after (.heartbeat 0) s).mc.bridgeLost = false ∧ s.tables.system.hbMin ≤ s.sp[(0 : PortIx)].hbElapsed
    ∧ begins.mc.bridgeLost = false ∧ (after (.heartbeatWindowExpiry 0) begins).mc.bridgeLost = true
    ∧ HasSpare begins .BRIDGE_LOST noSubject ∧ HasRoom (silent base) .BRIDGE_LOST noSubject
    ∧ (silent local').mc.bridgeLost = false ∧ bridgeSilent (silent local') = true := by decide +kernel
theorem witness_ModeSetClosed :
    Operates base 0 [.BRIDGE] ∧ base.mc.mode = .CLOSED
    ∧ Operates emergency 0 [.BRIDGE] ∧ emergency.mc.mode = .EMERGENCY ∧ emergency.mc.line = false
    ∧ (setLine true emergency).mc.line = true
    ∧ Operates local' 0 [.BRIDGE] ∧ local'.mc.mode = .LOCAL ∧ SettledLaw local' := by decide +kernel
theorem witness_ModeSetLocal :
    AlarmLaw busy ∧ TagLaw busy ∧ busy.mc.mode = .CLOSED ∧ flushed (entry .CLOSE .WARNING) = true ∧ flushed (entry .CLOSE .READY) = true
    ∧ busy.entry 1 = some (Entry.of (entry .CLOSE .MOVING) 5) ∧ flushed (Entry.of (entry .CLOSE .MOVING) 5) = false
    ∧ busy.entry 0 = none := by decide +kernel
theorem witness_EmergencyEntries :
    Operates busy 0 [.BRIDGE, .SAFETY] ∧ Operates busy 1 [.BRIDGE, .SAFETY] ∧ busy.mc.mode ≠ .EMERGENCY
    ∧ busy.gru.stack = [] ∧ StackLaw busy ∧ TagLaw busy ∧ SettledLaw busy ∧ busy.cs.nextArrival + 96 < arrivalTop
    ∧ busy.isEscape 0 = false ∧ busy.isEscape 1 = true := by decide +kernel
theorem witness_EmergencyEntries_line :
    Awake base ∧ base.mc.line = false ∧ HasRoom base .EMERGENCY_LINE noSubject ∧ base.mc.mode ≠ .EMERGENCY
    ∧ idle.inService = false ∧ AlarmLaw (setLine true base) ∧ (setLine true base).mc.line = true := by decide +kernel
theorem witness_DoorCommandsAnswered :
    (0 : Byte).toNat = (0 : DoorIx).val ∧ base.isPresent 0 = true ∧ base.entry 0 = none ∧ base.passage 0 = none
    ∧ SettledLaw base ∧ base.cs.nextArrival ≠ arrivalTop ∧ Operates base 2 [.BRIDGE, .SAFETY, .ENGINE]
    ∧ base.position 0 ≠ .CLOSED ∧ 0 < base.preWarn 0 ∧ base.preWarn 1 = 0
    ∧ Operates (shows .CLOSED base) 0 [.BRIDGE] ∧ (shows .CLOSED base).position 0 ≠ .OPEN ∧ base.latch 0 = .NONE
    ∧ (∀ d : DoorIx, (96 : Byte).toNat = d.val → base.isPresent d = false) ∧ base.isPresent 95 = false := by decide +kernel
theorem witness_DoorCommandsAnswered_outcomes :
    (decideDemand (demand .OPEN) base).1 = .ALREADY ∧ (decideDemand (demand .OPEN) (latched base)).1 = .DOOR_FAULT
    ∧ (decideDemand (demand .CLOSE) (base.setEntry 0 { entry .OPEN .READY with cls := 3 })).1 = .OVERRULED := by decide +kernel

/-- Every station slot holds a run, slot 1 the lowest, and two slots of its class. -/
def full : State :=
  setSlotting [1, 0, 2, 3] (inSlot 0 (run 1) (inSlot 1 { run 2 with cls := 0 } (inSlot 2 (run 3) (inSlot 3 (run 4) base))))

theorem witness_GroupCommands_free :
    Commands base 0 .CLOSE ∧ Commands base 0 .OPEN ∧ Includes base 0 (.stored 0) ∧ Includes base 2 .ALL
    ∧ (0 : Byte).toNat = (GroupRef.stored 0).code ∧ (255 : Byte).toNat = GroupRef.ALL.code ∧ SlotIdle base 0
    ∧ SlotIdle busy 1 ∧ (∀ j : SlotIx, j < 1 → ¬SlotIdle busy j) := by decide +kernel
theorem witness_GroupCommands_full :
    VictimAt full 1 { { run 2 with cls := 0 } with slot := 1, acceptedIn := 1 } ∧ 0 < classUsed full 0 1
    ∧ full.gru.stack.length < 4 ∧ (liveRuns full).length ≤ 9
    ∧ (∀ j ∈ stationSlots, ∀ r ∈ (inSlot 1 (run 2) full).gru.slots[j], classUsed full 2 9 ≤ r.cls)
    ∧ 4 ≤ (setStack [run 6, run 7, run 8, run 9] full).gru.stack.length := by decide +kernel
theorem witness_GroupCommands_stored :
    (∃ j ∈ stationSlots, ∃ r ∈ full.gru.slots[j], r.cls < classUsed full 0 1)
    ∧ (∀ j ∈ stationSlots, ¬SlotIdle full j) ∧ Includes full 0 (.stored 0) ∧ Includes full 2 .ALL ∧ Commands full 2 .CLOSE := by decide +kernel
theorem witness_GroupCommands_refused :
    24 ≤ (24 : Byte).toNat ∧ base.tables.groups[(1 : GroupIx)].present ≠ 1 ∧ base.tables.groups[(0 : GroupIx)].present = 1
    ∧ (base.row 2).groupMask.getLsbD 0 = false ∧ Commands base 2 .CLOSE := by decide +kernel
theorem witness_RunCancelDecided :
    Awake busy ∧ busy.inService = true ∧ TagLaw busy ∧ SettledLaw busy ∧ (runNumbered busy 5).isSome = true
    ∧ MayCancel busy 0 (run 5) ∧ tagged 5 1 (Entry.of (entry .CLOSE .MOVING) 5) = true ∧ busy.gru.stack = [] := by
  decide +kernel
/-- Run 5 in slot 0 of `base`, door 0 shown so, with contexts stacked. -/
def stacked (x : Position) (l : List Run) : State := setSlotting [0] (setStack l (inSlot 0 (run 5) (shows x base)))

theorem witness_RunCancelDecided_resumes :
    let s := stacked .OPEN [run 6, run 7]
    TagLaw s ∧ SettledLaw s ∧ NumberedIn s 0 5 ∧ ResumesAsStacked s (run 6) ∧ MayCancel s 0 (run 7)
    ∧ (runNumbered s 7).isSome = true := by decide +kernel
theorem witness_RunCancelDecided_looks :
    let w := { run 6 with state := .WAITING, cursor := 1 }
    let u := { w with cursor := 0 }
    ResumesAsStacked (stacked .OPEN [w]) w ∧ ¬ResumesAsStacked (stacked .CLOSED [u]) u
    ∧ u.cursor + 1 < listLength (stacked .CLOSED [u]) u := by decide +kernel
theorem witness_RunCancelDecided_system :
    let r := { newRun slotS .ALL .CLOSE 2 .A .MODE 5 with cursor := 3 }
    let s := setSlot slotS (some r) base
    TagLaw s ∧ SettledLaw s ∧ MayCancel s 0 r ∧ s.roleAt 1 = .SAFETY ∧ NumberedIn s slotS 5 ∧ slotS ∉ stationSlots := by
  decide +kernel
theorem witness_RunCancelDecided_refused :
    (∀ x ∈ liveRuns busy, x.number ≠ 6) ∧ (run 5).origin = .STATION 0 ∧ busy.roleAt 2 ≠ .BRIDGE
    ∧ (runNumbered (after (.modeSetEmergency 0) local') 0).map Run.origin = some .MODE
    ∧ (after (.modeSetEmergency 0) local').mc.mode = .EMERGENCY := by decide +kernel

/-! ### Witnesses: alarms, the snapshot and the queues -/

/-- A cleared DOOR_FAULT under a set latch, an active alarm, and LIST_FULL. -/
def alarmed : State :=
  listing [record .DOOR_FAULT 0 .CLEARED_UNACK, record .DOOR_SILENT 1 .ACTIVE_UNACK, record .LIST_FULL 255 .ACTIVE_ACKED]
    (latched base)

theorem witness_AlarmsRaisedClearedAcknowledged :
    Operates alarmed 2 [.BRIDGE, .SAFETY, .ENGINE] ∧ AlarmLaw alarmed ∧ AlarmLineLaw alarmed
    ∧ record .DOOR_FAULT 0 .CLEARED_UNACK ∈ alarmed.al.records ∧ (3 : Byte).toNat = AlarmKind.DOOR_FAULT.code
    ∧ record .DOOR_SILENT 1 .ACTIVE_UNACK ∈ alarmed.al.records ∧ (1 : Byte).toNat = AlarmKind.DOOR_SILENT.code
    ∧ (∀ r ∈ alarmed.al.records, (17 : Byte).toNat = r.kind.code → (0 : Byte).toNat ≠ r.subject)
    ∧ 17 < (18 : Byte).toNat ∧ (254 : Byte).toNat ≠ 255 ∧ (0 : Byte).toNat = 0
    ∧ alarmed.latch 0 ≠ .NONE ∧ otherCount (after (.alarmAck 0 3 0) alarmed).al.records ≤ 48 := by decide +kernel
/-- Sixty-three records other than LIST_FULL, one of them ACTIVE_ACKED, and LIST_FULL where given. -/
def crammed (last : List AlarmRecord) : State :=
  listing (((List.range 62).map fun n => record .DOOR_SENSOR n .ACTIVE_UNACK)
    ++ [record .RING_OPEN noSubject .ACTIVE_ACKED] ++ last) base

theorem witness_AlarmsRaised :
    let listFull := fun st => [record .LIST_FULL noSubject st]
    (∀ r ∈ alarmed.al.records, r.pair ≠ (.DOOR_SILENT, 0)) ∧ otherCount alarmed.al.records < 63
    ∧ (base.row 0).notices.getLsbD AlarmKind.DOOR_SILENT.category = true
    ∧ (∀ st ∈ [AlarmState.ACTIVE_UNACK, .ACTIVE_ACKED, .CLEARED_UNACK], AlarmLaw (crammed (listFull st)))
    ∧ AlarmLaw (crammed []) ∧ (∀ r ∈ (crammed []).al.records, r.pair ≠ (.DOOR_SILENT, 0))
    ∧ 63 ≤ otherCount (crammed []).al.records := by decide +kernel
theorem witness_AlarmsCleared :
    let bypassed := fun n => { record .PRECONDITION_BYPASSED 0 .CLEARED_UNACK with count := n }
    let few := fun st => listing [record .DOOR_FAULT 0 .ACTIVE_ACKED, record .LIST_FULL noSubject st] (latched base)
    (∀ n ∈ [254, 255], AlarmLaw (listing [bypassed n] base))
    ∧ (∀ st ∈ [AlarmState.ACTIVE_UNACK, .ACTIVE_ACKED], AlarmLaw (few st) ∧ ¬Cleared (few st) .LIST_FULL noSubject)
    ∧ Cleared (few .CLEARED_UNACK) .LIST_FULL noSubject ∧ otherCount (few .ACTIVE_ACKED).al.records - 1 ≤ 48
    ∧ 48 < otherCount (crammed []).al.records - 1
    ∧ record .RING_OPEN noSubject .ACTIVE_ACKED ∈ (crammed []).al.records := by decide +kernel
theorem witness_SnapshotsAndFrames_requested :
    let filled := base.modPort 0 fun x => { x with queue := List.replicate 63 ⟨.RESULT, []⟩ }
    base.ib.sending = none ∧ base.sp[(0 : PortIx)].queue.length ≤ 62 ∧ 63 ≤ filled.sp[(0 : PortIx)].queue.length
    ∧ (after (.snapshotReq 0) base).ib.sending = some ⟨0, 1, 1, false⟩ ∧ (0 : PortIx) ≠ 1 := by decide +kernel
theorem witness_SnapshotsAndFrames_sent :
    Awake base ∧ base.sp[(0 : PortIx)].part = none ∧ base.sp[(0 : PortIx)].partGone = false
    ∧ (base.modPort 0 fun x => { x with partGone := true }).sp[(0 : PortIx)].partGone = true
    ∧ (snapshotPart base 1 1).kind = .SNAPSHOT_PART
    ∧ (after (.snapshotReq 0) base).sp[(0 : PortIx)].queue.map Frame.kind = [.RESULT, .SNAPSHOT_PART]
    ∧ (after (.snapshotReq 0) (after (.snapshotReq 0) base)).ib.sending = some ⟨0, 1, 1, true⟩
    ∧ (⟨0, 2, 1, false⟩ : Sending).k < 2
    ∧ 64 ≤ (List.replicate 64 (⟨.ZONE_SUMMARY, []⟩ : Frame)).length
    ∧ (List.replicate 64 (⟨.ZONE_SUMMARY, []⟩ : Frame)).any Frame.isSummary = true
    ∧ (List.replicate 64 (⟨.ALARM_NOTICE, []⟩ : Frame)).any Frame.isNotice = true
    ∧ (List.replicate 64 (⟨.RESULT, []⟩ : Frame)).any Frame.isNotice = false := by decide +kernel

/-! ### Witnesses: handles -/

/-- The handle of door 0 stands so. -/
def handles (h : Handle) (s : State) : State := s.modReported 0 fun r => { r with handle := h }

theorem witness_HandlesTaken :
    base.inService = true ∧ (handles .OPEN base).handle 0 ≠ .IDLE ∧ (handles .UNKNOWN base).handle 0 = .UNKNOWN
    ∧ base.entry 0 = none ∧ base.passage 0 = none ∧ local'.mc.mode = .LOCAL ∧ base.mc.mode = .CLOSED
    ∧ emergency.mc.mode = .EMERGENCY ∧ emergency.isEscape 0 = false ∧ emergency.isEscape 1 = true
    ∧ AlarmLaw (base.setPassage 0 ⟨.RECLOSING, 0, false, true⟩)
    ∧ phaseOf (emergency.setEntry 0 (entry .CLOSE .READY)) 0 = some .READY
    ∧ phaseOf (emergency.setEntry 0 (entry .CLOSE .WARNING)) 0 = some .WARNING
    ∧ (local'.setEntry 0 { entry .CLOSE .MOVING with origin := .LOCAL }).entry 0
      = some { entry .CLOSE .MOVING with origin := .LOCAL } := by decide +kernel
theorem witness_HandlesTaken_outcomes :
    let passing : Demand := ⟨0, .OPEN, 2, .C, .PASSAGE, none⟩
    (decideDemand passing base).1 = .ALREADY ∧ (decideDemand passing (shows .CLOSED base)).1 = .ENQUEUED
    ∧ (decideDemand passing (latched base)).1 = .DOOR_FAULT
    ∧ (decideDemand passing (base.setEntry 0 { entry .CLOSE .READY with cls := 3 })).1 = .OVERRULED
    ∧ (decideDemand passing (base.setEntry 0 (entry .OPEN .READY))).1 = .MERGED := by decide +kernel
/-- Door 0 stands IDLE, not OPEN, without entry, passage and latch, and its unit's next frame is taken. -/
abbrev Still (s : State) : Prop :=
  Awake s ∧ s.inService = true ∧ NamesDoor s 1 0 ∧ s.filterAt 1 ≠ some 7 ∧ NoRunHears s ∧ SettledLaw s ∧ s.handle 0 = .IDLE
  ∧ s.position 0 ≠ .OPEN ∧ s.entry 0 = none ∧ s.passage 0 = none ∧ s.latch 0 = .NONE ∧ s.cs.nextArrival ≠ arrivalTop

theorem witness_HandlesTaken_event_local : wfNode 1 = true ∧ Still (shows .CLOSED local') := by decide +kernel
theorem witness_HandlesTaken_event_closed : Still (shows .CLOSED base) := by decide +kernel
theorem witness_HandlesTaken_event_denied : Still (shows .STOPPED emergency) := by decide +kernel
theorem witness_HandlesTaken_event_escape :
    let s := emergency.modReported 1 fun r => { r with position := .CLOSED }
    NamesDoor s 2 1 ∧ s.isEscape 1 = true ∧ s.handle 1 = .IDLE ∧ s.position 1 ≠ .OPEN ∧ s.entry 1 = none
    ∧ s.passage 1 = none ∧ s.latch 1 = .NONE := by decide +kernel

/-! ### Witnesses: tables -/

/-- The image of door 0 at another address. -/
def moved : List Byte := (door 3 30 50 0).encode
/-- The image of door 0 made not present. -/
def removed : List Byte := { door 1 30 50 0 with present := 0 }.encode

theorem witness_TableWritesReplaceOneRecord :
    ManagesStore local' 3 ∧ moved.length = 16 ∧ (DoorConfig.decode moved).refused = false
    ∧ crossDoor { tables with doors := tables.doors.set 0 (DoorConfig.decode moved).clamp } 0 = none
    ∧ local'.entry 0 = none ∧ local'.passage 0 = none ∧ local'.mc.mode = .LOCAL
    ∧ hpuInUse local' 7 = false ∧ (HpuConfig.decode (tables.hpus[(7 : HpuIx)].encode)).refused = false
    ∧ wfGroupImage [1, 20, 1, 1, 252] = true ∧ (GroupRec.decode [1, 20, 1, 1, 252]).refused = false
    ∧ crossGroup { tables with groups := tables.groups.set 1 (GroupRec.decode [1, 20, 1, 1, 252]).clamp } 1 = none
    ∧ (PermitRow.decode (tables.permits[(3 : PortIx)].encode)).refused = false
    ∧ (SystemRecord.decode tables.system.encode).refused = false ∧ tables.system.encode.length = 9 := by decide +kernel
theorem witness_TableWritesRefused :
    ManagesStore busy 3 ∧ busy.entry 1 ≠ none ∧ hpuInUse busy 0 = true ∧ (∃ r ∈ liveRuns busy, r.group = .stored 0)
    ∧ (DoorConfig.decode (List.replicate 16 255)).refused = true ∧ (List.replicate 15 (0 : Byte)).length ≠ 16
    ∧ 96 ≤ (96 : Byte).toNat ∧ 8 ≤ (8 : Byte).toNat ∧ 24 ≤ (24 : Byte).toNat ∧ busy.mc.mode ≠ .LOCAL
    ∧ (crossDoor { tables with doors := tables.doors.set 0 (DoorConfig.decode (door 2 30 50 0).encode).clamp } 0).isSome = true := by
  decide +kernel
theorem witness_TableWritesRefused_images :
    (HpuConfig.decode (List.replicate 8 255)).refused = true ∧ hpuInUse base 0 = false
    ∧ (GroupRec.decode [2, 20, 1, 1, 252]).refused = true ∧ wfGroupImage [2, 20, 1, 1, 252] = true
    ∧ (PermitRow.decode (List.replicate 12 255)).refused = true
    ∧ (SystemRecord.decode (List.replicate 9 255)).refused = true ∧ ManagesStore local' 3 ∧ local'.mc.mode = .LOCAL := by
  decide +kernel
theorem witness_TableWritesRefused_lengths :
    (List.replicate 9 (0 : Byte)).length ≠ 8 ∧ wfGroupImage [2, 20, 1, 1] = false
    ∧ (List.replicate 11 (0 : Byte)).length ≠ 12 ∧ (List.replicate 8 (0 : Byte)).length ≠ 9 := by decide +kernel
theorem witness_TableWritesRefused_references :
    let h : HpuConfig := ⟨0, 10, 100, 10, 100⟩
    let g : GroupRec := ⟨1, 20, 1, [⟨5, 127⟩]⟩
    let r : PermitRow := ⟨3, 0, 0, 0, 0, 0, 0⟩
    (HpuConfig.decode h.encode).refused = false ∧ h.encode.length = 8
    ∧ (crossHpu { tables with hpus := tables.hpus.set 0 (HpuConfig.decode h.encode).clamp } 0).isSome = true
    ∧ (GroupRec.decode g.encode).refused = false ∧ wfGroupImage g.encode = true
    ∧ (crossGroup { tables with groups := tables.groups.set 1 (GroupRec.decode g.encode).clamp } 1).isSome = true
    ∧ (PermitRow.decode r.encode).refused = false ∧ r.encode.length = 12
    ∧ (∀ q : PortIx, (tables.permits.set 3 (PermitRow.decode r.encode).clamp)[q].role ≠ 4) := by decide +kernel
theorem witness_TableWritesReset :
    AlarmLaw local' ∧ SettledLaw local' ∧ HpuFieldLaw local' ∧ local'.tables.doors[(0 : DoorIx)].node ≠ (DoorConfig.decode moved).node
    ∧ local'.tables.doors[(0 : DoorIx)].present = 1 ∧ (DoorConfig.decode removed).present = 0
    ∧ (DoorConfig.decode removed).refused = false
    ∧ hpuInUse idle 0 = false ∧ (HpuConfig.decode (⟨0, 10, 100, 10, 100⟩ : HpuConfig).encode).present = 0
    ∧ (local'.row 0).hbRequired = 1 ∧ (PermitRow.decode (tables.permits[(3 : PortIx)].encode)).hbRequired = 0 := by decide +kernel
theorem witness_TableWritesReset_orders :
    NoRunHears local' ∧ Pending (queueOrder 0 .STOP local') 0 .STOP ∧ idle.inService = false
    ∧ (DoorConfig.decode (door 1 35 50 0).encode).node = local'.tables.doors[(0 : DoorIx)].node
    ∧ (DoorConfig.decode (door 1 35 50 0).encode).present = 1 := by decide +kernel
/-- A permit row like port 0's with another summary mask. -/
def masked (m : BitVec 32) : List Byte := { base.row 0 with summaryMask := m }.encode

theorem witness_TableWritesReset_pacing :
    (PermitRow.decode (masked 0)).clamp.summaryMask = 0 ∧ (PermitRow.decode (masked 1)).clamp.summaryMask = 1
    ∧ (PermitRow.decode (masked 3)).clamp.summaryMask = 3 ∧ (PermitRow.decode (masked 1)).refused = false
    ∧ (masked 1).length = 12 ∧ (local'.row 0).summaryMask = 3 ∧ (local'.row 3).summaryMask = 0
    ∧ (PermitRow.decode { base.row 3 with summaryMask := 1 }.encode).clamp.summaryMask = 1 := by decide +kernel
theorem witness_TableWritesReset_pacing_elapsed :
    local'.inService = true ∧ idle.inService = false ∧ (local'.setPacing 0 ⟨5, false⟩).ib.pacing[(0 : PortIx)].elapsed = 5
    ∧ local'.ib.pacing[(0 : PortIx)].elapsed < 5 ∧ local'.sp[(0 : PortIx)].queue.length ≤ 40 := by decide +kernel
theorem witness_TableWritesReset_system :
    let x := tables.system
    let late := fun (b : Bool) (age : Nat) =>
      (local'.setEntry 0 { entry .CLOSE .READY with readyAge := age }).modFlow 0 fun f =>
        { f with capacityE := 10, delayAlarm := b }
    ManagesStore local' 3 ∧ local'.mc.mode = .LOCAL
    ∧ (∀ y ∈ [{ x with directLane := 2 }, { x with lookAhead := 1 }, { x with waitLimit := 40 }, { x with waitLimit := 20 }, x],
        (SystemRecord.decode y.encode) = y ∧ y.clamp = y ∧ y.refused = false ∧ y.encode.length = 9)
    ∧ SettledLaw (late true 350) ∧ AlarmLaw (late false 250) ∧ HpuFieldLaw (late false 250)
    ∧ 10 * 20 < 250 ∧ 350 ≤ 10 * 40 ∧ local'.hpuPresent 0 = true ∧ local'.hpuPresent 1 = false := by decide +kernel
theorem witness_TableReads :
    Manages base 3 ∧ Operates base 2 [.BRIDGE, .SAFETY, .ENGINE] ∧ 96 ≤ (96 : Byte).toNat ∧ (95 : Byte).toNat < 96 := by
  decide +kernel
theorem witness_CommissioningChecks :
    commissionChecks tables = none ∧ commissionChecks Tables.blank ≠ none := by decide +kernel

/-! ### Witnesses: the store and the starts -/

theorem witness_Commissioned :
    ManagesStore idle 0 ∧ idle.inService = false ∧ commissionChecks idle.tables = none ∧ QuietLaw idle
    ∧ (∀ q : PortIx, idle.sp[q].silent = false) ∧ (∀ d : DoorIx, idle.passage d = none)
    ∧ ManagesStore base 3 ∧ base.inService = true
    ∧ ManagesStore State.reset 7 ∧ (commissionChecks State.reset.tables).isSome = true := by decide +kernel
theorem witness_Commissioned_failed :
    let s := idle.modHpu 0 fun _ => ⟨.FAILED, 0, 7⟩
    ManagesStore s 3 ∧ commissionChecks s.tables = none ∧ QuietLaw s ∧ AlarmLaw s ∧ s.hpuPresent 0 = true
    ∧ s.rc.hpus[(0 : HpuIx)].state = .FAILED ∧ otherCount s.al.records ≤ 20 ∧ s.sp[(0 : PortIx)].queue.length ≤ 20
    ∧ (s.row 0).summaryMask ≠ 0 ∧ (s.row 3).summaryMask = 0 := by decide +kernel
theorem witness_Decommissioned :
    ManagesStore local' 3 ∧ local'.mc.mode = .LOCAL ∧ (∀ d : DoorIx, local'.entry d = none) ∧ liveRuns local' = []
    ∧ AlarmLaw local' ∧ base.mc.mode ≠ .LOCAL ∧ (local'.setEntry 0 (entry .OPEN .READY)).entry 0 ≠ none := by decide +kernel
theorem witness_SavedAndCompleted :
    ManagesStore base 3 ∧ base.cfs.save = none ∧ (after (.save 3) base).cfs.save = some 3 ∧ AlarmLaw (after (.save 3) base) := by
  decide +kernel
theorem witness_Restarted :
    let s := after (.restart 3) base
    s.cfs.restartPending = true ∧ resultFrame 16 .DONE false [] ∈ s.sp[(3 : PortIx)].queue
    ∧ (∀ q : PortIx, resultFrame 16 .DONE false [] ∉ (after (.stationFrameSent 3) s).sp[q].queue)
    ∧ commissionChecks s.tables = none ∧ commissionChecks State.reset.tables ≠ none := by decide +kernel
theorem witness_ColdStarts_image :
    ({ base with cfs := { base.cfs with image := tables.image } }).cfs.image = tables.image := rfl
theorem witness_ColdStarts :
    loadImage State.reset.cfs.image = none ∧ tables.inRange ∧ commissionChecks tables = none ∧ Tables.blank.inRange
    ∧ commissionChecks Tables.blank ≠ none := by decide +kernel

/-! ### Witnesses: passages -/

/-- Door 0 with a passage record in a phase, its reclose demanded or not. -/
def passing (ph : PassagePhase) (demanded : Bool) (s : State) : State := s.setPassage 0 ⟨ph, 0, false, demanded⟩

theorem witness_PassagesProgress :
    (passing .OPENING false (handles .OPEN base)).position 0 = .OPEN ∧ (passing .OPENING false base).handle 0 ≠ .OPEN
    ∧ base.passage 0 = none ∧ AlarmLaw base ∧ (shows .CLOSED base).position 0 = .CLOSED ∧ base.entry 0 = none
    ∧ (passing .RECLOSING true base).passage 0 = some ⟨.RECLOSING, 0, false, true⟩
    ∧ (decideDemand ⟨0, .CLOSE, 2, .C, .PASSAGE, none⟩ (passing .RECLOSING true base)).1 = .ENQUEUED
    ∧ (decideDemand ⟨0, .CLOSE, 2, .C, .PASSAGE, none⟩
        ((passing .RECLOSING true base).setEntry 0 { entry .OPEN .READY with cls := 3 })).1 = .OVERRULED := by decide +kernel
theorem witness_PassagesProgress_hold :
    let held := fun (x : Position) (e : Entry) => (shows x (passing .HELD false base)).setEntry 0 e
    let mine := { entry .OPEN .MOVING with origin := .PASSAGE }
    base.mc.mode ≠ .LOCAL ∧ base.handle 0 = .IDLE ∧ base.cs.nextArrival ≠ arrivalTop
    ∧ (held .OPENING mine).entry 0 = some mine ∧ mine.origin ≠ .LOCAL ∧ (held .OPENING mine).position 0 = .OPENING
    ∧ (held .CLOSED mine).position 0 = .CLOSED ∧ (held .STOPPED mine).position 0 ≠ .CLOSED ∧ 0 < base.preWarn 0
    ∧ base.preWarn 1 = 0 ∧ (entry .OPEN .READY).origin ≠ .PASSAGE
    ∧ ¬Beats base.tables.system.orderCode ⟨0, .CLOSE, 2, .C, .PASSAGE, none⟩ ⟨.OPEN, 3, .A⟩ := by decide +kernel
theorem witness_PassagesProgress_event :
    let s := passing .HELD false (handles .OPEN base)
    Awake s ∧ s.inService = true ∧ wfNode 1 = true ∧ NamesDoor s 1 0 ∧ s.filterAt 1 ≠ some 7 ∧ NoRunHears s ∧ SettledLaw s
    ∧ s.handle 0 = .OPEN ∧ s.position 0 = .OPEN ∧ s.entry 0 = none ∧ s.passage 0 = some ⟨.HELD, 0, false, false⟩ := by
  decide +kernel

/-! ### Witnesses: the ring -/

theorem witness_DoorFramesTaken :
    Awake base ∧ wfNode 1 = true ∧ AlarmLaw base ∧ base.rc.polled = some 0 ∧ NamesDoor base 1 0 ∧ NamesDoor base 2 1
    ∧ base.filterAt 1 ≠ some 7 ∧ HasRoom base .DOOR_SENSOR 0 := by decide +kernel
theorem witness_HpuReports :
    wfNode 10 = true ∧ base.hpuPresent 0 = true ∧ base.tables.hpus[(0 : HpuIx)].node = (10 : Byte).toNat
    ∧ base.filterAt 10 ≠ some 7 ∧ HasRoom base .HPU_FAILED 0 ∧ hpuSilent base 0 = false
    ∧ hpuSilent (base.modHpu 0 fun x => { x with age := 30 }) 0 = true := by decide +kernel
theorem witness_NodeFramesDiscarded :
    (∀ x : DoorIx, base.isPresent x = true → base.tables.doors[x].node ≠ (9 : Byte).toNat)
    ∧ (∀ x : HpuIx, base.hpuPresent x = true → base.tables.hpus[x].node ≠ (9 : Byte).toNat)
    ∧ base.hpuPresent 0 = true ∧ base.tables.hpus[(0 : HpuIx)].node = (10 : Byte).toNat
    ∧ (base.setFilter 10 (some 7)).filterAt 10 = some 7
    ∧ NamesDoor base 2 1 ∧ base.rc.polled ≠ some 1 ∧ (base.setFilter 1 (some 7)).filterAt 1 = some 7 := by decide +kernel
theorem witness_BytesReceived :
    Awake base ∧ base.sp[(0 : PortIx)].rx = .HUNT ∧ ([] : List Byte).length ≤ 64 ∧ crcBytes [1, 0] ≠ [0, 0]
    ∧ crcBytes [17, 0] = [45, 77] ∧ decodeStationCommand 0 17 [] = none
    ∧ crcBytes [1, 0] = [46, 62] ∧ (decodeStationCommand 0 1 []).isSome = true ∧ 64 < (65 : Byte).toNat
    ∧ (sideOf base .EAST).rx = .HUNT ∧ crcBytes [0, 1, 17, 5, 1, 12] = [208, 31]
    ∧ decodeRingFrame .EAST 0 1 17 5 [12] = .bad ∧ 8 < (9 : Byte).toNat ∧ 0x5B#8 ∉ [(0 : Byte)] := by decide +kernel
theorem witness_RingTraffic :
    base.rc.pollEnded = true ∧ idle.inService = false ∧ busy.rc.orders.head? = some ⟨1, .STOP⟩
    ∧ base.rc.orders = [] ∧ base.rc.polled = some 0 ∧ base.isPresent 1 = true
    ∧ ({ base with rc := { base.rc with polled := some 1 } }).rc.polled = some 1
    ∧ (∀ x : DoorIx, 1 < x → base.isPresent x = false) ∧ base.rc.loop = none := by decide +kernel
theorem witness_PollsAreMissed :
    let s := { base with rc := { base.rc with pollEnded := false } }
    s.inService = true ∧ s.rc.replyLimit = 0 ∧ s.rc.polled = some 0 ∧ s.rc.reported[(0 : DoorIx)].lost = false
    ∧ min ((s.modReported 0 fun r => { r with misses := 2 }).rc.reported[(0 : DoorIx)].misses + 1) 3 = 3
    ∧ HasRoom s .DOOR_SILENT 0 := by decide +kernel
theorem witness_LoopChecks :
    (setLoop (some ⟨4, false, false, 0⟩) base).rc.loop = some ⟨4, false, false, 0⟩
    ∧ copyAt ⟨4, true, false, 3⟩ .EAST = false ∧ AlarmLaw base ∧ idle.inService = false
    ∧ 50 ≤ ({ idle with rc := { idle.rc with interval := 50 } }).rc.interval ∧ base.rc.loop = none
    ∧ HasRoom base .RING_OPEN noSubject := by decide +kernel

/-! ### Witnesses: movements, time and runs -/

/-- Door 0 with a MOVING CLOSE entry, showing a position. -/
def moving (started : Bool) (x : Position) : State :=
  shows x (base.setEntry 0 { entry .CLOSE .MOVING with started := started })

/-- A REPORT with these limits and this motion, its handle IDLE. -/
def reports (closed atOpen : Bool) (m : Motion) : ReportBits := ⟨closed, atOpen, m, .IDLE, false, false⟩

theorem witness_MovementsJudged :
    NoRunHears (moving true .CLOSED) ∧ (moving true .CLOSED).inService = true
    ∧ (moving true .CLOSED).entry 0 = some { entry .CLOSE .MOVING with started := true }
    ∧ (moving true .CLOSED).position 0 = Direction.CLOSE.target ∧ (moving false .CLOSING).position 0 = Direction.CLOSE.moving
    ∧ wrongWay { entry .CLOSE .MOVING with started := true } .CLOSING .OPEN
    ∧ wrongWay (entry .CLOSE .MOVING) .OPEN .OPENING := by decide +kernel
theorem witness_MovementsJudged_others :
    let mine := shows .CLOSING (base.setEntry 0 { entry .CLOSE .MOVING with origin := .LOCAL, started := true })
    (moving false .OPEN).position 0 = Direction.CLOSE.opposite.target ∧ (moving false .UNKNOWN).position 0 = .UNKNOWN
    ∧ (moving true .STOPPED).position 0 = .STOPPED ∧ (moving false .STOPPED).position 0 = .STOPPED
    ∧ ¬wrongWay (entry .CLOSE .MOVING) .OPENING .OPENING ∧ AlarmLaw (moving true .CLOSED)
    ∧ mine.handle 0 = .IDLE ∧ Handle.CLOSE ≠ .IDLE ∧ mine.position 0 ≠ Direction.CLOSE.target ∧ NoRunHears mine
    ∧ phaseOf base 0 ≠ some .MOVING ∧ base.position 0 = .OPEN ∧ AlarmLaw base
    ∧ (shows .CLOSED (base.setEntry 0 (entry .CLOSE .WARNING))).position 0 = Direction.CLOSE.target
    ∧ (base.setEntry 0 (entry .CLOSE .READY)).position 0 ≠ Direction.CLOSE.target := by decide +kernel
/-- R71, R77: an arrival at the first report after a start captures no travel time, that of a lost door does. -/
theorem test_first_report_captures_nothing :
    let t := fun shown => presentMS 0 ⟨.UNKNOWN, .IDLE, shown⟩ (moving false .CLOSED)
    (t false).entry 0 = none ∧ (t false).ms.doors[(0 : DoorIx)].closeFresh = false
    ∧ (t true).entry 0 = none ∧ (t true).ms.doors[(0 : DoorIx)].closeFresh = true := by decide +kernel
theorem witness_MovementsJudged_report_first :
    let s := (moving false .UNKNOWN).modReported 0 fun r => { r with shown := false }
    ReportTaken s 1 7 (reports true false .NONE) 0 ∧ NoRunHears s ∧ s.entry 0 = some (entry .CLOSE .MOVING)
    ∧ s.rc.reported[(0 : DoorIx)].shown = false := by decide +kernel
theorem witness_MovementsJudged_latch :
    let acked := listing [record .DOOR_FAULT 0 .ACTIVE_ACKED] (latched (moving true .CLOSED))
    let unseen := listing [record .DOOR_FAULT 0 .ACTIVE_UNACK] (latched (moving true .CLOSED))
    AlarmLaw acked ∧ NoRunHears acked ∧ restedLatch acked 0 .CLOSED = .NONE ∧ acked.latch 0 = .STALLED
    ∧ restedLatch unseen 0 .CLOSED = .STALLED ∧ restedLatch acked 0 .STOPPED = .STALLED
    ∧ phaseOf (latched (shows .STOPPED base)) 0 ≠ some .MOVING ∧ (shows .STOPPED base).position 0 ≠ .CLOSED := by
  decide +kernel
theorem witness_MovementsJudged_room :
    HasSpare base .DOOR_FAULT 0 ∧ otherCount base.al.records < 62
    ∧ wrongWay { entry .CLOSE .MOVING with started := true } .CLOSING Direction.CLOSE.opposite.moving := by decide +kernel
theorem witness_MovementsJudged_report :
    let s := moving true .CLOSING
    ReportTaken s 1 7 (reports true false .NONE) 0 ∧ NoRunHears s
    ∧ reportPosition (reports true false .NONE) = Direction.CLOSE.target
    ∧ ReportTaken s 1 7 (reports false false .NONE) 0 ∧ reportPosition (reports false false .NONE) = .STOPPED := by
  decide +kernel
theorem witness_MovementsJudged_report_wrong_way :
    let s := moving true .CLOSING
    ReportTaken s 1 7 (reports false true .NONE) 0
    ∧ wrongWay { entry .CLOSE .MOVING with started := true } (s.position 0) (reportPosition (reports false true .NONE)) := by
  decide +kernel
theorem witness_MovementsJudged_report_start :
    let s := moving false .OPEN
    ReportTaken s 1 7 (reports false false .CLOSING) 0 ∧ NoRunHears s ∧ s.entry 0 = some (entry .CLOSE .MOVING)
    ∧ reportPosition (reports false false .CLOSING) = Direction.CLOSE.moving := by decide +kernel
theorem witness_MovementsJudged_report_unmoved :
    let s := base.setEntry 0 (entry .CLOSE .WARNING)
    ReportTaken s 1 7 (reports true false .NONE) 0 ∧ NoRunHears s ∧ phaseOf s 0 = some .WARNING := by decide +kernel
theorem witness_DoorsFoundMoving_report :
    let r := reports false false .OPENING
    ReportTaken base 1 7 r 0 ∧ NoRunHears base ∧ base.position 0 ≠ Direction.OPEN.moving
    ∧ reportPosition r = Direction.OPEN.moving ∧ base.latch 0 = .NONE
    ∧ ReportTaken emergency 1 7 r 0 ∧ NoRunHears emergency ∧ emergency.entry 0 = none
    ∧ emergency.position 0 ≠ Direction.OPEN.moving ∧ emergency.cs.nextArrival ≠ arrivalTop := by decide +kernel
theorem witness_DoorsFoundMoving_report_latched :
    ReportTaken (latched base) 1 7 (reports false false .OPENING) 0 ∧ NoRunHears (latched base)
    ∧ (latched base).latch 0 ≠ .NONE := by decide +kernel
theorem witness_DoorsFoundMoving :
    base.entry 0 = none ∧ (shows .OPENING base).position 0 = Direction.OPEN.moving ∧ Position.OPEN ≠ Direction.OPEN.moving
    ∧ (shows .OPENING emergency).mc.mode = .EMERGENCY ∧ emergency.isEscape 0 = false ∧ base.cs.nextArrival ≠ arrivalTop
    ∧ (latched base).latch 0 ≠ .NONE ∧ HasRoom base .UNSUPERVISED_MOTION 0 := by decide +kernel
theorem witness_TimeCounts :
    Awake busy ∧ AlarmLaw busy ∧ CountsAtSea busy 0 ∧ busy.entry 0 = none ∧ busy.passage 0 = none ∧ busy.entry 1 ≠ none
    ∧ busy.seconds ≠ 0xFFFFFFFF#32
    ∧ (base.modFlow 0 fun f => { f with delayAlarm := true }).cs.flow[(0 : HpuIx)].delayAlarm = true := by decide +kernel
theorem witness_PreWarningExpires :
    (base.setEntry 0 (entry .CLOSE .WARNING)).entry 0 = some (entry .CLOSE .WARNING)
    ∧ (entry .CLOSE .WARNING).warnRemaining = 0 := by decide +kernel
theorem witness_MovementsTimeOut :
    let e := { entry .CLOSE .MOVING with startWindow := 0, elapsed := 20 }
    SettledLaw (base.setEntry 0 e) ∧ (base.setEntry 0 e).entry 0 = some e ∧ e.started = false ∧ e.repeatUsed = false
    ∧ e.hardLimit ≤ e.elapsed ∧ NoRunHears (base.setEntry 0 { e with repeatUsed := true })
    ∧ (base.setEntry 0 { e with repeatUsed := true }).position 0 ≠ .UNKNOWN
    ∧ (shows .UNKNOWN (base.setEntry 0 { e with repeatUsed := true })).position 0 = .UNKNOWN
    ∧ HasSpare base .DOOR_FAULT 0 := by decide +kernel
theorem witness_LateAlarms :
    ({ entry .CLOSE .MOVING with elapsed := 10 }).deadline ≤ ({ entry .CLOSE .MOVING with elapsed := 10 }).elapsed
    ∧ (∃ e ∈ (base.setEntry 0 { entry .CLOSE .READY with readyAge := 301 }).entry 0,
        e.phase = .READY ∧ 10 * base.tables.system.waitLimit < e.readyAge)
    ∧ base.cs.flow[base.hpuOf 0].delayAlarm = false
    ∧ (base.setPassage 0 ⟨.HELD, 601, false, false⟩).passage 0 = some ⟨.HELD, 601, false, false⟩
    ∧ 10 * base.tables.doors[(0 : DoorIx)].passageLimit < 601
    ∧ HasRoom base .TRAVEL_OVERTIME 0 ∧ HasRoom base .ADMISSION_DELAY 0 ∧ HasRoom base .PASSAGE_OVERDUE 0
    ∧ HasRoom base .DOOR_OPEN_AT_SEA 0 := by decide +kernel
theorem witness_SummaryExpires :
    base.inService = true ∧ (base.row 0).summaryMask ≠ 0 ∧ (base.row 3).summaryMask = 0
    ∧ (base.setPacing 0 ⟨5, true⟩).ib.pacing[(0 : PortIx)] = ⟨5, true⟩
    ∧ (base.setPacing 0 ⟨20, false⟩).ib.pacing[(0 : PortIx)].elapsed = 20 ∧ base.sp[(0 : PortIx)].queue.length < 64 := by
  decide +kernel
theorem witness_SummaryExpires_changes :
    let lost := shows .UNKNOWN base
    Watched lost 0 [0] (compIndication lost) ∧ ¬Watched lost 3 [0] (compIndication lost)
    ∧ ¬Watched (shows .STOPPED base) 0 [0] (compIndication (shows .STOPPED base))
    ∧ lost.ib.pacing[(0 : PortIx)].elapsed < 5 ∧ lost.position 0 ≠ .OPEN ∧ idle.inService = false := by decide +kernel
theorem witness_SummaryExpires_report :
    let lost := reports true true .NONE
    let stops := reports false false .NONE
    ReportTaken base 1 7 lost 0 ∧ NoRunHears base ∧ reportPosition lost ≠ base.position 0
    ∧ ReportTaken base 1 7 stops 0 ∧ reportPosition stops ≠ base.position 0
    ∧ base.tables.doors[(0 : DoorIx)].compA = 0 ∧ (base.row 0).summaryMask.getLsbD 0 = true := by decide +kernel
theorem witness_RunsWalk :
    let r := { run 5 with cursor := 1 }
    let s := inSlot 0 r base
    Awake s ∧ SettledLaw s ∧ s.gru.stack = [] ∧ slotIn base 0 .WALKING = false ∧ slotIn s 0 .WALKING = true
    ∧ listEntry s r = some ⟨1, 0⟩ ∧ s.position 0 ≠ r.direction.target ∧ s.position 0 ≠ .UNKNOWN ∧ s.latch 0 = .NONE
    ∧ listEntry s (run 5) = some ⟨0, 127⟩ ∧ (run 5).cursor + 1 < listLength s (run 5) ∧ s.isPresent 0 = true
    ∧ listEntry s { run 5 with group := .ALL, cursor := 2 } = some ⟨2, 127⟩ ∧ s.isPresent 2 = false := by decide +kernel
theorem witness_RunsWalk_bypass :
    let r := newRun 0 (.stored 0) .CLOSE 1 .A (.STATION 0) 5
    let t := { base.tables with groups := base.tables.groups.set 0 ⟨1, 30, 3, [⟨0, 127⟩, ⟨1, 0⟩, ⟨2, 127⟩]⟩ }
    let s := inSlot 0 { r with cursor := 1 } (latched { base with tables := t })
    SettledLaw s ∧ listEntry s { r with cursor := 1 } = some ⟨1, 0⟩ ∧ s.latch 0 ≠ .NONE ∧ s.position 0 ≠ .CLOSED
    ∧ 2 < listLength s r ∧ HasRoom s .PRECONDITION_BYPASSED 1 := by decide +kernel
/-- A walk step of the run takes a list entry. -/
abbrev Takes (s : State) (r : Run) (e : GroupEntry) : Prop :=
  Awake s ∧ SettledLaw s ∧ s.gru.stack = [] ∧ s.gru.slots[r.slot] = some r ∧ r.state = .WALKING ∧ listEntry s r = some e

theorem witness_RunsWalk_last :
    let r := { run 5 with cursor := 1 }
    let s := fun x => inSlot 0 r (shows x base)
    Takes (s .OPEN) r ⟨1, 0⟩ ∧ r.cursor + 1 = listLength (s .OPEN) r ∧ PreWaits (s .OPEN) r ⟨1, 0⟩
    ∧ PreMet (s .CLOSED) r ⟨1, 0⟩ ∧ PreBypassed (s .UNKNOWN) r ⟨1, 0⟩ ∧ PreBypassed (latched (s .OPEN)) r ⟨1, 0⟩
    ∧ PreMet (s .OPEN) (run 5) ⟨0, 127⟩ ∧ (s .OPEN).entry 1 = none := by decide +kernel
theorem witness_RunsWalk_last_absent :
    let r := { newRun slotS .ALL .CLOSE 2 .A .MODE 5 with cursor := 95 }
    let s := fun n => setSlot slotS (some { r with outstanding := n }) base
    Takes (s 0) r ⟨95, 127⟩ ∧ r.cursor + 1 = listLength (s 0) r ∧ (s 0).isPresent 95 = false
    ∧ Takes (s 1) { r with outstanding := 1 } ⟨95, 127⟩ ∧ (s 0).roleAt 0 = .BRIDGE ∧ (s 0).sp[(0 : PortIx)].queue.length ≤ 40 := by
  decide +kernel
theorem witness_RunsWalk_last_present :
    let r := { run 5 with group := .ALL, cursor := 95 }
    let s := inSlot 0 r { base with tables := { base.tables with doors := base.tables.doors.set 95 (door 3 20 0 0) } }
    Takes s r ⟨95, 127⟩ ∧ r.cursor + 1 = listLength s r ∧ s.isPresent 95 = true ∧ s.entry 95 = none := by decide +kernel
theorem witness_WaitAgeExpires :
    let t := { base.tables with groups := base.tables.groups.set 0 ⟨1, 30, 3, [⟨0, 127⟩, ⟨1, 0⟩, ⟨2, 127⟩]⟩ }
    let r := { run 5 with cursor := 1, state := .WAITING, waitAge := 300 }
    let s := inSlot 0 r { base with tables := t }
    SettledLaw s ∧ 10 * s.tables.groups[(0 : GroupIx)].waitLimit ≤ r.waitAge ∧ r.group = .stored 0
    ∧ (listEntry s r).map GroupEntry.door = some 1 ∧ r.cursor + 1 < listLength s r ∧ s.entry 1 = none
    ∧ HasRoom s .PRECONDITION_BYPASSED 1
    ∧ listEntry s r = some ⟨1, 0⟩ ∧ (∀ j : SlotIx, j ≠ 0 → slotIn s j .WAITING = false)
    ∧ (∀ j : SlotIx, j ≠ 0 → ∀ x ∈ s.gru.slots[j], x.number ≠ r.number)
    ∧ (shows .CLOSED s).position 0 = r.direction.target ∧ (shows .UNKNOWN s).position 0 = .UNKNOWN
    ∧ s.position 0 ≠ r.direction.target := by decide +kernel
theorem witness_WaitAgeExpires_report :
    let t := { base.tables with groups := base.tables.groups.set 0 ⟨1, 30, 3, [⟨0, 127⟩, ⟨1, 0⟩, ⟨2, 127⟩]⟩ }
    let r := { run 5 with cursor := 1, state := .WAITING }
    let s := inSlot 0 r { base with tables := t }
    ReportTaken s 1 7 (reports true false .NONE) 0 ∧ ReportTaken s 1 7 (reports true true .NONE) 0
    ∧ s.entry 0 = none ∧ s.gru.stack = [] ∧ s.gru.slots[(0 : SlotIx)] = some { r with slot := 0, acceptedIn := 0 }
    ∧ listEntry s r = some ⟨1, 0⟩ ∧ r.cursor + 1 < listLength s r := by decide +kernel
theorem witness_WaitAgeExpires_report_shown :
    reportPosition (reports true false .NONE) = Direction.target (run 5).direction
    ∧ reportPosition (reports true true .NONE) = .UNKNOWN ∧ HasSpare base .PRECONDITION_BYPASSED 1 := by decide +kernel

end Sys2Proof.Tests
end

section
/-! ## The position of a REPORT (R6, R7)

A contradiction hides the position; without one the pair of limits picks the part of R6's table, and the motion the
line in it. -/
namespace Sys2Proof.Proofs
open Sys2Proof Sys2Proof.Machine

section
variable {r : ReportBits}

/-- R7: both limits, or the sensor fault flag. -/
theorem contradiction_eq_true_iff :
    contradiction r = true ↔ (r.closedLimit = true ∧ r.openLimit = true) ∨ r.sensorFault = true := by
  simp [contradiction]

theorem reportPosition_of_contradiction (h : contradiction r = true) : reportPosition r = .UNKNOWN :=
  if_pos h

/-- R6 at the closed limit: only a motion away from it shows. -/
theorem reportPosition_at_closedLimit (hfault : r.sensorFault = false) (hclosed : r.closedLimit = true)
    (hopen : r.openLimit = false) :
    reportPosition r = if r.motion = .OPENING then .OPENING else .CLOSED := by
  have hnone : ¬ contradiction r = true := by simp [contradiction_eq_true_iff, hfault, hopen]
  cases hmotion : r.motion <;> simp [reportPosition, hnone, hclosed, hmotion]

/-- R6 at the open limit: only a motion away from it shows. -/
theorem reportPosition_at_openLimit (hfault : r.sensorFault = false) (hclosed : r.closedLimit = false)
    (hopen : r.openLimit = true) :
    reportPosition r = if r.motion = .CLOSING then .CLOSING else .OPEN := by
  have hnone : ¬ contradiction r = true := by simp [contradiction_eq_true_iff, hfault, hclosed]
  cases hmotion : r.motion <;> simp [reportPosition, hnone, hclosed, hopen, hmotion]

/-- R6 between the limits: the motion alone decides. -/
theorem reportPosition_between_limits (hfault : r.sensorFault = false) (hclosed : r.closedLimit = false)
    (hopen : r.openLimit = false) :
    reportPosition r =
      if r.motion = .CLOSING then .CLOSING else if r.motion = .OPENING then .OPENING else .STOPPED := by
  have hnone : ¬ contradiction r = true := by simp [contradiction_eq_true_iff, hfault, hclosed]
  cases hmotion : r.motion <;> simp [reportPosition, hnone, hclosed, hopen, hmotion]

end

/-- Settles O14: the sensor fault and the pair of limits choose one of the lemmas above, the motion its line. -/
theorem positionOfReport : Obligations.PositionOfReport := by
  intro r
  refine ⟨fun hfault => reportPosition_of_contradiction (contradiction_eq_true_iff.mpr (.inr hfault)),
    fun hfault => ⟨?closedNone, ?closedClosing, ?closedOpening, ?openNone, ?openOpening, ?openClosing,
      ?betweenClosing, ?betweenOpening, ?betweenNone, ?bothLimits⟩⟩
  case bothLimits =>
    exact fun hclosed hopen =>
      reportPosition_of_contradiction (contradiction_eq_true_iff.mpr (.inl ⟨hclosed, hopen⟩))
  case closedNone | closedClosing | closedOpening =>
    intro hclosed hopen hmotion
    simp [reportPosition_at_closedLimit hfault hclosed hopen, hmotion]
  case openNone | openOpening | openClosing =>
    intro hclosed hopen hmotion
    simp [reportPosition_at_openLimit hfault hclosed hopen, hmotion]
  case betweenClosing | betweenOpening | betweenNone =>
    intro hclosed hopen hmotion
    simp [reportPosition_between_limits hfault hclosed hopen, hmotion]

end Sys2Proof.Proofs
end

section
/-! ## Capacity and the admission limit (R51, R53)

The equations of `effectiveCapacity`, `admissionLimit` and `fits`, and what follows for a record that a write has
clamped. -/
namespace Sys2Proof.Proofs
open Sys2Proof Sys2Proof.Machine

theorem clampTo_le {lo hi : Nat} (h : lo ≤ hi) (v : Nat) : clampTo lo hi v ≤ hi := by
  unfold clampTo; omega

/-- R49: a capacity that the clamp leaves as it is. -/
theorem capacity_le_of_clamp_eq {c : HpuConfig} (h : c.clamp = c) : c.capacity ≤ 4000 :=
  calc c.capacity = clampTo 1 4000 c.capacity := (congrArg HpuConfig.capacity h).symm
    _ ≤ 4000 := clampTo_le (by decide) _

/-- R49: a nominal pressure that the clamp leaves as it is. -/
theorem nominal_le_of_clamp_eq {c : HpuConfig} (h : c.clamp = c) : c.nominal ≤ 4000 :=
  calc c.nominal = clampTo 1 4000 c.nominal := (congrArg HpuConfig.nominal h).symm
    _ ≤ 4000 := clampTo_le (by decide) _

/-- R51: a pressure above nominal counts as nominal, so no capacity is gained. -/
theorem capacityFor_ready_le (c p pn : Nat) : capacityFor .READY c p pn ≤ c :=
  Nat.div_le_of_le_mul <|
    calc c * min p pn ≤ c * pn := Nat.mul_le_mul_left c (Nat.min_le_right p pn)
      _ = pn * c := Nat.mul_comm c pn

theorem capacityFor_ready_zero_pressure (c pn : Nat) : capacityFor .READY c 0 pn = 0 := by
  simp [capacityFor]

/-- R51: the product formed before the division, for a record in range. -/
theorem capacity_mul_pressure_le {c : HpuConfig} (h : c.inRange) (p : Nat) :
    c.capacity * min p c.nominal ≤ 16000000 := by
  obtain ⟨-, hclamp⟩ := h
  have hpressure : min p c.nominal ≤ 4000 := (Nat.min_le_right _ _).trans (nominal_le_of_clamp_eq hclamp)
  exact Nat.mul_le_mul (capacity_le_of_clamp_eq hclamp) hpressure

section
variable {s : State} {h : HpuIx} {cls : Nat}

theorem effectiveCapacity_of_present (hpresent : s.hpuPresent h = true) :
    effectiveCapacity s h = capacityFor s.rc.hpus[h].state s.tables.hpus[h].capacity s.rc.hpus[h].pressure
      s.tables.hpus[h].nominal :=
  if_pos hpresent

/-- R53: class 0 is never the direct lane. -/
theorem isDirectLane_eq_true_iff : isDirectLane s cls = true ↔ cls ≠ 0 ∧ s.tables.system.directLane = cls := by
  simp [isDirectLane]

theorem isDirectLane_eq_false_iff : isDirectLane s cls = false ↔ cls = 0 ∨ s.tables.system.directLane ≠ cls := by
  rw [← Bool.not_eq_true, isDirectLane_eq_true_iff, not_and_or, not_ne_iff]

theorem admissionLimit_of_directLane (hlane : isDirectLane s cls = true) :
    admissionLimit s h cls = s.cs.flow[h].capacityE :=
  if_pos hlane

/-- R53: the two lines for the other classes are one truncated difference. -/
theorem admissionLimit_of_not_directLane (hlane : isDirectLane s cls = false) :
    admissionLimit s h cls = s.cs.flow[h].capacityE - s.tables.hpus[h].reserve := by
  simp only [admissionLimit, hlane, Bool.false_eq_true, if_false]
  split <;> omega

theorem fits_eq_true_iff {draw : Nat} :
    fits s h cls draw = true ↔ s.cs.flow[h].committed + draw ≤ admissionLimit s h cls :=
  decide_eq_true_iff

end

/-! The settling theorems stand in a namespace of their own: in `Sys2Proof.Proofs` their names would hide the model's
functions `effectiveCapacity` and `admissionLimit`. -/
namespace Admission

/-- Settles O16: presence leaves R51's table, and the state chooses its line. -/
theorem effectiveCapacity : Obligations.EffectiveCapacity := by
  intro s h hpresent c pn p e
  have hline {state : HpuState} (hstate : s.rc.hpus[h].state = state) : e = capacityFor state c p pn :=
    hstate ▸ effectiveCapacity_of_present hpresent
  refine ⟨fun hready => ?ready, fun hfailed => hline hfailed, fun hunknown => hline hunknown,
    fun hlost => hline hlost, fun hrange => capacity_mul_pressure_le hrange p⟩
  case ready =>
    refine ⟨hline hready, (hline hready).le.trans (capacityFor_ready_le c p pn), fun hzero => ?_⟩
    rw [hline hready, hzero, capacityFor_ready_zero_pressure]

/-- Settles O17: the direct lane or not, and off it E above the reserve or not. -/
theorem admissionLimit : Obligations.AdmissionLimit := by
  intro s h cls draw e r l
  have hother (hlane : cls = 0 ∨ s.tables.system.directLane ≠ cls) : l = e - r :=
    admissionLimit_of_not_directLane (isDirectLane_eq_false_iff.mpr hlane)
  refine ⟨fun hcls hlane => ?direct, fun hlane _ => hother hlane, fun hlane hle => ?noneLeft, fits_eq_true_iff⟩
  case direct => exact admissionLimit_of_directLane (isDirectLane_eq_true_iff.mpr ⟨hcls, hlane⟩)
  case noneLeft => rw [hother hlane, Nat.sub_eq_zero_of_le hle]

end Admission

end Sys2Proof.Proofs
end

section
/-! ## Deadline and hard limit (R67)

The product N × (100 + tol) lies between 100 × N and 300,000 for a record that a write has clamped; its ceiling by 100
carries those bounds over to D, and D's to H. -/
namespace Sys2Proof.Proofs
open Sys2Proof Sys2Proof.Machine

theorem le_clampTo (lo hi v : Nat) : lo ≤ clampTo lo hi v :=
  Nat.le_max_left _ _

/-- R3: both nominals are clamped alike, so no later proof tells the directions apart. -/
theorem nominalOf_clamp (c : DoorConfig) (dir : Direction) :
    nominalOf c.clamp dir = clampTo 10 1500 (nominalOf c dir) := by
  cases dir <;> rfl

section
variable {c : DoorConfig}

theorem nominalOf_ge_of_clamp_eq (h : c.clamp = c) (dir : Direction) : 10 ≤ nominalOf c dir :=
  calc 10 ≤ clampTo 10 1500 (nominalOf c dir) := le_clampTo _ _ _
    _ = nominalOf c dir := by rw [← nominalOf_clamp, h]

theorem nominalOf_le_of_clamp_eq (h : c.clamp = c) (dir : Direction) : nominalOf c dir ≤ 1500 :=
  calc nominalOf c dir = clampTo 10 1500 (nominalOf c dir) := by rw [← nominalOf_clamp, h]
    _ ≤ 1500 := clampTo_le (by decide) _

theorem tolerance_le_of_clamp_eq (h : c.clamp = c) : c.tolerance ≤ 100 :=
  calc c.tolerance = clampTo 0 100 c.tolerance := (congrArg DoorConfig.tolerance h).symm
    _ ≤ 100 := clampTo_le (by decide) _

/-- R67: the product formed before the division, for a record in range. -/
theorem nominal_mul_tolerance_le (h : c.inRange) (dir : Direction) :
    nominalOf c dir * (100 + c.tolerance) ≤ 300000 := by
  obtain ⟨-, hclamp⟩ := h
  exact Nat.mul_le_mul (nominalOf_le_of_clamp_eq hclamp dir)
    (Nat.add_le_add_left (tolerance_le_of_clamp_eq hclamp) 100)

end

section
variable (n tol : Nat)

/-- With `mul_deadlineOf_lt`: D is the ceiling of the product over 100. -/
theorem le_mul_deadlineOf : n * (100 + tol) ≤ 100 * deadlineOf n tol := by
  unfold deadlineOf; omega

theorem mul_deadlineOf_lt : 100 * deadlineOf n tol < n * (100 + tol) + 100 := by
  unfold deadlineOf; omega

/-- A tolerance never shortens the time allowed. -/
theorem le_deadlineOf : n ≤ deadlineOf n tol := by
  have hproduct : n * 100 ≤ n * (100 + tol) := Nat.mul_le_mul_left n (Nat.le_add_right 100 tol)
  have hceil := le_mul_deadlineOf n tol
  omega

end

theorem deadlineOf_le {n tol : Nat} (h : n * (100 + tol) ≤ 300000) : deadlineOf n tol ≤ 3000 := by
  have hceil := mul_deadlineOf_lt n tol
  omega

theorem hardLimitOf_ge {late : Nat} (h : 10 ≤ late) : 20 ≤ hardLimitOf late :=
  le_min (Nat.mul_le_mul_left 2 h) (by decide)

theorem hardLimitOf_le (late : Nat) : hardLimitOf late ≤ 4095 :=
  Nat.min_le_right _ _

/-- R67: the cap at 4095 leaves the hard limit above every deadline of a record in range. -/
theorem lt_hardLimitOf {late : Nat} (hpos : 0 < late) (hcap : late < 4095) : late < hardLimitOf late :=
  lt_min (by omega) hcap

/-- Settles O15: the bounds on the product and on D, from which those on H follow. -/
theorem deadlineAndHardLimit : Obligations.DeadlineAndHardLimit := by
  intro s d dir hrange n tol late
  have hproduct : n * (100 + tol) ≤ 300000 := nominal_mul_tolerance_le hrange dir
  have hlow : 10 ≤ late := (nominalOf_ge_of_clamp_eq hrange.right dir).trans (le_deadlineOf n tol)
  have hhigh : late ≤ 3000 := deadlineOf_le hproduct
  have hbelow : late < hardLimitOf late := lt_hardLimitOf (by omega) (by omega)
  exact ⟨le_mul_deadlineOf n tol, mul_deadlineOf_lt n tol, rfl, hproduct, hlow, hhigh, hardLimitOf_ge hlow,
    hardLimitOf_le late, hbelow⟩

end Sys2Proof.Proofs
end

section
/-! ## Frames of the operations that the shared frames leave out -/
namespace Sys2Proof.Machine

set_option Elab.async false

theorem RunFrame.setEntry (s : State) (d : DoorIx) (e : Entry) : RunFrame s (s.setEntry d e) :=
  (ScheduleFrame.setEntry s d e).toRunFrame

theorem RunFrame.reverseOne (o : Origin) (d : DoorIx) (s : State) : RunFrame s (reverseOne o d s) := by
  unfold Machine.reverseOne
  split
  · exact .reverseEntry ..
  · exact .refl s

theorem RunFrame.adopt (d : DoorIx) (dir : Direction) (s : State) : RunFrame s (adopt d dir s) :=
  ((RunFrame.takeArrival d s).trans (.makeEntry ..)).trans (ScheduleFrame.modFlow ..).toRunFrame

theorem RunFrame.foundMoving (d : DoorIx) (dir : Direction) (s : State) : RunFrame s (foundMoving d dir s) :=
  .ite ((RunFrame.adopt d dir s).trans (.ite ((RunFrame.reverseOne ..).trans (ScheduleFrame.pass ..).toRunFrame) (.refl _)))
    (AlarmFrame.raiseDoor ..).toRunFrame

theorem RunFrame.clearAtRest (d : DoorIx) (s : State) : RunFrame s (clearAtRest d s) :=
  .ite ((AlarmFrame.clearDoor ..).trans (.clearDoor ..)).toRunFrame (.refl s)

theorem RunFrame.arrive (d : DoorIx) (e : Entry) (b : Before) (s : State) : RunFrame s (arrive d e b s) :=
  RunFrame.trans (.ite (AlarmFrame.modSup ..).toRunFrame (.refl s)) (.removeEntry ..)

theorem RunFrame.judgeEntry (d : DoorIx) (e : Entry) (b : Before) (s : State) : RunFrame s (judgeEntry d e b s) := by
  unfold Machine.judgeEntry
  split
  · exact .arrive ..
  · exact .setEntry ..
  · exact .faultDoor ..
  · exact .faultDoor ..
  · exact .refl s

theorem RunFrame.releaseOnIdle (d : DoorIx) (prev : Handle) (s : State) : RunFrame s (releaseOnIdle d prev s) := by
  unfold Machine.releaseOnIdle
  split
  · exact .ite (.removeEntry ..) (.refl s)
  · exact .refl s

/-- MS takes a presentation and leaves the mode, the doors' reported fields, the tables and the indications. -/
theorem RunFrame.presentMS (d : DoorIx) (b : Before) (s : State) : RunFrame s (presentMS d b s) := by
  have rest (u : State) : RunFrame u (match u.entry d with
      | some e => if e.phase = .MOVING then Machine.releaseOnIdle d b.handle (Machine.judgeEntry d e b u) else u
      | none => match foundDirection b.position (u.position d) with
        | some dir => Machine.foundMoving d dir u
        | none => u) := by
    split
    · exact .ite ((RunFrame.judgeEntry ..).trans (.releaseOnIdle ..)) (.refl u)
    · split
      · exact .foundMoving ..
      · exact .refl u
  exact (RunFrame.clearAtRest d s).trans (rest _)

theorem RunFrame.presentCS (d : DoorIx) (s : State) : RunFrame s (presentCS d s) := by
  unfold Machine.presentCS
  split
  · exact .ite (.removeEntry ..) (.refl s)
  · exact .refl s

theorem RunFrame.setPassage (s : State) (d : DoorIx) (x : Passage) : RunFrame s (s.setPassage d x) :=
  ⟨⟨rfl, rfl, rfl, rfl, rfl, fun _ => rfl, rfl, rfl, rfl, rfl⟩, rfl, rfl, rfl, rfl, rfl⟩

theorem RunFrame.zeroOas (s : State) (d : DoorIx) : RunFrame s (s.zeroOas d) :=
  ⟨⟨rfl, rfl, rfl, rfl, rfl, fun _ => rfl, rfl, rfl, rfl, rfl⟩, rfl, rfl, rfl, rfl, rfl⟩

theorem RunFrame.submitReclose (d : DoorIx) (x : Passage) (s : State) : RunFrame s (submitReclose d x s) :=
  ((RunFrame.setPassage ..).trans (.decideDemand ..)).trans (.ite (.endPassage ..) (.refl _))

theorem RunFrame.releasePassageEntry (d : DoorIx) (s : State) : RunFrame s (releasePassageEntry d s) := by
  unfold Machine.releasePassageEntry
  split
  · exact .ite (.removeEntry ..) (.refl s)
  · exact .refl s

theorem RunFrame.endHoldOf (d : DoorIx) (s : State) : RunFrame s (endHoldOf d s) := by
  unfold Machine.endHoldOf
  split
  · exact .ite (.refl s) ((RunFrame.releasePassageEntry d s).trans (.ite (.setPassage ..) (.submitReclose ..)))
  · exact .refl s

theorem RunFrame.endAnyPassage (d : DoorIx) (s : State) : RunFrame s (endAnyPassage d s) := by
  unfold Machine.endAnyPassage
  split
  · exact .endPassage ..
  · exact .refl s

theorem RunFrame.openPassage (d : DoorIx) (s : State) : RunFrame s (openPassage d s) := by
  have decided := RunFrame.decideDemand (passageDemand .OPEN (passageClass s.mc.mode) d) s
  unfold Machine.openPassage
  simp only
  split
  · exact ((decided.trans (.endAnyPassage d _)).trans (.setPassage ..)).trans (.zeroOas ..)
  · exact decided

theorem RunFrame.releaseLocal (d : DoorIx) (s : State) : RunFrame s (releaseLocal d s) := by
  unfold Machine.releaseLocal
  split
  · exact .ite (.removeEntry ..) (.refl s)
  · exact .refl s

theorem RunFrame.progressPassage (d : DoorIx) (x : Passage) (s : State) : RunFrame s (progressPassage d x s) := by
  unfold Machine.progressPassage
  split
  · exact .ite (.setPassage ..) (.refl s)
  · exact .refl s
  · exact .ite (.ite (.endPassage ..) (.refl s)) (.ite (.refl s) (.submitReclose ..))

/-- MC takes the position of a presentation and leaves the mode, the reported fields, the tables and the indications. -/
theorem RunFrame.presentPassage (d : DoorIx) (s : State) : RunFrame s (presentPassage d s) := by
  have cleared : RunFrame s (if s.position d = .CLOSED then Machine.clearDoor .DOOR_OPEN_AT_SEA d s else s) :=
    .ite (AlarmFrame.clearDoor ..).toRunFrame (.refl s)
  have taken (u : State) : RunFrame u (match u.passage d with
      | some x => Machine.progressPassage d x u
      | none => u) := by
    split
    · exact .progressPassage ..
    · exact .refl u
  exact cleared.trans (taken _)

/-- What a presentation keeps whatever its actions do: everything but the schedule, the runs, the passages, the alarms, the
orders, the queues, MS and the indications. -/
structure PresentFrame (s t : State) : Prop where
  tables : t.tables = s.tables
  cfs : t.cfs = s.cfs
  pins : t.pins = s.pins
  seconds : t.seconds = s.seconds
  pending : t.pending = s.pending
  queues : OnlyQueues s t
  orders : OnlyOrders s t
  mode : t.mc.mode = s.mc.mode
  line : t.mc.line = s.mc.line
  bridgeLost : t.mc.bridgeLost = s.mc.bridgeLost
  snapNumber : t.ib.snapNumber = s.ib.snapNumber
  sending : t.ib.sending = s.ib.sending
  buffer : t.ib.buffer = s.ib.buffer

theorem RunFrame.toPresentFrame {s t : State} (h : RunFrame s t) : PresentFrame s t where
  tables := h.tables
  cfs := h.cfs
  pins := h.pins
  seconds := h.seconds
  pending := h.pending
  queues := h.queues
  orders := h.orders
  mode := h.mode
  line := h.line
  bridgeLost := h.bridgeLost
  snapNumber := by rw [h.pacing]
  sending := by rw [h.pacing]
  buffer := by rw [h.pacing]

theorem PresentFrame.refl (s : State) : PresentFrame s s := (RunFrame.refl s).toPresentFrame

theorem PresentFrame.trans {s t u : State} (h : PresentFrame s t) (g : PresentFrame t u) : PresentFrame s u where
  tables := g.tables.trans h.tables
  cfs := g.cfs.trans h.cfs
  pins := g.pins.trans h.pins
  seconds := g.seconds.trans h.seconds
  pending := g.pending.trans h.pending
  queues := h.queues.trans g.queues
  orders := h.orders.trans g.orders
  mode := g.mode.trans h.mode
  line := g.line.trans h.line
  bridgeLost := g.bridgeLost.trans h.bridgeLost
  snapNumber := g.snapNumber.trans h.snapNumber
  sending := g.sending.trans h.sending
  buffer := g.buffer.trans h.buffer

theorem PresentFrame.ite {c : Prop} [Decidable c] {s a b : State} (h : PresentFrame s a) (k : PresentFrame s b) :
    PresentFrame s (if c then a else b) := by
  split
  · exact h
  · exact k

theorem PresentFrame.forEach {ι : Type} {act : ι → State → State} (h : ∀ i s, PresentFrame s (act i s)) (l : List ι)
    (s : State) : PresentFrame s (forEach l act s) := forEach_rel .refl .trans h l s

theorem PresentFrame.denyHandle (d : DoorIx) (s : State) : PresentFrame s (denyHandle d s) := by
  have counted : PresentFrame s (s.modSea d fun x => { x with denied := satInc 255 x.denied }) :=
    ⟨rfl, rfl, rfl, rfl, rfl, fun _ => rfl, rfl, rfl, rfl, rfl, rfl, rfl, rfl⟩
  refine counted.trans (RunFrame.toPresentFrame ?_)
  unfold Machine.denyHandle
  simp only
  split
  · exact .ite (ScheduleFrame.queueOrder ..).toRunFrame (.refl _)
  · exact (ScheduleFrame.queueOrder ..).toRunFrame

theorem PresentFrame.handleDemand (d : DoorIx) (new : Handle) (s : State) : PresentFrame s (handleDemand d new s) := by
  unfold Machine.handleDemand localDemand
  split
  · exact (RunFrame.decideDemand ..).toPresentFrame
  · exact (RunFrame.decideDemand ..).toPresentFrame
  · exact (RunFrame.openPassage ..).toPresentFrame
  · exact .ite (RunFrame.openPassage ..).toPresentFrame (.denyHandle ..)
  all_goals exact .refl s

theorem RunFrame.handleReleases (d : DoorIx) (prev : Handle) (s : State) :
    RunFrame s
      (let s := if prev = .OPEN ∨ prev = .CLOSE then Machine.releaseLocal d s else s
       if prev = .OPEN ∧ s.mc.mode ≠ .LOCAL then Machine.endHoldOf d s else s) :=
  (RunFrame.ite (.releaseLocal ..) (.refl s)).trans (.ite (.endHoldOf ..) (.refl _))

theorem PresentFrame.handleChange (d : DoorIx) (prev new : Handle) (s : State) :
    PresentFrame s (handleChange d prev new s) :=
  (RunFrame.handleReleases d prev s).toPresentFrame.trans (.handleDemand ..)

theorem PresentFrame.sendSummary (p : PortIx) (s : State) : PresentFrame s (sendSummary p s) := by
  have placed := (PlaceFrame.place p (zoneSummary s p) s).toRunFrame.toPresentFrame
  have paced (u : State) (x : Pacing) : PresentFrame u (u.setPacing p x) := (PlaceFrame.setPacing u p x).toRunFrame.toPresentFrame
  have chosen (u : State) : PresentFrame u (freeChoice Config.pendingAfterDrop u).2 :=
    ⟨rfl, rfl, rfl, rfl, rfl, fun _ => rfl, rfl, rfl, rfl, rfl, rfl, rfl, rfl⟩
  unfold Machine.sendSummary
  exact .ite ((placed.trans (chosen _)).trans (paced ..)) (placed.trans (paced ..))

theorem PresentFrame.sendSummaries (s : State) : PresentFrame s (sendSummaries s) := .forEach (fun _ _ => .sendSummary ..) _ s

theorem PresentFrame.pacingChange (p : PortIx) (s : State) : PresentFrame s (pacingChange p s) :=
  .ite (PlaceFrame.setPacing ..).toRunFrame.toPresentFrame (.sendSummary ..)

theorem PresentFrame.writeComps (l : List CompIx) (s : State) : PresentFrame s (writeComps l s) := by
  unfold Machine.writeComps
  exact ⟨rfl, rfl, rfl, rfl, rfl, fun _ => rfl, rfl, rfl, rfl, rfl, rfl, rfl, rfl⟩

theorem PresentFrame.recomputeComps (l : List CompIx) (s : State) : PresentFrame s (recomputeComps l s) :=
  .ite ((PresentFrame.writeComps l s).trans (.forEach (fun _ _ => .pacingChange ..) _ _)) (.writeComps l s)

theorem PresentFrame.presentIB (d : DoorIx) (prev : Position) (s : State) : PresentFrame s (presentIB d prev s) :=
  .ite (.refl s) (.recomputeComps ..)

theorem PresentFrame.takePresentation (d : DoorIx) (b : Before) (a : PresentAct) (s : State) :
    PresentFrame s (takePresentation d b a s) := by
  cases a with
  | MS => exact (RunFrame.presentMS ..).toPresentFrame
  | CS => exact (RunFrame.presentCS ..).toPresentFrame
  | MC_PASSAGE => exact (RunFrame.presentPassage ..).toPresentFrame
  | MC_HANDLE => exact .ite (.refl s) (.handleChange ..)
  | GRU => exact (RunFrame.pokeRuns ..).toPresentFrame
  | IB => exact .presentIB ..

theorem PresentFrame.presentIn (order : List PresentAct) (d : DoorIx) (b : Before) (s : State) :
    PresentFrame s (presentIn order d b s) :=
  (PresentFrame.forEach (fun _ _ => .takePresentation ..) _ s).trans (RunFrame.settleRuns _).toPresentFrame

theorem PresentFrame.present (d : DoorIx) (b : Before) (s : State) : PresentFrame s (present d b s) := by
  have chosen : PresentFrame s { s with freeCount := s.freeCount + 1 } :=
    ⟨rfl, rfl, rfl, rfl, rfl, fun _ => rfl, rfl, rfl, rfl, rfl, rfl, rfl, rfl⟩
  exact .ite (chosen.trans (.presentIn ..)) (.presentIB ..)

end Sys2Proof.Machine
end

section
/-! ## What a command is made of

Every command is a chain of a few kinds of micro steps: updates that add nothing to what the laws speak of, and the ones that do.
The chain is found once, operation by operation; the laws of the queues, the alarm list, the tables, the part state and the
absent doors are then proved of the micro steps alone. -/
namespace Sys2Proof.Proofs
open Sys2Proof Sys2Proof.Machine

set_option Elab.async false

section
variable {s t : State}

theorem queues_le_of_sp (h : t.sp = s.sp) (p : PortIx) : t.sp[p].queue.length ≤ s.sp[p].queue.length :=
  Nat.le_of_eq (by rw [h])
theorem entries_of_cs (h : t.cs.entries = s.cs.entries) (d : DoorIx) : (t.entry d).isSome = true → (s.entry d).isSome = true := by
  unfold State.entry; rw [h]; exact id
theorem passages_of_mc (h : t.mc.passages = s.mc.passages) (d : DoorIx) :
    (t.passage d).isSome = true → (s.passage d).isSome = true := by
  unfold State.passage; rw [h]; exact id
theorem live_of_gru (h : t.gru = s.gru) : liveRuns s = [] → liveRuns t = [] := by
  unfold liveRuns; rw [h]; exact id

end

/-- An update that adds no frame, order, entry, passage, run or poll, and leaves the alarm list, the tables, the mode and the
part state. -/
structure Calm (s t : State) : Prop where
  orders : t.rc.orders.Sublist s.rc.orders := by exact List.Sublist.refl _
  queues : ∀ p : PortIx, t.sp[p].queue.length ≤ s.sp[p].queue.length := by exact queues_le_of_sp rfl
  records : t.al.records = s.al.records := by rfl
  alarmLine : t.al.line = s.al.line := by rfl
  reset : t.pins.reset = s.pins.reset := by rfl
  entries : ∀ d : DoorIx, (t.entry d).isSome = true → (s.entry d).isSome = true := by exact entries_of_cs rfl
  passages : ∀ d : DoorIx, (t.passage d).isSome = true → (s.passage d).isSome = true := by exact passages_of_mc rfl
  live : liveRuns s = [] → liveRuns t = [] := by exact live_of_gru rfl
  mode : t.mc.mode = s.mc.mode := by rfl
  part : t.cfs.part = s.cfs.part := by rfl
  tables : t.tables = s.tables := by rfl
  save : t.cfs.save.isSome = true → t.cfs.saveBuffer = s.tables.image ∨
    (s.cfs.save.isSome = true ∧ t.cfs.saveBuffer = s.cfs.saveBuffer) := by exact fun h => Or.inr ⟨h, rfl⟩
  absent : ∀ d : DoorIx, s.isPresent d = false → t.rc.reported[d] = s.rc.reported[d] := by exact fun _ _ => rfl
  polled : t.rc.polled = s.rc.polled := by rfl
  pollEnded : s.rc.pollEnded = true → t.rc.pollEnded = true := by exact fun h => h

/-- The tables with one door record written. -/
def withDoor (t : Tables) (d : DoorIx) (c : DoorConfig) : Tables := { t with doors := put t.doors d c }
/-- The tables with one HPU record written. -/
def withHpu (t : Tables) (h : HpuIx) (c : HpuConfig) : Tables := { t with hpus := put t.hpus h c }
/-- The tables with one group record written. -/
def withGroup (t : Tables) (g : GroupIx) (c : GroupRec) : Tables := { t with groups := put t.groups g c }
/-- The tables with one permit row written. -/
def withPermit (t : Tables) (p : PortIx) (c : PermitRow) : Tables := { t with permits := put t.permits p c }

/-- The part with one door record written and, where its address or present flag changed, the door begun anew (R4). -/
def doorSet (d : DoorIx) (old new : DoorConfig) (s : State) : State :=
  let t := setTables (withDoor s.tables d new) s
  if old.moved new then resetDoor d old.node new.node t else t

/-- DECOMMISSION as far as the ring: the part state, the orders sent, the polling stopped (R183). -/
def retired (s : State) : State := stopPolling (sendOrders (setPart .UNCONFIGURED (ringQuiet s)))

/-- The kinds of change a command is made of. -/
inductive Micro : State → State → Prop where
  | calm {s t : State} (h : Calm s t) : Micro s t
  | place (p : PortIx) (f : Frame) (s : State) : Micro s (place p f s)
  | joinPart (p : PortIx) (s : State) : Micro s (joinPart p s)
  | queueOrder (d : DoorIx) (k : OrderKind) (s : State) : Micro s (queueOrder d k s)
  | raise (k : AlarmKind) (x : Nat) (s : State) (hfull : k ≠ .LIST_FULL) (hevent : k ≠ .PRECONDITION_BYPASSED) :
      Micro s (raiseAlarm k x s)
  | event (x : Nat) (s : State) : Micro s (raiseEvent .PRECONDITION_BYPASSED x s)
  | clear (k : AlarmKind) (x : Nat) (s : State) : Micro s (clearAlarm k x s)
  | ack (k : AlarmKind) (x : Nat) (s : State) : Micro s (ackNamed k x s)
  | entry (d : DoorIx) (e : Entry) (s : State) (h : s.inService = true) : Micro s (s.setEntry d e)
  | passage (d : DoorIx) (x : Passage) (s : State) (h : s.mc.mode ≠ .LOCAL) : Micro s (s.setPassage d x)
  | run {s t : State} (h : s.inService = true) (frame : Calm { s with gru := t.gru } t) : Micro s t
  | mode (m : Mode) (s : State) (h : s.inService = true) (hm : m ≠ .LOCAL) : Micro s (setMode m s)
  | poll (d : DoorIx) (s : State) (h : s.inService = true) (hd : s.isPresent d = true) : Micro s (sendPoll d s)
  | miss (d : DoorIx) (f : Reported → Reported) (s : State) (h : s.rc.polled = some d) (hopen : s.rc.pollEnded = false) :
      Micro s ((endPoll s).modReported d f)
  | writeDoor (d : DoorIx) (c : DoorConfig) (s : State) (hsave : s.cfs.save = none) (hfree : s.entry d = none)
      (hvalue : c.refused = false) (hclamp : c.clamp = c)
      (hcross : s.inService = true → crossDoor (withDoor s.tables d c) d = none) :
      Micro s (doorSet d s.tables.doors[d] c s)
  | writeHpu (h : HpuIx) (c : HpuConfig) (s : State) (hsave : s.cfs.save = none)
      (hvalue : c.refused = false) (hclamp : c.clamp = c)
      (hcross : s.inService = true → crossHpu (withHpu s.tables h c) h = none) :
      Micro s (setTables (withHpu s.tables h c) s)
  | writeGroup (g : GroupIx) (c : GroupRec) (s : State) (hsave : s.cfs.save = none)
      (hvalue : c.refused = false) (hclamp : c.clamp = c) (hcount : c.entries.length = min c.count 32)
      (hcross : s.inService = true → crossGroup (withGroup s.tables g c) g = none) :
      Micro s (setTables (withGroup s.tables g c) s)
  | writePermit (p : PortIx) (c : PermitRow) (s : State) (hsave : s.cfs.save = none)
      (hvalue : c.refused = false) (hclamp : c.clamp = c)
      (hcross : s.inService = true → crossPermit (withPermit s.tables p c) p = none) :
      Micro s (setTables (withPermit s.tables p c) s)
  | writeSystem (c : SystemRecord) (s : State) (hsave : s.cfs.save = none)
      (hvalue : c.refused = false) (hclamp : c.clamp = c) : Micro s (setTables { s.tables with system := c } s)
  | serve (m : Mode) (s : State) (h : s.inService = false) (hcheck : commissionChecks s.tables = none) :
      Micro s (setMode m (setPart .IN_SERVICE s))
  | retire (s : State) (hmode : s.mc.mode = .LOCAL) (hbusy : partBusy s = false) : Micro s (retired s)
  | reset (s : State) : Micro s (resetAsserted s)
  | cold (t : Tables) (x : ImageStatus) (s : State) (h : t = Tables.blank ∨ ∃ l, t = Tables.decode l) :
      Micro s (coldState t x s)
  | warm (s : State) : Micro s (warmState s)

/-- A chain of micro steps; the entry into LOCAL stands in it as a whole, because the passages of the mode it leaves are dropped
after the mode is written (R108). -/
inductive Steps : State → State → Prop where
  | refl (s : State) : Steps s s
  | tail {s t u : State} (h : Steps s t) (g : Micro t u) : Steps s u
  | enterLocal {s t u : State} (h : Steps s t) (hs : t.inService = true) (g : Steps (setMode .LOCAL t) u)
      (hnone : ∀ d : DoorIx, u.passage d = none) : Steps s u

theorem Steps.trans {s t u : State} (h : Steps s t) (g : Steps t u) : Steps s u := by
  induction g with
  | refl => exact h
  | tail _ m ih => exact (ih h).tail m
  | enterLocal _ hs g hnone ih _ => exact .enterLocal (ih h) hs g hnone

theorem Steps.single {s t : State} (h : Micro s t) : Steps s t := (Steps.refl s).tail h
theorem Steps.calm {s t : State} (h : Calm s t) : Steps s t := .single (.calm h)

/-- A law that no micro step breaks, and that does not speak of the mode LOCAL, is kept by every chain. -/
theorem Steps.preserves {law : State → Prop} (micro : ∀ s t, Micro s t → law s → law t)
    (mode : ∀ s, law s → law (setMode .LOCAL s)) {s t : State} (h : Steps s t) : law s → law t := by
  induction h with
  | refl => exact id
  | tail _ m ih => exact fun hs => micro _ _ m (ih hs)
  | enterLocal _ _ _ _ ih ihg => exact fun hs => ihg (mode _ (ih hs))

theorem Steps.forEach {ι : Type} {act : ι → State → State} (h : ∀ i s, Steps s (act i s)) (l : List ι) (s : State) :
    Steps s (forEach l act s) := forEach_rel .refl .trans h l s

/-- Actions that are chains where a property holds that they keep. -/
theorem Steps.forEach_of {ι : Type} {act : ι → State → State} {P : State → Prop} (h : ∀ i s, P s → Steps s (act i s))
    (keep : ∀ i s, P s → P (act i s)) (l : List ι) {s : State} (hs : P s) : Steps s (Machine.forEach l act s) := by
  induction l generalizing s with
  | nil => exact .refl s
  | cons i rest ih => exact (h i s hs).trans (ih (keep i s hs))

theorem Steps.ite {c : Prop} [Decidable c] {s a b : State} (h : c → Steps s a) (g : ¬c → Steps s b) :
    Steps s (if c then a else b) := by
  split
  · next hc => exact h hc
  · next hc => exact g hc

/-! ### Frames, alarms and orders -/

theorem Steps.place (p : PortIx) (f : Frame) (s : State) : Steps s (place p f s) := .single (.place p f s)
theorem Steps.queueOrder (d : DoorIx) (k : OrderKind) (s : State) : Steps s (queueOrder d k s) :=
  .single (.queueOrder d k s)
theorem Steps.queueOrder? (d : DoorIx) (k : Option OrderKind) (s : State) : Steps s (queueOrder? d k s) := by
  cases k with
  | none => exact .refl s
  | some k => exact .queueOrder d k s
theorem Steps.raiseAlarm {k : AlarmKind} (hk : k ≠ .LIST_FULL ∧ k ≠ .PRECONDITION_BYPASSED) (x : Nat) (s : State) :
    Steps s (raiseAlarm k x s) := .single (.raise k x s hk.1 hk.2)
theorem Steps.raiseDoor {k : AlarmKind} (hk : k ≠ .LIST_FULL ∧ k ≠ .PRECONDITION_BYPASSED) (d : DoorIx) (s : State) :
    Steps s (raiseDoor k d s) := .raiseAlarm hk d.val s
theorem Steps.clearAlarm (k : AlarmKind) (x : Nat) (s : State) : Steps s (clearAlarm k x s) := .single (.clear k x s)
theorem Steps.clearDoor (k : AlarmKind) (d : DoorIx) (s : State) : Steps s (clearDoor k d s) := .clearAlarm k d.val s
theorem Steps.ackNamed (k : AlarmKind) (x : Nat) (s : State) : Steps s (ackNamed k x s) := .single (.ack k x s)
theorem Steps.ackAll (s : State) : Steps s (ackAll s) := .forEach (fun _ _ => .ackNamed ..) _ s

theorem Calm.modPort (s : State) (p : PortIx) (f : StationPort → StationPort)
    (h : ∀ x, (f x).queue.length ≤ x.queue.length) : Calm s (s.modPort p f) where
  queues q := by
    simp only [State.modPort_sp, Fin.getElem_fin, getElem_upd]
    split
    · next hq => rw [Fin.val_inj] at hq; subst hq; exact h _
    · exact Nat.le_refl _

theorem Steps.modPort (s : State) (p : PortIx) (f : StationPort → StationPort)
    (h : ∀ x, (f x).queue.length ≤ x.queue.length := by exact fun _ => Nat.le_refl _) : Steps s (s.modPort p f) :=
  .calm (.modPort s p f h)

theorem Steps.setPacing (s : State) (p : PortIx) (x : Pacing) : Steps s (s.setPacing p x) := .calm {}

theorem Steps.answerDone (p : PortIx) (kind : Nat) (c : Bool) (data : List Byte) (s : State) :
    Steps s (answerDone p kind c data s) := .place ..
theorem Steps.refuseWith (p : PortIx) (kind : Nat) (code : ResultCode) (c : Bool) (data : List Byte) (s : State) :
    Steps s (refuseWith p kind code c data s) := (Steps.modPort s p _).trans (.place ..)
theorem Steps.refuse (p : PortIx) (kind : Nat) (code : ResultCode) (s : State) : Steps s (refuse p kind code s) :=
  .refuseWith ..

theorem Steps.sendSummary (p : PortIx) (s : State) : Steps s (sendSummary p s) := by
  unfold Machine.sendSummary
  simp only
  split
  · exact (Steps.place ..).trans (.calm {})
  · exact (Steps.place ..).trans (.calm {})

theorem Steps.sendSummaries (s : State) : Steps s (sendSummaries s) := .forEach (fun _ _ => .sendSummary ..) _ s

theorem Steps.pacingChange (p : PortIx) (s : State) : Steps s (pacingChange p s) :=
  .ite (fun _ => .setPacing ..) (fun _ => .sendSummary ..)

theorem Steps.recomputeComps (l : List CompIx) (s : State) : Steps s (recomputeComps l s) := by
  unfold Machine.recomputeComps
  have written : Steps s (writeComps l s) := by unfold writeComps; exact .calm {}
  exact .ite (fun _ => written.trans (.forEach (fun _ _ => .pacingChange ..) _ _)) fun _ => written

/-! ### Runs -/

theorem Steps.sendReport (m : EndMark) (r : Run) (s : State) : Steps s (sendReport m r s) :=
  .forEach (fun _ _ => .place ..) _ s

theorem liveRuns_eq_nil_iff {s : State} :
    liveRuns s = [] ↔ (∀ i : SlotIx, SlotIdle s i) ∧ s.gru.stack = [] := by
  simp only [liveRuns, List.append_eq_nil_iff, List.filterMap_eq_nil_iff, allSlots, List.mem_finRange, true_imp_iff]

/-- Every slot that holds a run held one before, and a stack that holds one stood over one. -/
theorem Calm.gru {s : State} {g : Gru} (hslots : ∀ i : SlotIx, s.gru.slots[i] = none → g.slots[i] = none)
    (hstack : liveRuns s = [] → g.stack = []) : Calm s { s with gru := g } where
  live h := liveRuns_eq_nil_iff.mpr ⟨fun i => hslots i ((liveRuns_eq_nil_iff.mp h).1 i), hstack h⟩

theorem Steps.modRun (number : Byte) (f : Run → Run) (s : State) : Steps s (modRun number f s) :=
  .calm (.gru (fun i h => by simpa using h) (fun h => by simp [(liveRuns_eq_nil_iff.mp h).2]))

theorem Steps.setStack_nil (s : State) : Steps s (setStack [] s) := .calm (.gru (fun _ h => h) fun _ => rfl)

theorem Steps.resumeTop (i : SlotIx) (l : List Run) (s : State) (h : l ≠ [] → s.gru.stack ≠ []) :
    Steps s (resumeTop i l s) := by
  induction l generalizing s with
  | nil => exact .setStack_nil s
  | cons r rest ih =>
    have hlive : liveRuns s ≠ [] := fun hnil => h (by simp) (liveRuns_eq_nil_iff.mp hnil).2
    unfold Machine.resumeTop
    split
    · refine (Steps.sendReport ..).trans (ih _ fun _ => ?_)
      rw [(PlaceFrame.sendReport .COMPLETE r s).gru]
      exact h (by simp)
    · simp only
      split <;> exact .calm { live := fun hnil => absurd hnil hlive }

theorem Steps.vacate (i : SlotIx) (s : State) : Steps s (vacate i s) := by
  unfold Machine.vacate
  simp only
  have freed : Steps s (setSlotting (s.gru.slotting.filter fun k => decide (k ≠ i)) (setSlot i none s)) :=
    .calm (.gru (fun j h => by simp [setSlot]; exact fun _ => h) (fun h => (liveRuns_eq_nil_iff.mp h).2))
  exact .ite (fun _ => freed) fun _ => freed.trans (.resumeTop _ _ _ id)

theorem Steps.completeSlot (i : SlotIx) (s : State) : Steps s (completeSlot i s) := by
  unfold Machine.completeSlot
  split
  · exact .ite (fun _ => (Steps.sendReport ..).trans (.vacate ..)) fun _ => .refl s
  · exact .refl s

theorem Steps.filterStack (f : Run → Bool) (s : State) : Steps s (setStack (s.gru.stack.filter f) s) :=
  .calm (.gru (fun _ h => h) (fun h => by simp [(liveRuns_eq_nil_iff.mp h).2]))

theorem Steps.completeRun (number : Byte) (s : State) : Steps s (completeRun number s) := by
  unfold Machine.completeRun completeStacked
  split
  · exact .completeSlot ..
  · split
    · next r _ =>
      have told := Steps.sendReport .COMPLETE r s
      rw [← (PlaceFrame.sendReport .COMPLETE r s).gru]
      exact told.trans (.filterStack ..)
    · exact .refl s

theorem Steps.countTag (tag : Option RunTag) (fate : TagFate) (s : State) : Steps s (countTag tag fate s) := by
  unfold Machine.countTag
  split
  · exact .modRun ..
  · exact .refl s

theorem Steps.reportTag (tag : Option RunTag) (fate : TagFate) (s : State) : Steps s (reportTag tag fate s) := by
  unfold Machine.reportTag
  split
  · exact (Steps.countTag ..).trans (.completeRun ..)
  · exact .refl s

/-! ### The schedule -/

/-- An entry that stands is written. -/
theorem Calm.setEntry {s : State} {d : DoorIx} (e : Entry) (h : (s.entry d).isSome = true) : Calm s (s.setEntry d e) where
  entries x := by
    rw [entry_setEntry]
    split
    · next hx => subst hx; exact fun _ => h
    · exact id

theorem Calm.dropEntry (s : State) (d : DoorIx) : Calm s (s.dropEntry d) where
  entries x := by
    rw [entry_dropEntry]
    split <;> simp

theorem Steps.evalDelay (h : HpuIx) (s : State) : Steps s (evalDelay h s) := by
  unfold Machine.evalDelay
  split
  · exact .ite (fun _ => .refl s) fun _ => (Steps.calm {}).trans (.raiseAlarm (by decide) ..)
  · exact .ite (fun _ => (Steps.calm {}).trans (.clearAlarm ..)) fun _ => .refl s

theorem Steps.admitDoor (d : DoorIx) (s : State) : Steps s (admitDoor d s) := by
  unfold Machine.admitDoor
  split
  · next e he =>
    have written := Steps.calm (Calm.setEntry (e.dispatched (doorDeadline s d e.direction) (dispatchWarn e))
      (Option.isSome_of_mem he))
    exact ((written.trans (.calm {})).trans (.queueOrder ..)).trans (.evalDelay ..)
  · exact .refl s

theorem Steps.overtake (d : DoorIx) (s : State) : Steps s (overtake d s) := by
  unfold Machine.overtake
  split
  · next e he => exact .calm (.setEntry _ (Option.isSome_of_mem he))
  · exact .refl s

theorem Steps.lookAhead (h : HpuIx) (head : DoorIx) (l : List DoorIx) (s : State) : Steps s (lookAhead h head l s) := by
  induction l generalizing s with
  | nil => exact .refl s
  | cons d rest ih =>
    unfold Machine.lookAhead
    exact .ite (fun _ => .refl s) fun _ =>
      .ite (fun _ => ((Steps.admitDoor d s).trans (.overtake ..)).trans (ih _)) fun _ => ih s

theorem Steps.passWalk (h : HpuIx) (l : List DoorIx) (s : State) : Steps s (passWalk h l s) := by
  induction l generalizing s with
  | nil => exact .refl s
  | cons d rest ih =>
    unfold Machine.passWalk
    exact .ite (fun _ => (Steps.admitDoor d s).trans (ih _)) fun _ => .lookAhead ..

theorem Steps.pass (h : HpuIx) (s : State) : Steps s (pass h s) := .passWalk ..

theorem Steps.recomputeE (h : HpuIx) (s : State) : Steps s (recomputeE h s) :=
  .ite (fun _ => .refl s) fun _ => (Steps.calm {}).trans (.pass ..)

theorem Calm.dropPassage (s : State) (d : DoorIx) : Calm s (s.dropPassage d) where
  passages x := by
    rw [passage_dropPassage]
    split <;> simp

theorem Steps.endPassage (d : DoorIx) (s : State) : Steps s (endPassage d s) :=
  (Steps.calm (.dropPassage s d)).trans (.clearDoor ..)

theorem Steps.recloseGone (d : DoorIx) (dir : Direction) (s : State) : Steps s (recloseGone d dir s) := by
  unfold Machine.recloseGone
  split
  · exact .ite (fun _ => .endPassage d s) fun _ => .refl s
  · exact .refl s

theorem Steps.takeArrival (d : DoorIx) (s : State) : Steps s (takeArrival d s).2 := by
  have counted (u : State) : Steps u { u with cs := { u.cs with nextArrival := u.cs.nextArrival + 1 } } := .calm {}
  have renumbered : Steps s (renumber d s) := by
    unfold renumber
    refine .calm { entries := fun x => ?_ }
    simp only [State.entry, Fin.getElem_fin, getElem_updAll]
    split <;> simp
  exact (Steps.ite (fun _ => renumbered) fun _ => .refl s).trans (counted _)

theorem Steps.report (c : RemovalCause) (tag : Option RunTag) (s : State) : Steps s (c.report tag s) := by
  unfold RemovalCause.report
  split
  · exact .ite (fun _ => .countTag ..) fun _ => .reportTag ..
  · exact .refl s

theorem Steps.takeOut (c : RemovalCause) (d : DoorIx) (s : State) : Steps s (takeOut c d s) := by
  unfold Machine.takeOut
  split
  · next e _ =>
    have released : Steps s (if e.phase = .MOVING then
        s.modFlow (s.hpuOf d) fun f => { f with committed := f.committed - s.draw d } else s) :=
      .ite (fun _ => .calm {}) fun _ => .refl s
    exact (((released.trans (.report c e.tag _)).trans (.calm (.dropEntry ..))).trans (.queueOrder? ..)).trans
      (.recloseGone ..)
  · exact .refl s

theorem Steps.removeEntry (c : RemovalCause) (d : DoorIx) (s : State) : Steps s (removeEntry c d s) := by
  unfold Machine.removeEntry
  split
  · exact (((Steps.takeOut c d s).trans (.ite (fun _ => .refl _) fun _ => .pass ..)).trans
      (.ite (fun _ => .evalDelay ..) fun _ => .refl _)).trans (.clearDoor ..)
  · exact .refl s

theorem Steps.request {act : DoorIx → State → State} {P : State → Prop} (h : ∀ d s, P s → Steps s (act d s))
    (keep : ∀ d s, P s → P (act d s)) (l : List DoorIx) {s : State} (hs : P s) : Steps s (request act l s) :=
  (Steps.forEach_of h keep l hs).trans (.forEach (fun _ _ => .pass ..) _ _)

theorem Steps.removeAll (c : RemovalCause) (l : List DoorIx) (s : State) : Steps s (removeAll c l s) :=
  (Steps.request (P := fun _ => True) (fun _ _ _ => .takeOut ..) (fun _ _ _ => trivial) l trivial).trans
    (.forEach (fun _ _ => .evalDelay ..) _ _)

theorem Steps.dropTag (d : DoorIx) (s : State) : Steps s (dropTag d s) := by
  unfold Machine.dropTag
  split
  · next e he => exact .calm (.setEntry _ (Option.isSome_of_mem he))
  · exact .refl s

theorem Steps.detachTag (number : Byte) (s : State) : Steps s (detachTag number s) :=
  .request (P := fun _ => True) (fun _ _ _ => .dropTag ..) (fun _ _ _ => trivial) _ trivial

theorem Steps.cancelTag (number : Byte) (s : State) : Steps s (cancelTag number s) := by
  refine (Steps.request (P := fun _ => True) (fun d u _ => ?_) (fun _ _ _ => trivial) _ trivial).trans
    (.forEach (fun _ _ => .evalDelay ..) _ _)
  unfold cancelOne
  split
  · exact .ite (fun _ => .dropTag ..) fun _ => .takeOut ..
  · exact .refl u

/-! ### Demands -/

/-- The part is IN_SERVICE before and after an operation of a block. -/
theorem inService_of_frame {s t : State} (h : BlockFrame s t) (hs : s.inService = true) : t.inService = true := by
  unfold State.inService at *
  rw [h.cfs]; exact hs

theorem Steps.setEntry {s : State} (d : DoorIx) (e : Entry) (hs : s.inService = true) : Steps s (s.setEntry d e) :=
  .single (.entry d e s hs)

theorem Steps.zeroOas (d : DoorIx) (s : State) : Steps s (s.zeroOas d) := .calm {}

theorem Steps.makeEntry {s : State} (d : DoorIx) (e : Entry) (hs : s.inService = true) : Steps s (s.makeEntry d e) :=
  (Steps.setEntry d e hs).trans (.zeroOas ..)

theorem Steps.enqueue (m : Demand) {s : State} (hs : s.inService = true) : Steps s (enqueue m s) := by
  have numbered := Steps.takeArrival m.door s
  have hs' := inService_of_frame (RunFrame.takeArrival m.door s).toBlockFrame hs
  unfold Machine.enqueue
  exact (numbered.trans (.makeEntry _ _ hs')).trans (.ite (fun _ => .queueOrder ..) fun _ => .pass ..)

theorem Steps.merge (m : Demand) (e : Entry) {s : State} (hs : s.inService = true) : Steps s (merge m e s) :=
  (Steps.setEntry m.door (e.merged m) hs).trans (.ite (fun _ => .pass ..) fun _ => .refl _)

theorem Steps.endBeaten (m : Demand) (s : State) : Steps s (endBeaten m s) :=
  .ite (fun _ => .endPassage ..) fun _ => .refl s

theorem Steps.replace (m : Demand) (e : Entry) {s : State} (hs : s.inService = true) : Steps s (replace m e s) := by
  have ended := ((Steps.endBeaten m s).trans (.recloseGone m.door e.direction _)).trans (.reportTag e.tag .overruled _)
  have frame := ((RunFrame.endBeaten m s).trans (.recloseGone m.door e.direction _)).trans
    ((RunFrame.reportTag e.tag .overruled _).trans (.takeArrival m.door _))
  unfold Machine.replace
  exact ((((ended.trans (.takeArrival m.door _)).trans
    (.setEntry _ _ (inService_of_frame frame.toBlockFrame hs))).trans (.queueOrder? ..)).trans (.pass ..)).trans
    (.ite (fun _ => .evalDelay ..) fun _ => .refl _)

theorem Steps.reverseEntry (m : Demand) (e : Entry) {s : State} (hs : s.inService = true) :
    Steps s (reverseEntry m e s) :=
  ((Steps.reportTag ..).trans
    (.setEntry _ _ (inService_of_frame (RunFrame.reportTag e.tag .overruled s).toBlockFrame hs))).trans (.queueOrder ..)

theorem Steps.reverse (m : Demand) (e : Entry) {s : State} (hs : s.inService = true) : Steps s (reverse m e s) := by
  have frame := (RunFrame.endBeaten m s).trans (.recloseGone m.door e.direction _)
  exact (((Steps.endBeaten m s).trans (.recloseGone m.door e.direction _)).trans
    (.reverseEntry m e (inService_of_frame frame.toBlockFrame hs))).trans (.ite (fun _ => .pass ..) fun _ => .refl _)

theorem Steps.decideClaims (m : Demand) {s : State} (hs : s.inService = true) : Steps s (decideClaims m s).2 := by
  unfold Machine.decideClaims
  split
  · split
    · exact .merge _ _ hs
    split
    · split
      · exact .reverse _ _ hs
      · exact .replace _ _ hs
    · exact .refl s
  · split
    · unfold settleDemand
      split
      · exact .endBeaten ..
      · exact (Steps.endBeaten m s).trans (.enqueue m (inService_of_frame (RunFrame.endBeaten m s).toBlockFrame hs))
    · exact .refl s

theorem Steps.decideDemand (m : Demand) (s : State) : Steps s (decideDemand m s).2 := by
  unfold Machine.decideDemand
  split
  · exact .refl s
  split
  · exact .refl s
  split
  · exact .refl s
  exact .decideClaims m (by simp_all)

/-! ### Walking -/

theorem liveRuns_ne_nil_of_slot {s : State} {i : SlotIx} {r : Run} (h : s.gru.slots[i] = some r) : liveRuns s ≠ [] := by
  intro hnil
  have hidle := (liveRuns_eq_nil_iff.mp hnil).1 i
  rw [SlotIdle, h] at hidle
  cases hidle

theorem Calm.setSlot {s : State} {i : SlotIx} {r : Run} (x : Option Run) (h : s.gru.slots[i] = some r) :
    Calm s (setSlot i x s) where
  live hnil := absurd hnil (liveRuns_ne_nil_of_slot h)

theorem Steps.advance (i : SlotIx) (s : State) : Steps s (advance i s) := by
  unfold Machine.advance
  split
  · next r hr => exact (Steps.calm (.setSlot _ hr)).trans (.completeSlot ..)
  · exact .refl s

theorem Steps.submitAt (i : SlotIx) (s : State) : Steps s (submitAt i s) := by
  unfold Machine.submitAt
  split
  · split
    · exact ((Steps.decideDemand ..).trans (.modRun ..)).trans (.advance ..)
    · exact .advance i s
  · exact .refl s

theorem Steps.bypassAt (i : SlotIx) (s : State) : Steps s (bypassAt i s) := by
  unfold Machine.bypassAt raiseBypass
  split
  · split
    · exact (Steps.single (.event ..)).trans (.submitAt ..)
    · exact .submitAt i s
  · exact .refl s

theorem Steps.takeListEntry (i : SlotIx) (age : Nat) (s : State) : Steps s (takeListEntry i age s) := by
  unfold Machine.takeListEntry
  split
  · split
    · split
      · exact .submitAt i s
      · exact .bypassAt i s
      · unfold setStage
        split
        · next r hr => exact .calm (.setSlot _ hr)
        · exact .refl s
    · exact .submitAt i s
  · exact .refl s

theorem Steps.walkStep (i : SlotIx) (s : State) : Steps s (walkStep i s) :=
  .ite (fun _ => .takeListEntry ..) fun _ => .refl s

theorem Steps.pokeRuns (d : DoorIx) (s : State) : Steps s (pokeRuns d s) := by
  refine .forEach (fun i u => ?_) _ s
  unfold hearPresentation
  split
  · exact .ite (fun _ => .submitAt ..) fun _ => .ite (fun _ => .bypassAt ..) fun _ => .refl u
  · exact .refl u

theorem Steps.bypassWaits (d : DoorIx) (s : State) : Steps s (bypassWaits d s) := .forEach .bypassAt _ s

theorem Steps.settleOne (s : State) : Steps s (settleOne s) := by
  unfold Machine.settleOne
  split
  · next i rest _ =>
    refine (Steps.calm (t := setResumed rest s) (.gru (fun _ h => h) fun h => (liveRuns_eq_nil_iff.mp h).2)).trans (.ite (fun _ => ?_) fun _ => .refl _)
    unfold lookAgain
    split
    · exact .takeListEntry ..
    · exact .refl _
  · exact .refl s

theorem Steps.settleRuns (s : State) : Steps s (settleRuns s) := .forEach (fun _ => .settleOne) _ s

theorem Steps.takeSlot (i : SlotIx) (g : GroupRef) (dir : Direction) (cls : Nat) (x : SourceGroup) (o : RunOrigin)
    {s : State} (hs : s.inService = true) : Steps s (takeSlot i g dir cls x o s) := by
  unfold Machine.takeSlot
  simp only
  split <;> exact .single (.run hs {})

theorem Steps.suspend (i : SlotIx) (s : State) : Steps s (suspend i s) := by
  unfold Machine.suspend
  split
  · next r hr => exact .calm { live := fun hnil => absurd hnil (liveRuns_ne_nil_of_slot hr) }
  · exact .refl s

theorem Steps.acceptRun (p : PortIx) (g : GroupRef) (dir : Direction) (cls : Nat) {s : State} (hs : s.inService = true) :
    Steps s (acceptRun p g dir cls s).2 := by
  unfold Machine.acceptRun
  split
  · next i v _ =>
    cases v with
    | none => exact .takeSlot _ _ _ _ _ _ hs
    | some k =>
      refine (Steps.suspend k s).trans (.takeSlot _ _ _ _ _ _ ?_)
      unfold Machine.suspend
      split <;> exact hs
  · exact .refl s

theorem Steps.cancelRun (r : Run) (s : State) : Steps s (cancelRun r s) := by
  unfold Machine.cancelRun
  simp only
  have told := (Steps.cancelTag r.number s).trans (.sendReport .CANCELLED r _)
  split
  · exact told.trans (.vacate ..)
  · exact told.trans (.filterStack ..)

theorem Steps.launchSystem (cls : Nat) (o : RunOrigin) {s : State} (hs : s.inService = true) :
    Steps s (launchSystem cls o s) := by
  have hs' := inService_of_frame (RunFrame.settleRuns s).toBlockFrame hs
  unfold Machine.launchSystem
  refine (Steps.settleRuns s).trans ?_
  simp only
  split
  · next r _ =>
    exact (Steps.detachTag r.number _).trans
      (.takeSlot _ _ _ _ _ _ (inService_of_frame (RunFrame.detachTag r.number _).toBlockFrame hs'))
  · exact .takeSlot _ _ _ _ _ _ hs'

theorem Steps.abortRuns (s : State) : Steps s (abortRuns s) :=
  (Steps.forEach (fun _ _ => .detachTag ..) _ s).trans
    (.calm { live := fun _ => liveRuns_eq_nil_iff.mpr ⟨fun _ => Vector.getElem_replicate .., rfl⟩ })

end Sys2Proof.Proofs
end

section
/-! ## The chain of micro steps of each command -/
namespace Sys2Proof.Proofs
open Sys2Proof Sys2Proof.Machine

set_option Elab.async false

/-! ### Movement -/

theorem Steps.arrive (d : DoorIx) (e : Entry) (b : Before) (s : State) : Steps s (arrive d e b s) :=
  (Steps.ite (a := s.modSup d (Supervision.capture e.direction e.elapsed)) (fun _ => .calm {}) fun _ => .refl s).trans
    (.removeEntry ..)

theorem Steps.faultDoor (k : Latch) (d : DoorIx) (s : State) : Steps s (faultDoor k d s) :=
  (((Steps.removeEntry (.FAULT k) d s).trans (.calm (t := setLatch d k (Machine.removeEntry (.FAULT k) d s)) {})).trans
    (.raiseDoor (by decide) ..)).trans (.bypassWaits ..)

theorem Steps.judgeEntry (d : DoorIx) (e : Entry) (b : Before) {s : State} (hs : s.inService = true) :
    Steps s (judgeEntry d e b s) := by
  unfold Machine.judgeEntry
  split
  · exact .arrive ..
  · exact .setEntry _ _ hs
  · exact .faultDoor ..
  · exact .faultDoor ..
  · exact .refl s

theorem Steps.releaseOnIdle (d : DoorIx) (prev : Handle) (s : State) : Steps s (releaseOnIdle d prev s) := by
  unfold Machine.releaseOnIdle
  split
  · exact .ite (fun _ => .removeEntry ..) fun _ => .refl s
  · exact .refl s

theorem Steps.adopt (d : DoorIx) (dir : Direction) {s : State} (hs : s.inService = true) : Steps s (adopt d dir s) :=
  ((Steps.takeArrival d s).trans
    (.makeEntry _ _ (inService_of_frame (RunFrame.takeArrival d s).toBlockFrame hs))).trans (.calm {})

theorem Steps.reverseOne (o : Origin) (d : DoorIx) {s : State} (hs : s.inService = true) :
    Steps s (reverseOne o d s) := by
  unfold Machine.reverseOne
  split
  · exact .reverseEntry _ _ hs
  · exact .refl s

theorem Steps.foundMoving (d : DoorIx) (dir : Direction) {s : State} (hs : s.inService = true) :
    Steps s (foundMoving d dir s) := by
  refine .ite (fun _ => (Steps.adopt d dir hs).trans (.ite (fun _ => ?_) fun _ => .refl _)) fun _ => .raiseDoor (by decide) ..
  exact (Steps.reverseOne _ _ (inService_of_frame (RunFrame.adopt d dir s).toBlockFrame hs)).trans (.pass ..)

theorem Steps.presentMS (d : DoorIx) (b : Before) {s : State} (hs : s.inService = true) : Steps s (presentMS d b s) := by
  have hs' := inService_of_frame (RunFrame.clearAtRest d s).toBlockFrame hs
  have cleared : Steps s (clearAtRest d s) :=
    .ite (fun _ => (Steps.clearDoor ..).trans (.clearDoor ..)) fun _ => .refl s
  have judged (u : State) (hu : u.inService = true) : Steps u (match u.entry d with
      | some e => if e.phase = .MOVING then Machine.releaseOnIdle d b.handle (Machine.judgeEntry d e b u) else u
      | none => match foundDirection b.position (u.position d) with
        | some dir => Machine.foundMoving d dir u
        | none => u) := by
    split
    · exact .ite (fun _ => (Steps.judgeEntry d _ b hu).trans (.releaseOnIdle ..)) fun _ => .refl u
    · split
      · exact .foundMoving _ _ hu
      · exact .refl u
  exact cleared.trans (judged _ hs')

theorem Steps.presentCS (d : DoorIx) (s : State) : Steps s (presentCS d s) := by
  unfold Machine.presentCS
  split
  · exact .ite (fun _ => .removeEntry ..) fun _ => .refl s
  · exact .refl s

/-! ### Modes -/

theorem Steps.setPassage {s : State} (d : DoorIx) (x : Passage)
    (h : s.mc.mode ≠ .LOCAL ∨ (s.passage d).isSome = true) : Steps s (s.setPassage d x) := by
  obtain hmode | hsome := h
  · exact .single (.passage d x s hmode)
  · refine .calm { passages := fun y => ?_ }
    rw [passage_setPassage]
    split
    · next hy => subst hy; exact fun _ => hsome
    · exact id

theorem Steps.submitReclose (d : DoorIx) (x : Passage) {s : State}
    (h : s.mc.mode ≠ .LOCAL ∨ (s.passage d).isSome = true) : Steps s (submitReclose d x s) := by
  unfold Machine.submitReclose
  exact ((Steps.setPassage d _ h).trans (.decideDemand ..)).trans (.ite (fun _ => .endPassage ..) fun _ => .refl _)

theorem Steps.endHold (d : DoorIx) (x : Passage) {s : State} (h : s.mc.mode ≠ .LOCAL) : Steps s (endHold d x s) := by
  have released : Steps s (releasePassageEntry d s) := by
    unfold releasePassageEntry
    split
    · exact .ite (fun _ => .removeEntry ..) fun _ => .refl s
    · exact .refl s
  have hmode : (releasePassageEntry d s).mc.mode ≠ .LOCAL := by
    rwa [(RunFrame.releasePassageEntry d s).mode]
  exact released.trans (.ite (fun _ => .setPassage _ _ (.inl hmode)) fun _ => .submitReclose _ _ (.inl hmode))

theorem Steps.endHoldOf (d : DoorIx) {s : State} (h : s.mc.mode ≠ .LOCAL) : Steps s (endHoldOf d s) := by
  unfold Machine.endHoldOf
  split
  · exact .ite (fun _ => .refl s) fun _ => .endHold _ _ h
  · exact .refl s

theorem Steps.endAnyPassage (d : DoorIx) (s : State) : Steps s (endAnyPassage d s) := by
  unfold Machine.endAnyPassage
  split
  · exact .endPassage ..
  · exact .refl s

theorem Steps.openPassage (d : DoorIx) {s : State} (h : s.mc.mode ≠ .LOCAL) : Steps s (openPassage d s) := by
  unfold Machine.openPassage
  simp only
  have decided := Steps.decideDemand (passageDemand .OPEN (passageClass s.mc.mode) d) s
  have frame := RunFrame.decideDemand (passageDemand .OPEN (passageClass s.mc.mode) d) s
  split
  · next x _ =>
    refine ((decided.trans (.endAnyPassage d _)).trans (.setPassage d x (.inl ?_))).trans (.calm {})
    rwa [(frame.trans (.endAnyPassage d _)).mode]
  · exact decided

theorem Steps.releaseLocal (d : DoorIx) (s : State) : Steps s (releaseLocal d s) := by
  unfold Machine.releaseLocal
  split
  · exact .ite (fun _ => .removeEntry ..) fun _ => .refl s
  · exact .refl s

theorem Steps.denyHandle (d : DoorIx) (s : State) : Steps s (denyHandle d s) := by
  have counted : Steps s (s.modSea d fun x => { x with denied := satInc 255 x.denied }) := .calm {}
  refine counted.trans ?_
  unfold Machine.denyHandle
  simp only
  split
  · exact .ite (fun _ => .queueOrder ..) fun _ => .refl _
  · exact .queueOrder ..

theorem Steps.handleDemand (d : DoorIx) (new : Handle) (s : State) : Steps s (handleDemand d new s) := by
  unfold Machine.handleDemand localDemand
  split
  · exact .decideDemand ..
  · exact .decideDemand ..
  · next hmode => exact .openPassage d (by rw [hmode]; decide)
  · next hmode => exact .ite (fun _ => .openPassage d (by rw [hmode]; decide)) fun _ => .denyHandle ..
  all_goals exact .refl s

theorem Steps.handleChange (d : DoorIx) (prev new : Handle) (s : State) : Steps s (handleChange d prev new s) :=
  ((Steps.ite (fun _ => .releaseLocal ..) fun _ => .refl s).trans
    (.ite (fun h => .endHoldOf d h.2) fun _ => .refl _)).trans (.handleDemand ..)

theorem Steps.presentHandle (d : DoorIx) (prev : Handle) (s : State) : Steps s (presentHandle d prev s) :=
  .ite (fun _ => .refl s) fun _ => .handleChange ..

theorem Steps.progressPassage (d : DoorIx) {x : Passage} {s : State} (h : s.passage d = some x) :
    Steps s (progressPassage d x s) := by
  have hsome : (s.passage d).isSome = true := by rw [h]; rfl
  unfold Machine.progressPassage
  split
  · exact .ite (fun _ => .setPassage _ _ (.inr hsome)) fun _ => .refl s
  · exact .refl s
  · exact .ite (fun _ => .ite (fun _ => .endPassage ..) fun _ => .refl s) fun _ =>
      .ite (fun _ => .refl s) fun _ => .submitReclose _ _ (.inr hsome)

theorem Steps.presentPassage (d : DoorIx) (s : State) : Steps s (presentPassage d s) := by
  have cleared : Steps s (if s.position d = .CLOSED then Machine.clearDoor .DOOR_OPEN_AT_SEA d s else s) :=
    .ite (fun _ => .clearDoor ..) fun _ => .refl s
  have taken (u : State) : Steps u (match u.passage d with
      | some x => Machine.progressPassage d x u
      | none => u) := by
    split
    · next h => exact .progressPassage d h
    · exact .refl u
  exact cleared.trans (taken _)

theorem Steps.recomputeDoor (d : DoorIx) (s : State) : Steps s (recomputeDoor d s) := .recomputeComps ..

theorem Steps.presentIB (d : DoorIx) (prev : Position) (s : State) : Steps s (presentIB d prev s) :=
  .ite (fun _ => .refl s) fun _ => .recomputeDoor ..

theorem Steps.takePresentation (d : DoorIx) (b : Before) (a : PresentAct) {s : State} (hs : s.inService = true) :
    Steps s (takePresentation d b a s) := by
  cases a with
  | MS => exact .presentMS d b hs
  | CS => exact .presentCS d s
  | MC_PASSAGE => exact .presentPassage d s
  | MC_HANDLE => exact .presentHandle ..
  | GRU => exact .pokeRuns ..
  | IB => exact .presentIB ..

end Sys2Proof.Proofs
end

section
/-! ## The chain of micro steps of each command: presentations, the ring, the ports, the starts -/
namespace Sys2Proof.Proofs
open Sys2Proof Sys2Proof.Machine

set_option Elab.async false

theorem inService_of_present {s t : State} (h : PresentFrame s t) (hs : s.inService = true) : t.inService = true := by
  unfold State.inService at *
  rw [h.cfs]; exact hs

theorem Steps.presentIn (order : List PresentAct) (d : DoorIx) (b : Before) {s : State} (hs : s.inService = true) :
    Steps s (presentIn order d b s) :=
  (Steps.forEach_of (fun a _ hu => .takePresentation d b a hu)
    (fun a u hu => inService_of_present (.takePresentation d b a u) hu) order hs).trans (.settleRuns _)

theorem Steps.present (d : DoorIx) (b : Before) (s : State) : Steps s (present d b s) := by
  have chosen : Steps s { s with freeCount := s.freeCount + 1 } := .calm {}
  exact .ite (fun hs => chosen.trans (.presentIn _ d b hs)) fun _ => .presentIB ..

/-! ### The ring -/

theorem Calm.modSide (p : RingPort) (f : RingSide → RingSide) (s : State) : Calm s (modSide p f s) := by
  cases p <;> exact {}

theorem Steps.modSide (p : RingPort) (f : RingSide → RingSide) (s : State) : Steps s (modSide p f s) :=
  .calm (.modSide p f s)

theorem Calm.setFilter (s : State) (addr : Nat) (x : Option Byte) : Calm s (s.setFilter addr x) := by
  unfold State.setFilter
  split <;> exact {}

theorem Steps.filtered (p : RingPort) (src seq : Byte) {take : State → State} {s : State}
    (h : Steps (ringReceive p (s.setFilter src.toNat (some seq))) (take (ringReceive p (s.setFilter src.toNat (some seq))))) :
    Steps s (filtered p src seq take s) := by
  have second : Steps s (secondCopy p s) := (Steps.modSide p _ s).trans (.calm {})
  exact .ite (fun _ => second) fun _ => ((Steps.calm (.setFilter s src.toNat (some seq))).trans (.modSide ..)).trans h

/-- The reported fields of a present door are written. -/
theorem Calm.modReported {s : State} {d : DoorIx} (f : Reported → Reported) (hd : s.isPresent d = true) :
    Calm s (s.modReported d f) where
  absent x hx := by
    simp only [State.modReported_rc_reported, Fin.getElem_fin, getElem_upd]
    split
    · next h => rw [Fin.val_inj] at h; subst h; rw [hd] at hx; cases hx
    · rfl

theorem Calm.setPosition {s : State} {d : DoorIx} (x : Position) (hd : s.isPresent d = true) :
    Calm s (s.setPosition d x) := by
  have moved := Calm.modReported (fun r : Reported => { r with position := x }) hd
  unfold State.setPosition
  simp only
  split
  · exact { absent := moved.absent }
  · exact moved

theorem isPresent_congr {s t : State} (h : t.tables = s.tables) (d : DoorIx) : t.isPresent d = s.isPresent d := by
  unfold State.isPresent; rw [h]

theorem Steps.heardFrom {d : DoorIx} {s : State} (hd : s.isPresent d = true) : Steps s (heardFrom d s) :=
  (Steps.calm (.modReported _ hd)).trans (.clearDoor ..)

theorem heardFrom_isPresent (d x : DoorIx) (s : State) : (heardFrom d s).isPresent x = s.isPresent x :=
  isPresent_congr (AlarmFrame.clearDoor .DOOR_SILENT d _).tables x

theorem Steps.takeReport (r : ReportBits) {d : DoorIx} {s : State} (hd : s.isPresent d = true) :
    Steps s (takeReport d r s) := by
  have heard : (Machine.heardFrom d s).isPresent d = true := by rw [heardFrom_isPresent]; exact hd
  unfold Machine.takeReport
  simp only
  refine (((Steps.heardFrom hd).trans (.calm (.modReported _ heard))).trans (.calm (.setPosition (reportPosition r) ?_))).trans
    (.ite (fun _ => .raiseDoor (by decide) ..) fun _ => .clearDoor ..)
  exact heard

theorem Steps.takeEvent (h : HandleCode) (low fault : Bool) {d : DoorIx} {s : State} (hd : s.isPresent d = true) :
    Steps s (takeEvent d h low fault s) := by
  have heard : (Machine.heardFrom d s).isPresent d = true := by rw [heardFrom_isPresent]; exact hd
  unfold Machine.takeEvent
  simp only
  refine ((Steps.heardFrom hd).trans (.calm (.modReported _ heard))).trans (.ite (fun _ => ?_) fun _ => .refl _)
  exact (Steps.calm (.setPosition .UNKNOWN (by exact heard))).trans (.raiseDoor (by decide) ..)

theorem isPresent_of_doorAt {s : State} {src : Byte} {d : DoorIx} (h : doorAt s src = some d) : s.isPresent d = true := by
  have found := List.find?_some h
  simp only [Bool.and_eq_true] at found
  exact found.1

theorem filterReceive_tables (p : RingPort) (addr : Nat) (x : Option Byte) (s : State) :
    (ringReceive p (s.setFilter addr x)).tables = s.tables := by
  have received (u : State) : (ringReceive p u).tables = u.tables := by cases p <;> rfl
  rw [received]
  unfold State.setFilter
  split <;> rfl

theorem Steps.reportArrives (p : RingPort) (src seq : Byte) (r : ReportBits) (s : State) :
    Steps s (reportArrives p src seq r s) := by
  unfold Machine.reportArrives
  split
  · next d hd =>
    refine .ite (fun _ => .filtered p src seq ?_) fun _ => .modSide ..
    have hpresent : (endPoll (ringReceive p (s.setFilter src.toNat (some seq)))).isPresent d = true := by
      rw [isPresent_congr (t := endPoll _) (filterReceive_tables p src.toNat (some seq) s)]
      exact isPresent_of_doorAt hd
    have ended (u : State) : Steps u (endPoll u) := .calm { pollEnded := fun _ => rfl }
    exact ((ended _).trans (.takeReport r hpresent)).trans (.present ..)
  · exact .modSide ..

theorem Steps.eventArrives (p : RingPort) (src seq : Byte) (h : HandleCode) (low fault : Bool) (s : State) :
    Steps s (eventArrives p src seq h low fault s) := by
  unfold Machine.eventArrives
  split
  · next d hd =>
    refine .filtered p src seq ((Steps.takeEvent h low fault ?_).trans (.present ..))
    rw [isPresent_congr (filterReceive_tables p src.toNat (some seq) s)]
    exact isPresent_of_doorAt hd
  · exact .modSide ..

theorem Steps.hpuReportArrives (p : RingPort) (src seq : Byte) (st : HpuCode) (x : Nat) (s : State) :
    Steps s (hpuReportArrives p src seq st x s) := by
  have alarmed (h : HpuIx) (u : State) : Steps u (hpuAlarms h st u) :=
    .ite (fun _ => (Steps.ite (fun _ => .raiseAlarm (by decide) ..) fun _ => .clearAlarm ..).trans (.clearAlarm ..))
      fun _ => .refl u
  unfold Machine.hpuReportArrives
  split
  · next h _ => exact .filtered p src seq (((Steps.calm {}).trans (alarmed h _)).trans (.recomputeE ..))
  · exact .modSide ..

theorem Steps.loseHpu (h : HpuIx) (s : State) : Steps s (loseHpu h s) :=
  ((Steps.calm {}).trans (.raiseAlarm (by decide) ..)).trans (.recomputeE ..)

theorem Steps.ringSend (dest kind : Byte) (payload : List Byte) (s : State) : Steps s (ringSend dest kind payload s) :=
  .calm {}

theorem Steps.setLoop (x : Option LoopCheck) (s : State) : Steps s (setLoop x s) := .calm {}

theorem Steps.startLoop (s : State) : Steps s (startLoop s) := by
  unfold Machine.startLoop
  split
  · exact .refl s
  · exact (Steps.setLoop ..).trans (.ringSend ..)

theorem Steps.ringQuiet (s : State) : Steps s (ringQuiet s) := .calm {}

theorem Steps.loopArrives (p : RingPort) (seq : Byte) (s : State) : Steps s (loopArrives p seq s) := by
  unfold Machine.loopArrives
  split
  · exact (Steps.modSide p _ s).trans (.ite (fun _ => (Steps.calm {}).trans (.clearAlarm ..)) fun _ => .setLoop ..)
  · exact .modSide ..

theorem Steps.loopTimerExpires (s : State) : Steps s (loopTimerExpires s) := by
  unfold Machine.loopTimerExpires
  split
  · exact .ite (fun _ => (Steps.calm {}).trans (.ite (fun _ => .raiseAlarm (by decide) ..) fun _ => .refl _)) fun _ => .refl s
  · exact .refl s

theorem Steps.loopIntervalExpires (s : State) : Steps s (loopIntervalExpires s) := by
  have restarted (u : State) : Steps u { u with rc := { u.rc with interval := 0 } } := .calm {}
  exact .ite (fun _ => ((Steps.ringQuiet s).trans (.startLoop _)).trans (restarted _)) fun _ => .refl s

theorem Steps.sendHeadOrder (s : State) : Steps s (sendHeadOrder s) := by
  unfold Machine.sendHeadOrder
  split
  · next o rest h => exact .calm { orders := by show rest.Sublist s.rc.orders; rw [h]; exact List.sublist_cons_self .. }
  · exact .refl s

theorem Steps.sendPoll {d : DoorIx} {s : State} (hs : s.inService = true) (hd : s.isPresent d = true) :
    Steps s (sendPoll d s) := .single (.poll d s hs hd)

theorem isPresent_of_firstDoor {s : State} {d : DoorIx} (h : firstDoor s = some d) : s.isPresent d = true :=
  List.find?_some h

theorem startLoop_tables (s : State) : (startLoop s).tables = s.tables := by
  unfold Machine.startLoop
  split <;> rfl

theorem startLoop_cfs (s : State) : (startLoop s).cfs = s.cfs := by
  unfold Machine.startLoop
  split <;> rfl

theorem inService_congr {s t : State} (h : t.cfs = s.cfs) : t.inService = s.inService := by
  unfold State.inService; rw [h]

theorem Steps.pollNext {s : State} (hs : s.inService = true) : Steps s (pollNext s) := by
  unfold Machine.pollNext
  split
  · next d hd =>
    refine .sendPoll hs ?_
    unfold nextDoor at hd
    split at hd
    · have found := List.find?_some hd
      simp only [Bool.and_eq_true] at found
      exact found.1
    · cases hd
  · unfold endCycle
    split
    · next d hd =>
      refine (Steps.startLoop s).trans (.sendPoll ?_ ?_)
      · rw [inService_congr (startLoop_cfs s)]; exact hs
      · rw [isPresent_congr (startLoop_tables s)]; exact isPresent_of_firstDoor hd
    · exact .startLoop s

theorem Steps.startPolling {s : State} (hs : s.inService = true) : Steps s (startPolling s) := by
  unfold Machine.startPolling
  split
  · next d hd => exact .sendPoll hs (isPresent_of_firstDoor hd)
  · exact .refl s

theorem modReported_modReported (d : DoorIx) (f g : Reported → Reported) (s : State) :
    (s.modReported d f).modReported d g = s.modReported d (g ∘ f) := by
  simp [State.modReported, upd, Vector.set_set]

theorem Steps.missPoll {d : DoorIx} {s : State} (hd : s.rc.polled = some d) (hopen : s.rc.pollEnded = false) :
    Steps s (missPoll d s) := by
  have missed (f : Reported → Reported) : Steps s ((endPoll s).modReported d f) := .single (.miss d f s hd hopen)
  refine .ite (fun _ => Steps.trans ?_ (.present ..)) fun _ => missed _
  refine Steps.trans ?_ (.raiseDoor (by decide) ..)
  have lost (u : State) : u.setPosition d .UNKNOWN = u.modReported d fun r => { r with position := .UNKNOWN } := rfl
  rw [lost, modReported_modReported, modReported_modReported]
  exact missed _

/-! ### Reception -/

theorem Steps.foldl {ι : Type} {act : State → ι → State} (h : ∀ i s, Steps s (act s i)) (l : List ι) (s : State) :
    Steps s (l.foldl act s) := Steps.forEach (act := fun i s => act s i) h l s

theorem Steps.stationDiscard (p : PortIx) (s : State) : Steps s (stationDiscard p s) := .modPort ..

theorem Steps.stationBytes (p : PortIx) (l : List RxByte) (s : State) : Steps s (stationBytes p l s) := by
  refine .foldl (fun b u => ?_) l s
  unfold stationByte
  split
  · exact .modPort ..
  · exact .modPort ..
  · exact .ite (fun _ => .modPort ..) fun _ => .modPort ..

theorem Steps.stationTimeout (p : PortIx) (s : State) : Steps s (stationTimeout p s) := by
  unfold Machine.stationTimeout
  split
  · exact .modPort ..
  · exact .refl s

theorem Steps.ringBytes (p : RingPort) (l : List RxByte) (s : State) : Steps s (ringBytes p l s) := by
  refine .foldl (fun b u => ?_) l s
  unfold ringByte
  split
  · exact .modSide ..
  · exact (Steps.modSide ..).trans (.modSide ..)
  · exact .ite (fun _ => (Steps.modSide ..).trans (.modSide ..)) fun _ => .modSide ..

theorem Steps.ringTimeout (p : RingPort) (s : State) : Steps s (ringTimeout p s) := by
  unfold Machine.ringTimeout
  split
  · exact (Steps.modSide ..).trans (.modSide ..)
  · exact .refl s

/-! ### Mode entries and bridge loss -/

theorem Steps.setMode {m : Mode} {s : State} (hs : s.inService = true) (hm : m ≠ .LOCAL) : Steps s (setMode m s) :=
  .single (.mode m s hs hm)

theorem Steps.clearAtSea (s : State) : Steps s (clearAtSea s) := by
  have zeroed (u : State) : Steps u { u with mc := { u.mc with oas := Vector.replicate 96 ⟨0, false⟩ } } := .calm {}
  have cleared : Steps s (Machine.forEach allDoors (Machine.clearDoor .DOOR_OPEN_AT_SEA) s) := .forEach (fun _ _ => .clearDoor ..) _ s
  exact cleared.trans (zeroed _)

theorem Steps.abortAndFlush (s : State) : Steps s (abortAndFlush s) := by
  have chosen : Steps s (freeChoice Config.flushBeforeAbort s).2 := .calm {}
  have flushed (u : State) : Steps u (flush u) := .removeAll ..
  unfold Machine.abortAndFlush
  exact .ite (fun _ => chosen.trans (.ite (fun _ => (flushed _).trans (.abortRuns _)) fun _ =>
    (Steps.abortRuns _).trans (flushed _))) fun _ => (Steps.abortRuns s).trans (flushed _)

/-- What follows the writing of the mode at an entry into LOCAL. -/
theorem Steps.afterLocal (s : State) : Steps s (Machine.clearAtSea (Machine.forEach allDoors Machine.endAnyPassage
    (Machine.abortAndFlush s))) :=
  ((Steps.abortAndFlush s).trans (.forEach .endAnyPassage _ _)).trans (.clearAtSea _)

/-- After the passages were dropped door by door none stands. -/
theorem passage_endPassage (d x : DoorIx) (s : State) :
    (endPassage d s).passage x = if d = x then none else s.passage x := by
  rw [← passage_dropPassage]
  unfold State.passage endPassage
  rw [(AlarmFrame.clearDoor .PASSAGE_OVERDUE d (s.dropPassage d)).mc]

theorem passage_endAnyPassage (d x : DoorIx) (s : State) :
    (endAnyPassage d s).passage x = if d = x then none else s.passage x := by
  unfold Machine.endAnyPassage
  split
  · exact passage_endPassage d x s
  · next h => split
              · next hx => subst hx; exact h
              · rfl

theorem passage_forEach_endAnyPassage {l : List DoorIx} {x : DoorIx} (s : State) (hx : x ∈ l) :
    (forEach l endAnyPassage s).passage x = none := by
  have kept (l : List DoorIx) : ∀ u : State, u.passage x = none → (forEach l endAnyPassage u).passage x = none := by
    induction l with
    | nil => exact fun _ => id
    | cons d rest ih => exact fun u hu => ih _ (by rw [passage_endAnyPassage]; split <;> [rfl; exact hu])
  induction l generalizing s with
  | nil => cases hx
  | cons d rest ih =>
    obtain rfl | hrest := List.mem_cons.mp hx
    · exact kept rest _ (by rw [passage_endAnyPassage, if_pos rfl])
    · exact ih _ hrest

theorem passage_clearAtSea (s : State) (d : DoorIx) : (clearAtSea s).passage d = s.passage d := by
  have cleared : AlarmFrame s (forEach allDoors (clearDoor .DOOR_OPEN_AT_SEA) s) := .forEach (fun _ _ => .clearDoor ..) _ s
  unfold clearAtSea State.passage
  generalize forEach allDoors (clearDoor .DOOR_OPEN_AT_SEA) s = u at cleared
  have same : u.mc.passages = s.mc.passages := by rw [cleared.mc]
  show u.mc.passages[d] = s.mc.passages[d]
  rw [same]

theorem passage_enterLocal (s : State) (d : DoorIx) : (enterLocal s).passage d = none := by
  unfold enterLocal
  rw [passage_clearAtSea]
  exact passage_forEach_endAnyPassage _ (List.mem_finRange d)

theorem Steps.ofEnterLocal {s : State} (hs : s.inService = true) : Steps s (Machine.enterLocal s) :=
  .enterLocal (.refl s) hs (by unfold Machine.enterLocal; exact .afterLocal _) (passage_enterLocal s)

theorem Steps.enterClosedFromLocal {s : State} (hs : s.inService = true) : Steps s (enterClosedFromLocal s) :=
  (Steps.setMode hs (by decide)).trans (.launchSystem _ _ (by exact hs))

theorem Steps.takePassage (d : DoorIx) (s : State) : Steps s (takePassage d s) := by
  unfold Machine.takePassage
  split
  · exact .ite (fun _ => .refl s) fun _ => (Steps.endPassage d s).trans (.decideDemand ..)
  · exact .refl s

theorem RunFrame.raiseEntry (d : DoorIx) (s : State) : RunFrame s (raiseEntry d s) := by
  unfold Machine.raiseEntry
  split
  · exact .setEntry ..
  · exact .refl s

/-- What follows the writing of the mode at an entry into EMERGENCY. -/
theorem Steps.afterEmergency (c : EmergencyCause) {s : State} (hs : s.inService = true) :
    Steps s (Machine.launchSystem 3 c.runOrigin (Machine.forEach allDoors Machine.takePassage
      (reverseForEmergency c.origin (denyForEmergency (raiseForEmergency s))))) := by
  have raised : Steps s (raiseForEmergency s) := by
    refine .request (P := fun _ => True) (fun d u _ => ?_) (fun _ _ _ => trivial) _ trivial
    unfold raiseEntry
    split
    · next e he => exact .calm (.setEntry _ (Option.isSome_of_mem he))
    · exact .refl u
  have raisedFrame : BlockFrame s (raiseForEmergency s) := (Machine.RunFrame.request RunFrame.raiseEntry _ _).toBlockFrame
  have denied : Steps (raiseForEmergency s) (denyForEmergency (raiseForEmergency s)) := .removeAll ..
  have deniedFrame : BlockFrame (raiseForEmergency s) (denyForEmergency (raiseForEmergency s)) :=
    (Machine.RunFrame.removeAll ..).toBlockFrame
  have hs' := inService_of_frame (raisedFrame.trans deniedFrame) hs
  have keep (d : DoorIx) (u : State) : BlockFrame u (Machine.reverseOne c.origin d u) := (Machine.RunFrame.reverseOne ..).toBlockFrame
  have reversed : Steps _ (reverseForEmergency c.origin (denyForEmergency (raiseForEmergency s))) :=
    .request (fun d _ hu => .reverseOne c.origin d hu) (fun d u hu => inService_of_frame (keep d u) hu) _ hs'
  have reversedFrame : BlockFrame _ (reverseForEmergency c.origin (denyForEmergency (raiseForEmergency s))) :=
    (Machine.RunFrame.request (fun d u => .reverseOne c.origin d u) _ _).toBlockFrame
  have hs'' := inService_of_frame reversedFrame hs'
  have passageFrame (d : DoorIx) (u : State) : BlockFrame u (Machine.takePassage d u) := by
    unfold Machine.takePassage
    split
    · split
      · exact .refl u
      · exact ((Machine.RunFrame.endPassage d u).trans (.decideDemand ..)).toBlockFrame
    · exact .refl u
  exact (((raised.trans denied).trans reversed).trans (.forEach .takePassage _ _)).trans
    (.launchSystem _ _ (inService_of_frame (.forEach passageFrame _ _) hs''))

theorem Steps.enterEmergency (c : EmergencyCause) {s : State} (hs : s.inService = true) : Steps s (enterEmergency c s) :=
  by unfold Machine.enterEmergency; exact (Steps.setMode hs (by decide)).trans (.afterEmergency c (by exact hs))

theorem Steps.evalBridge (s : State) : Steps s (evalBridge s) := by
  have lost (u : State) (b : Bool) : Steps u (setBridgeLost b u) := .calm {}
  unfold Machine.evalBridge
  split
  · exact .refl s
  · next hs =>
    have hs : s.inService = true := by simpa using hs
    refine .ite (fun _ => .ite (fun _ => .refl s) fun _ => ?_) fun _ =>
      .ite (fun _ => (lost s false).trans (.clearAlarm ..)) fun _ => .refl s
    refine ((lost s true).trans (.raiseAlarm (k := .BRIDGE_LOST) (by decide) noSubject _)).trans
      (.ite (fun _ => .enterClosedFromLocal ?_) fun _ => .refl _)
    exact inService_of_frame (AlarmFrame.raiseAlarm .BRIDGE_LOST noSubject (setBridgeLost true s)).toBlockFrame hs

/-! ### Station commands -/

theorem Steps.acceptFrame (p : PortIx) (s : State) : Steps s (acceptFrame p s) := .modPort ..

/-- A command is counted, then refused or handed on; it is handed on in service unless it is decided out of it too. -/
theorem Steps.decideCommand (g : Gate) (b : Bool) (p : PortIx) {take : State → State} {s : State}
    (h : ∀ u, gateRefusal g b p u = none → Steps u (take u)) : Steps s (decideCommand g b p take s) := by
  refine (Steps.acceptFrame p s).trans ?_
  unfold Machine.decideCommand
  simp only
  split
  · exact .refuse ..
  · next hgate => exact h _ hgate

theorem inService_of_gate {g : Gate} {b : Bool} {p : PortIx} {s : State} (hg : g.unconfigured = false)
    (h : gateRefusal g b p s = none) : s.inService = true := by
  unfold gateRefusal at h
  by_contra hs
  simp [hg, Bool.eq_false_iff.mpr hs] at h

theorem storeBusy_of_gate {g : Gate} {b : Bool} {p : PortIx} {s : State} (hg : g.exclusive = true)
    (h : gateRefusal g b p s = none) : storeBusy s = false := by
  unfold gateRefusal at h
  by_contra hs
  simp only [hg, Bool.eq_true_of_not_eq_false hs, and_self, if_true] at h
  repeat' split at h
  all_goals cases h

theorem Steps.heartbeat (p : PortIx) (s : State) : Steps s (heartbeat p s) := by
  refine .ite (fun _ => .ite (fun _ => .modPort ..) fun _ => ?_) fun _ => .refl s
  refine (Steps.modPort s p _).trans (.ite (fun _ => ?_) fun _ => .refl _)
  exact ((Steps.modPort ..).trans (.clearAlarm ..)).trans (.evalBridge _)

theorem Steps.fallSilent (p : PortIx) (s : State) : Steps s (fallSilent p s) :=
  ((Steps.modPort s p _).trans (.raiseAlarm (by decide) ..)).trans (.evalBridge _)

theorem Steps.doorCommand (p : PortIx) (kind : Nat) (dir : Direction) (door cls : Byte) (s : State) :
    Steps s (doorCommand p kind dir door cls s) := by
  unfold Machine.doorCommand
  split
  · have answered (c : Bool) (o : DemandOutcome) (u : State) : Steps u (answerDemand p kind c o u) := by
      unfold answerDemand
      split
      · exact .answerDone ..
      · exact .refuseWith ..
    exact ((Steps.decideDemand ..).trans (.settleRuns _)).trans (answered ..)
  · exact .refuse ..

theorem Steps.groupCommand (p : PortIx) (kind : Nat) (dir : Direction) (group cls : Byte) {s : State}
    (hs : s.inService = true) : Steps s (groupCommand p kind dir group cls s) := by
  unfold Machine.groupCommand
  split
  · next g _ =>
    split
    · exact .refuse ..
    · unfold launchStation
      have accepted := Steps.acceptRun p g dir (usedClass s p cls.toNat) hs
      simp only
      split
      · next heq => rw [heq] at accepted; exact accepted.trans (.answerDone ..)
      · next heq => rw [heq] at accepted; exact accepted.trans (.refuseWith ..)
  · exact .refuse ..

theorem Steps.runCancel (p : PortIx) (n : Byte) (s : State) : Steps s (runCancel p n s) := by
  unfold Machine.runCancel
  split
  · split
    · exact .refuse ..
    · exact ((Steps.cancelRun ..).trans (.settleRuns _)).trans (.answerDone ..)
  · exact .refuse ..

end Sys2Proof.Proofs
end

section
/-! ## The chain of micro steps of each command: snapshots, tables, the store, the timers -/
namespace Sys2Proof.Proofs
open Sys2Proof Sys2Proof.Machine

set_option Elab.async false

/-! ### Snapshots and frames -/

theorem Steps.joinPart (p : PortIx) (s : State) : Steps s (joinPart p s) := .single (.joinPart p s)

theorem Steps.setSending (x : Option Sending) (s : State) : Steps s (setSending x s) := .calm {}

theorem Steps.handOn (x : Sending) (s : State) : Steps s (handOn x s) :=
  ((Steps.setSending (some x) s).trans (.modPort _ x.port _)).trans (.joinPart ..)

theorem Steps.snapshotReq (p : PortIx) (s : State) : Steps s (snapshotReq p s) := by
  have latched (b : Bool) : Steps s (takeSnapshot p b s) := by
    have begun : Steps s (latchSnapshot s) := .calm {}
    exact (begun.trans (.answerDone ..)).trans (.ite (fun _ => .setSending ..) fun _ => .handOn ..)
  unfold Machine.snapshotReq
  split
  · exact latched false
  · exact .ite (fun _ => latched true) fun _ => .refuse ..

theorem Steps.partSent (p : PortIx) (s : State) : Steps s (partSent p s) := by
  unfold Machine.partSent
  split
  · exact .ite (fun _ => .refl s) fun _ => .ite (fun _ => .handOn ..) fun _ =>
      .ite (fun _ => .setSending ..) fun _ => .handOn ..
  · exact .refl s

theorem Steps.frameLeaves {p : PortIx} {f : Frame} {rest : List Frame} {s : State} (h : s.sp[p].queue = f :: rest) :
    Steps s (frameLeaves p f rest s) := by
  refine Steps.trans ?_ (.joinPart ..)
  refine Steps.trans (t := s.modPort p fun t => { t with queue := rest, partGone := t.partGone || f.isPart })
    (.calm { queues := fun q => ?_ }) (.calm {})
  simp only [State.modPort_sp, Fin.getElem_fin, getElem_upd]
  split
  · next hq =>
    rw [Fin.val_inj] at hq
    subst hq
    exact (Nat.le_succ rest.length).trans (Nat.le_of_eq (congrArg List.length h).symm)
  · exact Nat.le_refl _

theorem Steps.frameSent (p : PortIx) (s : State) : Steps s (frameSent p s) := by
  unfold Machine.frameSent
  split
  · next h => exact .frameLeaves h
  · exact .refl s

theorem Steps.snapshotPartLeft (p : PortIx) (s : State) : Steps s (snapshotPartLeft p s) := by
  have told (u : State) : Steps u (reportPart p u) := (Steps.modPort u p _).trans (.partSent ..)
  unfold Machine.snapshotPartLeft
  split
  · exact told s
  · split
    · next h => exact .ite (fun _ => (Steps.frameLeaves h).trans (told _)) fun _ => .refl s
    · exact .refl s

/-! ### Tables -/

theorem save_eq_none_of_storeBusy {s : State} (h : storeBusy s = false) : s.cfs.save = none := by
  unfold storeBusy at h
  simp only [Bool.or_eq_false_iff] at h
  exact Option.isNone_iff_eq_none.mp (by simpa using h.1)

theorem Steps.decideWrite {p : PortIx} {inUse refused clamped : Bool} {conflict : Option RecordName}
    {write : State → State} {s : State}
    (h : inUse = false → refused = false → (s.inService = true → conflict = none) → Steps s (write s)) :
    Steps s (decideWrite p inUse refused clamped conflict write s) := by
  unfold Machine.decideWrite
  split
  · exact .refuse ..
  · next huse =>
    split
    · exact .refuse ..
    · next href =>
      split
      · exact .refuseWith ..
      · next hconf =>
        refine ((h (by simpa using huse) (by simpa using href) fun hs => ?_).trans (.settleRuns _)).trans (.answerDone ..)
        simpa [hs] using hconf

theorem Calm.modFlow (s : State) (h : HpuIx) (f : HpuFlow → HpuFlow) : Calm s (s.modFlow h f) := {}

theorem Calm.modHpu (s : State) (h : HpuIx) (f : HpuReported → HpuReported) : Calm s (s.modHpu h f) := {}

theorem Steps.resetFilters (old new : Nat) (s : State) : Steps s (resetFilters old new s) :=
  (Steps.calm (.setFilter ..)).trans (.calm (.setFilter ..))

theorem clampTo_clampTo {lo hi : Nat} (h : lo ≤ hi) (n : Nat) : clampTo lo hi (clampTo lo hi n) = clampTo lo hi n := by
  unfold clampTo; omega

theorem DoorConfig.clamp_clamp (c : DoorConfig) : c.clamp.clamp = c.clamp := by
  simp [DoorConfig.clamp, clampTo_clampTo]

theorem DoorConfig.refused_clamp (c : DoorConfig) : c.clamp.refused = c.refused := rfl

theorem HpuConfig.clamp_clamp (c : HpuConfig) : c.clamp.clamp = c.clamp := by
  simp [HpuConfig.clamp, clampTo_clampTo]

theorem HpuConfig.refused_clamp (c : HpuConfig) : c.clamp.refused = c.refused := rfl

theorem GroupRec.clamp_clamp (c : GroupRec) : c.clamp.clamp = c.clamp := by
  simp [GroupRec.clamp, clampTo_clampTo]

theorem GroupRec.refused_clamp (c : GroupRec) : c.clamp.refused = c.refused := rfl

theorem PermitRow.clamp_clamp (c : PermitRow) : c.clamp.clamp = c.clamp := by
  simp [PermitRow.clamp, clampTo_clampTo]

theorem PermitRow.refused_clamp (c : PermitRow) : c.clamp.refused = c.refused := rfl

theorem SystemRecord.clamp_clamp (c : SystemRecord) : c.clamp.clamp = c.clamp := by
  have window {low top : Nat} (hlow : 2 ≤ low ∧ low ≤ 50) (htop : 10 ≤ top) :
      let x := if low < top then low else top - 1
      (if clampTo 2 50 x < top then clampTo 2 50 x else top - 1) = x := by
    intro x
    have hx : 2 ≤ x ∧ x ≤ 50 ∧ x < top := by
      show 2 ≤ (if low < top then low else top - 1) ∧ (if low < top then low else top - 1) ≤ 50 ∧
        (if low < top then low else top - 1) < top
      split <;> omega
    have hfix : clampTo 2 50 x = x := by unfold clampTo; omega
    rw [hfix, if_pos hx.2.2]
  have hmax : clampTo 10 600 (clampTo 10 600 c.hbMax) = clampTo 10 600 c.hbMax := clampTo_clampTo (by decide) _
  simp only [SystemRecord.clamp, hmax, clampTo_clampTo (show 0 ≤ 3 by decide), clampTo_clampTo (show 10 ≤ 255 by decide),
    SystemRecord.mk.injEq, true_and, and_true]
  exact window ⟨le_clampTo 2 50 _, clampTo_le (by decide) _⟩ (le_clampTo 10 600 _)

theorem SystemRecord.refused_clamp (c : SystemRecord) : c.clamp.refused = c.refused := rfl

theorem Steps.writeDoor (p : PortIx) (index : Byte) (image : List Byte) {s : State} (hsave : s.cfs.save = none) :
    Steps s (writeDoor p index image s) := by
  unfold Machine.writeDoor
  split
  · next d _ =>
    refine .decideWrite fun huse href hcross => ?_
    have hfree : s.entry d = none := by
      simp only [doorInUse, Bool.or_eq_false_iff] at huse
      exact Option.isNone_iff_eq_none.mp (by simpa using huse.1)
    unfold doorWritten
    simp only
    refine Steps.trans ?_ (.ite (fun _ => .present ..) fun _ => .refl _)
    refine Steps.trans ?_ (.ite (fun _ => .recomputeComps ..) fun _ => .refl _)
    refine Steps.trans ?_ (.ite (fun _ => ?_) fun _ => .refl _)
    · exact .single (.writeDoor d (DoorConfig.decode image).clamp s hsave hfree href (DoorConfig.clamp_clamp _) hcross)
    · exact (Steps.forEach (fun _ _ => .clearDoor ..) _ _).trans (.zeroOas ..)
  · exact .refuse ..

theorem Steps.writeHpu (p : PortIx) (index : Byte) (image : List Byte) {s : State} (hsave : s.cfs.save = none) :
    Steps s (writeHpu p index image s) := by
  unfold Machine.writeHpu
  split
  · next h _ =>
    refine .decideWrite fun _ href hcross => ?_
    unfold hpuWritten
    simp only
    refine Steps.trans ?_ (.recomputeE ..)
    refine Steps.trans ?_ (.ite (fun _ => ?_) fun _ => .refl _)
    · exact (Steps.single (.writeHpu h (HpuConfig.decode image).clamp s hsave href (HpuConfig.clamp_clamp _) hcross)).trans
        (.ite (fun _ => (Steps.resetFilters ..).trans (.calm (.modHpu ..))) fun _ => .refl _)
    · exact (((Steps.calm (.modFlow ..)).trans (.clearAlarm ..)).trans (.clearAlarm ..)).trans (.clearAlarm ..)
  · exact .refuse ..

theorem GroupRec.length_decode (l : List Byte) : (GroupRec.decode l).entries.length = min (GroupRec.decode l).count 32 := by
  simp [GroupRec.decode]

theorem Steps.writeGroup (p : PortIx) (index : Byte) (image : List Byte) {s : State} (hsave : s.cfs.save = none) :
    Steps s (writeGroup p index image s) := by
  unfold Machine.writeGroup
  split
  · next g _ =>
    exact .decideWrite fun _ href hcross =>
      .single (.writeGroup g (GroupRec.decode image).clamp s hsave href (GroupRec.clamp_clamp _) (GroupRec.length_decode image) hcross)
  · exact .refuse ..

theorem Steps.writePermit (p : PortIx) (index : Byte) (image : List Byte) {s : State} (hsave : s.cfs.save = none) :
    Steps s (writePermit p index image s) := by
  have beats (q : PortIx) (old new : PermitRow) (u : State) : Steps u (heartbeatWritten q old new u) :=
    .ite (fun _ => .refl u) fun _ => (Steps.modPort u q _).trans (.ite (fun _ => .clearAlarm ..) fun _ => .refl _)
  have paced (q : PortIx) (old new : PermitRow) (u : State) : Steps u (pacingWritten q old new u) :=
    .ite (fun _ => .refl u) fun _ => .ite (fun _ => .setPacing ..) fun _ => .ite (fun _ => .refl u) fun _ =>
      .ite (fun _ => .sendSummary ..) fun _ => .pacingChange ..
  unfold Machine.writePermit
  split
  · next q _ =>
    refine .decideWrite fun _ href hcross => ?_
    exact (((Steps.single (.writePermit q (PermitRow.decode image).clamp s hsave href (PermitRow.clamp_clamp _) hcross)).trans (beats ..)).trans
      (.evalBridge _)).trans (paced ..)
  · exact .refuse ..

theorem Steps.writeSystem (p : PortIx) (index : Byte) (image : List Byte) {s : State} (hsave : s.cfs.save = none) :
    Steps s (writeSystem p index image s) := by
  unfold Machine.writeSystem
  split
  · refine .decideWrite fun _ href _ => ?_
    exact ((Steps.single (.writeSystem (SystemRecord.decode image).clamp s hsave href (SystemRecord.clamp_clamp _))).trans
      (.ite (fun _ => .forEach (fun _ _ => .pass ..) _ _) fun _ => .refl _)).trans
      (.ite (fun _ => .forEach (fun _ _ => .evalDelay ..) _ _) fun _ => .refl _)
  · exact .refuse ..

theorem Steps.writeOfLength (ok : Bool) (p : PortIx) {write : State → State}
    (h : ∀ u : State, u.cfs.save = none → Steps u (write u)) (s : State) : Steps s (writeOfLength ok p write s) :=
  .ite (fun _ => .decideCommand _ _ _ fun u hg => h u (save_eq_none_of_storeBusy (storeBusy_of_gate rfl hg)))
    fun _ => .stationDiscard ..

theorem Steps.tableRead (p : PortIx) (table size : Nat) (records : List (List Byte)) (first count : Byte)
    {effect : Nat → State → State} (h : ∀ n u, Steps u (effect n u)) (s : State) :
    Steps s (tableRead p table size records first count effect s) :=
  .ite (fun _ => .refuse ..) fun _ => (Steps.answerDone ..).trans (h _ _)

theorem Steps.noEffect (n : Nat) (s : State) : Steps s (noEffect n s) := .refl s

theorem Steps.clearFresh (first n : Nat) (s : State) : Steps s (clearFresh first n s) := by
  unfold Machine.clearFresh
  exact .calm {}

theorem Steps.counterRead (p : PortIx) (set : Nat) (counters : List Byte) (clear : Byte) {reset : State → State}
    (h : ∀ u, Steps u (reset u)) (s : State) : Steps s (counterRead p set counters clear reset s) :=
  (Steps.answerDone ..).trans (.ite (fun _ => .refl _) fun _ => h _)

theorem Steps.clearStationCounters (s : State) : Steps s (clearStationCounters s) := by
  unfold Machine.clearStationCounters
  exact .calm { queues := fun q => by simp }

theorem Steps.clearRingCounters (s : State) : Steps s (clearRingCounters s) := by
  unfold Machine.clearRingCounters
  exact .calm {}

/-! ### Starts -/

theorem Steps.startRing {s : State} (hs : s.inService = true) : Steps s (startRing s) := by
  have aged : Steps s { s with rc := { s.rc with hpus := updAll s.rc.hpus fun _ x => { x with age := 0 } } } := .calm {}
  have alarmed (l : List HpuIx) (u : State) : Steps u (Machine.forEach l (fun h => Machine.raiseAlarm .HPU_FAILED h.val) u) :=
    .forEach (fun _ _ => .raiseAlarm (by decide) ..) l u
  have frame (l : List HpuIx) (u : State) : AlarmFrame u (Machine.forEach l (fun h => Machine.raiseAlarm .HPU_FAILED h.val) u) :=
    .forEach (fun _ _ => .raiseAlarm ..) l u
  unfold Machine.startRing
  exact (aged.trans (alarmed ..)).trans (.startPolling (inService_of_frame (frame ..).toBlockFrame hs))

theorem Steps.startHeartbeats (s : State) : Steps s (startHeartbeats s) := by
  unfold Machine.startHeartbeats
  refine .calm { queues := fun q => ?_ }
  simp only [Fin.getElem_fin, getElem_updAll]
  split <;> exact Nat.le_refl _

/-- The entry actions of MC at an entry into IN_SERVICE end in service. -/
theorem enterLocal_cfs (s : State) : (enterLocal s).cfs = s.cfs := by
  have aborted (u : State) : (abortRuns u).cfs = u.cfs := by
    have detached : RunFrame u (forEach (liveRuns u) (fun r => detachTag r.number) u) := .forEach (fun _ _ => .detachTag ..) _ u
    unfold abortRuns
    exact detached.cfs
  have flushed (u : State) : (flush u).cfs = u.cfs := (RunFrame.removeAll ..).cfs
  have met (u : State) : (abortAndFlush u).cfs = u.cfs := by
    unfold abortAndFlush
    simp only
    split
    · split
      · rw [aborted, flushed]; rfl
      · rw [flushed, aborted]; rfl
    · rw [flushed, aborted]
  have dropped (u : State) : RunFrame u (forEach allDoors endAnyPassage u) := .forEach RunFrame.endAnyPassage _ u
  have cleared (u : State) : AlarmFrame u (forEach allDoors (clearDoor .DOOR_OPEN_AT_SEA) u) := .forEach (fun _ _ => .clearDoor ..) _ u
  have atSea (u : State) : (clearAtSea u).cfs = u.cfs := by
    have hcleared := (cleared u).cfs
    unfold clearAtSea
    generalize forEach allDoors (clearDoor .DOOR_OPEN_AT_SEA) u = v at hcleared
    exact hcleared
  unfold enterLocal
  rw [atSea, (dropped _).cfs, met]
  rfl

theorem evalBridge_cfs (s : State) : (evalBridge s).cfs = s.cfs := by
  have raised (u : State) : (raiseAlarm .BRIDGE_LOST noSubject u).cfs = u.cfs := (AlarmFrame.raiseAlarm ..).cfs
  unfold evalBridge loseBridge
  simp only
  split
  · rfl
  split
  · split
    · rfl
    · split
      · rw [(BlockFrame.enterClosedFromLocal _).cfs, raised]; rfl
      · rw [raised]; rfl
  · split
    · rw [(AlarmFrame.clearAlarm ..).cfs]; rfl
    · rfl

theorem enterStartMode_cfs (s : State) : (enterStartMode s).cfs = s.cfs := by
  unfold enterStartMode
  rw [evalBridge_cfs]
  split
  · exact (BlockFrame.enterEmergency ..).cfs
  · split
    · exact (BlockFrame.enterClosedFromLocal ..).cfs
    · exact enterLocal_cfs s

/-- R182: the entry actions, from a part out of service whose tables pass the checks. -/
theorem Steps.enterBlocks {s : State} (hs : s.inService = false) (hcheck : commissionChecks s.tables = none) :
    Steps s (enterBlocks s) := by
  have served (m : Mode) : Steps s (Machine.setMode m (setPart .IN_SERVICE (Machine.ringQuiet s))) :=
    (Steps.ringQuiet s).tail (.serve m _ hs hcheck)
  have entered : Steps s (enterStartMode (setPart .IN_SERVICE (Machine.ringQuiet s))) := by
    refine Steps.trans (.ite (fun _ => ?_) fun _ => .ite (fun _ => ?_) fun _ => ?_) (.evalBridge _)
    · unfold Machine.enterEmergency
      exact (served .EMERGENCY).trans (.afterEmergency .LINE rfl)
    · exact (served .CLOSED).trans (.launchSystem _ _ rfl)
    · unfold Machine.enterLocal
      exact (served .LOCAL).trans (.afterLocal _)
  refine ((entered.trans (.startHeartbeats _)).trans (.startRing ?_)).trans (.settleRuns _)
  have hcfs := enterStartMode_cfs (setPart .IN_SERVICE (Machine.ringQuiet s))
  unfold State.inService
  show decide ((enterStartMode _).cfs.part = _) = true
  rw [hcfs]
  rfl

theorem Steps.enterService {s : State} (hs : s.inService = false) (hcheck : commissionChecks s.tables = none) :
    Steps s (enterService s) := (Steps.enterBlocks hs hcheck).trans (.sendSummaries _)

theorem Steps.commission (p : PortIx) (s : State) : Steps s (commission p s) := by
  unfold Machine.commission
  split
  · exact .refuse ..
  · next hs =>
    split
    · exact .refuseWith ..
    · next hcheck =>
      have chosen (u : State) : Steps u (freeChoice Config.resultBeforeSummary u).2 := .calm {}
      unfold commissionTaken
      refine (Steps.enterBlocks (by simpa using hs) hcheck).trans ?_
      generalize Machine.enterBlocks s = t
      refine .ite (fun _ => (chosen t).trans (.ite (fun _ => ?_) fun _ => ?_)) fun _ => ?_
      · exact (Steps.answerDone ..).trans (.sendSummaries _)
      · exact (Steps.sendSummaries _).trans (.answerDone ..)
      · exact (Steps.sendSummaries _).trans (.answerDone ..)

theorem mem_presentDoors {s : State} {d : DoorIx} (h : d ∈ s.presentDoors) : s.isPresent d = true :=
  (List.mem_filter.mp h).2

theorem Steps.quietHpu (h : HpuIx) (s : State) : Steps s (quietHpu h s) :=
  ((Steps.ite (fun _ => (Steps.calm (.modHpu ..)).trans (.recomputeE ..)) fun _ => .refl s).trans (.clearAlarm ..)).trans
    (.clearAlarm ..)

/-- Actions on the doors of a list, each a chain where its door is present. -/
theorem Steps.forEach_present {act : DoorIx → State → State} (h : ∀ d s, s.isPresent d = true → Steps s (act d s))
    (keep : ∀ d s, (act d s).tables = s.tables) (l : List DoorIx) {s : State} (hl : ∀ d ∈ l, s.isPresent d = true) :
    Steps s (Machine.forEach l act s) := by
  induction l generalizing s with
  | nil => exact .refl s
  | cons d rest ih =>
    refine (h d s (hl d (List.mem_cons_self ..))).trans (ih fun x hx => ?_)
    rw [isPresent_congr (keep d s)]
    exact hl x (List.mem_cons_of_mem _ hx)

theorem quietHpu_tables (h : HpuIx) (s : State) : (quietHpu h s).tables = s.tables := by
  unfold Machine.quietHpu
  simp only
  rw [((AlarmFrame.clearAlarm .HPU_FAILED h.val _).trans (.clearAlarm .HPU_SILENT h.val _)).tables]
  split
  · rw [(ScheduleFrame.recomputeE ..).tables]; rfl
  · rfl

theorem forEach_quietHpu_tables (l : List HpuIx) (s : State) : (forEach l quietHpu s).tables = s.tables :=
  forEach_rel (R := fun s t => t.tables = s.tables) (fun _ => rfl) (fun h g => g.trans h) quietHpu_tables l s

theorem Steps.decommissioned {s : State} (hmode : s.mc.mode = .LOCAL) (hbusy : partBusy s = false) :
    Steps s (decommissioned s) := by
  have quietDoors (u : State) : Steps u (Machine.forEach u.presentDoors quietDoor (Machine.forEach allHpus Machine.quietHpu u)) := by
    refine (Steps.forEach .quietHpu allHpus u).trans (.forEach_present (fun d v hd => ?_) (fun d v => ?_) _ fun d hd => ?_)
    · exact (Steps.calm (.modReported _ hd)).trans (.clearDoor ..)
    · exact (AlarmFrame.clearDoor .DOOR_SILENT d _).tables
    · rw [isPresent_congr (forEach_quietHpu_tables allHpus u)]
      exact mem_presentDoors hd
  have quietMode (u : State) : Steps u (quietMode u) := by
    have stilled : Steps u { u with mc := { u.mc with bridgeLost := false, oas := Vector.replicate 96 ⟨0, false⟩ } } :=
      .calm {}
    exact stilled.trans (.clearAlarm ..)
  have released (u : State) : Steps u (recomputeReleased (clearPacing u)) := by
    unfold recomputeReleased clearPacing writeComps
    exact .calm {}
  have quietPorts (u : State) : Steps u (Machine.forEach allPorts quietPort u) :=
    .forEach (fun q v => (Steps.modPort v q _).trans (.clearAlarm ..)) _ u
  have retire : Steps s (retired s) := .single (.retire s hmode hbusy)
  unfold Machine.decommissioned
  exact (((retire.trans (quietDoors _)).trans (quietPorts _)).trans (quietMode _)).trans (released _)

theorem Steps.decommission (p : PortIx) (s : State) : Steps s (decommission p s) := by
  unfold Machine.decommission
  split
  · exact .refuse ..
  · next hmode =>
    obtain ⟨-, hmode⟩ := not_or.mp hmode
    split
    · exact .refuse ..
    · next hbusy =>
      exact (Steps.decommissioned (not_not.mp hmode) (by simpa using hbusy)).trans (.answerDone ..)

theorem Steps.save (p : PortIx) (s : State) : Steps s (save p s) := .calm { save := fun _ => .inl rfl }

theorem Steps.saveCompletes (p : PortIx) (s : State) : Steps s (saveCompletes p s) := by
  unfold Machine.saveCompletes
  exact ((Steps.calm { save := fun h => by cases h }).trans (.clearAlarm ..)).trans (.answerDone ..)

theorem Steps.raiseLine (s : State) : Steps s (raiseLine s) := .ite (fun _ => .raiseAlarm (by decide) ..) fun _ => .refl s
theorem Steps.raiseStore (s : State) : Steps s (raiseStore s) := .ite (fun _ => .raiseAlarm (by decide) ..) fun _ => .refl s

theorem Steps.coldStart (s : State) : Steps s (coldStart s) := by
  have began (t : Tables) (x : ImageStatus) (h : t = Tables.blank ∨ ∃ l, t = Tables.decode l) : Steps s (coldState t x s) :=
    .single (.cold t x s h)
  have failed (u : State) : Steps u (Machine.raiseLine (Machine.raiseStore u)) := (Steps.raiseStore u).trans (.raiseLine _)
  unfold Machine.coldStart
  split
  · next t ht =>
    have hdecoded : t = Tables.blank ∨ ∃ l, t = Tables.decode l := by
      unfold loadImage at ht
      split at ht
      · exact .inr ⟨_, (Option.some.inj ht).symm⟩
      · cases ht
    refine .ite (fun hcheck => ?_) fun _ => (began t _ hdecoded).trans (failed _)
    have raised : AlarmFrame (coldState t .GOOD s) (Machine.raiseLine (coldState t .GOOD s)) := by
      unfold Machine.raiseLine
      split
      · exact .raiseAlarm ..
      · exact .refl _
    refine ((began t _ hdecoded).trans (.raiseLine _)).trans (.enterService ?_ ?_)
    · rw [inService_congr raised.cfs]
      unfold coldState recomputeReleased writeComps
      rfl
    · rw [raised.tables]
      unfold coldState recomputeReleased writeComps
      exact hcheck
  · exact (began _ _ (.inl rfl)).trans (failed _)

theorem Steps.warmRestart (s : State) : Steps s (warmRestart s) := by
  have raised : AlarmFrame (warmState s) (Machine.raiseLine (warmState s)) := by
    unfold Machine.raiseLine
    split
    · exact .raiseAlarm ..
    · exact .refl _
  unfold Machine.warmRestart
  refine (((Steps.single (.warm s)).trans (.raiseLine _)).trans (.ite (fun hcheck => .enterService ?_ hcheck) fun _ => .refl _)).trans
    (.raiseStore _)
  rw [inService_congr raised.cfs]
  unfold warmState recomputeReleased writeComps
  rfl

theorem Steps.restart (p : PortIx) (s : State) : Steps s (restart p s) := by
  unfold Machine.restart
  exact (Steps.calm {}).trans (.answerDone ..)

theorem Steps.lineAsserted (s : State) : Steps s (lineAsserted s) := by
  have raised : Steps s (Machine.raiseAlarm .EMERGENCY_LINE noSubject (setLine true s)) :=
    (Steps.calm {}).trans (.raiseAlarm (by decide) ..)
  exact raised.trans (.ite (fun h => (Steps.enterEmergency .LINE h.1).trans (.settleRuns _)) fun _ => .refl _)

theorem Steps.lineReleased (s : State) : Steps s (lineReleased s) := (Steps.calm {}).trans (.clearAlarm ..)

/-! ### Timers -/

theorem Steps.countTick (s : State) : Steps s (countTick s) := by
  unfold Machine.countTick tickRing
  refine .calm { queues := fun p => ?_, entries := fun d => ?_, passages := fun d => ?_, live := fun h => ?_ }
  · simp only [Fin.getElem_fin, getElem_updAll, tickHeartbeat]
    split <;> exact Nat.le_refl _
  · simp [State.entry]
  · simp [State.passage]
  · obtain ⟨hidle, hstack⟩ := liveRuns_eq_nil_iff.mp h
    exact liveRuns_eq_nil_iff.mpr ⟨fun i => by simpa [SlotIdle] using hidle i, hstack⟩

theorem Steps.supervisionTick (s : State) : Steps s (supervisionTick s) :=
  (Steps.countTick s).trans (.forEach (fun _ _ => .ite (fun _ => .refl _) fun _ => .evalDelay ..) _ _)

theorem Steps.secondsIncrement (s : State) : Steps s (secondsIncrement s) := by
  unfold Machine.secondsIncrement
  exact .calm {}

theorem Steps.onEntry {ran : Entry → Bool} {d : DoorIx} {act : Entry → State → State} {s : State}
    (h : ∀ e, s.entry d = some e → Steps s (act e s)) : Steps s (onEntry ran d act s) := by
  unfold Machine.onEntry
  split
  · next e he => exact .ite (fun _ => h e he) fun _ => .refl s
  · exact .refl s

theorem Steps.rewriteEntry {s : State} {d : DoorIx} {e : Entry} (x : Entry) (h : s.entry d = some e) :
    Steps s (s.setEntry d x) := .calm (.setEntry x (Option.isSome_of_mem h))

theorem Steps.windowExpires {d : DoorIx} {e : Entry} {s : State} (h : s.entry d = some e) :
    Steps s (windowExpires d e s) := by
  have counted (u : State) : Steps u { u with ms := { u.ms with moveRepeats := satInc 65535 u.ms.moveRepeats } } := .calm {}
  refine .ite (fun _ => ?_) fun _ => .ite (fun _ => .rewriteEntry _ h) fun _ => .faultDoor ..
  exact ((Steps.rewriteEntry _ h).trans (counted _)).trans (.queueOrder ..)

theorem Steps.deadlineExpires {d : DoorIx} {e : Entry} {s : State} (h : s.entry d = some e) :
    Steps s (deadlineExpires d e s) :=
  .ite (fun _ => .refl s) fun _ => (Steps.rewriteEntry _ h).trans (.raiseDoor (by decide) ..)

theorem Steps.heldTimeExpires (d : DoorIx) (s : State) : Steps s (heldTimeExpires d s) := by
  unfold Machine.heldTimeExpires
  split
  · next x hx =>
    exact .ite (fun _ => (Steps.setPassage d _ (.inr (Option.isSome_of_mem hx))).trans (.raiseDoor (by decide) ..)) fun _ => .refl s
  · exact .refl s

theorem Steps.openAtSeaExpires (d : DoorIx) (s : State) : Steps s (openAtSeaExpires d s) :=
  .ite (fun _ => (Steps.calm {}).trans (.raiseDoor (by decide) ..)) fun _ => .refl s

theorem polled_of_replyOverdue {s : State} {d : DoorIx} (h : replyOverdue s = some d) :
    s.rc.polled = some d ∧ s.rc.pollEnded = false := by
  unfold replyOverdue at h
  split at h
  · next hopen => exact ⟨h, hopen.2.1⟩
  · cases h

end Sys2Proof.Proofs
end

section
/-! ## Every command is a chain of micro steps -/
namespace Sys2Proof.Proofs
open Sys2Proof Sys2Proof.Machine

set_option Elab.async false

theorem Steps.awake {f : State → State} {s t : State} (h : awake f s = .next t) (g : s.pins.reset = false → Steps s (f s)) :
    Steps s t := by
  unfold Machine.awake at h
  injection h with h
  subst h
  exact .ite (fun _ => .refl s) fun hreset => g (by simpa using hreset)

theorem Steps.alarmAck (p : PortIx) (kind subject : Byte) (s : State) : Steps s (alarmAck p kind subject s) := by
  unfold Machine.alarmAck
  split
  · next k _ =>
    split
    · next r hr =>
      have named : Machine.ackNamed k subject.toNat s = ackRecord r s := by unfold Machine.ackNamed; rw [hr]
      rw [← named]
      exact (Steps.ackNamed ..).trans (.answerDone ..)
    · exact .refuse ..
  · exact .refuse ..

theorem Steps.requestLocal (p : PortIx) {s : State} (hs : s.inService = true) : Steps s (requestLocal p s) := by
  unfold Machine.requestLocal
  split
  · exact .answerDone ..
  · exact ((Steps.ofEnterLocal hs).trans (.settleRuns _)).trans (.answerDone ..)
  · exact .refuse ..

theorem Steps.requestClosed (p : PortIx) {s : State} (hs : s.inService = true) : Steps s (requestClosed p s) := by
  unfold Machine.requestClosed
  split
  · exact ((Steps.enterClosedFromLocal hs).trans (.settleRuns _)).trans (.answerDone ..)
  · exact .answerDone ..
  · exact .ite (fun _ => .refuse ..) fun _ => (Steps.setMode hs (by decide)).trans (.answerDone ..)

theorem Steps.requestEmergency (p : PortIx) {s : State} (hs : s.inService = true) : Steps s (requestEmergency p s) := by
  unfold Machine.requestEmergency
  split
  · exact ((Steps.enterEmergency .MODE hs).trans (.settleRuns _)).trans (.answerDone ..)
  · exact ((Steps.enterEmergency .MODE hs).trans (.settleRuns _)).trans (.answerDone ..)
  · exact .answerDone ..

theorem Steps.codeRefused (p : PortIx) (c : UnknownCode) (s : State) : Steps s (codeRefused p c s) := by
  unfold Machine.codeRefused
  split
  · exact .decideCommand _ _ _ fun _ _ => .refl _
  · exact .decideCommand _ _ _ fun _ _ => .refuse ..
  · exact .decideCommand _ _ _ fun _ _ => .refl _
  · exact .decideCommand _ _ _ fun _ _ => .refl _

theorem Steps.setPin (b : Bool) (s : State) : Steps s (setPin b s) := .calm {}

theorem exec_steps {c : Instr} {s t : State} (h : exec c s = .next t) : Steps s t := by
  cases c with
  | heartbeat p => exact .awake h fun _ => .decideCommand _ _ _ fun _ _ => .heartbeat ..
  | modeSetLocal p => exact .awake h fun _ => .decideCommand _ _ _ fun _ hg => .requestLocal p (inService_of_gate rfl hg)
  | modeSetClosed p => exact .awake h fun _ => .decideCommand _ _ _ fun _ hg => .requestClosed p (inService_of_gate rfl hg)
  | modeSetEmergency p =>
    exact .awake h fun _ => .decideCommand _ _ _ fun _ hg => .requestEmergency p (inService_of_gate rfl hg)
  | doorClose p d x => exact .awake h fun _ => .decideCommand _ _ _ fun _ _ => .doorCommand ..
  | doorOpen p d x => exact .awake h fun _ => .decideCommand _ _ _ fun _ _ => .doorCommand ..
  | groupClose p g x =>
    exact .awake h fun _ => .decideCommand _ _ _ fun _ hg => .groupCommand _ _ _ _ _ (inService_of_gate rfl hg)
  | groupOpen p g x =>
    exact .awake h fun _ => .decideCommand _ _ _ fun _ hg => .groupCommand _ _ _ _ _ (inService_of_gate rfl hg)
  | runCancel p n => exact .awake h fun _ => .decideCommand _ _ _ fun _ _ => .runCancel ..
  | alarmAck p k x => exact .awake h fun _ => .decideCommand _ _ _ fun _ _ => .alarmAck ..
  | alarmAckAll p => exact .awake h fun _ => .decideCommand _ _ _ fun _ _ => (Steps.ackAll _).trans (.answerDone ..)
  | snapshotReq p => exact .awake h fun _ => .decideCommand _ _ _ fun _ _ => .snapshotReq ..
  | tableWriteDoor p i l => exact .awake h fun _ => .writeOfLength _ _ (fun _ hu => .writeDoor p i l hu) _
  | tableWriteHpu p i l => exact .awake h fun _ => .writeOfLength _ _ (fun _ hu => .writeHpu p i l hu) _
  | tableWriteGroup p i l => exact .awake h fun _ => .writeOfLength _ _ (fun _ hu => .writeGroup p i l hu) _
  | tableWritePermitRow p i l => exact .awake h fun _ => .writeOfLength _ _ (fun _ hu => .writePermit p i l hu) _
  | tableWriteSystemRecord p i l => exact .awake h fun _ => .writeOfLength _ _ (fun _ hu => .writeSystem p i l hu) _
  | tableReadDoorState p i n =>
    exact .awake h fun _ => .decideCommand _ _ _ fun _ _ => .tableRead _ _ _ _ _ _ (fun _ _ => .clearFresh ..) _
  | tableReadDoorConfig p i n | tableReadHpuConfig p i n | tableReadHpuState p i n | tableReadGroup p i n
  | tableReadPermitConfig p i n | tableReadPermitState p i n | tableReadSystemRecord p i n | tableReadAlarmList p i n =>
    exact .awake h fun _ => .decideCommand _ _ _ fun _ _ => .tableRead _ _ _ _ _ _ .noEffect _
  | counterReadStation p x =>
    exact .awake h fun _ => .decideCommand _ _ _ fun _ _ => .counterRead _ _ _ _ .clearStationCounters _
  | counterReadRing p x =>
    exact .awake h fun _ => .decideCommand _ _ _ fun _ _ => .counterRead _ _ _ _ .clearRingCounters _
  | commission p => exact .awake h fun _ => .decideCommand _ _ _ fun _ _ => .commission ..
  | decommission p => exact .awake h fun _ => .decideCommand _ _ _ fun _ _ => .decommission ..
  | save p => exact .awake h fun _ => .decideCommand _ _ _ fun _ _ => .save ..
  | restart p => exact .awake h fun _ => .decideCommand _ _ _ fun _ _ => .restart ..
  | stationFrameDiscarded p l => exact .awake h fun _ => .stationBytes ..
  | stationInterbyteTimeout p l =>
    change awake (fun t => stationTimeout p (stationBytes p l t)) s = _ at h
    exact .awake h fun _ => (Steps.stationBytes ..).trans (.stationTimeout ..)
  | stationFrameSent p => exact .awake h fun _ => .frameSent ..
  | snapshotPartSent p => exact .awake h fun _ => .snapshotPartLeft ..
  | saveComplete =>
    change awake (fun t => match t.cfs.save with | some p => saveCompletes p t | none => t) s = _ at h
    refine .awake h fun _ => ?_
    split
    · exact .saveCompletes ..
    · exact .refl s
  | warmRestart => exact .awake h fun _ => .ite (fun _ => .warmRestart s) fun _ => .refl s
  | resetAsserted => injection h with h; subst h; exact .single (.reset s)
  | coldStart => injection h with h; subst h; exact .coldStart s
  | emergencyCloseAsserted =>
    change awake (fun t => if t.mc.line then t else lineAsserted t) (setPin true s) = _ at h
    exact (Steps.setPin true s).trans (.awake h fun _ => .ite (fun _ => .refl _) fun _ => .lineAsserted _)
  | emergencyCloseReleased =>
    change awake (fun t => if t.mc.line then lineReleased t else t) (setPin false s) = _ at h
    exact (Steps.setPin false s).trans (.awake h fun _ => .ite (fun _ => .lineReleased _) fun _ => .refl _)
  | report p src seq r =>
    change awake (fun t => reportArrives p src seq r (ringHunt p t)) s = _ at h
    exact .awake h fun _ => (Steps.modSide p _ s).trans (.reportArrives ..)
  | event p src seq x low fault =>
    change awake (fun t => eventArrives p src seq x low fault (ringHunt p t)) s = _ at h
    exact .awake h fun _ => (Steps.modSide p _ s).trans (.eventArrives ..)
  | hpuReport p src seq st x =>
    change awake (fun t => hpuReportArrives p src seq st x (ringHunt p t)) s = _ at h
    exact .awake h fun _ => (Steps.modSide p _ s).trans (.hpuReportArrives ..)
  | loopCopy p seq =>
    change awake (fun t => loopArrives p seq (ringHunt p t)) s = _ at h
    exact .awake h fun _ => (Steps.modSide p _ s).trans (.loopArrives ..)
  | ringFrameDiscarded p l => exact .awake h fun _ => .ringBytes ..
  | ringInterbyteTimeout p l =>
    change awake (fun t => ringTimeout p (ringBytes p l t)) s = _ at h
    exact .awake h fun _ => (Steps.ringBytes ..).trans (.ringTimeout ..)
  | orderSend => exact .awake h fun _ => .ite (fun _ => (Steps.ringQuiet s).trans (.sendHeadOrder _)) fun _ => .refl s
  | pollSend =>
    refine .awake h fun _ => .ite (fun hgo => (Steps.ringQuiet s).trans (.pollNext ?_)) fun _ => .refl s
    simp only [mayTransmit, Bool.and_eq_true] at hgo
    exact hgo.1.1
  | replyLimitExpiry =>
    change awake (fun t => match replyOverdue t with | some d => missPoll d t | none => t) s = _ at h
    refine .awake h fun _ => ?_
    split
    · next d hd => exact .missPoll (polled_of_replyOverdue hd).1 (polled_of_replyOverdue hd).2
    · exact .refl s
  | loopTimerExpiry => exact .awake h fun _ => .loopTimerExpires s
  | loopIntervalExpiry => exact .awake h fun _ => .loopIntervalExpires s
  | reportAgeExpiry x => exact .awake h fun _ => .ite (fun _ => .loseHpu ..) fun _ => .refl s
  | supervisionTick => exact .awake h fun _ => .supervisionTick s
  | secondsCounterIncrement => exact .awake h fun _ => .secondsIncrement s
  | preWarningExpiry d => exact .awake h fun _ => .onEntry fun e he => (Steps.rewriteEntry _ he).trans (.pass ..)
  | readyAgeExpiry d => exact .awake h fun _ => .ite (fun _ => .evalDelay ..) fun _ => .refl s
  | startWindowExpiry d =>
    change awake (fun t => settleRuns (onEntry Entry.windowOut d (windowExpires d) t)) s = _ at h
    exact .awake h fun _ => (Steps.onEntry fun e he => .windowExpires he).trans (.settleRuns _)
  | deadlineExpiry d => exact .awake h fun _ => .onEntry fun e he => .deadlineExpires he
  | hardLimitExpiry d =>
    change awake (fun t => settleRuns (onEntry Entry.overdue d (fun _ => faultDoor .OVERTIME d) t)) s = _ at h
    exact .awake h fun _ => (Steps.onEntry fun e _ => .faultDoor ..).trans (.settleRuns _)
  | waitAgeExpiry i =>
    change awake (fun t => settleRuns (if waitedOut t i then bypassAt i t else t)) s = _ at h
    exact .awake h fun _ => (Steps.ite (fun _ => .bypassAt ..) fun _ => .refl s).trans (.settleRuns _)
  | heldTimeExpiry d => exact .awake h fun _ => .heldTimeExpires ..
  | openAtSeaTimerExpiry d => exact .awake h fun _ => .openAtSeaExpires ..
  | heartbeatWindowExpiry p => exact .awake h fun _ => .ite (fun _ => .fallSilent ..) fun _ => .refl s
  | summaryElapsedExpiry p => exact .awake h fun _ => .ite (fun _ => .sendSummary ..) fun _ => .refl s
  | walkStep i =>
    change awake (fun t => settleRuns (walkStep i t)) s = _ at h
    exact .awake h fun _ => (Steps.walkStep ..).trans (.settleRuns _)
  | codeThatNamesNothing p x => exact .awake h fun _ => .ite (fun _ => .codeRefused ..) fun _ => .refl s

/-- A law that no micro step breaks, and that speaks of neither the mode nor the commands waiting, is kept by every step. -/
theorem keptByStep_of_micro {law : State → Prop} (micro : ∀ s t, Micro s t → law s → law t)
    (mode : ∀ s, law s → law (setMode .LOCAL s)) (pending : ∀ s l, law s → law (s.withPending l)) : KeptByStep law := by
  intro s t hs h
  unfold step at h
  split at h
  · injection h with h; subst h; exact hs
  · exact (exec_steps h).preserves micro mode (pending _ _ hs)

end Sys2Proof.Proofs
end

section
/-! ## What joins a transmit queue (R172), and the laws of the queues

`placedIn` is what one placing makes of a queue; `Joined` is a chain of them with frames of a kind. -/
namespace Sys2Proof.Proofs
open Sys2Proof Sys2Proof.Machine

set_option Elab.async false

/-- R172: a queue in which a frame was placed. -/
def placedIn (f : Frame) (q : List Frame) : List Frame :=
  match placing q with
  | .room q => q ++ [f]
  | .summaryDropped q => q ++ [f]
  | .lost => q

theorem queue_modPort (s : State) (p q : PortIx) (f : StationPort → StationPort) :
    (s.modPort p f).sp[q].queue = if p = q then (f s.sp[q]).queue else s.sp[q].queue := by
  simp only [State.modPort_sp, Fin.getElem_fin, getElem_upd, Fin.val_inj]
  split
  · next h => subst h; rfl
  · rfl

theorem queue_place (p q : PortIx) (f : Frame) (s : State) :
    (place p f s).sp[q].queue = if p = q then placedIn f s.sp[q].queue else s.sp[q].queue := by
  have pended (u : State) : (pendSummary p u).sp = u.sp := by
    unfold pendSummary
    split <;> rfl
  unfold place placedIn
  split
  · next h => rw [queue_modPort]; split <;> [(next hp => subst hp; rw [h]); rfl]
  · next h => rw [pended, queue_modPort]; split <;> [(next hp => subst hp; rw [h]); rfl]
  · next h => split <;> [(next hp => subst hp; rw [h]); rfl]

/-- A chain of placings of frames of a kind. -/
inductive Joined (P : Frame → Prop) : List Frame → List Frame → Prop where
  | refl (q : List Frame) : Joined P q q
  | tail {q r : List Frame} {f : Frame} (h : Joined P q r) (hf : P f) : Joined P q (placedIn f r)

theorem Joined.trans {P : Frame → Prop} {q r u : List Frame} (h : Joined P q r) (g : Joined P r u) : Joined P q u := by
  induction g with
  | refl => exact h
  | tail _ hf ih => exact ih.tail hf

theorem Joined.mono {P Q : Frame → Prop} (hPQ : ∀ f, P f → Q f) {q r : List Frame} (h : Joined P q r) : Joined Q q r := by
  induction h with
  | refl => exact .refl _
  | tail _ hf ih => exact ih.tail (hPQ _ hf)

/-- The queues of the ports took frames of a kind alone. -/
structure QueuesJoined (P : Frame → Prop) (s t : State) : Prop where
  port : ∀ p : PortIx, Joined P s.sp[p].queue t.sp[p].queue

section
variable {P : Frame → Prop} {s t u : State}

theorem QueuesJoined.refl (s : State) : QueuesJoined P s s := ⟨fun _ => .refl _⟩
theorem QueuesJoined.trans (h : QueuesJoined P s t) (g : QueuesJoined P t u) : QueuesJoined P s u :=
  ⟨fun p => (h.port p).trans (g.port p)⟩
theorem QueuesJoined.mono {Q : Frame → Prop} (hPQ : ∀ f, P f → Q f) (h : QueuesJoined P s t) : QueuesJoined Q s t :=
  ⟨fun p => (h.port p).mono hPQ⟩
theorem QueuesJoined.of_sp (h : t.sp = s.sp) : QueuesJoined P s t :=
  ⟨fun p => by rw [h]; exact .refl _⟩
theorem QueuesJoined.place (p : PortIx) {f : Frame} (hf : P f) (s : State) : QueuesJoined P s (place p f s) where
  port q := by
    rw [queue_place]
    split
    · exact (Joined.refl _).tail hf
    · exact .refl _
theorem QueuesJoined.forEach {ι : Type} {act : ι → State → State} (h : ∀ i s, QueuesJoined P s (act i s)) (l : List ι)
    (s : State) : QueuesJoined P s (forEach l act s) := forEach_rel .refl .trans h l s
theorem QueuesJoined.ite {c : Prop} [Decidable c] {s a b : State} (h : QueuesJoined P s a) (g : QueuesJoined P s b) :
    QueuesJoined P s (if c then a else b) := by
  split
  · exact h
  · exact g

end

theorem length_placedIn_le {q : List Frame} (f : Frame) (h : q.length ≤ queueSize) : (placedIn f q).length ≤ queueSize := by
  have dropped {P : Frame → Bool} (hany : q.any P = true) : (q.eraseP P ++ [f]).length ≤ queueSize := by
    obtain ⟨a, ha, hPa⟩ := List.any_eq_true.mp hany
    have hpos := List.length_pos_of_mem ha
    rw [List.length_append, List.length_eraseP_of_mem ha hPa]
    simp only [List.length_singleton]
    omega
  unfold placedIn placing
  split
  · next heq =>
    split at heq
    · next hroom => injection heq with heq; subst heq; simp only [List.length_append, List.length_singleton]; exact hroom
    split at heq
    · cases heq
    split at heq
    · next hany => injection heq with heq; subst heq; exact dropped hany
    · cases heq
  · next heq =>
    split at heq
    · cases heq
    split at heq
    · next hany => injection heq with heq; subst heq; exact dropped hany
    split at heq <;> cases heq
  · exact h

theorem Joined.length_le {P : Frame → Prop} {q r : List Frame} (h : Joined P q r) (hq : q.length ≤ queueSize) :
    r.length ≤ queueSize := by
  induction h with
  | refl => exact hq
  | tail _ _ ih => exact length_placedIn_le _ ih

theorem queueLaw_of_joined {P : Frame → Prop} {s t : State} (h : QueuesJoined P s t) (hs : QueueLaw s) : QueueLaw t :=
  fun p => (h.port p).length_le (hs p)

/-! ### The alarm list places notices alone (R162) -/

/-- The frame is an ALARM_NOTICE. -/
abbrev IsNotice (f : Frame) : Prop := f.kind = .ALARM_NOTICE

section
variable (s : State) (k : AlarmKind) (x : Nat) (r : AlarmRecord)

theorem notify_joined (c : Change) : QueuesJoined IsNotice s (notify c r s) :=
  .forEach (fun _ u => .place (P := IsNotice) _ rfl u) _ s
theorem setRecords_joined (l : List AlarmRecord) : QueuesJoined IsNotice s (setRecords l s) := .of_sp rfl
theorem updateRecord_joined : QueuesJoined IsNotice s (updateRecord r s) :=
  (setRecords_joined s _).trans (notify_joined ..)
theorem createRecord_joined (st : AlarmState) : QueuesJoined IsNotice s (createRecord k x st s) :=
  (setRecords_joined s _).trans (notify_joined ..)
theorem reraise_joined : QueuesJoined IsNotice s (reraise r s) := .ite (updateRecord_joined ..) (.refl s)
theorem raiseListFull_joined : QueuesJoined IsNotice s (raiseListFull s) := by
  unfold raiseListFull
  split
  · exact reraise_joined ..
  · exact createRecord_joined ..
theorem loseRaise_joined : QueuesJoined IsNotice s (loseRaise s) :=
  (QueuesJoined.of_sp (s := s) (t := { s with al := { s.al with lost := satInc 65535 s.al.lost } }) rfl).trans
    (raiseListFull_joined _)
theorem raiseAlarm_joined : QueuesJoined IsNotice s (raiseAlarm k x s) := by
  unfold raiseAlarm
  split
  · exact reraise_joined ..
  · exact .ite (createRecord_joined ..) (loseRaise_joined s)
theorem raiseEvent_joined : QueuesJoined IsNotice s (raiseEvent k x s) := by
  unfold raiseEvent
  split
  · exact .ite (updateRecord_joined ..) (.refl s)
  · exact .ite (createRecord_joined ..) (loseRaise_joined s)
theorem onRemoval_joined : QueuesJoined IsNotice s (onRemoval r s) := by
  unfold onRemoval
  split
  · split
    · exact .of_sp rfl
    · exact .refl s
  · exact .refl s
theorem dropRecord_joined : QueuesJoined IsNotice s (dropRecord r s) :=
  ((setRecords_joined s _).trans (notify_joined ..)).trans (onRemoval_joined ..)
theorem clearRecord_joined : QueuesJoined IsNotice s (clearRecord r s) := by
  unfold clearRecord
  split
  · exact updateRecord_joined ..
  · exact dropRecord_joined ..
  · exact .refl s
theorem testListFull_joined : QueuesJoined IsNotice s (testListFull s) := by
  unfold testListFull
  split
  · exact .ite (clearRecord_joined ..) (.refl s)
  · exact .refl s
theorem removeRecord_joined : QueuesJoined IsNotice s (removeRecord r s) :=
  (dropRecord_joined s r).trans (testListFull_joined _)
theorem clearAlarm_joined : QueuesJoined IsNotice s (clearAlarm k x s) := by
  unfold clearAlarm
  split
  · exact .ite (removeRecord_joined ..) (clearRecord_joined ..)
  · exact .refl s
theorem ackRecord_joined : QueuesJoined IsNotice s (ackRecord r s) := by
  unfold ackRecord
  split
  · exact updateRecord_joined ..
  · exact .refl s
  · exact removeRecord_joined ..
theorem ackNamed_joined : QueuesJoined IsNotice s (ackNamed k x s) := by
  unfold ackNamed
  split
  · exact ackRecord_joined ..
  · exact .refl s

end

/-! ### The order queue (R139) -/

theorem map_door_queued (q : List PendingOrder) (o : PendingOrder) :
    (queued q o).map PendingOrder.door =
      if o.door ∈ q.map PendingOrder.door then q.map PendingOrder.door else q.map PendingOrder.door ++ [o.door] := by
  have hany : q.any (fun x => decide (x.door = o.door)) = true ↔ o.door ∈ q.map PendingOrder.door := by
    simp [List.any_eq_true, List.mem_map]
  unfold queued
  by_cases h : o.door ∈ q.map PendingOrder.door
  · rw [if_pos (hany.mpr h), if_pos h, List.map_map]
    refine List.map_congr_left fun x _ => ?_
    simp only [Function.comp]
    split
    · next hx => exact hx.symm
    · rfl
  · rw [if_neg (mt hany.mp h), if_neg h, List.map_append]
    rfl

theorem orderLaw_queueOrder {d : DoorIx} {k : OrderKind} {s : State} (h : OrderLaw s) : OrderLaw (queueOrder d k s) := by
  show ((queued s.rc.orders ⟨d, k⟩).map PendingOrder.door).Nodup
  rw [map_door_queued]
  split
  · exact h
  · next hd => exact List.Nodup.append h (List.nodup_singleton _) (by simpa using hd)

theorem orderLaw_congr {s t : State} (h : t.rc.orders = s.rc.orders) : OrderLaw s → OrderLaw t := by
  unfold OrderLaw; rw [h]; exact id

theorem orderLaw_of_sublist {s t : State} (h : t.rc.orders.Sublist s.rc.orders) : OrderLaw s → OrderLaw t :=
  fun hs => (h.map PendingOrder.door).nodup hs

theorem queueLaw_joinPart {p : PortIx} {s : State} (h : QueueLaw s) : QueueLaw (joinPart p s) := by
  unfold joinPart
  split
  · split
    · next hroom =>
      intro q
      rw [queue_modPort]
      split
      · next hq => subst hq; simpa using hroom
      · exact h q
    · exact h
  · exact h

theorem sendOrders_orders_sublist (s : State) : (sendOrders s).rc.orders.Sublist s.rc.orders := by
  have sent (u : State) : (sendHeadOrder u).rc.orders.Sublist u.rc.orders := by
    unfold sendHeadOrder
    split
    · next h => rw [h]; exact List.sublist_cons_self ..
    · exact List.Sublist.refl _
  exact forEach_rel (R := fun s t => t.rc.orders.Sublist s.rc.orders) (fun _ => .refl _) (fun h g => g.trans h)
    (fun _ => sent) s.rc.orders s

theorem sendOrders_sp (s : State) : (sendOrders s).sp = s.sp := by
  have sent (u : State) : (sendHeadOrder u).sp = u.sp := by
    unfold sendHeadOrder
    split <;> rfl
  exact forEach_rel (R := fun s t => t.sp = s.sp) (fun _ => rfl) (fun h g => g.trans h) (fun _ => sent) s.rc.orders s

theorem setFilter_orders (s : State) (a : Nat) (x : Option Byte) : (s.setFilter a x).rc.orders = s.rc.orders := by
  unfold State.setFilter
  split <;> rfl

theorem setFilter_sp (s : State) (a : Nat) (x : Option Byte) : (s.setFilter a x).sp = s.sp := by
  unfold State.setFilter
  split <;> rfl

theorem resetDoor_sp (d : DoorIx) (old new : Nat) (s : State) : (resetDoor d old new s).sp = s.sp := by
  have ended (u : State) : (endPollOf d u).sp = u.sp := by unfold endPollOf; split <;> rfl
  unfold resetDoor
  unfold unqueueOrder
  refine (ended _).trans ?_
  exact (setFilter_sp ..).trans (setFilter_sp ..)

theorem resetDoor_orders (d : DoorIx) (old new : Nat) (s : State) :
    (resetDoor d old new s).rc.orders = s.rc.orders.filter fun x => decide (x.door ≠ d) := by
  have ended (u : State) : (endPollOf d u).rc.orders = u.rc.orders := by unfold endPollOf; split <;> rfl
  unfold resetDoor
  unfold unqueueOrder
  refine congrArg (List.filter _) ((ended _).trans ?_)
  exact ((setFilter_orders ..).trans (setFilter_orders ..))

theorem resetDoor_orders_sublist (d : DoorIx) (old new : Nat) (s : State) :
    (resetDoor d old new s).rc.orders.Sublist s.rc.orders := by
  rw [resetDoor_orders]
  exact List.filter_sublist

/-- No micro step gives a door a second order or a queue more frames than it holds. -/
theorem micro_keeps_queues (s t : State) (h : Micro s t) : OrderLaw s ∧ QueueLaw s → OrderLaw t ∧ QueueLaw t := by
  rintro ⟨horder, hqueue⟩
  have alarmed {u : State} (hf : AlarmFrame s u) (hj : QueuesJoined IsNotice s u) : OrderLaw u ∧ QueueLaw u :=
    ⟨orderLaw_congr (by rw [hf.rc]) horder, queueLaw_of_joined hj hqueue⟩
  have same {u : State} (horders : u.rc.orders = s.rc.orders) (hsp : u.sp = s.sp) : OrderLaw u ∧ QueueLaw u :=
    ⟨orderLaw_congr horders horder, fun p => by rw [hsp]; exact hqueue p⟩
  cases h with
  | calm h => exact ⟨orderLaw_of_sublist h.orders horder, fun p => (h.queues p).trans (hqueue p)⟩
  | place p f =>
    exact ⟨orderLaw_congr (by rw [(PlaceFrame.place p f s).rc]) horder,
      queueLaw_of_joined (.place p (P := fun _ => True) trivial s) hqueue⟩
  | joinPart p =>
    refine ⟨orderLaw_congr ?_ horder, queueLaw_joinPart hqueue⟩
    unfold Machine.joinPart
    split <;> [(split <;> rfl); rfl]
  | queueOrder d k => exact ⟨orderLaw_queueOrder horder, hqueue⟩
  | raise k x => exact alarmed (.raiseAlarm ..) (raiseAlarm_joined ..)
  | event x => exact alarmed (.raiseEvent ..) (raiseEvent_joined ..)
  | clear k x => exact alarmed (.clearAlarm ..) (clearAlarm_joined ..)
  | ack k x => exact alarmed (.ackNamed ..) (ackNamed_joined ..)
  | entry | passage | mode | poll | miss | writeHpu | writeGroup | writePermit | writeSystem | serve => exact same rfl rfl
  | run _ h => exact ⟨orderLaw_of_sublist h.orders horder, fun p => (h.queues p).trans (hqueue p)⟩
  | writeDoor d c =>
    unfold doorSet
    simp only
    split
    · refine ⟨orderLaw_of_sublist (resetDoor_orders_sublist ..) horder, fun p => ?_⟩
      rw [resetDoor_sp]
      exact hqueue p
    · exact same rfl rfl
  | retire =>
    exact ⟨orderLaw_of_sublist (sendOrders_orders_sublist (setPart .UNCONFIGURED (ringQuiet s))) horder,
      fun p => by
        show (sendOrders (setPart .UNCONFIGURED (ringQuiet s))).sp[p].queue.length ≤ _
        rw [sendOrders_sp]; exact hqueue p⟩
  | reset => exact ⟨List.nodup_nil, fun p => by simp [resetAsserted, queueSize]⟩
  | cold t x => exact ⟨List.nodup_nil, fun p => by simp [coldState, recomputeReleased, writeComps, StationPort.cold, queueSize]⟩
  | warm => exact ⟨List.nodup_nil, fun p => by
      simp [warmState, recomputeReleased, writeComps, StationPort.warm, StationPort.cold, queueSize]⟩

/-- Settles O4. -/
theorem queuesKept : Obligations.QueuesKept :=
  keptByStep_of_micro micro_keeps_queues (fun _ => id) (fun _ _ => id)

end Sys2Proof.Proofs
end

section
/-! ## The alarm list (R153 to R161)

What each operation leaves of the list, one equation each, and the law of the list. -/
namespace Sys2Proof.Proofs
open Sys2Proof Sys2Proof.Machine

set_option Elab.async false

/-! ### The list after each operation -/

/-- A list as it is written: the ALARM line follows (R161). -/
def Al.write (a : Al) (l : List AlarmRecord) : Al := { a with records := l, line := decide (0 < unackCount l) }

/-- A list with the record of a pair replaced. -/
def replaced (r : AlarmRecord) (l : List AlarmRecord) : List AlarmRecord :=
  l.map fun q => if q.isFor r.kind r.subject then r else q

/-- A list without the record of a pair. -/
def without (k : AlarmKind) (x : Nat) (l : List AlarmRecord) : List AlarmRecord := l.filter fun q => !q.isFor k x

section
variable (r : AlarmRecord) (s : State)

theorem notify_al (c : Change) : (notify c r s).al = s.al := (PlaceFrame.notify c r s).al

theorem updateRecord_al : (updateRecord r s).al = Al.write s.al (replaced r s.al.records) := by
  unfold updateRecord; rw [notify_al]; rfl

theorem createRecord_al (k : AlarmKind) (x : Nat) (st : AlarmState) :
    (createRecord k x st s).al = Al.write s.al (inserted s.al.records ⟨k, x, st, s.seconds, 1⟩) := by
  unfold createRecord; rw [notify_al]; rfl

theorem onRemoval_al : (onRemoval r s).al = s.al := by
  unfold onRemoval
  split
  · split <;> rfl
  · rfl

theorem dropRecord_al : (dropRecord r s).al = Al.write s.al (without r.kind r.subject s.al.records) := by
  unfold dropRecord; rw [onRemoval_al, notify_al]; rfl

end

theorem isFor_iff {k : AlarmKind} {x : Nat} {r : AlarmRecord} : r.isFor k x = true ↔ r.pair = (k, x) := by
  simp [AlarmRecord.isFor, AlarmRecord.pair]

theorem findRecord_some {k : AlarmKind} {x : Nat} {s : State} {r : AlarmRecord} (h : findRecord k x s = some r) :
    r ∈ s.al.records ∧ r.kind = k ∧ r.subject = x := by
  have hfor := isFor_iff.mp (List.find?_some h)
  exact ⟨List.mem_of_find?_eq_some h, congrArg Prod.fst hfor, congrArg Prod.snd hfor⟩

theorem findRecord_none {k : AlarmKind} {x : Nat} {s : State} :
    findRecord k x s = none ↔ ∀ r ∈ s.al.records, r.pair ≠ (k, x) := by
  simp only [findRecord, List.find?_eq_none, isFor_iff, ne_eq]

/-! ### The law of the list -/

/-- R153, R156, R157 of a list of records, with LIST_FULL last said of every two records. -/
structure ListLaw (l : List AlarmRecord) : Prop where
  pairs : (l.map AlarmRecord.pair).Nodup
  room : otherCount l ≤ otherPlaces
  fullLast : l.Pairwise fun a _ => a.kind ≠ .LIST_FULL
  fullSubject : ∀ r ∈ l, r.kind = .LIST_FULL → r.subject = noSubject
  events : ∀ r ∈ l, r.kind = .PRECONDITION_BYPASSED → r.state = .CLEARED_UNACK

theorem forall_mem_dropLast_iff_pairwise {α : Type} {P : α → Prop} (l : List α) :
    (∀ a ∈ l.dropLast, P a) ↔ l.Pairwise fun a _ => P a := by
  induction l with
  | nil => simp
  | cons a rest ih =>
    cases rest with
    | nil => simp
    | cons b rest =>
      have hhead : (∀ x ∈ b :: rest, P a) ↔ P a := ⟨fun h => h b (List.mem_cons_self ..), fun h _ _ => h⟩
      rw [List.dropLast_cons_cons, List.forall_mem_cons, ih, List.pairwise_cons (a := a), hhead]

theorem alarmLaw_iff (s : State) : AlarmLaw s ↔ ListLaw s.al.records := by
  unfold AlarmLaw
  rw [forall_mem_dropLast_iff_pairwise (P := fun r : AlarmRecord => r.kind ≠ .LIST_FULL)]
  exact ⟨fun ⟨a, b, c, d, e⟩ => ⟨a, b, c, d, e⟩, fun ⟨a, b, c, d, e⟩ => ⟨a, b, c, d, e⟩⟩

theorem ListLaw.nil : ListLaw [] := ⟨by simp, by simp [otherCount], by simp, by simp, by simp⟩

theorem ListLaw.sublist {l m : List AlarmRecord} (h : ListLaw l) (hm : m.Sublist l) : ListLaw m where
  pairs := (hm.map _).nodup h.pairs
  room := ((hm.filter _).length_le).trans h.room
  fullLast := h.fullLast.sublist hm
  fullSubject r hr := h.fullSubject r (hm.subset hr)
  events r hr := h.events r (hm.subset hr)

/-- Two records of a lawful list with one pair are one record. -/
theorem ListLaw.eq_of_pair {l : List AlarmRecord} (h : ListLaw l) {q r : AlarmRecord} (hq : q ∈ l) (hr : r ∈ l)
    (hpair : q.pair = r.pair) : q = r := List.inj_on_of_nodup_map h.pairs hq hr hpair

theorem map_pair_replaced (r : AlarmRecord) (l : List AlarmRecord) :
    (replaced r l).map AlarmRecord.pair = l.map AlarmRecord.pair := by
  unfold replaced
  rw [List.map_map]
  refine List.map_congr_left fun q _ => ?_
  simp only [Function.comp]
  split
  · next h => exact (isFor_iff.mp h).symm
  · rfl

theorem map_kind_eq (l : List AlarmRecord) : l.map AlarmRecord.kind = (l.map AlarmRecord.pair).map Prod.fst := by
  rw [List.map_map]; rfl

theorem map_kind_replaced (r : AlarmRecord) (l : List AlarmRecord) :
    (replaced r l).map AlarmRecord.kind = l.map AlarmRecord.kind := by
  rw [map_kind_eq, map_kind_eq, map_pair_replaced]

theorem otherCount_eq_countP_kind (l : List AlarmRecord) :
    otherCount l = (l.map AlarmRecord.kind).countP fun k => decide (k ≠ .LIST_FULL) := by
  unfold otherCount
  rw [List.countP_map, List.countP_eq_length_filter]
  rfl

theorem mem_replaced {r q : AlarmRecord} {l : List AlarmRecord} (h : q ∈ replaced r l) :
    (q = r ∧ ∃ x ∈ l, x.pair = r.pair) ∨ (q ∈ l ∧ q.pair ≠ r.pair) := by
  obtain ⟨x, hx, rfl⟩ := List.mem_map.mp h
  split
  · next hfor => exact .inl ⟨rfl, x, hx, isFor_iff.mp hfor⟩
  · next hfor => exact .inr ⟨hx, mt isFor_iff.mpr hfor⟩

theorem ListLaw.replaced {l : List AlarmRecord} (h : ListLaw l) {r : AlarmRecord}
    (hevent : r.kind = .PRECONDITION_BYPASSED → r.state = .CLEARED_UNACK) : ListLaw (replaced r l) where
  pairs := by rw [map_pair_replaced]; exact h.pairs
  room := by rw [otherCount_eq_countP_kind, map_kind_replaced, ← otherCount_eq_countP_kind]; exact h.room
  fullLast := by
    have hkinds : ((Proofs.replaced r l).map AlarmRecord.kind).Pairwise fun a _ => a ≠ .LIST_FULL := by
      rw [map_kind_replaced, List.pairwise_map]; exact h.fullLast
    exact List.pairwise_map.mp hkinds
  fullSubject q hq hkind := by
    obtain ⟨rfl, x, hx, hpair⟩ | ⟨hq, -⟩ := mem_replaced hq
    · exact (congrArg Prod.snd hpair).symm.trans (h.fullSubject x hx ((congrArg Prod.fst hpair).trans hkind))
    · exact h.fullSubject q hq hkind
  events q hq hkind := by
    obtain ⟨rfl, -⟩ | ⟨hq, -⟩ := mem_replaced hq
    · exact hevent hkind
    · exact h.events q hq hkind

theorem inserted_perm (l : List AlarmRecord) (r : AlarmRecord) : (inserted l r).Perm (r :: l) := by
  have split : (l.filter (fun q => decide (q.kind ≠ .LIST_FULL)) ++ l.filter (fun q => decide (q.kind = .LIST_FULL))).Perm l := by
    have := List.filter_append_perm (fun q : AlarmRecord => decide (q.kind ≠ .LIST_FULL)) l
    simpa using this
  unfold inserted
  split
  · exact List.perm_append_singleton r l
  · rw [List.append_assoc, List.singleton_append]
    exact List.perm_middle.trans (split.cons r)

theorem mem_inserted {l : List AlarmRecord} {q r : AlarmRecord} : q ∈ inserted l r ↔ q = r ∨ q ∈ l := by
  rw [(inserted_perm l r).mem_iff, List.mem_cons]

theorem otherCount_inserted (l : List AlarmRecord) (r : AlarmRecord) :
    otherCount (inserted l r) = otherCount l + if r.kind = .LIST_FULL then 0 else 1 := by
  unfold otherCount
  rw [((inserted_perm l r).filter _).length_eq]
  by_cases hk : r.kind = .LIST_FULL
  · rw [List.filter_cons_of_neg (by simpa using hk), if_pos hk]; rfl
  · rw [List.filter_cons_of_pos (by simpa using hk), if_neg hk]; rfl

/-- A list holds at most one record of kind LIST_FULL. -/
theorem ListLaw.full_eq {l : List AlarmRecord} (h : ListLaw l) {q r : AlarmRecord} (hq : q ∈ l) (hr : r ∈ l)
    (hqk : q.kind = .LIST_FULL) (hrk : r.kind = .LIST_FULL) : q = r :=
  h.eq_of_pair hq hr (Prod.ext (hqk.trans hrk.symm) ((h.fullSubject q hq hqk).trans (h.fullSubject r hr hrk).symm))

theorem ListLaw.inserted {l : List AlarmRecord} (h : ListLaw l) {r : AlarmRecord} (hnew : ∀ q ∈ l, q.pair ≠ r.pair)
    (hroom : r.kind ≠ .LIST_FULL → otherCount l < otherPlaces) (hsubject : r.kind = .LIST_FULL → r.subject = noSubject)
    (hevent : r.kind = .PRECONDITION_BYPASSED → r.state = .CLEARED_UNACK) : ListLaw (inserted l r) where
  pairs := by
    rw [((inserted_perm l r).map _).nodup_iff, List.map_cons, List.nodup_cons]
    exact ⟨fun hmem => by obtain ⟨q, hq, hpair⟩ := List.mem_map.mp hmem; exact hnew q hq hpair, h.pairs⟩
  room := by
    rw [otherCount_inserted]
    split
    · exact h.room
    · next hk => exact hroom hk
  fullLast := by
    unfold Machine.inserted
    split
    · next hk =>
      refine List.pairwise_append.mpr ⟨h.fullLast, List.pairwise_singleton .., fun q hq _ _ hqk => ?_⟩
      exact hnew q hq (Prod.ext (hqk.trans hk.symm) ((h.fullSubject q hq hqk).trans (hsubject hk).symm))
    · next hk =>
      refine List.pairwise_append.mpr ⟨?_, ?_, fun q hq _ _ => ?_⟩
      · refine List.pairwise_append.mpr ⟨?_, List.pairwise_singleton .., fun q hq _ _ => ?_⟩
        · exact h.fullLast.sublist List.filter_sublist
        · exact of_decide_eq_true (List.mem_filter.mp hq).2
      · exact h.fullLast.sublist List.filter_sublist
      · obtain hq | hq := List.mem_append.mp hq
        · exact of_decide_eq_true (List.mem_filter.mp hq).2
        · rw [List.mem_singleton.mp hq]; exact hk
  fullSubject q hq hk := by
    obtain rfl | hq := mem_inserted.mp hq
    · exact hsubject hk
    · exact h.fullSubject q hq hk
  events q hq hk := by
    obtain rfl | hq := mem_inserted.mp hq
    · exact hevent hk
    · exact h.events q hq hk

/-! ### The law is kept by the operations of AL -/

/-- The list is lawful, and outside RESET the line stands at its level. -/
def AlLaw (s : State) : Prop := AlarmLaw s ∧ AlarmLineLaw s

theorem alLaw_write {s t : State} {l : List AlarmRecord} (hal : t.al = Al.write s.al l) (h : ListLaw l) : AlLaw t := by
  refine ⟨(alarmLaw_iff t).mpr ?_, fun _ => ?_⟩ <;> rw [hal]
  · exact h
  · rfl

theorem alLaw_congr {s t : State} (hrecords : t.al.records = s.al.records) (hline : t.al.line = s.al.line)
    (hreset : t.pins.reset = s.pins.reset) (h : AlLaw s) : AlLaw t := by
  refine ⟨(alarmLaw_iff t).mpr ?_, fun hawake => ?_⟩
  · rw [hrecords]; exact (alarmLaw_iff s).mp h.1
  · rw [hline, hrecords]; exact h.2 (hreset.symm.trans hawake)

section
variable {s : State} {k : AlarmKind} {x : Nat} {r : AlarmRecord} (h : AlLaw s)
include h

theorem alLaw_updateRecord (hevent : r.kind = .PRECONDITION_BYPASSED → r.state = .CLEARED_UNACK) :
    AlLaw (updateRecord r s) :=
  alLaw_write (updateRecord_al r s) (((alarmLaw_iff s).mp h.1).replaced hevent)

theorem alLaw_reraise (hk : r.kind ≠ .PRECONDITION_BYPASSED) : AlLaw (reraise r s) := by
  unfold reraise
  split
  · exact alLaw_updateRecord h fun hkind => absurd hkind hk
  · exact h

theorem alLaw_createRecord {st : AlarmState} (hnew : findRecord k x s = none)
    (hroom : k ≠ .LIST_FULL → otherCount s.al.records < otherPlaces) (hsubject : k = .LIST_FULL → x = noSubject)
    (hevent : k = .PRECONDITION_BYPASSED → st = .CLEARED_UNACK) : AlLaw (createRecord k x st s) :=
  alLaw_write (createRecord_al s k x st)
    (((alarmLaw_iff s).mp h.1).inserted (findRecord_none.mp hnew) hroom hsubject hevent)

theorem alLaw_loseRaise : AlLaw (loseRaise s) := by
  have lost : AlLaw { s with al := { s.al with lost := satInc 65535 s.al.lost } } := alLaw_congr rfl rfl rfl h
  unfold loseRaise raiseListFull
  split
  · next r hr => exact alLaw_reraise lost (by rw [(findRecord_some hr).2.1]; decide)
  · next hr => exact alLaw_createRecord lost hr (fun hk => absurd rfl hk) (fun _ => rfl) (fun hk => by cases hk)

theorem alLaw_raiseAlarm (hfull : k ≠ .LIST_FULL) (hevent : k ≠ .PRECONDITION_BYPASSED) : AlLaw (raiseAlarm k x s) := by
  unfold raiseAlarm
  split
  · next r hr => exact alLaw_reraise h (by rw [(findRecord_some hr).2.1]; exact hevent)
  · next hr =>
    split
    · next hroom => exact alLaw_createRecord h hr (fun _ => hroom) (fun hk => absurd hk hfull) fun hk => absurd hk hevent
    · exact alLaw_loseRaise h

theorem alLaw_raiseEvent (hfull : k ≠ .LIST_FULL) : AlLaw (raiseEvent k x s) := by
  unfold raiseEvent
  split
  · split
    · next r hr hc => exact alLaw_updateRecord h fun _ => hc.1
    · exact h
  · next hr =>
    split
    · next hroom => exact alLaw_createRecord h hr (fun _ => hroom) (fun hk => absurd hk hfull) fun _ => rfl
    · exact alLaw_loseRaise h

theorem alLaw_dropRecord : AlLaw (dropRecord r s) :=
  alLaw_write (dropRecord_al r s) (((alarmLaw_iff s).mp h.1).sublist List.filter_sublist)

theorem alLaw_clearRecord : AlLaw (clearRecord r s) := by
  unfold clearRecord
  split
  · exact alLaw_updateRecord h fun _ => rfl
  · exact alLaw_dropRecord h
  · exact h

theorem alLaw_testListFull : AlLaw (testListFull s) := by
  unfold testListFull
  split
  · split
    · exact alLaw_clearRecord h
    · exact h
  · exact h

theorem alLaw_clearAlarm : AlLaw (clearAlarm k x s) := by
  unfold clearAlarm
  split
  · split
    · exact alLaw_testListFull (alLaw_dropRecord h)
    · exact alLaw_clearRecord h
  · exact h

theorem alLaw_ackNamed : AlLaw (ackNamed k x s) := by
  unfold ackNamed
  split
  · next r hr =>
    unfold ackRecord
    split
    · next hstate =>
      refine alLaw_updateRecord h fun hk => ?_
      have hcleared := ((alarmLaw_iff s).mp h.1).events r (findRecord_some hr).1 hk
      rw [hstate] at hcleared
      cases hcleared
    · exact h
    · exact alLaw_testListFull (alLaw_dropRecord h)
  · exact h

end

theorem resetDoor_al (d : DoorIx) (old new : Nat) (s : State) : (resetDoor d old new s).al = s.al := by
  have filtered (u : State) (a : Nat) (x : Option Byte) : (u.setFilter a x).al = u.al := by
    unfold State.setFilter
    split <;> rfl
  have ended (u : State) : (endPollOf d u).al = u.al := by unfold endPollOf; split <;> rfl
  exact (ended _).trans ((filtered ..).trans (filtered ..))

theorem resetDoor_pins (d : DoorIx) (old new : Nat) (s : State) : (resetDoor d old new s).pins = s.pins := by
  have filtered (u : State) (a : Nat) (x : Option Byte) : (u.setFilter a x).pins = u.pins := by
    unfold State.setFilter
    split <;> rfl
  have ended (u : State) : (endPollOf d u).pins = u.pins := by unfold endPollOf; split <;> rfl
  exact (ended _).trans ((filtered ..).trans (filtered ..))

theorem sendOrders_al (s : State) : (sendOrders s).al = s.al ∧ (sendOrders s).pins.reset = s.pins.reset := by
  have sent (u : State) : (sendHeadOrder u).al = u.al ∧ (sendHeadOrder u).pins.reset = u.pins.reset := by
    unfold sendHeadOrder
    split <;> exact ⟨rfl, rfl⟩
  exact forEach_rel (R := fun s t => t.al = s.al ∧ t.pins.reset = s.pins.reset) (fun _ => ⟨rfl, rfl⟩)
    (fun h g => ⟨g.1.trans h.1, g.2.trans h.2⟩) (fun _ => sent) s.rc.orders s

theorem micro_keeps_alarms (s t : State) (h : Micro s t) (hs : AlLaw s) : AlLaw t := by
  have cleared {u : State} (hal : u.al = ⟨[], u.al.lost, false⟩) : AlLaw u := by
    refine ⟨(alarmLaw_iff u).mpr ?_, fun _ => ?_⟩ <;> rw [hal]
    · exact .nil
    · rfl
  cases h with
  | calm h => exact alLaw_congr h.records h.alarmLine h.reset hs
  | run _ h => exact alLaw_congr h.records h.alarmLine h.reset hs
  | place p f =>
    have frame := PlaceFrame.place p f s
    exact alLaw_congr (by rw [frame.al]) (by rw [frame.al]) (by rw [frame.pins]) hs
  | joinPart p =>
    unfold joinPart
    split <;> [(split <;> exact alLaw_congr rfl rfl rfl hs); exact hs]
  | raise k x _ hfull hevent => exact alLaw_raiseAlarm hs hfull hevent
  | event x => exact alLaw_raiseEvent hs (by decide)
  | clear k x => exact alLaw_clearAlarm hs
  | ack k x => exact alLaw_ackNamed hs
  | queueOrder | entry | passage | mode | poll | miss | writeHpu | writeGroup | writePermit | writeSystem | serve =>
    exact alLaw_congr rfl rfl rfl hs
  | writeDoor d c =>
    unfold doorSet
    simp only
    split
    · exact alLaw_congr (by rw [resetDoor_al]; rfl) (by rw [resetDoor_al]; rfl) (by rw [resetDoor_pins]; rfl) hs
    · exact alLaw_congr rfl rfl rfl hs
  | retire =>
    obtain ⟨hal, hpins⟩ := sendOrders_al (setPart .UNCONFIGURED (ringQuiet s))
    exact alLaw_congr (congrArg Al.records hal) (congrArg Al.line hal) hpins hs
  | reset => exact ⟨hs.1, fun h => by cases h⟩
  | cold t x => exact cleared rfl
  | warm => exact cleared rfl

/-- Settles O5. -/
theorem alarmListKept : Obligations.AlarmListKept :=
  keptByStep_of_micro (law := AlLaw) micro_keeps_alarms (fun _ => id) (fun _ _ => id)

end Sys2Proof.Proofs
end

section
/-! ## The slow state (R105, R122, R151, R179, R184): what a command may write of it

`Writes` says which parts of the slow state a command may write, and `SlowFrame` that the others stand. -/
namespace Sys2Proof.Proofs
open Sys2Proof Sys2Proof.Machine

set_option Elab.async false

/-- Which parts of the slow state may be written. -/
structure Writes where
  tables : Bool := false
  image : Bool := false
  part : Bool := false
  mode : Bool := false
  seconds : Bool := false
  snap : Bool := false
  pin : Bool := false
  line : Bool := false
  shown : Bool := false

/-- What the indications are read from stands, and so do they. -/
structure Shown (s t : State) : Prop where
  doors : t.tables.doors = s.tables.doors := by rfl
  position : ∀ d : DoorIx, t.position d = s.position d := by
    intro d; unfold State.position; rfl
  comps : t.ib.comps = s.ib.comps := by rfl
  allClosed : t.ib.allClosed = s.ib.allClosed := by rfl
  reset : t.pins.reset = s.pins.reset := by rfl

/-- The slow state stands but for what may be written, and the commands waiting stand. -/
structure SlowFrame (w : Writes) (s t : State) : Prop where
  pending : t.pending = s.pending := by rfl
  tables : w.tables = false → t.tables = s.tables := by exact fun _ => rfl
  image : w.image = false → t.cfs.image = s.cfs.image := by exact fun _ => rfl
  part : w.part = false → t.cfs.part = s.cfs.part := by exact fun _ => rfl
  mode : w.mode = false → t.mc.mode = s.mc.mode := by exact fun _ => rfl
  seconds : w.seconds = false → t.seconds = s.seconds := by exact fun _ => rfl
  snap : w.snap = false → t.ib.snapNumber = s.ib.snapNumber := by exact fun _ => rfl
  pin : w.pin = false → t.pins.emClose = s.pins.emClose := by exact fun _ => rfl
  line : w.line = false → t.mc.line = s.mc.line := by exact fun _ => rfl
  shown : w.shown = false → Shown s t := by exact fun _ => {}

theorem Shown.trans {s t u : State} (h : Shown s t) (g : Shown t u) : Shown s u where
  doors := g.doors.trans h.doors
  position d := (g.position d).trans (h.position d)
  comps := g.comps.trans h.comps
  allClosed := g.allClosed.trans h.allClosed
  reset := g.reset.trans h.reset

theorem Shown.ofBlock {s t : State} (h : BlockFrame s t) : Shown s t where
  doors := by rw [h.tables]
  position d := by unfold State.position; rw [h.orders]
  comps := by rw [h.pacing]
  allClosed := by rw [h.pacing]
  reset := by rw [h.pins]

section
variable {w : Writes} {s t u : State}

theorem SlowFrame.refl (s : State) : SlowFrame w s s := {}

theorem SlowFrame.trans (h : SlowFrame w s t) (g : SlowFrame w t u) : SlowFrame w s u where
  pending := g.pending.trans h.pending
  tables hw := (g.tables hw).trans (h.tables hw)
  image hw := (g.image hw).trans (h.image hw)
  part hw := (g.part hw).trans (h.part hw)
  mode hw := (g.mode hw).trans (h.mode hw)
  seconds hw := (g.seconds hw).trans (h.seconds hw)
  snap hw := (g.snap hw).trans (h.snap hw)
  pin hw := (g.pin hw).trans (h.pin hw)
  line hw := (g.line hw).trans (h.line hw)
  shown hw := (h.shown hw).trans (g.shown hw)

theorem SlowFrame.forEach {ι : Type} {act : ι → State → State} (h : ∀ i s, SlowFrame w s (act i s)) (l : List ι)
    (s : State) : SlowFrame w s (forEach l act s) := forEach_rel .refl .trans h l s

theorem SlowFrame.ite {c : Prop} [Decidable c] {a b : State} (h : SlowFrame w s a) (g : SlowFrame w s b) :
    SlowFrame w s (if c then a else b) := by
  split
  · exact h
  · exact g

theorem SlowFrame.ofPresent (hw : w.shown = true) (h : PresentFrame s t) : SlowFrame w s t where
  pending := h.pending
  tables _ := h.tables
  image _ := by rw [h.cfs]
  part _ := by rw [h.cfs]
  mode _ := h.mode
  seconds _ := h.seconds
  snap _ := h.snapNumber
  pin _ := by rw [h.pins]
  line _ := h.line
  shown h := by rw [hw] at h; cases h

theorem SlowFrame.ofRun (h : RunFrame s t) : SlowFrame w s t where
  pending := h.pending
  tables _ := h.tables
  image _ := by rw [h.cfs]
  part _ := by rw [h.cfs]
  mode _ := h.mode
  seconds _ := h.seconds
  snap _ := by rw [h.pacing]
  pin _ := by rw [h.pins]
  line _ := h.line
  shown _ := .ofBlock h.toBlockFrame

theorem SlowFrame.ofAlarm (h : AlarmFrame s t) : SlowFrame w s t := .ofRun h.toRunFrame
theorem SlowFrame.ofPlace (h : PlaceFrame s t) : SlowFrame w s t := .ofAlarm h.toAlarmFrame

theorem SlowFrame.ofBlock (hw : w.mode = true) (h : BlockFrame s t) : SlowFrame w s t where
  pending := h.pending
  tables _ := h.tables
  image _ := by rw [h.cfs]
  part _ := by rw [h.cfs]
  mode hm := by rw [hw] at hm; cases hm
  seconds _ := h.seconds
  snap _ := by rw [h.pacing]
  pin _ := by rw [h.pins]
  line _ := h.line
  shown _ := .ofBlock h

end

/-! ### Ports and the ring -/

section
variable {w : Writes}

theorem SlowFrame.modPort (s : State) (p : PortIx) (f : StationPort → StationPort) : SlowFrame w s (s.modPort p f) := {}
theorem SlowFrame.modReported (hw : w.shown = true) (s : State) (d : DoorIx) (f : Reported → Reported) :
    SlowFrame w s (s.modReported d f) := { shown := fun h => by rw [hw] at h; cases h }
theorem SlowFrame.modHpu (s : State) (h : HpuIx) (f : HpuReported → HpuReported) : SlowFrame w s (s.modHpu h f) := {}
theorem SlowFrame.zeroOas (s : State) (d : DoorIx) : SlowFrame w s (s.zeroOas d) := {}
theorem SlowFrame.setFilter (s : State) (a : Nat) (x : Option Byte) : SlowFrame w s (s.setFilter a x) := by
  unfold State.setFilter
  split <;> exact {}
theorem SlowFrame.setPosition (hw : w.shown = true) (s : State) (d : DoorIx) (x : Position) :
    SlowFrame w s (s.setPosition d x) := by
  unfold State.setPosition
  simp only
  split <;> exact { shown := fun h => by rw [hw] at h; cases h }
theorem SlowFrame.modSide (p : RingPort) (f : RingSide → RingSide) (s : State) : SlowFrame w s (modSide p f s) := by
  cases p <;> exact {}
theorem SlowFrame.answerDone (p : PortIx) (kind : Nat) (c : Bool) (data : List Byte) (s : State) :
    SlowFrame w s (answerDone p kind c data s) := .ofPlace (.place ..)
theorem SlowFrame.refuseWith (p : PortIx) (kind : Nat) (code : ResultCode) (c : Bool) (data : List Byte) (s : State) :
    SlowFrame w s (refuseWith p kind code c data s) := (SlowFrame.modPort s p _).trans (.ofPlace (.place ..))
theorem SlowFrame.refuse (p : PortIx) (kind : Nat) (code : ResultCode) (s : State) : SlowFrame w s (refuse p kind code s) :=
  .refuseWith ..
theorem SlowFrame.ringSend (dest kind : Byte) (payload : List Byte) (s : State) :
    SlowFrame w s (ringSend dest kind payload s) := {}
theorem SlowFrame.ringQuiet (s : State) : SlowFrame w s (ringQuiet s) := {}
theorem SlowFrame.endPoll (s : State) : SlowFrame w s (endPoll s) := {}
theorem SlowFrame.setLoop (x : Option LoopCheck) (s : State) : SlowFrame w s (setLoop x s) := {}

theorem SlowFrame.filtered (p : RingPort) (src seq : Byte) {take : State → State} (h : ∀ u, SlowFrame w u (take u))
    (s : State) : SlowFrame w s (filtered p src seq take s) := by
  have second : SlowFrame w s (secondCopy p s) := (SlowFrame.modSide p _ s).trans {}
  exact .ite second (((SlowFrame.setFilter ..).trans (.modSide ..)).trans (h _))

theorem SlowFrame.heardFrom (hw : w.shown = true) (d : DoorIx) (s : State) : SlowFrame w s (heardFrom d s) :=
  (SlowFrame.modReported hw ..).trans (.ofAlarm (.clearDoor ..))

theorem SlowFrame.takeReport (hw : w.shown = true) (d : DoorIx) (r : ReportBits) (s : State) : SlowFrame w s (takeReport d r s) :=
  (((SlowFrame.heardFrom hw d s).trans (.modReported hw ..)).trans (.setPosition hw ..)).trans
    (.ite (.ofAlarm (.raiseDoor ..)) (.ofAlarm (.clearDoor ..)))

theorem SlowFrame.takeEvent (hw : w.shown = true) (d : DoorIx) (x : HandleCode) (low fault : Bool) (s : State) :
    SlowFrame w s (takeEvent d x low fault s) :=
  ((SlowFrame.heardFrom hw d s).trans (.modReported hw ..)).trans
    (.ite ((SlowFrame.setPosition hw ..).trans (.ofAlarm (.raiseDoor ..))) (.refl _))

theorem SlowFrame.reportArrives (hw : w.shown = true) (p : RingPort) (src seq : Byte) (r : ReportBits) (s : State) :
    SlowFrame w s (reportArrives p src seq r s) := by
  unfold Machine.reportArrives
  split
  · exact .ite (.filtered _ _ _ (fun u => ((SlowFrame.endPoll u).trans (.takeReport hw ..)).trans (.ofPresent hw (.present ..))) s)
      (.modSide ..)
  · exact .modSide ..

theorem SlowFrame.eventArrives (hw : w.shown = true) (p : RingPort) (src seq : Byte) (x : HandleCode) (low fault : Bool) (s : State) :
    SlowFrame w s (eventArrives p src seq x low fault s) := by
  unfold Machine.eventArrives
  split
  · exact .filtered _ _ _ (fun u => (SlowFrame.takeEvent hw ..).trans (.ofPresent hw (.present ..))) s
  · exact .modSide ..

theorem SlowFrame.recomputeE (h : HpuIx) (s : State) : SlowFrame w s (recomputeE h s) :=
  .ofRun (ScheduleFrame.recomputeE h s).toRunFrame

theorem AlarmFrame.hpuAlarms (h : HpuIx) (st : HpuCode) (s : State) : AlarmFrame s (hpuAlarms h st s) := by
  unfold Machine.hpuAlarms
  split
  · split
    · exact (AlarmFrame.raiseAlarm ..).trans (.clearAlarm ..)
    · exact (AlarmFrame.clearAlarm ..).trans (.clearAlarm ..)
  · exact .refl s

theorem SlowFrame.hpuReportArrives (p : RingPort) (src seq : Byte) (st : HpuCode) (x : Nat) (s : State) :
    SlowFrame w s (hpuReportArrives p src seq st x s) := by
  unfold Machine.hpuReportArrives
  split
  · exact .filtered _ _ _ (fun u => ((SlowFrame.modHpu ..).trans (.ofAlarm (AlarmFrame.hpuAlarms ..))).trans (.recomputeE ..)) s
  · exact .modSide ..

theorem SlowFrame.startLoop (s : State) : SlowFrame w s (startLoop s) := by
  unfold Machine.startLoop
  split
  · exact .refl s
  · exact (SlowFrame.setLoop ..).trans (.ringSend ..)

theorem SlowFrame.loopArrives (p : RingPort) (seq : Byte) (s : State) : SlowFrame w s (loopArrives p seq s) := by
  have complete (u : State) : SlowFrame w u (loopComplete u) :=
    SlowFrame.trans (t := { u with rc := { u.rc with loop := none, incomplete := 0 } }) {} (.ofAlarm (.clearAlarm ..))
  unfold Machine.loopArrives
  split
  · exact (SlowFrame.modSide ..).trans (.ite (complete _) (.setLoop ..))
  · exact .modSide ..

theorem SlowFrame.loopTimerExpires (s : State) : SlowFrame w s (loopTimerExpires s) := by
  have incomplete (u : State) : SlowFrame w u (loopIncomplete u) :=
    SlowFrame.trans (t := { u with rc := { u.rc with loop := none, incomplete := satInc 2 u.rc.incomplete, loopMisses := count16 u.rc.loopMisses } })
      {} (.ite (.ofAlarm (.raiseAlarm ..)) (.refl _))
  unfold Machine.loopTimerExpires
  split
  · exact .ite (incomplete s) (.refl s)
  · exact .refl s

theorem SlowFrame.loopIntervalExpires (s : State) : SlowFrame w s (loopIntervalExpires s) := by
  have restarted (u : State) : SlowFrame w u { u with rc := { u.rc with interval := 0 } } := {}
  exact .ite (((SlowFrame.ringQuiet s).trans (.startLoop _)).trans (restarted _)) (.refl s)

theorem SlowFrame.sendHeadOrder (s : State) : SlowFrame w s (sendHeadOrder s) := by
  unfold Machine.sendHeadOrder
  split <;> exact {}

theorem SlowFrame.sendPoll (d : DoorIx) (s : State) : SlowFrame w s (sendPoll d s) := {}

theorem SlowFrame.pollNext (s : State) : SlowFrame w s (pollNext s) := by
  unfold Machine.pollNext
  split
  · exact .sendPoll ..
  · unfold endCycle
    split
    · exact (SlowFrame.startLoop s).trans (.sendPoll ..)
    · exact .startLoop s

theorem SlowFrame.startPolling (s : State) : SlowFrame w s (startPolling s) := by
  unfold Machine.startPolling
  split
  · exact .sendPoll ..
  · exact .refl s

theorem SlowFrame.missPoll (hw : w.shown = true) (d : DoorIx) (s : State) : SlowFrame w s (missPoll d s) :=
  ((SlowFrame.endPoll s).trans (.modReported hw ..)).trans
    (.ite ((((SlowFrame.modReported hw ..).trans (.setPosition hw ..)).trans (.ofAlarm (.raiseDoor ..))).trans
      (.ofPresent hw (.present ..))) (.refl _))

theorem SlowFrame.foldl {ι : Type} {act : State → ι → State} (h : ∀ i s, SlowFrame w s (act s i)) (l : List ι) (s : State) :
    SlowFrame w s (l.foldl act s) := SlowFrame.forEach (act := fun i s => act s i) h l s

theorem SlowFrame.stationBytes (p : PortIx) (l : List RxByte) (s : State) : SlowFrame w s (stationBytes p l s) := by
  refine .foldl (fun b u => ?_) l s
  unfold stationByte
  split
  · exact .modPort ..
  · exact .modPort ..
  · exact .ite (.modPort ..) (.modPort ..)

theorem SlowFrame.stationTimeout (p : PortIx) (s : State) : SlowFrame w s (stationTimeout p s) := by
  unfold Machine.stationTimeout
  split
  · exact .modPort ..
  · exact .refl s

theorem SlowFrame.ringBytes (p : RingPort) (l : List RxByte) (s : State) : SlowFrame w s (ringBytes p l s) := by
  refine .foldl (fun b u => ?_) l s
  unfold ringByte
  split
  · exact .modSide ..
  · exact (SlowFrame.modSide ..).trans (.modSide ..)
  · exact .ite ((SlowFrame.modSide ..).trans (.modSide ..)) (.modSide ..)

theorem SlowFrame.ringTimeout (p : RingPort) (s : State) : SlowFrame w s (ringTimeout p s) := by
  unfold Machine.ringTimeout
  split
  · exact (SlowFrame.modSide ..).trans (.modSide ..)
  · exact .refl s

/-! ### Snapshots and frames that leave -/

theorem SlowFrame.joinPart (p : PortIx) (s : State) : SlowFrame w s (joinPart p s) := by
  unfold Machine.joinPart
  split
  · exact .ite (.modPort ..) (.refl s)
  · exact .refl s

theorem SlowFrame.setSending (x : Option Sending) (s : State) : SlowFrame w s (setSending x s) := {}

theorem SlowFrame.handOn (x : Sending) (s : State) : SlowFrame w s (handOn x s) :=
  ((SlowFrame.setSending (some x) s).trans (.modPort _ x.port _)).trans (.joinPart ..)

theorem SlowFrame.snapshotReq (hw : w.snap = true) (p : PortIx) (s : State) : SlowFrame w s (snapshotReq p s) := by
  have latched (b : Bool) : SlowFrame w s (takeSnapshot p b s) := by
    have begun : SlowFrame w s (latchSnapshot s) := { snap := fun h => by rw [hw] at h; cases h }
    exact (begun.trans (.answerDone ..)).trans (.ite (.setSending ..) (.handOn ..))
  unfold Machine.snapshotReq
  split
  · exact latched false
  · exact .ite (latched true) (.refuse ..)

theorem SlowFrame.reportPart (p : PortIx) (s : State) : SlowFrame w s (reportPart p s) := by
  unfold Machine.reportPart
  refine (SlowFrame.modPort s p (fun r => { r with partGone := false })).trans ?_
  unfold partSent
  split
  · exact .ite (.refl _) (.ite (.handOn ..) (.ite (.setSending ..) (.handOn ..)))
  · exact .refl _

theorem SlowFrame.frameLeaves (p : PortIx) (f : Frame) (rest : List Frame) (s : State) :
    SlowFrame w s (frameLeaves p f rest s) := by
  have left (u : State) (l : List Byte) :
      SlowFrame w u { u with pins := { u.pins with stationOut := put u.pins.stationOut p l } } := {}
  exact ((SlowFrame.modPort s p _).trans (left ..)).trans (.joinPart ..)

theorem SlowFrame.frameSent (p : PortIx) (s : State) : SlowFrame w s (frameSent p s) := by
  unfold Machine.frameSent
  split
  · exact .frameLeaves ..
  · exact .refl s

theorem SlowFrame.snapshotPartLeft (p : PortIx) (s : State) : SlowFrame w s (snapshotPartLeft p s) := by
  unfold Machine.snapshotPartLeft
  split
  · exact .reportPart ..
  · split
    · exact .ite ((SlowFrame.frameLeaves ..).trans (.reportPart ..)) (.refl s)
    · exact .refl s

/-! ### Modes and bridge loss -/

theorem SlowFrame.setMode (hw : w.mode = true) (m : Mode) (s : State) : SlowFrame w s (setMode m s) :=
  .ofBlock hw (.setMode ..)

theorem SlowFrame.abortRuns (s : State) : SlowFrame w s (abortRuns s) := by
  have detached (l : List Run) (u : State) : SlowFrame w u (Machine.forEach l (fun r => detachTag r.number) u) :=
    .forEach (fun _ _ => .ofRun (.detachTag ..)) l u
  have emptied (u : State) :
      SlowFrame w u { u with gru := { u.gru with slots := Vector.replicate 5 none, slotting := [], stack := [], resumed := [] } } := {}
  exact (detached ..).trans (emptied _)

theorem SlowFrame.abortAndFlush (s : State) : SlowFrame w s (abortAndFlush s) := by
  have chosen : SlowFrame w s (freeChoice Config.flushBeforeAbort s).2 := {}
  have flushed (u : State) : SlowFrame w u (flush u) := .ofRun (.removeAll ..)
  exact .ite (chosen.trans (.ite ((flushed _).trans (.abortRuns _)) ((SlowFrame.abortRuns _).trans (flushed _))))
    ((SlowFrame.abortRuns s).trans (flushed _))

theorem SlowFrame.clearAtSea (s : State) : SlowFrame w s (clearAtSea s) := by
  have zeroed (u : State) : SlowFrame w u { u with mc := { u.mc with oas := Vector.replicate 96 ⟨0, false⟩ } } := {}
  have cleared : SlowFrame w s (Machine.forEach allDoors (clearDoor .DOOR_OPEN_AT_SEA) s) :=
    .forEach (fun _ _ => .ofAlarm (.clearDoor ..)) _ s
  exact cleared.trans (zeroed _)

/-- An entry into LOCAL after the mode is written. -/
theorem SlowFrame.afterLocal (s : State) :
    SlowFrame w s (Machine.clearAtSea (Machine.forEach allDoors endAnyPassage (Machine.abortAndFlush s))) :=
  ((SlowFrame.abortAndFlush s).trans (.forEach (fun _ _ => .ofRun (.endAnyPassage ..)) _ _)).trans (.clearAtSea _)

theorem SlowFrame.enterLocal (hw : w.mode = true) (s : State) : SlowFrame w s (enterLocal s) :=
  (SlowFrame.setMode hw .LOCAL s).trans (.afterLocal _)

theorem SlowFrame.evalBridge (hw : w.mode = true) (s : State) : SlowFrame w s (evalBridge s) := by
  have written (b : Bool) : SlowFrame w s (setBridgeLost b s) := {}
  exact .ite (.refl s) (.ite (.ite (.refl s)
      (((written true).trans (.ofAlarm (.raiseAlarm ..))).trans (.ite (.ofBlock hw (.enterClosedFromLocal _)) (.refl _))))
    (.ite ((written false).trans (.ofAlarm (.clearAlarm ..))) (.refl s)))

theorem SlowFrame.settleRuns (s : State) : SlowFrame w s (settleRuns s) := .ofRun (.settleRuns s)

theorem SlowFrame.requestLocal (hw : w.mode = true) (p : PortIx) (s : State) : SlowFrame w s (requestLocal p s) := by
  unfold Machine.requestLocal
  split
  · exact .answerDone ..
  · exact ((SlowFrame.enterLocal hw s).trans (.settleRuns _)).trans (.answerDone ..)
  · exact .refuse ..

theorem SlowFrame.requestClosed (hw : w.mode = true) (p : PortIx) (s : State) : SlowFrame w s (requestClosed p s) := by
  unfold Machine.requestClosed
  split
  · exact ((SlowFrame.ofBlock hw (.enterClosedFromLocal s)).trans (.settleRuns _)).trans (.answerDone ..)
  · exact .answerDone ..
  · exact .ite (.refuse ..) ((SlowFrame.setMode hw .CLOSED s).trans (.answerDone ..))

theorem SlowFrame.requestEmergency (hw : w.mode = true) (p : PortIx) (s : State) :
    SlowFrame w s (requestEmergency p s) := by
  have entered : SlowFrame w s
      (Machine.answerDone p 2 false [] (Machine.settleRuns (Machine.enterEmergency .MODE s))) :=
    ((SlowFrame.ofBlock hw (.enterEmergency .MODE s)).trans (.settleRuns _)).trans (.answerDone ..)
  unfold Machine.requestEmergency
  split
  · exact entered
  · exact entered
  · exact .answerDone ..

/-! ### Station commands -/

theorem SlowFrame.decideCommand (g : Gate) (b : Bool) (p : PortIx) {take : State → State} (h : ∀ u, SlowFrame w u (take u))
    (s : State) : SlowFrame w s (decideCommand g b p take s) := by
  refine (SlowFrame.modPort s p _ : SlowFrame w s (acceptFrame p s)).trans ?_
  unfold Machine.decideCommand
  simp only
  split
  · exact .refuse ..
  · exact h _

theorem SlowFrame.heartbeat (hw : w.mode = true) (p : PortIx) (s : State) : SlowFrame w s (heartbeat p s) :=
  .ite (.ite (.modPort ..) ((SlowFrame.modPort s p _).trans
    (.ite (((SlowFrame.modPort ..).trans (.ofAlarm (.clearAlarm ..))).trans (.evalBridge hw _)) (.refl _)))) (.refl s)

theorem SlowFrame.fallSilent (hw : w.mode = true) (p : PortIx) (s : State) : SlowFrame w s (fallSilent p s) :=
  ((SlowFrame.modPort s p _).trans (.ofAlarm (.raiseAlarm ..))).trans (.evalBridge hw _)

theorem SlowFrame.doorCommand (p : PortIx) (kind : Nat) (dir : Direction) (door cls : Byte) (s : State) :
    SlowFrame w s (doorCommand p kind dir door cls s) := by
  have answered (c : Bool) (o : DemandOutcome) (u : State) : SlowFrame w u (answerDemand p kind c o u) := by
    unfold answerDemand
    split
    · exact .answerDone ..
    · exact .refuseWith ..
  unfold Machine.doorCommand
  split
  · exact ((SlowFrame.ofRun (.decideDemand ..)).trans (.settleRuns _)).trans (answered ..)
  · exact .refuse ..

theorem SlowFrame.takeSlot (i : SlotIx) (g : GroupRef) (dir : Direction) (cls : Nat) (x : SourceGroup) (o : RunOrigin)
    (s : State) : SlowFrame w s (takeSlot i g dir cls x o s) := by
  unfold Machine.takeSlot
  simp only
  split <;> exact {}

theorem SlowFrame.suspend (i : SlotIx) (s : State) : SlowFrame w s (suspend i s) := by
  unfold Machine.suspend
  split
  · exact {}
  · exact .refl s

theorem SlowFrame.acceptRun (p : PortIx) (g : GroupRef) (dir : Direction) (cls : Nat) (s : State) :
    SlowFrame w s (acceptRun p g dir cls s).2 := by
  unfold Machine.acceptRun
  split
  · next i v _ =>
    cases v with
    | none => exact .takeSlot ..
    | some k => exact (SlowFrame.suspend k s).trans (.takeSlot ..)
  · exact .refl s

theorem SlowFrame.groupCommand (p : PortIx) (kind : Nat) (dir : Direction) (group cls : Byte) (s : State) :
    SlowFrame w s (groupCommand p kind dir group cls s) := by
  unfold Machine.groupCommand
  split
  · next g _ =>
    split
    · exact .refuse ..
    · unfold launchStation
      have accepted := SlowFrame.acceptRun (w := w) p g dir (usedClass s p cls.toNat) s
      simp only
      split
      · next heq => rw [heq] at accepted; exact accepted.trans (.answerDone ..)
      · next heq => rw [heq] at accepted; exact accepted.trans (.refuseWith ..)
  · exact .refuse ..

theorem SlowFrame.runCancel (p : PortIx) (n : Byte) (s : State) : SlowFrame w s (runCancel p n s) := by
  unfold Machine.runCancel
  split
  · split
    · exact .refuse ..
    · exact ((SlowFrame.ofRun (.cancelRun ..)).trans (.settleRuns _)).trans (.answerDone ..)
  · exact .refuse ..

theorem AlarmFrame.ackRecord (r : AlarmRecord) (s : State) : AlarmFrame s (ackRecord r s) := by
  unfold Machine.ackRecord
  split
  · exact .updateRecord ..
  · exact .refl s
  · exact .removeRecord ..

theorem SlowFrame.alarmAck (p : PortIx) (kind subject : Byte) (s : State) : SlowFrame w s (alarmAck p kind subject s) := by
  unfold Machine.alarmAck
  split
  · split
    · exact (SlowFrame.ofAlarm (AlarmFrame.ackRecord ..)).trans (.answerDone ..)
    · exact .refuse ..
  · exact .refuse ..

theorem SlowFrame.codeRefused (p : PortIx) (c : UnknownCode) (s : State) : SlowFrame w s (codeRefused p c s) := by
  unfold Machine.codeRefused
  split
  · exact .decideCommand _ _ _ .refl s
  · exact .decideCommand _ _ _ (fun _ => .refuse ..) s
  · exact .decideCommand _ _ _ .refl s
  · exact .decideCommand _ _ _ .refl s

/-! ### Tables -/

theorem SlowFrame.setTables (hw : w.tables = true) (t : Tables) (s : State)
    (hd : w.shown = true ∨ t.doors = s.tables.doors) : SlowFrame w s (setTables t s) where
  tables h := by rw [hw] at h; cases h
  shown h := by
    rcases hd with hd | hd
    · rw [hd] at h; cases h
    · exact { doors := hd }

theorem SlowFrame.decideWrite (p : PortIx) (inUse refused clamped : Bool) (conflict : Option RecordName)
    {write : State → State} (s : State) (h : SlowFrame w s (write s)) :
    SlowFrame w s (decideWrite p inUse refused clamped conflict write s) := by
  refine .ite (.refuse ..) (.ite (.refuse ..) ?_)
  split
  · exact .refuseWith ..
  · exact (h.trans (.settleRuns _)).trans (.answerDone ..)

theorem SlowFrame.resetFilters (old new : Nat) (s : State) : SlowFrame w s (resetFilters old new s) :=
  (SlowFrame.setFilter ..).trans (.setFilter ..)

theorem SlowFrame.resetDoor (hw : w.shown = true) (d : DoorIx) (old new : Nat) (s : State) : SlowFrame w s (resetDoor d old new s) := by
  have unqueued (u : State) : SlowFrame w u (unqueueOrder d u) := {}
  exact (((SlowFrame.resetFilters ..).trans (.ite (.endPoll _) (.refl _))).trans (unqueued _)).trans (.modReported hw ..)

theorem SlowFrame.doorWritten (hw : w.tables = true) (hs : w.shown = true) (d : DoorIx) (old new : DoorConfig) (s : State) :
    SlowFrame w s (doorWritten d old new s) :=
  ((((SlowFrame.setTables hw _ s (.inl hs)).trans (.ite (.resetDoor hs ..) (.refl _))).trans
    (.ite ((SlowFrame.forEach (fun _ _ => .ofAlarm (.clearDoor ..)) _ _).trans (.zeroOas ..)) (.refl _))).trans
    (.ite (.ofPresent hs (.recomputeComps ..)) (.refl _))).trans (.ite (.ofPresent hs (.present ..)) (.refl _))

theorem SlowFrame.hpuWritten (hw : w.tables = true) (h : HpuIx) (old new : HpuConfig) (s : State) :
    SlowFrame w s (hpuWritten h old new s) := by
  have dismissed (u : State) : AlarmFrame (u.modFlow h fun f => { f with delayAlarm := false }) (dismissHpu h u) :=
    ((AlarmFrame.clearAlarm ..).trans (.clearAlarm ..)).trans (.clearAlarm ..)
  have written : SlowFrame w s (Machine.setTables { s.tables with hpus := put s.tables.hpus h new } s) := .setTables hw _ s (.inr rfl)
  exact ((written.trans (.ite ((SlowFrame.resetFilters ..).trans (.modHpu ..)) (.refl _))).trans
    (.ite ((SlowFrame.ofRun (ScheduleFrame.modFlow ..).toRunFrame).trans (.ofAlarm (dismissed _))) (.refl _))).trans
    (.recomputeE ..)

theorem SlowFrame.sendSummary (p : PortIx) (s : State) : SlowFrame w s (sendSummary p s) := by
  have paced (u : State) (x : Pacing) : SlowFrame w u (u.setPacing p x) := {}
  have chosen (u : State) : SlowFrame w u (freeChoice Config.pendingAfterDrop u).2 := {}
  exact .ite (((SlowFrame.ofPlace (.place ..)).trans (chosen _)).trans (paced ..))
    ((SlowFrame.ofPlace (.place ..)).trans (paced ..))

theorem SlowFrame.pacingChange (p : PortIx) (s : State) : SlowFrame w s (pacingChange p s) :=
  .ite (.ofPlace (.setPacing ..)) (.sendSummary p s)

theorem SlowFrame.sendSummaries (s : State) : SlowFrame w s (sendSummaries s) := .forEach .sendSummary _ s

theorem SlowFrame.heartbeatWritten (p : PortIx) (old new : PermitRow) (s : State) :
    SlowFrame w s (heartbeatWritten p old new s) :=
  .ite (.refl s) ((SlowFrame.modPort s p _).trans (.ite (.ofAlarm (.clearAlarm ..)) (.refl _)))

theorem SlowFrame.pacingWritten (p : PortIx) (old new : PermitRow) (s : State) :
    SlowFrame w s (pacingWritten p old new s) :=
  .ite (.refl s) (.ite (.ofPlace (.setPacing ..)) (.ite (.refl s)
    (.ite (.sendSummary ..) (.pacingChange ..))))

theorem SlowFrame.permitWritten (hw : w.tables = true) (hm : w.mode = true) (p : PortIx) (old new : PermitRow) (s : State) :
    SlowFrame w s (permitWritten p old new s) := by
  have written : SlowFrame w s (Machine.setTables { s.tables with permits := put s.tables.permits p new } s) :=
    .setTables hw _ s (.inr rfl)
  exact ((written.trans (.heartbeatWritten p old new _)).trans (.evalBridge hm _)).trans
    (.pacingWritten p old new _)

theorem SlowFrame.systemWritten (hw : w.tables = true) (old new : SystemRecord) (s : State) :
    SlowFrame w s (systemWritten old new s) := by
  have written : SlowFrame w s (Machine.setTables { s.tables with system := new } s) := .setTables hw _ s (.inr rfl)
  exact (written.trans
    (.ite (.forEach (fun _ _ => .ofRun (ScheduleFrame.pass ..).toRunFrame) _ _) (.refl _))).trans
    (.ite (.forEach (fun _ _ => .ofRun (ScheduleFrame.evalDelay ..).toRunFrame) _ _) (.refl _))

theorem SlowFrame.writeDoor (hw : w.tables = true) (hs : w.shown = true) (p : PortIx) (i : Byte) (l : List Byte) (s : State) :
    SlowFrame w s (writeDoor p i l s) := by
  unfold Machine.writeDoor
  split
  · exact .decideWrite _ _ _ _ _ s (.doorWritten hw hs ..)
  · exact .refuse ..

theorem SlowFrame.writeHpu (hw : w.tables = true) (p : PortIx) (i : Byte) (l : List Byte) (s : State) :
    SlowFrame w s (writeHpu p i l s) := by
  unfold Machine.writeHpu
  split
  · exact .decideWrite _ _ _ _ _ s (.hpuWritten hw ..)
  · exact .refuse ..

theorem SlowFrame.writeGroup (hw : w.tables = true) (p : PortIx) (i : Byte) (l : List Byte) (s : State) :
    SlowFrame w s (writeGroup p i l s) := by
  unfold Machine.writeGroup
  split
  · exact .decideWrite _ _ _ _ _ s (.setTables hw { s.tables with groups := _ } s (.inr rfl))
  · exact .refuse ..

theorem SlowFrame.writePermit (hw : w.tables = true) (hm : w.mode = true) (p : PortIx) (i : Byte) (l : List Byte)
    (s : State) : SlowFrame w s (writePermit p i l s) := by
  unfold Machine.writePermit
  split
  · exact .decideWrite _ _ _ _ _ s (.permitWritten hw hm ..)
  · exact .refuse ..

theorem SlowFrame.writeSystem (hw : w.tables = true) (p : PortIx) (i : Byte) (l : List Byte) (s : State) :
    SlowFrame w s (writeSystem p i l s) := by
  unfold Machine.writeSystem
  exact .ite (.decideWrite _ _ _ _ _ s (.systemWritten hw ..)) (.refuse ..)

theorem SlowFrame.writeOfLength (ok : Bool) (p : PortIx) {write : State → State} (h : ∀ u, SlowFrame w u (write u))
    (s : State) : SlowFrame w s (writeOfLength ok p write s) := .ite (.decideCommand _ _ _ h s) (.modPort ..)

theorem SlowFrame.tableRead (p : PortIx) (table size : Nat) (records : List (List Byte)) (first count : Byte)
    {effect : Nat → State → State} (h : ∀ n u, SlowFrame w u (effect n u)) (s : State) :
    SlowFrame w s (tableRead p table size records first count effect s) :=
  .ite (.refuse ..) ((SlowFrame.answerDone ..).trans (h _ _))

theorem SlowFrame.noEffect (n : Nat) (s : State) : SlowFrame w s (noEffect n s) := .refl s

theorem SlowFrame.clearFresh (first n : Nat) (s : State) : SlowFrame w s (clearFresh first n s) := by
  unfold Machine.clearFresh
  exact {}

theorem SlowFrame.counterRead (p : PortIx) (set : Nat) (counters : List Byte) (clear : Byte) {reset : State → State}
    (h : ∀ u, SlowFrame w u (reset u)) (s : State) : SlowFrame w s (counterRead p set counters clear reset s) :=
  (SlowFrame.answerDone ..).trans (.ite (.refl _) (h _))

theorem SlowFrame.clearStationCounters (s : State) : SlowFrame w s (clearStationCounters s) := by
  unfold Machine.clearStationCounters
  exact {}

theorem SlowFrame.clearRingCounters (s : State) : SlowFrame w s (clearRingCounters s) := by
  unfold Machine.clearRingCounters
  exact {}

/-! ### The store and the starts -/

theorem SlowFrame.setPart (hw : w.part = true) (x : PartState) (s : State) : SlowFrame w s (setPart x s) :=
  { part := fun h => by rw [hw] at h; cases h }

theorem SlowFrame.startRing (s : State) : SlowFrame w s (startRing s) := by
  have aged : SlowFrame w s { s with rc := { s.rc with hpus := updAll s.rc.hpus fun _ x => { x with age := 0 } } } := {}
  exact (aged.trans (.forEach (fun _ _ => .ofAlarm (.raiseAlarm ..)) _ _)).trans (.startPolling _)

theorem SlowFrame.startHeartbeats (s : State) : SlowFrame w s (startHeartbeats s) := by
  unfold Machine.startHeartbeats
  exact {}

theorem SlowFrame.enterStartMode (hw : w.mode = true) (s : State) : SlowFrame w s (enterStartMode s) :=
  (SlowFrame.ite (.ofBlock hw (.enterEmergency ..))
    (.ite (.ofBlock hw (.enterClosedFromLocal ..)) (.enterLocal hw s))).trans (.evalBridge hw _)

theorem SlowFrame.enterBlocks (hp : w.part = true) (hm : w.mode = true) (s : State) : SlowFrame w s (enterBlocks s) :=
  (((((SlowFrame.ringQuiet s).trans (.setPart hp _ _)).trans (.enterStartMode hm _)).trans (.startHeartbeats _)).trans
    (.startRing _)).trans (.settleRuns _)

theorem SlowFrame.enterService (hp : w.part = true) (hm : w.mode = true) (s : State) : SlowFrame w s (enterService s) :=
  (SlowFrame.enterBlocks hp hm s).trans (.sendSummaries _)

theorem SlowFrame.commission (hp : w.part = true) (hm : w.mode = true) (p : PortIx) (s : State) :
    SlowFrame w s (commission p s) := by
  have chosen (u : State) : SlowFrame w u (freeChoice Config.resultBeforeSummary u).2 := {}
  refine .ite (.refuse ..) ?_
  split
  · exact .refuseWith ..
  · unfold commissionTaken
    refine (SlowFrame.enterBlocks hp hm s).trans ?_
    generalize Machine.enterBlocks s = t
    refine .ite ((chosen t).trans (.ite ?_ ?_)) ?_
    · exact (SlowFrame.answerDone ..).trans (.sendSummaries _)
    · exact (SlowFrame.sendSummaries _).trans (.answerDone ..)
    · exact (SlowFrame.sendSummaries _).trans (.answerDone ..)

theorem SlowFrame.decommission (hp : w.part = true) (hs : w.shown = true) (p : PortIx) (s : State) : SlowFrame w s (decommission p s) := by
  have stopped (u : State) : SlowFrame w u (stopPolling u) := {}
  have sent (u : State) : SlowFrame w u (sendOrders u) := .foldl (fun _ => .sendHeadOrder) _ u
  have retire : SlowFrame w s (retired s) := (((SlowFrame.ringQuiet s).trans (.setPart hp _ _)).trans (sent _)).trans (stopped _)
  have hpu (h : HpuIx) (u : State) : SlowFrame w u (quietHpu h u) :=
    ((SlowFrame.ite ((SlowFrame.modHpu ..).trans (.recomputeE ..)) (.refl u)).trans (.ofAlarm (.clearAlarm ..))).trans
      (.ofAlarm (.clearAlarm ..))
  have door (d : DoorIx) (u : State) : SlowFrame w u (quietDoor d u) :=
    (SlowFrame.modReported hs ..).trans (.ofAlarm (.clearDoor ..))
  have port (q : PortIx) (u : State) : SlowFrame w u (quietPort q u) :=
    (SlowFrame.modPort u q _).trans (.ofAlarm (.clearAlarm ..))
  have quietMode (u : State) : SlowFrame w u (quietMode u) := by
    have stilled : SlowFrame w u { u with mc := { u.mc with bridgeLost := false, oas := Vector.replicate 96 ⟨0, false⟩ } } := {}
    exact stilled.trans (.ofAlarm (.clearAlarm ..))
  have released (u : State) : SlowFrame w u (recomputeReleased (clearPacing u)) := by
    unfold recomputeReleased clearPacing writeComps
    exact { shown := fun h => by rw [hs] at h; cases h }
  have doors (l : List DoorIx) (u : State) : SlowFrame w u (Machine.forEach l quietDoor (Machine.forEach allHpus quietHpu u)) :=
    (SlowFrame.forEach hpu _ u).trans (.forEach door _ _)
  refine .ite (.refuse ..) (.ite (.refuse ..) (SlowFrame.trans ?_ (.answerDone ..)))
  unfold decommissioned
  exact (((retire.trans (doors ..)).trans (.forEach port _ _)).trans (quietMode _)).trans (released _)

theorem SlowFrame.raiseLine (s : State) : SlowFrame w s (raiseLine s) := .ite (.ofAlarm (.raiseAlarm ..)) (.refl s)
theorem SlowFrame.raiseStore (s : State) : SlowFrame w s (raiseStore s) := .ite (.ofAlarm (.raiseAlarm ..)) (.refl s)

/-- What a cold start may write of the slow state. -/
def coldWrites : Writes := { tables := true, part := true, mode := true, seconds := true, snap := true, line := true, shown := true }

theorem SlowFrame.coldStart (s : State) : SlowFrame coldWrites s (coldStart s) := by
  have began (t : Tables) (x : ImageStatus) : SlowFrame coldWrites s (coldState t x s) :=
    { tables := fun h => (by cases h), part := fun h => (by cases h), mode := fun h => (by cases h)
      seconds := fun h => (by cases h), snap := fun h => (by cases h), line := fun h => (by cases h)
      shown := fun h => (by cases h) }
  unfold Machine.coldStart
  split
  · exact .ite (((began ..).trans (.raiseLine _)).trans (.enterService rfl rfl _))
      (((began ..).trans (.raiseStore _)).trans (.raiseLine _))
  · exact ((began ..).trans (.raiseStore _)).trans (.raiseLine _)

/-- What a warm restart may write of the slow state. -/
def warmWrites : Writes := { part := true, mode := true, snap := true, line := true, shown := true }

theorem SlowFrame.warmRestart (s : State) : SlowFrame warmWrites s (warmRestart s) := by
  have began : SlowFrame warmWrites s (warmState s) :=
    { part := fun h => (by cases h), mode := fun h => (by cases h), snap := fun h => (by cases h), line := fun h => (by cases h)
      shown := fun h => (by cases h) }
  exact ((began.trans (.raiseLine _)).trans (.ite (.enterService rfl rfl _) (.refl _))).trans (.raiseStore _)

theorem SlowFrame.lineAsserted (hm : w.mode = true) (hl : w.line = true) (s : State) : SlowFrame w s (lineAsserted s) := by
  have set : SlowFrame w s (setLine true s) := { line := fun h => by rw [hl] at h; cases h }
  exact (set.trans (.ofAlarm (.raiseAlarm ..))).trans
    (.ite ((SlowFrame.ofBlock hm (.enterEmergency ..)).trans (.settleRuns _)) (.refl _))

theorem SlowFrame.lineReleased (hl : w.line = true) (s : State) : SlowFrame w s (lineReleased s) := by
  have set : SlowFrame w s (setLine false s) := { line := fun h => by rw [hl] at h; cases h }
  exact set.trans (.ofAlarm (.clearAlarm ..))

/-! ### Timers -/

theorem SlowFrame.supervisionTick (s : State) : SlowFrame w s (supervisionTick s) := by
  have counted : SlowFrame w s (countTick s) := by
    unfold countTick
    exact {}
  exact counted.trans (.forEach (fun _ _ => .ite (.refl _) (.ofRun (ScheduleFrame.evalDelay ..).toRunFrame)) _ _)

theorem SlowFrame.onEntry (ran : Entry → Bool) (d : DoorIx) {act : Entry → State → State}
    (h : ∀ e u, SlowFrame w u (act e u)) (s : State) : SlowFrame w s (onEntry ran d act s) := by
  unfold Machine.onEntry
  split
  · exact .ite (h _ s) (.refl s)
  · exact .refl s

theorem SlowFrame.windowExpires (d : DoorIx) (e : Entry) (s : State) : SlowFrame w s (windowExpires d e s) := by
  have counted (u : State) : SlowFrame w u { u with ms := { u.ms with moveRepeats := satInc 65535 u.ms.moveRepeats } } := {}
  exact .ite (((SlowFrame.ofRun (.setEntry ..)).trans (counted _)).trans (.ofRun (ScheduleFrame.queueOrder ..).toRunFrame))
    (.ite (.ofRun (.setEntry ..)) (.ofRun (.faultDoor ..)))

theorem SlowFrame.deadlineExpires (d : DoorIx) (e : Entry) (s : State) : SlowFrame w s (deadlineExpires d e s) :=
  .ite (.refl s) ((SlowFrame.ofRun (.setEntry ..)).trans (.ofAlarm (.raiseDoor ..)))

theorem SlowFrame.secondsIncrement (hw : w.seconds = true) (s : State) : SlowFrame w s (secondsIncrement s) := by
  unfold Machine.secondsIncrement
  exact { seconds := fun h => by rw [hw] at h; cases h }

theorem SlowFrame.heldTimeExpires (d : DoorIx) (s : State) : SlowFrame w s (heldTimeExpires d s) := by
  unfold Machine.heldTimeExpires
  split
  · exact .ite ((SlowFrame.ofRun (.setPassage ..)).trans (.ofAlarm (.raiseDoor ..))) (.refl s)
  · exact .refl s

theorem SlowFrame.openAtSeaExpires (d : DoorIx) (s : State) : SlowFrame w s (openAtSeaExpires d s) := by
  have taken : SlowFrame w s { s with mc := { s.mc with oas := upd s.mc.oas d fun x => { x with due := false } } } := {}
  exact .ite (taken.trans (.ofAlarm (.raiseDoor ..))) (.refl s)

end

/-! ### The commands -/

/-- What a command may write of the slow state. -/
def writes : Instr → Writes
  | .heartbeat _ | .modeSetLocal _ | .modeSetClosed _ | .modeSetEmergency _ | .heartbeatWindowExpiry _ => { mode := true }
  | .snapshotReq _ => { snap := true }
  | .tableWriteDoor _ _ _ => { tables := true, shown := true }
  | .report _ _ _ _ | .event _ _ _ _ _ _ | .replyLimitExpiry | .resetAsserted => { shown := true }
  | .tableWriteHpu _ _ _ | .tableWriteGroup _ _ _ | .tableWriteSystemRecord _ _ _ => { tables := true }
  | .tableWritePermitRow _ _ _ => { tables := true, mode := true }
  | .commission _ => { part := true, mode := true }
  | .decommission _ => { part := true, shown := true }
  | .save _ | .saveComplete => { image := true }
  | .warmRestart => warmWrites
  | .coldStart => coldWrites
  | .emergencyCloseAsserted => { pin := true, mode := true, line := true }
  | .emergencyCloseReleased => { pin := true, line := true }
  | .secondsCounterIncrement => { seconds := true }
  | _ => {}

/-- The effect of a command that RESET leaves without effect. -/
theorem SlowFrame.awake {w : Writes} {f : State → State} {s t : State} (h : awake f s = .next t)
    (hf : SlowFrame w s (f s)) : SlowFrame w s t := by
  injection h with h
  subst h
  exact .ite (.refl s) hf

theorem exec_slowFrame {c : Instr} {s t : State} (h : exec c s = .next t) : SlowFrame (writes c) s t := by
  cases c with
  | heartbeat p => exact .awake h (.decideCommand _ _ _ (fun _ => .heartbeat rfl ..) s)
  | modeSetLocal p => exact .awake h (.decideCommand _ _ _ (fun _ => .requestLocal rfl ..) s)
  | modeSetClosed p => exact .awake h (.decideCommand _ _ _ (fun _ => .requestClosed rfl ..) s)
  | modeSetEmergency p => exact .awake h (.decideCommand _ _ _ (fun _ => .requestEmergency rfl ..) s)
  | doorClose p d x => exact .awake h (.decideCommand _ _ _ (fun _ => .doorCommand ..) s)
  | doorOpen p d x => exact .awake h (.decideCommand _ _ _ (fun _ => .doorCommand ..) s)
  | groupClose p g x => exact .awake h (.decideCommand _ _ _ (fun _ => .groupCommand ..) s)
  | groupOpen p g x => exact .awake h (.decideCommand _ _ _ (fun _ => .groupCommand ..) s)
  | runCancel p n => exact .awake h (.decideCommand _ _ _ (fun _ => .runCancel ..) s)
  | alarmAck p k x => exact .awake h (.decideCommand _ _ _ (fun _ => .alarmAck ..) s)
  | alarmAckAll p =>
    exact .awake h (.decideCommand _ _ _ (fun _ => (SlowFrame.ofAlarm (.ackAll _)).trans (.answerDone ..)) s)
  | snapshotReq p => exact .awake h (.decideCommand _ _ _ (fun _ => .snapshotReq rfl ..) s)
  | tableWriteDoor p i l => exact .awake h (.writeOfLength _ _ (.writeDoor rfl rfl p i l) s)
  | tableWriteHpu p i l => exact .awake h (.writeOfLength _ _ (.writeHpu rfl p i l) s)
  | tableWriteGroup p i l => exact .awake h (.writeOfLength _ _ (.writeGroup rfl p i l) s)
  | tableWritePermitRow p i l => exact .awake h (.writeOfLength _ _ (.writePermit rfl rfl p i l) s)
  | tableWriteSystemRecord p i l => exact .awake h (.writeOfLength _ _ (.writeSystem rfl p i l) s)
  | tableReadDoorState p i n =>
    exact .awake h (.decideCommand _ _ _ (fun v => .tableRead _ _ _ _ _ _ (fun _ _ => .clearFresh ..) v) s)
  | tableReadDoorConfig p i n | tableReadHpuConfig p i n | tableReadHpuState p i n | tableReadGroup p i n
  | tableReadPermitConfig p i n | tableReadPermitState p i n | tableReadSystemRecord p i n | tableReadAlarmList p i n =>
    exact .awake h (.decideCommand _ _ _ (fun v => .tableRead _ _ _ _ _ _ .noEffect v) s)
  | counterReadStation p x =>
    exact .awake h (.decideCommand _ _ _ (fun v => .counterRead _ _ _ _ .clearStationCounters v) s)
  | counterReadRing p x =>
    exact .awake h (.decideCommand _ _ _ (fun v => .counterRead _ _ _ _ .clearRingCounters v) s)
  | commission p => exact .awake h (.decideCommand _ _ _ (fun _ => .commission rfl rfl ..) s)
  | decommission p => exact .awake h (.decideCommand _ _ _ (fun _ => .decommission rfl rfl ..) s)
  | save p =>
    have saved (u : State) : SlowFrame (writes (.save p)) u (save p u) := { image := fun h => (by cases h) }
    exact .awake h (.decideCommand _ _ _ saved s)
  | restart p =>
    have pending (u : State) : SlowFrame {} u { u with cfs := { u.cfs with restartPending := true } } := {}
    exact .awake h (.decideCommand _ _ _ (fun v => (pending v).trans (.answerDone ..)) s)
  | stationFrameDiscarded p l => exact .awake h (.stationBytes ..)
  | stationInterbyteTimeout p l =>
    change awake (fun t => stationTimeout p (stationBytes p l t)) s = _ at h
    exact .awake h ((SlowFrame.stationBytes p l s).trans (.stationTimeout ..))
  | stationFrameSent p => exact .awake h (.frameSent ..)
  | snapshotPartSent p => exact .awake h (.snapshotPartLeft ..)
  | saveComplete =>
    change awake (fun t => match t.cfs.save with | some p => saveCompletes p t | none => t) s = _ at h
    have stored (p : PortIx) (u : State) : SlowFrame (writes .saveComplete) u (saveCompletes p u) := by
      refine SlowFrame.trans ?_ (.answerDone ..)
      refine SlowFrame.trans ?_ (.ofAlarm (.clearAlarm ..))
      exact { image := fun h => (by cases h) }
    refine .awake h ?_
    split
    · exact stored _ s
    · exact .refl s
  | warmRestart => exact .awake h (.ite (.warmRestart s) (.refl s))
  | resetAsserted => injection h with h; subst h; exact { shown := fun h => (by cases h) }
  | coldStart => injection h with h; subst h; exact .coldStart s
  | emergencyCloseAsserted =>
    change awake (fun t => if t.mc.line then t else lineAsserted t) (setPin true s) = _ at h
    have set : SlowFrame (writes .emergencyCloseAsserted) s (setPin true s) := { pin := fun h => (by cases h) }
    exact set.trans (.awake h (.ite (.refl _) (.lineAsserted rfl rfl _)))
  | emergencyCloseReleased =>
    change awake (fun t => if t.mc.line then lineReleased t else t) (setPin false s) = _ at h
    have set : SlowFrame (writes .emergencyCloseReleased) s (setPin false s) := { pin := fun h => (by cases h) }
    exact set.trans (.awake h (.ite (.lineReleased rfl _) (.refl _)))
  | report p src seq r =>
    change awake (fun t => reportArrives p src seq r (ringHunt p t)) s = _ at h
    exact .awake h ((SlowFrame.modSide p _ s).trans (.reportArrives rfl ..))
  | event p src seq x low fault =>
    change awake (fun t => eventArrives p src seq x low fault (ringHunt p t)) s = _ at h
    exact .awake h ((SlowFrame.modSide p _ s).trans (.eventArrives rfl ..))
  | hpuReport p src seq st x =>
    change awake (fun t => hpuReportArrives p src seq st x (ringHunt p t)) s = _ at h
    exact .awake h ((SlowFrame.modSide p _ s).trans (.hpuReportArrives ..))
  | loopCopy p seq =>
    change awake (fun t => loopArrives p seq (ringHunt p t)) s = _ at h
    exact .awake h ((SlowFrame.modSide p _ s).trans (.loopArrives ..))
  | ringFrameDiscarded p l => exact .awake h (.ringBytes ..)
  | ringInterbyteTimeout p l =>
    change awake (fun t => ringTimeout p (ringBytes p l t)) s = _ at h
    exact .awake h ((SlowFrame.ringBytes p l s).trans (.ringTimeout ..))
  | orderSend => exact .awake h (.ite ((SlowFrame.ringQuiet s).trans (.sendHeadOrder _)) (.refl s))
  | pollSend => exact .awake h (.ite ((SlowFrame.ringQuiet s).trans (.pollNext _)) (.refl s))
  | replyLimitExpiry =>
    change awake (fun t => match replyOverdue t with | some d => missPoll d t | none => t) s = _ at h
    refine .awake h ?_
    split
    · exact .missPoll rfl ..
    · exact .refl s
  | loopTimerExpiry => exact .awake h (.loopTimerExpires s)
  | loopIntervalExpiry => exact .awake h (.loopIntervalExpires s)
  | reportAgeExpiry x =>
    exact .awake h (.ite (((SlowFrame.modHpu ..).trans (.ofAlarm (.raiseAlarm ..))).trans (.recomputeE ..)) (.refl s))
  | supervisionTick => exact .awake h (.supervisionTick s)
  | secondsCounterIncrement =>
    exact .awake h (.secondsIncrement rfl s)
  | preWarningExpiry d =>
    exact .awake h (.onEntry _ _ (fun _ _ => (SlowFrame.ofRun (.setEntry ..)).trans
      (.ofRun (ScheduleFrame.pass ..).toRunFrame)) s)
  | readyAgeExpiry d => exact .awake h (.ite (.ofRun (ScheduleFrame.evalDelay ..).toRunFrame) (.refl s))
  | startWindowExpiry d =>
    change awake (fun t => settleRuns (onEntry Entry.windowOut d (windowExpires d) t)) s = _ at h
    exact .awake h ((SlowFrame.onEntry _ _ (.windowExpires d) s).trans (.settleRuns _))
  | deadlineExpiry d => exact .awake h (.onEntry _ _ (.deadlineExpires d) s)
  | hardLimitExpiry d =>
    change awake (fun t => settleRuns (onEntry Entry.overdue d (fun _ => faultDoor .OVERTIME d) t)) s = _ at h
    exact .awake h ((SlowFrame.onEntry _ _ (fun _ _ => .ofRun (.faultDoor ..)) s).trans (.settleRuns _))
  | waitAgeExpiry i =>
    change awake (fun t => settleRuns (if waitedOut t i then bypassAt i t else t)) s = _ at h
    exact .awake h ((SlowFrame.ite (.ofRun (.bypassAt ..)) (.refl s)).trans (.settleRuns _))
  | heldTimeExpiry d => exact .awake h (.heldTimeExpires ..)
  | openAtSeaTimerExpiry d => exact .awake h (.openAtSeaExpires ..)
  | heartbeatWindowExpiry p => exact .awake h (.ite (.fallSilent rfl ..) (.refl s))
  | summaryElapsedExpiry p => exact .awake h (.ite (.sendSummary ..) (.refl s))
  | walkStep i =>
    change awake (fun t => settleRuns (walkStep i t)) s = _ at h
    exact .awake h ((SlowFrame.ofRun (.walkStep ..)).trans (.settleRuns _))
  | codeThatNamesNothing p x => exact .awake h (.ite (.codeRefused ..) (.refl s))

theorem exec_next (c : Instr) (s : State) : ∃ t, exec c s = .next t := by
  cases c <;> exact ⟨_, rfl⟩

/-- Settles O2: each clause is a field of the frame, and its hypothesis says that the command does not write it. -/
theorem onlyTheirCommandsChange : Obligations.OnlyTheirCommandsChange := by
  intro c s
  obtain ⟨t, ht⟩ := exec_next c s
  have frame := exec_slowFrame ht
  refine ⟨t, ht, frame.pending, fun h => frame.tables ?_, fun h1 h2 => frame.image ?_, fun h => frame.part ?_,
    fun h => frame.mode ?_, fun h1 h2 => frame.seconds ?_, fun h1 h2 h3 => frame.snap ?_, fun h1 h2 => frame.pin ?_⟩ <;>
  cases c <;> simp_all [writes, writesTables, changesPart, changesMode, warmWrites, coldWrites]

end Sys2Proof.Proofs
end

section
/-! ## The laws of the mode, of a part out of service and of absent doors (R2, R105, R107, R108, R179)

The law of a part out of service and that of absent doors are kept by every micro step; a passage record in LOCAL needs
the entry into LOCAL as a whole. The law of the EMERGENCY CLOSE line is kept by what writes neither the mode, nor the
line, nor the part state, and is shown command by command for the rest. -/
namespace Sys2Proof.Proofs
open Sys2Proof Sys2Proof.Machine

set_option Elab.async false

/-! ### A part out of service -/

/-- Out of service the mode is LOCAL, the schedule, the slots and the stack are empty and no door is polled. -/
def IdleLaw (s : State) : Prop :=
  s.inService = false →
    s.mc.mode = .LOCAL ∧ (∀ d : DoorIx, s.entry d = none) ∧ liveRuns s = [] ∧ s.rc.polled = none

section
variable {s t : State}

theorem idleLaw_of_inService (h : s.inService = true) : IdleLaw s := fun hs => by rw [h] at hs; cases hs

theorem idleLaw_of_calm (h : Calm s t) (hs : IdleLaw s) : IdleLaw t := by
  intro hout
  have hsame : s.inService = t.inService := by unfold State.inService; rw [h.part]
  obtain ⟨hmode, hentry, hlive, hpolled⟩ := hs (hsame.trans hout)
  refine ⟨h.mode.trans hmode, fun d => ?_, h.live hlive, h.polled.trans hpolled⟩
  have hd := h.entries d
  rw [hentry d] at hd
  simpa using hd

/-- What keeps the store's part state, the mode, the schedule, the runs and the polled door keeps the law. -/
theorem idleLaw_congr (hcfs : t.cfs = s.cfs) (hmode : t.mc.mode = s.mc.mode) (hcs : t.cs = s.cs) (hgru : t.gru = s.gru)
    (hpolled : t.rc.polled = s.rc.polled) (hs : IdleLaw s) : IdleLaw t := by
  unfold IdleLaw State.inService State.entry liveRuns at *
  rw [hcfs, hmode, hcs, hgru, hpolled]
  exact hs

theorem idleLaw_of_alarmFrame (h : AlarmFrame s t) : IdleLaw s → IdleLaw t :=
  idleLaw_congr h.cfs h.mode h.cs h.gru (by rw [h.rc])

/-! ### Absent doors -/

theorem absentLaw_congr (htables : t.tables = s.tables) (hreported : t.rc.reported = s.rc.reported)
    (hpolled : t.rc.polled = s.rc.polled) (hended : t.rc.pollEnded = s.rc.pollEnded) (hs : AbsentLaw s) : AbsentLaw t := by
  unfold AbsentLaw State.isPresent at *
  rw [htables, hreported, hpolled, hended]
  exact hs

theorem absentLaw_of_rc (htables : t.tables = s.tables) (hrc : t.rc = s.rc) : AbsentLaw s → AbsentLaw t :=
  absentLaw_congr htables (by rw [hrc]) (by rw [hrc]) (by rw [hrc])

theorem absentLaw_of_alarmFrame (h : AlarmFrame s t) : AbsentLaw s → AbsentLaw t := absentLaw_of_rc h.tables h.rc

theorem absentLaw_of_calm (h : Calm s t) (hs : AbsentLaw s) : AbsentLaw t := by
  intro d hd
  have hd' : s.isPresent d = false := by rw [← hd, isPresent_congr h.tables]
  obtain ⟨hreported, hpoll⟩ := hs d hd'
  exact ⟨(h.absent d hd').trans hreported, fun hp => h.pollEnded (hpoll (h.polled ▸ hp))⟩

/-- A part of which no door is polled. -/
theorem absentLaw_unpolled (hreported : ∀ d : DoorIx, t.isPresent d = false → t.rc.reported[d] = Reported.start)
    (hpolled : t.rc.polled = none) : AbsentLaw t :=
  fun d hd => ⟨hreported d hd, fun hp => by rw [hpolled] at hp; cases hp⟩

end

theorem setFilter_eq (a : Nat) (x : Option Byte) (s : State) :
    ∃ v, s.setFilter a x = { s with rc := { s.rc with filter := v } } := by
  unfold State.setFilter
  split
  · exact ⟨_, rfl⟩
  · exact ⟨s.rc.filter, rfl⟩

/-- A reset of a door writes the filter, the end of its poll, the orders and its reported fields alone. -/
theorem resetDoor_eq (d : DoorIx) (old new : Nat) (s : State) :
    ∃ v, resetDoor d old new s = { s with rc := { s.rc with
      filter := v, pollEnded := s.rc.pollEnded || decide (s.rc.polled = some d)
      orders := s.rc.orders.filter fun x => decide (x.door ≠ d)
      reported := put s.rc.reported d Reported.start } } := by
  obtain ⟨v, hv⟩ := setFilter_eq old none s
  obtain ⟨w, hw⟩ := setFilter_eq new none (s.setFilter old none)
  refine ⟨w, ?_⟩
  unfold resetDoor resetFilters unqueueOrder endPollOf
  rw [hw, hv]
  by_cases h : s.rc.polled = some d
  · simp [h, endPoll, State.modReported, upd, put]
  · simp [h, State.modReported, upd, put]

/-- The records of the doors that a door write leaves. -/
theorem isPresent_withDoor (s : State) (d x : DoorIx) (c : DoorConfig) (t : State) (h : t.tables = withDoor s.tables d c) :
    t.isPresent x = if x = d then decide (c.present = 1) else s.isPresent x := by
  unfold State.isPresent
  rw [h]
  by_cases hx : x = d
  · subst hx; simp [withDoor]
  · simp [withDoor, hx, Fin.val_ne_iff.mpr (Ne.symm hx)]

theorem sendOrders_polled (s : State) : (sendOrders s).rc.reported = s.rc.reported ∧ (sendOrders s).cs = s.cs
    ∧ (sendOrders s).gru = s.gru ∧ (sendOrders s).mc = s.mc ∧ (sendOrders s).tables = s.tables := by
  unfold sendOrders
  generalize s.rc.orders = l
  induction l generalizing s with
  | nil => exact ⟨rfl, rfl, rfl, rfl, rfl⟩
  | cons o rest ih =>
    obtain ⟨h1, h2, h3, h4, h5⟩ := ih (sendHeadOrder s)
    have same : (sendHeadOrder s).rc.reported = s.rc.reported ∧ (sendHeadOrder s).cs = s.cs
        ∧ (sendHeadOrder s).gru = s.gru ∧ (sendHeadOrder s).mc = s.mc ∧ (sendHeadOrder s).tables = s.tables := by
      unfold sendHeadOrder
      split <;> exact ⟨rfl, rfl, rfl, rfl, rfl⟩
    obtain ⟨g1, g2, g3, g4, g5⟩ := same
    exact ⟨h1.trans g1, h2.trans g2, h3.trans g3, h4.trans g4, h5.trans g5⟩

theorem partBusy_eq_false {s : State} (h : partBusy s = false) : (∀ d : DoorIx, s.entry d = none) ∧ liveRuns s = [] := by
  unfold partBusy at h
  simp only [Bool.or_eq_false_iff, Bool.not_eq_false', List.isEmpty_iff, List.any_eq_false] at h
  exact ⟨fun d => by simpa using h.1 d (by simp [allDoors]), h.2⟩

theorem idleLaw_of_micro {s t : State} (h : Micro s t) (hs : IdleLaw s) : IdleLaw t := by
  cases h with
  | calm h => exact idleLaw_of_calm h hs
  | place p f => exact idleLaw_of_alarmFrame (PlaceFrame.place p f s).toAlarmFrame hs
  | joinPart p =>
    unfold joinPart
    split <;> [(split <;> exact hs); exact hs]
  | raise k x => exact idleLaw_of_alarmFrame (.raiseAlarm k x s) hs
  | event x => exact idleLaw_of_alarmFrame (.raiseEvent _ x s) hs
  | clear k x => exact idleLaw_of_alarmFrame (.clearAlarm k x s) hs
  | ack k x => exact idleLaw_of_alarmFrame (.ackNamed k x s) hs
  | queueOrder | passage | miss | writeHpu | writeGroup | writePermit | writeSystem => exact idleLaw_congr rfl rfl rfl rfl rfl hs
  | entry d e _ h => exact idleLaw_of_inService h
  | run h frame => exact idleLaw_of_inService (by unfold State.inService at *; rw [frame.part]; exact h)
  | mode m _ h => exact idleLaw_of_inService h
  | poll d _ h => exact idleLaw_of_inService h
  | writeDoor d c =>
    unfold doorSet
    simp only
    split
    · obtain ⟨v, hv⟩ := resetDoor_eq d s.tables.doors[d].node c.node (setTables (withDoor s.tables d c) s)
      rw [hv]
      exact idleLaw_congr (s := s) rfl rfl rfl rfl rfl hs
    · exact hs
  | serve => exact idleLaw_of_inService rfl
  | retire _ hmode hbusy =>
    obtain ⟨-, hcs, hgru, hmc, -⟩ := sendOrders_polled (setPart .UNCONFIGURED (ringQuiet s))
    obtain ⟨hentry, hlive⟩ := partBusy_eq_false hbusy
    intro _
    refine ⟨?_, fun d => ?_, ?_, rfl⟩
    · exact (congrArg Mc.mode hmc).trans hmode
    · exact (congrArg (fun c : Cs => c.entries[d]) hcs).trans (hentry d)
    · unfold retired stopPolling liveRuns
      rw [hgru]
      exact hlive
  | reset =>
    intro hout
    exact ⟨(hs hout).1, fun d => by simp [resetAsserted, State.entry, Cs.empty],
      liveRuns_eq_nil_iff.mpr ⟨fun i => by simp [SlotIdle, resetAsserted, Gru.cold], rfl⟩, rfl⟩
  | cold t x =>
    intro _
    exact ⟨rfl, fun d => by simp [coldState, recomputeReleased, writeComps, State.entry, Cs.empty],
      liveRuns_eq_nil_iff.mpr ⟨fun i => by simp [SlotIdle, coldState, recomputeReleased, writeComps, Gru.cold], rfl⟩, rfl⟩
  | warm =>
    intro _
    exact ⟨rfl, fun d => by simp [warmState, recomputeReleased, writeComps, State.entry, Cs.empty],
      liveRuns_eq_nil_iff.mpr ⟨fun i => by simp [SlotIdle, warmState, recomputeReleased, writeComps, Gru.cold], rfl⟩, rfl⟩

theorem absentLaw_of_micro {s t : State} (h : Micro s t) (hs : AbsentLaw s) : AbsentLaw t := by
  cases h with
  | calm h => exact absentLaw_of_calm h hs
  | run _ h =>
    exact absentLaw_of_calm h (absentLaw_of_rc (s := s) rfl rfl hs)
  | place p f => exact absentLaw_of_alarmFrame (PlaceFrame.place p f s).toAlarmFrame hs
  | joinPart p =>
    unfold joinPart
    split <;> [(split <;> exact hs); exact hs]
  | raise k x => exact absentLaw_of_alarmFrame (.raiseAlarm k x s) hs
  | event x => exact absentLaw_of_alarmFrame (.raiseEvent _ x s) hs
  | clear k x => exact absentLaw_of_alarmFrame (.clearAlarm k x s) hs
  | ack k x => exact absentLaw_of_alarmFrame (.ackNamed k x s) hs
  | queueOrder | entry | passage | mode | writeHpu | writeGroup | writePermit | writeSystem | serve =>
    exact absentLaw_congr rfl rfl rfl rfl hs
  | poll d _ _ hd =>
    intro x hx
    refine ⟨(hs x hx).1, fun hp => ?_⟩
    obtain rfl : d = x := Option.some.inj hp
    rw [State.isPresent] at hd hx
    exact absurd (hd.symm.trans hx) (by decide)
  | miss d f _ hpolled hopen =>
    intro x hx
    have hne : x ≠ d := by
      rintro rfl
      rw [(hs x hx).2 hpolled] at hopen
      cases hopen
    refine ⟨?_, fun _ => rfl⟩
    simpa [State.modReported, endPoll, Fin.val_ne_iff.mpr (Ne.symm hne)] using (hs x hx).1
  | writeDoor d c =>
    intro x hx
    unfold doorSet at *
    simp only at *
    split at hx
    · next hmoved =>
      obtain ⟨v, hv⟩ := resetDoor_eq d s.tables.doors[d].node c.node (setTables (withDoor s.tables d c) s)
      rw [hv] at hx
      rw [if_pos hmoved, hv]
      rw [isPresent_withDoor s d x c _ rfl] at hx
      by_cases hxd : x = d
      · subst hxd
        exact ⟨by simp, fun hp => (Bool.or_eq_true _ _).mpr (Or.inr (decide_eq_true hp))⟩
      · rw [if_neg hxd] at hx
        obtain ⟨hreported, hpoll⟩ := hs x hx
        refine ⟨?_, fun hp => ?_⟩
        · simpa [setTables, Fin.val_ne_iff.mpr (Ne.symm hxd)] using hreported
        · simpa [setTables] using Or.inl (hpoll hp)
    · next hmoved =>
      rw [if_neg hmoved]
      refine hs x ?_
      rw [isPresent_withDoor s d x c _ rfl] at hx
      by_cases hxd : x = d
      · subst hxd
        rw [if_pos rfl] at hx
        have hsame : s.tables.doors[x].present = c.present := by
          simpa [DoorConfig.moved] using (by simpa [DoorConfig.moved] using hmoved : _ ∧ _).2
        rw [State.isPresent, hsame]
        exact hx
      · rwa [if_neg hxd] at hx
  | retire =>
    obtain ⟨hreported, -, -, -, htables⟩ := sendOrders_polled (setPart .UNCONFIGURED (ringQuiet s))
    refine absentLaw_unpolled (fun d hd => ?_) rfl
    have hsame : (retired s).rc.reported = s.rc.reported := hreported
    rw [hsame]
    exact (hs d (by rw [← hd]; exact (isPresent_congr (s := s) (t := retired s) htables d).symm)).1
  | reset => exact absentLaw_unpolled (fun d hd => (hs d hd).1) rfl
  | cold t x => exact absentLaw_unpolled (fun d _ => by simp [coldState, recomputeReleased, writeComps, Rc.cold]) rfl
  | warm => exact absentLaw_unpolled (fun d _ => by simp [warmState, recomputeReleased, writeComps, Rc.cold]) rfl

/-! ### Passage records -/

/-- No passage record stands in LOCAL (R108). -/
def PassageLaw (s : State) : Prop := s.mc.mode = .LOCAL → ∀ d : DoorIx, s.passage d = none

section
variable {s t : State}

theorem passageLaw_of_calm (h : Calm s t) (hs : PassageLaw s) : PassageLaw t := by
  intro hmode d
  have hd := h.passages d
  rw [hs (h.mode.symm.trans hmode) d] at hd
  simpa using hd

theorem passageLaw_congr (hmc : t.mc = s.mc) (hs : PassageLaw s) : PassageLaw t := by
  unfold PassageLaw State.passage at *
  rw [hmc]
  exact hs

theorem passageLaw_of_mode_ne (h : t.mc.mode ≠ .LOCAL) : PassageLaw t := fun hm => absurd hm h

/-- A micro step keeps the law; an entry into service finds the part in LOCAL. -/
theorem passageLaw_of_micro (h : Micro s t) (hidle : IdleLaw s) (hs : PassageLaw s) : PassageLaw t := by
  cases h with
  | calm h => exact passageLaw_of_calm h hs
  | run _ h => exact passageLaw_of_calm h (passageLaw_congr (s := s) rfl hs)
  | place p f => exact passageLaw_congr (PlaceFrame.place p f s).mc hs
  | joinPart p =>
    unfold joinPart
    split <;> [(split <;> exact hs); exact hs]
  | raise k x => exact passageLaw_congr (AlarmFrame.raiseAlarm k x s).mc hs
  | event x => exact passageLaw_congr (AlarmFrame.raiseEvent _ x s).mc hs
  | clear k x => exact passageLaw_congr (AlarmFrame.clearAlarm k x s).mc hs
  | ack k x => exact passageLaw_congr (AlarmFrame.ackNamed k x s).mc hs
  | queueOrder | entry | poll | miss | writeHpu | writeGroup | writePermit | writeSystem => exact passageLaw_congr rfl hs
  | passage d x _ h => exact passageLaw_of_mode_ne h
  | mode m _ _ hm => exact passageLaw_of_mode_ne hm
  | writeDoor d c =>
    unfold doorSet
    simp only
    split
    · obtain ⟨v, hv⟩ := resetDoor_eq d s.tables.doors[d].node c.node (setTables (withDoor s.tables d c) s)
      rw [hv]
      exact passageLaw_congr (s := s) rfl hs
    · exact hs
  | serve m _ h => exact fun _ d => hs (hidle h).1 d
  | retire =>
    obtain ⟨-, -, -, hmc, -⟩ := sendOrders_polled (setPart .UNCONFIGURED (ringQuiet s))
    exact passageLaw_congr (s := s) hmc hs
  | reset => exact fun _ d => by simp [resetAsserted, State.passage]
  | cold t x => exact fun _ d => by simp [coldState, recomputeReleased, writeComps, State.passage, Mc.cold]
  | warm => exact fun _ d => by simp [warmState, recomputeReleased, writeComps, State.passage, Mc.cold]

end

theorem idleLaw_of_steps {s t : State} (h : Steps s t) : IdleLaw s → IdleLaw t :=
  h.preserves (fun _ _ m hs => idleLaw_of_micro m hs)
    (fun s hs hout => by obtain ⟨-, h⟩ := hs hout; exact ⟨rfl, h⟩)

theorem absentLaw_of_steps {s t : State} (h : Steps s t) : AbsentLaw s → AbsentLaw t :=
  h.preserves (fun _ _ m hs => absentLaw_of_micro m hs) fun _ hs => hs

theorem passageLaw_of_steps {s t : State} (h : Steps s t) (hidle : IdleLaw s) (hs : PassageLaw s) : PassageLaw t := by
  induction h with
  | refl => exact hs
  | tail h m ih => exact passageLaw_of_micro m (idleLaw_of_steps h hidle) (ih hidle hs)
  | enterLocal _ _ _ hnone => exact fun _ => hnone

theorem quietLaw_iff (s : State) : QuietLaw s ↔ PassageLaw s ∧ IdleLaw s := by
  unfold PassageLaw IdleLaw
  rw [liveRuns_eq_nil_iff]
  constructor
  · rintro ⟨hpassage, hout⟩
    exact ⟨hpassage, fun h => by obtain ⟨h1, h2, h3, h4, h5⟩ := hout h; exact ⟨h1, h2, ⟨h3, h4⟩, h5⟩⟩
  · rintro ⟨hpassage, hout⟩
    exact ⟨hpassage, fun h => by obtain ⟨h1, h2, ⟨h3, h4⟩, h5⟩ := hout h; exact ⟨h1, h2, h3, h4, h5⟩⟩

/-! ### The EMERGENCY CLOSE line -/

/-- What the law of the line does not speak of may be written. -/
def offLine : Writes := { tables := true, image := true, seconds := true, snap := true, pin := true }

section
variable {s t : State}

theorem emergencyLaw_congr (hpart : t.cfs.part = s.cfs.part) (hline : t.mc.line = s.mc.line)
    (hmode : t.mc.mode = s.mc.mode) (hs : EmergencyLaw s) : EmergencyLaw t := by
  unfold EmergencyLaw State.inService at *
  rw [hpart, hline, hmode]
  exact hs

theorem emergencyLaw_of_frame (h : SlowFrame offLine s t) : EmergencyLaw s → EmergencyLaw t :=
  emergencyLaw_congr (h.part rfl) (h.line rfl) (h.mode rfl)

theorem emergencyLaw_of_mode (h : t.mc.mode = .EMERGENCY) : EmergencyLaw t := fun _ _ => h
theorem emergencyLaw_of_line (h : t.mc.line = false) : EmergencyLaw t := fun _ hl => by rw [h] at hl; cases hl

theorem takeSlot_mc (i : SlotIx) (g : GroupRef) (dir : Direction) (cls : Nat) (x : SourceGroup) (o : RunOrigin) (s : State) :
    (takeSlot i g dir cls x o s).mc = s.mc := by
  unfold takeSlot
  simp only
  split <;> rfl

theorem launchSystem_mode (cls : Nat) (o : RunOrigin) (s : State) : (launchSystem cls o s).mc.mode = s.mc.mode := by
  unfold launchSystem
  simp only
  rw [takeSlot_mc]
  split
  · exact ((RunFrame.settleRuns s).trans (.detachTag ..)).mode
  · exact (RunFrame.settleRuns s).mode

theorem frame_raiseForEmergency (s : State) : RunFrame s (raiseForEmergency s) := by
  refine RunFrame.request (fun d v => ?_) _ s
  unfold raiseEntry
  split
  · exact (ScheduleFrame.setEntry ..).toRunFrame
  · exact .refl v

theorem frame_denyForEmergency (s : State) : RunFrame s (denyForEmergency s) := .removeAll ..

theorem frame_reverseForEmergency (o : Origin) (s : State) : RunFrame s (reverseForEmergency o s) :=
  RunFrame.request (fun d v => .reverseOne o d v) _ s

theorem frame_takePassage (d : DoorIx) (s : State) : RunFrame s (takePassage d s) := by
  unfold takePassage
  split
  · split
    · exact .refl s
    · exact (RunFrame.endPassage d s).trans (.decideDemand ..)
  · exact .refl s

theorem enterEmergency_mode (c : EmergencyCause) (s : State) : (enterEmergency c s).mc.mode = .EMERGENCY := by
  unfold enterEmergency
  rw [launchSystem_mode]
  exact ((((frame_raiseForEmergency _).trans (frame_denyForEmergency _)).trans (frame_reverseForEmergency ..)).trans
    (.forEach frame_takePassage allDoors _)).mode

theorem emergencyLaw_evalBridge (hs : EmergencyLaw s) : EmergencyLaw (evalBridge s) := by
  have written (b : Bool) : SlowFrame offLine s (setBridgeLost b s) := {}
  unfold evalBridge
  split
  · exact hs
  · split
    · split
      · exact hs
      · have lost := emergencyLaw_of_frame
          ((written true).trans (.ofAlarm (.raiseAlarm .BRIDGE_LOST noSubject (setBridgeLost true s)))) hs
        unfold loseBridge
        simp only
        split
        · next h =>
          intro hin hline
          have frame := BlockFrame.enterClosedFromLocal (raiseAlarm .BRIDGE_LOST noSubject (setBridgeLost true s))
          unfold State.inService at hin
          rw [frame.cfs] at hin
          rw [frame.line] at hline
          exact absurd (h.2.symm.trans (lost hin hline)) (by decide)
        · exact lost
    · split
      · exact emergencyLaw_of_frame ((written false).trans (.ofAlarm (.clearAlarm ..))) hs
      · exact hs

theorem emergencyLaw_heartbeat (p : PortIx) (hs : EmergencyLaw s) : EmergencyLaw (heartbeat p s) := by
  have port (f : StationPort → StationPort) : SlowFrame offLine s (s.modPort p f) := .modPort ..
  unfold heartbeat heartbeatTaken
  split
  · split
    · exact emergencyLaw_of_frame (port _) hs
    · simp only
      split
      · exact emergencyLaw_evalBridge
          (emergencyLaw_of_frame (((port _).trans (.modPort ..)).trans (.ofAlarm (.clearAlarm ..))) hs)
      · exact emergencyLaw_of_frame (port _) hs
  · exact hs

theorem emergencyLaw_fallSilent (p : PortIx) (hs : EmergencyLaw s) : EmergencyLaw (fallSilent p s) :=
  emergencyLaw_evalBridge (emergencyLaw_of_frame ((SlowFrame.modPort s p _).trans (.ofAlarm (.raiseAlarm ..))) hs)

theorem emergencyLaw_permitWritten (p : PortIx) (old new : PermitRow) (hs : EmergencyLaw s) :
    EmergencyLaw (permitWritten p old new s) := by
  have written : SlowFrame offLine s (setTables { s.tables with permits := put s.tables.permits p new } s) :=
    .setTables rfl _ s (.inr rfl)
  exact emergencyLaw_of_frame (.pacingWritten ..) (emergencyLaw_evalBridge
    (emergencyLaw_of_frame (written.trans (.heartbeatWritten ..)) hs))

theorem emergencyLaw_requestLocal (p : PortIx) (hs : EmergencyLaw s) : EmergencyLaw (requestLocal p s) := by
  unfold requestLocal
  split
  · exact emergencyLaw_of_frame (.answerDone ..) hs
  · next hmode =>
    have frame : SlowFrame { offLine with mode := true } s (answerDone p 2 false [] (settleRuns (enterLocal s))) :=
      ((SlowFrame.enterLocal rfl s).trans (.settleRuns _)).trans (.answerDone ..)
    intro hin hline
    unfold State.inService at hin
    rw [frame.part rfl] at hin
    rw [frame.line rfl] at hline
    exact absurd (hmode.symm.trans (hs hin hline)) (by decide)
  · exact emergencyLaw_of_frame (.refuse ..) hs

theorem emergencyLaw_requestClosed (p : PortIx) (hs : EmergencyLaw s) : EmergencyLaw (requestClosed p s) := by
  unfold requestClosed
  split
  · next hmode =>
    have frame : SlowFrame { offLine with mode := true } s (answerDone p 2 false [] (settleRuns (enterClosedFromLocal s))) :=
      ((SlowFrame.ofBlock rfl (.enterClosedFromLocal s)).trans (.settleRuns _)).trans (.answerDone ..)
    intro hin hline
    unfold State.inService at hin
    rw [frame.part rfl] at hin
    rw [frame.line rfl] at hline
    exact absurd (hmode.symm.trans (hs hin hline)) (by decide)
  · exact emergencyLaw_of_frame (.answerDone ..) hs
  · split
    · exact emergencyLaw_of_frame (.refuse ..) hs
    · next hline =>
      exact emergencyLaw_of_frame (s := setMode .CLOSED s) (.answerDone ..) (emergencyLaw_of_line (by simpa using hline))

theorem emergencyLaw_requestEmergency (p : PortIx) (hs : EmergencyLaw s) : EmergencyLaw (requestEmergency p s) := by
  have entered : EmergencyLaw (answerDone p 2 false [] (settleRuns (enterEmergency .MODE s))) :=
    emergencyLaw_of_frame ((SlowFrame.settleRuns _).trans (.answerDone ..)) (emergencyLaw_of_mode (enterEmergency_mode ..))
  unfold requestEmergency
  split
  · exact entered
  · exact entered
  · exact emergencyLaw_of_frame (.answerDone ..) hs

theorem emergencyLaw_lineAsserted (s : State) : EmergencyLaw (lineAsserted s) := by
  unfold lineAsserted
  simp only
  split
  · exact emergencyLaw_of_frame (.settleRuns _) (emergencyLaw_of_mode (enterEmergency_mode ..))
  · next h => exact fun hin _ => by simpa [hin] using h

theorem emergencyLaw_lineReleased (s : State) : EmergencyLaw (lineReleased s) :=
  emergencyLaw_of_frame (s := setLine false s) (.ofAlarm (.clearAlarm ..)) (emergencyLaw_of_line rfl)

/-! ### Starts and the end of service -/

theorem emergencyLaw_enterStartMode (s : State) : EmergencyLaw (enterStartMode s) := by
  unfold enterStartMode
  refine emergencyLaw_evalBridge ?_
  split
  · exact emergencyLaw_of_mode (enterEmergency_mode ..)
  · next hline =>
    have hline : s.mc.line = false := by simpa using hline
    have frame : SlowFrame { mode := true } s
        (if s.tables.system.startMode = 1 then enterClosedFromLocal s else enterLocal s) :=
      .ite (.ofBlock rfl (.enterClosedFromLocal s)) (.enterLocal rfl s)
    exact emergencyLaw_of_line ((frame.line rfl).trans hline)

theorem emergencyLaw_enterBlocks (s : State) : EmergencyLaw (enterBlocks s) :=
  emergencyLaw_of_frame (((SlowFrame.startHeartbeats _).trans (.startRing _)).trans (.settleRuns _))
    (emergencyLaw_enterStartMode _)

theorem emergencyLaw_enterService (s : State) : EmergencyLaw (enterService s) :=
  emergencyLaw_of_frame (.sendSummaries _) (emergencyLaw_enterBlocks s)

theorem emergencyLaw_commission (p : PortIx) (hs : EmergencyLaw s) : EmergencyLaw (commission p s) := by
  have chosen (u : State) : SlowFrame offLine u (freeChoice Config.resultBeforeSummary u).2 := {}
  unfold commission
  split
  · exact emergencyLaw_of_frame (.refuse ..) hs
  · split
    · exact emergencyLaw_of_frame (.refuseWith ..) hs
    · refine emergencyLaw_of_frame ?_ (emergencyLaw_enterBlocks s)
      unfold commissionTaken
      generalize enterBlocks s = t
      refine .ite ((chosen t).trans (.ite ?_ ?_)) ?_
      · exact (SlowFrame.answerDone ..).trans (.sendSummaries _)
      · exact (SlowFrame.sendSummaries _).trans (.answerDone ..)
      · exact (SlowFrame.sendSummaries _).trans (.answerDone ..)

/-- A part that has left service. -/
theorem emergencyLaw_of_part (h : t.cfs.part = .UNCONFIGURED) : EmergencyLaw t := by
  intro hin
  unfold State.inService at hin
  rw [h] at hin
  cases hin

theorem emergencyLaw_coldStart (s : State) : EmergencyLaw (coldStart s) := by
  have out (t : Tables) (x : ImageStatus) (f : State → State) (hf : ∀ u, SlowFrame offLine u (f u)) :
      EmergencyLaw (f (coldState t x s)) :=
    emergencyLaw_of_part (((hf _).part rfl).trans (by unfold coldState recomputeReleased writeComps; rfl))
  unfold coldStart
  split
  · split
    · exact emergencyLaw_enterService _
    · exact out _ _ (fun u => raiseLine (raiseStore u)) fun u => (SlowFrame.raiseStore u).trans (.raiseLine _)
  · exact out _ _ (fun u => raiseLine (raiseStore u)) fun u => (SlowFrame.raiseStore u).trans (.raiseLine _)

theorem emergencyLaw_warmRestart (s : State) : EmergencyLaw (warmRestart s) := by
  unfold warmRestart
  simp only
  refine emergencyLaw_of_frame (.raiseStore _) ?_
  split
  · exact emergencyLaw_enterService _
  · exact emergencyLaw_of_part
      (((SlowFrame.raiseLine (w := offLine) (warmState s)).part rfl).trans
        (by unfold warmState recomputeReleased writeComps; rfl))

/-! ### The commands -/

theorem emergencyLaw_decideCommand {take : State → State} (h : ∀ u, EmergencyLaw u → EmergencyLaw (take u)) (g : Gate)
    (b : Bool) (p : PortIx) (hs : EmergencyLaw s) : EmergencyLaw (decideCommand g b p take s) := by
  have accepted : EmergencyLaw (acceptFrame p s) := emergencyLaw_of_frame (.modPort s p _) hs
  unfold decideCommand
  simp only
  split
  · exact emergencyLaw_of_frame (.refuse ..) accepted
  · exact h _ accepted

theorem emergencyLaw_decideWrite {write : State → State} (h : EmergencyLaw (write s)) (p : PortIx) (inUse refused clamped : Bool)
    (conflict : Option RecordName) (hs : EmergencyLaw s) :
    EmergencyLaw (decideWrite p inUse refused clamped conflict write s) := by
  unfold decideWrite
  split
  · exact emergencyLaw_of_frame (.refuse ..) hs
  · split
    · exact emergencyLaw_of_frame (.refuse ..) hs
    · split
      · exact emergencyLaw_of_frame (.refuseWith ..) hs
      · exact emergencyLaw_of_frame ((SlowFrame.settleRuns _).trans (.answerDone ..)) h

theorem emergencyLaw_writePermit (p : PortIx) (i : Byte) (l : List Byte) (hs : EmergencyLaw s) :
    EmergencyLaw (writePermit p i l s) := by
  unfold writePermit
  split
  · exact emergencyLaw_decideWrite (emergencyLaw_permitWritten _ _ _ hs) _ _ _ _ _ hs
  · exact emergencyLaw_of_frame (.refuse ..) hs

theorem emergencyLaw_awake {f : State → State} (h : awake f s = .next t) (hs : EmergencyLaw s)
    (hf : EmergencyLaw s → EmergencyLaw (f s)) : EmergencyLaw t := by
  injection h with h
  subst h
  split
  · exact hs
  · exact hf hs

/-- A DECOMMISSION that is taken finds the part in LOCAL, so that the line is released. -/
theorem emergencyLaw_decommission (p : PortIx) (hs : EmergencyLaw s) : EmergencyLaw (decommission p s) := by
  by_cases hlocal : s.inService = true ∧ s.mc.mode = .LOCAL
  · obtain ⟨hin, hmode⟩ := hlocal
    have released : s.mc.line = false := by
      by_contra hline
      exact absurd (hmode.symm.trans (hs hin (by simpa using hline))) (by decide)
    exact emergencyLaw_of_line (((SlowFrame.decommission (w := { part := true, shown := true }) rfl rfl p s).line rfl).trans released)
  · have refused : decommission p s = refuse p decommissionKind .WRONG_MODE s := by
      unfold decommission
      rw [if_pos]
      by_contra h
      exact hlocal (by simpa [not_or] using h)
    rw [refused]
    exact emergencyLaw_of_frame (.refuse ..) hs

/-- Every command keeps the law of the line: the ones that write the mode, the line or the part state one by one. -/
theorem emergencyLaw_of_exec {c : Instr} (h : exec c s = .next t) (hs : EmergencyLaw s) : EmergencyLaw t := by
  have frame := exec_slowFrame h
  cases c with
  | heartbeat p => exact emergencyLaw_awake h hs (emergencyLaw_decideCommand (fun _ => emergencyLaw_heartbeat p) _ _ _)
  | modeSetLocal p => exact emergencyLaw_awake h hs (emergencyLaw_decideCommand (fun _ => emergencyLaw_requestLocal p) _ _ _)
  | modeSetClosed p => exact emergencyLaw_awake h hs (emergencyLaw_decideCommand (fun _ => emergencyLaw_requestClosed p) _ _ _)
  | modeSetEmergency p =>
    exact emergencyLaw_awake h hs (emergencyLaw_decideCommand (fun _ => emergencyLaw_requestEmergency p) _ _ _)
  | heartbeatWindowExpiry p =>
    refine emergencyLaw_awake h hs fun _ => ?_
    split
    · exact emergencyLaw_fallSilent p hs
    · exact hs
  | tableWritePermitRow p i l =>
    refine emergencyLaw_awake h hs fun _ => ?_
    unfold writeOfLength
    split
    · exact emergencyLaw_decideCommand (fun _ => emergencyLaw_writePermit p i l) _ _ _ hs
    · exact emergencyLaw_of_frame (.modPort ..) hs
  | commission p => exact emergencyLaw_awake h hs (emergencyLaw_decideCommand (fun _ => emergencyLaw_commission p) _ _ _)
  | decommission p => exact emergencyLaw_awake h hs (emergencyLaw_decideCommand (fun _ => emergencyLaw_decommission p) _ _ _)
  | warmRestart =>
    refine emergencyLaw_awake h hs fun _ => ?_
    split
    · exact emergencyLaw_warmRestart s
    · exact hs
  | coldStart => injection h with h; subst h; exact emergencyLaw_coldStart s
  | emergencyCloseAsserted =>
    change awake (fun t => if t.mc.line then t else lineAsserted t) (setPin true s) = _ at h
    refine emergencyLaw_awake h hs fun hs => ?_
    split
    · exact hs
    · exact emergencyLaw_lineAsserted _
  | emergencyCloseReleased =>
    change awake (fun t => if t.mc.line then lineReleased t else t) (setPin false s) = _ at h
    refine emergencyLaw_awake h hs fun hs => ?_
    split
    · exact emergencyLaw_lineReleased _
    · exact hs
  | _ => exact emergencyLaw_congr (frame.part rfl) (frame.line rfl) (frame.mode rfl) hs

end

/-- Settles O7. -/
theorem modeLawsKept : Obligations.ModeLawsKept := by
  rintro s t ⟨hline, hquiet, habsent⟩ h
  unfold step at h
  split at h
  · injection h with h
    subst h
    exact ⟨hline, hquiet, habsent⟩
  · next c rest _ =>
    obtain ⟨hpassage, hidle⟩ := (quietLaw_iff s).mp hquiet
    have steps := exec_steps h
    exact ⟨emergencyLaw_of_exec h hline,
      (quietLaw_iff t).mpr ⟨passageLaw_of_steps steps hidle hpassage, idleLaw_of_steps steps hidle⟩,
      absentLaw_of_steps steps habsent⟩

end Sys2Proof.Proofs
end

section
/-! ## The commissioning checks (R85, R181): each check as the condition that it names -/
namespace Sys2Proof.Proofs
open Sys2Proof Sys2Proof.Machine

set_option Elab.async false

theorem orElse_eq_none {α : Type} {a b : Option α} : orElse a b = none ↔ a = none ∧ b = none := by
  cases a <;> simp [orElse]

theorem find?_allDoors {p : DoorIx → Bool} : allDoors.find? p = none ↔ ∀ d : DoorIx, p d = false := by
  simp [List.find?_eq_none, allDoors]
theorem find?_allHpus {p : HpuIx → Bool} : allHpus.find? p = none ↔ ∀ h : HpuIx, p h = false := by
  simp [List.find?_eq_none, allHpus]
theorem find?_allGroups {p : GroupIx → Bool} : allGroups.find? p = none ↔ ∀ g : GroupIx, p g = false := by
  simp [List.find?_eq_none, allGroups]
theorem find?_allPorts {p : PortIx → Bool} : allPorts.find? p = none ↔ ∀ q : PortIx, p q = false := by
  simp [List.find?_eq_none, allPorts]

/-! ### The conditions -/

/-- No field holds a value that a write refuses. -/
def Unrefused (t : Tables) : Prop :=
  (∀ d : DoorIx, (t.doors[d]).refused = false) ∧ (∀ h : HpuIx, (t.hpus[h]).refused = false)
  ∧ (∀ g : GroupIx, (t.groups[g]).refused = false) ∧ (∀ p : PortIx, (t.permits[p]).refused = false)
  ∧ t.system.refused = false

/-- No two present nodes share an address. -/
def NodesApart (t : Tables) : Prop :=
  (∀ a b : DoorIx, a ≠ b → t.doorPresent a = true → t.doorPresent b = true → t.doors[a].node ≠ t.doors[b].node)
  ∧ (∀ a b : HpuIx, a ≠ b → t.hpuPresent a = true → t.hpuPresent b = true → t.hpus[a].node ≠ t.hpus[b].node)
  ∧ (∀ (d : DoorIx) (h : HpuIx), t.doorPresent d = true → t.hpuPresent h = true → t.doors[d].node ≠ t.hpus[h].node)

section
variable {t : Tables}

theorem check0_eq_none : check0 t = none ↔ Unrefused t := by
  unfold check0 Unrefused
  simp only [orElse_eq_none, Option.map_eq_none_iff, find?_allDoors, find?_allHpus, find?_allGroups, find?_allPorts]
  simp

theorem check1_eq_none : check1 t = none ↔ ∃ d : DoorIx, t.doorPresent d = true := by
  unfold check1
  simp [allDoors]

theorem check2_eq_none : check2 t = none ↔ ∀ d : DoorIx, t.doorPresent d = true → t.drawFails d = false := by
  unfold check2
  simp [allDoors]

theorem doorWith_eq_none {n : Nat} {p : DoorIx → Bool} :
    t.doorWith n p = none ↔ ∀ d : DoorIx, p d = true → t.doorPresent d = true → t.doors[d].node ≠ n := by
  unfold Tables.doorWith
  simp [allDoors]

theorem hpuWith_eq_none {n : Nat} {p : HpuIx → Bool} :
    t.hpuWith n p = none ↔ ∀ h : HpuIx, p h = true → t.hpuPresent h = true → t.hpus[h].node ≠ n := by
  unfold Tables.hpuWith
  simp [allHpus]

/-- Of two different records one stands before the other, so that the records walked before are enough to look at. -/
theorem check3_eq_none : check3 t = none ↔ NodesApart t := by
  unfold check3 NodesApart
  simp only [orElse_eq_none, Option.map_eq_none_iff, find?_allDoors, find?_allHpus, Bool.and_eq_false_iff,
    Bool.or_eq_false_iff, Option.isSome_eq_false_iff, Option.isNone_iff_eq_none, doorWith_eq_none, hpuWith_eq_none,
    decide_eq_true_iff]
  constructor
  · rintro ⟨hdoors, hhpus⟩
    have before (a b : DoorIx) (hlt : a < b) (ha : t.doorPresent a = true) (hb : t.doorPresent b = true) :
        t.doors[a].node ≠ t.doors[b].node := (hdoors b).elim (fun h => by simp [hb] at h) fun h => h a hlt ha
    have beforeHpu (a b : HpuIx) (hlt : a < b) (ha : t.hpuPresent a = true) (hb : t.hpuPresent b = true) :
        t.hpus[a].node ≠ t.hpus[b].node := (hhpus b).elim (fun h => by simp [hb] at h) fun h => h.2 a hlt ha
    refine ⟨fun a b hne ha hb => ?_, fun a b hne ha hb => ?_, fun d h hd hh => ?_⟩
    · rcases lt_or_gt_of_ne hne with hlt | hlt
      · exact before a b hlt ha hb
      · exact (before b a hlt hb ha).symm
    · rcases lt_or_gt_of_ne hne with hlt | hlt
      · exact beforeHpu a b hlt ha hb
      · exact (beforeHpu b a hlt hb ha).symm
    · exact (hhpus h).elim (fun g => by simp [hh] at g) fun g => g.1 d trivial hd
  · rintro ⟨hdoors, hhpus, hboth⟩
    refine ⟨fun d => ?_, fun h => ?_⟩
    · cases hd : t.doorPresent d
      · exact .inl rfl
      · exact .inr fun a hlt ha => hdoors a d (ne_of_lt hlt) ha hd
    · cases hh : t.hpuPresent h
      · exact .inl rfl
      · exact .inr ⟨fun a _ ha => hboth a h ha hh, fun a hlt ha => hhpus a h (ne_of_lt hlt) ha hh⟩

theorem check4_eq_none : check4 t = none ↔ ∀ g : GroupIx, t.groupPresent g = true → t.groupFails g = false := by
  unfold check4
  simp [allGroups]

theorem hasService_iff : t.hasService = true ↔ ∃ p : PortIx, t.permits[p].role = 4 := by
  simp [Tables.hasService, allPorts]

theorem check5_eq_none : check5 t = none ↔ t.hasService = true := by
  unfold check5
  split <;> simp_all

/-! ### A group's list -/

theorem ix?_eq_some {n k : Nat} {i : Fin n} : ix? n k = some i ↔ i.val = k := by
  unfold ix?
  split
  · exact ⟨fun h => (by rw [← Option.some.inj h]), fun h => congrArg some (Fin.ext h.symm)⟩
  · next h => exact ⟨nofun, fun hi => absurd i.isLt (hi ▸ h)⟩

/-- The door of a number is present. -/
def numberPresent (t : Tables) (n : Nat) : Prop := ∃ d : DoorIx, d.val = n ∧ t.doorPresent d = true

/-- The door of a number is present, as the check of a list tests it. -/
def presentAt (t : Tables) (n : Nat) : Bool :=
  match ix? 96 n with
  | some d => t.doorPresent d
  | none => false

theorem presentAt_iff {n : Nat} : presentAt t n = true ↔ numberPresent t n := by
  unfold presentAt numberPresent
  constructor
  · intro h
    split at h
    · next d hd => exact ⟨d, ix?_eq_some.mp hd, h⟩
    · cases h
  · rintro ⟨d, hd, h⟩
    rw [ix?_eq_some.mpr hd]
    exact h

theorem listOk_cons (e : GroupEntry) (rest : List GroupEntry) (seen : List Nat) :
    t.listOk seen (e :: rest) = (presentAt t e.door && !seen.contains e.door
      && (decide (e.pre = 127) || (presentAt t e.pre && seen.contains e.pre)) && t.listOk (e.door :: seen) rest) := rfl

/-- The conditions of a list, from the doors already listed on. -/
theorem listOk_iff (l : List GroupEntry) (seen : List Nat) :
    t.listOk seen l = true ↔
      (l.map GroupEntry.door).Nodup ∧ (∀ e ∈ l, e.door ∉ seen) ∧ (∀ e ∈ l, numberPresent t e.door)
      ∧ ∀ k, ∀ e ∈ l[k]?, e.pre = 127 ∨
          (numberPresent t e.pre ∧ (e.pre ∈ seen ∨ e.pre ∈ (l.take k).map GroupEntry.door)) := by
  induction l generalizing seen with
  | nil => simp [Tables.listOk]
  | cons e rest ih =>
    have head : t.listOk seen (e :: rest) = true ↔
        numberPresent t e.door ∧ e.door ∉ seen ∧ (e.pre = 127 ∨ (numberPresent t e.pre ∧ e.pre ∈ seen))
        ∧ t.listOk (e.door :: seen) rest = true := by
      rw [listOk_cons]
      simp [presentAt_iff, and_assoc]
    rw [head, ih]
    constructor
    · rintro ⟨hpresent, hnew, hpre, hnodup, hseen, hall, hlist⟩
      refine ⟨?_, ?_, ?_, ?_⟩
      · rw [List.map_cons, List.nodup_cons]
        refine ⟨fun hmem => ?_, hnodup⟩
        obtain ⟨x, hx, heq⟩ := List.mem_map.mp hmem
        exact hseen x hx (by simp [heq])
      · intro x hx
        rcases List.mem_cons.mp hx with rfl | hx
        · exact hnew
        · exact fun h => hseen x hx (List.mem_cons_of_mem _ h)
      · intro x hx
        rcases List.mem_cons.mp hx with rfl | hx
        · exact hpresent
        · exact hall x hx
      · intro k x hx
        cases k with
        | zero =>
          obtain rfl : e = x := by simpa using hx
          exact hpre.imp_right fun ⟨h1, h2⟩ => ⟨h1, .inl h2⟩
        | succ k =>
          refine (hlist k x (by simpa using hx)).imp_right fun ⟨h1, h2⟩ => ⟨h1, ?_⟩
          simp only [List.mem_cons, List.take_succ_cons, List.map_cons] at h2 ⊢
          tauto
    · rintro ⟨hnodup, hseen, hall, hlist⟩
      rw [List.map_cons, List.nodup_cons] at hnodup
      refine ⟨hall e (by simp), hseen e (by simp), ?_, hnodup.2, ?_, ?_, ?_⟩
      · have h := hlist 0 e (by simp)
        simpa using h
      · intro x hx hmem
        rcases List.mem_cons.mp hmem with heq | hmem
        · exact hnodup.1 (heq ▸ List.mem_map_of_mem hx)
        · exact hseen x (List.mem_cons_of_mem _ hx) hmem
      · exact fun x hx => hall x (List.mem_cons_of_mem _ hx)
      · intro k x hx
        refine (hlist (k + 1) x (by simpa using hx)).imp_right fun ⟨h1, h2⟩ => ⟨h1, ?_⟩
        simp only [List.mem_cons, List.take_succ_cons, List.map_cons] at h2 ⊢
        tauto

theorem groupFails_eq_false {g : GroupIx} : t.groupFails g = false ↔ ListOk t t.groups[g].entries := by
  unfold Tables.groupFails ListOk
  rw [Bool.or_eq_false_iff, Bool.not_eq_false', listOk_iff]
  simp only [List.isEmpty_eq_false_iff, List.not_mem_nil, not_false_eq_true, implies_true, true_and, false_or]
  refine and_congr_right fun _ => and_congr_right fun _ => and_congr_right fun _ => ?_
  refine ⟨fun h k _ => h k, fun h k e he => h k ?_ e he⟩
  obtain ⟨hk, -⟩ := List.getElem?_eq_some_iff.mp he
  exact List.mem_range.mpr hk

/-! ### A door's HPU -/

theorem hpu_le_of_unrefused {c : DoorConfig} (h : c.refused = false) : c.hpu ≤ 7 := by
  simp [DoorConfig.refused] at h
  omega

theorem drawFails_eq_false {d : DoorIx} (h : (t.doors[d]).hpu ≤ 7) :
    t.drawFails d = false ↔
      ∀ x : HpuIx, x.val = t.doors[d].hpu → t.hpuPresent x = true ∧ t.doors[d].draw ≤ t.hpus[x].capacity - t.hpus[x].reserve := by
  have hix (x : HpuIx) : x.val = t.doors[d].hpu ↔ x = (t.doors[d]).hpuIx := by
    have hmod : ((t.doors[d]).hpuIx).val = t.doors[d].hpu := Nat.mod_eq_of_lt (by omega)
    rw [Fin.ext_iff, hmod]
  simp only [hix, forall_eq]
  unfold Tables.drawFails HpuConfig.free
  simp only [Bool.or_eq_false_iff, Bool.not_eq_false', decide_eq_false_iff_not, Nat.not_lt]

/-- R181: the checks, each as its condition. -/
theorem commissionChecks_eq_none : commissionChecks t = none ↔
    Unrefused t ∧ (∃ d : DoorIx, t.doorPresent d = true)
    ∧ (∀ d : DoorIx, t.doorPresent d = true → t.drawFails d = false) ∧ NodesApart t
    ∧ (∀ g : GroupIx, t.groupPresent g = true → ListOk t t.groups[g].entries) ∧ t.hasService = true := by
  unfold commissionChecks
  simp only [orElse_eq_none, check0_eq_none, check1_eq_none, check2_eq_none, check3_eq_none, check4_eq_none, check5_eq_none,
    groupFails_eq_false]

end

/-- Settles O38. -/
theorem commissioningChecks : Obligations.CommissioningChecks := by
  intro t
  have draws (h0 : Unrefused t) : (∀ d : DoorIx, t.doorPresent d = true → t.drawFails d = false) ↔
      ∀ d : DoorIx, t.doorPresent d = true → ∀ h : HpuIx, h.val = t.doors[d].hpu →
        t.hpuPresent h = true ∧ t.doors[d].draw ≤ t.hpus[h].capacity - t.hpus[h].reserve :=
    forall_congr' fun d => imp_congr_right fun _ => drawFails_eq_false (hpu_le_of_unrefused (h0.1 d))
  rw [commissionChecks_eq_none, hasService_iff]
  refine and_congr_right fun h0 => and_congr_right fun _ => and_congr (draws h0) ?_
  simp only [NodesApart, and_assoc]

end Sys2Proof.Proofs
end

section
/-! ## The law of the tables (R3, R173, R175, R181, R185, R187)

A write whose cross check finds nothing leaves tables that pass the commissioning checks; every other micro step leaves the
tables or brings tables of a start. -/
namespace Sys2Proof.Proofs
open Sys2Proof Sys2Proof.Machine

set_option Elab.async false

/-! ### Reading the tables after a write -/

section
variable (t : Tables)

@[simp] theorem withDoor_doors_self (d : DoorIx) (c : DoorConfig) : (withDoor t d c).doors[d] = c := by
  simp [withDoor]
theorem withDoor_doors_ne {d x : DoorIx} (c : DoorConfig) (h : x ≠ d) : (withDoor t d c).doors[x] = t.doors[x] := by
  simp [withDoor, Fin.val_ne_iff.mpr (Ne.symm h)]
@[simp] theorem withHpu_hpus_self (h : HpuIx) (c : HpuConfig) : (withHpu t h c).hpus[h] = c := by
  simp [withHpu]
theorem withHpu_hpus_ne {h x : HpuIx} (c : HpuConfig) (hne : x ≠ h) : (withHpu t h c).hpus[x] = t.hpus[x] := by
  simp [withHpu, Fin.val_ne_iff.mpr (Ne.symm hne)]
@[simp] theorem withGroup_groups_self (g : GroupIx) (c : GroupRec) : (withGroup t g c).groups[g] = c := by
  simp [withGroup]
theorem withGroup_groups_ne {g x : GroupIx} (c : GroupRec) (h : x ≠ g) : (withGroup t g c).groups[x] = t.groups[x] := by
  simp [withGroup, Fin.val_ne_iff.mpr (Ne.symm h)]
@[simp] theorem withPermit_permits_self (p : PortIx) (c : PermitRow) : (withPermit t p c).permits[p] = c := by
  simp [withPermit]
theorem withPermit_permits_ne {p x : PortIx} (c : PermitRow) (h : x ≠ p) :
    (withPermit t p c).permits[x] = t.permits[x] := by
  simp [withPermit, Fin.val_ne_iff.mpr (Ne.symm h)]

/-- What holds of the written door record and of every other holds of all after the write. -/
theorem withDoor_forall {P : DoorConfig → Prop} {d : DoorIx} {c : DoorConfig} (hc : P c) (ht : ∀ x : DoorIx, P t.doors[x])
    (x : DoorIx) : P (withDoor t d c).doors[x] := by
  by_cases h : x = d
  · subst h; rw [withDoor_doors_self]; exact hc
  · rw [withDoor_doors_ne t c h]; exact ht x
theorem withHpu_forall {P : HpuConfig → Prop} {h : HpuIx} {c : HpuConfig} (hc : P c) (ht : ∀ x : HpuIx, P t.hpus[x])
    (x : HpuIx) : P (withHpu t h c).hpus[x] := by
  by_cases hx : x = h
  · subst hx; rw [withHpu_hpus_self]; exact hc
  · rw [withHpu_hpus_ne t c hx]; exact ht x
theorem withGroup_forall {P : GroupRec → Prop} {g : GroupIx} {c : GroupRec} (hc : P c) (ht : ∀ x : GroupIx, P t.groups[x])
    (x : GroupIx) : P (withGroup t g c).groups[x] := by
  by_cases h : x = g
  · subst h; rw [withGroup_groups_self]; exact hc
  · rw [withGroup_groups_ne t c h]; exact ht x
theorem withPermit_forall {P : PermitRow → Prop} {p : PortIx} {c : PermitRow} (hc : P c) (ht : ∀ x : PortIx, P t.permits[x])
    (x : PortIx) : P (withPermit t p c).permits[x] := by
  by_cases h : x = p
  · subst h; rw [withPermit_permits_self]; exact hc
  · rw [withPermit_permits_ne t c h]; exact ht x

end

/-! ### The commissioning checks after a write -/

section
variable {t u : Tables}

/-- A list stays as it should be where the doors it names stay present. -/
theorem listOk_mono {l : List GroupEntry} (h : ListOk t l)
    (keep : ∀ x : DoorIx, (l.any fun e => decide (e.door = x.val) || decide (e.pre = x.val)) = true →
      t.doorPresent x = true → u.doorPresent x = true) : ListOk u l := by
  obtain ⟨hne, hnodup, hall, hpre⟩ := h
  refine ⟨hne, hnodup, fun e he => ?_, fun k hk e he => ?_⟩
  · obtain ⟨x, hx, hp⟩ := hall e he
    exact ⟨x, hx, keep x (List.any_eq_true.mpr ⟨e, he, by simp [hx]⟩) hp⟩
  · refine (hpre k hk e he).imp_right fun ⟨⟨x, hx, hp⟩, hmem⟩ => ⟨⟨x, hx, keep x ?_ hp⟩, hmem⟩
    exact List.any_eq_true.mpr ⟨e, List.mem_of_getElem? he, by simp [hx]⟩

theorem doorPresent_congr {x : DoorIx} (h : u.doors[x] = t.doors[x]) : u.doorPresent x = t.doorPresent x := by
  unfold Tables.doorPresent; rw [h]
theorem hpuPresent_congr {x : HpuIx} (h : u.hpus[x] = t.hpus[x]) : u.hpuPresent x = t.hpuPresent x := by
  unfold Tables.hpuPresent; rw [h]

/-- A door record whose cross check finds nothing. -/
theorem crossDoor_eq_none {d : DoorIx} : crossDoor t d = none ↔
    (t.doorPresent d = true → t.drawFails d = false
      ∧ (∀ x : DoorIx, x ≠ d → t.doorPresent x = true → t.doors[x].node ≠ t.doors[d].node)
      ∧ ∀ h : HpuIx, t.hpuPresent h = true → t.hpus[h].node ≠ t.doors[d].node)
    ∧ (t.doorPresent d = false → (∃ x : DoorIx, t.doorPresent x = true) ∧ ∀ g : GroupIx, t.lists d g = false) := by
  unfold crossDoor
  cases hd : t.doorPresent d with
  | true =>
    simp only [if_true, orElse_eq_none, Option.map_eq_none_iff, doorWith_eq_none, hpuWith_eq_none, decide_eq_true_iff]
    simp
  | false =>
    rw [if_neg (by simp), orElse_eq_none, Option.map_eq_none_iff, find?_allGroups]
    simp [allDoors]

theorem doorsOn_eq {h : HpuIx} {d : DoorIx} : d ∈ t.doorsOn h ↔ t.doorPresent d = true ∧ t.doors[d].hpu = h.val := by
  simp [Tables.doorsOn, allDoors]

/-- An HPU record whose cross check finds nothing. -/
theorem crossHpu_eq_none {h : HpuIx} : crossHpu t h = none ↔
    (t.hpuPresent h = true → (∀ d : DoorIx, t.doorPresent d = true → t.doors[d].hpu = h.val →
        t.doors[d].draw ≤ (t.hpus[h]).free)
      ∧ (∀ d : DoorIx, t.doorPresent d = true → t.doors[d].node ≠ t.hpus[h].node)
      ∧ ∀ x : HpuIx, x ≠ h → t.hpuPresent x = true → t.hpus[x].node ≠ t.hpus[h].node)
    ∧ (t.hpuPresent h = false → ∀ d : DoorIx, t.doorPresent d = true → t.doors[d].hpu ≠ h.val) := by
  unfold crossHpu
  cases hp : t.hpuPresent h with
  | true =>
    simp only [if_true, orElse_eq_none, Option.map_eq_none_iff, doorWith_eq_none, hpuWith_eq_none, decide_eq_true_iff]
    simp [doorsOn_eq]
  | false =>
    rw [if_neg (by simp)]
    have hempty : (t.doorsOn h).isEmpty = true ↔ ∀ d : DoorIx, t.doorPresent d = true → t.doors[d].hpu ≠ h.val := by
      rw [List.isEmpty_iff, List.eq_nil_iff_forall_not_mem]
      simp only [doorsOn_eq, not_and, ne_eq]
    simp [hempty]

theorem checks_withDoor {d : DoorIx} {c : DoorConfig} (h : commissionChecks t = none) (hc : c.refused = false)
    (hcross : crossDoor (withDoor t d c) d = none) : commissionChecks (withDoor t d c) = none := by
  obtain ⟨h0, ⟨a, ha⟩, hdraw, ⟨hdd, hhh, hdh⟩, hgroup, hservice⟩ := commissionChecks_eq_none.mp h
  obtain ⟨hin, hout⟩ := crossDoor_eq_none.mp hcross
  have other {x : DoorIx} (hx : x ≠ d) : (withDoor t d c).doors[x] = t.doors[x] := withDoor_doors_ne t c hx
  have present {x : DoorIx} (hx : x ≠ d) (hp : (withDoor t d c).doorPresent x = true) : t.doorPresent x = true := by
    rwa [doorPresent_congr (other hx)] at hp
  refine commissionChecks_eq_none.mpr ⟨⟨withDoor_forall (P := fun c => c.refused = false) t hc h0.1, h0.2⟩, ?_, ?_, ⟨?_, hhh, ?_⟩, ?_, hservice⟩
  · cases hd : (withDoor t d c).doorPresent d with
    | true => exact ⟨d, hd⟩
    | false => exact (hout hd).1
  · intro x hp
    by_cases hx : x = d
    · subst hx; exact (hin hp).1
    · have hold := hdraw x (present hx hp)
      simp only [Tables.drawFails, other hx] at hold ⊢
      exact hold
  · intro x y hne hpx hpy
    by_cases hx : x = d
    · subst hx
      exact ((hin hpx).2.1 y (Ne.symm hne) hpy).symm
    · by_cases hy : y = d
      · subst hy
        exact (hin hpy).2.1 x hx hpx
      · rw [other hx, other hy]
        exact hdd x y hne (present hx hpx) (present hy hpy)
  · intro x h hpx hph
    by_cases hx : x = d
    · subst hx
      exact ((hin hpx).2.2 h hph).symm
    · rw [other hx]
      exact hdh x h (present hx hpx) hph
  · intro g hg
    refine listOk_mono (hgroup g hg) fun x hlists hp => ?_
    by_cases hx : x = d
    · subst hx
      cases hd : (withDoor t x c).doorPresent x with
      | true => rfl
      | false =>
        have hnone := (hout hd).2 g
        unfold Tables.lists at hnone
        have hg' : (withDoor t x c).groupPresent g = true := hg
        rw [hg', Bool.true_and] at hnone
        exact absurd (hnone.symm.trans hlists) (by decide)
    · rw [doorPresent_congr (other hx)]
      exact hp

theorem checks_withHpu {h : HpuIx} {c : HpuConfig} (hchecks : commissionChecks t = none) (hc : c.refused = false)
    (hcross : crossHpu (withHpu t h c) h = none) : commissionChecks (withHpu t h c) = none := by
  obtain ⟨h0, hsome, hdraw, ⟨hdd, hhh, hdh⟩, hgroup, hservice⟩ := commissionChecks_eq_none.mp hchecks
  obtain ⟨hin, hout⟩ := crossHpu_eq_none.mp hcross
  obtain ⟨h0d, h0h, h0g⟩ := h0
  have other {x : HpuIx} (hx : x ≠ h) : (withHpu t h c).hpus[x] = t.hpus[x] := withHpu_hpus_ne t c hx
  have present {x : HpuIx} (hx : x ≠ h) (hp : (withHpu t h c).hpuPresent x = true) : t.hpuPresent x = true := by
    rwa [hpuPresent_congr (other hx)] at hp
  refine commissionChecks_eq_none.mpr ⟨⟨h0d, withHpu_forall (P := fun c => c.refused = false) t hc h0h, h0g⟩, hsome, ?_, ⟨hdd, ?_, ?_⟩, hgroup, hservice⟩
  · intro d hd
    have hle : t.doors[d].hpu ≤ 7 := hpu_le_of_unrefused (h0d d)
    have hold := (drawFails_eq_false hle).mp (hdraw d hd)
    refine (drawFails_eq_false (t := withHpu t h c) hle).mpr fun x hx => ?_
    obtain ⟨hpx, hdx⟩ := hold x hx
    by_cases hxh : x = h
    · subst hxh
      cases hp : (withHpu t x c).hpuPresent x with
      | true => exact ⟨rfl, (hin hp).1 d hd hx.symm⟩
      | false => exact absurd hx.symm (hout hp d hd)
    · rw [hpuPresent_congr (other hxh), other hxh]
      exact ⟨hpx, hdx⟩
  · intro x y hne hpx hpy
    by_cases hx : x = h
    · subst hx
      exact ((hin hpx).2.2 y (Ne.symm hne) hpy).symm
    · by_cases hy : y = h
      · subst hy
        exact (hin hpy).2.2 x hx hpx
      · rw [other hx, other hy]
        exact hhh x y hne (present hx hpx) (present hy hpy)
  · intro d x hd hpx
    by_cases hx : x = h
    · subst hx
      exact (hin hpx).2.1 d hd
    · rw [other hx]
      exact hdh d x hd (present hx hpx)

theorem checks_withGroup {g : GroupIx} {c : GroupRec} (h : commissionChecks t = none) (hc : c.refused = false)
    (hcross : crossGroup (withGroup t g c) g = none) : commissionChecks (withGroup t g c) = none := by
  obtain ⟨⟨h0d, h0h, h0g, h0r⟩, hsome, hdraw, hnodes, hgroup, hservice⟩ := commissionChecks_eq_none.mp h
  refine commissionChecks_eq_none.mpr
    ⟨⟨h0d, h0h, withGroup_forall (P := fun c => c.refused = false) t hc h0g, h0r⟩, hsome, hdraw, hnodes, fun x hp => ?_, hservice⟩
  by_cases hx : x = g
  · subst hx
    unfold crossGroup at hcross
    rw [hp, Bool.true_and] at hcross
    exact groupFails_eq_false.mp (by simpa using hcross)
  · have hsame : (withGroup t g c).groups[x] = t.groups[x] := withGroup_groups_ne t c hx
    have hold := hgroup x (by unfold Tables.groupPresent at *; rwa [hsame] at hp)
    rw [hsame]
    exact hold

theorem checks_withPermit {p : PortIx} {c : PermitRow} (h : commissionChecks t = none) (hc : c.refused = false)
    (hcross : crossPermit (withPermit t p c) p = none) : commissionChecks (withPermit t p c) = none := by
  obtain ⟨⟨h0d, h0h, h0g, h0p, h0s⟩, hsome, hdraw, hnodes, hgroup, hservice⟩ := commissionChecks_eq_none.mp h
  refine commissionChecks_eq_none.mpr
    ⟨⟨h0d, h0h, h0g, withPermit_forall (P := fun c => c.refused = false) t hc h0p, h0s⟩, hsome, hdraw, hnodes, hgroup, ?_⟩
  by_contra hno
  unfold crossPermit at hcross
  rw [if_neg hno] at hcross
  cases hcross

theorem checks_withSystem {c : SystemRecord} (h : commissionChecks t = none) (hc : c.refused = false) :
    commissionChecks { t with system := c } = none := by
  obtain ⟨⟨h0d, h0h, h0g, h0p, -⟩, rest⟩ := commissionChecks_eq_none.mp h
  exact commissionChecks_eq_none.mpr ⟨⟨h0d, h0h, h0g, h0p, hc⟩, rest⟩

end

/-! ### Tables of a start -/

theorem clamped_decode (l : List Byte) : (Tables.decode l).clamped :=
  ⟨fun d => by simp [Tables.decode, DoorConfig.clamp_clamp], fun h => by simp [Tables.decode, HpuConfig.clamp_clamp],
    fun g => ⟨by simp [Tables.decode, GroupRec.clamp_clamp], by
      simp only [Tables.decode, Fin.getElem_fin, Vector.getElem_ofFn]
      exact GroupRec.length_decode (slice l (1600 + 59 * g.val) 59)⟩,
    fun p => by simp [Tables.decode, PermitRow.clamp_clamp], SystemRecord.clamp_clamp _⟩

theorem clamped_blank : Tables.blank.clamped :=
  ⟨fun d => by simp [Tables.blank, DoorConfig.blank, DoorConfig.clamp, clampTo],
    fun h => by simp [Tables.blank, HpuConfig.blank, HpuConfig.clamp, clampTo],
    fun g => by simp [Tables.blank, GroupRec.blank, GroupRec.clamp, clampTo],
    fun p => by simp [Tables.blank, PermitRow.blank, PermitRow.clamp, clampTo], rfl⟩

/-! ### The law -/

/-- The law of the tables and, where it is asked for, of the copy that a SAVE in flight holds. -/
def StoreLaw (copied : Prop) (s : State) : Prop :=
  TableLaw s ∧ (copied → s.cfs.save.isSome = true → s.cfs.saveBuffer = s.tables.image)

section
variable {s t : State} {copied : Prop}

theorem storeLaw_congr (htables : t.tables = s.tables) (hcfs : t.cfs = s.cfs) (hcs : t.cs = s.cs) (hs : StoreLaw copied s) :
    StoreLaw copied t := by
  unfold StoreLaw TableLaw HpuFieldLaw State.inService State.entry at *
  rw [htables, hcfs, hcs]
  exact hs

theorem storeLaw_of_alarmFrame (h : AlarmFrame s t) : StoreLaw copied s → StoreLaw copied t := storeLaw_congr h.tables h.cfs h.cs

theorem storeLaw_of_calm (h : Calm s t) (hs : StoreLaw copied s) : StoreLaw copied t := by
  obtain ⟨⟨hclamped, hchecks, hfield⟩, hbuffer⟩ := hs
  unfold StoreLaw TableLaw HpuFieldLaw
  rw [h.tables]
  refine ⟨⟨hclamped, fun hin => hchecks ?_, fun d hd => hfield d (h.entries d hd)⟩, fun hc hsave => ?_⟩
  · unfold State.inService at *
    rwa [h.part] at hin
  · rcases h.save hsave with hcopy | ⟨hold, hsame⟩
    · exact hcopy
    · exact hsame.trans (hbuffer hc hold)

/-- A write of one record while no SAVE is in flight. -/
theorem storeLaw_setTables {u : Tables} (hsave : s.cfs.save = none) (hclamped : u.clamped)
    (hchecks : s.inService = true → commissionChecks u = none)
    (hfield : ∀ d : DoorIx, (s.entry d).isSome = true → u.doors[d].hpu ≤ 7) : StoreLaw copied (setTables u s) :=
  ⟨⟨hclamped, hchecks, hfield⟩, fun _ h => by
    have hnone : (setTables u s).cfs.save = none := hsave
    rw [hnone] at h
    cases h⟩

/-- A part without entries that is out of service. -/
theorem storeLaw_of_idle (hclamped : t.tables.clamped) (hout : t.inService = false) (hentry : ∀ d : DoorIx, t.entry d = none)
    (hbuffer : copied → t.cfs.save.isSome = true → t.cfs.saveBuffer = t.tables.image) : StoreLaw copied t :=
  ⟨⟨hclamped, fun h => absurd (hout.symm.trans h) (by decide), fun d hd => (by rw [hentry d] at hd; cases hd)⟩, hbuffer⟩

theorem sendOrders_cfs (s : State) : (sendOrders s).cfs = s.cfs := by
  unfold sendOrders
  generalize s.rc.orders = l
  induction l generalizing s with
  | nil => rfl
  | cons o rest ih =>
    refine (ih (sendHeadOrder s)).trans ?_
    unfold sendHeadOrder
    split <;> rfl

theorem storeLaw_of_micro (h : Micro s t) (hs : StoreLaw copied s) : StoreLaw copied t := by
  have hall := hs
  obtain ⟨⟨⟨hcd, hch, hcg, hcp, hcsys⟩, hchecks, hfield⟩, hbuffer⟩ := hs
  cases h with
  | calm h => exact storeLaw_of_calm h hall
  | run _ h => exact storeLaw_of_calm h (storeLaw_congr (s := s) rfl rfl rfl hall)
  | place p f => exact storeLaw_of_alarmFrame (PlaceFrame.place p f s).toAlarmFrame hall
  | joinPart p =>
    unfold joinPart
    split <;> [(split <;> exact hall); exact hall]
  | raise k x => exact storeLaw_of_alarmFrame (.raiseAlarm k x s) hall
  | event x => exact storeLaw_of_alarmFrame (.raiseEvent _ x s) hall
  | clear k x => exact storeLaw_of_alarmFrame (.clearAlarm k x s) hall
  | ack k x => exact storeLaw_of_alarmFrame (.ackNamed k x s) hall
  | queueOrder | passage | mode | poll | miss => exact storeLaw_congr rfl rfl rfl hall
  | entry d e _ h =>
    refine ⟨⟨⟨hcd, hch, hcg, hcp, hcsys⟩, hchecks, fun x _ => ?_⟩, hbuffer⟩
    exact hpu_le_of_unrefused ((commissionChecks_eq_none.mp (hchecks h)).1.1 x)
  | writeDoor d c _ hsave hfree hvalue hclamp hcross =>
    have written : StoreLaw copied (setTables (withDoor s.tables d c) s) := by
      refine storeLaw_setTables hsave ⟨withDoor_forall (P := fun c => c.clamp = c) _ hclamp hcd, hch, hcg, hcp, hcsys⟩
        (fun hin => checks_withDoor (hchecks hin) hvalue (hcross hin)) fun x hx => ?_
      have hne : x ≠ d := by
        rintro rfl
        rw [hfree] at hx
        cases hx
      rw [withDoor_doors_ne _ c hne]
      exact hfield x hx
    unfold doorSet
    simp only
    split
    · obtain ⟨v, hv⟩ := resetDoor_eq d s.tables.doors[d].node c.node (setTables (withDoor s.tables d c) s)
      rw [hv]
      exact storeLaw_congr (s := setTables (withDoor s.tables d c) s) rfl rfl rfl written
    · exact written
  | writeHpu h c _ hsave hvalue hclamp hcross =>
    exact storeLaw_setTables hsave ⟨hcd, withHpu_forall (P := fun c => c.clamp = c) _ hclamp hch, hcg, hcp, hcsys⟩
      (fun hin => checks_withHpu (hchecks hin) hvalue (hcross hin)) hfield
  | writeGroup g c _ hsave hvalue hclamp hcount hcross =>
    exact storeLaw_setTables hsave
      ⟨hcd, hch, withGroup_forall (P := fun c => c.clamp = c ∧ c.entries.length = min c.count 32) _ ⟨hclamp, hcount⟩ hcg, hcp, hcsys⟩
      (fun hin => checks_withGroup (hchecks hin) hvalue (hcross hin)) hfield
  | writePermit p c _ hsave hvalue hclamp hcross =>
    exact storeLaw_setTables hsave ⟨hcd, hch, hcg, withPermit_forall (P := fun c => c.clamp = c) _ hclamp hcp, hcsys⟩
      (fun hin => checks_withPermit (hchecks hin) hvalue (hcross hin)) hfield
  | writeSystem c _ hsave hvalue hclamp =>
    exact storeLaw_setTables hsave ⟨hcd, hch, hcg, hcp, hclamp⟩ (fun hin => checks_withSystem (hchecks hin) hvalue) hfield
  | serve m _ _ hcheck => exact ⟨⟨⟨hcd, hch, hcg, hcp, hcsys⟩, fun _ => hcheck, hfield⟩, hbuffer⟩
  | retire _ hmode hbusy =>
    obtain ⟨-, hcs, -, -, htables⟩ := sendOrders_polled (setPart .UNCONFIGURED (ringQuiet s))
    have hcfs := sendOrders_cfs (setPart .UNCONFIGURED (ringQuiet s))
    have out : StoreLaw copied (setPart .UNCONFIGURED (ringQuiet s)) :=
      storeLaw_of_idle (t := setPart .UNCONFIGURED (ringQuiet s)) ⟨hcd, hch, hcg, hcp, hcsys⟩ rfl (partBusy_eq_false hbusy).1
        hbuffer
    exact storeLaw_congr (s := setPart .UNCONFIGURED (ringQuiet s)) htables hcfs hcs out
  | reset =>
    exact ⟨⟨⟨hcd, hch, hcg, hcp, hcsys⟩, hchecks, fun d hd => by simp [resetAsserted, State.entry, Cs.empty] at hd⟩, fun _ => nofun⟩
  | cold u x _ hu =>
    have hclamped : u.clamped := by
      rcases hu with rfl | ⟨l, rfl⟩
      · exact clamped_blank
      · exact clamped_decode l
    refine storeLaw_of_idle ?_ ?_ (fun d => ?_) ?_
    · unfold coldState recomputeReleased writeComps
      exact hclamped
    · unfold coldState recomputeReleased writeComps
      rfl
    · simp [coldState, recomputeReleased, writeComps, State.entry, Cs.empty]
    · unfold coldState recomputeReleased writeComps
      exact fun _ => nofun
  | warm =>
    refine storeLaw_of_idle ?_ ?_ (fun d => ?_) ?_
    · unfold warmState recomputeReleased writeComps
      exact ⟨hcd, hch, hcg, hcp, hcsys⟩
    · unfold warmState recomputeReleased writeComps
      rfl
    · simp [warmState, recomputeReleased, writeComps, State.entry, Cs.empty]
    · unfold warmState recomputeReleased writeComps
      exact hbuffer

end

theorem storeLawKept (copied : Prop) : KeptByStep (StoreLaw copied) :=
  keptByStep_of_micro (fun _ _ h => storeLaw_of_micro h) (fun s => storeLaw_congr (s := s) rfl rfl rfl)
    (fun s _ => storeLaw_congr (s := s) rfl rfl rfl)

/-- Settles O9. -/
theorem tablesKept : Obligations.TablesKept := fun s t hs h => by
  obtain ⟨htables, hbuffer⟩ := storeLawKept True s t ⟨hs.1, fun _ => hs.2⟩ h
  exact ⟨htables, hbuffer trivial⟩

/-- The law of the tables alone is kept too. -/
theorem tableLawKept : KeptByStep TableLaw := fun s t hs h => (storeLawKept False s t ⟨hs, nofun⟩ h).1

end Sys2Proof.Proofs
end

section
/-! ## The law of the indications (R146, R147)

What writes neither positions, door records nor indications keeps the law. A frame of a door, a lost door and a new address
move one door's position alone, and the presentation that follows recomputes its two compartments, in whatever order the
blocks act. A changed zone is recomputed at the write; a start and DECOMMISSION recompute every compartment. -/
namespace Sys2Proof.Proofs
open Sys2Proof Sys2Proof.Machine

set_option Elab.async false

/-- Every compartment shows its doors, and outside RESET the ALL CLOSED line follows them. -/
def ShownLaw (s : State) : Prop :=
  (∀ c : CompIx, s.ib.comps[c] = compIndication s c) ∧ (Awake s → s.ib.allClosed = everyDoorClosed s)

/-! ### What the indications are read from -/

section
variable {s t u : State}

/-- Two parts show the same in a compartment: the same doors are present, and those that bound it stand as they stood. -/
theorem compIndication_congr {c : CompIx} (hpresent : ∀ d : DoorIx, t.isPresent d = s.isPresent d)
    (hbounds : ∀ d : DoorIx, s.isPresent d = true → bounds t c d = bounds s c d)
    (hposition : ∀ d : DoorIx, s.isPresent d = true → bounds s c d = true → t.position d = s.position d) :
    compIndication t c = compIndication s c := by
  have hdoors : t.presentDoors = s.presentDoors := by
    unfold State.presentDoors
    exact List.filter_congr fun d _ => hpresent d
  have hfilter : t.presentDoors.filter (bounds t c) = s.presentDoors.filter (bounds s c) := by
    rw [hdoors]
    exact List.filter_congr fun d hd => hbounds d (List.mem_filter.mp hd).2
  unfold compIndication
  rw [hfilter]
  congr 1
  refine List.map_congr_left fun d hd => ?_
  obtain ⟨hmem, hb⟩ := List.mem_filter.mp hd
  rw [hposition d (List.mem_filter.mp hmem).2 hb]

theorem everyDoorClosed_congr (hpresent : ∀ d : DoorIx, t.isPresent d = s.isPresent d)
    (hposition : ∀ d : DoorIx, s.isPresent d = true → t.position d = s.position d) :
    everyDoorClosed t = everyDoorClosed s := by
  have hdoors : t.presentDoors = s.presentDoors := by
    unfold State.presentDoors
    exact List.filter_congr fun d _ => hpresent d
  unfold everyDoorClosed
  rw [hdoors]
  congr 1
  rw [Bool.eq_iff_iff, List.all_eq_true, List.all_eq_true]
  refine forall₂_congr fun d hd => ?_
  rw [hposition d (List.mem_filter.mp hd).2]

theorem Shown.isPresent (h : Shown s t) (d : DoorIx) : t.isPresent d = s.isPresent d := by
  unfold State.isPresent; rw [h.doors]
theorem Shown.bounds (h : Shown s t) (c : CompIx) (d : DoorIx) : bounds t c d = bounds s c d := by
  unfold Machine.bounds; rw [h.doors]
theorem Shown.compIndication (h : Shown s t) (c : CompIx) : compIndication t c = compIndication s c :=
  compIndication_congr h.isPresent (fun d _ => h.bounds c d) fun d _ _ => h.position d
theorem Shown.everyDoorClosed (h : Shown s t) : everyDoorClosed t = everyDoorClosed s :=
  everyDoorClosed_congr h.isPresent fun d _ => h.position d

theorem shownLaw_of_shown (h : Shown s t) (hs : ShownLaw s) : ShownLaw t := by
  obtain ⟨hcomps, hclosed⟩ := hs
  refine ⟨fun c => ?_, fun hawake => ?_⟩
  · rw [h.comps, h.compIndication]
    exact hcomps c
  · rw [h.allClosed, h.everyDoorClosed]
    exact hclosed (h.reset.symm.trans hawake)

/-- What writes nothing that the indications are read from. -/
theorem shownLaw_of_frame {w : Writes} (h : SlowFrame w s t) (hw : w.shown = false) : ShownLaw s → ShownLaw t :=
  shownLaw_of_shown (h.shown hw)

/-! ### Recomputing -/

theorem recomputeComps_eq (l : List CompIx) (s : State) : Shown (writeComps l s) (recomputeComps l s) := by
  unfold recomputeComps
  simp only
  split
  · exact (SlowFrame.forEach (w := {}) (fun p u => .pacingChange p u) _ _).shown rfl
  · exact {}

theorem writeComps_getElem (l : List CompIx) (s : State) (c : CompIx) :
    (writeComps l s).ib.comps[c] = if c ∈ l then compIndication s c else s.ib.comps[c] := by
  simp [writeComps]

section
variable (l : List CompIx) (s : State)

theorem writeComps_tables : (writeComps l s).tables = s.tables := by unfold writeComps; rfl
theorem writeComps_rc : (writeComps l s).rc = s.rc := by unfold writeComps; rfl
theorem position_writeComps (d : DoorIx) : (writeComps l s).position d = s.position d := by
  unfold State.position; rw [writeComps_rc]

theorem compIndication_writeComps (c : CompIx) : compIndication (writeComps l s) c = compIndication s c :=
  compIndication_congr (isPresent_congr (writeComps_tables l s))
    (fun d _ => by unfold bounds; rw [writeComps_tables]) fun d _ _ => position_writeComps l s d

theorem everyDoorClosed_writeComps : everyDoorClosed (writeComps l s) = everyDoorClosed s :=
  everyDoorClosed_congr (isPresent_congr (writeComps_tables l s)) fun d _ => position_writeComps l s d

end

/-- A recomputation leaves the law where the compartments that it passes over show their doors. -/
theorem shownLaw_recomputeComps {l : List CompIx} (h : ∀ c : CompIx, c ∉ l → s.ib.comps[c] = compIndication s c) :
    ShownLaw (recomputeComps l s) := by
  refine shownLaw_of_shown (recomputeComps_eq l s) ⟨fun c => ?_, fun _ => (everyDoorClosed_writeComps l s).symm⟩
  rw [writeComps_getElem, compIndication_writeComps]
  split
  · rfl
  · next hc => exact h c hc

theorem mem_compsOf {l : List Nat} {c : CompIx} : c ∈ compsOf l ↔ c.val ∈ l := by
  simp [compsOf, allComps]

theorem recomputeReleased_tables (s : State) : (recomputeReleased s).tables = s.tables := by
  unfold recomputeReleased writeComps; rfl
theorem recomputeReleased_rc (s : State) : (recomputeReleased s).rc = s.rc := by unfold recomputeReleased writeComps; rfl
theorem recomputeReleased_comps (s : State) : (recomputeReleased s).ib.comps = (writeComps allComps s).ib.comps := by
  unfold recomputeReleased; rfl
theorem recomputeReleased_allClosed (s : State) : (recomputeReleased s).ib.allClosed = false := by
  unfold recomputeReleased; rfl

/-- A start or DECOMMISSION: every compartment, and a line that is released while no present door is CLOSED. -/
theorem shownLaw_recomputeReleased (h : everyDoorClosed s = false) : ShownLaw (recomputeReleased s) := by
  have present := isPresent_congr (recomputeReleased_tables s)
  have position (d : DoorIx) : (recomputeReleased s).position d = s.position d := by
    unfold State.position; rw [recomputeReleased_rc]
  refine ⟨fun c => ?_, fun _ => ?_⟩
  · rw [compIndication_congr present (fun d _ => by unfold bounds; rw [recomputeReleased_tables]) fun d _ _ => position d,
      recomputeReleased_comps, writeComps_getElem, if_pos (by simp [allComps])]
  · rw [recomputeReleased_allClosed, everyDoorClosed_congr present fun d _ => position d, h]

/-- No present door that stands CLOSED: the line is not asserted. -/
theorem everyDoorClosed_eq_false (h : ∀ d : DoorIx, s.isPresent d = true → s.position d ≠ .CLOSED) :
    everyDoorClosed s = false := by
  unfold everyDoorClosed
  cases hdoors : s.presentDoors with
  | nil => rfl
  | cons d rest =>
    have hd : d ∈ s.presentDoors := by rw [hdoors]; exact List.mem_cons_self
    simp [h d (List.mem_filter.mp hd).2]

/-! ### A door that moves -/

/-- Of what the indications are read from, only the position of one door may differ. -/
structure MovedOnly (d : DoorIx) (s t : State) : Prop where
  doors : t.tables.doors = s.tables.doors := by rfl
  position : ∀ x : DoorIx, x ≠ d → t.position x = s.position x
  comps : t.ib.comps = s.ib.comps := by rfl
  allClosed : t.ib.allClosed = s.ib.allClosed := by rfl
  reset : t.pins.reset = s.pins.reset := by rfl

variable {d : DoorIx}

theorem Shown.movedOnly (h : Shown s t) : MovedOnly d s t := ⟨h.doors, fun x _ => h.position x, h.comps, h.allClosed, h.reset⟩

theorem MovedOnly.trans (h : MovedOnly d s t) (g : MovedOnly d t u) : MovedOnly d s u :=
  ⟨g.doors.trans h.doors, fun x hx => (g.position x hx).trans (h.position x hx), g.comps.trans h.comps,
    g.allClosed.trans h.allClosed, g.reset.trans h.reset⟩

theorem MovedOnly.ofFrame (h : SlowFrame {} s t) : MovedOnly d s t := (h.shown rfl).movedOnly

theorem MovedOnly.modReported (d : DoorIx) (f : Reported → Reported) (s : State) : MovedOnly d s (s.modReported d f) where
  position x hx := by simp [State.position, State.modReported, Fin.val_ne_iff.mpr (Ne.symm hx)]

theorem MovedOnly.setPosition (d : DoorIx) (x : Position) (s : State) : MovedOnly d s (s.setPosition d x) := by
  unfold State.setPosition
  exact (MovedOnly.modReported d _ s).trans (.ofFrame (.ite (.zeroOas ..) (.refl _)))

/-- A door's position may have moved and its compartments not been recomputed: where it stands as before the law holds, and
every compartment that the door does not bound shows its doors. -/
def Owed (d : DoorIx) (prev : Position) (s : State) : Prop :=
  (s.position d = prev → ShownLaw s) ∧ ∀ c : CompIx, bounds s c d = false → s.ib.comps[c] = compIndication s c

theorem owed_of_movedOnly (h : MovedOnly d s t) (hs : ShownLaw s) : Owed d (s.position d) t := by
  have present (x : DoorIx) : t.isPresent x = s.isPresent x := by unfold State.isPresent; rw [h.doors]
  have bound (c : CompIx) (x : DoorIx) : bounds t c x = bounds s c x := by unfold Machine.bounds; rw [h.doors]
  refine ⟨fun hprev => shownLaw_of_shown ⟨h.doors, fun x => ?_, h.comps, h.allClosed, h.reset⟩ hs, fun c hc => ?_⟩
  · by_cases hx : x = d
    · rw [hx]; exact hprev
    · exact h.position x hx
  · rw [h.comps, compIndication_congr present (fun x _ => bound c x) fun x _ hx => h.position x ?_]
    · exact hs.1 c
    · rintro rfl
      rw [bound, hx] at hc
      cases hc

theorem owed_of_shownLaw (prev : Position) (hs : ShownLaw s) : Owed d prev s := ⟨fun _ => hs, fun c _ => hs.1 c⟩

theorem owed_of_shown {prev : Position} (h : Shown s t) (hs : Owed d prev s) : Owed d prev t := by
  obtain ⟨hsame, hother⟩ := hs
  refine ⟨fun hprev => shownLaw_of_shown h (hsame ((h.position d).symm.trans hprev)), fun c hc => ?_⟩
  rw [h.comps, h.compIndication]
  exact hother c ((h.bounds c d).symm.trans hc)

theorem shownLaw_recomputeDoor (h : ∀ c : CompIx, bounds s c d = false → s.ib.comps[c] = compIndication s c) :
    ShownLaw (recomputeDoor d s) := by
  refine shownLaw_recomputeComps fun c hc => h c ?_
  rw [mem_compsOf] at hc
  simp only [List.mem_cons, List.not_mem_nil, or_false, not_or] at hc
  exact Bool.or_eq_false_iff.mpr ⟨decide_eq_false (Ne.symm hc.1), decide_eq_false (Ne.symm hc.2)⟩

theorem shownLaw_presentIB {prev : Position} (h : Owed d prev s) : ShownLaw (presentIB d prev s) := by
  unfold presentIB
  split
  · next hprev => exact h.1 hprev
  · exact shownLaw_recomputeDoor h.2

end

/-! ### The presentation -/

theorem SlowFrame.denyHandle {w : Writes} (d : DoorIx) (s : State) : SlowFrame w s (denyHandle d s) := by
  have counted : SlowFrame w s (s.modSea d fun x => { x with denied := satInc 255 x.denied }) := {}
  refine counted.trans ?_
  unfold Machine.denyHandle
  simp only
  split
  · exact .ite (.ofRun (ScheduleFrame.queueOrder ..).toRunFrame) (.refl _)
  · exact .ofRun (ScheduleFrame.queueOrder ..).toRunFrame

theorem SlowFrame.presentHandle {w : Writes} (d : DoorIx) (prev : Handle) (s : State) :
    SlowFrame w s (presentHandle d prev s) := by
  have asked (new : Handle) (u : State) : SlowFrame w u (handleDemand d new u) := by
    unfold handleDemand localDemand
    split
    · exact .ofRun (.decideDemand ..)
    · exact .ofRun (.decideDemand ..)
    · exact .ofRun (.openPassage ..)
    · exact .ite (.ofRun (.openPassage ..)) (.denyHandle ..)
    all_goals exact .refl u
  exact .ite (.refl s) ((SlowFrame.ofRun (.handleReleases d prev s)).trans (asked ..))

/-- An action other than IB's writes nothing that the indications are read from. -/
theorem takePresentation_shown {a : PresentAct} (ha : a ≠ .IB) (d : DoorIx) (b : Before) (s : State) :
    Shown s (takePresentation d b a s) := by
  cases a with
  | MS => exact .ofBlock (RunFrame.presentMS ..).toBlockFrame
  | CS => exact .ofBlock (RunFrame.presentCS ..).toBlockFrame
  | MC_PASSAGE => exact .ofBlock (RunFrame.presentPassage ..).toBlockFrame
  | MC_HANDLE => exact (SlowFrame.presentHandle (w := {}) ..).shown rfl
  | GRU => exact .ofBlock (RunFrame.pokeRuns ..).toBlockFrame
  | IB => exact absurd rfl ha

theorem shownLaw_acts {d : DoorIx} {b : Before} (l : List PresentAct) {s : State} (hs : Owed d b.position s)
    (h : PresentAct.IB ∈ l ∨ ShownLaw s) : ShownLaw (forEach l (takePresentation d b) s) := by
  induction l generalizing s with
  | nil => exact h.resolve_left List.not_mem_nil
  | cons a rest ih =>
    by_cases ha : a = .IB
    · subst ha
      have taken : ShownLaw (takePresentation d b .IB s) := shownLaw_presentIB hs
      exact ih (owed_of_shownLaw _ taken) (.inr taken)
    · have kept := takePresentation_shown ha d b s
      refine ih (owed_of_shown kept hs) (h.imp (fun hmem => ?_) (shownLaw_of_shown kept))
      exact (List.mem_cons.mp hmem).resolve_left (Ne.symm ha)

theorem insertAct_perm (place : PresentAct → Nat) (a : PresentAct) (l : List PresentAct) : (insertAct place a l).Perm (a :: l) := by
  induction l with
  | nil => exact .refl _
  | cons x rest ih =>
    unfold insertAct
    split
    · exact .refl _
    · exact (ih.cons x).trans (.swap a x rest)

/-- Whatever the places, each of the six actions stands in the order once. -/
theorem actOrder_perm (place : PresentAct → Nat) : (actOrder place).Perm presentActs := by
  unfold actOrder
  generalize presentActs = l
  induction l with
  | nil => exact .refl _
  | cons a rest ih => exact (insertAct_perm place a _).trans (ih.cons a)

theorem shownLaw_present {d : DoorIx} {b : Before} {s : State} (hs : Owed d b.position s) : ShownLaw (present d b s) := by
  unfold present
  split
  · refine shownLaw_of_shown (.ofBlock (RunFrame.settleRuns _).toBlockFrame) (shownLaw_acts _ ?_ (.inl ?_))
    · exact owed_of_shown {} hs
    · exact (actOrder_perm _).mem_iff.mpr (by decide)
  · exact shownLaw_presentIB hs

/-! ### Frames of doors and lost doors -/

theorem MovedOnly.heardFrom (d : DoorIx) (s : State) : MovedOnly d s (heardFrom d s) :=
  (MovedOnly.modReported ..).trans (.ofFrame (.ofAlarm (.clearDoor ..)))

theorem MovedOnly.takeReport (d : DoorIx) (r : ReportBits) (s : State) : MovedOnly d s (takeReport d r s) :=
  (((MovedOnly.heardFrom d s).trans (.modReported ..)).trans (.setPosition ..)).trans
    (.ofFrame (.ite (.ofAlarm (.raiseDoor ..)) (.ofAlarm (.clearDoor ..))))

theorem MovedOnly.takeEvent (d : DoorIx) (x : HandleCode) (low fault : Bool) (s : State) :
    MovedOnly d s (takeEvent d x low fault s) := by
  have faulted (u : State) :
      MovedOnly d u (if fault then raiseDoor .DOOR_SENSOR d (u.setPosition d .UNKNOWN) else u) := by
    split
    · exact (MovedOnly.setPosition ..).trans (.ofFrame (.ofAlarm (.raiseDoor ..)))
    · exact .ofFrame (.refl _)
  exact ((MovedOnly.heardFrom d s).trans (.modReported ..)).trans (faulted _)

section
variable {s : State}

theorem shownLaw_filtered {take : State → State} (h : ∀ u, ShownLaw u → ShownLaw (take u)) (p : RingPort) (src seq : Byte)
    (hs : ShownLaw s) : ShownLaw (filtered p src seq take s) := by
  unfold filtered
  split
  · exact shownLaw_of_frame ((SlowFrame.modSide p _ s).trans
      (t := ringReceive p s) (w := {}) {}) rfl hs
  · exact h _ (shownLaw_of_frame ((SlowFrame.setFilter (w := {}) ..).trans (.modSide ..)) rfl hs)

theorem shownLaw_reportArrives (p : RingPort) (src seq : Byte) (r : ReportBits) (hs : ShownLaw s) :
    ShownLaw (reportArrives p src seq r s) := by
  unfold reportArrives
  split
  · next d _ =>
    split
    · refine shownLaw_filtered (fun u hu => shownLaw_present ?_) p src seq hs
      have ended : ShownLaw (endPoll u) := shownLaw_of_frame (.endPoll (w := {}) u) rfl hu
      exact owed_of_movedOnly (s := endPoll u) (.takeReport d r (endPoll u)) ended
    · exact shownLaw_of_frame (.modSide (w := {}) ..) rfl hs
  · exact shownLaw_of_frame (.modSide (w := {}) ..) rfl hs

theorem shownLaw_eventArrives (p : RingPort) (src seq : Byte) (x : HandleCode) (low fault : Bool) (hs : ShownLaw s) :
    ShownLaw (eventArrives p src seq x low fault s) := by
  unfold eventArrives
  split
  · next d _ =>
    exact shownLaw_filtered (fun u hu => shownLaw_present (owed_of_movedOnly (.takeEvent d x low fault u) hu)) p src seq hs
  · exact shownLaw_of_frame (.modSide (w := {}) ..) rfl hs

theorem shownLaw_missPoll (d : DoorIx) (hs : ShownLaw s) : ShownLaw (missPoll d s) := by
  have counted (f : Reported → Reported) (hf : ∀ r, (f r).position = r.position) (u : State) : Shown u (u.modReported d f) :=
    { position := fun x => by
        simp only [State.position, State.modReported, Fin.getElem_fin, getElem_upd]
        split
        · next h => rw [hf]; simp [h]
        · rfl }
  have ended : ShownLaw (endPoll s) := shownLaw_of_frame (.endPoll (w := {}) s) rfl hs
  have missed : ShownLaw ((endPoll s).modReported d fun r => { r with misses := satInc missLimit r.misses }) :=
    shownLaw_of_shown (counted (fun r => { r with misses := satInc missLimit r.misses }) (fun _ => rfl) _) ended
  unfold missPoll
  simp only
  split
  · generalize (endPoll s).modReported d _ = t at missed
    refine shownLaw_present (owed_of_movedOnly (s := t) ?_ missed)
    exact ((MovedOnly.modReported ..).trans (.setPosition ..)).trans (.ofFrame (.ofAlarm (.raiseDoor ..)))
  · exact missed

/-! ### Door records -/

theorem resetDoor_movedOnly (d : DoorIx) (old new : Nat) (s : State) : MovedOnly d s (resetDoor d old new s) := by
  obtain ⟨v, hv⟩ := resetDoor_eq d old new s
  rw [hv]
  exact { position := fun x hx => by simp [State.position, Fin.val_ne_iff.mpr (Ne.symm hx)] }

theorem bounds_withDoor {c : CompIx} {d x : DoorIx} {new : DoorConfig} {t : State} (h : t.tables = withDoor s.tables d new)
    (hx : x ≠ d) : bounds t c x = bounds s c x := by
  unfold bounds
  rw [h, withDoor_doors_ne _ _ hx]

/-- A door record that is written, its position moved with it: a compartment that the door neither bounded nor bounds shows
its doors. -/
theorem comps_withDoor {d : DoorIx} {new : DoorConfig} {t u : State} (htables : t.tables = withDoor s.tables d new)
    (h : MovedOnly d t u) (hcomps : t.ib.comps = s.ib.comps) (hposition : ∀ x : DoorIx, t.position x = s.position x)
    (hs : ShownLaw s) {c : CompIx}
    (hout : (s.isPresent d = true → bounds s c d = false) ∧ (u.isPresent d = true → bounds u c d = false)) :
    u.ib.comps[c] = compIndication u c := by
  have hu : u.tables.doors = (withDoor s.tables d new).doors := by rw [h.doors, htables]
  have hother (x : DoorIx) (hx : x ≠ d) : u.tables.doors[x] = s.tables.doors[x] := by rw [hu, withDoor_doors_ne _ _ hx]
  rw [h.comps, hcomps, hs.1 c]
  unfold compIndication
  have hfilter : u.presentDoors.filter (bounds u c) = s.presentDoors.filter (bounds s c) := by
    unfold State.presentDoors
    rw [List.filter_filter, List.filter_filter]
    refine List.filter_congr fun x _ => ?_
    by_cases hx : x = d
    · subst hx
      obtain ⟨hs', hu'⟩ := hout
      cases hp : s.isPresent x <;> cases hq : u.isPresent x <;> simp_all
    · unfold bounds State.isPresent
      rw [hother x hx]
  rw [hfilter]
  congr 1
  refine List.map_congr_left fun x hx => ?_
  obtain ⟨hmem, hb⟩ := List.mem_filter.mp hx
  have hne : x ≠ d := by
    rintro rfl
    rw [hout.1 (List.mem_filter.mp hmem).2] at hb
    cases hb
  rw [h.position x hne, hposition]

/-- A door record that is written and neither rezones nor moves the door, where it is present. -/
theorem shownLaw_withDoor {d : DoorIx} {t u : State} (htables : t.tables = withDoor s.tables d (u.tables.doors[d]))
    (h : MovedOnly d t u) (hib : t.ib = s.ib) (hpins : t.pins = s.pins) (hposition : ∀ x : DoorIx, t.position x = s.position x)
    (hs : ShownLaw s) (hpresent : u.isPresent d = s.isPresent d) (hbounds : ∀ c : CompIx, bounds u c d = bounds s c d)
    (hstill : s.isPresent d = true → u.position d = s.position d) : ShownLaw u := by
  have hother (x : DoorIx) (hx : x ≠ d) : u.tables.doors[x] = s.tables.doors[x] := by
    rw [h.doors, htables, withDoor_doors_ne _ _ hx]
  have present (x : DoorIx) : u.isPresent x = s.isPresent x := by
    by_cases hx : x = d
    · rw [hx]; exact hpresent
    · unfold State.isPresent; rw [hother x hx]
  have bound (c : CompIx) (x : DoorIx) : bounds u c x = bounds s c x := by
    by_cases hx : x = d
    · rw [hx]; exact hbounds c
    · unfold bounds; rw [hother x hx]
  have position (x : DoorIx) (hp : s.isPresent x = true) : u.position x = s.position x := by
    by_cases hx : x = d
    · subst hx; exact hstill hp
    · exact (h.position x hx).trans (hposition x)
  obtain ⟨hcomps, hclosed⟩ := hs
  refine ⟨fun c => ?_, fun hawake => ?_⟩
  · rw [h.comps, hib, compIndication_congr present (fun x _ => bound c x) fun x hp _ => position x hp]
    exact hcomps c
  · rw [h.allClosed, hib, everyDoorClosed_congr present position]
    refine hclosed ?_
    rw [Awake, h.reset, hpins] at hawake
    exact hawake

/-- The part after a door write as far as its record, its reset and its conditions. -/
def doorRecorded (d : DoorIx) (new : DoorConfig) (s : State) : State :=
  let t := doorSet d s.tables.doors[d] new s
  if s.tables.doors[d].present = 1 ∧ new.present ≠ 1 then dismissDoor d t else t

theorem doorRecorded_movedOnly (d : DoorIx) (new : DoorConfig) (s : State) :
    MovedOnly d (setTables (withDoor s.tables d new) s) (doorRecorded d new s) := by
  have began : MovedOnly d (setTables (withDoor s.tables d new) s) (doorSet d s.tables.doors[d] new s) := by
    unfold doorSet
    simp only
    split
    · exact resetDoor_movedOnly ..
    · exact .ofFrame (.refl _)
  refine began.trans (.ofFrame (.ite ?_ (.refl _)))
  exact (SlowFrame.forEach (fun _ _ => .ofAlarm (.clearDoor ..)) _ _).trans (.zeroOas ..)

theorem doorRecorded_position {d : DoorIx} {new : DoorConfig} (hmoved : s.tables.doors[d].moved new = false) :
    (doorRecorded d new s).position d = s.position d := by
  have began : doorSet d s.tables.doors[d] new s = setTables (withDoor s.tables d new) s := by
    unfold doorSet
    simp only
    rw [if_neg (by rw [hmoved]; decide)]
  have dismissed : SlowFrame {} (setTables (withDoor s.tables d new) s) (doorRecorded d new s) := by
    unfold doorRecorded
    rw [began]
    exact .ite ((SlowFrame.forEach (fun _ _ => .ofAlarm (.clearDoor ..)) _ _).trans (.zeroOas ..)) (.refl _)
  exact (dismissed.shown rfl).position d

theorem doorWritten_eq (d : DoorIx) (new : DoorConfig) (s : State) :
    doorWritten d s.tables.doors[d] new s =
      let old := s.tables.doors[d]
      let t := if old.rezoned new then recomputeComps (compsOf [old.compA, old.compB, new.compA, new.compB]) (doorRecorded d new s)
        else doorRecorded d new s
      if old.node ≠ new.node ∧ old.present = 1 ∧ new.present = 1 then present d (before s d) t else t := rfl

/-- R4, R146: a door write: a changed zone is recomputed, and a door with a new address is presented anew. -/
theorem shownLaw_doorWritten (d : DoorIx) (new : DoorConfig) (hs : ShownLaw s) :
    ShownLaw (doorWritten d s.tables.doors[d] new s) := by
  have moved := doorRecorded_movedOnly d new s
  have record : (doorRecorded d new s).tables.doors[d] = new := by
    rw [moved.doors]
    exact withDoor_doors_self s.tables d new
  have presented {t : State} {prev : Position} {c : Prop} [Decidable c] (h : prev = s.position d) (ho : c → Owed d prev t)
      (hn : ¬c → ShownLaw t) : ShownLaw (if c then present d (before s d) t else t) := by
    split
    · next hc => exact shownLaw_present (b := before s d) (show Owed d (s.position d) t from h ▸ ho hc)
    · next hc => exact hn hc
  rw [doorWritten_eq]
  simp only
  by_cases hzone : s.tables.doors[d].rezoned new = true
  · rw [if_pos hzone]
    have done : ShownLaw (recomputeComps (compsOf [s.tables.doors[d].compA, s.tables.doors[d].compB, new.compA, new.compB])
        (doorRecorded d new s)) := by
      refine shownLaw_recomputeComps fun c hc => comps_withDoor (s := s) (new := new) rfl moved rfl (fun _ => rfl) hs ?_
      rw [mem_compsOf] at hc
      simp only [List.mem_cons, List.not_mem_nil, or_false, not_or] at hc
      obtain ⟨h1, h2, h3, h4⟩ := hc
      refine ⟨fun _ => ?_, fun _ => ?_⟩
      · exact Bool.or_eq_false_iff.mpr ⟨decide_eq_false (Ne.symm h1), decide_eq_false (Ne.symm h2)⟩
      · unfold bounds
        rw [record]
        exact Bool.or_eq_false_iff.mpr ⟨decide_eq_false (Ne.symm h3), decide_eq_false (Ne.symm h4)⟩
    exact presented rfl (fun _ => owed_of_shownLaw _ done) fun _ => done
  · rw [if_neg hzone]
    have zone : s.tables.doors[d].compA = new.compA ∧ s.tables.doors[d].compB = new.compB
        ∧ s.tables.doors[d].present = new.present := by
      simpa [DoorConfig.rezoned, and_assoc] using hzone
    obtain ⟨hA, hB, hP⟩ := zone
    have hpresent : (doorRecorded d new s).isPresent d = s.isPresent d := by
      unfold State.isPresent; rw [record, hP]
    have hbounds (c : CompIx) : bounds (doorRecorded d new s) c d = bounds s c d := by
      unfold bounds; rw [record, hA, hB]
    have still (h : s.isPresent d = true → (doorRecorded d new s).position d = s.position d) :
        ShownLaw (doorRecorded d new s) :=
      shownLaw_withDoor (s := s) (t := setTables (withDoor s.tables d new) s) (by rw [record]; rfl) moved rfl rfl (fun _ => rfl) hs hpresent
        hbounds h
    refine presented rfl (fun _ => ⟨fun h => still fun _ => h, fun c hc => ?_⟩) fun hnot => still fun hp => ?_
    · refine comps_withDoor (s := s) (new := new) rfl moved rfl (fun _ => rfl) hs ⟨fun _ => ?_, fun _ => hc⟩
      rw [← hbounds]
      exact hc
    · refine doorRecorded_position ?_
      have hone : s.tables.doors[d].present = 1 := by simpa [State.isPresent] using hp
      have hnode : s.tables.doors[d].node = new.node := by
        by_contra hne
        exact hnot ⟨hne, hone, hP ▸ hone⟩
      unfold DoorConfig.moved
      rw [hnode, hP]
      simp

theorem shownLaw_writeDoor (p : PortIx) (i : Byte) (l : List Byte) (hs : ShownLaw s) : ShownLaw (writeDoor p i l s) := by
  unfold writeDoor
  split
  · next d _ =>
    unfold decideWrite
    simp only
    split
    · exact shownLaw_of_frame (.refuse (w := {}) ..) rfl hs
    · split
      · exact shownLaw_of_frame (.refuse (w := {}) ..) rfl hs
      · split
        · exact shownLaw_of_frame (.refuseWith (w := {}) ..) rfl hs
        · exact shownLaw_of_frame ((SlowFrame.settleRuns (w := {}) _).trans (.answerDone ..)) rfl (shownLaw_doorWritten d _ hs)
  · exact shownLaw_of_frame (.refuse (w := {}) ..) rfl hs

/-! ### DECOMMISSION and starts -/

theorem quietDoor_position (d x : DoorIx) (u : State) :
    (quietDoor d u).position x = if x = d then .UNKNOWN else u.position x := by
  unfold quietDoor
  rw [show (clearDoor .DOOR_SILENT d _).position x = _ from
    ((SlowFrame.ofAlarm (w := {}) (AlarmFrame.clearDoor .DOOR_SILENT d _)).shown rfl).position x]
  by_cases hx : x = d
  · subst hx; simp [State.position, State.modReported]
  · simp [State.position, State.modReported, hx, Fin.val_ne_iff.mpr (Ne.symm hx)]

theorem forEach_quietDoor_position (l : List DoorIx) (u : State) (x : DoorIx) :
    (forEach l quietDoor u).position x = if x ∈ l then .UNKNOWN else u.position x := by
  induction l generalizing u with
  | nil => rfl
  | cons d rest ih =>
    refine (ih (quietDoor d u)).trans ?_
    rw [quietDoor_position]
    by_cases hx : x = d
    · simp [hx]
    · simp [hx]

theorem shownLaw_decommissioned (s : State) : ShownLaw (decommissioned s) := by
  have keep (l : List HpuIx) (u : State) : SlowFrame {} u (forEach l quietHpu u) := by
    refine .forEach (fun h v => ?_) l u
    exact ((SlowFrame.ite ((SlowFrame.modHpu ..).trans (.recomputeE ..)) (.refl v)).trans (.ofAlarm (.clearAlarm ..))).trans
      (.ofAlarm (.clearAlarm ..))
  have after (u : State) : SlowFrame {} u (clearPacing (quietMode (forEach allPorts quietPort u))) := by
    have ports : SlowFrame {} u (forEach allPorts quietPort u) :=
      .forEach (fun q v => (SlowFrame.modPort v q _).trans (.ofAlarm (.clearAlarm ..))) _ u
    have stilled (v : State) :
        SlowFrame {} v { v with mc := { v.mc with bridgeLost := false, oas := Vector.replicate 96 ⟨0, false⟩ } } := {}
    have paced (v : State) : SlowFrame {} v (clearPacing v) := {}
    exact (ports.trans ((stilled _).trans (.ofAlarm (.clearAlarm ..)))).trans (paced _)
  unfold decommissioned
  simp only
  generalize stopPolling (sendOrders (setPart .UNCONFIGURED (ringQuiet s))) = v
  refine shownLaw_recomputeReleased (everyDoorClosed_eq_false fun d hd => ?_)
  have hshown := (after (forEach v.presentDoors quietDoor (forEach allHpus quietHpu v))).shown rfl
  have hquiet (l : List DoorIx) (u : State) : (forEach l quietDoor u).tables = u.tables :=
    (SlowFrame.forEach (w := { shown := true }) (act := quietDoor)
      (fun d w => (SlowFrame.modReported rfl ..).trans (.ofAlarm (.clearDoor ..))) l u).tables rfl
  rw [hshown.isPresent, isPresent_congr (hquiet _ _), isPresent_congr ((keep allHpus v).tables rfl)] at hd
  rw [hshown.position, forEach_quietDoor_position, if_pos]
  · decide
  · exact List.mem_filter.mpr ⟨by simp [allDoors], hd⟩

theorem shownLaw_decommission (p : PortIx) (hs : ShownLaw s) : ShownLaw (decommission p s) := by
  unfold decommission
  split
  · exact shownLaw_of_frame (.refuse (w := {}) ..) rfl hs
  · split
    · exact shownLaw_of_frame (.refuse (w := {}) ..) rfl hs
    · exact shownLaw_of_frame (.answerDone (w := {}) ..) rfl (shownLaw_decommissioned s)

/-- A part of which RC stands at its start. -/
theorem everyDoorClosed_of_start {u : State} (h : u.rc.reported = Vector.replicate 96 Reported.start) :
    everyDoorClosed u = false :=
  everyDoorClosed_eq_false fun d _ => by simp [State.position, h, Reported.start]

/-- What an entry into service may write. -/
def serviceWrites : Writes := { part := true, mode := true }

theorem shownLaw_coldStart (s : State) : ShownLaw (coldStart s) := by
  have began (t : Tables) (x : ImageStatus) : ShownLaw (coldState t x s) := by
    unfold coldState
    exact shownLaw_recomputeReleased (everyDoorClosed_of_start rfl)
  have failed (u : State) (hu : ShownLaw u) : ShownLaw (raiseLine (raiseStore u)) :=
    shownLaw_of_frame ((SlowFrame.raiseStore (w := {}) u).trans (.raiseLine _)) rfl hu
  unfold coldStart
  split
  · split
    · exact shownLaw_of_frame ((SlowFrame.raiseLine (w := serviceWrites) _).trans (.enterService rfl rfl _)) rfl (began ..)
    · exact failed _ (began ..)
  · exact failed _ (began ..)

theorem shownLaw_warmRestart (s : State) : ShownLaw (warmRestart s) := by
  have began : ShownLaw (warmState s) := by
    unfold warmState
    exact shownLaw_recomputeReleased (everyDoorClosed_of_start rfl)
  unfold warmRestart
  exact shownLaw_of_frame (((SlowFrame.raiseLine (w := serviceWrites) _).trans (.ite (.enterService rfl rfl _) (.refl _))).trans
    (.raiseStore _)) rfl began

theorem shownLaw_resetAsserted (hs : ShownLaw s) : ShownLaw (resetAsserted s) := by
  refine ⟨fun c => ?_, nofun⟩
  have hsame : compIndication (resetAsserted s) c = compIndication s c :=
    compIndication_congr (isPresent_congr rfl) (fun _ _ => rfl) fun _ _ _ => rfl
  rw [hsame]
  exact hs.1 c

/-! ### The commands -/

theorem shownLaw_awake {t : State} {f : State → State} (h : awake f s = .next t) (hs : ShownLaw s) (hf : ShownLaw (f s)) :
    ShownLaw t := by
  injection h with h
  subst h
  split
  · exact hs
  · exact hf

theorem shownLaw_decideCommand {take : State → State} (h : ∀ u, ShownLaw u → ShownLaw (take u)) (g : Gate) (b : Bool)
    (p : PortIx) (hs : ShownLaw s) : ShownLaw (decideCommand g b p take s) := by
  have accepted : ShownLaw (acceptFrame p s) := shownLaw_of_frame (.modPort (w := {}) s p _) rfl hs
  unfold decideCommand
  simp only
  split
  · exact shownLaw_of_frame (.refuse (w := {}) ..) rfl accepted
  · exact h _ accepted

theorem shownLaw_of_exec {c : Instr} {t : State} (h : exec c s = .next t) (hs : ShownLaw s) : ShownLaw t := by
  have frame := exec_slowFrame h
  have hunt (p : RingPort) : ShownLaw (ringHunt p s) := shownLaw_of_frame (.modSide (w := {}) p _ s) rfl hs
  cases c with
  | report p src seq r =>
    change awake (fun t => reportArrives p src seq r (ringHunt p t)) s = _ at h
    exact shownLaw_awake h hs (shownLaw_reportArrives p src seq r (hunt p))
  | event p src seq x low fault =>
    change awake (fun t => eventArrives p src seq x low fault (ringHunt p t)) s = _ at h
    exact shownLaw_awake h hs (shownLaw_eventArrives p src seq x low fault (hunt p))
  | replyLimitExpiry =>
    change awake (fun t => match replyOverdue t with | some d => missPoll d t | none => t) s = _ at h
    refine shownLaw_awake h hs ?_
    split
    · exact shownLaw_missPoll _ hs
    · exact hs
  | tableWriteDoor p i l =>
    refine shownLaw_awake h hs ?_
    unfold writeOfLength
    split
    · exact shownLaw_decideCommand (fun _ => shownLaw_writeDoor p i l) _ _ _ hs
    · exact shownLaw_of_frame (.modPort (w := {}) ..) rfl hs
  | decommission p => exact shownLaw_awake h hs (shownLaw_decideCommand (fun _ => shownLaw_decommission p) _ _ _ hs)
  | warmRestart =>
    refine shownLaw_awake h hs ?_
    split
    · exact shownLaw_warmRestart s
    · exact hs
  | coldStart => injection h with h; subst h; exact shownLaw_coldStart s
  | resetAsserted => injection h with h; subst h; exact shownLaw_resetAsserted hs
  | _ => exact shownLaw_of_frame frame rfl hs

end

/-- Settles O10. -/
theorem indicationsKept : Obligations.IndicationsKept := by
  intro s t hs h
  unfold step at h
  split at h
  · injection h with h
    subst h
    exact hs
  · exact shownLaw_of_exec h (shownLaw_of_shown (s := s) {} hs)

end Sys2Proof.Proofs
end

section
/-! ## What the words of the statements say of the operations: answers, frames placed, alarms that stand or are cleared -/
namespace Sys2Proof.Proofs
open Sys2Proof Sys2Proof.Machine

set_option Elab.async false

/-! ### Frames placed (R172) -/

theorem placedIn_of_room {f : Frame} {q : List Frame} (h : q.length < queueSize) : placedIn f q = q ++ [f] := by
  simp [placedIn, placing, h]

/-- A queue in which a frame was placed ends with it, or it was full of frames of which none gives way. -/
theorem placedIn_cases (f : Frame) (q : List Frame) :
    (∃ l, placedIn f q = l ++ [f]) ∨
    (placedIn f q = q ∧ queueSize ≤ q.length ∧ q.any Frame.isSummary = false ∧ q.any Frame.isNotice = false) := by
  unfold placedIn placing
  by_cases hroom : q.length < queueSize
  · exact .inl ⟨q, by simp [hroom]⟩
  · cases hs : q.any Frame.isSummary with
    | true => exact .inl ⟨q.eraseP Frame.isSummary, by simp [hroom]⟩
    | false =>
      cases hn : q.any Frame.isNotice with
      | true => exact .inl ⟨q.eraseP Frame.isNotice, by simp [hroom]⟩
      | false => exact .inr ⟨by simp [hroom], Nat.le_of_not_lt hroom, rfl, rfl⟩

theorem answered_place (p : PortIx) (f : Frame) (s : State) : Answered (place p f s) p f := by
  unfold Answered
  rw [queue_place, if_pos rfl]
  obtain ⟨l, hl⟩ | ⟨hsame, hlost⟩ := placedIn_cases f s.sp[p].queue
  · exact .inl (by rw [hl, List.getLast?_append]; rfl)
  · exact .inr (by rw [hsame]; exact hlost)

theorem done_answerDone (p : PortIx) (kind : Nat) (c : Bool) (data : List Byte) (s : State) :
    Done (answerDone p kind c data s) p kind c data := answered_place ..

theorem place_of_room {p : PortIx} {f : Frame} {s : State} (h : s.sp[p].queue.length < queueSize) :
    place p f s = s.modPort p fun t => { t with queue := t.queue ++ [f] } := by
  unfold place placing
  rw [if_pos h]
  simp only [State.modPort, upd]

theorem sp_place (p q : PortIx) (f : Frame) (s : State) :
    (place p f s).sp[q] = { s.sp[q] with queue := if p = q then placedIn f s.sp[q].queue else s.sp[q].queue } := by
  rw [(PlaceFrame.place p f s).queues q, queue_place]

/-! ### Alarms -/

section
variable {s t u : State} {k : AlarmKind} {x : Nat}

theorem onlyAlarms_refl (s : State) (l : List (AlarmKind × Nat)) : OnlyAlarms s s l :=
  ⟨fun _ h _ _ => h, fun _ h _ _ => h⟩

theorem onlyAlarms_of_records (h : t.al.records = s.al.records) (l : List (AlarmKind × Nat)) : OnlyAlarms s t l := by
  unfold OnlyAlarms; rw [h]; exact onlyAlarms_refl s l

theorem onlyAlarms_trans {l : List (AlarmKind × Nat)} (h : OnlyAlarms s t l) (g : OnlyAlarms t u l) : OnlyAlarms s u l :=
  ⟨fun r hr hl hk => g.1 r (h.1 r hr hl hk) hl hk, fun r hr hl hk => h.2 r (g.2 r hr hl hk) hl hk⟩

theorem onlyAlarms_mono {l m : List (AlarmKind × Nat)} (h : OnlyAlarms s t l) (hlm : ∀ a ∈ l, a ∈ m) : OnlyAlarms s t m :=
  ⟨fun r hr hm hk => h.1 r hr (fun hl => hm (hlm _ hl)) hk, fun r hr hm hk => h.2 r hr (fun hl => hm (hlm _ hl)) hk⟩

/-- A condition that stands goes on standing while the records of other pairs alone differ. -/
theorem standing_of_onlyAlarms {l : List (AlarmKind × Nat)} (h : OnlyAlarms s t l) (hl : (k, x) ∉ l) (hk : k ≠ .LIST_FULL)
    (hs : Standing s k x) : Standing t k x := by
  obtain ⟨r, hr, hpair, hstate⟩ := hs
  exact ⟨r, h.1 r hr (hpair ▸ hl) (fun hkind => hk ((congrArg Prod.fst hpair).symm.trans hkind)), hpair, hstate⟩

theorem cleared_of_onlyAlarms {l : List (AlarmKind × Nat)} (h : OnlyAlarms s t l) (hl : (k, x) ∉ l) (hk : k ≠ .LIST_FULL)
    (hs : Cleared s k x) : Cleared t k x := by
  intro r hr hkind hsubject
  have hpair : r.pair = (k, x) := Prod.ext hkind hsubject
  exact hs r (h.2 r hr (hpair ▸ hl) (fun hfull => hk (hkind.symm.trans hfull))) hkind hsubject

theorem standing_congr (h : t.al = s.al) : Standing t k x ↔ Standing s k x := by unfold Standing; rw [h]
theorem cleared_congr (h : t.al = s.al) : Cleared t k x ↔ Cleared s k x := by unfold Cleared; rw [h]
theorem hasRoom_congr (h : t.al = s.al) : HasRoom t k x ↔ HasRoom s k x := by unfold HasRoom; rw [h]
theorem alarmLaw_congr (h : t.al.records = s.al.records) : AlarmLaw t ↔ AlarmLaw s := by unfold AlarmLaw; rw [h]

end

/-! ### Records after an operation of the list -/

section
variable {s : State} {k : AlarmKind} {x : Nat} {r q : AlarmRecord}

theorem mem_replaced_of_ne (hq : q ∈ s.al.records) (hne : q.pair ≠ r.pair) : q ∈ replaced r s.al.records :=
  List.mem_map.mpr ⟨q, hq, if_neg (mt isFor_iff.mp hne)⟩

theorem mem_replaced_self {p : AlarmRecord} (hp : p ∈ s.al.records) (hpair : p.pair = r.pair) : r ∈ replaced r s.al.records :=
  List.mem_map.mpr ⟨p, hp, if_pos (isFor_iff.mpr hpair)⟩

theorem mem_without {l : List AlarmRecord} : q ∈ without k x l ↔ q ∈ l ∧ q.pair ≠ (k, x) := by
  unfold without
  rw [List.mem_filter, Bool.not_eq_true', ← Bool.not_eq_true, isFor_iff]

theorem onlyAlarms_updateRecord (r : AlarmRecord) (s : State) : OnlyAlarms s (updateRecord r s) [r.pair] := by
  unfold OnlyAlarms
  rw [updateRecord_al]
  refine ⟨fun q hq hne _ => mem_replaced_of_ne hq (by simpa using hne), fun q hq hne _ => ?_⟩
  obtain ⟨rfl, -⟩ | ⟨hq, -⟩ := mem_replaced hq
  · exact absurd (List.mem_singleton.mpr rfl) hne
  · exact hq

theorem onlyAlarms_createRecord (k : AlarmKind) (x : Nat) (st : AlarmState) (s : State) :
    OnlyAlarms s (createRecord k x st s) [(k, x)] := by
  unfold OnlyAlarms
  rw [createRecord_al]
  refine ⟨fun q hq _ _ => mem_inserted.mpr (.inr hq), fun q hq hne _ => ?_⟩
  obtain rfl | hq := mem_inserted.mp hq
  · exact absurd (List.mem_singleton.mpr rfl) hne
  · exact hq

theorem onlyAlarms_dropRecord (r : AlarmRecord) (s : State) : OnlyAlarms s (dropRecord r s) [r.pair] := by
  unfold OnlyAlarms
  rw [dropRecord_al]
  exact ⟨fun q hq hne _ => mem_without.mpr ⟨hq, fun h => hne (List.mem_singleton.mpr h)⟩, fun q hq _ _ => (mem_without.mp hq).1⟩

theorem onlyAlarms_reraise (r : AlarmRecord) (s : State) : OnlyAlarms s (reraise r s) [r.pair] := by
  unfold reraise
  split
  · exact onlyAlarms_updateRecord ..
  · exact onlyAlarms_refl s _

/-- What changes records of LIST_FULL alone changes none that is spoken of. -/
theorem onlyAlarms_of_full {t : State} {a : AlarmKind × Nat} (h : OnlyAlarms s t [a]) (ha : a.1 = .LIST_FULL)
    (l : List (AlarmKind × Nat)) : OnlyAlarms s t l := by
  have hne (q : AlarmRecord) (hk : q.kind ≠ .LIST_FULL) : q.pair ∉ [a] := fun hmem =>
    hk ((congrArg Prod.fst (List.mem_singleton.mp hmem)).trans ha)
  exact ⟨fun q hq _ hk => h.1 q hq (hne q hk) hk, fun q hq _ hk => h.2 q hq (hne q hk) hk⟩

theorem onlyAlarms_loseRaise (s : State) (l : List (AlarmKind × Nat)) : OnlyAlarms s (loseRaise s) l := by
  unfold loseRaise raiseListFull
  generalize hu : ({ s with al := { s.al with lost := satInc 65535 s.al.lost } } : State) = u
  have counted : OnlyAlarms s u l := onlyAlarms_of_records (by rw [← hu]) l
  split
  · next r hr => exact onlyAlarms_trans counted (onlyAlarms_of_full (onlyAlarms_reraise r u) (findRecord_some hr).2.1 l)
  · exact onlyAlarms_trans counted (onlyAlarms_of_full (onlyAlarms_createRecord ..) rfl l)

theorem onlyAlarms_raiseAlarm (k : AlarmKind) (x : Nat) (s : State) : OnlyAlarms s (raiseAlarm k x s) [(k, x)] := by
  unfold raiseAlarm
  split
  · next r hr =>
    obtain ⟨-, hk, hx⟩ := findRecord_some hr
    have hpair : r.pair = (k, x) := Prod.ext hk hx
    exact hpair ▸ onlyAlarms_reraise r s
  · split
    · exact onlyAlarms_createRecord ..
    · exact onlyAlarms_loseRaise ..

theorem onlyAlarms_raiseEvent (k : AlarmKind) (x : Nat) (s : State) : OnlyAlarms s (raiseEvent k x s) [(k, x)] := by
  unfold raiseEvent
  split
  · next r hr =>
    obtain ⟨-, hk, hx⟩ := findRecord_some hr
    split
    · have hpair : ({ r with count := r.count + 1 } : AlarmRecord).pair = (k, x) := Prod.ext hk hx
      exact hpair ▸ onlyAlarms_updateRecord _ s
    · exact onlyAlarms_refl s _
  · split
    · exact onlyAlarms_createRecord ..
    · exact onlyAlarms_loseRaise ..

theorem onlyAlarms_clearRecord (r : AlarmRecord) (s : State) : OnlyAlarms s (clearRecord r s) [r.pair] := by
  unfold clearRecord
  split
  · exact onlyAlarms_updateRecord { r with state := .CLEARED_UNACK } s
  · exact onlyAlarms_dropRecord ..
  · exact onlyAlarms_refl s _

theorem onlyAlarms_testListFull (s : State) (l : List (AlarmKind × Nat)) : OnlyAlarms s (testListFull s) l := by
  unfold testListFull
  split
  · next r hr =>
    split
    · exact onlyAlarms_of_full (onlyAlarms_clearRecord r s) (findRecord_some hr).2.1 l
    · exact onlyAlarms_refl s l
  · exact onlyAlarms_refl s l

theorem onlyAlarms_clearAlarm (k : AlarmKind) (x : Nat) (s : State) : OnlyAlarms s (clearAlarm k x s) [(k, x)] := by
  unfold clearAlarm
  split
  · next r hr =>
    obtain ⟨-, hk, hx⟩ := findRecord_some hr
    have hpair : r.pair = (k, x) := Prod.ext hk hx
    split
    · exact hpair ▸ onlyAlarms_trans (onlyAlarms_dropRecord r s) (onlyAlarms_testListFull _ _)
    · exact hpair ▸ onlyAlarms_clearRecord r s
  · exact onlyAlarms_refl s _

theorem onlyAlarms_forEach {ι : Type} {act : ι → State → State} {l : List (AlarmKind × Nat)} (is : List ι)
    (h : ∀ i ∈ is, ∀ s, OnlyAlarms s (act i s) l) (s : State) : OnlyAlarms s (forEach is act s) l := by
  induction is generalizing s with
  | nil => exact onlyAlarms_refl s l
  | cons i rest ih =>
    exact onlyAlarms_trans (h i (by simp) s) (ih (fun j hj => h j (by simp [hj])) (act i s))

/-! ### A condition raised or cleared -/

theorem standing_reraise {r : AlarmRecord} (hr : r ∈ s.al.records) (hpair : r.pair = (k, x)) : Standing (reraise r s) k x := by
  unfold reraise
  split
  · refine ⟨{ r with state := .ACTIVE_UNACK, count := satInc 255 r.count }, ?_, hpair, by simp⟩
    rw [updateRecord_al]
    exact mem_replaced_self hr rfl
  · next hstate => exact ⟨r, hr, hpair, hstate⟩

/-- R154, R157: a raise that finds the pair's record or a free place leaves the condition standing. -/
theorem standing_raiseAlarm (h : HasRoom s k x) : Standing (raiseAlarm k x s) k x := by
  unfold raiseAlarm
  split
  · next r hr =>
    obtain ⟨hmem, hk, hx⟩ := findRecord_some hr
    exact standing_reraise hmem (Prod.ext hk hx)
  · next hnone =>
    have hroom : otherCount s.al.records < otherPlaces :=
      h.resolve_right fun ⟨r, hr, hpair⟩ => findRecord_none.mp hnone r hr hpair
    rw [if_pos hroom]
    refine ⟨⟨k, x, .ACTIVE_UNACK, s.seconds, 1⟩, ?_, rfl, by simp⟩
    rw [createRecord_al]
    exact mem_inserted.mpr (.inl rfl)

/-- R155: a clear leaves no ACTIVE record of the pair. -/
theorem cleared_clearAlarm (hlaw : AlarmLaw s) (hk : k ≠ .LIST_FULL) : Cleared (clearAlarm k x s) k x := by
  have law := (alarmLaw_iff s).mp hlaw
  unfold clearAlarm
  split
  · next r hr =>
    obtain ⟨hmem, hkind, hsubject⟩ := findRecord_some hr
    have hpair : r.pair = (k, x) := Prod.ext hkind hsubject
    have dropped : Cleared (dropRecord r s) k x := by
      intro q hq hqk hqx
      rw [dropRecord_al] at hq
      exact absurd (Prod.ext (hqk.trans hkind.symm) (hqx.trans hsubject.symm)) (mem_without.mp hq).2
    split
    · exact cleared_of_onlyAlarms (onlyAlarms_testListFull _ []) (by simp) hk dropped
    · unfold clearRecord
      split
      · intro q hq hqk hqx
        rw [updateRecord_al] at hq
        obtain ⟨rfl, -⟩ | ⟨-, hne⟩ := mem_replaced hq
        · rfl
        · exact absurd (Prod.ext (hqk.trans hkind.symm) (hqx.trans hsubject.symm)) hne
      · exact dropped
      · next hstate =>
        intro q hq hqk hqx
        have heq : q = r := law.eq_of_pair hq hmem (Prod.ext (hqk.trans hkind.symm) (hqx.trans hsubject.symm))
        rw [heq]; exact hstate
  · next hnone =>
    intro q hq hqk hqx
    exact absurd (Prod.ext hqk hqx) (findRecord_none.mp hnone q hq)

/-- A clear of a pair without a record changes nothing. -/
theorem clearAlarm_of_none (h : ∀ r ∈ s.al.records, r.pair ≠ (k, x)) : clearAlarm k x s = s := by
  unfold clearAlarm
  rw [findRecord_none.mpr h]

end

/-! ### How full the list is -/

section
variable {s : State}

theorem otherCount_replaced (r : AlarmRecord) (l : List AlarmRecord) : otherCount (replaced r l) = otherCount l := by
  rw [otherCount_eq_countP_kind, map_kind_replaced, ← otherCount_eq_countP_kind]

theorem otherCount_sublist {l m : List AlarmRecord} (h : m.Sublist l) : otherCount m ≤ otherCount l :=
  (h.filter _).length_le

theorem otherCount_updateRecord (r : AlarmRecord) : otherCount (updateRecord r s).al.records = otherCount s.al.records := by
  rw [updateRecord_al]; exact otherCount_replaced ..

theorem otherCount_dropRecord (r : AlarmRecord) : otherCount (dropRecord r s).al.records ≤ otherCount s.al.records := by
  rw [dropRecord_al]; exact otherCount_sublist List.filter_sublist

theorem otherCount_clearRecord (r : AlarmRecord) : otherCount (clearRecord r s).al.records ≤ otherCount s.al.records := by
  unfold clearRecord
  split
  · exact (otherCount_updateRecord _).le
  · exact otherCount_dropRecord r
  · exact le_rfl

theorem otherCount_testListFull : otherCount (testListFull s).al.records ≤ otherCount s.al.records := by
  unfold testListFull
  split
  · split
    · exact otherCount_clearRecord _
    · exact le_rfl
  · exact le_rfl

theorem otherCount_clearAlarm (k : AlarmKind) (x : Nat) :
    otherCount (clearAlarm k x s).al.records ≤ otherCount s.al.records := by
  unfold clearAlarm
  split
  · split
    · exact otherCount_testListFull.trans (otherCount_dropRecord _)
    · exact otherCount_clearRecord _
  · exact le_rfl

theorem otherCount_createRecord (k : AlarmKind) (x : Nat) (st : AlarmState) :
    otherCount (createRecord k x st s).al.records ≤ otherCount s.al.records + 1 := by
  have hal : (createRecord k x st s).al.records = inserted s.al.records ⟨k, x, st, s.seconds, 1⟩ := by
    rw [createRecord_al]; rfl
  rw [hal, otherCount_inserted]
  split <;> omega

theorem otherCount_raiseAlarm (k : AlarmKind) (x : Nat) :
    otherCount (raiseAlarm k x s).al.records ≤ otherCount s.al.records + 1 := by
  have reraised (r : AlarmRecord) (u : State) : otherCount (reraise r u).al.records = otherCount u.al.records := by
    unfold reraise
    split
    · exact otherCount_updateRecord _
    · rfl
  unfold raiseAlarm
  split
  · rw [reraised]; exact Nat.le_succ _
  · split
    · exact otherCount_createRecord ..
    · unfold loseRaise raiseListFull
      split
      · rw [reraised]; exact Nat.le_succ _
      · exact otherCount_createRecord ..

end

end Sys2Proof.Proofs
end

section
/-! ## Commands that pass R168, RESET, SAVE, and the frames of the ring -/
namespace Sys2Proof.Proofs
open Sys2Proof Sys2Proof.Machine

set_option Elab.async false

/-! ### The supervision fields under the alarm list's operations -/

section
variable (k : AlarmKind) (x : Nat) (s : State)

theorem ms_updateRecord (r : AlarmRecord) : (updateRecord r s).ms = s.ms := (PlaceFrame.notify ..).ms
theorem ms_createRecord (st : AlarmState) : (createRecord k x st s).ms = s.ms := (PlaceFrame.notify ..).ms

theorem ms_reraise (r : AlarmRecord) : (reraise r s).ms = s.ms := by
  unfold reraise
  split
  · exact ms_updateRecord ..
  · rfl

theorem ms_loseRaise : (loseRaise s).ms = s.ms := by
  unfold loseRaise raiseListFull
  split
  · exact ms_reraise ..
  · exact ms_createRecord ..

theorem ms_raiseAlarm : (raiseAlarm k x s).ms = s.ms := by
  unfold raiseAlarm
  split
  · exact ms_reraise ..
  · split
    · exact ms_createRecord ..
    · exact ms_loseRaise s

theorem ms_raiseEvent : (raiseEvent k x s).ms = s.ms := by
  unfold raiseEvent
  split
  · split
    · exact ms_updateRecord ..
    · rfl
  · split
    · exact ms_createRecord ..
    · exact ms_loseRaise s

variable {k x s} {r : AlarmRecord}

theorem ms_dropRecord (h : r.kind ≠ .DOOR_FAULT) : (dropRecord r s).ms = s.ms := by
  unfold dropRecord onRemoval
  rw [if_neg h]
  exact (PlaceFrame.notify ..).ms

theorem ms_clearRecord (h : r.kind ≠ .DOOR_FAULT) : (clearRecord r s).ms = s.ms := by
  unfold clearRecord
  split
  · exact ms_updateRecord ..
  · exact ms_dropRecord h
  · rfl

theorem ms_testListFull : (testListFull s).ms = s.ms := by
  unfold testListFull
  split
  · next r hr =>
    split
    · exact ms_clearRecord (by rw [(findRecord_some hr).2.1]; decide)
    · rfl
  · rfl

/-- A clear reaches the supervision fields by the removal of a DOOR_FAULT record alone. -/
theorem ms_clearAlarm (h : k ≠ .DOOR_FAULT) : (clearAlarm k x s).ms = s.ms := by
  unfold clearAlarm
  split
  · next r hr =>
    have hr : r.kind ≠ .DOOR_FAULT := by rw [(findRecord_some hr).2.1]; exact h
    split
    · exact ms_testListFull.trans (ms_dropRecord hr)
    · exact ms_clearRecord hr
  · rfl

end

/-! ### A command in a part that is awake -/

/-- The state that a command awake ends in, read off its meaning. -/
theorem exec_awake {c : Instr} {s x : State} (h : Awake s) (hx : exec c s = .next (if s.pins.reset then s else x)) :
    exec c s = .next x := by
  rw [hx, h]; rfl

theorem exec_stands {c : Instr} {s x : State} (h : s.pins.reset = true)
    (hx : exec c s = .next (if s.pins.reset then s else x)) : exec c s = .next s := by
  rw [hx, h]; rfl

/-- A command that ends in a known state ends as the statement says. -/
theorem ends_of {c : Instr} {s t : State} {P : State → Prop} (h : exec c s = .next t) (hp : P t) : Ends c s P := ⟨t, h, hp⟩

theorem aside_of_block {s t : State} (h : BlockFrame s t) : Aside s t :=
  ⟨h.tables, h.cfs, h.pins, h.seconds, h.queues, h.pacing⟩

/-! ### The steps of R168 -/

section
variable {g : Gate} {p : PortIx} {s : State}

theorem decideCommand_pass {b : Bool} (f : State → State) (h : gateRefusal g b p (acceptFrame p s) = none) :
    decideCommand g b p f s = f (acceptFrame p s) := by
  simp only [decideCommand, h]

theorem decideCommand_refused {b : Bool} {c : ResultCode} (f : State → State)
    (h : gateRefusal g b p (acceptFrame p s) = some c) : decideCommand g b p f s = refuse p g.kind c (acceptFrame p s) := by
  simp only [decideCommand, h]

/-- The acceptance of a frame changes nothing that the steps of R168 look at. -/
theorem gateRefusal_acceptFrame (b : Bool) (q : PortIx) : gateRefusal g b p (acceptFrame q s) = gateRefusal g b p s := rfl

/-- R168: no step refuses a command that is decided in the part's state, permitted, not refused in EMERGENCY nor guarded. -/
theorem gateRefusal_eq_none (hpart : s.inService = true ∨ g.unconfigured = true) (hrole : s.commandRole p ∈ g.roles)
    (hmode : g.emergency = false ∨ s.mc.mode ≠ .EMERGENCY) (hstore : g.exclusive = false ∨ storeBusy s = false) :
    gateRefusal g false p s = none := by
  unfold gateRefusal
  rw [if_neg (by rintro ⟨h, k⟩; simp_all), if_neg (by simp), if_neg (by simpa using hrole),
    if_neg (by rintro ⟨h, k⟩; simp_all), if_neg (by rintro ⟨h, k⟩; simp_all)]

theorem commandRole_of_inService (h : s.inService = true) : s.commandRole p = s.roleAt p := by
  unfold State.commandRole; rw [h]; rfl

/-- An operating command of a port that operates is handed on. -/
theorem decide_operating {kind : Nat} {roles : List Role} (f : State → State) (h : Operates s p roles) :
    decideCommand (operating kind roles) false p f s = f (acceptFrame p s) :=
  decideCommand_pass f (gateRefusal_eq_none (g := operating kind roles) (s := acceptFrame p s) (.inl h.2.1)
    (by rw [commandRole_of_inService (s := acceptFrame p s) h.2.1]; exact h.2.2) (.inl rfl) (.inl rfl))

/-- An OPEN command of a bridge row out of EMERGENCY is handed on. -/
theorem decide_opening {kind : Nat} (f : State → State) (h : Operates s p [.BRIDGE]) (hmode : s.mc.mode ≠ .EMERGENCY) :
    decideCommand (opening kind) false p f s = f (acceptFrame p s) :=
  decideCommand_pass f (gateRefusal_eq_none (g := opening kind) (s := acceptFrame p s) (.inl h.2.1)
    (by rw [commandRole_of_inService (s := acceptFrame p s) h.2.1]; exact h.2.2) (.inr hmode) (.inl rfl))

/-- A reading command of a permitted role is handed on. -/
theorem decide_reading {kind : Nat} {roles : List Role} (f : State → State) (h : s.commandRole p ∈ roles) :
    decideCommand (reading kind roles) false p f s = f (acceptFrame p s) :=
  decideCommand_pass f (gateRefusal_eq_none (g := reading kind roles) (s := acceptFrame p s) (.inr rfl) h (.inl rfl) (.inl rfl))

/-- A guarded command of SERVICE is handed on while neither a SAVE nor a RESTART stands. -/
theorem decide_exclusive {kind : Nat} (f : State → State) (h : ManagesStore s p) :
    decideCommand (exclusive kind) false p f s = f (acceptFrame p s) :=
  decideCommand_pass f (gateRefusal_eq_none (g := exclusive kind) (s := acceptFrame p s) (.inr rfl)
    (by rw [show (acceptFrame p s).commandRole p = _ from h.1.2]; exact List.mem_singleton.mpr rfl) (.inl rfl) (.inr h.2))

end

/-! ### The queue of commands, RESET -/

/-- Settles O1. -/
theorem stepTakesFront : Obligations.StepTakesFront := by
  unfold Obligations.StepTakesFront
  exact fun c rest s => ⟨rfl, rfl⟩

/-- R186: in RESET a command whose meaning is taken only awake leaves the part as it is. -/
theorem exec_in_reset (c : Instr) {s : State} (h : s.pins.reset = true) :
    (c = .emergencyCloseAsserted ∧ exec c s = .next { s with pins := { s.pins with emClose := true } })
    ∨ (c = .emergencyCloseReleased ∧ exec c s = .next { s with pins := { s.pins with emClose := false } })
    ∨ c = .resetAsserted ∨ c = .coldStart ∨ exec c s = .next s := by
  cases c with
  | emergencyCloseAsserted => exact .inl ⟨rfl, by
      change awake (fun t => if t.mc.line then t else lineAsserted t) (setPin true s) = .next (setPin true s)
      unfold awake; rw [show (setPin true s).pins.reset = true from h]; rfl⟩
  | emergencyCloseReleased => exact .inr (.inl ⟨rfl, by
      change awake (fun t => if t.mc.line then lineReleased t else t) (setPin false s) = .next (setPin false s)
      unfold awake; rw [show (setPin false s).pins.reset = true from h]; rfl⟩)
  | resetAsserted => exact .inr (.inr (.inl rfl))
  | coldStart => exact .inr (.inr (.inr (.inl rfl)))
  | _ => exact .inr (.inr (.inr (.inr (exec_stands h rfl))))

theorem resetAsserted_empties (s : State) : let t := resetAsserted s
    (∀ q : PortIx, t.sp[q].queue = [] ∧ t.sp[q].part = none ∧ t.sp[q].rx = .HUNT)
    ∧ (∀ d : DoorIx, t.entry d = none ∧ t.passage d = none) ∧ ∀ i : SlotIx, SlotIdle t i := by
  refine ⟨fun q => ?_, fun d => ⟨?_, ?_⟩, fun i => ?_⟩ <;>
    simp [resetAsserted, State.entry, State.passage, SlotIdle, Cs.empty, Gru.cold]

/-- Settles O3, by the cases of the dispatch and the fields of the assertion. -/
theorem heldInReset : Obligations.HeldInReset := by
  unfold Obligations.HeldInReset
  refine ⟨fun c s h => exec_in_reset c h, fun s => ends_of rfl ?_⟩
  obtain ⟨hports, hdoors, hslots⟩ := resetAsserted_empties s
  exact ⟨rfl, rfl, rfl, rfl, rfl, rfl, hports, rfl, rfl, rfl, hdoors, hslots, rfl, rfl, rfl⟩

/-! ### SAVE (R184, R185) -/

/-- The placing of a frame leaves everything but SP's queues and IB's pending flags. -/
theorem frame_answerDone (p : PortIx) (kind : Nat) (c : Bool) (data : List Byte) (s : State) :
    PlaceFrame s (answerDone p kind c data s) := .place ..

/-- Settles O41. -/
theorem savedAndCompleted : Obligations.SavedAndCompleted := by
  unfold Obligations.SavedAndCompleted
  intro p s
  refine ⟨fun h => ?_, fun h hnone => ?_, fun h hlaw q hq => ?_⟩
  · rw [exec_awake h.1.1 rfl, decide_exclusive _ h]
    rfl
  · rw [exec_awake h rfl]
    simp only [hnone]
  · have hsave : s.cfs.save = some q := hq
    let stored : State :=
      { s with cfs := { s.cfs with save := none, saveBuffer := [], image := s.cfs.saveBuffer, status := .GOOD } }
    have hexec : exec .saveComplete s = .next (saveCompletes q s) := by
      rw [exec_awake h rfl]
      simp only [hsave]
    have cleared := AlarmFrame.clearAlarm .STORE_INVALID noSubject stored
    have answered := frame_answerDone q saveKind false [] (clearAlarm .STORE_INVALID noSubject stored)
    have frame : AlarmFrame stored (saveCompletes q s) := cleared.trans answered.toAlarmFrame
    refine ends_of hexec ⟨frame.cfs, ?_, done_answerDone .., frame.tables, frame.cs, ?_, frame.gru, frame.mc, frame.rc,
      frame.pins, frame.seconds, frame.queues, frame.pacing⟩
    · exact (cleared_congr answered.al).mpr (cleared_clearAlarm (s := stored) hlaw (by simp))
    · exact answered.ms.trans (ms_clearAlarm (s := stored) (by simp))

/-! ### Who a node address names (R131, R133) -/

/-- The first index at which a test holds. -/
theorem find?_finRange {n : Nat} {p : Fin n → Bool} {d : Fin n} :
    (List.finRange n).find? p = some d ↔ p d = true ∧ ∀ x : Fin n, x < d → p x = false := by
  rw [List.find?_eq_some_iff_getElem]
  constructor
  · rintro ⟨hp, i, hi, hd, hbefore⟩
    rw [List.getElem_finRange] at hd
    refine ⟨hp, fun x hx => ?_⟩
    have := hbefore x.val (by rw [← hd] at hx; exact hx)
    simpa using this
  · rintro ⟨hp, hbefore⟩
    exact ⟨hp, d.val, by simp, by simp, fun j hj => by simpa using hbefore ⟨j, by omega⟩ hj⟩

section
variable {s : State} {src : Byte} {p : RingPort} {d : DoorIx}

theorem doorAt_eq_none (h : ∀ x : DoorIx, s.isPresent x = true → s.tables.doors[x].node ≠ src.toNat) : doorAt s src = none := by
  unfold doorAt
  refine find?_allDoors.mpr fun x => ?_
  cases hx : s.isPresent x with
  | true => simpa using h x hx
  | false => rfl

theorem hpuAt_eq_none (h : ∀ x : HpuIx, s.hpuPresent x = true → s.tables.hpus[x].node ≠ src.toNat) : hpuAt s src = none := by
  unfold hpuAt
  refine find?_allHpus.mpr fun x => ?_
  cases hx : s.hpuPresent x with
  | true => simpa using h x hx
  | false => rfl

theorem doorAt_of_names (h : NamesDoor s src d) : doorAt s src = some d := by
  obtain ⟨hpresent, hnode, hfirst⟩ := h
  refine find?_finRange.mpr ⟨by simpa [hpresent] using hnode, fun x hx => ?_⟩
  cases hxp : s.isPresent x with
  | true => simpa using hfirst x hx hxp
  | false => rfl

theorem hpuAt_of_present {u : HpuIx} (hpresent : s.hpuPresent u = true) (hnode : s.tables.hpus[u].node = src.toNat) :
    ∃ x, hpuAt s src = some x := by
  refine Option.isSome_iff_exists.mp ?_
  rw [hpuAt, List.find?_isSome]
  exact ⟨u, List.mem_finRange u, by simpa [hpresent] using hnode⟩

/-- A ring port's receive state and counts are no part of what names a door, an HPU or a copy. -/
theorem modSide_tables (f : RingSide → RingSide) : (modSide p f s).tables = s.tables := by cases p <;> rfl
theorem doorAt_ringHunt : doorAt (ringHunt p s) src = doorAt s src := by cases p <;> rfl
theorem hpuAt_ringHunt : hpuAt (ringHunt p s) src = hpuAt s src := by cases p <;> rfl
theorem polled_ringHunt : (ringHunt p s).rc.polled = s.rc.polled := by cases p <;> rfl
theorem filterAt_ringHunt {a : Nat} : (ringHunt p s).filterAt a = s.filterAt a := by cases p <;> rfl
theorem loop_ringHunt : (ringHunt p s).rc.loop = s.rc.loop := by cases p <;> rfl

end

section
variable {s : State} {rp : RingPort} {src seq : Byte}

theorem exec_report (h : Awake s) (r : ReportBits) :
    exec (.report rp src seq r) s = .next (reportArrives rp src seq r (ringHunt rp s)) := exec_awake h rfl
theorem exec_event (h : Awake s) (x : HandleCode) (low fault : Bool) :
    exec (.event rp src seq x low fault) s = .next (eventArrives rp src seq x low fault (ringHunt rp s)) := exec_awake h rfl
theorem exec_hpuReport (h : Awake s) (st : HpuCode) (pressure : Nat) :
    exec (.hpuReport rp src seq st pressure) s = .next (hpuReportArrives rp src seq st pressure (ringHunt rp s)) :=
  exec_awake h rfl
theorem exec_loopCopy (h : Awake s) : exec (.loopCopy rp seq) s = .next (loopArrives rp seq (ringHunt rp s)) :=
  exec_awake h rfl

theorem filtered_second {take : State → State} (h : s.filterAt src.toNat = some seq) :
    filtered rp src seq take s = secondCopy rp s := if_pos h

/-- R132: what a second copy leaves. -/
theorem secondCopy_ringHunt : secondCopy rp (ringHunt rp s) =
    let copy := modSide rp (fun x => { x with received := min (x.received + 1) 65535 }) (ringHunt rp s)
    { copy with rc := { copy.rc with secondCopies := min (s.rc.secondCopies + 1) 65535 } } := by
  cases rp <;> rfl

/-- Settles O47. -/
theorem nodeFramesDiscarded : Obligations.NodeFramesDiscarded := by
  unfold Obligations.NodeFramesDiscarded
  intro rp src seq r x low fault st pressure d s hs _
  refine ⟨fun hnone => ?_, fun hnone => ?_, fun u hu hnode hseq => ?_, fun hd hpolled => ?_, fun hd hseq => ⟨fun hpolled => ?_, ?_⟩⟩
  · have hnone := doorAt_eq_none hnone
    rw [exec_report hs, exec_event hs]
    unfold reportArrives eventArrives
    rw [doorAt_ringHunt, hnone]
    exact ⟨rfl, rfl⟩
  · rw [exec_hpuReport hs, hpuReportArrives, hpuAt_ringHunt, hpuAt_eq_none hnone]
    rfl
  · obtain ⟨y, hy⟩ := hpuAt_of_present hu hnode
    rw [exec_hpuReport hs, hpuReportArrives, hpuAt_ringHunt, hy]
    simp only
    rw [filtered_second (filterAt_ringHunt.trans hseq), secondCopy_ringHunt]
    rfl
  · rw [exec_report hs, reportArrives, doorAt_ringHunt, doorAt_of_names hd]
    simp only [polled_ringHunt, if_neg hpolled]
    rfl
  · rw [exec_report hs, reportArrives, doorAt_ringHunt, doorAt_of_names hd]
    simp only [polled_ringHunt, if_pos hpolled]
    rw [filtered_second (filterAt_ringHunt.trans hseq), secondCopy_ringHunt]
    rfl
  · rw [exec_event hs, eventArrives, doorAt_ringHunt, doorAt_of_names hd]
    simp only
    rw [filtered_second (filterAt_ringHunt.trans hseq), secondCopy_ringHunt]
    rfl

end

/-! ### What the ring sends (R129, R133, R140, R141) -/

section
variable {s : State} {d k : DoorIx}

theorem firstDoor_eq_some : firstDoor s = some d ↔ s.isPresent d = true ∧ ∀ x : DoorIx, x < d → s.isPresent x = false :=
  find?_finRange

theorem nextDoor_eq_some (hk : s.rc.polled = some k) (hlt : k < d) (hd : s.isPresent d = true)
    (hbetween : ∀ x : DoorIx, k < x → x < d → s.isPresent x = false) : nextDoor s = some d := by
  unfold nextDoor
  rw [hk]
  refine find?_finRange.mpr ⟨by simp [hd, hlt], fun x hx => ?_⟩
  by_cases hkx : k < x
  · simp [hbetween x hkx hx]
  · simp [hkx]

theorem nextDoor_eq_none (h : ∀ k ∈ s.rc.polled, ∀ x : DoorIx, k < x → s.isPresent x = false) : nextDoor s = none := by
  unfold nextDoor
  split
  · next k hk =>
    refine find?_allDoors.mpr fun x => ?_
    by_cases hkx : k < x
    · simp [h k hk x hkx]
    · simp [hkx]
  · rfl

theorem mayTransmit_eq_false (h : s.inService = false ∨ s.rc.pollEnded = false) : mayTransmit s = false := by
  unfold mayTransmit
  rcases h with h | h <;> rw [h]
  · rfl
  · exact Bool.and_false _

theorem mayTransmit_eq_true (h : s.inService = true) (hended : s.rc.pollEnded = true) : mayTransmit s = true := by
  unfold mayTransmit; rw [h, hended]; rfl

theorem exec_orderSend (h : Awake s) : exec .orderSend s =
    .next (if mayTransmit s && !s.rc.orders.isEmpty then sendHeadOrder (ringQuiet s) else s) := exec_awake h rfl
theorem exec_pollSend (h : Awake s) : exec .pollSend s =
    .next (if mayTransmit s && s.rc.orders.isEmpty then pollNext (ringQuiet s) else s) := exec_awake h rfl

theorem orderSend_stands (h : Awake s) (hs : s.inService = false ∨ s.rc.pollEnded = false ∨ s.rc.orders = []) :
    exec .orderSend s = .next s := by
  rw [exec_orderSend h]
  rcases hs with hs | hs | hs
  · rw [mayTransmit_eq_false (.inl hs)]; rfl
  · rw [mayTransmit_eq_false (.inr hs)]; rfl
  · rw [hs, List.isEmpty_nil, Bool.not_true, Bool.and_false]; rfl

theorem pollSend_stands (h : Awake s) (hs : s.inService = false ∨ s.rc.pollEnded = false ∨ s.rc.orders ≠ []) :
    exec .pollSend s = .next s := by
  rw [exec_pollSend h]
  rcases hs with hs | hs | hs
  · rw [mayTransmit_eq_false (.inl hs)]; rfl
  · rw [mayTransmit_eq_false (.inr hs)]; rfl
  · rw [List.isEmpty_eq_false_iff.mpr hs, Bool.and_false]; rfl

theorem pollSend_sends (h : Awake s) (hs : s.inService = true) (hended : s.rc.pollEnded = true) (hnone : s.rc.orders = []) :
    exec .pollSend s = .next (pollNext (ringQuiet s)) := by
  rw [exec_pollSend h, mayTransmit_eq_true hs hended, hnone]; rfl

/-- The end of a cycle with a loop check waiting, and without one. -/
theorem startLoop_waits (h : (s.rc.loop).isSome = true) : startLoop s = s := by
  unfold startLoop
  obtain ⟨x, hx⟩ := Option.isSome_iff_exists.mp h
  rw [hx]

theorem startLoop_starts (h : s.rc.loop = none) :
    startLoop s = ringSend 0 6 [] (setLoop (some ⟨s.rc.txSeq, false, false, loopTicks⟩) s) := by
  unfold startLoop; rw [h]

theorem pollNext_of_next {u : State} (h : nextDoor u = some d) : pollNext u = sendPoll d u := by
  unfold pollNext; rw [h]

theorem pollNext_of_end {u : State} (hnext : nextDoor u = none) (hfirst : firstDoor u = some d) :
    pollNext u = sendPoll d (startLoop u) := by
  unfold pollNext endCycle; rw [hnext, hfirst]

end

/-- Settles O49. -/
theorem ringTraffic : Obligations.RingTraffic := by
  unfold Obligations.RingTraffic
  refine ⟨fun s h => ⟨orderSend_stands h, fun hs hended o ho => ?_⟩, fun s h => ⟨pollSend_stands h, fun hs hended hnone =>
    ⟨fun k hk d hlt hd hbetween => ?_, fun hlast d hd hfirst => ⟨fun hloop => ?_, fun hloop => ?_⟩⟩⟩⟩
  · obtain ⟨rest, horders⟩ : ∃ rest, s.rc.orders = o :: rest := by
      cases hq : s.rc.orders with
      | nil => simp [hq] at ho
      | cons a rest => exact ⟨rest, by simpa [hq] using ho⟩
    rw [exec_orderSend h, mayTransmit_eq_true hs hended, horders]
    simp only [List.isEmpty_cons, Bool.not_false, Bool.and_self, if_true]
    rw [sendHeadOrder, show (ringQuiet s).rc.orders = o :: rest from horders]
    rfl
  · rw [pollSend_sends h hs hended hnone, pollNext_of_next (nextDoor_eq_some (s := ringQuiet s) hk hlt hd hbetween)]
    rfl
  · rw [pollSend_sends h hs hended hnone, pollNext_of_end (nextDoor_eq_none (s := ringQuiet s) hlast)
      (firstDoor_eq_some.mpr ⟨hd, hfirst⟩), startLoop_waits (s := ringQuiet s) hloop]
    rfl
  · rw [pollSend_sends h hs hended hnone, pollNext_of_end (nextDoor_eq_none (s := ringQuiet s) hlast)
      (firstDoor_eq_some.mpr ⟨hd, hfirst⟩), startLoop_starts (s := ringQuiet s) hloop]
    simp only [sendPoll, ringSend, ringQuiet, setLoop, loopTicks, replyTicks, List.nil_append, List.singleton_append,
      BitVec.add_assoc]
    rfl

/-! ### The loop check (R141 to R143) -/

section
variable {s : State} {rp : RingPort} {seq : Byte} {x : LoopCheck}

theorem loopTaken_ringHunt : loopTaken (ringHunt rp s) rp seq = loopTaken s rp seq := by cases rp <;> rfl

theorem loopTaken_eq_some : loopTaken s rp seq = some x ↔ s.rc.loop = some x ∧ x.seq = seq ∧ copyAt x rp = false := by
  have hcopy (y : LoopCheck) : y.copySeen rp = copyAt y rp := by cases rp <;> rfl
  unfold loopTaken
  cases hl : s.rc.loop with
  | none => simp
  | some y =>
    simp only [hcopy, Option.some.injEq]
    constructor
    · intro h
      split at h
      · next hy => cases h; exact ⟨rfl, hy⟩
      · cases h
    · rintro ⟨rfl, hy⟩
      exact if_pos hy

theorem loopTaken_eq_none (h : ¬∃ x ∈ s.rc.loop, x.seq = seq ∧ copyAt x rp = false) : loopTaken s rp seq = none := by
  refine Option.eq_none_iff_forall_ne_some.mpr fun x hx => h ?_
  obtain ⟨hl, hx⟩ := loopTaken_eq_some.mp hx
  exact ⟨x, hl, hx⟩

/-- A raise or a clear whose kind is not DOOR_FAULT leaves every block but AL, SP's queues and IB's pending flags. -/
theorem blocks_of_alarmFrame {s t u : State} (h : AlarmFrame s t) (hms : t.ms = s.ms) (hcs : s.cs = u.cs) (hu : s.ms = u.ms)
    (hgru : s.gru = u.gru) (hmc : s.mc = u.mc) (haside : Aside u s) :
    t.cs = u.cs ∧ t.ms = u.ms ∧ t.gru = u.gru ∧ t.mc = u.mc ∧ Aside u t := by
  obtain ⟨htables, hcfs, hpins, hseconds, hqueues, hpacing⟩ := haside
  exact ⟨h.cs.trans hcs, hms.trans hu, h.gru.trans hgru, h.mc.trans hmc, h.tables.trans htables, h.cfs.trans hcfs,
    h.pins.trans hpins, h.seconds.trans hseconds, hqueues.trans h.queues, hpacing.trans h.pacing⟩

/-- What the second copy of a check leaves: the check has ended complete. -/
theorem loopComplete_ends (u : State) (hlaw : AlarmLaw u) : let t := loopComplete u
    t.rc = { u.rc with loop := none, incomplete := 0 } ∧ Cleared t .RING_OPEN noSubject
    ∧ t.cs = u.cs ∧ t.ms = u.ms ∧ t.gru = u.gru ∧ t.mc = u.mc ∧ Aside u t := by
  let v : State := { u with rc := { u.rc with loop := none, incomplete := 0 } }
  have frame := AlarmFrame.clearAlarm .RING_OPEN noSubject v
  exact ⟨frame.rc, cleared_clearAlarm (s := v) hlaw (by decide),
    blocks_of_alarmFrame frame (ms_clearAlarm (by decide)) rfl rfl rfl rfl ⟨rfl, rfl, rfl, rfl, fun _ => rfl, rfl⟩⟩

theorem loopIncomplete_ends (u : State) : let t := loopIncomplete u
    t.rc = { u.rc with loop := none, incomplete := min (u.rc.incomplete + 1) 2,
                       loopMisses := min (u.rc.loopMisses + 1) 65535 }
    ∧ (u.rc.incomplete = 1 → HasRoom u .RING_OPEN noSubject → Standing t .RING_OPEN noSubject)
    ∧ (u.rc.incomplete ≠ 1 → t.al = u.al)
    ∧ t.cs = u.cs ∧ t.ms = u.ms ∧ t.gru = u.gru ∧ t.mc = u.mc ∧ Aside u t := by
  let v : State := { u with rc := { u.rc with loop := none, incomplete := satInc 2 u.rc.incomplete,
                                              loopMisses := count16 u.rc.loopMisses } }
  have aside : Aside u v := ⟨rfl, rfl, rfl, rfl, fun _ => rfl, rfl⟩
  unfold loopIncomplete
  split
  · next h =>
    have frame := AlarmFrame.raiseAlarm .RING_OPEN noSubject v
    exact ⟨frame.rc, fun _ hroom => standing_raiseAlarm (s := v) hroom, fun hne => absurd h hne,
      blocks_of_alarmFrame frame (ms_raiseAlarm ..) rfl rfl rfl rfl aside⟩
  · next h => exact ⟨rfl, fun h1 => absurd h1 h, fun _ => rfl, rfl, rfl, rfl, rfl, aside⟩

theorem exec_loopTimer (h : Awake s) : exec .loopTimerExpiry s = .next (loopTimerExpires s) := exec_awake h rfl
theorem exec_loopInterval (h : Awake s) : exec .loopIntervalExpiry s = .next (loopIntervalExpires s) := exec_awake h rfl

theorem loopIntervalExpires_due (hs : s.inService = false) (hdue : 50 ≤ s.rc.interval) :
    loopIntervalExpires s =
      { startLoop (ringQuiet s) with rc := { (startLoop (ringQuiet s)).rc with interval := 0 } } := if_pos ⟨hs, hdue⟩

end

/-- Settles O51. -/
theorem loopChecks : Obligations.LoopChecks := by
  unfold Obligations.LoopChecks
  intro rp seq s h
  refine ⟨fun hunwanted => ?_, fun x hx hseq hcopy => ?_, fun htimer => ?_, fun x hx htimer => ?_, fun hnot => ?_,
    fun hs hdue => ⟨fun hloop => ?_, fun hloop => ?_⟩⟩
  · rw [exec_loopCopy h, loopArrives, loopTaken_ringHunt, loopTaken_eq_none hunwanted]
    rfl
  · have harrives : exec (.loopCopy rp seq) s = .next
        (if (x.setCopy rp).eastCopy ∧ (x.setCopy rp).westCopy then loopComplete (ringReceive rp (ringHunt rp s))
          else setLoop (some (x.setCopy rp)) (ringReceive rp (ringHunt rp s))) := by
      rw [exec_loopCopy h, loopArrives, loopTaken_ringHunt, loopTaken_eq_some.mpr ⟨hx, hseq, hcopy⟩]
    refine ⟨fun heast hwest => ?_, fun hother hlaw => ?_⟩
    · have hfirst : ¬((x.setCopy rp).eastCopy = true ∧ (x.setCopy rp).westCopy = true) := by
        cases rp <;> simp [LoopCheck.setCopy, heast, hwest]
      have hset : x.setCopy rp = { x with eastCopy := decide (rp = .WEST), westCopy := decide (rp = .EAST) } := by
        cases rp <;> simp [LoopCheck.setCopy, heast, hwest]
      rw [harrives, if_neg hfirst, hset]
      rfl
    · have hboth : (x.setCopy rp).eastCopy = true ∧ (x.setCopy rp).westCopy = true := by
        cases rp <;> simp_all [LoopCheck.setCopy, copyAt]
      rw [if_pos hboth] at harrives
      have hlaw' : AlarmLaw (ringReceive rp (ringHunt rp s)) := by cases rp <;> exact hlaw
      obtain ⟨hrc, hcleared, hcs, hms, hgru, hmc, haside⟩ := loopComplete_ends _ hlaw'
      refine ends_of harrives ⟨hrc, hcleared, hcs.trans ?_, hms.trans ?_, hgru.trans ?_, hmc.trans ?_, ?_⟩
      · cases rp <;> rfl
      · cases rp <;> rfl
      · cases rp <;> rfl
      · cases rp <;> rfl
      · cases rp <;> exact haside
  · rw [exec_loopTimer h, loopTimerExpires]
    split
    · next x hx => rw [if_neg (htimer x hx)]
    · rfl
  · refine ends_of ((exec_loopTimer h).trans ?_) (loopIncomplete_ends s)
    rw [loopTimerExpires, show s.rc.loop = some x from hx]
    exact congrArg _ (if_pos htimer)
  · rw [exec_loopInterval h, loopIntervalExpires, if_neg]
    rintro ⟨hs, hdue⟩
    rcases hnot with hin | hlt
    · rw [hin] at hs; cases hs
    · exact absurd hdue (Nat.not_le.mpr hlt)
  · rw [exec_loopInterval h, loopIntervalExpires_due hs hdue, startLoop_starts (s := ringQuiet s) hloop]
    rfl
  · rw [exec_loopInterval h, loopIntervalExpires_due hs hdue, startLoop_waits (s := ringQuiet s) hloop]
    rfl

end Sys2Proof.Proofs
end

section
/-! ## Station commands refused, tables and counters read, frames read back -/
namespace Sys2Proof.Proofs
open Sys2Proof Sys2Proof.Machine

set_option Elab.async false

/-! ### The gate of a command (R168, R169) -/

/-- What R168 and R169 say of a command of a kind. -/
def gateOf (c : Instr) (kind : Nat) : Gate :=
  ⟨kind, permittedRoles c, decide (9 < kind), isOpenCommand c, guardedKinds.contains kind⟩

section
variable {g : Gate} {p : PortIx} {s : State}

theorem gateRefusal_notConfigured {b : Bool} (hs : s.inService = false) (hg : g.unconfigured = false) :
    gateRefusal g b p s = some .NOT_CONFIGURED := if_pos ⟨hs, hg⟩

theorem gateRefusal_namesNothing (hs : s.inService = true ∨ g.unconfigured = true) :
    gateRefusal g true p s = some .INVALID_VALUE := by
  unfold gateRefusal
  rw [if_neg (by rintro ⟨h, k⟩; simp_all), if_pos rfl]

theorem gateRefusal_notPermitted (hs : s.inService = true ∨ g.unconfigured = true) (hrole : s.commandRole p ∉ g.roles) :
    gateRefusal g false p s = some .NOT_PERMITTED := by
  unfold gateRefusal
  rw [if_neg (by rintro ⟨h, k⟩; simp_all), if_neg (by simp), if_pos (by simpa using hrole)]

theorem gateRefusal_wrongMode (hs : s.inService = true ∨ g.unconfigured = true) (hrole : s.commandRole p ∈ g.roles)
    (hg : g.emergency = true) (hmode : s.mc.mode = .EMERGENCY) : gateRefusal g false p s = some .WRONG_MODE := by
  unfold gateRefusal
  rw [if_neg (by rintro ⟨h, k⟩; simp_all), if_neg (by simp), if_neg (by simpa using hrole), if_pos ⟨hg, hmode⟩]

theorem gateRefusal_busy (hs : s.inService = true ∨ g.unconfigured = true) (hrole : s.commandRole p ∈ g.roles)
    (hopen : g.emergency = false) (hg : g.exclusive = true) (hbusy : storeBusy s = true) :
    gateRefusal g false p s = some .BUSY := by
  unfold gateRefusal
  rw [if_neg (by rintro ⟨h, k⟩; simp_all), if_neg (by simp), if_neg (by simpa using hrole),
    if_neg (by rintro ⟨h, -⟩; simp_all), if_pos ⟨hg, hbusy⟩]

end

/-- A well-formed station command whose code names something is decided at the gate of its kind. -/
theorem exec_gated {c : Instr} {s : State} (h : Awake s) (hwf : c.wf = true) (hcode : codeKnown c = true) {p : PortIx}
    {kind : Byte} {payload : List Byte} (hx : encodeStationCommand c = some (p, kind, payload)) :
    ∃ f, exec c s = .next (decideCommand (gateOf c kind.toNat) false p f s) := by
  have write {n : Nat} {image : List Byte} {f : State → State} {q : PortIx} (hok : wfImage n image = true) :
      writeOfLength (wfImage n image) q f s = decideCommand (exclusive 10) false q f s := if_pos hok
  cases c with
  | alarmAck q k x =>
    obtain ⟨rfl, rfl, rfl⟩ : q = p ∧ 8 = kind ∧ [k, x] = payload := by simpa [encodeStationCommand] using hx
    have hknown : (alarmKindOf k.toNat).isNone = false := by
      have hrange : 1 ≤ k.toNat ∧ k.toNat ≤ 17 := by simpa [codeKnown] using hcode
      have known : ∀ n ∈ List.range 18, 1 ≤ n → (alarmKindOf n).isNone = false := by decide
      exact known k.toNat (List.mem_range.mpr (by omega)) hrange.1
    exact ⟨_, (exec_awake h rfl).trans (by rw [hknown]; rfl)⟩
  | tableWriteDoor q i l =>
    obtain ⟨rfl, rfl, rfl⟩ : q = p ∧ 10 = kind ∧ 0 :: i :: l = payload := by simpa [encodeStationCommand] using hx
    exact ⟨_, (exec_awake h rfl).trans (congrArg _ (write hwf))⟩
  | tableWriteHpu q i l =>
    obtain ⟨rfl, rfl, rfl⟩ : q = p ∧ 10 = kind ∧ 2 :: i :: l = payload := by simpa [encodeStationCommand] using hx
    exact ⟨_, (exec_awake h rfl).trans (congrArg _ (write hwf))⟩
  | tableWriteGroup q i l =>
    obtain ⟨rfl, rfl, rfl⟩ : q = p ∧ 10 = kind ∧ 4 :: i :: l = payload := by simpa [encodeStationCommand] using hx
    exact ⟨_, (exec_awake h rfl).trans (congrArg _ (if_pos hwf))⟩
  | tableWritePermitRow q i l =>
    obtain ⟨rfl, rfl, rfl⟩ : q = p ∧ 10 = kind ∧ 5 :: i :: l = payload := by simpa [encodeStationCommand] using hx
    exact ⟨_, (exec_awake h rfl).trans (congrArg _ (write hwf))⟩
  | tableWriteSystemRecord q i l =>
    obtain ⟨rfl, rfl, rfl⟩ : q = p ∧ 10 = kind ∧ 7 :: i :: l = payload := by simpa [encodeStationCommand] using hx
    exact ⟨_, (exec_awake h rfl).trans (congrArg _ (write hwf))⟩
  | codeThatNamesNothing q x => simp [codeKnown] at hcode
  | _ =>
    simp only [encodeStationCommand, reduceCtorEq, Option.some.injEq, Prod.mk.injEq] at hx <;>
      (obtain ⟨rfl, rfl, rfl⟩ := hx; exact ⟨_, exec_awake h rfl⟩)

/-- The commands of the store's guard are the commands of SERVICE that change what it holds. -/
theorem permitted_of_guarded {c : Instr} {p : PortIx} {kind : Byte} {payload : List Byte} (hwf : codeKnown c = true)
    (hx : encodeStationCommand c = some (p, kind, payload)) (hkind : kind.toNat ∈ guardedKinds) :
    permittedRoles c = [.SERVICE] ∧ isOpenCommand c = false := by
  cases c with
  | codeThatNamesNothing q x => simp [codeKnown] at hwf
  | _ =>
    simp only [encodeStationCommand, reduceCtorEq, Option.some.injEq, Prod.mk.injEq] at hx <;>
      (obtain ⟨rfl, rfl, rfl⟩ := hx; simp [guardedKinds, permittedRoles, isOpenCommand] at hkind ⊢)

theorem bridge_permitted_of_open {c : Instr} (h : isOpenCommand c = true) : permittedRoles c = [.BRIDGE] := by
  cases c with
  | doorOpen _ _ _ => rfl
  | groupOpen _ _ _ => rfl
  | _ => cases h

/-! ### Codes that name nothing (R168, R173) -/

theorem exec_codeThatNamesNothing {p : PortIx} {c : UnknownCode} {s : State} (h : Awake s) (hc : c.namesNothing = true) :
    exec (.codeThatNamesNothing p c) s = .next (codeRefused p c s) :=
  (exec_awake h rfl).trans (congrArg _ (if_pos hc))

/-- A TABLE_WRITE of a table that is read only is decided at the guard's gate, and refused where it passes. -/
theorem unknownWrite_readOnly {p : PortIx} {x : Byte} {s : State} (hx : x.toNat ∈ [1, 3, 6, 8]) :
    unknownWrite p x s = decideCommand (exclusive 10) false p (refuse p 10 .INVALID_VALUE) s := by
  have hle : ¬8 < x.toNat := by
    simp only [List.mem_cons, List.not_mem_nil, or_false] at hx
    omega
  rw [unknownWrite, decide_eq_false hle]

theorem exec_readOnly {p : PortIx} {x : Byte} {rest : List Byte} {s : State} (h : Awake s) (hx : x.toNat ∈ [1, 3, 6, 8]) :
    exec (.codeThatNamesNothing p (.tableWrite x rest)) s =
      .next (decideCommand (exclusive 10) false p (refuse p 10 .INVALID_VALUE) s) := by
  have hnames : UnknownCode.namesNothing (.tableWrite x rest) = true := by
    rw [UnknownCode.namesNothing, List.contains_iff_mem.mpr hx, Bool.or_true]
  exact (exec_codeThatNamesNothing h hnames).trans (congrArg _ (unknownWrite_readOnly hx))

/-- Settles O22, by the gates of the commands. -/
theorem commandsRefused : Obligations.CommandsRefused := by
  unfold Obligations.CommandsRefused
  refine ⟨?_, fun p x y z rest s h => ⟨fun hx => ?_, fun hx => ?_, fun hx => ⟨fun hrole => ?_, fun hrole hbusy => ?_,
    fun hrole hfree => ?_⟩, fun hx => ?_, fun hx => ?_⟩⟩
  · rintro c s h hwf hcode ⟨p, kind, payload⟩ hx
    obtain ⟨f, hexec⟩ := exec_gated h hwf hcode hx
    have refused {code : ResultCode} (hg : gateRefusal (gateOf c kind.toNat) false p s = some code) :
        exec c s = .next (refuse p kind.toNat code (acceptFrame p s)) :=
      hexec.trans (congrArg _ (decideCommand_refused f hg))
    refine ⟨fun hs hkind => refused (gateRefusal_notConfigured hs (decide_eq_false (Nat.not_lt.mpr hkind))), fun hs hrole => ?_,
      fun hs hrole hmode hopen => ?_, fun hrole hbusy hkind => ?_⟩
    · exact refused (gateRefusal_notPermitted (.inl hs) (by rwa [commandRole_of_inService hs]))
    · refine refused (gateRefusal_wrongMode (.inl hs) ?_ hopen hmode)
      rw [commandRole_of_inService hs, hrole]
      simp [gateOf, bridge_permitted_of_open hopen]
    · obtain ⟨hroles, hopen⟩ := permitted_of_guarded hcode hx hkind
      have hkinds : 9 < kind.toNat := by
        simp only [guardedKinds, List.mem_cons, List.not_mem_nil, or_false] at hkind
        omega
      refine refused (gateRefusal_busy (.inr (decide_eq_true hkinds)) ?_ hopen (by simpa [gateOf] using hkind) hbusy)
      simp [gateOf, hroles, hrole]
  · refine (exec_codeThatNamesNothing (c := .modeSet x) h (decide_eq_true hx)).trans (congrArg _ ?_)
    cases hs : s.inService with
    | false => exact decideCommand_refused (g := operating 2 anyRole) _ (gateRefusal_notConfigured (s := acceptFrame p s) hs rfl)
    | true => exact decideCommand_refused (g := operating 2 anyRole) _ (gateRefusal_namesNothing (s := acceptFrame p s) (.inl hs))
  · refine (exec_codeThatNamesNothing (c := .tableWrite x rest) h (by simp [UnknownCode.namesNothing, hx])).trans (congrArg _ ?_)
    rw [codeRefused, unknownWrite, decide_eq_true hx]
    exact decideCommand_refused (g := exclusive 10) _ (gateRefusal_namesNothing (s := acceptFrame p s) (.inr rfl))
  · refine (exec_readOnly h hx).trans (congrArg _ ?_)
    exact decideCommand_refused (g := exclusive 10) _
      (gateRefusal_notPermitted (s := acceptFrame p s) (.inr rfl) (fun hmem => hrole (List.mem_singleton.mp hmem)))
  · refine (exec_readOnly h hx).trans (congrArg _ ?_)
    exact decideCommand_refused (g := exclusive 10) _
      (gateRefusal_busy (s := acceptFrame p s) (.inr rfl) (List.mem_singleton.mpr hrole) rfl rfl hbusy)
  · exact (exec_readOnly h hx).trans (congrArg _ (decide_exclusive _ ⟨⟨h, hrole⟩, hfree⟩))
  · refine (exec_codeThatNamesNothing (c := .tableRead x y z) h (decide_eq_true hx)).trans (congrArg _ ?_)
    exact decideCommand_refused (g := reading 11 anyRole) _ (gateRefusal_namesNothing (s := acceptFrame p s) (.inr rfl))
  · refine (exec_codeThatNamesNothing (c := .counterRead x y) h (decide_eq_true hx)).trans (congrArg _ ?_)
    exact decideCommand_refused (g := reading 12 [.SERVICE]) _ (gateRefusal_namesNothing (s := acceptFrame p s) (.inr rfl))

/-! ### TABLE_READ (R14, R176, R193) -/

/-- The records that fit whole in some bytes are a beginning of the list that holds no more bytes, and the record after
them does not fit. -/
theorem fitting_spec (room : Nat) (l : List (List Byte)) :
    fitting room l = l.take (fitting room l).length ∧ (fitting room l).flatten.length ≤ room
    ∧ ((fitting room l).length < l.length → room < (l.take ((fitting room l).length + 1)).flatten.length) := by
  induction l generalizing room with
  | nil => simp [fitting]
  | cons r rest ih =>
    unfold fitting
    split
    · next hfits =>
      obtain ⟨hprefix, hbytes, hnext⟩ := ih (room - r.length)
      refine ⟨?_, ?_, fun hlt => ?_⟩
      · rw [List.length_cons, List.take_succ_cons, ← hprefix]
      · rw [List.flatten_cons, List.length_append]
        omega
      · have := hnext (by simpa using hlt)
        rw [List.length_cons, List.take_succ_cons, List.flatten_cons, List.length_append]
        omega
    · next hlong => simpa using Nat.not_le.mp hlong

section
variable {p : PortIx} {first count : Byte} {s : State}

theorem tableRead_refused {table size : Nat} {records : List (List Byte)} {effect : Nat → State → State}
    (h : size ≤ first.toNat) : tableRead p table size records first count effect s = refuse p 11 .INVALID_VALUE s := if_pos h

theorem tableRead_taken {table size : Nat} {records : List (List Byte)} {effect : Nat → State → State}
    (h : first.toNat < size) : tableRead p table size records first count effect (acceptFrame p s) =
      effect (recordsRead records first.toNat count.toNat).length (readAnswer p table records first count s) :=
  if_neg (Nat.not_le.mpr h)

/-- A reading command that is permitted, as the gate hands it on. -/
theorem exec_read {c : Instr} {roles : List Role} {f : State → State} (h : Awake s) (hrole : s.commandRole p ∈ roles)
    (hc : exec c s = .next (if s.pins.reset then s else decideCommand (reading 11 roles) false p f s)) :
    exec c s = .next (f (acceptFrame p s)) :=
  (exec_awake h hc).trans (congrArg _ (decide_reading f hrole))

/-- A read that changes no field of a record, of a table of so many places. -/
theorem reads_noEffect {c : Instr} {roles : List Role} (table size : Nat) (records : State → List (List Byte)) (h : Awake s)
    (hrole : s.commandRole p ∈ roles)
    (hc : exec c s = .next (if s.pins.reset then s else decideCommand (reading 11 roles) false p
      (fun t => tableRead p table size (records t) first count noEffect t) s)) :
    (size ≤ first.toNat → exec c s = .next (refuse p 11 .INVALID_VALUE (acceptFrame p s)))
    ∧ (first.toNat < size → exec c s = .next (readAnswer p table (records (acceptFrame p s)) first count s)) := by
  have hexec := exec_read h hrole hc
  exact ⟨fun hle => hexec.trans (congrArg _ (tableRead_refused hle)), fun hlt => hexec.trans (congrArg _ (tableRead_taken hlt))⟩

/-- R14: what the read of door states leaves of the fresh flags. -/
theorem clearFresh_doors (first n : Nat) (s : State) (d : DoorIx) : (clearFresh first n s).ms.doors[d] =
    if first ≤ d.val ∧ d.val < first + n then { s.ms.doors[d] with closeFresh := false, openFresh := false }
    else s.ms.doors[d] := by
  simp only [clearFresh, Fin.getElem_fin, getElem_updAll]

theorem clearFresh_moveRepeats (first n : Nat) (s : State) : (clearFresh first n s).ms.moveRepeats = s.ms.moveRepeats := by
  unfold clearFresh; rfl

end

theorem doorStates_acceptFrame (p : PortIx) (s : State) : doorStates (acceptFrame p s) = allDoors.map (doorStateView s) := rfl

theorem exec_readDoorState {p : PortIx} {first count : Byte} {s : State} (h : Manages s p) :
    exec (.tableReadDoorState p first count) s = .next
      (tableRead p 1 96 (doorStates (acceptFrame p s)) first count (clearFresh first.toNat) (acceptFrame p s)) :=
  exec_read (f := fun t => tableRead p 1 96 (doorStates t) first count (clearFresh first.toNat) t) h.1
    (List.mem_singleton.mpr h.2) rfl

/-- R14, R176: the read of door states answers with their views and clears the fresh flags of those returned. -/
theorem doorState_read {p : PortIx} {first count : Byte} {s : State} (h : Manages s p) (hlt : first.toNat < 96) :
    let views := allDoors.map (doorStateView s)
    let n := (recordsRead views first.toNat count.toNat).length
    Ends (.tableReadDoorState p first count) s fun t =>
      t = { readAnswer p 1 views first count s with ms := t.ms } ∧ t.ms.moveRepeats = s.ms.moveRepeats
      ∧ (∀ d : DoorIx, first.toNat ≤ d.val → d.val < first.toNat + n →
          t.ms.doors[d] = { s.ms.doors[d] with closeFresh := false, openFresh := false })
      ∧ ∀ d : DoorIx, (d.val < first.toNat ∨ first.toNat + n ≤ d.val) → t.ms.doors[d] = s.ms.doors[d] := by
  intro views n
  have htaken : tableRead p 1 96 views first count (clearFresh first.toNat) (acceptFrame p s) =
      clearFresh first.toNat n (readAnswer p 1 views first count s) := tableRead_taken hlt
  have hexec : exec (.tableReadDoorState p first count) s =
      .next (clearFresh first.toNat n (readAnswer p 1 views first count s)) := by
    rw [exec_readDoorState h, doorStates_acceptFrame]
    exact congrArg Host.Outcome.next htaken
  have hms : (readAnswer p 1 views first count s).ms = s.ms := (frame_answerDone p 11 false _ (acceptFrame p s)).ms
  refine ends_of hexec ⟨rfl, by rw [clearFresh_moveRepeats, hms], fun d hle hd => ?_, fun d hd => ?_⟩
  · rw [clearFresh_doors, if_pos ⟨hle, hd⟩, hms]
  · rw [clearFresh_doors, if_neg (by omega), hms]

/-- Settles O36, by the lemma that says what fits and the readings of each view. -/
theorem tableReads : Obligations.TableReads := by
  unfold Obligations.TableReads
  refine ⟨fun records first count => ?_, fun p first count s => ⟨fun h => ?_, fun h => ⟨?_, ?_, ?_, ?_, ?_, ?_, ?_, fun hle => ?_,
    fun hlt => ?_⟩⟩⟩
  · exact fitting_spec readRoom ((records.drop first).take count)
  · have hrole : s.commandRole p ∈ [Role.BRIDGE, .SAFETY, .ENGINE, .SERVICE] := by
      rcases h with ⟨-, h⟩ | ⟨-, hs, h⟩
      · rw [h]; decide
      · rw [commandRole_of_inService hs]
        simp only [List.mem_cons, List.not_mem_nil, or_false] at h ⊢
        rcases h with h | h | h <;> simp [h]
    exact reads_noEffect 8 64 alarmRecords (h.elim (·.1) (·.1)) hrole rfl
  · exact reads_noEffect 0 96 doorConfigs h.1 (List.mem_singleton.mpr h.2) rfl
  · exact reads_noEffect 2 8 hpuConfigs h.1 (List.mem_singleton.mpr h.2) rfl
  · exact reads_noEffect 3 8 hpuStates h.1 (List.mem_singleton.mpr h.2) rfl
  · exact reads_noEffect 4 24 groupRecords h.1 (List.mem_singleton.mpr h.2) rfl
  · exact reads_noEffect 5 8 permitConfigs h.1 (List.mem_singleton.mpr h.2) rfl
  · exact reads_noEffect 6 8 permitStates h.1 (List.mem_singleton.mpr h.2) rfl
  · exact reads_noEffect 7 1 (fun t => [t.tables.system.encode]) h.1 (List.mem_singleton.mpr h.2) rfl
  · rw [exec_readDoorState h, tableRead_refused hle]
  · obtain ⟨t, hexec, hread⟩ := doorState_read h hlt
    exact ends_of hexec hread

/-! ### COUNTER_READ (R177) -/

section
variable {p : PortIx} {set : Nat} {counters : List Byte} {clear : Byte} {reset : State → State} {u : State}

theorem counterRead_kept (h : clear = 0) : counterRead p set counters clear reset u =
    answerDone p 12 false (byteOf set :: counters) u := if_pos h

theorem counterRead_cleared (h : clear ≠ 0) : counterRead p set counters clear reset u =
    reset (answerDone p 12 false (byteOf set :: counters) u) := if_neg h

end

/-- Settles O37. -/
theorem counterReads : Obligations.CounterReads := by
  unfold Obligations.CounterReads
  intro p clear s h
  have hrole : s.commandRole p ∈ [Role.SERVICE] := List.mem_singleton.mpr h.2
  have station : exec (.counterReadStation p clear) s = .next
      (counterRead p 0 (stationCounters (acceptFrame p s)) clear clearStationCounters (acceptFrame p s)) :=
    (exec_awake h.1 rfl).trans (congrArg _ (decide_reading _ hrole))
  have ring : exec (.counterReadRing p clear) s = .next
      (counterRead p 1 (ringCounters (acceptFrame p s)) clear clearRingCounters (acceptFrame p s)) :=
    (exec_awake h.1 rfl).trans (congrArg _ (decide_reading _ hrole))
  refine ⟨fun hc => ?_, fun hc => ?_, fun hc => ?_, fun hc => ?_⟩
  · rw [station, counterRead_kept hc]; rfl
  · refine ends_of (station.trans (congrArg _ (counterRead_cleared hc))) ⟨fun q => ?_, rfl⟩
    simp only [clearStationCounters, Fin.getElem_fin, getElem_updAll]
    rfl
  · rw [ring, counterRead_kept hc]; rfl
  · exact ends_of (ring.trans (congrArg _ (counterRead_cleared hc))) rfl

end Sys2Proof.Proofs
end

section
/-! ## Frames read back, bytes received (chapter 11) -/
namespace Sys2Proof.Proofs
open Sys2Proof Sys2Proof.Machine

set_option Elab.async false

/-! ### Bytes -/

@[simp] theorem toNat_byteOf (n : Nat) : (byteOf n).toNat = n % 256 := BitVec.toNat_ofNat ..

theorem byteAt_zero (b : Byte) (l : List Byte) : byteAt (b :: l) 0 = b.toNat := rfl
theorem byteAt_succ (b : Byte) (l : List Byte) (i : Nat) : byteAt (b :: l) (i + 1) = byteAt l i := rfl

theorem byteAt_append_left {l m : List Byte} {i : Nat} (h : i < l.length) : byteAt (l ++ m) i = byteAt l i := by
  unfold byteAt
  rw [List.getD_eq_getElem?_getD, List.getD_eq_getElem?_getD, List.getElem?_append_left h]

/-! ### Station commands (11.4) -/

theorem decodeTableWrite_unknown {p : PortIx} {t i : Byte} {image : List Byte}
    (h : UnknownCode.namesNothing (.tableWrite t (i :: image)) = true) :
    decodeTableWrite p t i image = some (.codeThatNamesNothing p (.tableWrite t (i :: image))) := by
  simp only [UnknownCode.namesNothing, Bool.or_eq_true, decide_eq_true_eq, List.contains_iff_mem, List.mem_cons,
    List.not_mem_nil, or_false] at h
  unfold decodeTableWrite
  split <;> first | omega | rfl

theorem decodeTableRead_unknown {p : PortIx} {t f n : Byte} (h : 8 < t.toNat) :
    decodeTableRead p t f n = .codeThatNamesNothing p (.tableRead t f n) := by
  unfold decodeTableRead
  split <;> first | omega | rfl

theorem decodeModeSet_unknown {p : PortIx} {m : Byte} (h : 2 < m.toNat) :
    decodeModeSet p m = .codeThatNamesNothing p (.modeSet m) := by
  unfold decodeModeSet
  split <;> first | omega | rfl

theorem decodeCounterRead_unknown {p : PortIx} {x c : Byte} (h : 1 < x.toNat) :
    decodeCounterRead p x c = .codeThatNamesNothing p (.counterRead x c) := by
  unfold decodeCounterRead
  split <;> first | omega | rfl

/-- A command whose code names nothing is read back with the bytes it was sent with. -/
theorem decode_unknownCode {p q : PortIx} {x : UnknownCode} {kind : Byte} {payload : List Byte}
    (hwf : (Instr.codeThatNamesNothing q x).wf = true)
    (h : encodeStationCommand (.codeThatNamesNothing q x) = some (p, kind, payload)) :
    decodeStationCommand p kind payload = some (.codeThatNamesNothing q x) := by
  obtain ⟨hnames, hlength⟩ : x.namesNothing = true ∧ x.lengthOk = true := by simpa [Instr.wf] using hwf
  cases x with
  | modeSet m =>
    obtain ⟨rfl, rfl, rfl⟩ : q = p ∧ 2 = kind ∧ [m] = payload := by simpa [encodeStationCommand] using h
    exact congrArg some (decodeModeSet_unknown (of_decide_eq_true hnames))
  | tableWrite t rest =>
    obtain ⟨rfl, rfl, rfl⟩ : q = p ∧ 10 = kind ∧ t :: rest = payload := by simpa [encodeStationCommand] using h
    cases rest with
    | nil => simp [UnknownCode.lengthOk] at hlength
    | cons i image => exact decodeTableWrite_unknown hnames
  | tableRead t f n =>
    obtain ⟨rfl, rfl, rfl⟩ : q = p ∧ 11 = kind ∧ [t, f, n] = payload := by simpa [encodeStationCommand] using h
    exact congrArg some (decodeTableRead_unknown (of_decide_eq_true hnames))
  | counterRead a c =>
    obtain ⟨rfl, rfl, rfl⟩ : q = p ∧ 12 = kind ∧ [a, c] = payload := by simpa [encodeStationCommand] using h
    exact congrArg some (decodeCounterRead_unknown (of_decide_eq_true hnames))

/-- The kind and payload written for a well-formed station command are read back as the command. -/
theorem decode_encodeStationCommand {c : Instr} {p : PortIx} {kind : Byte} {payload : List Byte} (hwf : c.wf = true)
    (h : encodeStationCommand c = some (p, kind, payload)) : decodeStationCommand p kind payload = some c := by
  cases c with
  | codeThatNamesNothing q x => exact decode_unknownCode hwf h
  | alarmAck q k x =>
    obtain ⟨rfl, rfl, rfl⟩ : q = p ∧ 8 = kind ∧ [k, x] = payload := by simpa [encodeStationCommand] using h
    exact congrArg some (if_neg (of_decide_eq_true hwf))
  | tableWriteDoor q i l =>
    obtain ⟨rfl, rfl, rfl⟩ : q = p ∧ 10 = kind ∧ 0 :: i :: l = payload := by simpa [encodeStationCommand] using h
    exact if_pos (of_decide_eq_true hwf)
  | tableWriteHpu q i l =>
    obtain ⟨rfl, rfl, rfl⟩ : q = p ∧ 10 = kind ∧ 2 :: i :: l = payload := by simpa [encodeStationCommand] using h
    exact if_pos (of_decide_eq_true hwf)
  | tableWriteGroup q i l =>
    obtain ⟨rfl, rfl, rfl⟩ : q = p ∧ 10 = kind ∧ 4 :: i :: l = payload := by simpa [encodeStationCommand] using h
    exact if_pos hwf
  | tableWritePermitRow q i l =>
    obtain ⟨rfl, rfl, rfl⟩ : q = p ∧ 10 = kind ∧ 5 :: i :: l = payload := by simpa [encodeStationCommand] using h
    exact if_pos (of_decide_eq_true hwf)
  | tableWriteSystemRecord q i l =>
    obtain ⟨rfl, rfl, rfl⟩ : q = p ∧ 10 = kind ∧ 7 :: i :: l = payload := by simpa [encodeStationCommand] using h
    exact if_pos (of_decide_eq_true hwf)
  | _ =>
    simp only [encodeStationCommand, reduceCtorEq, Option.some.injEq, Prod.mk.injEq] at h <;>
      (obtain ⟨rfl, rfl, rfl⟩ := h; rfl)

/-! ### Ring frames (11.3) -/

theorem decodeMotion_motionCode (m : Motion) : decodeMotion (motionCode m) = some m := by cases m <;> rfl
theorem decodeHandle_handleCodeNat (x : HandleCode) : decodeHandle (handleCodeNat x) = some x := by cases x <;> rfl
theorem motionCode_le (m : Motion) : motionCode m ≤ 2 := by cases m <;> decide
theorem handleCodeNat_le (x : HandleCode) : handleCodeNat x ≤ 2 := by cases x <;> decide

/-- The value of the payload byte of a REPORT or EVENT. -/
theorem toNat_encodeReportBits (r : ReportBits) : (encodeReportBits r).toNat =
    r.closedLimit.toNat + 2 * r.openLimit.toNat + 4 * motionCode r.motion + 16 * handleCodeNat r.handle
      + 64 * r.lowPressure.toNat + 128 * r.sensorFault.toNat := by
  have := motionCode_le r.motion
  have := handleCodeNat_le r.handle
  have := r.closedLimit.toNat_le
  have := r.openLimit.toNat_le
  have := r.lowPressure.toNat_le
  have := r.sensorFault.toNat_le
  rw [encodeReportBits, toNat_byteOf]
  omega

/-- A bit of a byte from its value. -/
theorem getLsbD_eq {b : Byte} {i : Nat} {x : Bool} (h : b.toNat / 2 ^ i % 2 = x.toNat) : b.getLsbD i = x := by
  rw [BitVec.getLsbD, Nat.testBit_eq_decide_div_mod_eq, h]
  cases x <;> rfl

section
variable (r : ReportBits)

theorem encodeReportBits_fields : let b := encodeReportBits r
    b.toNat / 4 % 4 = motionCode r.motion ∧ b.toNat / 16 % 4 = handleCodeNat r.handle
    ∧ b.getLsbD 0 = r.closedLimit ∧ b.getLsbD 1 = r.openLimit ∧ b.getLsbD 6 = r.lowPressure
    ∧ b.getLsbD 7 = r.sensorFault := by
  have hb := toNat_encodeReportBits r
  have := motionCode_le r.motion
  have := handleCodeNat_le r.handle
  have := r.closedLimit.toNat_le
  have := r.openLimit.toNat_le
  have := r.lowPressure.toNat_le
  have := r.sensorFault.toNat_le
  exact ⟨by omega, by omega, getLsbD_eq (by omega), getLsbD_eq (by omega), getLsbD_eq (by omega), getLsbD_eq (by omega)⟩

theorem decode_encodeReportBits : decodeReportBits (encodeReportBits r) = some r := by
  obtain ⟨hmotion, hhandle, h0, h1, h6, h7⟩ := encodeReportBits_fields r
  rw [decodeReportBits, hmotion, hhandle, decodeMotion_motionCode, decodeHandle_handleCodeNat]
  simp only [h0, h1, h6, h7]

end

/-! The reading of each kind of frame that a ring port takes. -/

section
variable {p : RingPort} {src seq : Byte}

theorem decodeRing_report {b : Byte} {r : ReportBits} (hr : decodeReportBits b = some r) (hn : fromNode 0 src = true) :
    decodeRingFrame p 0 src 17 seq [b] = .command (.report p src seq r) := by
  have hread : decodeRingFrame p 0 src 17 seq [b] = (match decodeReportBits b with
    | some r => if fromNode 0 src then .command (.report p src seq r) else .bad
    | none => .bad) := rfl
  rw [hread, hr]
  exact if_pos hn

theorem decodeRing_event {b : Byte} {x : HandleCode} (hx : decodeHandle (b.toNat / 16 % 4) = some x)
    (hn : fromNode 0 src = true) (hlow : b.toNat % 16 = 0) :
    decodeRingFrame p 0 src 18 seq [b] = .command (.event p src seq x (b.getLsbD 6) (b.getLsbD 7)) := by
  have hread : decodeRingFrame p 0 src 18 seq [b] = (match decodeHandle (b.toNat / 16 % 4) with
    | some h => if fromNode 0 src && decide (b.toNat % 16 = 0) then
        .command (.event p src seq h (b.getLsbD 6) (b.getLsbD 7)) else .bad
    | none => .bad) := rfl
  rw [hread, hx]
  exact if_pos (by rw [hn, decide_eq_true hlow]; rfl)

theorem decodeRing_hpuReport {hi lo : Byte} {pr : Nat} (st : HpuCode) (hpr : 256 * hi.toNat + lo.toNat = pr)
    (hle : pr ≤ 4095) (hn : fromNode 0 src = true) :
    decodeRingFrame p 0 src 19 seq [match st with | .READY => 0 | .FAILED => 1, hi, lo]
      = .command (.hpuReport p src seq st pr) := by
  have hgate : (fromNode 0 src && decide (256 * hi.toNat + lo.toNat ≤ 4095)) = true := by
    rw [hn, hpr, decide_eq_true hle]; rfl
  subst hpr
  cases st with
  | READY => exact if_pos hgate
  | FAILED => exact if_pos hgate

end

/-- Settles O12, by the cases of the commands. -/
theorem framesReadBack : Obligations.FramesReadBack := by
  unfold Obligations.FramesReadBack
  refine ⟨fun c p kind payload hwf h => decode_encodeStationCommand hwf h, fun c p dest src kind seq payload hwf h => ?_⟩
  cases c with
  | report q a n r =>
    obtain ⟨rfl, rfl, rfl, rfl, rfl, rfl⟩ : q = p ∧ 0 = dest ∧ a = src ∧ 17 = kind ∧ n = seq ∧ [encodeReportBits r] = payload := by
      simpa [encodeRingCommand] using h
    exact decodeRing_report (decode_encodeReportBits r) hwf
  | event q a n x low fault =>
    obtain ⟨rfl, rfl, rfl, rfl, rfl, rfl⟩ : q = p ∧ 0 = dest ∧ a = src ∧ 18 = kind ∧ n = seq
        ∧ [encodeReportBits ⟨false, false, .NONE, x, low, fault⟩] = payload := by
      simpa [encodeRingCommand] using h
    obtain ⟨-, hhandle, -, -, h6, h7⟩ := encodeReportBits_fields ⟨false, false, .NONE, x, low, fault⟩
    have hlow : (encodeReportBits ⟨false, false, .NONE, x, low, fault⟩).toNat % 16 = 0 := by
      rw [toNat_encodeReportBits]
      simp only [motionCode, Bool.toNat_false]
      omega
    rw [decodeRing_event (x := x) (by rw [hhandle]; exact decodeHandle_handleCodeNat x) hwf hlow, h6, h7]
  | hpuReport q a n st pr =>
    obtain ⟨hnode, hpr⟩ : wfNode a = true ∧ pr ≤ 4095 := by simpa [Instr.wf, wfPressure] using hwf
    have hvalue : 256 * (byteOf (pr / 256)).toNat + (byteOf pr).toNat = pr := by
      rw [toNat_byteOf, toNat_byteOf]
      omega
    cases st with
    | READY =>
      obtain ⟨rfl, rfl, rfl, rfl, rfl, rfl⟩ : q = p ∧ 0 = dest ∧ a = src ∧ 19 = kind ∧ n = seq ∧ 0 :: be2 pr = payload := by
        simpa [encodeRingCommand] using h
      exact decodeRing_hpuReport .READY hvalue hpr hnode
    | FAILED =>
      obtain ⟨rfl, rfl, rfl, rfl, rfl, rfl⟩ : q = p ∧ 0 = dest ∧ a = src ∧ 19 = kind ∧ n = seq ∧ 1 :: be2 pr = payload := by
        simpa [encodeRingCommand] using h
      exact decodeRing_hpuReport .FAILED hvalue hpr hnode
  | loopCopy q n =>
    obtain ⟨rfl, rfl, rfl, rfl, rfl, rfl⟩ : q = p ∧ 0 = dest ∧ 0 = src ∧ 6 = kind ∧ n = seq ∧ [] = payload := by
      simpa [encodeRingCommand] using h
    rfl
  | _ => cases h

end Sys2Proof.Proofs
end

section
/-! ## The stored image read back (R184, R194) -/
namespace Sys2Proof.Proofs
open Sys2Proof Sys2Proof.Machine

set_option Elab.async false

/-! ### Bits -/

theorem bitsNat_append_one (l : List Bool) (b : Bool) : bitsNat (l ++ [b]) = 2 * bitsNat l + b.toNat := by
  simp [bitsNat, List.foldl_append]

theorem natBits_succ (n x : Nat) : natBits (n + 1) x = natBits n (x / 2) ++ [x.testBit 0] := by
  unfold natBits
  rw [List.range_succ, List.map_append]
  congr 1
  · refine List.map_congr_left fun k hk => ?_
    rw [← Nat.testBit_add_one, show n - 1 - k + 1 = n + 1 - 1 - k by have := List.mem_range.mp hk; omega]
  · simp

theorem length_natBits (n x : Nat) : (natBits n x).length = n := by simp [natBits]

/-- The bits of a number are read back as the number, as far as they reach. -/
theorem bitsNat_natBits (n x : Nat) : bitsNat (natBits n x) = x % 2 ^ n := by
  induction n generalizing x with
  | zero => simp [natBits, bitsNat, Nat.mod_one]
  | succ n ih =>
    have hbit : (x.testBit 0).toNat = x % 2 := by
      rw [Nat.testBit_zero]
      rcases Nat.mod_two_eq_zero_or_one x with h | h <;> simp [h]
    rw [natBits_succ, bitsNat_append_one, ih, hbit, Nat.pow_succ, Nat.mul_comm (2 ^ n) 2, Nat.mod_mul]
    omega

/-- Bits are read back from the number they make. -/
theorem natBits_bitsNat (l : List Bool) : natBits l.length (bitsNat l) = l := by
  induction l using List.reverseRecOn with
  | nil => rfl
  | append_singleton l b ih =>
    have hhalf : (2 * bitsNat l + b.toNat) / 2 = bitsNat l := by have := b.toNat_le; omega
    have hbit : (2 * bitsNat l + b.toNat).testBit 0 = b := by cases b <;> simp [Nat.testBit_zero]
    rw [List.length_append, List.length_singleton, natBits_succ, bitsNat_append_one, hhalf, hbit, ih]

theorem bitsNat_lt (l : List Bool) : bitsNat l < 2 ^ l.length := by
  induction l using List.reverseRecOn with
  | nil => simp [bitsNat]
  | append_singleton l b ih =>
    rw [bitsNat_append_one, List.length_append, List.length_singleton, Nat.pow_succ]
    have := b.toNat_le
    omega

/-! ### Pieces of one length -/

section
variable {α β : Type} {f : α → List β} {n : Nat}

/-- The place of an element in pieces of one length. -/
theorem getD_flatMap (hf : ∀ x, (f x).length = n) (l : List α) {i k : Nat} (hk : k < n) (d : β) :
    (l.flatMap f).getD (n * i + k) d = ((l[i]?).map fun x => (f x).getD k d).getD d := by
  induction l generalizing i with
  | nil => simp
  | cons x rest ih =>
    rw [List.flatMap_cons]
    cases i with
    | zero => rw [List.getD_append _ _ _ _ (by rw [hf]; omega)]; simp
    | succ i =>
      rw [List.getD_append_right _ _ _ _ (by rw [hf, Nat.mul_succ]; omega), hf,
        show n * (i + 1) + k - n = n * i + k by rw [Nat.mul_succ]; omega, ih]
      simp

theorem length_flatMap_pieces (hf : ∀ x, (f x).length = n) (l : List α) : (l.flatMap f).length = n * l.length := by
  induction l with
  | nil => simp
  | cons x rest ih => rw [List.flatMap_cons, List.length_append, hf, ih, List.length_cons, Nat.mul_succ]; omega

/-- A piece of a list of pieces. -/
theorem slice_flatMap {l : List α} {f : α → List Byte} (hf : ∀ x ∈ l, (f x).length = n) {i : Nat} (hi : i < l.length) :
    slice (l.flatMap f) (n * i) n = f l[i] := by
  induction l generalizing i with
  | nil => cases hi
  | cons x rest ih =>
    have hx := hf x (by simp)
    unfold slice
    rw [List.flatMap_cons]
    cases i with
    | zero => simp [hx]
    | succ i =>
      rw [List.drop_append, List.drop_eq_nil_of_le (by rw [hx, Nat.mul_succ]; omega), List.nil_append, hx,
        show n * (i + 1) - n = n * i by rw [Nat.mul_succ]; omega]
      exact ih (fun y hy => hf y (by simp [hy])) (by simpa using hi)

end

theorem slice_append_left {a b : List Byte} {off len : Nat} (h : off + len ≤ a.length) :
    slice (a ++ b) off len = slice a off len := by
  unfold slice
  rw [List.drop_append_of_le_length (by omega), List.take_append_of_le_length (by rw [List.length_drop]; omega)]

theorem slice_append_right {a b : List Byte} {off len : Nat} (h : a.length ≤ off) :
    slice (a ++ b) off len = slice b (off - a.length) len := by
  unfold slice
  rw [List.drop_append, List.drop_eq_nil_of_le h, List.nil_append]

theorem slice_all {l : List Byte} {n : Nat} (h : l.length = n) : slice l 0 n = l := by simp [slice, ← h]

/-! ### The list of a group, packed and read back (R193) -/

/-- The byte of eight bits of a list. -/
theorem length_packBits (l : List Bool) : (packBits l).length = (l.length + 7) / 8 := by simp [packBits]

/-- The eight bits from a place on, zeros past the end. -/
def eightBits (l : List Bool) (i : Nat) : List Bool := (List.range 8).map fun k => l.getD (8 * i + k) false

theorem length_eightBits (l : List Bool) (i : Nat) : (eightBits l i).length = 8 := by simp [eightBits]

theorem getD_eightBits (l : List Bool) (i : Nat) {k : Nat} (hk : k < 8) : (eightBits l i).getD k false = l.getD (8 * i + k) false := by
  simp [eightBits, List.getD_eq_getElem?_getD, hk]

theorem packBits_getElem? (l : List Bool) (z : List Byte) {i : Nat} (hi : i < (l.length + 7) / 8) :
    (packBits l ++ z)[i]? = some (byteOf (bitsNat (eightBits l i))) := by
  rw [List.getElem?_append_left (by rw [length_packBits]; exact hi), packBits, List.getElem?_map, List.getElem?_range hi]
  rfl

theorem natBits_byteOf_bitsNat {l : List Bool} (h : l.length = 8) : natBits 8 (byteOf (bitsNat l)).toNat = l := by
  have hlt : bitsNat l < 256 := by have := bitsNat_lt l; rwa [h] at this
  rw [toNat_byteOf, Nat.mod_eq_of_lt hlt]
  have := natBits_bitsNat l
  rwa [h] at this

theorem getD_unpackBits (m : List Byte) (i : Nat) {k : Nat} (hk : k < 8) :
    (unpackBits m).getD (8 * i + k) false = ((m[i]?).map fun b => (natBits 8 b.toNat).getD k false).getD false :=
  getD_flatMap (f := fun b : Byte => natBits 8 b.toNat) (fun b => length_natBits 8 b.toNat) m hk false

/-- The bits that bytes were packed from are read back, whatever bytes follow. -/
theorem unpackBits_packBits (l : List Bool) (z : List Byte) {j : Nat} (hj : j < l.length) :
    (unpackBits (packBits l ++ z)).getD j false = l.getD j false := by
  have hlt : j % 8 < 8 := Nat.mod_lt _ (by decide)
  have hread : (unpackBits (packBits l ++ z)).getD (8 * (j / 8) + j % 8) false = l.getD (8 * (j / 8) + j % 8) false := by
    rw [getD_unpackBits _ _ hlt, packBits_getElem? l z (by omega), Option.map_some, Option.getD_some,
      natBits_byteOf_bitsNat (length_eightBits ..), getD_eightBits _ _ hlt]
  rwa [Nat.div_add_mod] at hread

theorem length_entryBits (e : GroupEntry) : e.bits.length = 14 := by simp [GroupEntry.bits, length_natBits]

/-- A beginning and an end of a list, read off by their places. -/
theorem map_getD_left (l m : List Bool) : (List.range l.length).map (fun i => (l ++ m).getD i false) = l := by
  refine List.ext_getElem (by simp) fun i h1 h2 => ?_
  simp [List.getD_eq_getElem?_getD, List.getElem?_append_left h2, h2]

theorem map_getD_right (l m : List Bool) :
    (List.range m.length).map (fun i => (l ++ m).getD (l.length + i) false) = m := by
  refine List.ext_getElem (by simp) fun i h1 h2 => ?_
  simp [List.getD_eq_getElem?_getD, List.getElem?_append_right, h2]

/-- An entry of a list is read off its bits. -/
theorem ofBits_flatMap {l : List GroupEntry} {bits : List Bool} {k : Nat} (hk : k < l.length)
    (hbits : ∀ j < 14 * l.length, bits.getD j false = (l.flatMap GroupEntry.bits).getD j false)
    (hdoor : l[k].door < 128) (hpre : l[k].pre < 128) : GroupEntry.ofBits bits k = l[k] := by
  have hread {i : Nat} (hi : i < 14) : bits.getD (14 * k + i) false = l[k].bits.getD i false := by
    rw [hbits _ (by omega), getD_flatMap length_entryBits _ hi, List.getElem?_eq_getElem hk]
    rfl
  have hfirst : (List.range 7).map (fun i => bits.getD (14 * k + i) false) = natBits 7 l[k].door := by
    rw [← map_getD_left (natBits 7 l[k].door) (natBits 7 l[k].pre), length_natBits]
    exact List.map_congr_left fun i hi => hread (by have := List.mem_range.mp hi; omega)
  have hlast : (List.range 7).map (fun i => bits.getD (14 * k + 7 + i) false) = natBits 7 l[k].pre := by
    rw [← map_getD_right (natBits 7 l[k].door) (natBits 7 l[k].pre), length_natBits, length_natBits]
    refine List.map_congr_left fun i hi => ?_
    rw [Nat.add_assoc]
    exact hread (by have := List.mem_range.mp hi; omega)
  rw [GroupEntry.ofBits, hfirst, hlast, bitsNat_natBits, bitsNat_natBits, Nat.mod_eq_of_lt (by omega),
    Nat.mod_eq_of_lt (by omega)]

/-! ### The records read back -/

theorem wordAt_eq (l : List Byte) (i : Nat) : wordAt l i = 256 * byteAt l i + byteAt l (i + 1) := rfl

theorem clampTo_eq {lo hi n : Nat} (h : clampTo lo hi n = n) : lo ≤ n ∧ (lo ≤ hi → n ≤ hi) := by
  unfold clampTo at h; omega

theorem decode_encode_door {c : DoorConfig} (h : c.inRange) : DoorConfig.decode c.encode = c := by
  obtain ⟨hrefused, hclamp⟩ := h
  simp only [DoorConfig.refused, badNode, Bool.or_eq_false_iff, decide_eq_false_iff_not] at hrefused
  simp only [DoorConfig.clamp, clampTo] at hclamp
  obtain ⟨present, node, compA, compB, hpu, draw, close, opn, tol, warn, cls, limit⟩ := c
  simp only [DoorConfig.mk.injEq] at hclamp hrefused
  simp only [DoorConfig.decode, DoorConfig.encode, be2, wordAt_eq, byteAt, List.cons_append, List.nil_append, List.getD_cons_zero,
    List.getD_cons_succ, toNat_byteOf, DoorConfig.mk.injEq]
  omega

theorem decode_encode_hpu {c : HpuConfig} (h : c.inRange) : HpuConfig.decode c.encode = c := by
  obtain ⟨hrefused, hclamp⟩ := h
  simp only [HpuConfig.refused, badNode, Bool.or_eq_false_iff, decide_eq_false_iff_not] at hrefused
  simp only [HpuConfig.clamp, clampTo] at hclamp
  obtain ⟨present, node, capacity, reserve, nominal⟩ := c
  simp only [HpuConfig.mk.injEq] at hclamp hrefused
  simp only [HpuConfig.decode, HpuConfig.encode, be2, wordAt_eq, byteAt, List.cons_append, List.nil_append, List.getD_cons_zero,
    List.getD_cons_succ, toNat_byteOf, HpuConfig.mk.injEq]
  omega

theorem hbMin_le_of_clamped {c : SystemRecord} (h : c.clamp = c) : c.hbMin ≤ 50 := by
  have hlow : clampTo 2 50 c.hbMin ≤ 50 := by unfold clampTo; omega
  rw [← congrArg SystemRecord.hbMin h]
  simp only [SystemRecord.clamp]
  split <;> omega

theorem decode_encode_system {c : SystemRecord} (h : c.inRange) : SystemRecord.decode c.encode = c := by
  obtain ⟨hrefused, hclamp⟩ := h
  have hlow := hbMin_le_of_clamped hclamp
  simp only [SystemRecord.refused, Bool.or_eq_false_iff, decide_eq_false_iff_not] at hrefused
  simp only [SystemRecord.clamp, clampTo] at hclamp
  obtain ⟨mode, order, lane, ahead, wait, low, top, action⟩ := c
  simp only [SystemRecord.mk.injEq] at hclamp hrefused
  obtain ⟨-, -, -, hahead, hwait, -, htop, -⟩ := hclamp
  have hlow : low ≤ 50 := hlow
  simp only [SystemRecord.decode, SystemRecord.encode, be2, wordAt_eq, byteAt, List.cons_append, List.nil_append,
    List.getD_cons_zero, List.getD_cons_succ, toNat_byteOf, SystemRecord.mk.injEq]
  omega

theorem decode_encode_permit {c : PermitRow} (h : c.inRange) : PermitRow.decode c.encode = c := by
  obtain ⟨hrefused, hclamp⟩ := h
  simp only [PermitRow.refused, Bool.or_eq_false_iff, decide_eq_false_iff_not] at hrefused
  simp only [PermitRow.clamp, clampTo] at hclamp
  obtain ⟨role, group, cls, gmask, smask, notices, hb⟩ := c
  simp only [PermitRow.mk.injEq] at hclamp hrefused
  have hg := gmask.isLt
  have hs := smask.isLt
  have hn := notices.isLt
  have hgroup : BitVec.ofNat 24 (65536 * (gmask.toNat / 65536 % 256) + (256 * (gmask.toNat / 256 % 256) + gmask.toNat % 256))
      = gmask := by
    rw [show 65536 * (gmask.toNat / 65536 % 256) + (256 * (gmask.toNat / 256 % 256) + gmask.toNat % 256) = gmask.toNat by omega,
      BitVec.ofNat_toNat, BitVec.setWidth_eq]
  have hsummary : BitVec.ofNat 32 (65536 * (256 * (smask.toNat / 16777216 % 256) + smask.toNat / 65536 % 256)
      + (256 * (smask.toNat / 256 % 256) + smask.toNat % 256)) = smask := by
    rw [show 65536 * (256 * (smask.toNat / 16777216 % 256) + smask.toNat / 65536 % 256)
      + (256 * (smask.toNat / 256 % 256) + smask.toNat % 256) = smask.toNat by omega, BitVec.ofNat_toNat, BitVec.setWidth_eq]
  have hnotices : BitVec.ofNat 5 (notices.toNat % 256) = notices := by
    rw [Nat.mod_eq_of_lt (by omega), BitVec.ofNat_toNat, BitVec.setWidth_eq]
  simp only [PermitRow.decode, PermitRow.encode, be3, be4, wordAt_eq, byteAt, List.cons_append, List.nil_append,
    List.getD_cons_zero, List.getD_cons_succ, toNat_byteOf, PermitRow.mk.injEq, hgroup, hsummary, hnotices, true_and]
  omega

theorem length_encode_group (g : GroupRec) : g.encode.length = 3 + (14 * g.entries.length + 7) / 8 := by
  simp only [GroupRec.encode, List.length_append, length_packBits, length_flatMap_pieces length_entryBits]
  rfl

/-- A group's place in the image is its image and zeros behind. -/
theorem place59_eq {g : GroupRec} (h : g.entries.length ≤ 32) :
    g.place59 = g.encode ++ List.replicate (59 - g.encode.length) 0 := by
  have hlength := length_encode_group g
  rw [GroupRec.place59, List.take_append, List.take_of_length_le (by omega), List.take_replicate]
  congr 2
  omega

theorem length_place59 (g : GroupRec) : g.place59.length = 59 := by
  simp [GroupRec.place59]

theorem decode_place59 {g : GroupRec} (h : g.inRange) : GroupRec.decode g.place59 = g := by
  obtain ⟨hrefused, hclamp, hcount⟩ := h
  simp only [GroupRec.refused, Bool.or_eq_false_iff, decide_eq_false_iff_not] at hrefused
  obtain ⟨⟨⟨hpresent, hcount32⟩, hentries⟩, -⟩ := hrefused
  have hwait := clampTo_eq (congrArg GroupRec.waitLimit hclamp)
  have hrange (e : GroupEntry) (he : e ∈ g.entries) : e.door < 128 ∧ e.pre < 128 := by
    have := List.any_eq_false.mp hentries e he
    simp only [GroupEntry.refused, Bool.not_eq_true, Bool.or_eq_false_iff, decide_eq_false_iff_not, Bool.and_eq_false_iff] at this
    omega
  rw [place59_eq (by omega)]
  generalize List.replicate (59 - g.encode.length) (0 : Byte) = z
  have hbytes : g.encode ++ z = byteOf g.present :: byteOf g.waitLimit :: byteOf g.count
      :: (packBits (g.entries.flatMap GroupEntry.bits) ++ z) := by simp [GroupRec.encode]
  rw [hbytes]
  have h0 : byteOf g.present = byteOf g.present := rfl
  have hn0 : g.present % 256 = g.present := Nat.mod_eq_of_lt (by omega)
  have hn1 : g.waitLimit % 256 = g.waitLimit := Nat.mod_eq_of_lt (by omega)
  have hn2 : g.count % 256 = g.count := Nat.mod_eq_of_lt (by omega)
  have hlist : (List.range (min g.count 32)).map
      (GroupEntry.ofBits (unpackBits (packBits (g.entries.flatMap GroupEntry.bits) ++ z))) = g.entries := by
    refine List.ext_getElem (by simp; omega) fun k h1 h2 => ?_
    rw [List.getElem_map, List.getElem_range]
    obtain ⟨hdoor, hpre⟩ := hrange _ (List.getElem_mem h2)
    refine ofBits_flatMap h2 (fun j hj => unpackBits_packBits _ _ ?_) hdoor hpre
    rw [length_flatMap_pieces length_entryBits]
    exact hj
  simp only [GroupRec.decode, byteAt, List.getD_cons_zero, List.getD_cons_succ, toNat_byteOf, hn0, hn1, hn2,
    List.drop_succ_cons, List.drop_zero, hlist]

/-! ### The image -/

section
variable (t : Tables)

theorem length_encode_door (c : DoorConfig) : c.encode.length = 16 := rfl
theorem length_encode_hpu (c : HpuConfig) : c.encode.length = 8 := rfl
theorem length_encode_permit (c : PermitRow) : c.encode.length = 12 := rfl
theorem length_encode_system (c : SystemRecord) : c.encode.length = 9 := rfl

theorem length_doorPlaces : (t.doors.toList.flatMap DoorConfig.encode).length = 1536 := by
  rw [length_flatMap_pieces length_encode_door, Vector.length_toList]
theorem length_hpuPlaces : (t.hpus.toList.flatMap HpuConfig.encode).length = 64 := by
  rw [length_flatMap_pieces length_encode_hpu, Vector.length_toList]
theorem length_groupPlaces : (t.groups.toList.flatMap GroupRec.place59).length = 1416 := by
  rw [length_flatMap_pieces length_place59, Vector.length_toList]
theorem length_permitPlaces : (t.permits.toList.flatMap PermitRow.encode).length = 96 := by
  rw [length_flatMap_pieces length_encode_permit, Vector.length_toList]

theorem length_encode_tables : t.encode.length = 3121 := by
  simp only [Tables.encode, List.length_append, length_doorPlaces, length_hpuPlaces, length_groupPlaces, length_permitPlaces,
    length_encode_system]

/-- The place of each record in the image. -/
theorem slice_door (d : DoorIx) : slice t.encode (16 * d.val) 16 = (t.doors[d]).encode := by
  have hd := d.isLt
  have hlength := length_doorPlaces t
  rw [Tables.encode, List.append_assoc, List.append_assoc, List.append_assoc, slice_append_left (by omega),
    slice_flatMap (fun x _ => length_encode_door x) (by rw [Vector.length_toList]; exact hd)]
  rfl

theorem slice_hpu (h : HpuIx) : slice t.encode (1536 + 8 * h.val) 8 = (t.hpus[h]).encode := by
  have hh := h.isLt
  have hdoors := length_doorPlaces t
  have hlength := length_hpuPlaces t
  rw [Tables.encode, List.append_assoc, List.append_assoc, List.append_assoc, slice_append_right (by omega), hdoors,
    Nat.add_sub_cancel_left, slice_append_left (by omega),
    slice_flatMap (fun x _ => length_encode_hpu x) (by rw [Vector.length_toList]; exact hh)]
  rfl

theorem slice_group (g : GroupIx) : slice t.encode (1600 + 59 * g.val) 59 = (t.groups[g]).place59 := by
  have hg := g.isLt
  have hdoors := length_doorPlaces t
  have hhpus := length_hpuPlaces t
  have hlength := length_groupPlaces t
  rw [Tables.encode, List.append_assoc, List.append_assoc, List.append_assoc, slice_append_right (by omega), hdoors,
    slice_append_right (by omega), hhpus, show 1600 + 59 * g.val - 1536 - 64 = 59 * g.val by omega,
    slice_append_left (by omega), slice_flatMap (fun x _ => length_place59 x) (by rw [Vector.length_toList]; exact hg)]
  rfl

theorem slice_permit (p : PortIx) : slice t.encode (3016 + 12 * p.val) 12 = (t.permits[p]).encode := by
  have hp := p.isLt
  have hdoors := length_doorPlaces t
  have hhpus := length_hpuPlaces t
  have hgroups := length_groupPlaces t
  have hlength := length_permitPlaces t
  rw [Tables.encode, List.append_assoc, List.append_assoc, List.append_assoc, slice_append_right (by omega), hdoors,
    slice_append_right (by omega), hhpus, slice_append_right (by omega), hgroups,
    show 3016 + 12 * p.val - 1536 - 64 - 1416 = 12 * p.val by omega,
    slice_append_left (by omega), slice_flatMap (fun x _ => length_encode_permit x) (by rw [Vector.length_toList]; exact hp)]
  rfl

theorem slice_system : slice t.encode 3112 9 = t.system.encode := by
  have hdoors := length_doorPlaces t
  have hhpus := length_hpuPlaces t
  have hgroups := length_groupPlaces t
  have hpermits := length_permitPlaces t
  rw [Tables.encode, List.append_assoc, List.append_assoc, List.append_assoc, slice_append_right (by omega), hdoors,
    slice_append_right (by omega), hhpus, slice_append_right (by omega), hgroups, slice_append_right (by omega), hpermits]
  exact slice_all (length_encode_system _)

/-- The tables are read back from their image. -/
theorem decode_encode_tables (h : t.inRange) : Tables.decode t.encode = t := by
  obtain ⟨hdoors, hhpus, hgroups, hpermits, hsystem⟩ := h
  obtain ⟨doors, hpus, groups, permits, system⟩ := t
  rw [Tables.decode, Tables.mk.injEq]
  refine ⟨Vector.ext fun i hi => ?_, Vector.ext fun i hi => ?_, Vector.ext fun i hi => ?_, Vector.ext fun i hi => ?_, ?_⟩
  · rw [Vector.getElem_ofFn, slice_door _ ⟨i, hi⟩, decode_encode_door (hdoors ⟨i, hi⟩)]
    exact (hdoors ⟨i, hi⟩).2
  · rw [Vector.getElem_ofFn, slice_hpu _ ⟨i, hi⟩, decode_encode_hpu (hhpus ⟨i, hi⟩)]
    exact (hhpus ⟨i, hi⟩).2
  · rw [Vector.getElem_ofFn, slice_group _ ⟨i, hi⟩, decode_place59 (hgroups ⟨i, hi⟩)]
    exact (hgroups ⟨i, hi⟩).2.1
  · rw [Vector.getElem_ofFn, slice_permit _ ⟨i, hi⟩, decode_encode_permit (hpermits ⟨i, hi⟩)]
    exact (hpermits ⟨i, hi⟩).2
  · rw [slice_system, decode_encode_system hsystem]
    exact hsystem.2

end

/-- Settles O13, by the place of each record in the image and the reading of each. -/
theorem storedImageReadsBack : Obligations.StoredImageReadsBack := by
  unfold Obligations.StoredImageReadsBack
  intro t ht
  have hlength := length_encode_tables t
  have himage : t.image.length = 3125 := by
    rw [Tables.image, List.length_append, hlength]
    rfl
  refine ⟨himage, ?_⟩
  have htake : t.image.take 3121 = t.encode := by rw [Tables.image, List.take_append_of_le_length (by omega), List.take_of_length_le (by omega)]
  have hdrop : t.image.drop 3121 = be4 (crc32 t.encode).toNat := by
    rw [Tables.image, List.drop_append, List.drop_eq_nil_of_le (by omega), List.nil_append, hlength]
    rfl
  rw [loadImage, htake, if_pos ⟨himage, hdrop⟩, decode_encode_tables t ht]

end Sys2Proof.Proofs
end

section
/-! ## Bytes received at a port (R130, R165, R189 to R191) -/
namespace Sys2Proof.Proofs
open Sys2Proof Sys2Proof.Machine

set_option Elab.async false

/-! ### A frame in the bytes of a port -/

/-- The bytes after a delimiter make one whole frame of the envelope. -/
structure WholeFrame (e : Envelope) (whole : List Byte) : Prop where
  header : 0 < e.header
  length : whole.length = e.header + byteAt whole (e.header - 1) + 2
  fits : byteAt whole (e.header - 1) ≤ e.maxLength

section
variable {e : Envelope} {whole got rest : List Byte} {b : Byte}

/-- A byte of a whole frame, received without a framing error: the last completes it, any other leaves the port waiting. -/
theorem inFrameByte_of_whole (h : WholeFrame e whole) (hsplit : whole = got ++ b :: rest) :
    inFrameByte e got ⟨b, false⟩ = if rest = [] then .whole whole else .stays (.IN_FRAME (got ++ [b])) := by
  obtain ⟨hheader, hlength, hfits⟩ := h
  have hall : whole = (got ++ [b]) ++ rest := by simp [hsplit]
  have hcount : whole.length = (got ++ [b]).length + rest.length := by rw [hall, List.length_append]
  have hrest : rest = [] ↔ rest.length = 0 := List.length_eq_zero_iff.symm
  unfold inFrameByte
  simp only [Bool.false_eq_true, if_false]
  by_cases hshort : (got ++ [b]).length < e.header
  · rw [if_pos hshort, if_neg (by rw [hrest]; omega)]
  · have hlen : byteAt (got ++ [b]) (e.header - 1) = byteAt whole (e.header - 1) :=
      (byteAt_append_left (m := rest) (by omega)).symm.trans (congrArg (byteAt · (e.header - 1)) hall.symm)
    rw [if_neg hshort, hlen, if_neg (by omega)]
    by_cases hlast : rest = []
    · rw [if_pos hlast, if_pos (by rw [hrest] at hlast; omega), hall, hlast, List.append_nil]
    · rw [if_neg hlast, if_neg (by rw [hrest] at hlast; omega)]

theorem inFrameByte_error (got : List Byte) (b : Byte) : inFrameByte e got ⟨b, true⟩ = .discards := by
  simp [inFrameByte]

theorem inFrameByte_waits (h : (got ++ [b]).length < e.header) :
    inFrameByte e got ⟨b, false⟩ = .stays (.IN_FRAME (got ++ [b])) := by
  unfold inFrameByte
  simp only [Bool.false_eq_true, if_false]
  rw [if_pos h]

theorem inFrameByte_tooLong (h : (got ++ [b]).length = e.header) (hlong : e.maxLength < b.toNat) :
    inFrameByte e got ⟨b, false⟩ = .discards := by
  have hlast : byteAt (got ++ [b]) (e.header - 1) = b.toNat := by
    rw [← h, List.length_append, List.length_singleton, Nat.add_sub_cancel, byteAt, List.getD_append_right _ _ _ _ le_rfl]
    simp
  unfold inFrameByte
  simp only [Bool.false_eq_true, if_false]
  rw [if_neg (by omega), hlast, if_pos hlong]

end

/-! ### A port of either kind -/

/-- What the bytes of a port do to the part: `at x` is the part with the port in receive state `x`, `gone` the part when a
frame has been discarded, `taken` the part when a whole frame has come. -/
structure Receives (e : Envelope) (byte : State → RxByte → State) (at_ : RxState → State) (gone : State)
    (taken : List Byte → State) : Prop where
  step : ∀ x b, byte (at_ x) b = match rxByte e x b with
    | .stays y => at_ y
    | .discards => gone
    | .whole got => taken got

section
variable {e : Envelope} {byte : State → RxByte → State} {at_ : RxState → State} {gone : State} {taken : List Byte → State}
  {whole : List Byte} (hport : Receives e byte at_ gone taken)

include hport

theorem Receives.delimiter : byte (at_ .HUNT) ⟨e.delimiter, false⟩ = at_ (.IN_FRAME []) := by
  rw [hport.step]
  simp [rxByte]

theorem Receives.hunts {b : Byte} (h : b ≠ e.delimiter) : byte (at_ .HUNT) ⟨b, false⟩ = at_ .HUNT := by
  rw [hport.step]
  simp [rxByte, h]

theorem Receives.inFrame {got : List Byte} {b : RxByte} {y : RxState} (h : inFrameByte e got b = .stays y) :
    byte (at_ (.IN_FRAME got)) b = at_ y := by
  rw [hport.step, rxByte, h]

theorem Receives.discards {got : List Byte} {b : RxByte} (h : inFrameByte e got b = .discards) :
    byte (at_ (.IN_FRAME got)) b = gone := by
  rw [hport.step, rxByte, h]

theorem Receives.takes {got : List Byte} {b : RxByte} {w : List Byte} (h : inFrameByte e got b = .whole w) :
    byte (at_ (.IN_FRAME got)) b = taken w := by
  rw [hport.step, rxByte, h]

/-- Bytes of a frame that is not whole yet leave the port in the frame. -/
theorem Receives.part (h : WholeFrame e whole) {got mid rest : List Byte} (hsplit : whole = got ++ mid ++ rest)
    (hrest : rest ≠ []) : (received mid).foldl byte (at_ (.IN_FRAME got)) = at_ (.IN_FRAME (got ++ mid)) := by
  induction mid generalizing got with
  | nil => simp [received]
  | cons b mid ih =>
    have hbyte := inFrameByte_of_whole (got := got) (b := b) (rest := mid ++ rest) h (by simpa using hsplit)
    rw [if_neg (by simp [hrest])] at hbyte
    rw [show received (b :: mid) = ⟨b, false⟩ :: received mid from rfl, List.foldl_cons, hport.inFrame hbyte,
      ih (by simpa using hsplit)]
    simp

/-- The bytes of a whole frame from HUNT. -/
theorem Receives.frame (h : WholeFrame e whole) :
    (received (e.delimiter :: whole)).foldl byte (at_ .HUNT) = taken whole := by
  have hne : whole ≠ [] := by
    intro hnil
    have := h.length
    rw [hnil, List.length_nil] at this
    omega
  have hsplit : whole = whole.dropLast ++ [whole.getLast hne] := (List.dropLast_append_getLast hne).symm
  have hlast := inFrameByte_of_whole (rest := []) h hsplit
  rw [if_pos rfl] at hlast
  have hbytes : received (e.delimiter :: whole) =
      ⟨e.delimiter, false⟩ :: (received whole.dropLast ++ [⟨whole.getLast hne, false⟩]) := by
    conv_lhs => rw [hsplit]
    simp [received]
  have hpart := hport.part (got := []) (mid := whole.dropLast) (rest := [whole.getLast hne]) h (by simpa using hsplit) (by simp)
  rw [hbytes, List.foldl_cons, hport.delimiter, List.foldl_append, hpart]
  exact hport.takes hlast

/-- A frame broken off leaves the port in the frame. -/
theorem Receives.broken (h : WholeFrame e whole) {k : Nat} (hpos : 0 < k) (hk : k < (e.delimiter :: whole).length) :
    (received ((e.delimiter :: whole).take k)).foldl byte (at_ .HUNT) = at_ (.IN_FRAME (whole.take (k - 1))) := by
  obtain ⟨n, rfl⟩ : ∃ n, k = n + 1 := ⟨k - 1, by omega⟩
  rw [List.take_succ_cons, show received (e.delimiter :: whole.take n) = ⟨e.delimiter, false⟩ :: received (whole.take n) from rfl,
    List.foldl_cons, hport.delimiter]
  have hrest : whole.drop n ≠ [] := by
    rw [ne_eq, List.drop_eq_nil_iff]
    simp only [List.length_cons] at hk
    omega
  simpa using hport.part (got := []) h (by simp) hrest

/-- Bytes before a delimiter are passed over. -/
theorem Receives.passes {other : List Byte} (h : e.delimiter ∉ other) :
    (received other).foldl byte (at_ .HUNT) = at_ .HUNT := by
  induction other with
  | nil => rfl
  | cons b rest ih =>
    have hb : b ≠ e.delimiter := fun heq => h (heq ▸ List.mem_cons_self)
    rw [show received (b :: rest) = ⟨b, false⟩ :: received rest from rfl, List.foldl_cons, hport.hunts hb]
    exact ih fun hmem => h (List.mem_cons_of_mem _ hmem)

end

/-! ### The two kinds of port -/

theorem upd_upd {α : Type} {n : Nat} (v : Vector α n) (i : Fin n) (f g : α → α) : upd (upd v i f) i g = upd v i (g ∘ f) := by
  simp [upd]

theorem upd_self {α : Type} {n : Nat} {v : Vector α n} {i : Fin n} {f : α → α} (h : f v[i] = v[i]) : upd v i f = v := by
  rw [upd, h]
  exact Vector.set_getElem_self ..

theorem modPort_modPort (s : State) (p : PortIx) (f g : StationPort → StationPort) :
    (s.modPort p f).modPort p g = s.modPort p (g ∘ f) := by
  simp only [State.modPort, upd_upd]

theorem modPort_eq_self {s : State} {p : PortIx} {f : StationPort → StationPort} (h : f s.sp[p] = s.sp[p]) :
    s.modPort p f = s := by
  rw [State.modPort, upd_self h]

theorem modSide_modSide (p : RingPort) (f g : RingSide → RingSide) (s : State) :
    modSide p g (modSide p f s) = modSide p (g ∘ f) s := by cases p <;> rfl

theorem modSide_eq_self {p : RingPort} {f : RingSide → RingSide} {s : State} (h : f (sideOf s p) = sideOf s p) :
    modSide p f s = s := by
  cases p <;> simp only [modSide, sideOf] at h ⊢ <;> rw [h]

section
variable (p : PortIx) (s : State)

theorem station_receives : Receives stationEnvelope (stationByte p) (fun x => setRx p x s) (stationDiscard p s)
    (fun got => if stationAccepts p got then setRx p .HUNT s else stationDiscard p s) where
  step x b := by
    have hrx : (setRx p x s).sp[p].rx = x := by simp [setRx]
    have hset (y : RxState) : setRx p y (setRx p x s) = setRx p y s := modPort_modPort ..
    have hdiscard : stationDiscard p (setRx p x s) = stationDiscard p s := modPort_modPort ..
    unfold stationByte
    rw [hrx]
    cases rxByte stationEnvelope x b with
    | stays y => exact hset y
    | discards => exact hdiscard
    | whole got => simp only [hset, hdiscard]

theorem setRx_hunt {s : State} (h : s.sp[p].rx = .HUNT) : setRx p .HUNT s = s :=
  modPort_eq_self (by rw [← h])

theorem stationDiscard_hunt {s : State} (h : s.sp[p].rx = .HUNT) : stationDiscard p s =
    { s with sp := upd s.sp p fun x => { x with discarded := min (x.discarded + 1) 65535 } } := by
  unfold stationDiscard State.modPort upd
  rw [← h]
  rfl

/-- R165: a port in a frame discards it at the timeout. -/
theorem stationTimeout_inFrame (got : List Byte) : stationTimeout p (setRx p (.IN_FRAME got) s) = stationDiscard p s := by
  have hrx : (setRx p (.IN_FRAME got) s).sp[p].rx = .IN_FRAME got := by simp [setRx]
  have hdiscard : stationDiscard p (setRx p (.IN_FRAME got) s) = stationDiscard p s := modPort_modPort ..
  unfold stationTimeout
  rw [hrx]
  exact hdiscard

end

section
variable (p : RingPort) (s : State)

theorem ring_receives : Receives ringEnvelope (ringByte p) (fun x => setRingRx p x s) (ringDiscard p (ringHunt p s))
    (fun got => if ringRejects s p got then ringDiscard p (ringHunt p s) else ringHunt p s) where
  step x b := by
    have hrx : ringRx (setRingRx p x s) p = x := by cases p <;> rfl
    have hset (y : RxState) : setRingRx p y (setRingRx p x s) = setRingRx p y s := by cases p <;> rfl
    have hhunt : ringHunt p (setRingRx p x s) = ringHunt p s := by cases p <;> rfl
    have hrejects (got : List Byte) : ringRejects (setRingRx p x s) p got = ringRejects s p got := by cases p <;> rfl
    unfold ringByte
    rw [hrx]
    cases rxByte ringEnvelope x b with
    | stays y => exact hset y
    | discards => exact congrArg (ringDiscard p) hhunt
    | whole got => simp only [hrejects, hhunt]

theorem setRingRx_hunt {s : State} (h : (sideOf s p).rx = .HUNT) : setRingRx p .HUNT s = s :=
  modSide_eq_self (by rw [← h])

theorem ringHunt_hunt {s : State} (h : (sideOf s p).rx = .HUNT) : ringHunt p s = s := setRingRx_hunt p h

theorem ringTimeout_inFrame (got : List Byte) : ringTimeout p (setRingRx p (.IN_FRAME got) s) = ringDiscard p (ringHunt p s) := by
  cases p <;> rfl

end

/-! ### The fields of a whole frame -/

section
variable {kind c1 c2 : Byte} {payload : List Byte}

theorem length_body_bytes {n : Nat} (h : payload.length ≤ n) (hn : n ≤ 64) : (byteOf payload.length).toNat = payload.length := by
  rw [toNat_byteOf]
  omega

theorem stationFrame_whole (h : payload.length ≤ 64) :
    WholeFrame stationEnvelope (kind :: byteOf payload.length :: payload ++ [c1, c2]) where
  header := by decide
  length := by
    have hlen : byteAt (kind :: byteOf payload.length :: payload ++ [c1, c2]) 1 = payload.length :=
      length_body_bytes h le_rfl
    simp only [stationEnvelope, Nat.add_one_sub_one, hlen]
    simp only [List.cons_append, List.length_cons, List.length_append, List.length_nil]
    omega
  fits := by
    have hlen : byteAt (kind :: byteOf payload.length :: payload ++ [c1, c2]) 1 = payload.length :=
      length_body_bytes h le_rfl
    simpa only [stationEnvelope, Nat.add_one_sub_one, hlen] using h

theorem ringFrame_whole {dest src seq : Byte} (h : payload.length ≤ 8) :
    WholeFrame ringEnvelope (dest :: src :: kind :: seq :: byteOf payload.length :: payload ++ [c1, c2]) where
  header := by decide
  length := by
    have hlen : byteAt (dest :: src :: kind :: seq :: byteOf payload.length :: payload ++ [c1, c2]) 4 = payload.length :=
      length_body_bytes h (by decide)
    simp only [ringEnvelope, Nat.add_one_sub_one, hlen]
    simp only [List.cons_append, List.length_cons, List.length_append, List.length_nil]
    omega
  fits := by
    have hlen : byteAt (dest :: src :: kind :: seq :: byteOf payload.length :: payload ++ [c1, c2]) 4 = payload.length :=
      length_body_bytes h (by decide)
    simpa only [ringEnvelope, Nat.add_one_sub_one, hlen] using h

theorem crcMatches_append (body : List Byte) : crcMatches (body ++ [c1, c2]) = decide (crcBytes body = [c1, c2]) := by
  have hlength : (body ++ [c1, c2]).length - 2 = body.length := by simp
  rw [crcMatches, hlength, List.drop_left, List.take_left, decide_eq_decide]
  exact eq_comm

theorem wholePayload_station : wholePayload stationEnvelope (kind :: byteOf payload.length :: payload ++ [c1, c2]) = payload := by
  simp [wholePayload, stationEnvelope]

theorem wholePayload_ring {dest src seq : Byte} :
    wholePayload ringEnvelope (dest :: src :: kind :: seq :: byteOf payload.length :: payload ++ [c1, c2]) = payload := by
  simp [wholePayload, ringEnvelope]

theorem stationAccepts_frame (p : PortIx) : stationAccepts p (kind :: byteOf payload.length :: payload ++ [c1, c2]) =
    (decide (crcBytes (kind :: byteOf payload.length :: payload) = [c1, c2])
      && (decodeStationCommand p kind payload).isSome) := by
  rw [stationAccepts, crcMatches_append, wholePayload_station]
  rfl

theorem ringRejects_frame (s : State) (p : RingPort) {dest src seq : Byte} :
    ringRejects s p (dest :: src :: kind :: seq :: byteOf payload.length :: payload ++ [c1, c2]) =
      (!decide (crcBytes (dest :: src :: kind :: seq :: byteOf payload.length :: payload) = [c1, c2]) ||
        match decodeRingFrame p dest src kind seq payload with
        | .command c => ringUnwanted s c
        | .partSent | .bad => true) := by
  rw [ringRejects, crcMatches_append, wholePayload_ring]
  rfl

end

/-! ### The statement -/

theorem exec_stationBytes {p : PortIx} {l : List RxByte} {s : State} (h : Awake s) :
    exec (.stationFrameDiscarded p l) s = .next (l.foldl (stationByte p) s) := exec_awake h rfl
theorem exec_stationTimeout {p : PortIx} {l : List RxByte} {s : State} (h : Awake s) :
    exec (.stationInterbyteTimeout p l) s = .next (stationTimeout p (l.foldl (stationByte p) s)) := exec_awake h rfl
theorem exec_ringBytes {p : RingPort} {l : List RxByte} {s : State} (h : Awake s) :
    exec (.ringFrameDiscarded p l) s = .next (l.foldl (ringByte p) s) := exec_awake h rfl
theorem exec_ringTimeout {p : RingPort} {l : List RxByte} {s : State} (h : Awake s) :
    exec (.ringInterbyteTimeout p l) s = .next (ringTimeout p (l.foldl (ringByte p) s)) := exec_awake h rfl

theorem received_append (l m : List Byte) : received (l ++ m) = received l ++ received m := List.map_append ..

/-- Settles O48: the bytes of a whole frame by the lemmas about a port of either kind. -/
theorem bytesReceived : Obligations.BytesReceived := by
  unfold Obligations.BytesReceived
  refine ⟨fun p kind c1 c2 payload other k s h hunt hlen => ?_, fun p dest src kind seq c1 c2 payload other k s h hunt hlen => ?_⟩
  · have hport := station_receives p s
    have hat : setRx p .HUNT s = s := setRx_hunt p hunt
    have hgone := stationDiscard_hunt p hunt
    have whole : WholeFrame stationEnvelope (kind :: byteOf payload.length :: payload ++ [c1, c2]) := stationFrame_whole hlen
    have hframe := hport.frame whole
    simp only [hat, stationAccepts_frame] at hframe
    intro body frame lost
    have hread : exec (.stationFrameDiscarded p (received frame)) s =
        .next (if decide (crcBytes body = [c1, c2]) && (decodeStationCommand p kind payload).isSome then s
          else stationDiscard p s) := (exec_stationBytes h).trans (congrArg _ hframe)
    refine ⟨fun hcrc => ?_, fun hcrc hnone => ?_, fun hcrc hsome => ?_, fun hpos hk => ?_, fun hother => ?_, ?_, fun hlong => ?_⟩
    · rw [hread, decide_eq_false hcrc]; exact congrArg _ hgone
    · rw [hread, hnone, Option.isSome_none, Bool.and_false]; exact congrArg _ hgone
    · rw [hread, decide_eq_true hcrc, hsome]; rfl
    · have hbroken := hport.broken whole hpos hk
      simp only [hat] at hbroken
      rw [exec_stationTimeout h]
      exact congrArg _ ((congrArg (stationTimeout p) hbroken).trans ((stationTimeout_inFrame ..).trans hgone))
    · have hpasses := hport.passes hother
      simp only [hat] at hpasses
      rw [exec_stationBytes h, exec_stationBytes h, received_append, List.foldl_append, hpasses]
    · have hfirst : stationByte p s ⟨0x5A#8, false⟩ = setRx p (.IN_FRAME []) s := by
        have hdelimiter := hport.delimiter
        simp only [hat] at hdelimiter
        exact hdelimiter
      have hsecond : stationByte p (setRx p (.IN_FRAME []) s) ⟨kind, false⟩ = setRx p (.IN_FRAME [kind]) s :=
        hport.inFrame (inFrameByte_waits (by simp [stationEnvelope]))
      have hthird : stationByte p (setRx p (.IN_FRAME [kind]) s) ⟨c1, true⟩ = stationDiscard p s :=
        hport.discards (inFrameByte_error ..)
      rw [exec_stationBytes h]
      simp only [received, List.map_cons, List.map_nil, List.cons_append, List.nil_append, List.foldl_cons, List.foldl_nil,
        hfirst, hsecond, hthird, hgone, lost]
    · have hfirst : stationByte p s ⟨0x5A#8, false⟩ = setRx p (.IN_FRAME []) s := by
        have hdelimiter := hport.delimiter
        simp only [hat] at hdelimiter
        exact hdelimiter
      have hsecond : stationByte p (setRx p (.IN_FRAME []) s) ⟨kind, false⟩ = setRx p (.IN_FRAME [kind]) s :=
        hport.inFrame (inFrameByte_waits (by simp [stationEnvelope]))
      have hthird : stationByte p (setRx p (.IN_FRAME [kind]) s) ⟨c1, false⟩ = stationDiscard p s :=
        hport.discards (inFrameByte_tooLong (by rfl) hlong)
      rw [exec_stationBytes h]
      simp only [received, List.map_cons, List.map_nil, List.foldl_cons, List.foldl_nil, hfirst, hsecond, hthird, hgone, lost]
  · have hport := ring_receives p s
    have hat : setRingRx p .HUNT s = s := setRingRx_hunt p hunt
    have hhunt : ringHunt p s = s := ringHunt_hunt p hunt
    have whole : WholeFrame ringEnvelope (dest :: src :: kind :: seq :: byteOf payload.length :: payload ++ [c1, c2]) :=
      ringFrame_whole hlen
    have hframe := hport.frame whole
    simp only [hat, hhunt, ringRejects_frame] at hframe
    intro body frame lost
    have hread (hreject : (!decide (crcBytes body = [c1, c2]) ||
        match decodeRingFrame p dest src kind seq payload with
        | .command c => ringUnwanted s c
        | .partSent | .bad => true) = true) : exec (.ringFrameDiscarded p (received frame)) s = .next lost :=
      (exec_ringBytes h).trans (congrArg _ (hframe.trans (if_pos hreject)))
    have hfirst : ringByte p s ⟨0x5B#8, false⟩ = setRingRx p (.IN_FRAME []) s := by
      have hdelimiter := hport.delimiter
      simp only [hat] at hdelimiter
      exact hdelimiter
    have hsecond : ringByte p (setRingRx p (.IN_FRAME []) s) ⟨dest, false⟩ = setRingRx p (.IN_FRAME [dest]) s :=
      hport.inFrame (inFrameByte_waits (by simp [ringEnvelope]))
    refine ⟨fun hcrc => hread ?_, fun hcrc hbad => hread ?_, fun hpos hk => ?_, fun hother => ?_, ?_, fun hlong => ?_⟩
    · rw [decide_eq_false hcrc]; rfl
    · simp only [List.mem_cons, List.not_mem_nil, or_false] at hbad
      rcases hbad with hbad | hbad <;> rw [hbad] <;> exact Bool.or_true _
    · have hbroken := hport.broken whole hpos hk
      simp only [hat] at hbroken
      rw [exec_ringTimeout h]
      refine congrArg _ ((congrArg (ringTimeout p) hbroken).trans ((ringTimeout_inFrame ..).trans ?_))
      rw [hhunt]
      rfl
    · have hpasses := hport.passes hother
      simp only [hat] at hpasses
      rw [exec_ringBytes h, exec_ringBytes h, received_append, List.foldl_append, hpasses]
    · have hthird : ringByte p (setRingRx p (.IN_FRAME [dest]) s) ⟨c1, true⟩ = ringDiscard p (ringHunt p s) :=
        hport.discards (inFrameByte_error ..)
      rw [exec_ringBytes h]
      simp only [received, List.map_cons, List.map_nil, List.cons_append, List.nil_append, List.foldl_cons, List.foldl_nil,
        hfirst, hsecond, hthird, hhunt]
      rfl
    · have stays (got : List Byte) (b : Byte) (hgot : (got ++ [b]).length < 5) :
          ringByte p (setRingRx p (.IN_FRAME got) s) ⟨b, false⟩ = setRingRx p (.IN_FRAME (got ++ [b])) s :=
        hport.inFrame (inFrameByte_waits hgot)
      have hlast : ringByte p (setRingRx p (.IN_FRAME [dest, src, kind, seq]) s) ⟨c1, false⟩ = ringDiscard p (ringHunt p s) :=
        hport.discards (inFrameByte_tooLong (by rfl) hlong)
      rw [exec_ringBytes h]
      simp only [received, List.map_cons, List.map_nil, List.foldl_cons, List.foldl_nil, hfirst, hsecond,
        stays [dest] src (by simp), List.cons_append, List.nil_append, stays [dest, src] kind (by simp),
        stays [dest, src, kind] seq (by simp), hlast, hhunt]
      rfl

end Sys2Proof.Proofs
end

section
/-! ## The parts of an admission pass (R39, R55 to R60)

The order queue, the test of ADMISSION_DELAY, one admission and the order of the schedule, each said once. -/
namespace Sys2Proof.Proofs
open Sys2Proof Sys2Proof.Machine

set_option Elab.async false

/-! ### The order queue -/

theorem mem_queued_self (q : List PendingOrder) (o : PendingOrder) : o ∈ queued q o := by
  unfold queued
  split
  · next h =>
    obtain ⟨x, hx, hd⟩ := List.any_eq_true.mp h
    exact List.mem_map.mpr ⟨x, hx, if_pos (of_decide_eq_true hd)⟩
  · simp

theorem mem_queued_of_ne {q : List PendingOrder} {o x : PendingOrder} (h : x.door ≠ o.door) : x ∈ queued q o ↔ x ∈ q := by
  unfold queued
  split
  · constructor
    · intro hx
      obtain ⟨y, hy, rfl⟩ := List.mem_map.mp hx
      split at h
      · exact absurd rfl h
      · next hne => rwa [if_neg hne]
    · intro hx
      exact List.mem_map.mpr ⟨x, hx, if_neg h⟩
  · have hne : x ≠ o := fun e => h (by rw [e])
    simp [hne]

/-! ### The test of ADMISSION_DELAY (R60) -/

section
variable {h g : HpuIx} {s t : State} {d x : DoorIx} {e : Entry}

theorem entry_congr (he : t.cs.entries = s.cs.entries) (d : DoorIx) : t.entry d = s.entry d := by
  unfold State.entry; rw [he]

theorem waitsTooLong_congr (he : t.entry d = s.entry d) (ht : t.tables = s.tables) :
    waitsTooLong t h d = waitsTooLong s h d := by
  unfold waitsTooLong State.hpuOf
  rw [he, ht]

theorem admissionDelayed_congr (he : t.cs.entries = s.cs.entries) (ht : t.tables = s.tables) (h : HpuIx) :
    admissionDelayed t h = admissionDelayed s h := by
  unfold admissionDelayed
  exact congrArg allDoors.any (funext fun d => waitsTooLong_congr (entry_congr he d) ht)

/-- R60: the test writes the delay alarm flag of the HPU, and nothing else of the schedule. -/
theorem evalDelay_cs (h : HpuIx) (s : State) :
    (evalDelay h s).cs =
      { s.cs with flow := upd s.cs.flow h fun f => { f with delayAlarm := admissionDelayed s h } } := by
  have unchanged (b : Bool) (hb : s.cs.flow[h].delayAlarm = b) : s.cs =
      { s.cs with flow := upd s.cs.flow h fun f => { f with delayAlarm := b } } := by
    rw [upd_self (v := s.cs.flow) (i := h) (by rw [← hb])]
  unfold evalDelay
  cases hnow : admissionDelayed s h <;> cases hwas : s.cs.flow[h].delayAlarm <;> simp only [if_true, if_false, Bool.false_eq_true]
  · exact unchanged false hwas
  · exact (AlarmFrame.clearAlarm ..).cs
  · exact (AlarmFrame.raiseAlarm ..).cs
  · exact unchanged true hwas

theorem evalDelay_entry (h : HpuIx) (s : State) (d : DoorIx) : (evalDelay h s).entry d = s.entry d :=
  entry_congr (by rw [evalDelay_cs]) d

theorem evalDelay_rc (h : HpuIx) (s : State) : (evalDelay h s).rc = s.rc := by
  unfold evalDelay
  split <;> split
  · rfl
  · exact (AlarmFrame.raiseAlarm ..).rc
  · exact (AlarmFrame.clearAlarm ..).rc
  · rfl

theorem evalDelay_ms (h : HpuIx) (s : State) : (evalDelay h s).ms = s.ms := by
  unfold evalDelay
  split <;> split
  · rfl
  · exact ms_raiseAlarm ..
  · exact ms_clearAlarm (by decide) ..
  · rfl

/-! ### One admission (R58) -/

theorem admitDoor_eq (he : s.entry d = some e) :
    admitDoor d s = evalDelay (s.hpuOf d) (queueOrder d (.MOVE e.direction (dispatchWarn e))
      ((s.setEntry d (e.dispatched (doorDeadline s d e.direction) (dispatchWarn e))).modFlow (s.hpuOf d)
        fun f => { f with committed := f.committed + s.draw d })) := by
  unfold admitDoor
  rw [he]

theorem admitDoor_cs (he : s.entry d = some e) :
    (admitDoor d s).cs = { s.cs with
      entries := put s.cs.entries d (some (e.dispatched (doorDeadline s d e.direction) (dispatchWarn e)))
      flow := upd s.cs.flow (s.hpuOf d) fun f =>
        { f with committed := f.committed + s.draw d, delayAlarm := admissionDelayed (admitDoor d s) (s.hpuOf d) } } := by
  have hd : admissionDelayed (admitDoor d s) (s.hpuOf d) = admissionDelayed (queueOrder d (.MOVE e.direction (dispatchWarn e))
      ((s.setEntry d (e.dispatched (doorDeadline s d e.direction) (dispatchWarn e))).modFlow (s.hpuOf d)
        fun f => { f with committed := f.committed + s.draw d })) (s.hpuOf d) := by
    rw [admitDoor_eq he]
    exact admissionDelayed_congr (by rw [evalDelay_cs]) (ScheduleFrame.evalDelay ..).tables _
  rw [hd, admitDoor_eq he, evalDelay_cs]
  simp only [queueOrder_cs, State.modFlow_cs_flow, upd_upd]
  rfl

theorem admitDoor_entry (he : s.entry d = some e) (x : DoorIx) :
    (admitDoor d s).entry x =
      if d = x then some (e.dispatched (doorDeadline s d e.direction) (dispatchWarn e)) else s.entry x := by
  rw [admitDoor_eq he, evalDelay_entry]
  exact entry_setEntry ..

theorem admitDoor_orders (he : s.entry d = some e) :
    (admitDoor d s).rc.orders = queued s.rc.orders ⟨d, .MOVE e.direction (dispatchWarn e)⟩ := by
  rw [admitDoor_eq he, evalDelay_rc]
  rfl

theorem entry_of_entryIn {ph : Phase} (hd : entryIn s h ph d = true) : ∃ e, s.entry d = some e ∧ e.phase = ph ∧ s.hpuOf d = h := by
  unfold entryIn at hd
  split at hd
  · next e he => exact ⟨e, he, by simpa using hd⟩
  · cases hd

theorem entryIn_of_entry {ph : Phase} (he : s.entry d = some e) : entryIn s h ph d = (decide (e.phase = ph) && decide (s.hpuOf d = h)) := by
  unfold entryIn
  rw [he]

/-- A READY entry that moves no longer delays. -/
theorem admissionDelayed_admitDoor (he : s.entry d = some e) (h : HpuIx) (hd : admissionDelayed (admitDoor d s) h = true) :
    admissionDelayed s h = true := by
  obtain ⟨x, hx, hlate⟩ := List.any_eq_true.mp hd
  refine List.any_eq_true.mpr ⟨x, hx, ?_⟩
  by_cases hdx : d = x
  · subst hdx
    unfold waitsTooLong at hlate
    rw [admitDoor_entry he, if_pos rfl] at hlate
    simp [Entry.dispatched] at hlate
  · rwa [waitsTooLong_congr (by rw [admitDoor_entry he, if_neg hdx]) (ScheduleFrame.admitDoor ..).tables] at hlate

end

/-! ### The order of the schedule (R39) -/

section
variable {s t : State} {a b c d : DoorIx} {h : HpuIx}

/-- Every entry has an arrival number of its own (R39 to R41). -/
def DistinctArrivals (s : State) : Prop :=
  ∀ a b : DoorIx, a ≠ b → ∀ x ∈ s.entry a, ∀ y ∈ s.entry b, x.arrival ≠ y.arrival

theorem ArrivalLaw.distinct (hs : ArrivalLaw s) : DistinctArrivals s := by
  intro a b hab x hx y hy hxy
  obtain ⟨-, -, hdist⟩ := hs
  have hx : s.entry a = some x := hx
  have hy : s.entry b = some y := hy
  exact hdist a b hab x.arrival (by simp [arrivalOf, hx]) (by simp [arrivalOf, hy, hxy])

theorem schedBefore_of_entries {x y : Entry} (hx : s.entry a = some x) (hy : s.entry b = some y) :
    schedBefore s a b = x.before y := by
  unfold schedBefore; rw [hx, hy]

theorem before_iff {x y : Entry} : x.before y = true ↔ y.cls < x.cls ∨ (x.cls = y.cls ∧ x.arrival < y.arrival) := by
  simp [Entry.before]

theorem schedBefore_asymm (hab : schedBefore s a b = true) : schedBefore s b a = false := by
  unfold schedBefore at *
  split at hab
  · next x y hx hy =>
    rw [hx, hy]
    simp only [Entry.before, Bool.or_eq_true, Bool.and_eq_true, decide_eq_true_eq, Bool.or_eq_false_iff,
      Bool.and_eq_false_iff, decide_eq_false_iff_not] at hab ⊢
    omega
  · next x hx hy => rw [hx, hy]
  · cases hab

theorem schedBefore_total (hs : DistinctArrivals s) (ha : (s.entry a).isSome = true) (hb : (s.entry b).isSome = true)
    (hab : a ≠ b) (hn : schedBefore s a b = false) : schedBefore s b a = true := by
  obtain ⟨x, hx⟩ := Option.isSome_iff_exists.mp ha
  obtain ⟨y, hy⟩ := Option.isSome_iff_exists.mp hb
  have hne := hs a b hab x hx y hy
  rw [schedBefore_of_entries hx hy] at hn
  rw [schedBefore_of_entries hy hx]
  simp only [Entry.before, Bool.or_eq_true, Bool.and_eq_true, decide_eq_true_eq, Bool.or_eq_false_iff,
      Bool.and_eq_false_iff, decide_eq_false_iff_not] at hn ⊢
  omega

theorem schedBefore_trans (hc : (s.entry c).isSome = true) (hab : schedBefore s a b = true) (hbc : schedBefore s b c = true) :
    schedBefore s a c = true := by
  obtain ⟨z, hz⟩ := Option.isSome_iff_exists.mp hc
  unfold schedBefore at *
  rw [hz] at hbc ⊢
  split at hbc
  · next y _ hy he =>
    cases he
    rw [hy] at hab
    split at hab
    · next x _ hx he =>
      cases he
      rw [hx]
      simp only [Entry.before, Bool.or_eq_true, Bool.and_eq_true, decide_eq_true_eq] at *
      omega
    · next hx he => cases he
    · cases hab
  · next hy he => cases he
  · cases hbc

theorem insertDoor_perm (s : State) (d : DoorIx) (l : List DoorIx) : (insertDoor s d l).Perm (d :: l) := by
  induction l with
  | nil => exact .refl _
  | cons x rest ih =>
    unfold insertDoor
    split
    · exact .refl _
    · exact (ih.cons x).trans (.swap ..)

theorem inScheduleOrder_perm (s : State) (l : List DoorIx) : (inScheduleOrder s l).Perm l := by
  induction l with
  | nil => exact .refl _
  | cons x rest ih => exact (insertDoor_perm s x _).trans (ih.cons x)

theorem insertDoor_sorted (hs : DistinctArrivals s) {l : List DoorIx} (hd : (s.entry d).isSome = true)
    (hl : ∀ x ∈ l, (s.entry x).isSome = true) (hnot : d ∉ l) (hsorted : l.Pairwise fun a b => schedBefore s a b = true) :
    (insertDoor s d l).Pairwise fun a b => schedBefore s a b = true := by
  induction l with
  | nil => simp [insertDoor]
  | cons x rest ih =>
    obtain ⟨hx, hrest⟩ := List.pairwise_cons.mp hsorted
    unfold insertDoor
    split
    · next hdx =>
      refine List.pairwise_cons.mpr ⟨fun y hy => ?_, hsorted⟩
      rcases List.mem_cons.mp hy with rfl | hy'
      · exact hdx
      · exact schedBefore_trans (hl y hy) hdx (hx y hy')
    · next hdx =>
      refine List.pairwise_cons.mpr ⟨fun y hy => ?_, ih (fun y hy => hl y (by simp [hy])) (fun hy => hnot (by simp [hy])) hrest⟩
      rcases List.mem_cons.mp ((insertDoor_perm s d rest).mem_iff.mp hy) with rfl | hy'
      · exact schedBefore_total hs hd (hl x (by simp)) (fun e => hnot (by simp [e])) (by simpa using hdx)
      · exact hx y hy'

theorem inScheduleOrder_sorted (hs : DistinctArrivals s) {l : List DoorIx} (hl : ∀ x ∈ l, (s.entry x).isSome = true)
    (hnodup : l.Nodup) : (inScheduleOrder s l).Pairwise fun a b => schedBefore s a b = true := by
  induction l with
  | nil => exact .nil
  | cons x rest ih =>
    obtain ⟨hx, hrest⟩ := List.nodup_cons.mp hnodup
    have hperm := inScheduleOrder_perm s rest
    exact insertDoor_sorted hs (hl x (by simp)) (fun y hy => hl y (by simp [hperm.mem_iff.mp hy]))
      (fun hmem => hx (hperm.mem_iff.mp hmem)) (ih (fun y hy => hl y (by simp [hy])) hrest)

theorem mem_allDoors (d : DoorIx) : d ∈ allDoors := List.mem_finRange d
theorem nodup_allDoors : allDoors.Nodup := List.nodup_finRange 96

theorem mem_readyOn : d ∈ readyOn s h ↔ entryIn s h .READY d = true := by
  unfold readyOn
  rw [(inScheduleOrder_perm ..).mem_iff]
  simp [mem_allDoors]

theorem nodup_readyOn (s : State) (h : HpuIx) : (readyOn s h).Nodup :=
  ((inScheduleOrder_perm ..).nodup_iff).mpr (nodup_allDoors.filter _)

theorem readyOn_sorted (hs : DistinctArrivals s) : (readyOn s h).Pairwise fun a b => schedBefore s a b = true := by
  refine inScheduleOrder_sorted hs (fun x hx => ?_) (nodup_allDoors.filter _)
  obtain ⟨e, he, -⟩ := entry_of_entryIn (List.mem_filter.mp hx).2
  simp [he]

theorem mem_schedule : d ∈ schedule s ↔ (s.entry d).isSome = true := by
  unfold schedule
  rw [(inScheduleOrder_perm ..).mem_iff]
  simp [mem_allDoors]

theorem nodup_schedule (s : State) : (schedule s).Nodup :=
  ((inScheduleOrder_perm ..).nodup_iff).mpr (nodup_allDoors.filter _)

theorem mem_matching {f : DoorIx → Entry → Bool} : d ∈ matching s f ↔ ∃ e, s.entry d = some e ∧ f d e = true := by
  unfold matching
  rw [List.mem_filter, mem_schedule]
  cases he : s.entry d <;> simp

theorem nodup_matching (s : State) (f : DoorIx → Entry → Bool) : (matching s f).Nodup := (nodup_schedule s).filter _

end

end Sys2Proof.Proofs
end

section
/-! ## What an admission pass does (R55 to R58)

`Admits` says what a stretch of a pass leaves when the doors of a list were admitted in it; `admittedFirst` and
`admittedAhead` say which doors those are. -/
namespace Sys2Proof.Proofs
open Sys2Proof Sys2Proof.Machine

set_option Elab.async false

/-- What the admissions of the doors of `a` make of ADMISSION_DELAY of the HPU (R60). -/
structure DelayTold (h : HpuIx) (s : State) (a : List DoorIx) (t : State) : Prop where
  unasked : a = [] → t.cs.flow[h].delayAlarm = s.cs.flow[h].delayAlarm ∧ t.al = s.al
  tested : a ≠ [] → t.cs.flow[h].delayAlarm = admissionDelayed t h
  kept : s.cs.flow[h].delayAlarm = true → t.cs.flow[h].delayAlarm = true → t.al = s.al
  cleared : s.cs.flow[h].delayAlarm = true → t.cs.flow[h].delayAlarm = false → AlarmLaw s →
    Cleared t .ADMISSION_DELAY h.val
  raised : s.cs.flow[h].delayAlarm = false → t.cs.flow[h].delayAlarm = true → HasRoom s .ADMISSION_DELAY h.val →
    Standing t .ADMISSION_DELAY h.val
  only : OnlyAlarms s t [(.ADMISSION_DELAY, h.val)]

/-- A stretch of a pass of the HPU admitted the doors of `a`, in that order, and counted the overtakings `ov`. -/
structure Admits (h : HpuIx) (s : State) (a : List DoorIx) (ov : DoorIx → Nat) (t : State) : Prop where
  frame : ScheduleFrame s t
  ms : t.ms = s.ms
  nodup : a.Nodup
  ready : ∀ d ∈ a, entryIn s h .READY d = true
  admitted : ∀ d ∈ a, t.entry d = (s.entry d).map fun e => e.dispatched (doorDeadline s d e.direction) (dispatchWarn e)
  stays : ∀ d, d ∉ a → t.entry d = (s.entry d).map fun e => { e with overtaken := e.overtaken + ov d }
  moves : ∀ d ∈ a, ∀ e ∈ s.entry d, Pending t d (.MOVE e.direction (dispatchWarn e))
  orders : ∀ o : PendingOrder, o.door ∉ a → (o ∈ t.rc.orders ↔ o ∈ s.rc.orders)
  others : ∀ g : HpuIx, g ≠ h → t.cs.flow[g] = s.cs.flow[g]
  committed : t.cs.flow[h].committed = s.cs.flow[h].committed + (a.map s.draw).sum
  capacity : t.cs.flow[h].capacityE = s.cs.flow[h].capacityE
  bounded : a = [] ∨ t.cs.flow[h].committed ≤ s.cs.flow[h].capacityE
  delay : DelayTold h s a t

/-- Nothing overtaken. -/
def noneOvertaken (_ : DoorIx) : Nat := 0

section
variable {h : HpuIx} {s t : State} {a : List DoorIx} {ov : DoorIx → Nat} {d x head : DoorIx} {e : Entry}

theorem DelayTold.refl (h : HpuIx) (s : State) : DelayTold h s [] s where
  unasked _ := ⟨rfl, rfl⟩
  tested hne := absurd rfl hne
  kept _ _ := rfl
  cleared hwas his := absurd (hwas.symm.trans his) (by decide)
  raised hwas his := absurd (hwas.symm.trans his) (by decide)
  only := onlyAlarms_refl ..

theorem Admits.refl (h : HpuIx) (s : State) : Admits h s [] noneOvertaken s where
  frame := .refl s
  ms := rfl
  nodup := .nil
  ready := by simp
  admitted := by simp
  stays _ _ := by simp [noneOvertaken]
  moves := by simp
  orders _ _ := Iff.rfl
  others _ _ := rfl
  committed := by simp
  capacity := rfl
  bounded := .inl rfl
  delay := .refl h s

theorem onlyAlarms_evalDelay (h : HpuIx) (s : State) : OnlyAlarms s (evalDelay h s) [(.ADMISSION_DELAY, h.val)] := by
  unfold evalDelay
  split <;> split
  · exact onlyAlarms_refl ..
  · exact onlyAlarms_raiseAlarm _ _ (s.modFlow h fun f => { f with delayAlarm := true })
  · exact onlyAlarms_clearAlarm _ _ (s.modFlow h fun f => { f with delayAlarm := false })
  · exact onlyAlarms_refl ..

/-- R60: where the test keeps the flag it changes no alarm. -/
theorem evalDelay_al_of_eq (heq : s.cs.flow[h].delayAlarm = admissionDelayed s h) : (evalDelay h s).al = s.al := by
  unfold evalDelay
  rw [heq]
  cases admissionDelayed s h <;> rfl

theorem cleared_evalDelay (hwas : s.cs.flow[h].delayAlarm = true) (hnow : admissionDelayed s h = false) (hlaw : AlarmLaw s) :
    Cleared (evalDelay h s) .ADMISSION_DELAY h.val := by
  unfold evalDelay
  rw [hnow, hwas]
  exact cleared_clearAlarm (s := s.modFlow h fun f => { f with delayAlarm := false }) hlaw (by decide)

theorem standing_evalDelay (hwas : s.cs.flow[h].delayAlarm = false) (hnow : admissionDelayed s h = true)
    (hroom : HasRoom s .ADMISSION_DELAY h.val) : Standing (evalDelay h s) .ADMISSION_DELAY h.val := by
  unfold evalDelay
  rw [hnow, hwas]
  exact standing_raiseAlarm (s := s.modFlow h fun f => { f with delayAlarm := true }) hroom

/-- The state of an admission before the test of R60. -/
def beforeTest (d : DoorIx) (e : Entry) (s : State) : State :=
  queueOrder d (.MOVE e.direction (dispatchWarn e))
    ((s.setEntry d (e.dispatched (doorDeadline s d e.direction) (dispatchWarn e))).modFlow (s.hpuOf d)
      fun f => { f with committed := f.committed + s.draw d })

theorem admitDoor_eq_beforeTest (he : s.entry d = some e) : admitDoor d s = evalDelay (s.hpuOf d) (beforeTest d e s) :=
  admitDoor_eq he

theorem beforeTest_al (d : DoorIx) (e : Entry) (s : State) : (beforeTest d e s).al = s.al := rfl

theorem beforeTest_delayAlarm (d : DoorIx) (e : Entry) (s : State) (h : HpuIx) :
    (beforeTest d e s).cs.flow[h].delayAlarm = s.cs.flow[h].delayAlarm := by
  simp only [beforeTest, queueOrder_cs, State.modFlow_cs_flow, Fin.getElem_fin, getElem_upd]
  split
  · next heq => rw [← Fin.ext heq]; rfl
  · rfl

theorem admissionDelayed_beforeTest (he : s.entry d = some e) :
    admissionDelayed (beforeTest d e s) (s.hpuOf d) = admissionDelayed (admitDoor d s) (s.hpuOf d) := by
  rw [admitDoor_eq_beforeTest he]
  exact (admissionDelayed_congr (by rw [evalDelay_cs]) (ScheduleFrame.evalDelay ..).tables _).symm

theorem delayAlarm_admitDoor (he : s.entry d = some e) :
    (admitDoor d s).cs.flow[s.hpuOf d].delayAlarm = admissionDelayed (admitDoor d s) (s.hpuOf d) := by
  conv_lhs => rw [admitDoor_cs he]
  simp

/-- One more admission: the flag is tested again, and the condition follows it. -/
theorem DelayTold.dispatchOne (hd : DelayTold h s a t) (he : t.entry x = some e) (hx : t.hpuOf x = h) :
    DelayTold h s (a ++ [x]) (admitDoor x t) := by
  subst hx
  have hflag := delayAlarm_admitDoor he
  have hless := admissionDelayed_admitDoor he (t.hpuOf x)
  have htest := admissionDelayed_beforeTest he
  have hwas := beforeTest_delayAlarm x e t (t.hpuOf x)
  have hstep : OnlyAlarms t (admitDoor x t) [(.ADMISSION_DELAY, (t.hpuOf x).val)] := by
    rw [admitDoor_eq_beforeTest he]
    exact onlyAlarms_trans (onlyAlarms_of_records (congrArg Al.records (beforeTest_al x e t)) _) (onlyAlarms_evalDelay ..)
  have same (heq : t.cs.flow[t.hpuOf x].delayAlarm = (admitDoor x t).cs.flow[t.hpuOf x].delayAlarm) :
      (admitDoor x t).al = t.al := by
    rw [admitDoor_eq_beforeTest he, evalDelay_al_of_eq (by rw [hwas, heq, hflag, htest]), beforeTest_al]
  -- a flag that the admission raises was not tested before
  have first (hold : t.cs.flow[t.hpuOf x].delayAlarm = false) (hnew : (admitDoor x t).cs.flow[t.hpuOf x].delayAlarm = true) :
      a = [] := by
    by_contra hne
    have := hless (hflag.symm.trans hnew)
    rw [← hd.tested hne, hold] at this
    cases this
  refine ⟨fun hnil => by simp at hnil, fun _ => hflag, fun hs ht => ?_, fun hs ht hlaw => ?_, fun hs ht hroom => ?_,
    onlyAlarms_trans hd.only hstep⟩
  · cases hold : t.cs.flow[t.hpuOf x].delayAlarm with
    | true => rw [same (hold.trans ht.symm), hd.kept hs hold]
    | false =>
      have hnil := first hold ht
      rw [(hd.unasked hnil).1, hs] at hold
      cases hold
  · cases hold : t.cs.flow[t.hpuOf x].delayAlarm with
    | true =>
      have hlaw : AlarmLaw (beforeTest x e t) :=
        (alarmLaw_congr (by rw [beforeTest_al, hd.kept hs hold])).mpr hlaw
      rw [admitDoor_eq_beforeTest he]
      exact cleared_evalDelay (hwas.trans hold) (htest.trans (hflag.symm.trans ht)) hlaw
    | false => exact (cleared_congr (same (hold.trans ht.symm))).mpr (hd.cleared hs hold hlaw)
  · cases hold : t.cs.flow[t.hpuOf x].delayAlarm with
    | true => exact (standing_congr (same (hold.trans ht.symm))).mpr (hd.raised hs hold hroom)
    | false =>
      rw [admitDoor_eq_beforeTest he]
      refine standing_evalDelay (hwas.trans hold) (htest.trans (hflag.symm.trans ht)) ?_
      exact (hasRoom_congr (by rw [beforeTest_al, (hd.unasked (first hold ht)).2])).mpr hroom

/-- The pass leaves the claim of every entry: an entry that stays keeps all but its overtaken count. -/
theorem Admits.entry_isSome (ha : Admits h s a ov t) (d : DoorIx) : (t.entry d).isSome = (s.entry d).isSome := by
  by_cases hd : d ∈ a
  · rw [ha.admitted d hd, Option.isSome_map]
  · rw [ha.stays d hd, Option.isSome_map]

theorem hpuOf_congr (ht : t.tables = s.tables) (d : DoorIx) : t.hpuOf d = s.hpuOf d := by unfold State.hpuOf; rw [ht]
theorem draw_congr (ht : t.tables = s.tables) (d : DoorIx) : t.draw d = s.draw d := by unfold State.draw; rw [ht]
theorem doorDeadline_congr (ht : t.tables = s.tables) (d : DoorIx) (dir : Direction) :
    doorDeadline t d dir = doorDeadline s d dir := by
  unfold doorDeadline; rw [ht]

/-- One more admission. -/
theorem Admits.dispatchOne (ha : Admits h s a ov t) (hx : entryIn s h .READY x = true) (hxa : x ∉ a) (hover : ov x = 0)
    (hfits : t.cs.flow[h].committed + s.draw x ≤ s.cs.flow[h].capacityE) :
    Admits h s (a ++ [x]) ov (admitDoor x t) := by
  obtain ⟨e, hse, hph, hhpu⟩ := entry_of_entryIn hx
  have htables := ha.frame.tables
  have hthpu : t.hpuOf x = h := (hpuOf_congr htables x).trans hhpu
  have he : t.entry x = some e := by rw [ha.stays x hxa, hse, hover]; rfl
  have hcommitted : (admitDoor x t).cs.flow[h].committed = t.cs.flow[h].committed + s.draw x := by
    rw [admitDoor_cs he]
    simp [hthpu, draw_congr htables]
  refine
    { frame := ha.frame.trans (.admitDoor x t)
      ms := ?_, nodup := ?_, ready := ?_, admitted := ?_, stays := ?_, moves := ?_, orders := ?_, others := ?_
      committed := ?_, capacity := ?_, bounded := .inr ?_, delay := ha.delay.dispatchOne he hthpu }
  · rw [admitDoor_eq_beforeTest he, evalDelay_ms]
    exact ha.ms
  · exact List.nodup_append.mpr ⟨ha.nodup, by simp, by rintro d hd _ hx rfl; simp only [List.mem_singleton] at hx; exact hxa (hx ▸ hd)⟩
  · intro d hd
    rcases List.mem_append.mp hd with hd | hd
    · exact ha.ready d hd
    · rw [List.mem_singleton.mp hd]; exact hx
  · intro d hd
    rw [admitDoor_entry he]
    split
    · next hxd => subst hxd; rw [hse, doorDeadline_congr htables]; rfl
    · next hxd =>
      rcases List.mem_append.mp hd with hd | hd
      · exact ha.admitted d hd
      · exact absurd (List.mem_singleton.mp hd).symm hxd
  · intro d hd
    rw [List.mem_append, not_or, List.mem_singleton] at hd
    rw [admitDoor_entry he, if_neg (fun hxd => hd.2 hxd.symm), ha.stays d hd.1]
  · intro d hd y hy
    unfold Pending
    rw [admitDoor_orders he]
    rcases List.mem_append.mp hd with hd | hd
    · exact (mem_queued_of_ne fun hdx : d = x => hxa (hdx ▸ hd)).mpr (ha.moves d hd y hy)
    · obtain rfl := List.mem_singleton.mp hd
      obtain rfl : e = y := Option.some_injective _ (hse.symm.trans hy)
      exact mem_queued_self ..
  · intro o ho
    rw [List.mem_append, not_or, List.mem_singleton] at ho
    rw [admitDoor_orders he, mem_queued_of_ne ho.2]
    exact ha.orders o ho.1
  · intro g hg
    rw [admitDoor_cs he]
    have hne : h.val ≠ g.val := fun hv => hg (Fin.ext hv.symm)
    simp only [hthpu, Fin.getElem_fin, getElem_upd, if_neg hne]
    exact ha.others g hg
  · rw [hcommitted, ha.committed, List.map_append, List.sum_append]
    simp [Nat.add_assoc]
  · rw [admitDoor_cs he]
    simpa [hthpu] using ha.capacity
  · rw [hcommitted]; exact hfits

theorem overtake_eq (he : s.entry head = some e) :
    overtake head s = s.setEntry head { e with overtaken := satInc overtakenCap e.overtaken } := by
  unfold overtake; rw [he]

/-- One more overtaking of a head that may still be passed. -/
theorem Admits.overtake (ha : Admits h s a ov t) (hhead : head ∉ a) (hcap : overtakenOf t head < overtakenCap) :
    Admits h s a (fun d => if d = head then ov d + 1 else ov d) (overtake head t) := by
  cases hse : s.entry head with
  | none =>
    have hte : t.entry head = none := by rw [ha.stays head hhead, hse]; rfl
    have hself : Machine.overtake head t = t := by unfold Machine.overtake; rw [hte]
    rw [hself]
    refine { ha with stays := fun d hd => ?_ }
    split
    · next hdh => subst hdh; rw [hse, hte]; rfl
    · exact ha.stays d hd
  | some e =>
    have hte : t.entry head = some { e with overtaken := e.overtaken + ov head } := by
      rw [ha.stays head hhead, hse]; rfl
    have hlow : e.overtaken + ov head < overtakenCap := by
      unfold overtakenOf at hcap; rw [hte] at hcap; exact hcap
    have hnew : Machine.overtake head t = t.setEntry head { e with overtaken := e.overtaken + (ov head + 1) } := by
      rw [overtake_eq hte]
      have : satInc overtakenCap (e.overtaken + ov head) = e.overtaken + (ov head + 1) := by
        unfold satInc
        omega
      simp only [this]
    rw [hnew]
    have hentry (d : DoorIx) : (t.setEntry head { e with overtaken := e.overtaken + (ov head + 1) }).entry d
        = if head = d then some { e with overtaken := e.overtaken + (ov head + 1) } else t.entry d := entry_setEntry ..
    refine { ha with frame := ha.frame.trans (.setEntry ..), admitted := fun d hd => ?_, stays := fun d hd => ?_, delay := ?_ }
    · rw [hentry, if_neg (fun hhd : head = d => hhead (hhd ▸ hd))]; exact ha.admitted d hd
    · rw [hentry]
      split
      · next hhd => subst hhd; rw [hse, if_pos rfl]; rfl
      · next hhd => rw [if_neg (fun hdh => hhd hdh.symm)]; exact ha.stays d hd
    · have hsame : admissionDelayed (t.setEntry head { e with overtaken := e.overtaken + (ov head + 1) }) h
          = admissionDelayed t h := by
        unfold admissionDelayed
        refine congrArg allDoors.any (funext fun d => ?_)
        by_cases hhd : head = d
        · subst hhd
          unfold waitsTooLong
          rw [hentry, if_pos rfl, hte]
          rfl
        · exact waitsTooLong_congr (by rw [hentry, if_neg hhd]) rfl
      exact { ha.delay with tested := fun hne => (ha.delay.tested hne).trans hsame.symm }

end

/-! ### Which doors a pass admits -/

/-- R56: the READY entries that fit one after another, from the first on, with `c` committed. -/
def admittedFirst (limit draw : DoorIx → Nat) : List DoorIx → Nat → List DoorIx
  | [], _ => []
  | x :: rest, c => if c + draw x ≤ limit x then x :: admittedFirst limit draw rest (c + draw x) else []

/-- R56 step 2, R57: the entries that fit behind a head that does not, with `c` committed and `k` overtakings counted. -/
def admittedAhead (limit draw : DoorIx → Nat) : List DoorIx → Nat → Nat → List DoorIx
  | [], _, _ => []
  | x :: rest, c, k =>
    if overtakenCap ≤ k then []
    else if c + draw x ≤ limit x then x :: admittedAhead limit draw rest (c + draw x) (k + 1)
    else admittedAhead limit draw rest c k

section
variable {limit draw : DoorIx → Nat} {l : List DoorIx}

theorem admittedFirst_prefix (l : List DoorIx) (c : Nat) : admittedFirst limit draw l c <+: l := by
  induction l generalizing c with
  | nil => exact List.prefix_refl _
  | cons x rest ih =>
    unfold admittedFirst
    split
    · exact List.prefix_cons_inj x |>.mpr (ih _)
    · exact List.nil_prefix

theorem admittedAhead_sublist (l : List DoorIx) (c k : Nat) : (admittedAhead limit draw l c k).Sublist l := by
  induction l generalizing c k with
  | nil => exact .refl _
  | cons x rest ih =>
    unfold admittedAhead
    split
    · exact List.nil_sublist _
    split
    · exact (ih _ _).cons_cons x
    · exact (ih _ _).cons x

theorem before_irrefl {before : DoorIx → DoorIx → Bool} (hasymm : ∀ a b, before a b = true → before b a = false)
    (x : DoorIx) : before x x = false := by
  cases hb : before x x with
  | false => rfl
  | true => exact absurd (hb.symm.trans (hasymm x x hb)) (by decide)

/-- Every admitted entry of the first stretch fits with the draws admitted before it. -/
theorem admittedFirst_fits {before : DoorIx → DoorIx → Bool} (hasymm : ∀ a b, before a b = true → before b a = false)
    {l : List DoorIx} (hl : l.Pairwise fun a b => before a b = true) (c : Nat) {x : DoorIx} (hx : x ∈ admittedFirst limit draw l c) :
    c + (((admittedFirst limit draw l c).filter fun y => before y x).map draw).sum + draw x ≤ limit x := by
  induction l generalizing c with
  | nil => simp [admittedFirst] at hx
  | cons y rest ih =>
    obtain ⟨hy, hrest⟩ := List.pairwise_cons.mp hl
    unfold admittedFirst at hx ⊢
    split at hx
    · next hfits =>
      rw [if_pos hfits]
      rcases List.mem_cons.mp hx with rfl | hx
      · have hself := before_irrefl hasymm x
        have hnone : (admittedFirst limit draw rest (c + draw x)).filter (fun z => before z x) = [] := by
          refine List.filter_eq_nil_iff.mpr fun z hz => ?_
          rw [hasymm x z (hy z ((admittedFirst_prefix ..).subset hz))]
          exact Bool.false_ne_true
        rw [List.filter_cons_of_neg (by simp [hself]), hnone]
        simpa using hfits
      · have hyx := hy x ((admittedFirst_prefix ..).subset hx)
        have := ih hrest (c + draw y) hx
        rw [List.filter_cons_of_pos (p := fun z => before z x) hyx, List.map_cons, List.sum_cons]
        omega
    · cases hx

/-- The entry behind the first stretch does not fit. -/
theorem admittedFirst_stops {l : List DoorIx} {c : Nat} {x : DoorIx} {rest : List DoorIx}
    (hl : l = admittedFirst limit draw l c ++ x :: rest) :
    ¬ c + ((admittedFirst limit draw l c).map draw).sum + draw x ≤ limit x := by
  induction l generalizing c with
  | nil => simp [admittedFirst] at hl
  | cons y tail ih =>
    unfold admittedFirst at hl ⊢
    split at hl
    · next hfits =>
      rw [if_pos hfits]
      simp only [List.cons_append, List.cons.injEq, true_and] at hl
      have := ih hl
      simp only [List.map_cons, List.sum_cons]
      omega
    · next hfits =>
      rw [if_neg hfits]
      simp only [List.nil_append, List.cons.injEq] at hl
      obtain ⟨rfl, -⟩ := hl
      simpa using hfits

/-- R57: an examined entry is admitted exactly where it fits in its turn and the head may still be overtaken. -/
theorem mem_admittedAhead {before : DoorIx → DoorIx → Bool} (hasymm : ∀ a b, before a b = true → before b a = false)
    {l : List DoorIx} (hl : l.Pairwise fun a b => before a b = true) (c k : Nat) {x : DoorIx} (hx : x ∈ l) :
    x ∈ admittedAhead limit draw l c k ↔
      c + (((admittedAhead limit draw l c k).filter fun y => before y x).map draw).sum + draw x ≤ limit x
      ∧ k + ((admittedAhead limit draw l c k).filter fun y => before y x).length < overtakenCap := by
  have irrefl := before_irrefl hasymm
  induction l generalizing c k with
  | nil => cases hx
  | cons y rest ih =>
    obtain ⟨hy, hrest⟩ := List.pairwise_cons.mp hl
    have later (c k : Nat) : (admittedAhead limit draw rest c k).filter (fun z => before z y) = [] := by
      refine List.filter_eq_nil_iff.mpr fun z hz => ?_
      rw [hasymm y z (hy z ((admittedAhead_sublist ..).subset hz))]
      exact Bool.false_ne_true
    have notlater (c k : Nat) : y ∉ admittedAhead limit draw rest c k := fun hz => by
      have := hy y ((admittedAhead_sublist ..).subset hz)
      rw [irrefl] at this; cases this
    unfold admittedAhead
    split
    · next hcap => simp only [List.not_mem_nil, List.filter_nil, List.length_nil, false_iff, not_and]; omega
    split
    · next hcap hfits =>
      rcases List.mem_cons.mp hx with rfl | hx
      · rw [List.filter_cons_of_neg (by simp [irrefl]), later]
        simp only [List.mem_cons, true_or, List.map_nil, List.sum_nil, List.length_nil, Nat.add_zero, true_iff]
        exact ⟨hfits, by omega⟩
      · have hyx := hy x hx
        have hne : x ≠ y := fun he => by rw [he, irrefl] at hyx; cases hyx
        rw [List.filter_cons_of_pos (p := fun z => before z x) hyx, List.mem_cons, or_iff_right hne]
        refine (ih hrest (c + draw y) (k + 1) hx).trans ?_
        simp only [List.map_cons, List.sum_cons, List.length_cons]
        constructor <;> (rintro ⟨h1, h2⟩; constructor <;> omega)
    · next hcap hfits =>
      rcases List.mem_cons.mp hx with rfl | hx
      · rw [later]
        simp only [List.map_nil, List.sum_nil, Nat.add_zero, iff_false_intro (notlater c k), false_iff, not_and]
        exact fun hf => absurd hf hfits
      · exact ih hrest c k hx

theorem length_admittedAhead_le (l : List DoorIx) (c : Nat) {k : Nat} (hk : k ≤ overtakenCap) :
    k + (admittedAhead limit draw l c k).length ≤ overtakenCap := by
  induction l generalizing c k with
  | nil => simpa [admittedAhead] using hk
  | cons x rest ih =>
    unfold admittedAhead
    split
    · simpa using hk
    split
    · next hcap _ =>
      have := ih (c + draw x) (k := k + 1) (by omega)
      simp only [List.length_cons]
      omega
    · exact ih c hk

end

/-! ### The walk -/

section
variable {h : HpuIx} {s t : State} {a l rest : List DoorIx} {ov : DoorIx → Nat} {x head : DoorIx} {c k : Nat}

/-- R53: the admission limit of a door's entry on the HPU. -/
def limitOf (s : State) (h : HpuIx) (d : DoorIx) : Nat := admissionLimit s h (entryClass s d)

theorem limitOf_le (s : State) (h : HpuIx) (d : DoorIx) : limitOf s h d ≤ s.cs.flow[h].capacityE := by
  unfold limitOf admissionLimit
  simp only
  split
  · exact Nat.le_refl _
  split
  · exact Nat.sub_le ..
  · exact Nat.zero_le _

theorem Admits.entryClass (ha : Admits h s a ov t) (d : DoorIx) : Machine.entryClass t d = Machine.entryClass s d := by
  unfold Machine.entryClass
  by_cases hd : d ∈ a
  · rw [ha.admitted d hd]; cases s.entry d <;> rfl
  · rw [ha.stays d hd]; cases s.entry d <;> rfl

theorem Admits.limitOf (ha : Admits h s a ov t) (d : DoorIx) : limitOf t h d = Proofs.limitOf s h d := by
  unfold Proofs.limitOf admissionLimit isDirectLane
  simp only
  rw [ha.entryClass, ha.capacity, ha.frame.tables]

theorem Admits.entryFits (ha : Admits h s a ov t) (d : DoorIx) :
    entryFits t h d = decide (s.cs.flow[h].committed + (a.map s.draw).sum + s.draw d ≤ Proofs.limitOf s h d) := by
  unfold Machine.entryFits fits
  rw [draw_congr ha.frame.tables, ha.committed]
  exact congrArg (fun n => decide (_ ≤ n)) (ha.limitOf d)

theorem Admits.overtakenOf (ha : Admits h s a ov t) (hd : head ∉ a) (hs : (s.entry head).isSome = true) :
    overtakenOf t head = Machine.overtakenOf s head + ov head := by
  obtain ⟨e, he⟩ := Option.isSome_iff_exists.mp hs
  unfold Machine.overtakenOf
  rw [ha.stays head hd, he]
  rfl

/-- The overtakings of one head. -/
def overtakings (head : DoorIx) (n : Nat) (d : DoorIx) : Nat := if d = head then n else 0

theorem sum_draws_append (a b : List DoorIx) (f : DoorIx → Nat) : ((a ++ b).map f).sum = (a.map f).sum + (b.map f).sum := by
  rw [List.map_append, List.sum_append]

/-- R57: the look past a head admits the entries of `admittedAhead`, and counts one overtaking for each. -/
theorem lookAhead_admits (ha : Admits h s a (overtakings head k) t) (hhead : head ∉ a) (hs : (s.entry head).isSome = true)
    (hnodup : l.Nodup) (hready : ∀ d ∈ l, entryIn s h .READY d = true) (hdisj : ∀ d ∈ l, d ∉ a) (hnot : head ∉ l) :
    let q := admittedAhead (limitOf s h) s.draw l (s.cs.flow[h].committed + (a.map s.draw).sum) (overtakenOf s head + k)
    Admits h s (a ++ q) (overtakings head (k + q.length)) (lookAhead h head l t) := by
  induction l generalizing t a k with
  | nil => simpa [admittedAhead, lookAhead] using ha
  | cons x rest ih =>
    obtain ⟨hx, hrest⟩ := List.nodup_cons.mp hnodup
    have hk : overtakenOf t head = overtakenOf s head + k := by
      rw [ha.overtakenOf hhead hs]; simp [overtakings]
    have hfit := ha.entryFits x
    simp only [admittedAhead, lookAhead]
    rw [hk]
    split
    · simpa using ha
    · next hcap =>
      rw [hfit]
      simp only [decide_eq_true_eq]
      split
      · next hfits =>
        have hxhead : x ≠ head := fun e => hnot (by simp [e])
        have hxa := hdisj x (by simp)
        have hone := ha.dispatchOne (hready x (by simp)) hxa (by simp [overtakings, hxhead])
          (by rw [ha.committed]; exact hfits.trans (limitOf_le ..))
        have hheadx : head ∉ a ++ [x] := by simp [hhead, hxhead.symm]
        have htwo := hone.overtake hheadx (by
          rw [hone.overtakenOf hheadx hs]; simp only [overtakings, if_true]; omega)
        have hover : (fun d => if d = head then overtakings head k d + 1 else overtakings head k d) = overtakings head (k + 1) := by
          funext d; unfold overtakings; split <;> rfl
        rw [hover] at htwo
        have hmore := ih htwo hheadx hrest (fun d hd => hready d (by simp [hd]))
          (fun d hd => by
            simp only [List.mem_append, List.mem_singleton, not_or]
            exact ⟨hdisj d (by simp [hd]), fun e => hx (e ▸ hd)⟩)
          (fun hm => hnot (by simp [hm]))
        have hsum : s.cs.flow[h].committed + ((a ++ [x]).map s.draw).sum = s.cs.flow[h].committed + (a.map s.draw).sum + s.draw x := by
          rw [sum_draws_append]; simp [Nat.add_assoc]
        rw [hsum] at hmore
        simpa [Nat.add_assoc, Nat.add_comm 1] using hmore
      · exact ih ha hhead hrest (fun d hd => hready d (by simp [hd])) (fun d hd => hdisj d (by simp [hd]))
          (fun hm => hnot (by simp [hm]))

/-- R56: the walk admits the entries of `admittedFirst`; where one is left it looks past the first of those. -/
theorem passWalk_eq (hz : Admits h s a noneOvertaken t) (hnodup : l.Nodup) (hready : ∀ d ∈ l, entryIn s h .READY d = true)
    (hdisj : ∀ d ∈ l, d ∉ a) :
    let p := admittedFirst (limitOf s h) s.draw l (s.cs.flow[h].committed + (a.map s.draw).sum)
    ∃ u : State, Admits h s (a ++ p) noneOvertaken u ∧ passWalk h l t = match l.drop p.length with
      | [] => u
      | head :: rest => lookAhead h head
          ((rest.filter fun d => decide (Machine.entryClass s d = Machine.entryClass s head)).take s.tables.system.lookAhead) u := by
  induction l generalizing t a with
  | nil => exact ⟨t, by simpa [admittedFirst] using hz, rfl⟩
  | cons x rest ih =>
    obtain ⟨hx, hrest⟩ := List.nodup_cons.mp hnodup
    have hfit := hz.entryFits x
    simp only [admittedFirst, passWalk]
    rw [hfit]
    simp only [decide_eq_true_eq]
    split
    · next hfits =>
      have hxa := hdisj x (by simp)
      have hone := hz.dispatchOne (hready x (by simp)) hxa rfl (by rw [hz.committed]; exact hfits.trans (limitOf_le ..))
      obtain ⟨u, hu, hwalk⟩ := ih hone hrest (fun d hd => hready d (by simp [hd]))
        (fun d hd => by
          simp only [List.mem_append, List.mem_singleton, not_or]
          exact ⟨hdisj d (by simp [hd]), fun e => hx (e ▸ hd)⟩)
      have hsum : s.cs.flow[h].committed + ((a ++ [x]).map s.draw).sum = s.cs.flow[h].committed + (a.map s.draw).sum + s.draw x := by
        rw [sum_draws_append]; simp [Nat.add_assoc]
      rw [hsum] at hu hwalk
      exact ⟨u, by simpa using hu, by simpa using hwalk⟩
    · refine ⟨t, by simpa using hz, ?_⟩
      simp only [List.length_nil, List.drop_zero, hz.frame.tables, hz.entryClass]

end

end Sys2Proof.Proofs
end

section
/-! ## The admission pass (R55 to R60)

What a whole pass of an HPU leaves: the claims, the schedule with the entries of `passFirst` and `passBehind` dispatched,
the overtaken count of the head that stays. -/
namespace Sys2Proof.Proofs
open Sys2Proof Sys2Proof.Machine

set_option Elab.async false

/-- The entries a pass admits before the first that does not fit. -/
def passFirst (s : State) (h : HpuIx) : List DoorIx :=
  admittedFirst (limitOf s h) s.draw (readyOn s h) s.cs.flow[h].committed

/-- The READY entries of a pass from the first that does not fit on. -/
def passLeft (s : State) (h : HpuIx) : List DoorIx := (readyOn s h).drop (passFirst s h).length

/-- The entries a pass examines behind the first that does not fit. -/
def passExamined (s : State) (head : DoorIx) (rest : List DoorIx) : List DoorIx :=
  (rest.filter fun d => decide (entryClass s d = entryClass s head)).take s.tables.system.lookAhead

/-- The entries a pass admits behind the first that does not fit. -/
def passBehind (s : State) (h : HpuIx) : List DoorIx :=
  match passLeft s h with
  | [] => []
  | head :: rest => admittedAhead (limitOf s h) s.draw (passExamined s head rest)
      (s.cs.flow[h].committed + ((passFirst s h).map s.draw).sum) (overtakenOf s head)

/-- The overtakings a pass counts. -/
def passOvertakings (s : State) (h : HpuIx) : DoorIx → Nat :=
  match passLeft s h with
  | [] => noneOvertaken
  | head :: _ => overtakings head (passBehind s h).length

section
variable {s t : State} {h g : HpuIx} {d x head : DoorIx} {rest : List DoorIx}

theorem readyOn_eq (s : State) (h : HpuIx) : readyOn s h = passFirst s h ++ passLeft s h := by
  obtain ⟨l, hl⟩ := admittedFirst_prefix (limit := limitOf s h) (draw := s.draw) (readyOn s h) s.cs.flow[h].committed
  have hleft : passLeft s h = l := (congrArg (List.drop (passFirst s h).length) hl.symm).trans List.drop_left
  rw [hleft]
  exact hl.symm

theorem mem_passExamined_rest (hx : x ∈ passExamined s head rest) : x ∈ rest :=
  (List.mem_filter.mp (List.mem_of_mem_take hx)).1

/-- R55 to R58: what one admission pass does. -/
theorem pass_admits (h : HpuIx) (s : State) :
    Admits h s (passFirst s h ++ passBehind s h) (passOvertakings s h) (pass h s) := by
  have hready : ∀ d ∈ readyOn s h, entryIn s h .READY d = true := fun d hd => mem_readyOn.mp hd
  have hnodup := nodup_readyOn s h
  obtain ⟨u, hu, hwalk⟩ := passWalk_eq (Admits.refl h s) hnodup hready (by simp)
  simp only [List.map_nil, List.sum_nil, Nat.add_zero, List.nil_append] at hu hwalk
  have hpass : pass h s = match passLeft s h with
      | [] => u
      | head :: rest => lookAhead h head (passExamined s head rest) u := hwalk
  unfold passBehind passOvertakings
  cases hleft : passLeft s h with
  | nil =>
    rw [hpass, hleft]
    simpa [passFirst] using hu
  | cons head rest =>
    rw [hpass, hleft]
    have hall := readyOn_eq s h
    rw [hleft] at hall
    rw [hall, List.nodup_append] at hnodup
    obtain ⟨-, hbehind, hapart⟩ := hnodup
    obtain ⟨hhead, hrest⟩ := List.nodup_cons.mp hbehind
    have hin (x : DoorIx) (hx : x ∈ head :: rest) : entryIn s h .READY x = true := by
      refine hready x ?_
      rw [hall]
      exact List.mem_append_right _ hx
    have hzero : noneOvertaken = overtakings head 0 := by funext d; unfold noneOvertaken overtakings; split <;> rfl
    rw [hzero] at hu
    have hsub : (passExamined s head rest).Sublist rest := (List.take_sublist ..).trans List.filter_sublist
    obtain ⟨e, he, -⟩ := entry_of_entryIn (hin head (by simp))
    have hlook := lookAhead_admits (l := passExamined s head rest) hu (fun hm => hapart _ hm head (by simp) rfl) (by simp [he])
      (hrest.sublist hsub) (fun d hd => hin d (by simp [hsub.subset hd]))
      (fun d hd hm => hapart _ hm d (by simp [hsub.subset hd]) rfl) (fun hm => hhead (hsub.subset hm))
    simpa [passBehind, hleft, passFirst] using hlook

theorem Admits.claimOf {a : List DoorIx} {ov : DoorIx → Nat} (ha : Admits h s a ov t) (d : DoorIx) :
    claimOf t d = Machine.claimOf s d := by
  unfold Machine.claimOf
  by_cases hd : d ∈ a
  · rw [ha.admitted d hd, Option.map_map]; rfl
  · rw [ha.stays d hd, Option.map_map]; rfl

/-- R58: an admission pass leaves every claim. -/
theorem claimOf_pass (h : HpuIx) (s : State) (d : DoorIx) : claimOf (pass h s) d = claimOf s d := (pass_admits h s).claimOf d

theorem ms_pass (h : HpuIx) (s : State) : (pass h s).ms = s.ms := (pass_admits h s).ms

theorem schedBefore_of_claims (hc : ∀ d, claimOf t d = claimOf s d) (a b : DoorIx) : schedBefore t a b = schedBefore s a b := by
  have read (u : State) (d : DoorIx) : (claimOf u d).map (fun c => (c.2.1, c.2.2.2.2.2)) = (u.entry d).map fun e => (e.cls, e.arrival) := by
    unfold claimOf; cases u.entry d <;> rfl
  have ha := (read t a).symm.trans ((congrArg _ (hc a)).trans (read s a))
  have hb := (read t b).symm.trans ((congrArg _ (hc b)).trans (read s b))
  unfold schedBefore
  cases hta : t.entry a <;> cases hsa : s.entry a <;> cases htb : t.entry b <;> cases hsb : s.entry b <;>
    simp_all [Entry.before]

theorem precedes_iff {hx : entryIn s h .READY x = true} {hd : entryIn s h .READY d = true} :
    Precedes s x d ↔ schedBefore s x d = true := by
  obtain ⟨e, he, -⟩ := entry_of_entryIn hx
  obtain ⟨f, hf, -⟩ := entry_of_entryIn hd
  rw [schedBefore_of_entries he hf, before_iff]
  unfold Precedes entryClass arrivalNo arrivalOf
  rw [he, hf]
  rfl

theorem phaseOf_admitted {a : List DoorIx} {ov : DoorIx → Nat} (ha : Admits h s a ov t) (hd : d ∈ a) :
    phaseOf t d = some .MOVING := by
  obtain ⟨e, he, -⟩ := entry_of_entryIn (ha.ready d hd)
  unfold phaseOf
  rw [ha.admitted d hd, he]
  rfl

theorem phaseOf_stays {a : List DoorIx} {ov : DoorIx → Nat} (ha : Admits h s a ov t) (hd : d ∉ a) :
    phaseOf t d = phaseOf s d := by
  unfold phaseOf
  rw [ha.stays d hd, Option.map_map]
  rfl

theorem admittedIn_iff {a : List DoorIx} {ov : DoorIx → Nat} (ha : Admits h s a ov t) : AdmittedIn s t h d ↔ d ∈ a := by
  constructor
  · rintro ⟨hr, hp⟩
    by_contra hd
    obtain ⟨e, he, hph, -⟩ := entry_of_entryIn hr
    rw [phaseOf_stays ha hd, phaseOf, he] at hp
    simp [hph] at hp
  · intro hd
    exact ⟨ha.ready d hd, phaseOf_admitted ha hd⟩

theorem readyOn_stays {a : List DoorIx} {ov : DoorIx → Nat} (ha : Admits h s a ov t) :
    ReadyOn t h d ↔ ReadyOn s h d ∧ d ∉ a := by
  constructor
  · intro hr
    have hd : d ∉ a := fun hd => by
      obtain ⟨e, he, hph, -⟩ := entry_of_entryIn hr
      have := phaseOf_admitted ha hd
      rw [phaseOf, he] at this
      simp [hph] at this
    refine ⟨?_, hd⟩
    obtain ⟨e, he, hph, hh⟩ := entry_of_entryIn hr
    rw [ha.stays d hd] at he
    obtain ⟨f, hf, rfl⟩ := Option.map_eq_some_iff.mp he
    unfold ReadyOn
    rw [entryIn_of_entry hf, ← hpuOf_congr ha.frame.tables d, hh]
    simpa using hph
  · rintro ⟨hr, hd⟩
    obtain ⟨e, he, hph, hh⟩ := entry_of_entryIn hr
    unfold ReadyOn
    rw [entryIn_of_entry (by rw [ha.stays d hd, he]; rfl), hpuOf_congr ha.frame.tables d, hh]
    simpa using hph

/-- The sum over the doors of a list, in whatever order. -/
theorem sum_filter_eq {a : List DoorIx} {p : DoorIx → Bool} {f : DoorIx → Nat} (ha : a.Nodup) (hp : ∀ d, p d = true ↔ d ∈ a) :
    ((allDoors.filter p).map f).sum = (a.map f).sum := by
  refine ((List.perm_ext_iff_of_nodup (nodup_allDoors.filter _) ha).mpr fun d => ?_).map f |>.sum_eq
  simp [mem_allDoors, hp]

theorem length_filter_eq {a : List DoorIx} {p : DoorIx → Bool} (ha : a.Nodup) (hp : ∀ d, p d = true ↔ d ∈ a) :
    (allDoors.filter p).length = a.length := by
  refine ((List.perm_ext_iff_of_nodup (nodup_allDoors.filter _) ha).mpr fun d => ?_).length_eq
  simp [mem_allDoors, hp]


/-- In a sorted list the first `n` are those with fewer than `n` before them. -/
theorem mem_take_iff {before : DoorIx → DoorIx → Bool} (hasymm : ∀ a b, before a b = true → before b a = false)
    {l : List DoorIx} (hl : l.Pairwise fun a b => before a b = true) (n : Nat) :
    x ∈ l.take n ↔ x ∈ l ∧ (l.filter fun y => before y x).length < n := by
  have irrefl := before_irrefl hasymm
  induction l generalizing n with
  | nil => simp
  | cons y rest ih =>
    obtain ⟨hy, hrest⟩ := List.pairwise_cons.mp hl
    cases n with
    | zero => simp
    | succ n =>
      rw [List.take_succ_cons, List.mem_cons, List.mem_cons]
      by_cases hxy : x = y
      · subst hxy
        have hnone : rest.filter (fun z => before z x) = [] := by
          refine List.filter_eq_nil_iff.mpr fun z hz => ?_
          rw [hasymm x z (hy z hz)]
          exact Bool.false_ne_true
        rw [List.filter_cons_of_neg (by simp [irrefl]), hnone]
        simp
      · rw [or_iff_right hxy, or_iff_right hxy]
        refine (ih hrest n).trans (and_congr_right fun hx => ?_)
        rw [List.filter_cons_of_pos (p := fun z => before z x) (hy x hx), List.length_cons]
        exact Nat.succ_lt_succ_iff.symm

theorem readyOn_sorted_left (hs : DistinctArrivals s) (hleft : passLeft s h = head :: rest) :
    (passFirst s h ++ head :: rest).Pairwise fun a b => schedBefore s a b = true := by
  have := readyOn_sorted (h := h) hs
  rwa [readyOn_eq, hleft] at this

theorem passBehind_cons (hleft : passLeft s h = head :: rest) :
    passBehind s h = admittedAhead (limitOf s h) s.draw (passExamined s head rest)
      (s.cs.flow[h].committed + ((passFirst s h).map s.draw).sum) (overtakenOf s head) := by
  unfold passBehind
  rw [hleft]

theorem mem_rest_of_passBehind (hleft : passLeft s h = head :: rest) (hx : x ∈ passBehind s h) : x ∈ rest := by
  rw [passBehind_cons hleft] at hx
  exact mem_passExamined_rest ((admittedAhead_sublist ..).subset hx)

theorem before_head (hs : DistinctArrivals s) (hleft : passLeft s h = head :: rest) (hx : x ∈ passFirst s h) :
    schedBefore s x head = true :=
  (List.pairwise_append.mp (readyOn_sorted_left hs hleft)).2.2 x hx head (by simp)

theorem head_before (hs : DistinctArrivals s) (hleft : passLeft s h = head :: rest) (hx : x ∈ rest) :
    schedBefore s head x = true :=
  (List.pairwise_cons.mp (List.pairwise_append.mp (readyOn_sorted_left hs hleft)).2.1).1 x hx

/-- The head that a pass leaves READY is the first entry that did not fit. -/
theorem headOn_pass (hs : DistinctArrivals s) (hd : HeadOn (pass h s) h d) : ∃ rest, passLeft s h = d :: rest := by
  obtain ⟨hready, hfirst⟩ := hd
  have ha := pass_admits h s
  obtain ⟨hsd, hda⟩ := (readyOn_stays ha).mp hready
  have hmem := mem_readyOn.mpr hsd
  rw [readyOn_eq, List.mem_append] at hmem
  rw [List.mem_append, not_or] at hda
  have hleftmem := hmem.resolve_left hda.1
  cases hleft : passLeft s h with
  | nil => rw [hleft] at hleftmem; cases hleftmem
  | cons head rest =>
    refine ⟨rest, ?_⟩
    by_cases hdh : d = head
    · rw [hdh]
    · exfalso
      rw [hleft] at hleftmem
      have hdrest := (List.mem_cons.mp hleftmem).resolve_left hdh
      have hbefore := head_before hs hleft hdrest
      have hsorted := readyOn_sorted_left hs hleft
      have hheadmem : head ∈ readyOn s h := by rw [readyOn_eq, hleft]; simp
      have hheadA : head ∉ passFirst s h ++ passBehind s h := by
        rw [List.mem_append, not_or]
        constructor
        · intro hm
          have := before_head hs hleft hm
          rw [schedBefore_asymm this] at this
          cases this
        · intro hm
          have := head_before hs hleft (mem_rest_of_passBehind hleft hm)
          rw [schedBefore_asymm this] at this
          cases this
      have := hfirst head ((readyOn_stays ha).mpr ⟨mem_readyOn.mp hheadmem, hheadA⟩) (fun e => hdh e.symm)
      rw [schedBefore_of_claims (claimOf_pass h s), schedBefore_asymm hbefore] at this
      cases this

theorem passFirst_ready (hx : x ∈ passFirst s h) : entryIn s h .READY x = true :=
  (pass_admits h s).ready x (List.mem_append_left _ hx)

theorem passBehind_ready (hx : x ∈ passBehind s h) : entryIn s h .READY x = true :=
  (pass_admits h s).ready x (List.mem_append_right _ hx)

/-- R53, R56: an entry fits in its turn with the draws of the admitted entries that stand before it. -/
theorem fitsInTurn_iff (hx : ReadyOn s h x) : FitsInTurn s (pass h s) h x ↔
    s.cs.flow[h].committed + (((passFirst s h).filter fun y => schedBefore s y x).map s.draw).sum
      + (((passBehind s h).filter fun y => schedBefore s y x).map s.draw).sum + s.draw x ≤ limitOf s h x := by
  have ha := pass_admits h s
  have hsum : ((allDoors.filter fun y => decide (AdmittedIn s (pass h s) h y ∧ Precedes s y x)).map s.draw).sum
      = (((passFirst s h ++ passBehind s h).filter fun y => schedBefore s y x).map s.draw).sum := by
    refine sum_filter_eq (ha.nodup.filter _) fun y => ?_
    rw [decide_eq_true_eq, admittedIn_iff ha, List.mem_filter]
    exact and_congr_right fun hy => precedes_iff (h := h) (hx := ha.ready y hy) (hd := hx)
  unfold FitsInTurn
  rw [hsum, List.filter_append, sum_draws_append, ← Nat.add_assoc]
  rfl

theorem filter_passFirst_of_before (hs : DistinctArrivals s) (hleft : passLeft s h = head :: rest)
    (hx : x = head ∨ x ∈ rest) : (passFirst s h).filter (fun y => schedBefore s y x) = passFirst s h := by
  refine List.filter_eq_self.mpr fun y hy => ?_
  refine (List.pairwise_append.mp (readyOn_sorted_left hs hleft)).2.2 y hy x ?_
  simpa using hx

theorem filter_passBehind_head (hs : DistinctArrivals s) (hleft : passLeft s h = head :: rest) :
    (passBehind s h).filter (fun y => schedBefore s y head) = [] := by
  refine List.filter_eq_nil_iff.mpr fun y hy => ?_
  rw [schedBefore_asymm (head_before hs hleft (mem_rest_of_passBehind hleft hy))]
  exact Bool.false_ne_true

theorem filter_passBehind_first (hs : DistinctArrivals s) (hx : x ∈ passFirst s h) :
    (passBehind s h).filter (fun y => schedBefore s y x) = [] := by
  cases hleft : passLeft s h with
  | nil => unfold passBehind; rw [hleft]; rfl
  | cons head rest =>
    refine List.filter_eq_nil_iff.mpr fun y hy => ?_
    have : schedBefore s x y = true := (List.pairwise_append.mp (readyOn_sorted_left hs hleft)).2.2 x hx y
      (List.mem_cons_of_mem _ (mem_rest_of_passBehind hleft hy))
    rw [schedBefore_asymm this]
    exact Bool.false_ne_true

theorem passExamined_sorted (hs : DistinctArrivals s) (hleft : passLeft s h = head :: rest) :
    (passExamined s head rest).Pairwise fun a b => schedBefore s a b = true :=
  ((List.pairwise_cons.mp (List.pairwise_append.mp (readyOn_sorted_left hs hleft)).2.1).2.sublist List.filter_sublist).sublist
    (List.take_sublist ..)

/-- R56 step 2: the entries a pass examines behind a head. -/
theorem mem_passExamined (hs : DistinctArrivals s) (hleft : passLeft s h = head :: rest) :
    x ∈ passExamined s head rest ↔ Examined s h head x := by
  have hsorted := (List.pairwise_append.mp (readyOn_sorted_left hs hleft)).2.1
  have hF : (rest.filter fun d => decide (entryClass s d = entryClass s head)).Pairwise fun a b => schedBefore s a b = true :=
    (List.pairwise_cons.mp hsorted).2.sublist List.filter_sublist
  have hall : ∀ y, ReadyOn s h y ↔ y ∈ passFirst s h ++ head :: rest := fun y => by
    rw [← hleft, ← readyOn_eq]; exact mem_readyOn.symm
  have hhead : ReadyOn s h head := (hall head).mpr (by simp)
  have same (y z : DoorIx) (hy : ReadyOn s h y) (hz : ReadyOn s h z) (hc : entryClass s y = entryClass s z) :
      schedBefore s y z = true ↔ arrivalNo s y < arrivalNo s z := by
    rw [← precedes_iff (hx := hy) (hd := hz)]
    unfold Precedes
    omega
  have hmem (y : DoorIx) : y ∈ rest.filter (fun d => decide (entryClass s d = entryClass s head)) ↔ y ∈ further s h head := by
    unfold further
    rw [List.mem_filter, List.mem_filter]
    simp only [decide_eq_true_eq, mem_allDoors, true_and]
    constructor
    · rintro ⟨hy, hc⟩
      have hr := (hall y).mpr (by simp [hy])
      exact ⟨hr, hc, (same head y hhead hr hc.symm).mp (head_before hs hleft hy)⟩
    · rintro ⟨hr, hc, hlt⟩
      have hbefore := (same head y hhead hr hc.symm).mpr hlt
      rcases List.mem_append.mp ((hall y).mp hr) with hy | hy
      · rw [schedBefore_asymm (before_head hs hleft hy)] at hbefore; cases hbefore
      · rcases List.mem_cons.mp hy with rfl | hy
        · rw [schedBefore_asymm hbefore] at hbefore; cases hbefore
        · exact ⟨hy, hc⟩
  unfold passExamined Examined
  rw [mem_take_iff (fun a b => schedBefore_asymm) hF, hmem]
  refine and_congr_right fun hx => ?_
  have hlen : ((rest.filter fun d => decide (entryClass s d = entryClass s head)).filter fun y => schedBefore s y x).length
      = ((further s h head).filter fun y => decide (arrivalNo s y < arrivalNo s x)).length := by
    have hnodup : (rest.filter fun d => decide (entryClass s d = entryClass s head)).Nodup := by
      have := nodup_readyOn s h
      rw [readyOn_eq, hleft, List.nodup_append] at this
      exact (List.nodup_cons.mp this.2.1).2.filter _
    refine ((List.perm_ext_iff_of_nodup (hnodup.filter _) ((nodup_allDoors.filter _).filter _)).mpr fun y => ?_).length_eq
    refine List.mem_filter.trans (Iff.trans ?_ List.mem_filter.symm)
    rw [hmem, decide_eq_true_eq]
    refine and_congr_right fun hy => ?_
    have hy := (List.mem_filter.mp hy).2
    have hx := (List.mem_filter.mp hx).2
    simp only [decide_eq_true_eq] at hx hy
    exact same y x hy.1 hx.1 (hy.2.1.trans hx.2.1.symm)
  rw [hlen]

end

end Sys2Proof.Proofs
end

section
/-! ## One admission pass (O18) -/
namespace Sys2Proof.Proofs
open Sys2Proof Sys2Proof.Machine

set_option Elab.async false

section
variable {s t : State} {h : HpuIx} {d x head : DoorIx} {rest : List DoorIx}

theorem aside_of_schedule (hf : ScheduleFrame s t) : Aside s t :=
  ⟨hf.tables, hf.cfs, hf.pins, hf.seconds, hf.queues, hf.pacing⟩

/-- A pass changes the schedule, the orders, the alarms and the queues alone. -/
theorem pass_eq (h : HpuIx) (s : State) :
    pass h s = { s with cs := (pass h s).cs, rc := (pass h s).rc, al := (pass h s).al, sp := (pass h s).sp,
                        ib := (pass h s).ib } := by
  have hf := ScheduleFrame.pass h s
  have hms := ms_pass h s
  generalize pass h s = t at hf hms
  cases t
  obtain ⟨⟨⟨htables, hcfs, hpins, hseconds, hpending, -, -, -, -, -⟩, -, -, -, hfree, -⟩, hgru, hmc, -⟩ := hf
  simp only at htables hcfs hpins hseconds hpending hfree hgru hmc hms
  subst htables hcfs hpins hseconds hpending hfree hgru hmc hms
  rfl

/-- R57: the overtakers of the head that stays are the entries admitted behind it. -/
theorem mem_overtakers (hs : DistinctArrivals s) (hleft : passLeft s h = head :: rest) :
    (decide (AdmittedIn s (pass h s) h x) && schedBefore s head x) = true ↔ x ∈ passBehind s h := by
  rw [Bool.and_eq_true, decide_eq_true_eq, admittedIn_iff (pass_admits h s), List.mem_append]
  constructor
  · rintro ⟨hx | hx, hb⟩
    · rw [schedBefore_asymm (before_head hs hleft hx)] at hb; cases hb
    · exact hx
  · intro hx
    exact ⟨.inr hx, head_before hs hleft (mem_rest_of_passBehind hleft hx)⟩

theorem nodup_passBehind (s : State) (h : HpuIx) : (passBehind s h).Nodup :=
  (List.nodup_append.mp (pass_admits h s).nodup).2.1

theorem length_overtakers (hs : DistinctArrivals s) (hleft : passLeft s h = head :: rest) :
    (overtakers s (pass h s) h head).length = (passBehind s h).length :=
  length_filter_eq (nodup_passBehind s h) fun _ => mem_overtakers hs hleft

theorem head_not_admitted (hs : DistinctArrivals s) (hleft : passLeft s h = head :: rest) :
    head ∉ passFirst s h ++ passBehind s h := by
  rw [List.mem_append, not_or]
  constructor
  · intro hm
    have hb := before_head hs hleft hm
    rw [schedBefore_asymm hb] at hb; cases hb
  · intro hm
    have hb := head_before hs hleft (mem_rest_of_passBehind hleft hm)
    rw [schedBefore_asymm hb] at hb; cases hb

theorem head_ready (hleft : passLeft s h = head :: rest) : ReadyOn s h head :=
  mem_readyOn.mp (by rw [readyOn_eq, hleft]; simp)

theorem head_stops (hleft : passLeft s h = head :: rest) :
    ¬ s.cs.flow[h].committed + ((passFirst s h).map s.draw).sum + s.draw head ≤ limitOf s h head := by
  refine admittedFirst_stops (l := readyOn s h) (rest := rest) ?_
  rw [← hleft]
  exact readyOn_eq s h

/-- R56, R57: the head that a pass leaves READY does not fit. -/
theorem entryFits_pass_head (hleft : passLeft s h = head :: rest) : entryFits (pass h s) h head = false := by
  rw [(pass_admits h s).entryFits, decide_eq_false_iff_not, sum_draws_append]
  have := head_stops hleft
  omega

theorem overtakenOf_pass_head (hs : DistinctArrivals s) (hleft : passLeft s h = head :: rest) :
    overtakenOf (pass h s) head = overtakenOf s head + (passBehind s h).length := by
  obtain ⟨e, he, -⟩ := entry_of_entryIn (head_ready hleft)
  rw [(pass_admits h s).overtakenOf (head_not_admitted hs hleft) (by simp [he])]
  unfold passOvertakings
  rw [hleft]
  simp [overtakings]

theorem overtakenOf_le (hlaw : OvertakenLaw s) (d : DoorIx) : overtakenOf s d ≤ overtakenCap := by
  unfold overtakenOf
  split
  · next e he => exact hlaw d e he
  · exact Nat.zero_le _

theorem overtakenOf_pass_le (hs : DistinctArrivals s) (hlaw : OvertakenLaw s) (hleft : passLeft s h = head :: rest) :
    overtakenOf (pass h s) head ≤ overtakenCap := by
  rw [overtakenOf_pass_head hs hleft, passBehind_cons hleft]
  exact length_admittedAhead_le _ _ (overtakenOf_le hlaw head)

theorem length_passBehind_le (hleft : passLeft s h = head :: rest) : (passBehind s h).length ≤ s.tables.system.lookAhead := by
  rw [passBehind_cons hleft]
  exact (admittedAhead_sublist ..).length_le.trans (List.length_take_le _ _)

theorem entryClass_of_passBehind (hleft : passLeft s h = head :: rest) (hx : x ∈ passBehind s h) :
    entryClass s x = entryClass s head := by
  rw [passBehind_cons hleft] at hx
  exact of_decide_eq_true (List.mem_filter.mp (List.mem_of_mem_take ((admittedAhead_sublist ..).subset hx))).2

theorem fitsInTurn_of_first (hs : DistinctArrivals s) (hx : x ∈ passFirst s h) : FitsInTurn s (pass h s) h x := by
  rw [fitsInTurn_iff (passFirst_ready hx), filter_passBehind_first hs hx]
  simpa [passFirst] using admittedFirst_fits (fun a b => schedBefore_asymm) (readyOn_sorted hs) _ hx

/-- R57: an examined entry is admitted exactly where it fits in its turn and the head has been overtaken fewer than three
times. -/
theorem mem_passBehind_iff (hs : DistinctArrivals s) (hleft : passLeft s h = head :: rest) (hx : x ∈ passExamined s head rest) :
    x ∈ passBehind s h ↔ FitsInTurn s (pass h s) h x
      ∧ overtakenOf s head + ((passBehind s h).filter fun y => schedBefore s y x).length < overtakenCap := by
  have hrest := mem_passExamined_rest hx
  have hready : ReadyOn s h x := mem_readyOn.mp (by rw [readyOn_eq, hleft]; simp [hrest])
  rw [fitsInTurn_iff hready, filter_passFirst_of_before hs hleft (.inr hrest), passBehind_cons hleft]
  exact mem_admittedAhead (fun a b => schedBefore_asymm) (passExamined_sorted hs hleft) _ _ hx

theorem fitsInTurn_of_admitted (hs : DistinctArrivals s) (hx : AdmittedIn s (pass h s) h x) : FitsInTurn s (pass h s) h x := by
  rcases List.mem_append.mp ((admittedIn_iff (pass_admits h s)).mp hx) with hx | hx
  · exact fitsInTurn_of_first hs hx
  · cases hleft : passLeft s h with
    | nil => unfold passBehind at hx; rw [hleft] at hx; cases hx
    | cons head rest =>
      have hmem : x ∈ passExamined s head rest := by
        have := hx
        rw [passBehind_cons hleft] at this
        exact (admittedAhead_sublist ..).subset this
      exact ((mem_passBehind_iff hs hleft hmem).mp hx).1

theorem not_fitsInTurn_head (hs : DistinctArrivals s) (hleft : passLeft s h = head :: rest) :
    ¬FitsInTurn s (pass h s) h head := by
  rw [fitsInTurn_iff (head_ready hleft), filter_passFirst_of_before hs hleft (.inl rfl), filter_passBehind_head hs hleft]
  simpa using head_stops hleft

theorem admitted_of_before_head (hs : DistinctArrivals s) (hleft : passLeft s h = head :: rest) (hx : ReadyOn s h x)
    (hb : Precedes s x head) : AdmittedIn s (pass h s) h x := by
  have hb := (precedes_iff (hx := hx) (hd := head_ready hleft)).mp hb
  have hmem := mem_readyOn.mpr hx
  rw [readyOn_eq, hleft, List.mem_append] at hmem
  refine (admittedIn_iff (pass_admits h s)).mpr (List.mem_append_left _ (hmem.resolve_right fun hm => ?_))
  rcases List.mem_cons.mp hm with rfl | hm
  · rw [schedBefore_asymm hb] at hb; cases hb
  · rw [schedBefore_asymm (head_before hs hleft hm)] at hb; cases hb

theorem examined_of_behind_head (hs : DistinctArrivals s) (hleft : passLeft s h = head :: rest)
    (hx : AdmittedIn s (pass h s) h x) (hb : Precedes s head x) : Examined s h head x := by
  have hb := (precedes_iff (hx := head_ready hleft) (hd := hx.1)).mp hb
  refine (mem_passExamined hs hleft).mp ?_
  rcases List.mem_append.mp ((admittedIn_iff (pass_admits h s)).mp hx) with hm | hm
  · rw [schedBefore_asymm (before_head hs hleft hm)] at hb; cases hb
  · rw [passBehind_cons hleft] at hm
    exact (admittedAhead_sublist ..).subset hm

/-- R57: of the examined entries, those that fit in their turn are admitted while the head may be overtaken. -/
theorem admitted_iff_of_examined (hs : DistinctArrivals s) (hleft : passLeft s h = head :: rest) (hx : Examined s h head x) :
    AdmittedIn s (pass h s) h x ↔ FitsInTurn s (pass h s) h x
      ∧ overtakenOf s head
        + ((overtakers s (pass h s) h head).filter fun y => decide (Precedes s y x)).length < 3 := by
  have hmem := (mem_passExamined hs hleft).mpr hx
  have hrest := mem_passExamined_rest hmem
  have hready : ReadyOn s h x := mem_readyOn.mp (by rw [readyOn_eq, hleft]; simp [hrest])
  have hfirst : x ∉ passFirst s h := fun hm => by
    have hb := before_head hs hleft hm
    rw [schedBefore_asymm (head_before hs hleft hrest)] at hb
    cases hb
  have hlen : ((overtakers s (pass h s) h head).filter fun y => decide (Precedes s y x)).length
      = ((passBehind s h).filter fun y => schedBefore s y x).length := by
    unfold overtakers
    rw [List.filter_filter]
    refine length_filter_eq ((nodup_passBehind s h).filter _) fun y => ?_
    rw [Bool.and_eq_true, mem_overtakers hs hleft, List.mem_filter, decide_eq_true_eq, and_comm]
    exact and_congr_right fun hy => precedes_iff (h := h) (hx := passBehind_ready hy) (hd := hready)
  rw [hlen, admittedIn_iff (pass_admits h s), List.mem_append, or_iff_right hfirst]
  exact mem_passBehind_iff hs hleft hmem

theorem admitted_nonempty_iff (s : State) (h : HpuIx) :
    (∃ d : DoorIx, AdmittedIn s (pass h s) h d) ↔ passFirst s h ++ passBehind s h ≠ [] := by
  refine (exists_congr fun d => admittedIn_iff (pass_admits h s)).trans ⟨?_, List.exists_mem_of_ne_nil _⟩
  rintro ⟨d, hd⟩
  exact List.ne_nil_of_mem hd

/-- A door that is no head left READY has been overtaken by none. -/
theorem passOvertakings_of_not_ready (hd : entryIn s h .READY d = false) : passOvertakings s h d = 0 := by
  unfold passOvertakings
  cases hleft : passLeft s h with
  | nil => rfl
  | cons head rest =>
    refine if_neg fun hdh => ?_
    rw [hdh, show entryIn s h .READY head = true from head_ready hleft] at hd
    cases hd

/-- R56: a pass of an HPU leaves the entries that are not READY on it. -/
theorem entry_pass_of_not_ready (hd : entryIn s h .READY d = false) : (pass h s).entry d = s.entry d := by
  have hnot : d ∉ passFirst s h ++ passBehind s h := fun hm => by
    rw [(pass_admits h s).ready d hm] at hd; cases hd
  rw [(pass_admits h s).stays d hnot, passOvertakings_of_not_ready hd]
  cases s.entry d <;> rfl

end

/-- Settles O18: the entries admitted are those of `passFirst` and `passBehind`, the head that stays is the first entry
that does not fit. -/
theorem admissionPass : Obligations.AdmissionPass := by
  unfold Obligations.AdmissionPass
  intro h s harrival _ hovertaken t admitted delayed
  have hs := ArrivalLaw.distinct harrival
  have ha := pass_admits h s
  have hframe := ScheduleFrame.pass h s
  have hnone := admitted_nonempty_iff s h
  refine ⟨fun d hd => ?_, claimOf_pass h s, fun d hd => ?_, fun d hd => ?_, fun x hx => fitsInTurn_of_admitted hs hx,
    fun d hd => ?_, ha.others, ?_, ?_, ha.capacity, fun hno => ?_, fun hyes => ha.delay.tested (hnone.mp hyes),
    ha.delay.kept, ha.delay.cleared, ha.delay.raised, ha.delay.only, hframe.nextArrival, hframe.orders,
    aside_of_schedule hframe, pass_eq h s⟩
  · exact entry_pass_of_not_ready hd
  · have hmem := (admittedIn_iff ha).mp hd
    obtain ⟨e, he, -⟩ := entry_of_entryIn hd.1
    exact ⟨ha.admitted d hmem, e, he, ha.moves d hmem e he⟩
  · obtain ⟨rest, hleft⟩ := headOn_pass hs hd
    rw [length_overtakers hs hleft]
    refine ⟨entryFits_pass_head hleft, overtakenOf_pass_head hs hleft, overtakenOf_pass_le hs hovertaken hleft,
      length_passBehind_le hleft, fun x hx => entryClass_of_passBehind hleft ?_⟩
    exact (mem_overtakers hs hleft).mp (List.mem_filter.mp hx).2
  · obtain ⟨rest, hleft⟩ := headOn_pass hs hd
    exact ⟨not_fitsInTurn_head hs hleft, fun x => admitted_of_before_head hs hleft,
      fun x => examined_of_behind_head hs hleft, fun x => admitted_iff_of_examined hs hleft⟩
  · rw [show t.cs.flow[h].committed = _ from ha.committed, sum_filter_eq ha.nodup]
    exact fun d => decide_eq_true_iff.trans (admittedIn_iff ha)
  · rcases ha.bounded with hnil | hle
    · refine .inl ?_
      rw [show t.cs.flow[h].committed = _ from ha.committed, hnil]
      simp
    · exact .inr hle
  · exact ha.delay.unasked (by_contra fun hne => hno (hnone.mpr hne))

end Sys2Proof.Proofs
end

section
/-! ## Passes on equal schedules, the expiries of the schedule, and the decision of a demand -/
namespace Sys2Proof.Proofs
open Sys2Proof Sys2Proof.Machine

set_option Elab.async false

/-! ### A pass reads the schedule and the tables alone -/

/-- The schedule and the tables of two states are the same. -/
def SameSchedule (s t : State) : Prop := t.cs = s.cs ∧ t.tables = s.tables

section
variable {s t : State} {h : HpuIx} {d head : DoorIx}

theorem SameSchedule.evalDelay (hst : SameSchedule s t) (h : HpuIx) : SameSchedule (evalDelay h s) (evalDelay h t) := by
  obtain ⟨hcs, htables⟩ := hst
  refine ⟨?_, (ScheduleFrame.evalDelay h t).tables.trans (htables.trans (ScheduleFrame.evalDelay h s).tables.symm)⟩
  rw [evalDelay_cs, evalDelay_cs, hcs, admissionDelayed_congr (by rw [hcs]) htables]

theorem SameSchedule.entry (hst : SameSchedule s t) (d : DoorIx) : t.entry d = s.entry d := entry_congr (by rw [hst.1]) d

theorem SameSchedule.queueOrder (hst : SameSchedule s t) (d : DoorIx) (k : OrderKind) :
    SameSchedule (queueOrder d k s) (queueOrder d k t) := hst

theorem SameSchedule.modFlow (hst : SameSchedule s t) (h : HpuIx) (f : HpuFlow → HpuFlow) :
    SameSchedule (s.modFlow h f) (t.modFlow h f) :=
  ⟨by unfold State.modFlow; rw [hst.1], hst.2⟩

theorem SameSchedule.setEntry (hst : SameSchedule s t) (d : DoorIx) (e : Entry) :
    SameSchedule (s.setEntry d e) (t.setEntry d e) :=
  ⟨by unfold State.setEntry; rw [hst.1], hst.2⟩

theorem SameSchedule.admitDoor (hst : SameSchedule s t) (d : DoorIx) : SameSchedule (admitDoor d s) (admitDoor d t) := by
  have hentry := hst.entry d
  have htables := hst.2
  cases he : s.entry d with
  | some e =>
    rw [admitDoor_eq he, admitDoor_eq (hentry.trans he), hpuOf_congr htables, draw_congr htables, doorDeadline_congr htables]
    exact (((hst.setEntry ..).modFlow ..).queueOrder ..).evalDelay _
  | none =>
    unfold Machine.admitDoor
    rw [hentry, he]
    exact hst

theorem SameSchedule.overtake (hst : SameSchedule s t) (d : DoorIx) : SameSchedule (overtake d s) (overtake d t) := by
  have hentry := hst.entry d
  obtain ⟨hcs, htables⟩ := id hst
  unfold Machine.overtake
  rw [hentry]
  split
  · exact ⟨by simp only [State.setEntry, hcs], htables⟩
  · exact hst

theorem SameSchedule.entryFits (hst : SameSchedule s t) (h : HpuIx) (d : DoorIx) : entryFits t h d = entryFits s h d := by
  have hentry := hst.entry d
  obtain ⟨hcs, htables⟩ := hst
  unfold Machine.entryFits fits admissionLimit isDirectLane entryClass
  simp only
  rw [hentry, hcs, htables, draw_congr htables]

theorem SameSchedule.lookAhead (hst : SameSchedule s t) (h : HpuIx) (head : DoorIx) (l : List DoorIx) :
    SameSchedule (lookAhead h head l s) (lookAhead h head l t) := by
  induction l generalizing s t with
  | nil => exact hst
  | cons x rest ih =>
    unfold Machine.lookAhead
    rw [hst.entryFits, show overtakenOf t head = overtakenOf s head by unfold overtakenOf; rw [hst.entry]]
    split
    · exact hst
    split
    · exact ih ((hst.admitDoor x).overtake head)
    · exact ih hst

theorem SameSchedule.passWalk (hst : SameSchedule s t) (h : HpuIx) (l : List DoorIx) :
    SameSchedule (passWalk h l s) (passWalk h l t) := by
  induction l generalizing s t with
  | nil => exact hst
  | cons x rest ih =>
    have hclass (d : DoorIx) : entryClass t d = entryClass s d := by unfold entryClass; rw [hst.entry]
    unfold Machine.passWalk
    simp only [hst.entryFits, hclass, hst.2]
    split
    · exact ih (hst.admitDoor x)
    · exact hst.lookAhead ..

theorem entryIn_congr (he : t.entry d = s.entry d) (ht : t.tables = s.tables) (ph : Phase) :
    entryIn t h ph d = entryIn s h ph d := by
  unfold entryIn State.hpuOf
  rw [he, ht]

theorem schedBefore_congr (he : ∀ d, t.entry d = s.entry d) (a b : DoorIx) : schedBefore t a b = schedBefore s a b := by
  unfold schedBefore; rw [he, he]

theorem inScheduleOrder_congr (hb : ∀ a b, schedBefore t a b = schedBefore s a b) (l : List DoorIx) :
    inScheduleOrder t l = inScheduleOrder s l := by
  have hins (d : DoorIx) (l : List DoorIx) : insertDoor t d l = insertDoor s d l := by
    induction l with
    | nil => rfl
    | cons x rest ih => unfold insertDoor; rw [hb, ih]
  unfold inScheduleOrder
  induction l with
  | nil => rfl
  | cons x rest ih => rw [List.foldr_cons, List.foldr_cons, ih, hins]

theorem readyOn_congr (he : ∀ d, t.entry d = s.entry d) (ht : t.tables = s.tables) : readyOn t h = readyOn s h := by
  unfold readyOn
  rw [inScheduleOrder_congr (schedBefore_congr he)]
  exact congrArg (fun f => inScheduleOrder s (allDoors.filter f)) (funext fun d => entryIn_congr (he d) ht _)

theorem SameSchedule.pass (hst : SameSchedule s t) (h : HpuIx) : SameSchedule (pass h s) (pass h t) := by
  unfold Machine.pass
  rw [readyOn_congr hst.entry hst.2]
  exact hst.passWalk ..

/-- R55: on the same schedule and tables a pass leaves the same schedule. -/
theorem pass_cs_congr (hc : t.cs = s.cs) (ht : t.tables = s.tables) (h : HpuIx) : (pass h t).cs = (pass h s).cs :=
  (SameSchedule.pass ⟨hc, ht⟩ h).1

/-- R55: a state whose schedule is that of a pass on `c`, with the tables as they stood. -/
theorem passed_of_pass {u : State} {c : Cs} (hcs : t.cs = (pass h u).cs) (hc : u.cs = c) (htables : u.tables = s.tables) :
    Passed s t h c := by
  unfold Passed
  rw [hcs]
  exact pass_cs_congr (s := { s with cs := c }) hc htables h

/-- R55, R60: a pass on `c` and then the test. -/
theorem passedAndTested_of_evalDelay {u : State} {c : Cs} (hcs : t.cs = (evalDelay h (pass h u)).cs) (hc : u.cs = c)
    (htables : u.tables = s.tables) (ht : t.tables = s.tables) : PassedAndTested s t h c := by
  have hsame : SameSchedule (pass h { s with cs := c }) (pass h u) := SameSchedule.pass (s := { s with cs := c }) (t := u) ⟨hc, htables⟩ h
  have hdelay : admissionDelayed (pass h u) h = admissionDelayed t h := by
    refine (admissionDelayed_congr (s := t) ?_ ?_ h)
    · rw [hcs, evalDelay_cs]
    · rw [ht, (ScheduleFrame.pass h u).tables, htables]
  unfold PassedAndTested
  simp only
  rw [hcs, evalDelay_cs, hdelay, hsame.1]

end

/-! ### What a pass makes of a READY entry -/

section
variable {s : State} {h : HpuIx} {d : DoorIx} {e : Entry}

/-- R56, R58: a pass leaves a READY entry READY, or admits it with its MOVE queued. -/
theorem pass_ready (he : s.entry d = some e) (hph : e.phase = .READY) :
    phaseOf (pass h s) d = some .READY
    ∨ (phaseOf (pass h s) d = some .MOVING ∧ Pending (pass h s) d (.MOVE e.direction (dispatchWarn e))) := by
  have ha := pass_admits h s
  by_cases hd : d ∈ passFirst s h ++ passBehind s h
  · exact .inr ⟨phaseOf_admitted ha hd, ha.moves d hd e he⟩
  · refine .inl ?_
    rw [phaseOf_stays ha hd, phaseOf, he]
    exact congrArg some hph

theorem pass_moves (he : s.entry d = some e) (hph : e.phase = .READY) (hmoves : phaseOf (pass h s) d = some .MOVING) :
    Pending (pass h s) d (.MOVE e.direction (dispatchWarn e)) := by
  have ha := pass_admits h s
  by_cases hd : d ∈ passFirst s h ++ passBehind s h
  · exact ha.moves d hd e he
  · rw [phaseOf_stays ha hd, phaseOf, he] at hmoves
    simp [hph] at hmoves

theorem pass_readyAge (h : HpuIx) (s : State) (d : DoorIx) :
    ((pass h s).entry d).map Entry.readyAge = (s.entry d).map Entry.readyAge := by
  have ha := pass_admits h s
  by_cases hd : d ∈ passFirst s h ++ passBehind s h
  · rw [ha.admitted d hd, Option.map_map]; rfl
  · rw [ha.stays d hd, Option.map_map]; rfl

/-- R58: the orders of a door not admitted by a pass stand. -/
theorem pass_orders_of_not_ready {o : PendingOrder} (ho : entryIn s h .READY o.door = false) :
    o ∈ (pass h s).rc.orders ↔ o ∈ s.rc.orders := by
  refine (pass_admits h s).orders o fun hm => ?_
  rw [(pass_admits h s).ready _ hm] at ho
  cases ho

theorem claimOf_setEntry_same {e f : Entry} (he : s.entry d = some e) (hclaim : f.claim = e.claim) (x : DoorIx) :
    claimOf (s.setEntry d f) x = claimOf s x := by
  unfold claimOf
  rw [entry_setEntry]
  split
  · next hdx => subst hdx; rw [he]; exact congrArg some hclaim
  · rfl

end

/-! ### PRE_WARNING_EXPIRY (R43) -/

theorem exec_preWarning {s : State} (h : Awake s) (d : DoorIx) :
    exec (.preWarningExpiry d) s = .next (onEntry Entry.warned d (warningExpires d) s) := exec_awake h rfl

theorem onEntry_stands {ran : Entry → Bool} {d : DoorIx} {act : Entry → State → State} {s : State}
    (h : ∀ e ∈ s.entry d, ran e = false) : onEntry ran d act s = s := by
  unfold onEntry
  split
  · next e he => rw [if_neg (by rw [h e he]; exact Bool.false_ne_true)]
  · rfl

theorem onEntry_due {ran : Entry → Bool} {d : DoorIx} {act : Entry → State → State} {s : State} {e : Entry}
    (he : s.entry d = some e) (hran : ran e = true) : onEntry ran d act s = act e s := by
  unfold onEntry
  rw [he]
  exact if_pos hran

/-- Settles O55: the entry becomes READY, and the pass of its HPU is taken. -/
theorem preWarningExpires : Obligations.PreWarningExpires := by
  unfold Obligations.PreWarningExpires
  intro d s h
  rw [exec_preWarning h]
  refine ⟨fun hnot => ?_, fun e he hph hwarn => ?_⟩
  · rw [onEntry_stands fun e he => ?_]
    have := hnot e he
    unfold Entry.warned
    simp only [Bool.and_eq_false_iff, decide_eq_false_iff_not]
    exact this
  · have he : s.entry d = some e := he
    refine ends_of (exec_preWarning h d) ?_
    rw [onEntry_due he (by simp [Entry.warned, hph, hwarn])]
    unfold warningExpires
    generalize hf : ({ e with phase := .READY, readyAge := 0 } : Entry) = f
    have hframe := (ScheduleFrame.setEntry s d f).trans (.pass (s.hpuOf d) (s.setEntry d f))
    have hentry : (s.setEntry d f).entry d = some f := (entry_setEntry ..).trans (if_pos rfl)
    have hready : f.phase = .READY := by rw [← hf]
    have hmove : dispatchWarn f = dispatchWarn e := by rw [← hf]; rfl
    refine ⟨rfl, fun x => ?_, (pass_ready hentry hready).imp_right And.left, ?_, fun hm => ?_, hframe.nextArrival,
      ms_pass .., hframe.gru, hframe.mc, hframe.orders, aside_of_schedule hframe⟩
    · rw [claimOf_pass]
      exact claimOf_setEntry_same he (by rw [← hf]; rfl) x
    · rw [pass_readyAge, hentry, ← hf]; rfl
    · rw [← hmove, show e.direction = f.direction by rw [← hf]]
      exact pass_moves hentry hready hm

/-! ### Late alarms (R60, R72, R120, R123) -/

section
variable {s : State} (d : DoorIx)

theorem exec_deadline (h : Awake s) : exec (.deadlineExpiry d) s = .next (onEntry Entry.late d (deadlineExpires d) s) :=
  exec_awake h rfl
theorem exec_readyAge (h : Awake s) : exec (.readyAgeExpiry d) s = .next (readyAgeExpires d s) := exec_awake h rfl
theorem exec_heldTime (h : Awake s) : exec (.heldTimeExpiry d) s = .next (heldTimeExpires d s) := exec_awake h rfl
theorem exec_openAtSea (h : Awake s) : exec (.openAtSeaTimerExpiry d) s = .next (openAtSeaExpires d s) := exec_awake h rfl

end

theorem deadlineExpires_stands {s : State} {d : DoorIx}
    (h : ∀ e ∈ s.entry d, e.phase ≠ .MOVING ∨ e.elapsed < e.deadline ∨ e.overtimeRaised = true) :
    onEntry Entry.late d (deadlineExpires d) s = s := by
  unfold onEntry
  split
  · next e he =>
    unfold deadlineExpires Entry.late
    rcases h e he with hph | hlow | hraised
    · rw [if_neg (by simp [hph])]
    · rw [if_neg (by simp; omega)]
    · rw [if_pos hraised]
      split <;> rfl
  · rfl

theorem waitsTooLong_iff {s : State} {d : DoorIx} : waitsTooLong s (s.hpuOf d) d = true ↔
    ∃ e ∈ s.entry d, e.phase = .READY ∧ 10 * s.tables.system.waitLimit < e.readyAge := by
  unfold waitsTooLong
  cases s.entry d <;> simp

/-- Settles O57: each expiry that is due raises its alarm once. -/
theorem lateAlarms : Obligations.LateAlarms := by
  unfold Obligations.LateAlarms
  refine ⟨fun d s h => ⟨fun hnot => ?_, fun e he hph hlate hnone => ?_⟩, fun d s h => ?_, fun d s h =>
    ⟨fun hnot => ?_, fun x hx hlate hnone => ?_, fun hnot => ?_, fun hdue => ?_⟩⟩
  · rw [exec_deadline d h, deadlineExpires_stands hnot]
  · refine ends_of (exec_deadline d h) ?_
    have he : s.entry d = some e := he
    rw [onEntry_due he (by simp [Entry.late, hph, hlate])]
    unfold deadlineExpires
    rw [if_neg (by simp [hnone])]
    have ha := AlarmFrame.raiseDoor .TRAVEL_OVERTIME d (s.setEntry d { e with overtimeRaised := true })
    have haside := aside_of_block ha.toBlockFrame
    exact ⟨fun hroom => standing_raiseAlarm (s := s.setEntry d { e with overtimeRaised := true }) hroom, ha.cs,
      ms_raiseAlarm .., ha.gru, ha.mc, ha.rc, haside⟩
  · intro x late
    have hlate : waitsTooLong s x d = true ↔ late := waitsTooLong_iff
    refine ⟨fun hnot => ?_, fun hl hclear => ends_of (exec_readyAge d h) ?_⟩
    · rw [exec_readyAge d h]
      unfold readyAgeExpires
      split
      · next hw =>
        have hflag := hnot.resolve_left (fun hn => hn (hlate.mp hw))
        have : admissionDelayed s x = true := List.any_eq_true.mpr ⟨d, mem_allDoors d, hw⟩
        unfold evalDelay
        rw [if_pos this, if_pos hflag]
      · rfl
    · unfold readyAgeExpires
      rw [if_pos (hlate.mpr hl)]
      have hdelayed : admissionDelayed s x = true := List.any_eq_true.mpr ⟨d, mem_allDoors d, hlate.mpr hl⟩
      have hframe := ScheduleFrame.evalDelay x s
      refine ⟨?_, standing_evalDelay hclear hdelayed, evalDelay_ms .., hframe.gru, hframe.mc, evalDelay_rc ..,
        aside_of_schedule hframe⟩
      rw [evalDelay_cs, hdelayed]
  · rw [exec_heldTime d h]
    unfold heldTimeExpires
    split
    · next x hx =>
      rw [if_neg]
      have := hnot x hx
      simp only [heldTooLong, Bool.and_eq_true, decide_eq_true_eq, not_and, Bool.not_eq_true']
      rcases this with hl | hl
      · omega
      · simp [hl]
    · rfl
  · refine ends_of (exec_heldTime d h) ?_
    unfold heldTimeExpires
    rw [show s.passage d = some x from hx]
    simp only
    rw [if_pos (by simpa [heldTooLong, hnone] using hlate)]
    have ha := AlarmFrame.raiseDoor .PASSAGE_OVERDUE d (s.setPassage d { x with overdue := true })
    have haside := aside_of_block ha.toBlockFrame
    exact ⟨ha.mc, fun hroom => standing_raiseAlarm (s := s.setPassage d { x with overdue := true }) hroom, ha.cs,
      ms_raiseAlarm .., ha.gru, ha.rc, haside⟩
  · rw [exec_openAtSea d h]
    unfold openAtSeaExpires
    rw [if_neg (by rw [hnot]; exact Bool.false_ne_true)]
  · refine ends_of (exec_openAtSea d h) ?_
    unfold openAtSeaExpires
    rw [if_pos hdue]
    generalize hu : ({ s with mc := { s.mc with oas := upd s.mc.oas d fun x => { x with due := false } } } : State) = u
    have ha := AlarmFrame.raiseDoor .DOOR_OPEN_AT_SEA d u
    refine ⟨ha.mc.trans (by rw [← hu]; rfl), fun hroom => standing_raiseAlarm (by rw [← hu]; exact hroom),
      ha.cs.trans (by rw [← hu]), (ms_raiseAlarm ..).trans (by rw [← hu]), ha.gru.trans (by rw [← hu]), ha.rc.trans (by rw [← hu]), ?_⟩
    have := aside_of_block ha.toBlockFrame
    rw [← hu] at this ⊢
    exact this

/-! ### The decision of a demand (R22, R28, R29) -/

theorem groupRank_eq (code : Nat) (g : SourceGroup) : groupRank code g = (groupOrder code).idxOf g := by
  rcases code with _ | _ | _ | _ | _ | _ | _ | n
  case succ.succ.succ.succ.succ.succ.succ => rfl
  all_goals cases g <;> rfl

theorem beats_iff {code : Nat} {m : Demand} {c : Claim} : beats code m.cls m.group c.cls c.group = true ↔ Beats code m c := by
  unfold beats Beats
  rw [groupRank_eq, groupRank_eq]
  simp

section
variable {s : State} {m : Demand} {e : Entry}

theorem beatsPassage_iff : beatsPassage s m = true ↔
    ∀ x ∈ s.passage m.door, x.phase ≠ .RECLOSING → m.direction = .CLOSE →
      Beats s.tables.system.orderCode m ⟨.OPEN, passageClass s.mc.mode, .C⟩ := by
  rw [← beats_iff (m := m) (c := ⟨.OPEN, passageClass s.mc.mode, .C⟩)]
  unfold beatsPassage passageClaims
  cases s.passage m.door with
  | none => simp
  | some x => cases hd : m.direction <;> by_cases hp : x.phase = .RECLOSING <;> simp [hp]

/-- R29: a demand wins where it beats an opposing entry and an opposing passage. -/
theorem wins_iff : Wins s m ↔ (∀ e ∈ s.entry m.door, e.direction ≠ m.direction → beatsEntry s m e = true)
    ∧ beatsPassage s m = true := by
  rw [beatsPassage_iff]
  have hopen : (Direction.OPEN ≠ m.direction) ↔ m.direction = .CLOSE := by cases m.direction <;> simp
  have hentry (e : Entry) : beatsEntry s m e = true ↔ Beats s.tables.system.orderCode m ⟨e.direction, e.cls, e.group⟩ :=
    beats_iff (c := ⟨e.direction, e.cls, e.group⟩)
  unfold Wins claims
  simp only [List.forall_mem_append, hentry]
  refine and_congr ?_ ?_
  · cases s.entry m.door <;> simp
  · cases s.passage m.door with
    | none => simp
    | some x => by_cases hp : x.phase = .RECLOSING <;> simp [hp, hopen, passageClass]

theorem directionOf_eq (he : s.entry m.door = some e) : directionOf s m.door = some e.direction := by
  unfold directionOf; rw [he]; rfl

theorem position_endBeaten (m : Demand) (s : State) (d : DoorIx) : (endBeaten m s).position d = s.position d := by
  unfold endBeaten
  split
  · unfold endPassage State.position
    rw [(AlarmFrame.clearDoor ..).rc]
    rfl
  · rfl

/-- R22 steps 4 to 8, said by the entry and the claims. -/
theorem decideClaims_decides (m : Demand) (s : State) :
    let o := (decideClaims m s).1
    let t := (decideClaims m s).2
    (directionOf s m.door = some m.direction → o = .MERGED)
    ∧ (directionOf s m.door ≠ some m.direction → ¬Wins s m → o = .OVERRULED ∧ t = s)
    ∧ (directionOf s m.door ≠ some m.direction → Wins s m →
        (phaseOf s m.door = some .MOVING → o = .REVERSED)
        ∧ (phaseOf s m.door = some .WARNING ∨ phaseOf s m.door = some .READY → o = .REPLACED)
        ∧ (phaseOf s m.door = none → s.position m.door = m.direction.target → o = .ALREADY)
        ∧ (phaseOf s m.door = none → s.position m.door ≠ m.direction.target → o = .ENQUEUED)) := by
  rw [wins_iff]
  unfold decideClaims directionOf phaseOf
  cases he : s.entry m.door with
  | some e =>
    simp only [Option.map_some, Option.some.injEq, Option.mem_def, forall_eq']
    by_cases hdir : e.direction = m.direction
    · simp [hdir]
    · simp only [hdir, if_false, ne_eq, not_false_eq_true, forall_true_left, IsEmpty.forall_iff, true_and]
      by_cases hwin : beatsEntry s m e = true ∧ beatsPassage s m = true
      · rw [if_pos hwin]
        refine ⟨fun _ hn => absurd hwin hn, fun _ _ => ?_⟩
        cases hph : e.phase <;> simp
      · rw [if_neg hwin]
        exact ⟨fun _ _ => ⟨rfl, rfl⟩, fun _ h => absurd h hwin⟩
  | none =>
    simp only [Option.map_none, reduceCtorEq, ne_eq, not_false_eq_true, forall_true_left, IsEmpty.forall_iff, true_and,
      Option.mem_def, implies_true, false_or]
    unfold settleDemand
    rw [position_endBeaten]
    by_cases hwin : beatsPassage s m = true
    · rw [if_pos hwin]
      refine ⟨fun hn => absurd hwin hn, fun _ => ⟨fun hp => ?_, fun hp => ?_⟩⟩
      · rw [if_pos hp]
      · rw [if_neg hp]
    · rw [if_neg hwin]
      exact ⟨fun _ => ⟨rfl, rfl⟩, fun h => absurd h hwin⟩

end

/-- Settles O19, by the steps of the decision. -/
theorem demandDecision : Obligations.DemandDecision := by
  unfold Obligations.DemandDecision
  intro m s o t wrongMode latched
  have hdecide : decideDemand m s = if s.inService = false then (.NOT_CONFIGURED, s)
      else if wrongMode then (.WRONG_MODE, s) else if latched then (.DOOR_FAULT, s) else decideClaims m s := rfl
  refine ⟨fun h => ?_, fun h hw => ?_, fun h hw hl => ?_, fun h hw hl => ?_⟩
  · have : decideDemand m s = (.NOT_CONFIGURED, s) := by rw [hdecide, if_pos h]
    exact ⟨congrArg Prod.fst this, congrArg Prod.snd this⟩
  · have : decideDemand m s = (.WRONG_MODE, s) := by rw [hdecide, if_neg (by simp [h]), if_pos hw]
    exact ⟨congrArg Prod.fst this, congrArg Prod.snd this⟩
  · have : decideDemand m s = (.DOOR_FAULT, s) := by rw [hdecide, if_neg (by simp [h]), if_neg hw, if_pos hl]
    exact ⟨congrArg Prod.fst this, congrArg Prod.snd this⟩
  · have : decideDemand m s = decideClaims m s := by rw [hdecide, if_neg (by simp [h]), if_neg hw, if_neg hl]
    have hclaims := decideClaims_decides m s
    rw [← this] at hclaims
    exact hclaims

end Sys2Proof.Proofs
end

section
/-! ## What a report of a tag does (R34, R96 to R99)

A report touches GRU and the transmit queues alone; a RUN_REPORT that stands in a queue is not dropped by later frames. -/
namespace Sys2Proof.Proofs
open Sys2Proof Sys2Proof.Machine

set_option Elab.async false

/-! ### Frames that stay in a queue (R172) -/

/-- R172: a frame that no placing drops. -/
def lasts (f : Frame) : Prop := f.isSummary = false ∧ f.isNotice = false

/-- Every frame that no placing drops still waits. -/
structure Lasting (s t : State) : Prop where
  stays : ∀ q : PortIx, ∀ f, lasts f → f ∈ s.sp[q].queue → f ∈ t.sp[q].queue

theorem mem_placedIn {f g : Frame} {q : List Frame} (hf : lasts f) (h : f ∈ q) : f ∈ placedIn g q := by
  have hkept {P : Frame → Bool} (hP : P f = false) : f ∈ q.eraseP P :=
    (List.mem_eraseP_of_neg (by rw [hP]; exact Bool.false_ne_true)).mpr h
  unfold placedIn placing
  split
  · next heq =>
    split at heq
    · cases heq; exact List.mem_append_left _ h
    split at heq
    · cases heq
    split at heq
    · cases heq; exact List.mem_append_left _ (hkept hf.2)
    · cases heq
  · next heq =>
    split at heq
    · cases heq
    split at heq
    · cases heq; exact List.mem_append_left _ (hkept hf.1)
    split at heq <;> cases heq
  · exact h

section
variable {s t u : State}

theorem Lasting.refl (s : State) : Lasting s s := ⟨fun _ _ _ h => h⟩
theorem Lasting.trans (h : Lasting s t) (g : Lasting t u) : Lasting s u :=
  ⟨fun q f hf hm => g.stays q f hf (h.stays q f hf hm)⟩
theorem Lasting.of_sp (h : t.sp = s.sp) : Lasting s t := ⟨fun _ _ _ hm => by rw [h]; exact hm⟩
theorem Lasting.after (g : Lasting t u) (h : t.sp = s.sp) : Lasting s u := (Lasting.of_sp h).trans g
theorem Lasting.of_joined {P : Frame → Prop} (h : QueuesJoined P s t) : Lasting s t := by
  refine ⟨fun q f hf hm => ?_⟩
  have hjoin := h.port q
  revert hm hjoin
  generalize s.sp[q].queue = a
  generalize t.sp[q].queue = b
  intro hm hjoin
  induction hjoin with
  | refl => exact hm
  | tail _ _ ih => exact mem_placedIn hf ih
theorem Lasting.ite {c : Prop} [Decidable c] {a b : State} (h : Lasting s a) (g : Lasting s b) :
    Lasting s (if c then a else b) := by
  split
  · exact h
  · exact g
theorem Lasting.forEach {ι : Type} {act : ι → State → State} (h : ∀ i s, Lasting s (act i s)) (l : List ι) (s : State) :
    Lasting s (forEach l act s) := forEach_rel .refl .trans h l s

theorem Lasting.place (p : PortIx) (f : Frame) (s : State) : Lasting s (place p f s) :=
  .of_joined (P := fun _ => True) (.place p trivial s)

theorem Lasting.raiseAlarm (k : AlarmKind) (x : Nat) (s : State) : Lasting s (raiseAlarm k x s) :=
  .of_joined (raiseAlarm_joined ..)
theorem Lasting.raiseEvent (k : AlarmKind) (x : Nat) (s : State) : Lasting s (raiseEvent k x s) :=
  .of_joined (raiseEvent_joined ..)
theorem Lasting.clearAlarm (k : AlarmKind) (x : Nat) (s : State) : Lasting s (clearAlarm k x s) :=
  .of_joined (clearAlarm_joined ..)

theorem Lasting.evalDelay (h : HpuIx) (s : State) : Lasting s (evalDelay h s) := by
  unfold Machine.evalDelay
  refine .ite (.ite (.refl s) ?_) (.ite ?_ (.refl s))
  · exact (Lasting.raiseAlarm ..).after rfl
  · exact (Lasting.clearAlarm ..).after rfl

theorem Lasting.admitDoor (d : DoorIx) (s : State) : Lasting s (admitDoor d s) := by
  unfold Machine.admitDoor
  split
  · exact (Lasting.evalDelay ..).after rfl
  · exact .refl s

theorem Lasting.overtake (d : DoorIx) (s : State) : Lasting s (overtake d s) := by
  unfold Machine.overtake
  split
  · exact .of_sp rfl
  · exact .refl s

theorem Lasting.lookAhead (h : HpuIx) (head : DoorIx) (l : List DoorIx) (s : State) : Lasting s (lookAhead h head l s) := by
  induction l generalizing s with
  | nil => exact .refl s
  | cons x rest ih => exact .ite (.refl s) (.ite (((Lasting.admitDoor ..).trans (.overtake ..)).trans (ih _)) (ih _))

theorem Lasting.passWalk (h : HpuIx) (l : List DoorIx) (s : State) : Lasting s (passWalk h l s) := by
  induction l generalizing s with
  | nil => exact .refl s
  | cons x rest ih => exact .ite ((Lasting.admitDoor ..).trans (ih _)) (.lookAhead ..)

theorem Lasting.pass (h : HpuIx) (s : State) : Lasting s (pass h s) := .passWalk ..

end

/-! ### How many frames join a queue -/

/-- At most `n` frames more wait at each port. -/
structure Grown (n : Nat) (s t : State) : Prop where
  port : ∀ q : PortIx, t.sp[q].queue.length ≤ s.sp[q].queue.length + n

theorem length_placedIn_succ (f : Frame) (q : List Frame) : (placedIn f q).length ≤ q.length + 1 := by
  have hkept (P : Frame → Bool) : (q.eraseP P ++ [f]).length ≤ q.length + 1 := by
    rw [List.length_append]
    exact Nat.add_le_add_right (List.length_eraseP_le ..) 1
  unfold placedIn placing
  split
  · next heq =>
    split at heq
    · cases heq; simp
    split at heq
    · cases heq
    split at heq
    · cases heq; exact hkept _
    · cases heq
  · next heq =>
    split at heq
    · cases heq
    split at heq
    · cases heq; exact hkept _
    split at heq <;> cases heq
  · omega

section
variable {s t u : State} {m n : Nat}

theorem Grown.refl (s : State) : Grown n s s := ⟨fun _ => Nat.le_add_right ..⟩
theorem Grown.trans (h : Grown m s t) (g : Grown n t u) : Grown (m + n) s u :=
  ⟨fun q => by have := h.port q; have := g.port q; omega⟩
theorem Grown.mono (h : Grown m s t) (hmn : m ≤ n) : Grown n s t := ⟨fun q => by have := h.port q; omega⟩
theorem Grown.of_sp (h : t.sp = s.sp) : Grown n s t := ⟨fun q => by rw [h]; exact Nat.le_add_right ..⟩
theorem Grown.after (g : Grown n t u) (h : t.sp = s.sp) : Grown n s u := ⟨fun q => by rw [← h]; exact g.port q⟩
theorem Grown.ite {c : Prop} [Decidable c] {a b : State} (h : Grown n s a) (g : Grown n s b) :
    Grown n s (if c then a else b) := by
  split
  · exact h
  · exact g

theorem Grown.place (p : PortIx) (f : Frame) (s : State) : Grown 1 s (place p f s) := by
  refine ⟨fun q => ?_⟩
  rw [queue_place]
  split
  · exact length_placedIn_succ ..
  · omega

/-- The queue of a port after a frame was placed at each port of a list. -/
theorem queue_placeEach {ports : List PortIx} (f : Frame) (hnodup : ports.Nodup) (q : PortIx) (s : State) :
    (forEach ports (fun p => place p f) s).sp[q].queue = if q ∈ ports then placedIn f s.sp[q].queue else s.sp[q].queue := by
  induction ports generalizing s with
  | nil => rfl
  | cons p rest ih =>
    obtain ⟨hp, hrest⟩ := List.nodup_cons.mp hnodup
    show (forEach rest (fun p => place p f) (Machine.place p f s)).sp[q].queue = _
    rw [ih hrest, queue_place]
    by_cases hpq : p = q
    · subst hpq; simp [hp]
    · simp [hpq, Ne.symm hpq]

theorem Grown.placeEach {ports : List PortIx} (f : Frame) (hnodup : ports.Nodup) (s : State) :
    Grown 1 s (forEach ports (fun p => Machine.place p f) s) := by
  refine ⟨fun q => ?_⟩
  rw [queue_placeEach f hnodup]
  split
  · exact length_placedIn_succ ..
  · omega

variable (s) (r : AlarmRecord) (k : AlarmKind) (x : Nat)

theorem Grown.notify (c : Change) : Grown 1 s (notify c r s) :=
  .placeEach _ ((List.nodup_finRange 8).filter _) s
theorem Grown.updateRecord : Grown 1 s (updateRecord r s) :=
  (Grown.notify ..).after rfl
theorem Grown.createRecord (st : AlarmState) : Grown 1 s (createRecord k x st s) :=
  (Grown.notify ..).after rfl
theorem Grown.reraise : Grown 1 s (reraise r s) := .ite (.updateRecord ..) (.refl s)
theorem Grown.raiseListFull : Grown 1 s (raiseListFull s) := by
  unfold Machine.raiseListFull
  split
  · exact .reraise ..
  · exact .createRecord ..
theorem Grown.loseRaise : Grown 1 s (loseRaise s) := (Grown.raiseListFull _).after rfl
theorem Grown.raiseAlarm : Grown 1 s (raiseAlarm k x s) := by
  unfold Machine.raiseAlarm
  split
  · exact .reraise ..
  · exact .ite (.createRecord ..) (.loseRaise ..)
theorem Grown.raiseEvent : Grown 1 s (raiseEvent k x s) := by
  unfold Machine.raiseEvent
  split
  · exact .ite (.updateRecord ..) (.refl s)
  · exact .ite (.createRecord ..) (.loseRaise ..)
theorem Grown.dropRecord : Grown 1 s (dropRecord r s) := by
  have hremoved (u : State) : (onRemoval r u).sp = u.sp := by
    unfold onRemoval
    split
    · split <;> rfl
    · rfl
  have hnoticed : Grown 1 s (Machine.notify .REMOVED r (setRecords (s.al.records.filter fun q => !q.isFor r.kind r.subject) s)) :=
    (Grown.notify ..).after rfl
  exact hnoticed.trans (n := 0) (.of_sp (hremoved _))
theorem Grown.clearRecord : Grown 1 s (clearRecord r s) := by
  unfold Machine.clearRecord
  split
  · exact .updateRecord ..
  · exact .dropRecord ..
  · exact .refl s
theorem Grown.testListFull : Grown 1 s (testListFull s) := by
  unfold Machine.testListFull
  split
  · exact .ite (.clearRecord ..) (.refl s)
  · exact .refl s
theorem Grown.removeRecord : Grown 2 s (removeRecord r s) := (Grown.dropRecord s r).trans (.testListFull _)
theorem Grown.clearAlarm : Grown 2 s (clearAlarm k x s) := by
  unfold Machine.clearAlarm
  split
  · exact .ite (.removeRecord ..) (.mono (.clearRecord ..) (by omega))
  · exact .refl s

end

/-! ### The frame of a report -/

/-- What a report of a tag keeps: everything but GRU, the queues and the pending flags of the summaries. -/
structure ReportFrame (s t : State) : Prop extends RunFrame s t where
  cs : t.cs = s.cs
  ms : t.ms = s.ms
  mc : t.mc = s.mc
  rc : t.rc = s.rc
  al : t.al = s.al
  lasting : Lasting s t

section
variable {s t u : State}

theorem ReportFrame.refl (s : State) : ReportFrame s s := ⟨.refl s, rfl, rfl, rfl, rfl, rfl, .refl s⟩
theorem ReportFrame.trans (h : ReportFrame s t) (g : ReportFrame t u) : ReportFrame s u :=
  ⟨h.toRunFrame.trans g.toRunFrame, g.cs.trans h.cs, g.ms.trans h.ms, g.mc.trans h.mc, g.rc.trans h.rc, g.al.trans h.al,
    h.lasting.trans g.lasting⟩
theorem ReportFrame.of_place (h : PlaceFrame s t) (hl : Lasting s t) : ReportFrame s t :=
  ⟨h.toRunFrame, h.cs, h.ms, h.mc, h.rc, h.al, hl⟩

theorem ReportFrame.setSlot (i : SlotIx) (x : Option Run) (s : State) : ReportFrame s (setSlot i x s) :=
  ⟨.setSlot .., rfl, rfl, rfl, rfl, rfl, .of_sp rfl⟩
theorem ReportFrame.setSlotting (l : List SlotIx) (s : State) : ReportFrame s (setSlotting l s) :=
  ⟨.setSlotting .., rfl, rfl, rfl, rfl, rfl, .of_sp rfl⟩
theorem ReportFrame.setStack (l : List Run) (s : State) : ReportFrame s (setStack l s) :=
  ⟨.setStack .., rfl, rfl, rfl, rfl, rfl, .of_sp rfl⟩
theorem ReportFrame.setResumed (l : List SlotIx) (s : State) : ReportFrame s (setResumed l s) :=
  ⟨.setResumed .., rfl, rfl, rfl, rfl, rfl, .of_sp rfl⟩
theorem ReportFrame.modRun (n : Byte) (f : Run → Run) (s : State) : ReportFrame s (modRun n f s) :=
  ⟨.modRun .., rfl, rfl, rfl, rfl, rfl, .of_sp rfl⟩
theorem ReportFrame.sendReport (m : EndMark) (r : Run) (s : State) : ReportFrame s (sendReport m r s) :=
  .of_place (.sendReport ..) (.forEach (fun _ _ => .place ..) _ s)

theorem ReportFrame.resumeTop (i : SlotIx) (l : List Run) (s : State) : ReportFrame s (resumeTop i l s) := by
  induction l generalizing s with
  | nil => exact .setStack ..
  | cons r rest ih =>
    unfold Machine.resumeTop
    split
    · exact (ReportFrame.sendReport ..).trans (ih _)
    · have taken := ((ReportFrame.setStack rest s).trans (.setSlot i (some { r with slot := i }) _)).trans
        (.setSlotting (s.gru.slotting ++ [i]) _)
      simp only
      split
      · exact taken.trans (.setResumed ..)
      · exact taken

theorem ReportFrame.vacate (i : SlotIx) (s : State) : ReportFrame s (vacate i s) := by
  unfold Machine.vacate
  simp only
  have freed := (ReportFrame.setSlot i none s).trans (.setSlotting (s.gru.slotting.filter fun k => decide (k ≠ i)) _)
  split
  · exact freed
  · exact freed.trans (.resumeTop ..)

theorem ReportFrame.completeSlot (i : SlotIx) (s : State) : ReportFrame s (completeSlot i s) := by
  unfold Machine.completeSlot
  split
  · split
    · exact (ReportFrame.sendReport ..).trans (.vacate ..)
    · exact .refl s
  · exact .refl s

theorem ReportFrame.completeRun (number : Byte) (s : State) : ReportFrame s (completeRun number s) := by
  unfold Machine.completeRun completeStacked
  split
  · exact .completeSlot ..
  · split
    · exact (ReportFrame.sendReport ..).trans (.setStack ..)
    · exact .refl s

theorem ReportFrame.countTag (tag : Option RunTag) (fate : TagFate) (s : State) : ReportFrame s (countTag tag fate s) := by
  unfold Machine.countTag
  split
  · exact .modRun ..
  · exact .refl s

theorem ReportFrame.reportTag (tag : Option RunTag) (fate : TagFate) (s : State) : ReportFrame s (reportTag tag fate s) := by
  unfold Machine.reportTag
  split
  · exact (ReportFrame.countTag ..).trans (.completeRun ..)
  · exact .refl s

end

/-! ### The live contexts -/

section
variable {s t : State} {i j : SlotIx} {r x : Run}

theorem mem_liveRuns : r ∈ liveRuns s ↔ (∃ i : SlotIx, s.gru.slots[i] = some r) ∨ r ∈ s.gru.stack := by
  unfold liveRuns allSlots
  simp only [List.mem_append, List.mem_filterMap, List.mem_finRange, true_and]

theorem liveRuns_of_slot (h : s.gru.slots[i] = some r) : r ∈ liveRuns s := mem_liveRuns.mpr (.inl ⟨i, h⟩)
theorem liveRuns_of_stack (h : r ∈ s.gru.stack) : r ∈ liveRuns s := mem_liveRuns.mpr (.inr h)

theorem liveRuns_congr (hslots : ∀ i : SlotIx, t.gru.slots[i] = s.gru.slots[i]) (hstack : t.gru.stack = s.gru.stack) :
    liveRuns t = liveRuns s := by
  unfold liveRuns
  rw [hstack, show (fun i : SlotIx => t.gru.slots[i]) = fun i => s.gru.slots[i] from funext hslots]

/-- The live run numbers are distinct. -/
def DistinctNumbers (s : State) : Prop := ((liveRuns s).map Run.number).Nodup

theorem distinctNumbers_iff : DistinctNumbers s ↔
    (∀ i j : SlotIx, i ≠ j → ∀ r ∈ s.gru.slots[i], ∀ x ∈ s.gru.slots[j], r.number ≠ x.number)
    ∧ (s.gru.stack.map Run.number).Nodup
    ∧ ∀ i : SlotIx, ∀ r ∈ s.gru.slots[i], ∀ x ∈ s.gru.stack, r.number ≠ x.number := by
  unfold DistinctNumbers liveRuns
  rw [List.map_append, List.nodup_append]
  refine and_congr ?_ (and_congr Iff.rfl ?_)
  · rw [List.Nodup, List.pairwise_map, List.pairwise_filterMap, List.pairwise_iff_getElem]
    unfold allSlots
    simp only [List.length_finRange, List.getElem_finRange, Option.mem_def]
    constructor
    · intro h i j hij r hr x hx
      rcases Nat.lt_or_gt_of_ne (Fin.val_ne_of_ne hij) with hlt | hgt
      · exact h i.val j.val i.isLt j.isLt hlt r hr x hx
      · exact (h j.val i.val j.isLt i.isLt hgt x hx r hr).symm
    · intro h a b ha hb hab r hr x hx
      exact h ⟨a, ha⟩ ⟨b, hb⟩ (by simp; omega) r hr x hx
  · simp only [List.mem_map, List.mem_filterMap, allSlots, List.mem_finRange, true_and, Option.mem_def]
    constructor
    · exact fun h i r hr x hx => h r.number ⟨r, ⟨i, hr⟩, rfl⟩ x.number ⟨x, hx, rfl⟩
    · rintro h _ ⟨r, ⟨i, hr⟩, rfl⟩ _ ⟨x, hx, rfl⟩
      exact h i r hr x hx

theorem slotNumbered_eq (h : DistinctNumbers s) (hr : s.gru.slots[i] = some r) : slotNumbered s r.number = some i := by
  unfold slotNumbered
  have hdistinct := (distinctNumbers_iff.mp h).1
  cases hfind : allSlots.find? fun k => match s.gru.slots[k] with
    | some x => decide (x.number = r.number)
    | none => false with
  | none =>
    have := List.find?_eq_none.mp hfind i (List.mem_finRange i)
    rw [hr] at this
    simp at this
  | some k =>
    have hk := List.find?_some hfind
    split at hk
    · next x hx =>
      by_cases hki : k = i
      · rw [hki]
      · exact absurd (of_decide_eq_true hk) (hdistinct k i hki x hx r hr)
    · cases hk

theorem slotNumbered_eq_none {n : Byte} (h : ∀ i : SlotIx, ∀ r ∈ s.gru.slots[i], r.number ≠ n) : slotNumbered s n = none := by
  unfold slotNumbered
  refine List.find?_eq_none.mpr fun i _ => ?_
  split
  · next r hr => simpa using h i r hr
  · simp

theorem slotNumbered_eq_some {n : Byte} (h : slotNumbered s n = some i) : ∃ r, s.gru.slots[i] = some r ∧ r.number = n := by
  have := List.find?_some h
  split at this
  · next r hr => exact ⟨r, hr, of_decide_eq_true this⟩
  · cases this

end

/-! ### What a report of a tag makes of the contexts -/

/-- The fate of a tag in the context that holds its number. -/
def fated (tag : Option RunTag) (fate : TagFate) (r : Run) : Run :=
  match tag with
  | some x => if r.number = x.number then r.takeFate fate else r
  | none => r

theorem overruledBy_eq (tag : Option RunTag) : overruledBy tag = fated tag .overruled := rfl
theorem completedBy_eq (tag : Option RunTag) : completedBy tag = fated tag .completed := rfl
theorem faultedBy_eq (tag : Option RunTag) : faultedBy tag = fated tag .faulted := rfl

section
variable {s u t : State} {i : SlotIx} {r x : Run} {tag : Option RunTag} {fate : TagFate} {f : Run → Run}

@[simp] theorem takeFate_number (fate : TagFate) (r : Run) : (r.takeFate fate).number = r.number := by cases fate <;> rfl
@[simp] theorem takeFate_origin (fate : TagFate) (r : Run) : (r.takeFate fate).origin = r.origin := by cases fate <;> rfl
@[simp] theorem takeFate_state (fate : TagFate) (r : Run) : (r.takeFate fate).state = r.state := by cases fate <;> rfl
@[simp] theorem takeFate_cls (fate : TagFate) (r : Run) : (r.takeFate fate).cls = r.cls := by cases fate <;> rfl

theorem fated_number (tag : Option RunTag) (fate : TagFate) (r : Run) : (fated tag fate r).number = r.number := by
  unfold fated
  split
  · split
    · exact takeFate_number ..
    · rfl
  · rfl

theorem fated_origin (tag : Option RunTag) (fate : TagFate) (r : Run) : (fated tag fate r).origin = r.origin := by
  unfold fated
  split
  · split
    · exact takeFate_origin ..
    · rfl
  · rfl

theorem fated_of_ne {tg : RunTag} (h : r.number ≠ tg.number) : fated (some tg) fate r = r := if_neg h

/-- R34, R96: the count of a tag changes each context by the fate, and nothing else of GRU. -/
theorem countTag_gru (tag : Option RunTag) (fate : TagFate) (s : State) :
    (∀ i : SlotIx, (countTag tag fate s).gru.slots[i] = (s.gru.slots[i]).map (fated tag fate))
    ∧ (countTag tag fate s).gru.stack = s.gru.stack.map (fated tag fate)
    ∧ (countTag tag fate s).gru.slotting = s.gru.slotting ∧ (countTag tag fate s).gru.resumed = s.gru.resumed
    ∧ (countTag tag fate s).sp = s.sp := by
  cases tag with
  | none =>
    have hid : fated none fate = id := rfl
    refine ⟨fun i => ?_, ?_, rfl, rfl, rfl⟩
    · rw [hid, Option.map_id]; rfl
    · rw [hid, List.map_id]; rfl
  | some tg =>
    refine ⟨fun i => ?_, rfl, rfl, rfl, rfl⟩
    show (updAll s.gru.slots _)[i] = _
    rw [Fin.getElem_fin, getElem_updAll]
    rfl

theorem liveRuns_countTag (tag : Option RunTag) (fate : TagFate) (s : State) :
    liveRuns (countTag tag fate s) = (liveRuns s).map (fated tag fate) := by
  obtain ⟨hslots, hstack, -⟩ := countTag_gru tag fate s
  unfold liveRuns
  rw [hstack, List.map_append, List.map_filterMap,
    show (fun i : SlotIx => (countTag tag fate s).gru.slots[i]) = fun i => (s.gru.slots[i]).map (fated tag fate) from funext hslots]

theorem distinctNumbers_countTag (h : DistinctNumbers s) (tag : Option RunTag) (fate : TagFate) :
    DistinctNumbers (countTag tag fate s) := by
  unfold DistinctNumbers
  rw [liveRuns_countTag, List.map_map, show Run.number ∘ fated tag fate = Run.number from funext (fated_number tag fate)]
  exact h

/-- Where no context completes at it, a report of a tag counts alone. -/
theorem reportTag_eq_countTag (h : ∀ r ∈ liveRuns s, (fated tag fate r).done = false) :
    reportTag tag fate s = countTag tag fate s := by
  cases tag with
  | none => rfl
  | some tg =>
    refine completeRun_eq_self fun r hr => ?_
    rw [liveRuns_countTag] at hr
    obtain ⟨x, hx, rfl⟩ := List.mem_map.mp hr
    exact h x hx

theorem nodup_reportPorts (s : State) (r : Run) : (reportPorts s r).Nodup := by
  unfold reportPorts
  split
  · exact List.nodup_singleton _
  all_goals exact (List.nodup_finRange 8).filter _

theorem Grown.sendReport (m : EndMark) (r : Run) (s : State) : Grown 1 s (sendReport m r s) :=
  .placeEach _ (nodup_reportPorts ..) s

/-- R97: a RUN_REPORT waits at each port of its destination that had room. -/
theorem reportSent_sendReport {m : EndMark} (htables : u.tables = s.tables) (hgrown : Grown 22 s u) : ReportSent s (sendReport m r u) m r := by
  intro q hq hroom
  have hmem : q ∈ reportPorts u r := by
    have hrole : u.roleAt q = s.roleAt q := by unfold State.roleAt State.row; rw [htables]
    unfold reportPorts
    rcases hq with hq | ⟨ho, hrole'⟩
    · rw [hq]; exact List.mem_singleton_self q
    · rw [← hrole] at hrole'
      have hports : q ∈ allPorts.filter fun p => decide (u.roleAt p = .BRIDGE) || decide (u.roleAt p = .SAFETY) :=
        List.mem_filter.mpr ⟨List.mem_finRange q, by simpa using hrole'⟩
      rcases List.mem_pair.mp ho with ho | ho <;> rw [ho] <;> exact hports
  show _ ∈ (forEach (reportPorts u r) (fun p => place p (runReport m r)) u).sp[q].queue
  rw [queue_placeEach _ (nodup_reportPorts ..), if_pos hmem, placedIn_of_room]
  · exact List.mem_append_right _ (List.mem_singleton_self _)
  · have := hgrown.port q; unfold queueSize; omega

theorem ReportSent.mono {m : EndMark} (h : ReportSent s u m r) (hl : Lasting u t) : ReportSent s t m r :=
  fun q hq hroom => hl.stays q _ ⟨rfl, rfl⟩ (h q hq hroom)

end

end Sys2Proof.Proofs
end

section
/-! ## A report told to the runs (R34, R96 to R99) -/
namespace Sys2Proof.Proofs
open Sys2Proof Sys2Proof.Machine

set_option Elab.async false

section
variable {s t u : State} {i : SlotIx} {r x : Run} {tag : Option RunTag} {fate : TagFate} {f : Run → Run}

theorem completeSlot_done (hr : s.gru.slots[i] = some r) (hd : r.done = true) :
    completeSlot i s = vacate i (sendReport .COMPLETE r s) := by
  unfold completeSlot
  rw [hr]
  exact if_pos hd

/-- R98: a slot that is given up takes no context where it is S or none is stacked. -/
theorem vacate_gru (h : i = slotS ∨ s.gru.stack = []) :
    (vacate i s).gru = { s.gru with slots := put s.gru.slots i none
                                    slotting := s.gru.slotting.filter fun k => decide (k ≠ i) } := by
  unfold vacate
  simp only
  split
  · rfl
  · next hi =>
    have hempty := h.resolve_left hi
    show (resumeTop i s.gru.stack _).gru = _
    rw [hempty]
    unfold resumeTop
    simp only [setStack, setSlotting, setSlot]

/-- R98: the top of the stack resumes into a station slot that is given up. -/
theorem vacate_gru_resumes {rest : List Run} (hi : i ≠ slotS) (hstack : s.gru.stack = x :: rest) (hx : x.done = false) :
    (vacate i s).gru = { s.gru with slots := put (put s.gru.slots i none) i (some { x with slot := i })
                                    slotting := (s.gru.slotting.filter fun k => decide (k ≠ i)) ++ [i]
                                    stack := rest
                                    resumed := if x.state = .WAITING then s.gru.resumed ++ [i] else s.gru.resumed } := by
  unfold vacate
  simp only
  rw [if_neg hi]
  show (resumeTop i s.gru.stack _).gru = _
  rw [hstack]
  unfold resumeTop
  rw [if_neg (by simp [hx])]
  simp only [setStack, setSlotting, setSlot, setResumed]
  split <;> rfl

/-- A context that a fate completes carries the tag's number. -/
theorem number_of_fated_done (hr : r.done = false) (hd : (fated tag fate r).done = true) :
    ∃ tg, tag = some tg ∧ r.number = tg.number := by
  unfold fated at hd
  split at hd
  · next tg =>
    split at hd
    · next hn => exact ⟨tg, rfl, hn⟩
    · rw [hr] at hd; cases hd
  · rw [hr] at hd; cases hd

theorem map_fated_eq {l : List Run} {tg : RunTag} (h : ∀ x ∈ l, x.number ≠ tg.number) : l.map (fated (some tg) fate) = l :=
  (List.map_congr_left fun x hx => fated_of_ne (h x hx)).trans (List.map_id l)

/-- R34, R96 to R99: what GRU holds after CS reported a tag. -/
theorem told_reportTag (tag : Option RunTag) (fate : TagFate) (hgru : u.gru = s.gru) (htables : u.tables = s.tables)
    (hgrown : Grown 22 s u) : Told s (reportTag tag fate u) (fated tag fate) := by
  have hlive : liveRuns u = liveRuns s := by unfold liveRuns; rw [hgru]
  obtain ⟨hslots, hstack, hslotting, hresumed, hsp⟩ := countTag_gru tag fate u
  rw [hgru] at hslots hstack hslotting hresumed
  refine ⟨(RunFrame.reportTag ..).counter.trans (by rw [hgru]), fun hnone => ?_, fun htag hsettled => ⟨fun i r hr hdone => ?_,
    fun r hr hdone => ?_⟩⟩
  · rw [reportTag_eq_countTag (by rw [hlive]; exact hnone)]
    exact ⟨hslots, hstack, hslotting, hresumed⟩
  · have hdistinct : DistinctNumbers s := htag.1
    obtain ⟨hnumbers, hstacked, hacross⟩ := distinctNumbers_iff.mp hdistinct
    obtain ⟨tg, rfl, hn⟩ := number_of_fated_done (hsettled.1 r (liveRuns_of_slot hr)) hdone
    have hci : (countTag (some tg) fate u).gru.slots[i] = some (fated (some tg) fate r) := by rw [hslots, hr]; rfl
    have hfound : slotNumbered (countTag (some tg) fate u) tg.number = some i := by
      have hd : DistinctNumbers u := by unfold DistinctNumbers; rw [hlive]; exact hdistinct
      rw [← hn, ← fated_number (some tg) fate r]
      exact slotNumbered_eq (distinctNumbers_countTag hd ..) hci
    have hstack' : (countTag (some tg) fate u).gru.stack = s.gru.stack := by
      rw [hstack]
      exact map_fated_eq fun x hx => by rw [← hn]; exact (hacross i r hr x hx).symm
    have hothers (j : SlotIx) (hji : j ≠ i) : (countTag (some tg) fate u).gru.slots[j] = s.gru.slots[j] := by
      rw [hslots]
      cases hj : s.gru.slots[j] with
      | none => rfl
      | some x => exact congrArg some (fated_of_ne (by rw [← hn]; exact hnumbers j i hji x hj r hr))
    have hrun : reportTag (some tg) fate u = vacate i (sendReport .COMPLETE (fated (some tg) fate r) (countTag (some tg) fate u)) := by
      show completeRun tg.number _ = _
      unfold completeRun
      rw [hfound]
      exact completeSlot_done hci hdone
    have hsent := (PlaceFrame.sendReport .COMPLETE (fated (some tg) fate r) (countTag (some tg) fate u)).gru
    have hreport : ReportSent s (reportTag (some tg) fate u) .COMPLETE (fated (some tg) fate r) := by
      rw [hrun]
      refine ReportSent.mono ?_ (ReportFrame.vacate ..).lasting
      exact reportSent_sendReport ((RunFrame.countTag ..).tables.trans htables) ⟨fun q => by rw [hsp]; exact hgrown.port q⟩
    refine ⟨hreport, fun j hji => ?_, fun hfree => ?_, fun hi x hx => ?_⟩
    · rw [hrun, ← hothers j hji]
      by_cases hfree : i = slotS ∨ s.gru.stack = []
      · rw [vacate_gru (by rw [hsent, hstack']; exact hfree), hsent]
        simp only [Fin.getElem_fin, getElem_put]
        rw [if_neg (fun h => hji (Fin.ext h).symm)]
      · obtain ⟨hi, hne⟩ := not_or.mp hfree
        obtain ⟨x, rest, hcons⟩ := List.exists_cons_of_ne_nil hne
        rw [vacate_gru_resumes hi (by rw [hsent, hstack']; exact hcons)
          (hsettled.1 x (liveRuns_of_stack (by rw [hcons]; exact List.mem_cons_self))), hsent]
        simp only [Fin.getElem_fin, getElem_put]
        rw [if_neg (fun h => hji (Fin.ext h).symm), if_neg (fun h => hji (Fin.ext h).symm)]
    · unfold SlotIdle
      rw [hrun, vacate_gru (by rw [hsent, hstack']; exact hfree), hsent]
      refine ⟨?_, hstack', hresumed.trans hsettled.2, by rw [← hslotting]⟩
      simp
    · obtain ⟨rest, hcons⟩ : ∃ rest, s.gru.stack = x :: rest := by
        cases hst : s.gru.stack with
        | nil => rw [hst] at hx; cases hx
        | cons y rest => rw [hst] at hx; cases hx; exact ⟨rest, rfl⟩
      rw [hrun, vacate_gru_resumes hi (by rw [hsent, hstack']; exact hcons)
          (hsettled.1 x (liveRuns_of_stack (by rw [hcons]; exact List.mem_cons_self))), hsent]
      refine ⟨?_, by rw [hcons]; rfl, by rw [← hslotting], ?_⟩
      · simp
      · rw [hresumed, hsettled.2]; rfl
  · have hdistinct : DistinctNumbers s := htag.1
    obtain ⟨hnumbers, hstacked, hacross⟩ := distinctNumbers_iff.mp hdistinct
    obtain ⟨tg, rfl, hn⟩ := number_of_fated_done (hsettled.1 r (liveRuns_of_stack hr)) hdone
    have hslots' : (countTag (some tg) fate u).gru.slots = s.gru.slots := by
      refine Vector.ext fun k hk => ?_
      have := hslots ⟨k, hk⟩
      simp only [Fin.getElem_fin] at this
      rw [this]
      cases hx : s.gru.slots[k] with
      | none => rfl
      | some x => exact congrArg some (fated_of_ne (by rw [← hn]; exact hacross ⟨k, hk⟩ x hx r hr))
    have hnotfound : slotNumbered (countTag (some tg) fate u) tg.number = none := by
      refine slotNumbered_eq_none fun i x hx => ?_
      rw [hslots'] at hx
      rw [← hn]
      exact hacross i x hx r hr
    have hfind : ((countTag (some tg) fate u).gru.stack.find? fun x => decide (x.number = tg.number) && x.done)
        = some (fated (some tg) fate r) := by
      have hmem : fated (some tg) fate r ∈ (countTag (some tg) fate u).gru.stack := by
        rw [hstack]; exact List.mem_map_of_mem hr
      cases hfind : (countTag (some tg) fate u).gru.stack.find? fun x => decide (x.number = tg.number) && x.done with
      | none =>
        have := List.find?_eq_none.mp hfind _ hmem
        rw [fated_number, hdone, hn] at this
        simp at this
      | some y =>
        have hy := List.find?_some hfind
        have hymem := List.mem_of_find?_eq_some hfind
        rw [hstack] at hymem
        obtain ⟨z, hz, rfl⟩ := List.mem_map.mp hymem
        rw [fated_number] at hy
        have hzn : z.number = r.number := by
          rw [hn]; exact of_decide_eq_true (Bool.and_eq_true_iff.mp hy).1
        rw [List.inj_on_of_nodup_map hstacked hz hr hzn]
    have hrun : reportTag (some tg) fate u = setStack ((countTag (some tg) fate u).gru.stack.filter fun x => decide (x.number ≠ tg.number))
        (sendReport .COMPLETE (fated (some tg) fate r) (countTag (some tg) fate u)) := by
      show completeRun tg.number _ = _
      unfold completeRun completeStacked
      rw [hnotfound]
      simp only
      rw [hfind]
    have hsent := (PlaceFrame.sendReport .COMPLETE (fated (some tg) fate r) (countTag (some tg) fate u)).gru
    rw [hrun]
    refine ⟨?_, ?_, ?_, ?_⟩
    · refine ReportSent.mono ?_ (ReportFrame.setStack ..).lasting
      exact reportSent_sendReport ((RunFrame.countTag ..).tables.trans htables) ⟨fun q => by rw [hsp]; exact hgrown.port q⟩
    · show (sendReport _ _ _).gru.slots = _
      rw [hsent, hslots']
    · show (sendReport _ _ _).gru.slotting = _
      rw [hsent, hslotting]
    · show (countTag (some tg) fate u).gru.stack.filter _ = _
      rw [hstack, hn, List.filter_map]
      rw [show ((fun x : Run => decide (x.number ≠ tg.number)) ∘ fated (some tg) fate) = fun x => decide (x.number ≠ tg.number) from
        funext fun x => by simp only [Function.comp_apply, fated_number]]
      exact map_fated_eq fun x hx => of_decide_eq_true (List.mem_filter.mp hx).2

theorem Told.mono (h : Told s u f) (hgru : t.gru = u.gru) (hl : Lasting u t) : Told s t f := by
  obtain ⟨hcounter, hstand, hcomplete⟩ := h
  unfold Told SlotIdle
  rw [hgru]
  refine ⟨hcounter, hstand, fun htag hsettled => ?_⟩
  obtain ⟨hslot, hstack⟩ := hcomplete htag hsettled
  exact ⟨fun i r hr hdone => (hslot i r hr hdone).imp_left fun hsent => ReportSent.mono hsent hl,
    fun r hr hdone => (hstack r hr hdone).imp_left fun hsent => ReportSent.mono hsent hl⟩

end

end Sys2Proof.Proofs
end

section
/-! ## What a demand leaves (O20, O21) -/
namespace Sys2Proof.Proofs
open Sys2Proof Sys2Proof.Machine

set_option Elab.async false

/-! ### The end of a passage record (R33, R119, R121) -/

/-- What the end of a door's passage record keeps. -/
structure Ending (d : DoorIx) (s t : State) : Prop extends RunFrame s t where
  cs : t.cs = s.cs
  gru : t.gru = s.gru
  ms : t.ms = s.ms
  rc : t.rc = s.rc
  oas : t.mc.oas = s.mc.oas
  others : ∀ x : DoorIx, x ≠ d → t.passage x = s.passage x
  lasting : Lasting s t

section
variable {s t u : State} {d x : DoorIx} {m : Demand}

theorem Ending.refl (d : DoorIx) (s : State) : Ending d s s :=
  ⟨.refl s, rfl, rfl, rfl, rfl, rfl, fun _ _ => rfl, .refl s⟩

theorem Ending.trans (h : Ending d s t) (g : Ending d t u) : Ending d s u :=
  ⟨h.toRunFrame.trans g.toRunFrame, g.cs.trans h.cs, g.gru.trans h.gru, g.ms.trans h.ms, g.rc.trans h.rc, g.oas.trans h.oas,
    fun x hx => (g.others x hx).trans (h.others x hx), h.lasting.trans g.lasting⟩

theorem Ending.endPassage (d : DoorIx) (s : State) : Ending d s (endPassage d s) := by
  have ha := AlarmFrame.clearDoor .PASSAGE_OVERDUE d (s.dropPassage d)
  refine ⟨(RunFrame.dropPassage s d).trans ha.toRunFrame, ha.cs, ha.gru, ms_clearAlarm (by decide) .., ha.rc, by
    show (Machine.clearDoor _ d _).mc.oas = _
    rw [ha.mc]; rfl, fun x hx => ?_, (Lasting.clearAlarm ..).after rfl⟩
  show (Machine.clearDoor _ d _).mc.passages[x] = _
  rw [ha.mc]
  simp only [State.dropPassage, Fin.getElem_fin, getElem_put]
  rw [if_neg (fun h => hx (Fin.ext h).symm)]
  rfl

theorem Ending.endBeaten (m : Demand) (s : State) : Ending m.door s (endBeaten m s) := by
  unfold Machine.endBeaten
  split
  · exact .endPassage ..
  · exact .refl ..

theorem Ending.recloseGone (d : DoorIx) (dir : Direction) (s : State) : Ending d s (recloseGone d dir s) := by
  unfold Machine.recloseGone
  split
  · split
    · exact .endPassage ..
    · exact .refl ..
  · exact .refl ..

theorem Grown.endPassage (d : DoorIx) (s : State) : Grown 2 s (endPassage d s) := (Grown.clearAlarm ..).after rfl

theorem Grown.endBeaten (m : Demand) (s : State) : Grown 2 s (endBeaten m s) := by
  unfold Machine.endBeaten
  exact .ite (.endPassage ..) (.refl s)

theorem Grown.recloseGone (d : DoorIx) (dir : Direction) (s : State) : Grown 2 s (recloseGone d dir s) := by
  unfold Machine.recloseGone
  split
  · exact .ite (.endPassage ..) (.refl s)
  · exact .refl s

theorem passage_endBeaten (m : Demand) (s : State) : (endBeaten m s).passage m.door = passageAfter s m := by
  unfold endBeaten passageAfter passageClaims
  cases hx : s.passage m.door with
  | none => simp [hx]
  | some x =>
    simp only [decide_eq_true_eq]
    split
    · exact (passage_endPassage ..).trans (if_pos rfl)
    · exact hx

theorem passage_recloseGone_open (d : DoorIx) (s : State) : recloseGone d .OPEN s = s := by
  unfold recloseGone
  split
  · rw [if_neg (by simp)]
  · rfl

theorem passage_recloseGone_close (d : DoorIx) (s : State) : (recloseGone d .CLOSE s).passage d =
    (s.passage d).filter fun x => decide (x.phase ≠ .RECLOSING) || !x.demanded := by
  unfold recloseGone
  cases hx : s.passage d with
  | none => simp [hx]
  | some x =>
    simp only [and_true, Passage.reclosed, Option.filter_some]
    by_cases hp : x.phase = .RECLOSING <;> cases hdem : x.demanded <;> simp [hp, hx, passage_endPassage]

theorem endBeaten_of_open (hd : m.direction = .OPEN) (s : State) : endBeaten m s = s := by
  unfold endBeaten
  rw [if_neg (by simp [hd])]

/-! ### The arrival number of a new entry (R40, R41) -/

/-- The state in which the entry of a door takes its arrival number. -/
def arrived (d : DoorIx) (s : State) : State := (takeArrival d s).2

/-- The arrival number that the entry of a door takes. -/
def arrivalFor (d : DoorIx) (s : State) : Nat := (takeArrival d s).1

/-- The schedule after a renumbering of the entries but that of a door. -/
theorem arrived_at_top (h : s.cs.nextArrival = arrivalTop) (d : DoorIx) :
    arrivalFor d s = (otherEntries s d).length
    ∧ arrived d s = { s with cs := { (renumber d s).cs with nextArrival := (otherEntries s d).length + 1 } } := by
  unfold arrivalFor arrived takeArrival
  rw [if_pos h]
  unfold renumber
  exact ⟨rfl, rfl⟩

theorem arrived_below_top (h : s.cs.nextArrival ≠ arrivalTop) (d : DoorIx) :
    arrivalFor d s = s.cs.nextArrival ∧ arrived d s = { s with cs := { s.cs with nextArrival := s.cs.nextArrival + 1 } } := by
  unfold arrivalFor arrived takeArrival
  rw [if_neg h]
  exact ⟨rfl, rfl⟩

theorem arrived_eq (d : DoorIx) (s : State) : arrived d s = { s with cs := (arrived d s).cs } := by
  by_cases h : s.cs.nextArrival = arrivalTop
  · rw [(arrived_at_top h d).2]
  · rw [(arrived_below_top h d).2]

theorem arrived_flow (d : DoorIx) (s : State) : (arrived d s).cs.flow = s.cs.flow := by
  by_cases h : s.cs.nextArrival = arrivalTop
  · rw [(arrived_at_top h d).2]
    unfold renumber
    rfl
  · rw [(arrived_below_top h d).2]

theorem arrived_of_below (h : s.cs.nextArrival ≠ arrivalTop) (d : DoorIx) :
    arrivalFor d s = s.cs.nextArrival ∧ (arrived d s).cs = { s.cs with nextArrival := s.cs.nextArrival + 1 } := by
  obtain ⟨hn, hs⟩ := arrived_below_top h d
  exact ⟨hn, by rw [hs]⟩

theorem arrivalRank_eq (s : State) (d : DoorIx) (n : Nat) : arrivalRank s d n = renumbered s d n := by
  unfold arrivalRank renumbered otherEntries
  rw [List.filter_filter]
  congr 1
  refine List.filter_congr fun x _ => ?_
  cases s.entry x <;> simp [Bool.and_comm]

theorem arrived_of_top (h : s.cs.nextArrival = arrivalTop) (d : DoorIx) :
    arrivalFor d s = (otherEntries s d).length ∧ (arrived d s).cs.nextArrival = (otherEntries s d).length + 1
    ∧ ∀ x : DoorIx, x ≠ d →
        (arrived d s).entry x = (s.entry x).map fun e => { e with arrival := renumbered s d e.arrival } := by
  obtain ⟨hn, hs⟩ := arrived_at_top h d
  refine ⟨hn, by rw [hs], fun x hx => ?_⟩
  have hentries : (arrived d s).cs.entries = (renumber d s).cs.entries := by rw [hs]
  unfold State.entry
  rw [hentries]
  unfold renumber
  simp only
  rw [Fin.getElem_fin, getElem_updAll, if_neg hx]
  simp only [arrivalRank_eq]
  rfl

theorem otherEntries_congr (hcs : t.cs = s.cs) (d : DoorIx) : otherEntries t d = otherEntries s d := by
  unfold otherEntries
  rw [show t.entry = s.entry from funext (entry_congr (by rw [hcs]))]

theorem renumbered_congr (hcs : t.cs = s.cs) (d : DoorIx) (n : Nat) : renumbered t d n = renumbered s d n := by
  unfold renumbered
  rw [show t.entry = s.entry from funext (entry_congr (by rw [hcs]))]

/-- The state with the door's entry made new by a demand. -/
abbrev renewed (m : Demand) (s : State) : State :=
  (arrived m.door s).setEntry m.door (m.newEntry (s.preWarn m.door) (arrivalFor m.door s))

theorem claimOf_renewed_self (m : Demand) (s : State) :
    claimOf (renewed m s) m.door = some (m.direction, m.cls, m.group, m.origin, m.tag, arrivalFor m.door s) := by
  unfold claimOf
  rw [entry_setEntry, if_pos rfl]
  rfl

theorem claimOf_renewed_of_ne (hx : x ≠ m.door) : claimOf (renewed m s) x = claimOf (arrived m.door s) x := by
  unfold claimOf
  rw [entry_setEntry, if_neg (Ne.symm hx)]

/-- R40: below the top the new entry takes the next arrival number, and every other entry keeps its claim. -/
theorem claims_of_below (hu : u.cs = s.cs) (htop : s.cs.nextArrival ≠ arrivalTop)
    (hclaims : ∀ x, claimOf t x = claimOf (renewed m u) x) (hnext : t.cs.nextArrival = (arrived m.door u).cs.nextArrival) :
    claimOf t m.door = some (m.direction, m.cls, m.group, m.origin, m.tag, s.cs.nextArrival)
    ∧ (∀ x : DoorIx, x ≠ m.door → claimOf t x = claimOf s x) ∧ t.cs.nextArrival = s.cs.nextArrival + 1 := by
  obtain ⟨hn, hcs⟩ := arrived_of_below (s := u) (by rw [hu]; exact htop) m.door
  refine ⟨?_, fun x hx => ?_, ?_⟩
  · rw [hclaims, claimOf_renewed_self, hn, hu]
  · rw [hclaims, claimOf_renewed_of_ne hx]
    unfold claimOf
    rw [entry_congr (s := s) (t := arrived m.door u) (by rw [hcs, hu])]
  · rw [hnext, hcs, hu]

/-- R26: below the top the schedule with the entry made new. -/
theorem renewed_cs (hu : u.cs = s.cs) (htables : u.tables = s.tables) (htop : s.cs.nextArrival ≠ arrivalTop) :
    (renewed m u).cs = schedWith s m := by
  obtain ⟨hn, hcs⟩ := arrived_of_below (s := u) (by rw [hu]; exact htop) m.door
  have hwarn : u.preWarn m.door = s.preWarn m.door := by unfold State.preWarn; rw [htables]
  unfold renewed State.setEntry
  simp only
  rw [hcs, hu, hwarn, hn, hu]
  rfl

/-- R41: at the top the other entries are renumbered, and the new one takes the number that follows. -/
theorem renumbered_of_top (hu : u.cs = s.cs) (htop : s.cs.nextArrival = arrivalTop)
    (hclaims : ∀ x, claimOf t x = claimOf (renewed m u) x) (hnext : t.cs.nextArrival = (arrived m.door u).cs.nextArrival) :
    Renumbered s t m := by
  obtain ⟨hn, hafter, hothers⟩ := arrived_of_top (s := u) (by rw [hu]; exact htop) m.door
  rw [otherEntries_congr hu] at hn hafter
  refine ⟨?_, hnext.trans hafter, fun x hx => ?_⟩
  · rw [hclaims, claimOf_renewed_self, hn]
    rfl
  · rw [hclaims, claimOf_renewed_of_ne hx]
    unfold claimOf
    rw [hothers x hx, entry_congr (s := s) (t := u) (by rw [hu]) x, Option.map_map]
    simp only [renumbered_congr hu]
    rfl

/-! ### ENQUEUED (R26) -/

theorem newEntry_phase (m : Demand) (preWarn n : Nat) :
    (m.newEntry preWarn n).phase = if warnsFirst m.direction m.origin preWarn then .WARNING else .READY := rfl

theorem warnsFirst_iff {dir : Direction} {o : Origin} {n : Nat} :
    warnsFirst dir o n = true ↔ dir = .CLOSE ∧ o ≠ .LOCAL ∧ 0 < n := by
  unfold warnsFirst
  simp [and_assoc]

theorem not_warnsFirst_of {dir : Direction} {o : Origin} {n : Nat} (h : dir = .OPEN ∨ o = .LOCAL ∨ n = 0) :
    ¬warnsFirst dir o n = true := by
  rw [warnsFirst_iff]
  rintro ⟨h1, h2, h3⟩
  rcases h with h | h | h
  · rw [h1] at h; cases h
  · exact h2 h
  · omega

theorem enqueue_eq (m : Demand) (s : State) : enqueue m s =
    if warnsFirst m.direction m.origin (s.preWarn m.door) then queueOrder m.door .WARN ((renewed m s).zeroOas m.door)
    else pass (s.hpuOf m.door) ((renewed m s).zeroOas m.door) := by
  have htables : (arrived m.door s).tables = s.tables := by rw [arrived_eq]
  have hwarn : (arrived m.door s).preWarn m.door = s.preWarn m.door := by unfold State.preWarn; rw [htables]
  have hhpu : ((renewed m s).zeroOas m.door).hpuOf m.door = s.hpuOf m.door := hpuOf_congr htables _
  unfold enqueue
  show (if (m.newEntry ((arrived m.door s).preWarn m.door) (arrivalFor m.door s)).phase = .WARNING then
      queueOrder m.door .WARN ((arrived m.door s).makeEntry m.door
        (m.newEntry ((arrived m.door s).preWarn m.door) (arrivalFor m.door s)))
    else pass (((arrived m.door s).makeEntry m.door
        (m.newEntry ((arrived m.door s).preWarn m.door) (arrivalFor m.door s))).hpuOf m.door)
      ((arrived m.door s).makeEntry m.door (m.newEntry ((arrived m.door s).preWarn m.door) (arrivalFor m.door s)))) = _
  rw [hwarn, newEntry_phase]
  by_cases hw : warnsFirst m.direction m.origin (s.preWarn m.door)
  · rw [if_pos hw, if_pos rfl, if_pos hw]
    rfl
  · rw [if_neg hw, if_neg (by decide), if_neg hw]
    exact congrArg (fun h => pass h ((renewed m s).zeroOas m.door)) hhpu

theorem claimOf_enqueue (m : Demand) (s : State) (x : DoorIx) : claimOf (enqueue m s) x = claimOf (renewed m s) x := by
  rw [enqueue_eq]
  split
  · rfl
  · exact claimOf_pass ..

theorem nextArrival_enqueue (m : Demand) (s : State) : (enqueue m s).cs.nextArrival = (arrived m.door s).cs.nextArrival := by
  rw [enqueue_eq]
  split
  · rfl
  · exact (ScheduleFrame.pass ..).nextArrival

theorem enqueue_mc (m : Demand) (s : State) : (enqueue m s).mc = { s.mc with oas := put s.mc.oas m.door ⟨0, false⟩ } := by
  have hmc : ((renewed m s).zeroOas m.door).mc = { s.mc with oas := put s.mc.oas m.door ⟨0, false⟩ } := by
    have h : (arrived m.door s).mc = s.mc := by rw [arrived_eq]
    have h' : (renewed m s).mc = s.mc := h
    unfold State.zeroOas
    simp only
    rw [h']
  rw [enqueue_eq]
  split
  · exact hmc
  · exact (ScheduleFrame.pass ..).mc.trans hmc

theorem enqueue_gru (m : Demand) (s : State) : (enqueue m s).gru = s.gru := by
  have h : (arrived m.door s).gru = s.gru := by rw [arrived_eq]
  rw [enqueue_eq]
  split
  · exact h
  · exact (ScheduleFrame.pass ..).gru.trans h

theorem enqueue_ms (m : Demand) (s : State) : (enqueue m s).ms = s.ms := by
  have h : (arrived m.door s).ms = s.ms := by rw [arrived_eq]
  rw [enqueue_eq]
  split
  · exact h
  · exact (ms_pass ..).trans h

/-- R22: a demand that no step before the claims answers. -/
theorem decideDemand_eq_claims {m : Demand} {s : State} {o : DemandOutcome} (ho : (decideDemand m s).1 = o)
    (h : o ≠ .NOT_CONFIGURED ∧ o ≠ .WRONG_MODE ∧ o ≠ .DOOR_FAULT) : decideDemand m s = decideClaims m s := by
  obtain ⟨h1, h2, h3⟩ := h
  unfold decideDemand at ho ⊢
  split at ho <;> [exact absurd ho.symm h1; (rename_i hn; rw [if_neg hn])]
  split at ho <;> [exact absurd ho.symm h2; (rename_i hn; rw [if_neg hn])]
  split at ho <;> [exact absurd ho.symm h3; (rename_i hn; rw [if_neg hn])]

/-- The demand that no claim and no entry stands against leaves the passage ended and the entry made. -/
theorem decide_enqueued {m : Demand} {s : State} (h : (decideDemand m s).1 = .ENQUEUED) :
    s.entry m.door = none ∧ (decideDemand m s).2 = enqueue m (endBeaten m s) := by
  have hclaims := decideDemand_eq_claims h (by decide)
  rw [hclaims] at h ⊢
  revert h
  unfold decideClaims
  cases s.entry m.door with
  | some e =>
    simp only
    split <;> [(intro h; cases h); skip]
    split <;> [skip; (intro h; cases h)]
    split <;> (intro h; cases h)
  | none =>
    simp only
    split <;> [skip; (intro h; cases h)]
    unfold settleDemand
    split <;> [(intro h; cases h); exact fun _ => ⟨trivial, rfl⟩]

theorem passage_of_mc_passages {s t : State} (h : t.mc.passages = s.mc.passages) (d : DoorIx) : t.passage d = s.passage d := by
  unfold State.passage; rw [h]

theorem dispatchWarn_newEntry (m : Demand) (w n : Nat) :
    dispatchWarn (m.newEntry w n) = decide (m.direction = .CLOSE ∧ m.origin ≠ .LOCAL) :=
  (Bool.decide_and ..).symm

/-- Settles O20, by the two phases of a new entry. -/
theorem demandEnqueued : Obligations.DemandEnqueued := by
  unfold Obligations.DemandEnqueued
  refine ⟨fun m s _ ho htop => ?_, fun m s _ ho htop => ?_⟩
  · intro t
    have ht : t = enqueue m (endBeaten m s) := (decide_enqueued ho).2
    clear_value t
    subst ht
    have hend := Ending.endBeaten m s
    have hwarn : (endBeaten m s).preWarn m.door = s.preWarn m.door := by unfold State.preWarn; rw [hend.tables]
    have hframe := hend.toRunFrame.trans (RunFrame.enqueue m (endBeaten m s))
    have hmc := enqueue_mc m (endBeaten m s)
    obtain ⟨hself, hothers, hnext⟩ := claims_of_below hend.cs htop (claimOf_enqueue m _) (nextArrival_enqueue m _)
    obtain ⟨hn, hcs⟩ := arrived_of_below (s := endBeaten m s) (by rw [hend.cs]; exact htop) m.door
    have hsched := renewed_cs (m := m) hend.cs hend.tables htop
    refine ⟨hself, hothers, hnext, fun hclose horigin hpre => ?_, fun hready => ?_, fun hready => ?_, ?_, fun x hx => ?_, ?_,
      hframe.sea, hframe.mode, (enqueue_gru ..).trans hend.gru, (enqueue_ms ..).trans hend.ms, hframe.orders,
      ⟨hframe.tables, hframe.cfs, hframe.pins, hframe.seconds, hframe.queues, hframe.pacing⟩⟩
    · have hw : warnsFirst m.direction m.origin ((endBeaten m s).preWarn m.door) = true :=
        warnsFirst_iff.mpr ⟨hclose, horigin, by rw [hwarn]; exact hpre⟩
      rw [enqueue_eq, if_pos hw]
      have hentry (x : DoorIx) : (queueOrder m.door .WARN ((renewed m (endBeaten m s)).zeroOas m.door)).entry x
          = (renewed m (endBeaten m s)).entry x := rfl
      unfold phaseOf
      simp only [hentry]
      have hnew : (renewed m (endBeaten m s)).entry m.door
          = some (m.newEntry ((endBeaten m s).preWarn m.door) (arrivalFor m.door (endBeaten m s))) :=
        (entry_setEntry ..).trans (if_pos rfl)
      refine ⟨?_, ?_, mem_queued_self .., ?_, fun x hx => ?_⟩
      · rw [hnew, Option.map_some, newEntry_phase, if_pos hw]
      · rw [hnew, Option.map_some]
        show some (if warnsFirst _ _ _ then _ else _) = _
        rw [if_pos hw, hwarn]
      · show (renewed m (endBeaten m s)).cs.flow = _
        rw [hsched]
        rfl
      · rw [entry_setEntry, if_neg (Ne.symm hx)]
        exact entry_congr (by rw [hcs, hend.cs]) x
    · rw [enqueue_eq, if_neg (not_warnsFirst_of (by rw [hwarn]; exact hready)), hpuOf_congr hend.tables]
      refine passed_of_pass rfl hsched ?_
      show (arrived m.door (endBeaten m s)).tables = _
      rw [arrived_eq]
      exact hend.tables
    · rw [enqueue_eq, if_neg (not_warnsFirst_of (by rw [hwarn]; exact hready))]
      have hentry : ((renewed m (endBeaten m s)).zeroOas m.door).entry m.door
          = some (m.newEntry ((endBeaten m s).preWarn m.door) (arrivalFor m.door (endBeaten m s))) :=
        (entry_setEntry ..).trans (if_pos rfl)
      have hphase := newEntry_phase m ((endBeaten m s).preWarn m.door) (arrivalFor m.door (endBeaten m s))
      rw [if_neg (not_warnsFirst_of (by rw [hwarn]; exact hready))] at hphase
      have := pass_ready (h := (endBeaten m s).hpuOf m.door) hentry hphase
      rwa [dispatchWarn_newEntry] at this
    · rw [passage_of_mc_passages (s := endBeaten m s) (by rw [hmc])]
      exact passage_endBeaten m s
    · rw [passage_of_mc_passages (s := endBeaten m s) (by rw [hmc])]
      exact hend.others x hx
    · rw [hmc]
      simp
  · rw [(decide_enqueued ho).2]
    exact renumbered_of_top (Ending.endBeaten m s).cs htop (claimOf_enqueue m _) (nextArrival_enqueue m _)

end

end Sys2Proof.Proofs
end

section
/-! ## A demand on an entry that stands (O21) -/
namespace Sys2Proof.Proofs
open Sys2Proof Sys2Proof.Machine

set_option Elab.async false

section
variable {s t u : State} {d x : DoorIx} {h : HpuIx} {m : Demand} {e : Entry}

theorem setEntry_self (he : s.entry d = some e) : s.setEntry d e = s := by
  have : put s.cs.entries d (some e) = s.cs.entries := by
    rw [← show s.cs.entries[d] = some e from he]
    exact Vector.set_getElem_self ..
  unfold State.setEntry
  rw [this]

/-- R58: the orders of a door that a pass leaves in its phase stand. -/
theorem pass_orders_of_stays {o : PendingOrder} (ho : phaseOf (pass h s) o.door ≠ some .MOVING) :
    o ∈ (pass h s).rc.orders ↔ o ∈ s.rc.orders :=
  (pass_admits h s).orders o fun hm => ho (phaseOf_admitted (pass_admits h s) hm)

/-! ### MERGED (R27) -/

theorem decide_merged (h : (decideDemand m s).1 = .MERGED) (he : s.entry m.door = some e) :
    (decideDemand m s).2 = merge m e s ∧ e.direction = m.direction := by
  have hclaims := decideDemand_eq_claims h (by decide)
  rw [hclaims] at h ⊢
  revert h
  unfold decideClaims
  rw [he]
  simp only
  split <;> [(rename_i hd; exact fun _ => ⟨rfl, hd⟩); skip]
  split <;> [skip; (intro h; cases h)]
  split <;> (intro h; cases h)

theorem merge_of_le (he : s.entry m.door = some e) (hle : m.cls ≤ e.cls) : merge m e s = s := by
  unfold merge Entry.merged
  rw [if_neg (by omega), if_neg (by omega)]
  exact setEntry_self he

theorem merge_of_lt (hlt : e.cls < m.cls) :
    merge m e s = pass (s.hpuOf m.door) (s.setEntry m.door { e with cls := m.cls, group := m.group, origin := m.origin }) := by
  unfold merge Entry.merged
  rw [if_pos hlt, if_pos hlt]
  rfl

/-! ### A new claim in the place of an entry (R31 to R33) -/

/-- The state in which the entry is replaced or reversed: the beaten passage record ended and the displaced tag reported. -/
abbrev displaced (m : Demand) (e : Entry) (s : State) : State :=
  reportTag e.tag .overruled (recloseGone m.door e.direction (endBeaten m s))

/-- What the displacement keeps: everything but the passage record, GRU and the queues. -/
structure Displaced (m : Demand) (e : Entry) (s t : State) : Prop extends RunFrame s t where
  cs : t.cs = s.cs
  ms : t.ms = s.ms
  rc : t.rc = s.rc
  oas : t.mc.oas = s.mc.oas
  others : ∀ x : DoorIx, x ≠ m.door → t.passage x = s.passage x
  closed : m.direction = .CLOSE → t.passage m.door = passageAfter s m
  opened : m.direction = .OPEN → t.passage m.door = (s.passage m.door).filter fun x =>
    decide (x.phase ≠ .RECLOSING) || !x.demanded
  told : Told s t (overruledBy e.tag)

theorem displaced_frame (m : Demand) (s : State) (hdir : e.direction ≠ m.direction) : Displaced m e s (displaced m e s) := by
  have hend := (Ending.endBeaten m s).trans (.recloseGone m.door e.direction _)
  have hrep := ReportFrame.reportTag e.tag .overruled (recloseGone m.door e.direction (endBeaten m s))
  have hgrown : Grown 22 s (recloseGone m.door e.direction (endBeaten m s)) :=
    ((Grown.endBeaten m s).trans (.recloseGone m.door e.direction _)).mono (by omega)
  have hpassage (x : DoorIx) : (displaced m e s).passage x = (recloseGone m.door e.direction (endBeaten m s)).passage x :=
    passage_of_mc_passages (by rw [hrep.mc]) x
  refine ⟨hend.toRunFrame.trans hrep.toRunFrame, hrep.cs.trans hend.cs, hrep.ms.trans hend.ms, hrep.rc.trans hend.rc, ?_,
    fun x hx => (hpassage x).trans (hend.others x hx), fun hclose => ?_, fun hopen => ?_,
    told_reportTag e.tag .overruled hend.gru hend.tables hgrown⟩
  · rw [hrep.mc, hend.oas]
  · have hed : e.direction = .OPEN := by
      cases hd : e.direction
      · rw [hd, hclose] at hdir; exact absurd rfl hdir
      · rfl
    rw [hpassage, hed, passage_recloseGone_open]
    exact passage_endBeaten m s
  · have hed : e.direction = .CLOSE := by
      cases hd : e.direction
      · rfl
      · rw [hd, hopen] at hdir; exact absurd rfl hdir
    rw [hpassage, hed, passage_recloseGone_close, endBeaten_of_open hopen]

/-- What a replacement or reversal keeps of the rest, and what it told the displaced tag's run. -/
structure Taken (m : Demand) (e : Entry) (s t : State) : Prop where
  told : Told s t (overruledBy e.tag)
  others : ∀ x : DoorIx, x ≠ m.door → t.passage x = s.passage x
  closed : m.direction = .CLOSE → t.passage m.door = passageAfter s m
  opened : m.direction = .OPEN → t.passage m.door = (s.passage m.door).filter fun x =>
    decide (x.phase ≠ .RECLOSING) || !x.demanded
  oas : t.mc.oas = s.mc.oas
  sea : t.mc.sea = s.mc.sea
  mode : t.mc.mode = s.mc.mode
  ms : t.ms = s.ms
  orders : OnlyOrders s t
  aside : Aside s t

/-- After the displacement the schedule alone changes. -/
theorem Displaced.taken (hu : Displaced m e s u) (hf : RunFrame u t) (hgru : t.gru = u.gru) (hmc : t.mc = u.mc)
    (hms : t.ms = u.ms) (hl : Lasting u t) : Taken m e s t := by
  have hframe := hu.toRunFrame.trans hf
  have hpassage (x : DoorIx) : t.passage x = u.passage x := passage_of_mc_passages (by rw [hmc]) x
  exact ⟨Told.mono hu.told hgru hl, fun x hx => (hpassage x).trans (hu.others x hx), fun h => (hpassage _).trans (hu.closed h),
    fun h => (hpassage _).trans (hu.opened h), by rw [hmc, hu.oas], hframe.sea, hframe.mode, hms.trans hu.ms, hframe.orders,
    ⟨hframe.tables, hframe.cfs, hframe.pins, hframe.seconds, hframe.queues, hframe.pacing⟩⟩

/-! ### REVERSED (R32, R78) -/

theorem decide_on_entry {o : DemandOutcome} (h : (decideDemand m s).1 = o) (ho : o = .REPLACED ∨ o = .REVERSED)
    (he : s.entry m.door = some e) :
    e.direction ≠ m.direction ∧ (o = .REVERSED → e.phase = .MOVING ∧ (decideDemand m s).2 = reverse m e s)
    ∧ (o = .REPLACED → e.phase ≠ .MOVING ∧ (decideDemand m s).2 = replace m e s) := by
  have hclaims := decideDemand_eq_claims h (by rcases ho with rfl | rfl <;> decide)
  rw [hclaims] at h ⊢
  revert h
  unfold decideClaims
  rw [he]
  simp only
  split <;> [(rintro rfl; rcases ho with h | h <;> cases h); skip]
  next hdir =>
  split <;> [skip; (rintro rfl; rcases ho with h | h <;> cases h)]
  split
  · next hph =>
    rintro rfl
    exact ⟨hdir, fun _ => ⟨hph, rfl⟩, nofun⟩
  · next hph =>
    rintro rfl
    exact ⟨hdir, nofun, fun _ => ⟨hph, rfl⟩⟩

/-- R32, R78: the entry turned round, with the order of its movement queued. -/
abbrev turned (m : Demand) (e : Entry) (u : State) : State :=
  queueOrder m.door (.MOVE m.direction (decide (m.direction = .CLOSE)))
    (u.setEntry m.door (e.reversed m (doorDeadline u m.door m.direction)))

theorem entry_turned (hu : Displaced m e s u) (x : DoorIx) : (turned m e u).entry x =
    if m.door = x then some (e.reversed m (doorDeadline s m.door m.direction)) else s.entry x := by
  rw [← doorDeadline_congr hu.tables, ← entry_congr (s := s) (t := u) (by rw [hu.cs]) x]
  exact entry_setEntry ..

theorem frame_turned (m : Demand) (e : Entry) (u : State) : ScheduleFrame u (turned m e u) :=
  (ScheduleFrame.setEntry ..).trans (.queueOrder ..)

theorem entryIn_turned (hu : Displaced m e s u) (hph : e.phase = .MOVING) (h : HpuIx) :
    entryIn (turned m e u) h .READY m.door = false := by
  rw [entryIn_of_entry ((entry_turned hu _).trans (if_pos rfl))]
  simp [Entry.reversed, hph]

theorem claimOf_turned (hu : Displaced m e s u) (hx : x ≠ m.door) : claimOf (turned m e u) x = claimOf s x := by
  unfold claimOf
  rw [entry_turned hu, if_neg (Ne.symm hx)]

theorem reverse_eq (m : Demand) (e : Entry) (s : State) : reverse m e s =
    if e.cls < m.cls then pass ((displaced m e s).hpuOf m.door) (turned m e (displaced m e s))
    else turned m e (displaced m e s) := rfl

/-! ### REPLACED (R31) -/

/-- R31: the entry made new, with the order of the replacement queued. -/
abbrev exchanged (m : Demand) (u : State) : State :=
  queueOrder? m.door (replaceOrder m (m.newEntry (u.preWarn m.door) (arrivalFor m.door u)).phase) (renewed m u)

theorem replace_eq (m : Demand) (e : Entry) (s : State) : replace m e s =
    (fun u => if e.phase = .READY then evalDelay (u.hpuOf m.door) (pass (u.hpuOf m.door) (exchanged m u))
      else pass (u.hpuOf m.door) (exchanged m u)) (displaced m e s) := by
  unfold replace displaced
  simp only
  generalize reportTag e.tag .overruled (recloseGone m.door e.direction (endBeaten m s)) = u
  have htables : (arrived m.door u).tables = u.tables := by rw [arrived_eq]
  have hwarn : (arrived m.door u).preWarn m.door = u.preWarn m.door := by unfold State.preWarn; rw [htables]
  show (fun y => if e.phase = .READY then evalDelay ((pass (y.hpuOf m.door) y).hpuOf m.door) (pass (y.hpuOf m.door) y)
    else pass (y.hpuOf m.door) y) (queueOrder? m.door
      (replaceOrder m (m.newEntry ((arrived m.door u).preWarn m.door) (arrivalFor m.door u)).phase)
      ((arrived m.door u).setEntry m.door (m.newEntry ((arrived m.door u).preWarn m.door) (arrivalFor m.door u)))) = _
  rw [hwarn]
  have hy : (exchanged m u).hpuOf m.door = u.hpuOf m.door := by
    refine hpuOf_congr ?_ _
    unfold exchanged queueOrder?
    split <;> exact htables
  have hz (h : HpuIx) : (pass h (exchanged m u)).hpuOf m.door = u.hpuOf m.door :=
    (hpuOf_congr (ScheduleFrame.pass ..).tables _).trans hy
  simp only [hy, hz]

theorem renewed_eq (m : Demand) (u : State) : renewed m u = { u with cs := (renewed m u).cs } := by
  unfold renewed
  rw [arrived_eq]
  rfl

theorem queueOrder?_eq (d : DoorIx) (k : Option OrderKind) (s : State) :
    queueOrder? d k s = { s with rc := (queueOrder? d k s).rc } := by
  unfold queueOrder?
  split <;> rfl

/-- What a replacement changes before its pass: the schedule and the orders. -/
theorem exchanged_eq (m : Demand) (u : State) :
    exchanged m u = { u with cs := (renewed m u).cs, rc := (exchanged m u).rc } := by
  have h := queueOrder?_eq m.door (replaceOrder m (m.newEntry (u.preWarn m.door) (arrivalFor m.door u)).phase) (renewed m u)
  unfold exchanged
  rw [h]
  simp only
  rw [renewed_eq]

theorem frame_exchanged (m : Demand) (u : State) : RunFrame u (exchanged m u) := by
  have h := (ScheduleFrame.queueOrder? (renewed m u) m.door
    (replaceOrder m (m.newEntry (u.preWarn m.door) (arrivalFor m.door u)).phase)).orders
  have hrenewed : (renewed m u).rc = u.rc := by rw [renewed_eq]
  have horders : OnlyOrders u (exchanged m u) := OnlyOrders.trans (t := renewed m u) (by unfold OnlyOrders; rw [hrenewed]) h
  rw [exchanged_eq] at horders ⊢
  exact ⟨⟨rfl, rfl, rfl, rfl, rfl, fun _ => rfl, horders, rfl, rfl, rfl⟩, rfl, rfl, rfl, rfl, rfl⟩

/-- R31: the state after the pass of a replacement, and after the test where a READY entry was replaced. -/
abbrev replacedFrom (m : Demand) (e : Entry) (u : State) : State :=
  if e.phase = .READY then evalDelay (u.hpuOf m.door) (pass (u.hpuOf m.door) (exchanged m u))
  else pass (u.hpuOf m.door) (exchanged m u)

/-- The pass and the test of a replacement. -/
theorem replacedFrom_facts (m : Demand) (e : Entry) (u : State) :
    ScheduleFrame (exchanged m u) (replacedFrom m e u) ∧ (replacedFrom m e u).ms = (exchanged m u).ms
    ∧ Lasting (exchanged m u) (replacedFrom m e u)
    ∧ (∀ x, (replacedFrom m e u).entry x = (pass (u.hpuOf m.door) (exchanged m u)).entry x)
    ∧ (replacedFrom m e u).rc = (pass (u.hpuOf m.door) (exchanged m u)).rc := by
  unfold replacedFrom
  split
  · exact ⟨(ScheduleFrame.pass ..).trans (.evalDelay ..), (evalDelay_ms ..).trans (ms_pass ..),
      (Lasting.pass ..).trans (.evalDelay ..), fun _ => evalDelay_entry .., evalDelay_rc ..⟩
  · exact ⟨.pass .., ms_pass .., .pass .., fun _ => rfl, rfl⟩

theorem entry_exchanged (m : Demand) (u : State) (x : DoorIx) : (exchanged m u).entry x = (renewed m u).entry x :=
  entry_congr (by rw [exchanged_eq]) x

theorem entry_exchanged_self (m : Demand) (u : State) :
    (exchanged m u).entry m.door = some (m.newEntry (u.preWarn m.door) (arrivalFor m.door u)) :=
  (entry_exchanged ..).trans ((entry_setEntry ..).trans (if_pos rfl))

theorem claimOf_replacedFrom (m : Demand) (e : Entry) (u : State) (x : DoorIx) :
    claimOf (replacedFrom m e u) x = claimOf (renewed m u) x := by
  unfold claimOf
  rw [(replacedFrom_facts m e u).2.2.2.1]
  refine (claimOf_pass (u.hpuOf m.door) (exchanged m u) x).trans ?_
  unfold claimOf
  rw [entry_exchanged]

theorem pending_exchanged {k : OrderKind} (h : replaceOrder m (m.newEntry (u.preWarn m.door) (arrivalFor m.door u)).phase = some k) :
    Pending (exchanged m u) m.door k := by
  unfold exchanged
  rw [h]
  exact mem_queued_self ..

end

/-- Settles O21, by the three outcomes. -/
theorem demandOnAnEntry : Obligations.DemandOnAnEntry := by
  unfold Obligations.DemandOnAnEntry
  refine ⟨fun m s ho e he => ?_, fun m s ho e he => ?_, fun m s ho e he => ?_⟩
  · intro t
    have ht : t = merge m e s := (decide_merged ho he).1
    clear_value t
    subst ht
    refine ⟨merge_of_le he, fun hlt => ?_⟩
    rw [merge_of_lt hlt]
    generalize hx : ({ e with cls := m.cls, group := m.group, origin := m.origin } : Entry) = x
    have hentry : (s.setEntry m.door x).entry m.door = some x := (entry_setEntry ..).trans (if_pos rfl)
    have hframe := (ScheduleFrame.setEntry s m.door x).trans (.pass (s.hpuOf m.door) (s.setEntry m.door x))
    refine ⟨?_, fun hph => ?_, rfl, fun y hy => ?_, hframe.nextArrival, hframe.gru, ms_pass .., hframe.mc, hframe.orders,
      aside_of_schedule hframe⟩
    · rw [claimOf_pass]
      unfold claimOf
      rw [hentry, ← hx]
      rfl
    · rw [entry_pass_of_not_ready, hentry]
      rw [entryIn_of_entry hentry, ← hx]
      simp [hph]
    · rw [claimOf_pass]
      unfold claimOf
      rw [entry_setEntry, if_neg (Ne.symm hy)]
  · intro t warns
    obtain ⟨hdir, -, hrep⟩ := decide_on_entry ho (.inl rfl) he
    obtain ⟨hph, ht⟩ := hrep rfl
    have ht : t = replace m e s := ht
    clear_value t
    subst ht
    rw [replace_eq]
    have hdisp := displaced_frame m s hdir
    generalize displaced m e s = u at hdisp ⊢
    have hwarn : u.preWarn m.door = s.preWarn m.door := by unfold State.preWarn; rw [hdisp.tables]
    obtain ⟨hframe, hms, hlasting, hentry, hrc⟩ := replacedFrom_facts m e u
    have hself := entry_exchanged_self m u
    have hphase := newEntry_phase m (u.preWarn m.door) (arrivalFor m.door u)
    have hnext : (replacedFrom m e u).cs.nextArrival = (arrived m.door u).cs.nextArrival := by
      rw [hframe.nextArrival, exchanged_eq]
      rfl
    have htaken : Taken m e s (replacedFrom m e u) :=
      hdisp.taken ((frame_exchanged m u).trans hframe.toRunFrame) (hframe.gru.trans (by rw [exchanged_eq]))
        (hframe.mc.trans (by rw [exchanged_eq])) (hms.trans (by rw [exchanged_eq])) (hlasting.after (by rw [exchanged_eq]))
    have hphaseOf : phaseOf (replacedFrom m e u) m.door = phaseOf (pass (u.hpuOf m.door) (exchanged m u)) m.door := by
      unfold phaseOf
      rw [hentry]
    refine ⟨fun htop => ?_, fun htop => renumbered_of_top hdisp.cs htop (claimOf_replacedFrom m e u) hnext, fun hw => ?_,
      fun hw => ?_, fun hopen hready => ?_, htaken.told, htaken.others, htaken.closed, htaken.opened, htaken.oas, htaken.sea,
      htaken.mode, htaken.ms, htaken.orders, htaken.aside⟩
    · obtain ⟨hown, hothers, hcount⟩ := claims_of_below hdisp.cs htop (claimOf_replacedFrom m e u) hnext
      have hcs : (exchanged m u).cs = schedWith s m := by
        rw [exchanged_eq]
        exact renewed_cs hdisp.cs hdisp.tables htop
      have htables : (exchanged m u).tables = s.tables := (frame_exchanged m u).tables.trans hdisp.tables
      refine ⟨hown, hothers, hcount, fun hready => ?_, fun hready => ?_⟩
      · refine passedAndTested_of_evalDelay ?_ hcs htables (hframe.tables.trans htables)
        rw [← hpuOf_congr hdisp.tables]
        exact congrArg State.cs (if_pos hready)
      · refine passed_of_pass ?_ hcs htables
        rw [← hpuOf_congr hdisp.tables]
        exact congrArg State.cs (if_neg hready)
    · rw [if_pos (warnsFirst_iff.mpr (by rw [hwarn]; exact hw))] at hphase
      have hnot : entryIn (exchanged m u) (u.hpuOf m.door) .READY m.door = false := by
        rw [entryIn_of_entry hself, hphase]
        rfl
      have horder : replaceOrder m (m.newEntry (u.preWarn m.door) (arrivalFor m.door u)).phase = some .WARN := by
        unfold replaceOrder
        rw [hw.1, hphase]
        rfl
      have hstands : (replacedFrom m e u).entry m.door = some (m.newEntry (u.preWarn m.door) (arrivalFor m.door u)) :=
        (hentry _).trans ((entry_pass_of_not_ready hnot).trans hself)
      refine ⟨?_, ?_, ?_⟩
      · unfold phaseOf
        rw [hstands, Option.map_some, hphase]
      · show _ ∈ (replacedFrom m e u).rc.orders
        rw [hrc]
        exact (pass_orders_of_not_ready hnot).mpr (pending_exchanged horder)
      · rw [hstands]
        show some (if warnsFirst _ _ _ then _ else _) = _
        rw [if_pos (warnsFirst_iff.mpr (by rw [hwarn]; exact hw)), hwarn]
    · rw [if_neg (fun h => hw (by have := warnsFirst_iff.mp h; rwa [hwarn] at this))] at hphase
      rw [hphaseOf]
      exact (pass_ready hself hphase).imp_right And.left
    · rw [hphaseOf] at hready
      show _ ∈ (replacedFrom m e u).rc.orders
      rw [hrc]
      refine (pass_orders_of_stays (by rw [hready]; simp)).mpr (pending_exchanged ?_)
      unfold replaceOrder
      rw [hopen]
  · intro t late
    obtain ⟨hdir, hrev, -⟩ := decide_on_entry ho (.inr rfl) he
    obtain ⟨hph, ht⟩ := hrev rfl
    have ht : t = reverse m e s := ht
    clear_value t
    subst ht
    rw [reverse_eq]
    have hdisp := displaced_frame m s hdir
    generalize displaced m e s = u at hdisp ⊢
    have hown (h : HpuIx) : (pass h (turned m e u)).entry m.door = some (e.reversed m late) :=
      (entry_pass_of_not_ready (entryIn_turned hdisp hph h)).trans ((entry_turned hdisp _).trans (if_pos rfl))
    by_cases hlt : e.cls < m.cls
    · rw [if_pos hlt]
      have hframe := (frame_turned m e u).trans (.pass (u.hpuOf m.door) _)
      have htaken : Taken m e s (pass (u.hpuOf m.door) (turned m e u)) :=
        hdisp.taken hframe.toRunFrame hframe.gru hframe.mc (ms_pass ..) ((Lasting.pass ..).after rfl)
      refine ⟨hown _, ?_, fun x hx => (claimOf_pass ..).trans (claimOf_turned hdisp hx), fun _ => ?_, fun hle => by omega,
        hframe.nextArrival.trans (by rw [hdisp.cs]), htaken.told, htaken.others, htaken.closed, htaken.opened, htaken.oas,
        htaken.sea, htaken.mode, htaken.ms, htaken.orders, htaken.aside⟩
      · exact (pass_orders_of_not_ready (entryIn_turned hdisp hph _)).mpr (mem_queued_self ..)
      · rw [hown, hpuOf_congr hdisp.tables]
        refine passed_of_pass rfl ?_ ((frame_turned m e u).tables.trans hdisp.tables)
        show { u.cs with entries := put u.cs.entries m.door (some (e.reversed m (doorDeadline u m.door m.direction))) } = _
        rw [hdisp.cs, doorDeadline_congr hdisp.tables]
        rfl
    · rw [if_neg hlt]
      have hframe := frame_turned m e u
      have htaken : Taken m e s (turned m e u) := hdisp.taken hframe.toRunFrame rfl rfl rfl (.of_sp rfl)
      refine ⟨(entry_turned hdisp _).trans (if_pos rfl), mem_queued_self .., fun x hx => claimOf_turned hdisp hx,
        fun h => absurd h hlt, fun _ => ⟨?_, fun x hx => (entry_turned hdisp x).trans (if_neg (Ne.symm hx))⟩,
        hframe.nextArrival.trans (by rw [hdisp.cs]), htaken.told, htaken.others, htaken.closed, htaken.opened, htaken.oas,
        htaken.sea, htaken.mode, htaken.ms, htaken.orders, htaken.aside⟩
      show u.cs.flow = _
      rw [hdisp.cs]

end Sys2Proof.Proofs
end

section
/-! ## The state after reset (O11) -/
namespace Sys2Proof.Proofs
open Sys2Proof Sys2Proof.Machine

set_option Elab.async false

section
variable (d : DoorIx) (h : HpuIx) (i : SlotIx) (p : PortIx)

theorem reset_entry : State.reset.entry d = none := by
  unfold State.entry State.reset Cs.empty
  simp only [Fin.getElem_fin, Vector.getElem_replicate]

theorem reset_passage : State.reset.passage d = none := by
  unfold State.passage State.reset Mc.cold
  simp only [Fin.getElem_fin, Vector.getElem_replicate]

theorem reset_slot : State.reset.gru.slots[i] = none := by
  unfold State.reset Gru.cold
  simp only [Fin.getElem_fin, Vector.getElem_replicate]

theorem reset_queue : State.reset.sp[p].queue = [] := by
  unfold State.reset StationPort.cold
  simp only [Fin.getElem_fin, Vector.getElem_replicate]

theorem reset_isPresent : State.reset.isPresent d = false := by
  unfold State.isPresent State.reset Tables.blank DoorConfig.blank
  simp only [Fin.getElem_fin, Vector.getElem_replicate]
  rfl

theorem reset_latch : State.reset.latch d = .NONE := by
  unfold State.latch State.reset Ms.cold Supervision.cold
  simp only [Fin.getElem_fin, Vector.getElem_replicate]

theorem reset_reported : State.reset.rc.reported[d] = Reported.start := by
  unfold State.reset Rc.cold
  simp only [Fin.getElem_fin, Vector.getElem_replicate]

theorem reset_flow : State.reset.cs.flow[h] = ⟨0, 0, false⟩ := by
  unfold State.reset Cs.empty
  simp only [Fin.getElem_fin, Vector.getElem_replicate]

end

theorem reset_presentDoors : State.reset.presentDoors = [] := by
  unfold State.presentDoors
  exact List.filter_eq_nil_iff.mpr fun d _ => by rw [reset_isPresent]; exact Bool.false_ne_true

theorem reset_liveRuns : liveRuns State.reset = [] := by
  unfold liveRuns
  rw [List.append_eq_nil_iff]
  refine ⟨List.filterMap_eq_nil_iff.mpr fun i _ => reset_slot i, rfl⟩

/-- Settles O11: the schedule, the slots and the passages are empty and no door is present. -/
theorem resetMeetsLaws : Obligations.ResetMeetsLaws := by
  unfold Obligations.ResetMeetsLaws
  have hentry := reset_entry
  have hnotReady (h : HpuIx) (d : DoorIx) : ¬ReadyOn State.reset h d := by
    unfold ReadyOn entryIn
    rw [hentry]
    exact Bool.false_ne_true
  refine ⟨List.nodup_nil, fun p => ?_, ?_, fun _ => rfl, fun h => ?_, fun d _ => ?_, ⟨by decide, fun d n hn => ?_, fun a b _ n hn => ?_⟩,
    fun h => ?_, ⟨fun _ => reset_passage, fun _ => ⟨rfl, reset_entry, reset_slot, rfl, rfl⟩⟩,
    fun d _ => ⟨reset_reported d, fun h => by cases h⟩, ⟨List.nodup_nil, fun i => ?_, by decide, List.Pairwise.nil, fun r hr => ?_⟩,
    ⟨?_, fun n hn => ?_, fun r hr => ?_⟩, ⟨fun r hr => ?_, rfl⟩, fun d e he => ?_, fun d hd => ?_, fun h _ d hd => absurd hd.1 (hnotReady h d),
    clamped_blank, rfl, rfl, fun c => ?_, ?_⟩
  · rw [reset_queue]; exact Nat.zero_le _
  · exact ⟨by decide, by decide, by decide, by decide, by decide⟩
  · rw [reset_flow]
    refine (List.sum_eq_zero fun n hn => ?_).symm
    obtain ⟨d, -, rfl⟩ := List.mem_map.mp hn
    unfold movingDraw
    rw [hentry]
  · unfold hasOpenEntry
    rw [hentry]
  · unfold arrivalOf at hn
    rw [hentry] at hn
    cases hn
  · unfold arrivalOf at hn
    rw [hentry] at hn
    cases hn
  · cases h
  · refine ⟨fun hm => absurd hm List.not_mem_nil, fun hm => absurd (reset_slot i) hm.2⟩
  · cases hr
  · rw [reset_liveRuns]
    exact List.nodup_nil
  · refine absurd (List.filter_eq_nil_iff.mpr fun d _ => ?_) hn
    rw [hentry]
    exact Bool.false_ne_true
  · rw [reset_liveRuns] at hr
    cases hr
  · rw [reset_liveRuns] at hr
    cases hr
  · rw [hentry] at he
    cases he
  · rw [hentry] at hd
    cases hd
  · unfold compIndication
    rw [reset_presentDoors]
    unfold State.reset Ib.cold
    simp only [Fin.getElem_fin, Vector.getElem_replicate]
    rfl
  · unfold everyDoorClosed
    rw [reset_presentDoors]
    rfl

end Sys2Proof.Proofs
end

section
/-! ## TABLE_WRITE: refused and taken (O34, O33) -/
namespace Sys2Proof.Proofs
open Sys2Proof Sys2Proof.Machine

set_option Elab.async false

/-! ### The steps of R173 -/

section
variable {p : PortIx} {inUse refused clamped : Bool} {conflict : Option RecordName} {write : State → State} {s : State}

theorem decideWrite_inUse : decideWrite p true refused clamped conflict write s = refuse p 10 .IN_FLIGHT s := rfl

theorem decideWrite_refused (hu : inUse = false) (hr : refused = true) :
    decideWrite p inUse refused clamped conflict write s = refuse p 10 .INVALID_VALUE s := by
  subst hu hr
  rfl

theorem decideWrite_conflict {r : RecordName} (hu : inUse = false) (hr : refused = false) (hs : s.inService = true)
    (hc : conflict = some r) : decideWrite p inUse refused clamped conflict write s
      = refuseWith p 10 .INVALID_REFERENCE false [byteOf r.table, byteOf r.index] s := by
  subst hu hr hc
  unfold decideWrite
  simp only [hs]
  rfl

theorem decideWrite_taken (hu : inUse = false) (hr : refused = false) (hc : s.inService = true → conflict = none) :
    decideWrite p inUse refused clamped conflict write s = answerDone p 10 clamped [] (settleRuns (write s)) := by
  subst hu hr
  unfold decideWrite
  have hnone : (if s.inService then conflict else none) = none := by
    cases hs : s.inService with
    | true => exact hc hs
    | false => rfl
  simp only [hnone]
  rfl

end

/-! ### The commands -/

section
variable {p : PortIx} {index : Byte} {image : List Byte} {s : State}

/-- A TABLE_WRITE of SERVICE, with the store free, is decided at its image's length. -/
theorem writeOfLength_eq (h : ManagesStore s p) (ok : Bool) (write : State → State) :
    writeOfLength ok p write s = if ok then write (acceptFrame p s) else stationDiscard p s := by
  unfold writeOfLength
  rw [decide_exclusive write h]

theorem exec_writeDoor (h : ManagesStore s p) : exec (.tableWriteDoor p index image) s =
    .next (if wfImage 16 image then writeDoor p index image (acceptFrame p s) else stationDiscard p s) :=
  (exec_awake h.1.1 rfl).trans (congrArg _ (writeOfLength_eq h ..))

theorem exec_writeHpu (h : ManagesStore s p) : exec (.tableWriteHpu p index image) s =
    .next (if wfImage 8 image then writeHpu p index image (acceptFrame p s) else stationDiscard p s) :=
  (exec_awake h.1.1 rfl).trans (congrArg _ (writeOfLength_eq h ..))

theorem exec_writeGroup (h : ManagesStore s p) : exec (.tableWriteGroup p index image) s =
    .next (if wfGroupImage image then writeGroup p index image (acceptFrame p s) else stationDiscard p s) :=
  (exec_awake h.1.1 rfl).trans (congrArg _ (writeOfLength_eq h ..))

theorem exec_writePermit (h : ManagesStore s p) : exec (.tableWritePermitRow p index image) s =
    .next (if wfImage 12 image then writePermit p index image (acceptFrame p s) else stationDiscard p s) :=
  (exec_awake h.1.1 rfl).trans (congrArg _ (writeOfLength_eq h ..))

theorem exec_writeSystem (h : ManagesStore s p) : exec (.tableWriteSystemRecord p index image) s =
    .next (if wfImage 9 image then writeSystem p index image (acceptFrame p s) else stationDiscard p s) :=
  (exec_awake h.1.1 rfl).trans (congrArg _ (writeOfLength_eq h ..))

theorem wfImage_iff {n : Nat} : wfImage n image = true ↔ image.length = n := decide_eq_true_iff

theorem ix?_of_le {n k : Nat} (h : n ≤ k) : ix? n k = none := by
  unfold ix?
  exact dif_neg (by omega)

theorem ix?_val {n k : Nat} {i : Fin n} (h : k = i.val) : ix? n k = some i := ix?_eq_some.mpr h.symm

theorem writeDoor_eq {d : DoorIx} (hd : index.toNat = d.val) : writeDoor p index image s =
    (fun c => decideWrite p (doorInUse s d) c.refused (decide (c.clamp ≠ c))
      (crossDoor { s.tables with doors := s.tables.doors.set d c.clamp } d)
      (doorWritten d s.tables.doors[d] c.clamp) s) (DoorConfig.decode image) := by
  unfold writeDoor
  rw [ix?_val hd]
  rfl

theorem writeHpu_eq {h : HpuIx} (hh : index.toNat = h.val) : writeHpu p index image s =
    (fun c => decideWrite p (hpuInUse s h) c.refused (decide (c.clamp ≠ c))
      (crossHpu { s.tables with hpus := s.tables.hpus.set h c.clamp } h)
      (hpuWritten h s.tables.hpus[h] c.clamp) s) (HpuConfig.decode image) := by
  unfold writeHpu
  rw [ix?_val hh]
  rfl

theorem writeGroup_eq {g : GroupIx} (hg : index.toNat = g.val) : writeGroup p index image s =
    (fun c => decideWrite p (groupInUse s g) c.refused (decide (c.clamp ≠ c))
      (crossGroup { s.tables with groups := s.tables.groups.set g c.clamp } g)
      (setTables { s.tables with groups := s.tables.groups.set g c.clamp }) s) (GroupRec.decode image) := by
  unfold writeGroup
  rw [ix?_val hg]
  rfl

theorem writePermit_eq {q : PortIx} (hq : index.toNat = q.val) : writePermit p index image s =
    (fun c => decideWrite p false c.refused (decide (c.clamp ≠ c))
      (crossPermit { s.tables with permits := s.tables.permits.set q c.clamp } q)
      (permitWritten q (s.row q) c.clamp) s) (PermitRow.decode image) := by
  unfold writePermit
  rw [ix?_val hq]
  rfl

theorem writeSystem_eq (hi : index.toNat = 0) : writeSystem p index image s =
    (fun c => decideWrite p (decide (s.mc.mode ≠ .LOCAL)) c.refused (decide (c.clamp ≠ c)) none
      (systemWritten s.tables.system c.clamp) s) (SystemRecord.decode image) := if_pos hi

theorem doorInUse_iff {d : DoorIx} : doorInUse s d = true ↔ s.entry d ≠ none ∨ s.passage d ≠ none := by
  unfold doorInUse
  cases s.entry d <;> cases s.passage d <;> simp

theorem groupInUse_iff {g : GroupIx} : groupInUse s g = true ↔ ∃ r ∈ liveRuns s, r.group = .stored g := by
  unfold groupInUse
  simp

end

/-- Settles O34, by the steps of R173 in their order. -/
theorem tableWritesRefused : Obligations.TableWritesRefused := by
  unfold Obligations.TableWritesRefused
  intro p index image s h u refused named
  have free {d : DoorIx} (he : s.entry d = none) (hx : s.passage d = none) : doorInUse u d = false :=
    Bool.eq_false_iff.mpr fun hin => (doorInUse_iff (s := s).mp hin).elim (· he) (· hx)
  have idle {g : GroupIx} (hnot : ¬∃ r ∈ liveRuns s, r.group = .stored g) : groupInUse u g = false :=
    Bool.eq_false_iff.mpr fun hin => hnot (groupInUse_iff (s := s).mp hin)
  refine ⟨fun hlen => ?_, fun hlen hi => ?_, fun d hd hlen => ?_, fun hlen => ?_, fun hlen => ?_, fun hlen => ?_, fun hlen => ?_,
    fun hlen hi => ?_, fun x hx hlen => ?_, fun hlen hi => ?_, fun g hg hlen => ?_, fun hlen hi => ?_, fun q hq hlen => ?_,
    fun hlen hi => ?_, fun hlen hi hmode => ?_, fun hlen hi hmode href => ?_⟩
  · rw [exec_writeDoor h, if_neg (fun hok => hlen (wfImage_iff.mp hok))]
  · rw [exec_writeDoor h, if_pos (wfImage_iff.mpr hlen)]
    unfold writeDoor
    rw [ix?_of_le hi]
    rfl
  · rw [exec_writeDoor h, if_pos (wfImage_iff.mpr hlen), writeDoor_eq hd]
    refine ⟨fun hin => ?_, fun he hx href => ?_, fun he hx href hs r hr => ?_⟩
    · simp only [show doorInUse (acceptFrame p s) d = true from doorInUse_iff.mpr hin]
      rfl
    · exact congrArg _ (decideWrite_refused (free he hx) href)
    · exact congrArg _ (decideWrite_conflict (free he hx) href hs hr)
  · rw [exec_writeHpu h, if_neg (fun hok => hlen (wfImage_iff.mp hok))]
  · rw [exec_writeGroup h, hlen]
    rfl
  · rw [exec_writePermit h, if_neg (fun hok => hlen (wfImage_iff.mp hok))]
  · rw [exec_writeSystem h, if_neg (fun hok => hlen (wfImage_iff.mp hok))]
  · rw [exec_writeHpu h, if_pos (wfImage_iff.mpr hlen)]
    unfold writeHpu
    rw [ix?_of_le hi]
    rfl
  · rw [exec_writeHpu h, if_pos (wfImage_iff.mpr hlen), writeHpu_eq hx]
    have hstands : hpuInUse (acceptFrame p s) x = hpuInUse s x := rfl
    refine ⟨fun hin => ?_, fun hin href => ?_, fun hin href hs r hr => ?_⟩
    · simp only [hstands, hin]
      rfl
    · exact congrArg _ (decideWrite_refused (hstands.trans hin) href)
    · exact congrArg _ (decideWrite_conflict (hstands.trans hin) href hs hr)
  · rw [exec_writeGroup h, if_pos hlen]
    unfold writeGroup
    rw [ix?_of_le hi]
    rfl
  · rw [exec_writeGroup h, if_pos hlen, writeGroup_eq hg]
    refine ⟨fun hin => ?_, fun hin href => ?_, fun hin href hs r hr => ?_⟩
    · simp only [show groupInUse (acceptFrame p s) g = true from groupInUse_iff.mpr hin]
      rfl
    · exact congrArg _ (decideWrite_refused (idle hin) href)
    · exact congrArg _ (decideWrite_conflict (idle hin) href hs hr)
  · rw [exec_writePermit h, if_pos (wfImage_iff.mpr hlen)]
    unfold writePermit
    rw [ix?_of_le hi]
    rfl
  · rw [exec_writePermit h, if_pos (wfImage_iff.mpr hlen), writePermit_eq hq]
    refine ⟨fun href => congrArg _ (decideWrite_refused rfl href), fun href hs hnone => ?_⟩
    refine congrArg _ (decideWrite_conflict (r := ⟨5, q.val⟩) rfl href hs ?_)
    unfold crossPermit
    rw [if_neg]
    rw [hasService_iff]
    exact fun ⟨r, hr⟩ => hnone r hr
  · rw [exec_writeSystem h, if_pos (wfImage_iff.mpr hlen)]
    unfold writeSystem
    rw [if_neg hi]
    rfl
  · rw [exec_writeSystem h, if_pos (wfImage_iff.mpr hlen), writeSystem_eq hi]
    have hbusy : decide ((acceptFrame p s).mc.mode ≠ .LOCAL) = true := decide_eq_true hmode
    simp only [hbusy]
    rfl
  · rw [exec_writeSystem h, if_pos (wfImage_iff.mpr hlen), writeSystem_eq hi]
    exact congrArg _ (decideWrite_refused (decide_eq_false (not_not.mpr hmode)) href)

/-! ### What a write that is taken leaves -/

/-- What the effects of a taken write keep: the tables as written, the store, the sea fields, the clock, the pins and the
counts of accepted frames. -/
structure WriteFrame (s t : State) : Prop where
  tables : t.tables = s.tables
  cfs : t.cfs = s.cfs
  sea : t.mc.sea = s.mc.sea
  seconds : t.seconds = s.seconds
  pins : t.pins = s.pins
  accepted : ∀ q : PortIx, t.sp[q].accepted = s.sp[q].accepted

section
variable {s t u : State}

theorem WriteFrame.refl (s : State) : WriteFrame s s := ⟨rfl, rfl, rfl, rfl, rfl, fun _ => rfl⟩
theorem WriteFrame.trans (h : WriteFrame s t) (g : WriteFrame t u) : WriteFrame s u :=
  ⟨g.tables.trans h.tables, g.cfs.trans h.cfs, g.sea.trans h.sea, g.seconds.trans h.seconds, g.pins.trans h.pins,
    fun q => (g.accepted q).trans (h.accepted q)⟩
theorem WriteFrame.ite {c : Prop} [Decidable c] {a b : State} (h : WriteFrame s a) (g : WriteFrame s b) :
    WriteFrame s (if c then a else b) := by
  split
  · exact h
  · exact g
theorem WriteFrame.forEach {ι : Type} {act : ι → State → State} (h : ∀ i s, WriteFrame s (act i s)) (l : List ι) (s : State) :
    WriteFrame s (forEach l act s) := forEach_rel .refl .trans h l s
theorem WriteFrame.ofBlock (h : BlockFrame s t) : WriteFrame s t :=
  ⟨h.tables, h.cfs, h.sea, h.seconds, h.pins, fun q => by rw [h.queues q]⟩
theorem WriteFrame.ofPresent (h : PresentFrame s t) (hsea : t.mc.sea = s.mc.sea) : WriteFrame s t :=
  ⟨h.tables, h.cfs, hsea, h.seconds, h.pins, fun q => by rw [h.queues q]⟩

theorem WriteFrame.sendSummary (p : PortIx) (s : State) : WriteFrame s (sendSummary p s) := by
  refine .ofPresent (.sendSummary ..) ?_
  have hplaced : (place p (zoneSummary s p) s).mc = s.mc := (PlaceFrame.place ..).mc
  unfold Machine.sendSummary
  simp only
  split
  · exact congrArg Mc.sea hplaced
  · exact congrArg Mc.sea hplaced

theorem WriteFrame.pacingChange (p : PortIx) (s : State) : WriteFrame s (pacingChange p s) :=
  .ite (.ofBlock (PlaceFrame.setPacing ..).toBlockFrame) (.sendSummary ..)

theorem WriteFrame.recomputeComps (l : List CompIx) (s : State) : WriteFrame s (recomputeComps l s) := by
  have hwritten : WriteFrame s (writeComps l s) := by
    unfold writeComps
    exact ⟨rfl, rfl, rfl, rfl, rfl, fun _ => rfl⟩
  exact .ite (hwritten.trans (.forEach (fun _ _ => .pacingChange ..) _ _)) hwritten

theorem handle_of_onlyOrders {d : DoorIx} (h : OnlyOrders s t) : t.handle d = s.handle d := by
  unfold State.handle
  rw [h]

/-- A presentation at which the handle is UNKNOWN counts no denial. -/
theorem WriteFrame.takePresentation {d : DoorIx} (hd : s.handle d = .UNKNOWN) (b : Before) (a : PresentAct) :
    WriteFrame s (takePresentation d b a s) := by
  cases a with
  | MS => exact .ofBlock (RunFrame.presentMS ..).toBlockFrame
  | CS => exact .ofBlock (RunFrame.presentCS ..).toBlockFrame
  | MC_PASSAGE => exact .ofBlock (RunFrame.presentPassage ..).toBlockFrame
  | MC_HANDLE =>
    show WriteFrame s (if s.handle d = b.handle ∨ s.handle d = .UNKNOWN then s else _)
    rw [if_pos (.inr hd)]
    exact .refl s
  | GRU => exact .ofBlock (RunFrame.pokeRuns ..).toBlockFrame
  | IB => exact .ite (.refl s) (.recomputeComps ..)

theorem WriteFrame.presentIn {d : DoorIx} (hd : s.handle d = .UNKNOWN) (order : List PresentAct) (b : Before) :
    WriteFrame s (presentIn order d b s) := by
  refine .trans ?_ (.ofBlock (RunFrame.settleRuns _).toBlockFrame)
  induction order generalizing s with
  | nil => exact .refl s
  | cons a rest ih =>
    have hstep := WriteFrame.takePresentation hd b a
    exact hstep.trans (ih ((handle_of_onlyOrders (PresentFrame.takePresentation ..).orders).trans hd))

theorem WriteFrame.present {d : DoorIx} (hd : s.handle d = .UNKNOWN) (b : Before) : WriteFrame s (present d b s) := by
  have hchosen : WriteFrame s { s with freeCount := s.freeCount + 1 } := ⟨rfl, rfl, rfl, rfl, rfl, fun _ => rfl⟩
  exact .ite (hchosen.trans (.presentIn (s := { s with freeCount := s.freeCount + 1 }) hd ..)) (.ite (.refl s) (.recomputeComps ..))

theorem WriteFrame.resetDoor (d : DoorIx) (old new : Nat) (s : State) : WriteFrame s (resetDoor d old new s) := by
  obtain ⟨v, hv⟩ := resetDoor_eq d old new s
  rw [hv]
  exact ⟨rfl, rfl, rfl, rfl, rfl, fun _ => rfl⟩

theorem WriteFrame.dismissDoor (d : DoorIx) (s : State) : WriteFrame s (dismissDoor d s) :=
  (WriteFrame.forEach (fun _ _ => .ofBlock (AlarmFrame.clearDoor ..).toBlockFrame) _ s).trans
    (.ofBlock (RunFrame.zeroOas ..).toBlockFrame)

theorem handle_resetDoor (d : DoorIx) (old new : Nat) (s : State) : (resetDoor d old new s).handle d = .UNKNOWN := by
  obtain ⟨v, hv⟩ := resetDoor_eq d old new s
  rw [hv]
  unfold State.handle
  simp [Reported.start]

/-- R4: the effects of a door write on the tables as written. -/
theorem WriteFrame.doorWritten (d : DoorIx) (old new : DoorConfig) (s : State) :
    WriteFrame (setTables { s.tables with doors := put s.tables.doors d new } s) (doorWritten d old new s) := by
  unfold Machine.doorWritten
  simp only
  generalize before s d = b
  generalize setTables { s.tables with doors := put s.tables.doors d new } s = u
  have hmoved : WriteFrame u (if old.moved new then Machine.resetDoor d old.node new.node u else u) :=
    .ite (.resetDoor ..) (.refl u)
  have hhandle (h : old.node ≠ new.node) :
      (if old.moved new then Machine.resetDoor d old.node new.node u else u).handle d = .UNKNOWN := by
    rw [if_pos (by unfold DoorConfig.moved; simp [h])]
    exact handle_resetDoor ..
  generalize (if old.moved new then Machine.resetDoor d old.node new.node u else u) = v at hmoved hhandle ⊢
  have hdismissed : WriteFrame v (if old.present = 1 ∧ new.present ≠ 1 then Machine.dismissDoor d v else v) :=
    .ite (.dismissDoor ..) (.refl v)
  by_cases hnode : old.node ≠ new.node ∧ old.present = 1 ∧ new.present = 1
  · have hstays : ¬(old.present = 1 ∧ new.present ≠ 1) := fun h => h.2 hnode.2.2
    rw [if_neg hstays, if_pos hnode]
    have hcomps : PresentFrame v (if old.rezoned new then Machine.recomputeComps
        (compsOf [old.compA, old.compB, new.compA, new.compB]) v else v) := .ite (.recomputeComps ..) (.refl v)
    refine (hmoved.trans (.ite (.recomputeComps ..) (.refl v))).trans (.present ?_ b)
    exact (handle_of_onlyOrders hcomps.orders).trans (hhandle hnode.1)
  · rw [if_neg hnode]
    exact (hmoved.trans hdismissed).trans (.ite (.recomputeComps ..) (.refl _))

theorem WriteFrame.resetFilters (old new : Nat) (s : State) : WriteFrame s (resetFilters old new s) := by
  obtain ⟨v, hv⟩ := setFilter_eq old none s
  obtain ⟨w, hw⟩ := setFilter_eq new none (s.setFilter old none)
  unfold Machine.resetFilters
  rw [hw, hv]
  exact ⟨rfl, rfl, rfl, rfl, rfl, fun _ => rfl⟩

/-- R62: the effects of an HPU write on the tables as written. -/
theorem WriteFrame.hpuWritten (h : HpuIx) (old new : HpuConfig) (s : State) :
    WriteFrame (setTables { s.tables with hpus := put s.tables.hpus h new } s) (hpuWritten h old new s) := by
  have hdismissed (u : State) : WriteFrame u (dismissHpu h u) := by
    have hcleared : AlarmFrame (u.modFlow h fun f => { f with delayAlarm := false }) (dismissHpu h u) :=
      ((AlarmFrame.clearAlarm ..).trans (.clearAlarm ..)).trans (.clearAlarm ..)
    exact .ofBlock ((ScheduleFrame.modFlow ..).toBlockFrame.trans hcleared.toBlockFrame)
  have hreset (u : State) : WriteFrame u ((Machine.resetFilters old.node new.node u).modHpu h fun _ => HpuReported.start) :=
    (WriteFrame.resetFilters ..).trans ⟨rfl, rfl, rfl, rfl, rfl, fun _ => rfl⟩
  exact ((WriteFrame.ite (hreset _) (.refl _)).trans (.ite (hdismissed _) (.refl _))).trans
    (.ofBlock (ScheduleFrame.recomputeE ..).toBlockFrame)

theorem WriteFrame.evalBridge (s : State) : WriteFrame s (evalBridge s) := by
  have hlost (b : Bool) : WriteFrame s (setBridgeLost b s) := ⟨rfl, rfl, rfl, rfl, rfl, fun _ => rfl⟩
  have hmode (u : State) : WriteFrame u (setMode .CLOSED u) := ⟨rfl, rfl, rfl, rfl, rfl, fun _ => rfl⟩
  exact .ite (.refl s) (.ite (.ite (.refl s)
      (((hlost true).trans (.ofBlock (AlarmFrame.raiseAlarm ..).toBlockFrame)).trans
        (.ite (.ofBlock (BlockFrame.enterClosedFromLocal _)) (.refl _))))
    (.ite ((hlost false).trans (.ofBlock (AlarmFrame.clearAlarm ..).toBlockFrame)) (.refl s)))

/-- R125, R126, R150: the effects of a permit-row write on the tables as written. -/
theorem WriteFrame.permitWritten (p : PortIx) (old new : PermitRow) (s : State) :
    WriteFrame (setTables { s.tables with permits := put s.tables.permits p new } s) (permitWritten p old new s) := by
  have hbeat (u : State) : WriteFrame u (heartbeatWritten p old new u) := by
    refine .ite (.refl u) (.trans (t := u.modPort p fun t => { t with hbElapsed := 0, silent := false })
      ⟨rfl, rfl, rfl, rfl, rfl, fun q => ?_⟩ (.ite (.ofBlock (AlarmFrame.clearAlarm ..).toBlockFrame) (.refl _)))
    simp only [State.modPort_sp, Fin.getElem_fin, getElem_upd]
    split
    · next hpq => simp only [hpq]
    · rfl
  have hpacing (u : State) : WriteFrame u (pacingWritten p old new u) :=
    .ite (.refl u) (.ite (.ofBlock (PlaceFrame.setPacing ..).toBlockFrame) (.ite (.refl u)
      (.ite (.sendSummary ..) (.pacingChange ..))))
  exact ((hbeat _).trans (.evalBridge _)).trans (hpacing _)

/-- R59: the effects of a system-record write on the tables as written. -/
theorem WriteFrame.systemWritten (old new : SystemRecord) (s : State) :
    WriteFrame (setTables { s.tables with system := new } s) (systemWritten old new s) :=
  (WriteFrame.ite (.forEach (fun _ _ => .ofBlock (ScheduleFrame.pass ..).toBlockFrame) _ _) (.refl _)).trans
    (.ite (.forEach (fun _ _ => .ofBlock (ScheduleFrame.evalDelay ..).toBlockFrame) _ _) (.refl _))

end

/-- R173: a write that no step refuses, whose effects keep what the tables as written hold, is taken and answered last. -/
theorem written_decideWrite {p : PortIx} {inUse refused clamped : Bool} {conflict : Option RecordName} {new : Tables}
    {s : State} {write : State → State} (hu : inUse = false) (hr : refused = false) (hc : s.inService = true → conflict = none)
    (h : WriteFrame (setTables new (acceptFrame p s)) (write (acceptFrame p s))) :
    Written s (decideWrite p inUse refused clamped conflict write (acceptFrame p s)) p new clamped := by
  rw [decideWrite_taken (s := acceptFrame p s) hu hr hc]
  have hframe := (h.trans (.ofBlock (RunFrame.settleRuns _).toBlockFrame)).trans
    (.ofBlock (PlaceFrame.place p (resultFrame 10 .DONE clamped []) _).toBlockFrame)
  refine ⟨hframe.tables, done_answerDone .., hframe.cfs, hframe.sea, hframe.seconds, hframe.pins, (hframe.accepted p).trans ?_⟩
  show ((acceptFrame p s).sp[p]).accepted = _
  simp [acceptFrame, count16, satInc]

/-- Settles O33: the tables take the clamped record alone, and no effect of the write touches the tables again. -/
theorem tableWritesReplaceOneRecord : Obligations.TableWritesReplaceOneRecord := by
  unfold Obligations.TableWritesReplaceOneRecord
  refine ⟨⟨fun l h => ⟨h, DoorConfig.clamp_clamp _⟩, fun l h => ⟨h, HpuConfig.clamp_clamp _⟩,
      fun l h => ⟨h, GroupRec.clamp_clamp _, ?_⟩, fun l h => ⟨h, PermitRow.clamp_clamp _⟩, fun l h => ⟨h, SystemRecord.clamp_clamp _⟩⟩,
    fun p index image s h => ⟨fun d hd hlen => ?_, fun x hx hlen => ?_, fun g hg hlen => ?_, fun q hq hlen => ?_,
      fun hi hlen hmode => ?_⟩⟩
  · have hcount : (GroupRec.decode l).count ≤ 32 := by
      unfold GroupRec.refused at h
      simp only [Bool.or_eq_false_iff, decide_eq_false_iff_not] at h
      omega
    show (GroupRec.decode l).entries.length = (GroupRec.decode l).count
    rw [GroupRec.length_decode]
    omega
  · intro c new href he hpass hcross
    refine ends_of (exec_writeDoor h) ?_
    rw [if_pos (wfImage_iff.mpr hlen), writeDoor_eq hd]
    have hfree : doorInUse (acceptFrame p s) d = false :=
      Bool.eq_false_iff.mpr fun hin => (doorInUse_iff (s := s).mp hin).elim (· he) (· hpass)
    exact written_decideWrite hfree href hcross (WriteFrame.doorWritten d _ c.clamp (acceptFrame p s))
  · intro c new href hin hcross
    refine ends_of (exec_writeHpu h) ?_
    rw [if_pos (wfImage_iff.mpr hlen), writeHpu_eq hx]
    exact written_decideWrite hin href hcross (WriteFrame.hpuWritten x _ c.clamp (acceptFrame p s))
  · intro c new href hin hcross
    refine ends_of (exec_writeGroup h) ?_
    rw [if_pos hlen, writeGroup_eq hg]
    have hfree : groupInUse (acceptFrame p s) g = false :=
      Bool.eq_false_iff.mpr fun hused => by
        obtain ⟨r, hr, hg⟩ := groupInUse_iff (s := s).mp hused
        exact hin r hr hg
    exact written_decideWrite hfree href hcross (.refl _)
  · intro c new href hservice
    refine ends_of (exec_writePermit h) ?_
    rw [if_pos (wfImage_iff.mpr hlen), writePermit_eq hq]
    exact written_decideWrite rfl href (fun hs => if_pos (hasService_iff.mpr (hservice hs)))
      (WriteFrame.permitWritten q _ c.clamp (acceptFrame p s))
  · intro c href
    refine ends_of (exec_writeSystem h) ?_
    rw [if_pos (wfImage_iff.mpr hlen), writeSystem_eq hi]
    exact written_decideWrite (decide_eq_false (not_not.mpr hmode)) href (fun _ => rfl) (WriteFrame.systemWritten _ c.clamp (acceptFrame p s))

end Sys2Proof.Proofs
end

section
/-! ## Group commands (O28) -/
namespace Sys2Proof.Proofs
open Sys2Proof Sys2Proof.Machine

set_option Elab.async false

section
variable {s t : State} {p : PortIx} {i k : SlotIx} {r : Run} {group cls : Byte} {dir : Direction} {g : GroupRef}

/-! ### The command handed on (R168, R90) -/

theorem exec_group (h : Commands s p dir) (group cls : Byte) : exec (groupInstr p group cls dir) s =
    .next (groupCommand p (groupKind dir) dir group cls (acceptFrame p s)) := by
  cases dir with
  | CLOSE => exact (exec_awake (h.1 rfl).1 rfl).trans (congrArg _ (decide_operating _ (h.1 rfl)))
  | OPEN => exact (exec_awake (h.2 rfl).1.1 rfl).trans (congrArg _ (decide_opening _ (h.2 rfl).1 (h.2 rfl).2))

theorem groupNamed_code (h : group.toNat = g.code) : groupNamed group = some g := by
  unfold groupNamed
  cases g with
  | ALL => exact if_pos h
  | stored x =>
    have hx : group.toNat = x.val := h
    rw [if_neg (by have := x.isLt; omega), ix?_val hx]
    rfl

theorem groupRefusal_includes (h : Includes s p g) : groupRefusal s p g = none := by
  cases g with
  | ALL => rfl
  | stored x =>
    obtain ⟨hpresent, hmask⟩ := h x rfl
    simp only [groupRefusal]
    rw [if_neg (not_not.mpr hpresent), if_neg (by rw [hmask]; simp)]

theorem groupCommand_included (hcode : group.toNat = g.code) (h : Includes s p g) (kind : Nat) :
    groupCommand p kind dir group cls s = launchStation p kind dir g cls.toNat s := by
  unfold groupCommand
  rw [groupNamed_code hcode]
  simp only [groupRefusal_includes h]

/-! ### The slot that a run takes (R90, R91) -/

theorem mem_stationSlots {i : SlotIx} : i ∈ stationSlots ↔ i.val < 4 := by
  revert i
  decide

theorem ne_slotS (h : i.val < 4) : i ≠ slotS := by
  rintro rfl
  exact absurd h (by decide)

theorem freeStationSlot_eq (hi : i.val < 4) (hidle : SlotIdle s i) (hbelow : ∀ j : SlotIx, j < i → ¬SlotIdle s j) :
    freeStationSlot s = some i := by
  have hsplit : ∀ i : SlotIx, i.val < 4 → stationSlots = stationSlots.take i.val ++ i :: stationSlots.drop (i.val + 1) := by
    decide
  have hlower : ∀ i j : SlotIx, j ∈ stationSlots.take i.val → j < i := by decide
  refine List.find?_eq_some_iff_append.mpr ⟨?_, stationSlots.take i.val, stationSlots.drop (i.val + 1), hsplit i hi, fun j hj => ?_⟩
  · rw [hidle]; rfl
  · have := hbelow j (hlower i j hj)
    cases hslot : s.gru.slots[j] with
    | none => exact absurd hslot this
    | some r => rfl

theorem freeStationSlot_full (h : ∀ j ∈ stationSlots, ¬SlotIdle s j) : freeStationSlot s = none :=
  List.find?_eq_none.mpr fun j hj => by
    cases hslot : s.gru.slots[j] with
    | none => exact absurd hslot (h j hj)
    | some r => simp

/-- R90 step 5: the lowest class is held by a station run, and no station run is lower. -/
theorem lowestClass_iff {low : Nat} : lowestClass s = some low ↔
    (∃ j ∈ stationSlots, slotClass s j = some low) ∧ ∀ j ∈ stationSlots, ∀ c ∈ slotClass s j, low ≤ c := by
  unfold lowestClass
  rw [List.min?_eq_some_iff]
  simp only [List.mem_filterMap]
  exact and_congr Iff.rfl ⟨fun h j hj c hc => h c ⟨j, hj, hc⟩, fun h c ⟨j, hj, hc⟩ => h j hj c hc⟩

theorem slotClass_eq (h : s.gru.slots[i] = some r) : slotClass s i = some r.cls := by
  unfold slotClass
  rw [h]
  rfl

theorem mem_slotClass {c : Nat} : c ∈ slotClass s i ↔ ∃ r ∈ s.gru.slots[i], r.cls = c := by
  unfold slotClass
  cases s.gru.slots[i] <;> simp

/-- R89, R92: what GRU holds after a run took a station slot. -/
theorem takeSlot_gru (hi : i ≠ slotS) (g : GroupRef) (dir : Direction) (cls : Nat) (x : SourceGroup) (o : RunOrigin) :
    (takeSlot i g dir cls x o s).gru = { s.gru with
      slots := s.gru.slots.set i (some (newRun i g dir cls x o (nextNumber s)))
      slotting := s.gru.slotting ++ [i]
      counter := nextNumber s + 1 } := by
  unfold takeSlot
  simp only
  rw [if_neg hi]
  rfl

theorem takeSlot_eq (hi : i ≠ slotS) (g : GroupRef) (dir : Direction) (cls : Nat) (x : SourceGroup) (o : RunOrigin) :
    takeSlot i g dir cls x o s = { s with gru := (takeSlot i g dir cls x o s).gru } := by
  unfold takeSlot
  simp only
  rw [if_neg hi]
  rfl

theorem numberHeld_iff {n : Byte} : numberHeld s n = true ↔ ∃ r ∈ liveRuns s, r.number = n := by
  unfold numberHeld
  simp

theorem nextNumber_congr (hheld : ∀ n, numberHeld t n = numberHeld s n) (hcounter : t.gru.counter = s.gru.counter) :
    nextNumber t = nextNumber s := by
  unfold nextNumber
  rw [hcounter, show (fun n => !numberHeld t n) = fun n => !numberHeld s n from funext fun n => by rw [hheld]]

/-- R91: what GRU holds after the run of a slot was suspended. -/
theorem suspend_eq (h : s.gru.slots[k] = some r) : suspend k s = { s with gru := { s.gru with
    slots := s.gru.slots.set k none, slotting := s.gru.slotting.filter fun i => decide (i ≠ k), stack := r :: s.gru.stack } } := by
  unfold suspend
  rw [h]
  rfl

/-- R91: a suspended context is live. -/
theorem mem_liveRuns_suspend {x : Run} (h : s.gru.slots[k] = some r) : x ∈ liveRuns (suspend k s) ↔ x ∈ liveRuns s := by
  rw [mem_liveRuns, mem_liveRuns, suspend_eq h]
  simp only [Fin.getElem_fin, List.mem_cons]
  constructor
  · rintro (⟨i, hi⟩ | rfl | hx)
    · rw [Vector.getElem_set] at hi
      split at hi
      · cases hi
      · exact .inl ⟨i, hi⟩
    · exact .inl ⟨k, h⟩
    · exact .inr hx
  · rintro (⟨i, hi⟩ | hx)
    · by_cases hik : i = k
      · subst hik
        rw [Fin.getElem_fin] at h
        rw [h] at hi
        cases hi
        exact .inr (.inl rfl)
      · refine .inl ⟨i, ?_⟩
        rw [Vector.getElem_set, if_neg (fun hv => hik (Fin.ext hv).symm)]
        exact hi
    · exact .inr (.inr hx)

theorem nextNumber_suspend (h : s.gru.slots[k] = some r) : nextNumber (suspend k s) = nextNumber s := by
  refine nextNumber_congr (fun n => ?_) (by rw [suspend_eq h])
  rw [Bool.eq_iff_iff, numberHeld_iff, numberHeld_iff]
  simp only [mem_liveRuns_suspend h]

/-! ### Accepted and answered (R90, R92) -/

/-- R92: an accepted run is answered with its number and its slot. -/
theorem launchStation_taken {v : Option SlotIx} {kind : Nat} (hi : i ≠ slotS)
    (h : chooseSlot s (usedClass s p cls.toNat) = (.TAKEN i, v)) :
    launchStation p kind dir g cls.toNat s =
      (fun u => answerDone p kind (decide (usedClass s p cls.toNat ≠ cls.toNat)) [nextNumber u, byteOf i.val]
        (takeSlot i g dir (usedClass s p cls.toNat) (s.rowGroup p) (.STATION p) u))
      (match v with | some k => suspend k s | none => s) := by
  unfold launchStation acceptRun
  simp only [h]
  have hnumber (u : State) : slotNumber (takeSlot i g dir (usedClass s p cls.toNat) (s.rowGroup p) (.STATION p) u) i = nextNumber u := by
    unfold slotNumber
    rw [takeSlot_gru hi]
    simp only [Fin.getElem_fin, Vector.getElem_set_self]
    rfl
  rw [hnumber]
  cases v <;> rfl

theorem launchStation_refused {c : ResultCode} {v : Option SlotIx} {kind : Nat}
    (h : chooseSlot s (usedClass s p cls.toNat) = (.REFUSED c, v)) :
    launchStation p kind dir g cls.toNat s =
      refuseWith p kind c (decide (usedClass s p cls.toNat ≠ cls.toNat)) [] s := by
  unfold launchStation acceptRun
  simp only [h]

/-- What an accepted group command keeps beside GRU and its answer. -/
theorem group_answered {kind : Nat} {c : Bool} {data : List Byte} {u : State} (hu : u = { acceptFrame p s with gru := u.gru }) :
    (answerDone p kind c data u).gru = u.gru ∧ Done (answerDone p kind c data u) p kind c data
    ∧ (answerDone p kind c data u).cs = s.cs ∧ (answerDone p kind c data u).ms = s.ms ∧ (answerDone p kind c data u).mc = s.mc
    ∧ (answerDone p kind c data u).rc = s.rc ∧ (answerDone p kind c data u).al = s.al
    ∧ Aside (acceptFrame p s) (answerDone p kind c data u) := by
  have hf := PlaceFrame.place p (resultFrame kind .DONE c data) u
  have haside := aside_of_block hf.toBlockFrame
  rw [hu] at haside
  refine ⟨hf.gru, done_answerDone .., hf.cs.trans ?_, hf.ms.trans ?_, hf.mc.trans ?_, hf.rc.trans ?_, hf.al.trans ?_, ?_⟩
  iterate 5 rw [hu]; rfl
  rw [hu]
  exact haside

end

/-- The numbers from a counter on are distinct. -/
theorem nodup_numbers (c : Byte) : ((List.range 10).map fun k => c + BitVec.ofNat 8 k).Nodup := by
  refine List.Nodup.map_on (fun a ha b hb hab => ?_) List.nodup_range
  have ha := List.mem_range.mp ha
  have hb := List.mem_range.mp hb
  have := congrArg BitVec.toNat (BitVec.add_right_inj c |>.mp hab)
  simp only [BitVec.toNat_ofNat] at this
  omega

/-- R89: one of ten numbers from the counter on is free of at most nine live contexts. -/
theorem exists_free_number {s : State} (h : (liveRuns s).length ≤ 9) :
    ∃ k ∈ List.range 10, numberHeld s (s.gru.counter + BitVec.ofNat 8 k) = false := by
  by_contra hall
  have hheld : ∀ k ∈ List.range 10, numberHeld s (s.gru.counter + BitVec.ofNat 8 k) = true := fun k hk => by
    cases hn : numberHeld s (s.gru.counter + BitVec.ofNat 8 k) with
    | true => rfl
    | false => exact absurd ⟨k, hk, hn⟩ hall
  have hsub : ((List.range 10).map fun k => s.gru.counter + BitVec.ofNat 8 k) ⊆ (liveRuns s).map Run.number := by
    intro n hn
    obtain ⟨k, hk, rfl⟩ := List.mem_map.mp hn
    obtain ⟨r, hr, hrn⟩ := numberHeld_iff.mp (hheld k hk)
    exact List.mem_map.mpr ⟨r, hr, hrn⟩
  have := ((nodup_numbers s.gru.counter).subperm hsub).length_le
  simp only [List.length_map, List.length_range] at this
  omega

/-- R89: the number of the next run is the first from the counter on that no live context holds. -/
theorem nextNumber_first {s : State} (h : (liveRuns s).length ≤ 9) :
    ∃ k ∈ List.range 10, nextNumber s = s.gru.counter + BitVec.ofNat 8 k
      ∧ numberHeld s (nextNumber s) = false
      ∧ ∀ j ∈ List.range k, numberHeld s (s.gru.counter + BitVec.ofNat 8 j) = true := by
  obtain ⟨k, hk, hfree⟩ := exists_free_number h
  have hk := List.mem_range.mp hk
  cases hfind : (List.range 256).find? fun k => !numberHeld s (s.gru.counter + BitVec.ofNat 8 k) with
  | none =>
    have := List.find?_eq_none.mp hfind k (List.mem_range.mpr (by omega))
    rw [hfree] at this
    simp at this
  | some m =>
    obtain ⟨hm, -, hbelow⟩ := List.find?_range_eq_some.mp hfind
    have hnext : nextNumber s = s.gru.counter + BitVec.ofNat 8 m := by
      unfold nextNumber
      rw [List.find?_map]
      show (Option.map _ ((List.range 256).find? fun k => !numberHeld s (s.gru.counter + BitVec.ofNat 8 k))).getD _ = _
      rw [hfind]
      rfl
    have hmk : m ≤ k := by
      by_contra hlt
      have := hbelow k (by omega)
      rw [hfree] at this
      simp at this
    refine ⟨m, List.mem_range.mpr (by omega), hnext, ?_, fun j hj => ?_⟩
    · rw [hnext]
      simpa using hm
    · have := hbelow j (List.mem_range.mp hj)
      simpa using this

/-- Settles O28, by the choice of the slot. -/
theorem groupCommands : Obligations.GroupCommands := by
  unfold Obligations.GroupCommands
  refine ⟨fun p group cls dir g i s hcode hcmd hinc hi hidle hbelow => ?_, fun p group cls dir g k s hcode hcmd hinc hk r hr hv hlow hroom => ?_,
    fun p group cls dir s hcmd => ?_, fun s h => ?_⟩
  · refine ends_of (exec_group hcmd group cls) ?_
    rw [groupCommand_included (s := acceptFrame p s) hcode hinc]
    have hchoose : chooseSlot (acceptFrame p s) (usedClass (acceptFrame p s) p cls.toNat) = (.TAKEN i, none) := by
      unfold chooseSlot
      rw [freeStationSlot_eq (s := acceptFrame p s) hi hidle hbelow]
    rw [launchStation_taken (ne_slotS hi) hchoose]
    have hnext : nextNumber (acceptFrame p s) = nextNumber s := rfl
    have hgru := takeSlot_gru (s := acceptFrame p s) (ne_slotS hi) g dir (usedClass (acceptFrame p s) p cls.toNat)
      ((acceptFrame p s).rowGroup p) (.STATION p)
    obtain ⟨hsame, hdone, hrest⟩ := group_answered (s := s) (kind := groupKind dir)
      (c := decide (usedClass (acceptFrame p s) p cls.toNat ≠ cls.toNat)) (data := [nextNumber s, byteOf i.val])
      (takeSlot_eq (s := acceptFrame p s) (ne_slotS hi) g dir (usedClass (acceptFrame p s) p cls.toNat)
        ((acceptFrame p s).rowGroup p) (.STATION p))
    exact ⟨hsame.trans hgru, hdone, hrest⟩
  · obtain ⟨hslot, hleast, hfind⟩ := hv
    have hfull : ∀ j ∈ stationSlots, ¬SlotIdle s j := fun j hj hidle => by
      obtain ⟨x, hx, -⟩ := hleast j hj
      rw [hidle] at hx
      cases hx
    have hlowest : lowestClass s = some r.cls := by
      refine lowestClass_iff.mpr ⟨⟨k, mem_stationSlots.mpr hk, slotClass_eq hslot⟩, fun j hj c hc => ?_⟩
      obtain ⟨x, hx, rfl⟩ := mem_slotClass.mp hc
      obtain ⟨y, hy, hle⟩ := hleast j hj
      rw [hx] at hy
      cases hy
      exact hle
    have hvictim : victim s = some k := by
      unfold victim
      rw [hlowest]
      exact hfind
    have hchoose : chooseSlot (acceptFrame p s) (usedClass (acceptFrame p s) p cls.toNat) = (.TAKEN k, some k) := by
      unfold chooseSlot
      rw [freeStationSlot_full (s := acceptFrame p s) hfull, show lowestClass (acceptFrame p s) = some r.cls from hlowest,
        show victim (acceptFrame p s) = some k from hvictim]
      have hlt : r.cls < usedClass (acceptFrame p s) p cls.toNat := hlow
      have hlen : (acceptFrame p s).gru.stack.length < stackSize := hroom
      simp only [Option.all_some, hlt, decide_true, if_true, hlen]
    refine ends_of (exec_group hcmd group cls) ?_
    rw [groupCommand_included (s := acceptFrame p s) hcode hinc, launchStation_taken (ne_slotS hk) hchoose]
    simp only
    have hnext : nextNumber (suspend k (acceptFrame p s)) = nextNumber s := nextNumber_suspend (s := acceptFrame p s) hslot
    have hsuspended := suspend_eq (s := acceptFrame p s) hslot
    have hgru := takeSlot_gru (s := suspend k (acceptFrame p s)) (ne_slotS hk) g dir (usedClass (acceptFrame p s) p cls.toNat)
      ((acceptFrame p s).rowGroup p) (.STATION p)
    have htake := takeSlot_eq (s := suspend k (acceptFrame p s)) (ne_slotS hk) g dir (usedClass (acceptFrame p s) p cls.toNat)
      ((acceptFrame p s).rowGroup p) (.STATION p)
    rw [hnext]
    obtain ⟨hsame, hdone, hrest⟩ := group_answered (s := s) (p := p) (kind := groupKind dir)
      (c := decide (usedClass (acceptFrame p s) p cls.toNat ≠ cls.toNat)) (data := [nextNumber s, byteOf k.val])
      (u := takeSlot k g dir (usedClass (acceptFrame p s) p cls.toNat) ((acceptFrame p s).rowGroup p) (.STATION p)
        (suspend k (acceptFrame p s)))
      (htake.trans (by rw [hsuspended]))
    refine ⟨hsame.trans (hgru.trans ?_), hdone, hrest⟩
    rw [hnext, hsuspended]
    simp only [Vector.set_set]
    rfl
  · intro u c kind full
    have hexec := exec_group hcmd group cls
    have named {i : GroupIx} (hi : group.toNat = i.val) : groupNamed group = some (.stored i) :=
      groupNamed_code (g := .stored i) hi
    have hchoose {used : Nat} (hfull : full) : chooseSlot u used =
        if (lowestClass u).all fun low => decide (low < used) then
          if u.gru.stack.length < stackSize then
            match victim u with
            | some i => (.TAKEN i, some i)
            | none => (.REFUSED .BUSY, none)
          else (.REFUSED .NO_ROOM, none)
        else (.REFUSED .BUSY, none) := by
      unfold chooseSlot
      rw [freeStationSlot_full (s := u) hfull] <;> rfl
    refine ⟨fun hge hne => hexec.trans (congrArg _ ?_), fun g hg habsent => hexec.trans (congrArg _ ?_),
      fun g hg hpresent hmask => hexec.trans (congrArg _ ?_), fun g hg hinc hfull => ⟨fun hno => hexec.trans (congrArg _ ?_), fun hlow hroom => hexec.trans (congrArg _ ?_)⟩⟩
    · unfold groupCommand groupNamed
      rw [if_neg hne, ix?_of_le hge]
      rfl
    · unfold groupCommand
      rw [named hg]
      have : groupRefusal u p (.stored g) = some .UNKNOWN_TARGET := if_pos habsent
      simp only [u] at this
      simp only [this]
      rfl
    · unfold groupCommand
      rw [named hg]
      have : groupRefusal u p (.stored g) = some .NOT_PERMITTED := by
        simp only [groupRefusal]
        exact (if_neg (not_not.mpr hpresent)).trans (if_pos hmask)
      simp only [u] at this
      simp only [this]
      rfl
    · rw [groupCommand_included (s := acceptFrame p s) hg hinc]
      refine launchStation_refused (c := .BUSY) (v := none) ((hchoose hfull).trans (if_neg ?_))
      have hsome : ∃ low, lowestClass s = some low := by
        unfold lowestClass
        obtain ⟨r, hr⟩ := Option.ne_none_iff_exists'.mp (hfull 0 (by decide))
        exact Option.isSome_iff_exists.mp (List.isSome_min?_of_mem (a := r.cls)
          (List.mem_filterMap.mpr ⟨0, by decide, slotClass_eq hr⟩))
      obtain ⟨low, hlow⟩ := hsome
      obtain ⟨⟨j, hj, hcls⟩, -⟩ := lowestClass_iff.mp hlow
      obtain ⟨r, hr, rfl⟩ := mem_slotClass.mp hcls
      have hle := hno j hj r hr
      rw [show lowestClass u = some r.cls from hlow]
      simp only [Option.all_some, decide_eq_true_eq]
      exact Nat.not_lt.mpr hle
    · rw [groupCommand_included (s := acceptFrame p s) hg hinc]
      obtain ⟨j, hj, r, hr, hlt⟩ := hlow
      have hall : (lowestClass u).all (fun low => decide (low < usedClass u p cls.toNat)) = true := by
        cases hl : lowestClass u with
        | none => rfl
        | some low =>
          have hle := (lowestClass_iff (s := s)).mp hl |>.2 j hj r.cls (mem_slotClass.mpr ⟨r, hr, rfl⟩)
          simp only [Option.all_some, decide_eq_true_eq]
          exact Nat.lt_of_le_of_lt hle hlt
      refine launchStation_refused (c := .NO_ROOM) (v := none) ((hchoose hfull).trans ?_)
      rw [if_pos hall, if_neg (show ¬u.gru.stack.length < stackSize from Nat.not_lt.mpr hroom)]
  · obtain ⟨k, hk, hnext, hfree, hbelow⟩ := nextNumber_first h
    exact ⟨hfree, k, hk, hnext, hbelow⟩

end Sys2Proof.Proofs
end

section
/-! ## The tick and the seconds counter (O54) -/
namespace Sys2Proof.Proofs
open Sys2Proof Sys2Proof.Machine

set_option Elab.async false

/-! ### Frames placed leave the elapsed of the summaries (R149) -/

/-- The elapsed of every port's summary stands. -/
structure ElapsedStands (s t : State) : Prop where
  port : ∀ q : PortIx, t.ib.pacing[q].elapsed = s.ib.pacing[q].elapsed

section
variable {s t u : State}

theorem ElapsedStands.of_ib (h : t.ib = s.ib) : ElapsedStands s t := ⟨fun _ => by rw [h]⟩
theorem ElapsedStands.refl (s : State) : ElapsedStands s s := .of_ib rfl
theorem ElapsedStands.trans (h : ElapsedStands s t) (g : ElapsedStands t u) : ElapsedStands s u :=
  ⟨fun q => (g.port q).trans (h.port q)⟩
theorem ElapsedStands.after (g : ElapsedStands t u) (h : t.ib = s.ib) : ElapsedStands s u := (ElapsedStands.of_ib h).trans g
theorem ElapsedStands.ite {c : Prop} [Decidable c] {a b : State} (h : ElapsedStands s a) (g : ElapsedStands s b) :
    ElapsedStands s (if c then a else b) := by
  split
  · exact h
  · exact g
theorem ElapsedStands.forEach {ι : Type} {act : ι → State → State} (h : ∀ i s, ElapsedStands s (act i s)) (l : List ι)
    (s : State) : ElapsedStands s (forEach l act s) := forEach_rel .refl .trans h l s

theorem ElapsedStands.pendSummary (p : PortIx) (s : State) : ElapsedStands s (pendSummary p s) := by
  refine .ite ⟨fun q => ?_⟩ (.refl s)
  simp only [State.setPacing, Fin.getElem_fin, getElem_put]
  split
  · next h => simp only [h]
  · rfl

variable (s) (r : AlarmRecord) (k : AlarmKind) (x : Nat)

theorem ElapsedStands.place (p : PortIx) (f : Frame) : ElapsedStands s (place p f s) := by
  unfold Machine.place
  split
  · exact .of_ib rfl
  · exact (ElapsedStands.pendSummary ..).after rfl
  · exact .refl s
theorem ElapsedStands.notify (c : Change) : ElapsedStands s (notify c r s) := .forEach (fun _ _ => .place ..) _ s
theorem ElapsedStands.updateRecord : ElapsedStands s (updateRecord r s) := (ElapsedStands.notify ..).after rfl
theorem ElapsedStands.createRecord (st : AlarmState) : ElapsedStands s (createRecord k x st s) := (ElapsedStands.notify ..).after rfl
theorem ElapsedStands.dropRecord : ElapsedStands s (dropRecord r s) := by
  have hremoved (u : State) : (onRemoval r u).ib = u.ib := by
    unfold onRemoval
    split
    · split <;> rfl
    · rfl
  have hnoticed : ElapsedStands s (Machine.notify .REMOVED r (setRecords (s.al.records.filter fun q => !q.isFor r.kind r.subject) s)) :=
    (ElapsedStands.notify ..).after rfl
  exact hnoticed.trans (.of_ib (hremoved _))
theorem ElapsedStands.clearRecord : ElapsedStands s (clearRecord r s) := by
  unfold Machine.clearRecord
  split
  · exact .updateRecord ..
  · exact .dropRecord ..
  · exact .refl s
theorem ElapsedStands.testListFull : ElapsedStands s (testListFull s) := by
  unfold Machine.testListFull
  split
  · exact .ite (.clearRecord ..) (.refl s)
  · exact .refl s
theorem ElapsedStands.clearAlarm : ElapsedStands s (clearAlarm k x s) := by
  unfold Machine.clearAlarm
  split
  · exact .ite ((ElapsedStands.dropRecord ..).trans (.testListFull _)) (.clearRecord ..)
  · exact .refl s
theorem ElapsedStands.reraise : ElapsedStands s (reraise r s) := .ite (.updateRecord ..) (.refl s)
theorem ElapsedStands.raiseAlarm : ElapsedStands s (raiseAlarm k x s) := by
  have hfull (u : State) : ElapsedStands u (raiseListFull u) := by
    unfold raiseListFull
    split
    · exact .reraise ..
    · exact .createRecord ..
  unfold Machine.raiseAlarm
  split
  · exact .reraise ..
  · exact .ite (.createRecord ..) ((hfull _).after rfl)

end

/-! ### What a clear makes of the list (R155, R158) -/

section
variable {s : State} {k : AlarmKind} {x : Nat} {r q : AlarmRecord}

/-- The records of `t` that `s` does not hold are cleared ones, of LIST_FULL or of the pair. -/
def MadeByClear (k : AlarmKind) (x : Nat) (s t : State) : Prop :=
  (∀ q ∈ t.al.records, q ∈ s.al.records ∨ (q.state = .CLEARED_UNACK ∧ (q.kind = .LIST_FULL ∨ q.pair = (k, x))))
  ∧ t.al.lost = s.al.lost ∧ (AlarmLaw s → AlarmLaw t)

theorem MadeByClear.refl (k : AlarmKind) (x : Nat) (s : State) : MadeByClear k x s s := ⟨fun _ h => .inl h, rfl, id⟩

theorem MadeByClear.trans {t u : State} (h : MadeByClear k x s t) (g : MadeByClear k x t u) : MadeByClear k x s u :=
  ⟨fun q hq => (g.1 q hq).elim (h.1 q) .inr, g.2.1.trans h.2.1, fun hs => g.2.2 (h.2.2 hs)⟩

theorem madeByClear_dropRecord (r : AlarmRecord) (s : State) : MadeByClear k x s (dropRecord r s) := by
  unfold MadeByClear
  rw [dropRecord_al]
  refine ⟨fun q hq => .inl (mem_without.mp hq).1, rfl, fun hs => ?_⟩
  rw [alarmLaw_iff] at hs ⊢
  rw [dropRecord_al]
  exact hs.sublist List.filter_sublist

theorem madeByClear_clearRecord (hr : r.kind = .LIST_FULL ∨ r.pair = (k, x)) (s : State) : MadeByClear k x s (clearRecord r s) := by
  unfold clearRecord
  split
  · unfold MadeByClear
    rw [updateRecord_al]
    refine ⟨fun q hq => ?_, rfl, fun hs => ?_⟩
    · rcases mem_replaced hq with ⟨rfl, -⟩ | ⟨hq, -⟩
      · exact .inr ⟨rfl, hr⟩
      · exact .inl hq
    · rw [alarmLaw_iff] at hs ⊢
      rw [updateRecord_al]
      exact hs.replaced fun _ => rfl
  · exact madeByClear_dropRecord ..
  · exact .refl ..

theorem madeByClear_clearAlarm (k : AlarmKind) (x : Nat) (s : State) : MadeByClear k x s (clearAlarm k x s) := by
  unfold clearAlarm
  split
  · next r hr =>
    have hpair : r.kind = .LIST_FULL ∨ r.pair = (k, x) := by
      obtain ⟨-, hk, hx⟩ := findRecord_some hr
      exact .inr (Prod.ext hk hx)
    split
    · unfold removeRecord
      refine (madeByClear_dropRecord r s).trans ?_
      unfold testListFull
      split
      · next f hf =>
        split
        · exact madeByClear_clearRecord (.inl (findRecord_some hf).2.1) _
        · exact .refl ..
      · exact .refl ..
    · exact madeByClear_clearRecord hpair s
  · exact .refl ..

end

/-! ### The end of ADMISSION_DELAY at a tick (R60) -/

/-- The delay alarm flag of the HPU is set and no READY entry on it is late any more. -/
def relievedIn (s : State) (h : HpuIx) : Prop := s.cs.flow[h].delayAlarm = true ∧ admissionDelayed s h = false

/-- What the tests of some HPUs at a tick leave. -/
structure Relieved (l : List HpuIx) (s t : State) : Prop extends ScheduleFrame s t where
  rc : t.rc = s.rc
  ms : t.ms = s.ms
  entries : t.cs.entries = s.cs.entries
  flow : ∀ h : HpuIx, t.cs.flow[h] = { s.cs.flow[h] with
    delayAlarm := s.cs.flow[h].delayAlarm && (decide (h ∉ l) || admissionDelayed s h) }
  made : ∀ q ∈ t.al.records, q ∈ s.al.records ∨ (q.state = .CLEARED_UNACK ∧ (q.kind = .LIST_FULL ∨
    ∃ h ∈ l, relievedIn s h ∧ q.pair = (.ADMISSION_DELAY, h.val)))
  kept : ∀ r ∈ s.al.records, r ∈ t.al.records ∨ r.kind = .LIST_FULL
    ∨ ∃ h ∈ l, relievedIn s h ∧ r.pair = (.ADMISSION_DELAY, h.val)
  lost : t.al.lost = s.al.lost
  law : AlarmLaw s → AlarmLaw t
  cleared : AlarmLaw s → ∀ h ∈ l, relievedIn s h → Cleared t .ADMISSION_DELAY h.val
  elapsed : ElapsedStands s t
  stands : (∀ h ∈ l, ¬relievedIn s h) → t = s

section
variable {s t u : State} {h : HpuIx} {l : List HpuIx}

theorem Relieved.refl_of (hl : ∀ h ∈ l, ¬relievedIn s h) : Relieved l s s where
  toScheduleFrame := .refl s
  rc := rfl
  ms := rfl
  entries := rfl
  flow h := by
    by_cases hm : h ∈ l
    · have := hl h hm
      cases hd : s.cs.flow[h].delayAlarm with
      | false => rw [Bool.false_and, ← hd]
      | true =>
        have hlate : admissionDelayed s h = true := by
          cases hx : admissionDelayed s h with
          | true => rfl
          | false => exact absurd ⟨hd, hx⟩ this
        rw [hlate, Bool.or_true, Bool.and_true, ← hd]
    · rw [decide_eq_true hm, Bool.true_or, Bool.and_true]
  made q hq := .inl hq
  kept q hq := .inl hq
  lost := rfl
  law := id
  cleared _ h hm hr := absurd hr (hl h hm)
  elapsed := .refl s
  stands _ := rfl

theorem Relieved.clear (hr : relievedIn s h) : Relieved [h] s (evalDelay h s) := by
  obtain ⟨hflag, hdelayed⟩ := id hr
  have heval : evalDelay h s = clearAlarm .ADMISSION_DELAY h.val (s.modFlow h fun f => { f with delayAlarm := false }) := by
    unfold evalDelay
    rw [if_neg (by rw [hdelayed]; exact Bool.false_ne_true), if_pos hflag]
  obtain ⟨hmade, hlost, hlaw⟩ := madeByClear_clearAlarm .ADMISSION_DELAY h.val (s.modFlow h fun f => { f with delayAlarm := false })
  refine { toScheduleFrame := .evalDelay .., rc := evalDelay_rc .., ms := evalDelay_ms .., entries := ?_, flow := fun x => ?_,
           made := fun q hq => ?_, kept := fun r hm => ?_, lost := ?_, law := fun hs => ?_, cleared := fun hs x hx _ => ?_,
           elapsed := ?_, stands := fun hnone => absurd hr (hnone h List.mem_cons_self) }
  · rw [evalDelay_cs]
  · rw [evalDelay_cs, hdelayed]
    simp only [Fin.getElem_fin, getElem_upd]
    by_cases hx : x = h
    · subst hx
      rw [if_pos rfl]
      simp [hdelayed]
    · rw [if_neg (fun hv => hx (Fin.ext hv).symm), decide_eq_true (show x ∉ [h] by simpa using hx), Bool.true_or, Bool.and_true]
  · rw [heval] at hq
    refine (hmade q hq).imp_right fun ⟨hstate, hkind⟩ => ⟨hstate, hkind.imp_right fun hpair => ?_⟩
    exact ⟨h, List.mem_cons_self, hr, hpair⟩
  · by_cases hk : r.kind = .LIST_FULL
    · exact .inr (.inl hk)
    by_cases hpair : r.pair = (.ADMISSION_DELAY, h.val)
    · exact .inr (.inr ⟨h, List.mem_cons_self, hr, hpair⟩)
    · exact .inl ((onlyAlarms_evalDelay h s).1 r hm (by simpa using hpair) hk)
  · rw [heval]; exact hlost
  · rw [heval]; exact hlaw hs
  · rw [List.mem_singleton.mp hx]
    exact cleared_evalDelay hflag hdelayed hs
  · rw [heval]; exact (ElapsedStands.clearAlarm ..).after rfl

theorem Relieved.tickDelay (h : HpuIx) (s : State) : Relieved [h] s (tickDelay h s) := by
  unfold Machine.tickDelay
  by_cases hd : admissionDelayed s h = true
  · rw [if_pos hd]
    exact .refl_of fun x hx => by
      rw [List.mem_singleton.mp hx]
      exact fun hr => absurd (hd.symm.trans hr.2) (by decide)
  · rw [if_neg hd]
    have hd : admissionDelayed s h = false := Bool.eq_false_iff.mpr hd
    cases hflag : s.cs.flow[h].delayAlarm with
    | true => exact .clear ⟨hflag, hd⟩
    | false =>
      have hsame : evalDelay h s = s := by
        unfold evalDelay
        rw [if_neg (by rw [hd]; exact Bool.false_ne_true), if_neg (by rw [hflag]; exact Bool.false_ne_true)]
      rw [hsame]
      exact .refl_of fun x hx => by
        rw [List.mem_singleton.mp hx]
        exact fun hr => absurd (hflag.symm.trans hr.1) (by decide)

theorem Relieved.delayed (hst : Relieved l s t) (h : HpuIx) : admissionDelayed t h = admissionDelayed s h :=
  admissionDelayed_congr hst.entries hst.tables h

theorem Relieved.relievedIn_iff (hst : Relieved l s t) (hl : h ∉ l) : relievedIn t h ↔ relievedIn s h := by
  unfold relievedIn
  rw [hst.delayed, hst.flow, decide_eq_true hl, Bool.true_or, Bool.and_true]

theorem Relieved.trans {m : List HpuIx} (hst : Relieved l s t) (htu : Relieved m t u) (hlm : ∀ h ∈ m, h ∉ l) :
    Relieved (l ++ m) s u where
  toScheduleFrame := hst.toScheduleFrame.trans htu.toScheduleFrame
  rc := htu.rc.trans hst.rc
  ms := htu.ms.trans hst.ms
  entries := htu.entries.trans hst.entries
  flow h := by
    rw [htu.flow, hst.flow, hst.delayed]
    have hmem : (decide (h ∉ l ++ m)) = (decide (h ∉ l) && decide (h ∉ m)) := by simp
    rw [hmem]
    cases decide (h ∉ l) <;> cases decide (h ∉ m) <;> cases s.cs.flow[h].delayAlarm <;> cases admissionDelayed s h <;> rfl
  made q hq := by
    rcases htu.made q hq with hq | ⟨hstate, hq⟩
    · exact (hst.made q hq).imp_right fun ⟨hstate, hkind⟩ => ⟨hstate, hkind.imp_right fun ⟨h, hm, hr⟩ =>
        ⟨h, List.mem_append_left _ hm, hr⟩⟩
    · exact .inr ⟨hstate, hq.imp_right fun ⟨h, hm, hr, hpair⟩ =>
        ⟨h, List.mem_append_right _ hm, (hst.relievedIn_iff (hlm h hm)).mp hr, hpair⟩⟩
  kept r hr := by
    rcases hst.kept r hr with hr | hr | ⟨h, hm, hrel⟩
    · exact (htu.kept r hr).imp_right fun hr => hr.imp_right fun ⟨h, hm, hrel, hpair⟩ =>
        ⟨h, List.mem_append_right _ hm, (hst.relievedIn_iff (hlm h hm)).mp hrel, hpair⟩
    · exact .inr (.inl hr)
    · exact .inr (.inr ⟨h, List.mem_append_left _ hm, hrel⟩)
  lost := htu.lost.trans hst.lost
  law hs := htu.law (hst.law hs)
  cleared hs h hm hr := by
    by_cases hmem : h ∈ m
    · exact htu.cleared (hst.law hs) h hmem ((hst.relievedIn_iff (hlm h hmem)).mpr hr)
    · have hl := (List.mem_append.mp hm).resolve_right hmem
      intro r hmr hk hx
      rcases htu.made r hmr with hmt | ⟨hstate, -⟩
      · exact hst.cleared hs h hl hr r hmt hk hx
      · exact hstate
  elapsed := hst.elapsed.trans htu.elapsed
  stands hnone := by
    have hsame := hst.stands fun h hm => hnone h (List.mem_append_left _ hm)
    rw [htu.stands fun h hm => (hst.relievedIn_iff (hlm h hm)).not.mpr (hnone h (List.mem_append_right _ hm)), hsame]

theorem Relieved.each {l : List HpuIx} (hl : l.Nodup) (s : State) : Relieved l s (forEach l Machine.tickDelay s) := by
  induction l generalizing s with
  | nil => exact .refl_of fun h hm => absurd hm List.not_mem_nil
  | cons h rest ih =>
    obtain ⟨hfirst, hrest⟩ := List.nodup_cons.mp hl
    exact (Relieved.tickDelay h s).trans (ih hrest _) fun x hx => by
      rintro hxh
      rw [List.mem_singleton.mp hxh] at hx
      exact hfirst hx

end

/-! ### The counting of one tick -/

section
variable (s : State)

theorem countTick_entry (d : DoorIx) : (countTick s).entry d = (s.entry d).map entryTicked := by
  unfold countTick State.entry
  simp only [Fin.getElem_fin, getElem_updAll]
  congr 1

theorem countTick_passage (d : DoorIx) : (countTick s).passage d =
    (s.passage d).map fun x => if x.phase = .RECLOSING then x else { x with held := min (x.held + 1) 65535 } := by
  unfold countTick State.passage
  simp only [Fin.getElem_fin, getElem_updAll]
  exact congrArg (fun f => Option.map f _) (funext fun x => by unfold Passage.tick satInc; rfl)

theorem countTick_slot (i : SlotIx) : (countTick s).gru.slots[i] =
    (s.gru.slots[i]).map fun r => if r.state = .WAITING then { r with waitAge := min (r.waitAge + 1) 2550 } else r := by
  unfold countTick
  simp only [Fin.getElem_fin, getElem_updAll]
  rfl

theorem standsOpenAtSea_iff (d : DoorIx) : standsOpenAtSea s d = true ↔ CountsAtSea s d := by
  unfold standsOpenAtSea
  simp [and_assoc]

theorem countTick_oas (d : DoorIx) : (countTick s).mc.oas[d] = (s.mc.oas[d]).tick (oasRuns s d) := by
  unfold countTick
  simp only [Fin.getElem_fin, getElem_updAll]

theorem oasRuns_iff (d : DoorIx) : oasRuns s d = true ↔ CountsAtSea s d ∧ s.entry d = none ∧ s.passage d = none := by
  unfold oasRuns
  rw [Bool.and_eq_true, Bool.and_eq_true, standsOpenAtSea_iff, and_assoc, Option.isNone_iff_eq_none, Option.isNone_iff_eq_none]

theorem countTick_sp (q : PortIx) : (countTick s).sp[q] = { s.sp[q] with
    hbElapsed := if s.inService = true ∧ (s.row q).hbRequired = 1 ∧ s.sp[q].hbElapsed < s.tables.system.hbMax
      then s.sp[q].hbElapsed + 1 else s.sp[q].hbElapsed } := by
  unfold countTick
  simp only [Fin.getElem_fin, getElem_updAll]
  unfold tickHeartbeat
  split <;> rfl

theorem countTick_hpu (h : HpuIx) : (countTick s).rc.hpus[h] =
    if s.hpuPresent h then { s.rc.hpus[h] with age := min (s.rc.hpus[h].age + 1) 65535 } else s.rc.hpus[h] := by
  unfold countTick tickRing
  simp only [Fin.getElem_fin, getElem_updAll]
  rfl

theorem countTick_pacing (q : PortIx) : (countTick s).ib.pacing[q].elapsed =
      (if s.inService = true ∧ (s.row q).summaryMask ≠ 0 then min (s.ib.pacing[q].elapsed + 1) 20 else s.ib.pacing[q].elapsed)
    ∧ (countTick s).ib.pacing[q].pending = s.ib.pacing[q].pending := by
  have h : (countTick s).ib.pacing[q] = tickPacing s q s.ib.pacing[q] := by
    unfold countTick
    simp only [Fin.getElem_fin, getElem_updAll]
  rw [h]
  unfold tickPacing hasMask
  by_cases hc : s.inService = true ∧ (s.row q).summaryMask ≠ 0
  · rw [if_pos hc, if_pos (by simpa using hc)]
    exact ⟨rfl, rfl⟩
  · rw [if_neg hc, if_neg (by simpa using hc)]
    exact ⟨rfl, rfl⟩

/-- A tick counts, and keeps the rest of the part. -/
theorem countTick_keeps : (countTick s).tables = s.tables ∧ (countTick s).cfs = s.cfs ∧ (countTick s).ms = s.ms
    ∧ (countTick s).pins = s.pins ∧ (countTick s).seconds = s.seconds ∧ (countTick s).freeCount = s.freeCount
    ∧ (countTick s).pending = s.pending ∧ (countTick s).al = s.al ∧ (countTick s).cs.flow = s.cs.flow
    ∧ (countTick s).cs.nextArrival = s.cs.nextArrival := by
  unfold countTick
  exact ⟨rfl, rfl, rfl, rfl, rfl, rfl, rfl, rfl, rfl, rfl⟩

theorem countTick_mc : (countTick s).mc =
    { s.mc with passages := (countTick s).mc.passages, oas := (countTick s).mc.oas } := by
  unfold countTick
  rfl

theorem countTick_gru : (countTick s).gru = { s.gru with slots := (countTick s).gru.slots } := by
  unfold countTick
  rfl

theorem countTick_ib : (countTick s).ib = { s.ib with pacing := (countTick s).ib.pacing } := by
  unfold countTick
  rfl

theorem countTick_rc : (countTick s).rc = { s.rc with
    hpus := (countTick s).rc.hpus
    replyLimit := s.rc.replyLimit - 1
    loop := s.rc.loop.map fun x => { x with timer := x.timer - 1 }
    interval := if s.inService then s.rc.interval else min (s.rc.interval + 1) 50 } := by
  unfold countTick tickRing
  rfl

end

/-- Settles O54: the counting of the tick, the clears of ADMISSION_DELAY over it, and one second. -/
theorem timeCounts : Obligations.TimeCounts := by
  unfold Obligations.TimeCounts
  refine ⟨fun s hawake => ends_of (exec_awake hawake rfl) ?_, fun s hawake => ends_of (exec_awake hawake rfl) ?_⟩
  · have hall : ∀ h : HpuIx, h ∈ allHpus := List.mem_finRange
    have hr : Relieved allHpus (countTick s) (supervisionTick s) := by
      unfold supervisionTick
      exact Relieved.each (l := allHpus) (List.nodup_finRange 8) (countTick s)
    generalize supervisionTick s = t at hr ⊢
    obtain ⟨htables, hcfs, hms, hpins, hseconds, hfree, hpending, hal, hflow, hnext⟩ := countTick_keeps s
    intro relieved
    have hrelieved (h : HpuIx) : relieved h ↔ relievedIn (countTick s) h := by
      unfold relievedIn
      rw [hflow, ← hr.delayed]
    refine ⟨fun d => ?_, fun d => ?_, fun d => ⟨fun hc he hp => ?_, fun hnot => ?_⟩, ?_, fun i => ?_, ?_, fun q => ?_, fun h => ?_,
      ?_, fun q => ?_, ?_, fun h => ?_, fun h hs hrel => ?_, fun hnone => ?_, fun q hq => ?_, fun r hm => ?_, ?_, ?_, ?_⟩
    · rw [← countTick_entry]
      exact entry_congr hr.entries d
    · rw [← countTick_passage]
      exact passage_of_mc_passages (by rw [hr.mc]) d
    · rw [hr.mc, countTick_oas, (oasRuns_iff s d).mpr ⟨hc, he, hp⟩]
      refine ⟨rfl, ?_⟩
      simp [OasTimer.tick, oasTicks]
    · have hruns : oasRuns s d = false := Bool.eq_false_iff.mpr fun hruns => by
        obtain ⟨hc, he, hp⟩ := (oasRuns_iff s d).mp hruns
        rcases hnot with hn | hn | hn
        · exact hn hc
        · exact hn he
        · exact hn hp
      rw [hr.mc, countTick_oas, hruns]
      rfl
    · rw [hr.mc]
      exact countTick_mc s
    · rw [hr.gru]
      exact countTick_slot s i
    · rw [hr.gru]
      exact countTick_gru s
    · rw [hr.queues q, countTick_sp]
    · rw [hr.rc]
      exact countTick_hpu s h
    · rw [hr.rc]
      exact countTick_rc s
    · rw [hr.elapsed.port q]
      exact (countTick_pacing s q).1
    · rw [hr.pacing, countTick_ib]
    · rw [hr.flow, hflow, ← hr.delayed, decide_eq_false (not_not.mpr (hall h)), Bool.false_or]
    · exact hr.cleared ((alarmLaw_congr (by rw [hal])).mpr hs) h (hall h) ((hrelieved h).mp hrel)
    · rw [hr.stands fun h _ hrel => hnone h ((hrelieved h).mpr hrel)]
      refine ⟨hal, fun q => ?_⟩
      rw [countTick_sp]
      exact ⟨rfl, (countTick_pacing s q).2⟩
    · refine (hr.made q hq).imp (fun hm => by rwa [hal] at hm) fun ⟨hstate, hk⟩ => ⟨hstate, hk.imp_right fun ⟨h, _, hrel, hpair⟩ => ?_⟩
      exact ⟨h, (hrelieved h).mpr hrel, hpair⟩
    · exact (hr.kept r (by rwa [hal])).imp_right fun hk => hk.imp_right fun ⟨h, _, hrel, hpair⟩ => ⟨h, (hrelieved h).mpr hrel, hpair⟩
    · rw [hr.lost, hal]
    · rw [hr.nextArrival, hnext]
    · have h1 := hr.tables.trans htables
      have h2 := hr.cfs.trans hcfs
      have h3 := hr.ms.trans hms
      have h4 := hr.pins.trans hpins
      have h5 := hr.seconds.trans hseconds
      have h6 := hr.freeCount.trans hfree
      have h7 := hr.pending.trans hpending
      clear hr hrelieved relieved
      cases t
      simp only at h1 h2 h3 h4 h5 h6 h7
      subst h1 h2 h3 h4 h5 h6 h7
      rfl
  · have hsea (d : DoorIx) : (secondsIncrement s).mc.sea[d] = (s.mc.sea[d]).second (standsOpenAtSea s d) := by
      unfold secondsIncrement
      simp only [Fin.getElem_fin, getElem_updAll]
    refine ⟨fun htop => if_neg htop, fun d => ⟨fun hc => ?_, fun hc => ?_⟩, ?_⟩
    · rw [hsea, (standsOpenAtSea_iff s d).mpr hc]
      rfl
    · rw [hsea, Bool.eq_false_iff.mpr fun hs => hc ((standsOpenAtSea_iff s d).mp hs)]
      rfl
    · unfold secondsIncrement
      rfl

end Sys2Proof.Proofs
end

section
/-! ## What an operation of the alarm list leaves of the records, the notices and the latches (R12, R153 to R162) -/
namespace Sys2Proof.Proofs
open Sys2Proof Sys2Proof.Machine

set_option Elab.async false

/-! ### A list that became another by notified changes -/

section
variable {s t u : State}

/-- What keeps all that an operation of the alarm list keeps differs in AL, SP, IB and MS alone. -/
theorem state_of_alarmFrame (h : AlarmFrame s t) : t = { s with al := t.al, sp := t.sp, ib := t.ib, ms := t.ms } := by
  cases s; cases t
  obtain ⟨⟨⟨⟨rfl, rfl, rfl, rfl, rfl, -, -, -, -, -⟩, -, -, -, rfl, -⟩, rfl, rfl, -⟩, rfl, rfl⟩ := h
  rfl

theorem wantsNotice_congr (h : t.tables = s.tables) (k : AlarmKind) (p : PortIx) : wantsNotice t k p = wantsNotice s k p := by
  unfold wantsNotice State.row; rw [h]

/-- R162: the notice of a change is placed at each port that wants it. -/
theorem noticed_notify (c : Change) (r : AlarmRecord) (s : State) :
    Noticed s (notify c r s) [(c, r, unackCount s.al.records)] := by
  intro q frames hroom
  have hport := (PlaceFrame.notify c r s).queues q
  have hqueue : (notify c r s).sp[q].queue = s.sp[q].queue ++ frames := by
    unfold notify
    rw [queue_placeEach (ports := allPorts.filter _) _ ((List.nodup_finRange 8).filter _)]
    cases hwants : (s.row q).notices.getLsbD r.kind.category with
    | true =>
      have hframes : frames = [noticeFrame c r (unackCount s.al.records)] := by simp only [frames, List.filter, hwants, List.map]
      have hq : q ∈ allPorts.filter (wantsNotice s r.kind) := List.mem_filter.mpr ⟨List.mem_finRange q, hwants⟩
      rw [hframes] at hroom ⊢
      rw [if_pos hq]
      exact placedIn_of_room hroom
    | false =>
      have hframes : frames = [] := by simp only [frames, List.filter, hwants, List.map]
      have hq : ¬q ∈ allPorts.filter (wantsNotice s r.kind) := fun h =>
        Bool.false_ne_true (hwants.symm.trans (List.mem_filter.mp h).2)
      rw [if_neg hq, hframes, List.append_nil]
  rw [hport, hqueue]

theorem noticed_trans {a b : List (Change × AlarmRecord × Nat)} (htables : t.tables = s.tables) (h : Noticed s t a)
    (g : Noticed t u b) : Noticed s u (a ++ b) := by
  intro q frames hroom
  have hrow : t.row q = s.row q := by unfold State.row; rw [htables]
  have hg := g q
  rw [hrow] at hg
  simp only [frames, List.filter_append, List.map_append, List.length_append] at hroom ⊢
  have hfirst := h q (by omega)
  rw [hfirst] at hg
  rw [hg (by simp only [List.length_append]; omega), List.append_assoc]

theorem listBecame_trans {l m : List AlarmRecord} {a b : List (Change × AlarmRecord × Nat)} (h : ListBecame s t l a)
    (g : ListBecame t u m b) : ListBecame s u m (a ++ b) := by
  obtain ⟨hal, hnoticed, hqueues, hpacing, hstate⟩ := h
  obtain ⟨gal, gnoticed, gqueues, gpacing, gstate⟩ := g
  have htables : t.tables = s.tables := by rw [hstate]
  refine ⟨by rw [gal, hal], noticed_trans htables hnoticed gnoticed, hqueues.trans gqueues, hpacing.trans gpacing, ?_⟩
  rw [gstate, hstate]

/-- A written list of which one change was notified. -/
theorem listBecame_written (c : Change) (r : AlarmRecord) (l : List AlarmRecord) (s : State) :
    ListBecame s (notify c r (setRecords l s)) l [(c, r, unackCount l)] := by
  have frame : AlarmFrame s (notify c r (setRecords l s)) :=
    (AlarmFrame.setRecords s l).trans (PlaceFrame.notify ..).toAlarmFrame
  refine ⟨?_, ?_, frame.queues, frame.pacing, state_of_alarmFrame frame⟩
  · rw [notify_al]; rfl
  · exact noticed_notify c r (setRecords l s)

/-- A latch apart, which the list does not hold. -/
theorem listBecame_onRemoval {l : List AlarmRecord} {a : List (Change × AlarmRecord × Nat)} (r : AlarmRecord)
    (h : ListBecame s t l a) : ListBecame s (onRemoval r t) l a := by
  unfold onRemoval
  split
  · split
    · obtain ⟨hal, hnoticed, hqueues, hpacing, hstate⟩ := h
      refine ⟨hal, hnoticed, hqueues, hpacing, ?_⟩
      rw [hstate]
      rfl
    · exact h
  · exact h

end

theorem inPlace_eq_replaced (l : List AlarmRecord) (r : AlarmRecord) : inPlace l r = replaced r l :=
  List.map_congr_left fun _ _ => if_congr isFor_iff.symm rfl rfl

theorem without_eq_filter (k : AlarmKind) (x : Nat) (l : List AlarmRecord) :
    without k x l = l.filter fun q => decide (q.pair ≠ (k, x)) := by
  unfold without
  refine List.filter_congr fun _ _ => ?_
  rw [Bool.eq_iff_iff]
  simp [← isFor_iff]

section
variable (r : AlarmRecord) (s : State)

theorem listBecame_updateRecord : ListBecame s (updateRecord r s) (inPlace s.al.records r)
    [(.UPDATED, r, unackCount (inPlace s.al.records r))] := by
  rw [inPlace_eq_replaced]
  exact listBecame_written ..

theorem listBecame_createRecord (k : AlarmKind) (x : Nat) (st : AlarmState) :
    let l := inserted s.al.records ⟨k, x, st, s.seconds, 1⟩
    ListBecame s (createRecord k x st s) l [(.CREATED, ⟨k, x, st, s.seconds, 1⟩, unackCount l)] := listBecame_written ..

theorem listBecame_dropRecord : let l := s.al.records.filter fun q => decide (q.pair ≠ r.pair)
    ListBecame s (dropRecord r s) l [(.REMOVED, r, unackCount l)] := by
  intro l
  have hl : l = without r.kind r.subject s.al.records := (without_eq_filter ..).symm
  rw [hl]
  exact listBecame_onRemoval r (listBecame_written ..)

theorem ms_onRemoval_eq : (onRemoval r s).ms.moveRepeats = s.ms.moveRepeats ∧ ∀ d : DoorIx,
    (onRemoval r s).ms.doors[d] =
      { s.ms.doors[d] with latch := if r.kind = .DOOR_FAULT ∧ r.subject = d.val then .NONE else s.latch d } := by
  unfold onRemoval
  by_cases hkind : r.kind = .DOOR_FAULT
  · rw [if_pos hkind]
    cases hix : ix? 96 r.subject with
    | none =>
      refine ⟨rfl, fun d => ?_⟩
      rw [if_neg]
      · rfl
      · rintro ⟨-, hsubject⟩
        exact Option.some_ne_none d ((ix?_val hsubject).symm.trans hix)
    | some x =>
      have hx : x.val = r.subject := ix?_eq_some.mp hix
      refine ⟨rfl, fun d => ?_⟩
      by_cases hd : x = d
      · subst hd
        simp [State.modSup, hkind, hx]
      · have hval : x.val ≠ d.val := fun h => hd (Fin.ext h)
        rw [if_neg (fun h => hval (hx.trans h.2))]
        simp [State.modSup, hval, State.latch]
  · rw [if_neg hkind]
    exact ⟨rfl, fun d => by rw [if_neg (fun h => hkind h.1)]; rfl⟩

/-- R12, R160: the removal of a DOOR_FAULT record takes the latch of its door to NONE, and no other supervision field. -/
theorem ms_dropRecord_eq : (dropRecord r s).ms.moveRepeats = s.ms.moveRepeats ∧ ∀ d : DoorIx,
    (dropRecord r s).ms.doors[d] =
      { s.ms.doors[d] with latch := if r.kind = .DOOR_FAULT ∧ r.subject = d.val then .NONE else s.latch d } := by
  have hms : (notify .REMOVED r (setRecords (s.al.records.filter fun q => !q.isFor r.kind r.subject) s)).ms = s.ms :=
    (PlaceFrame.notify ..).ms
  have := ms_onRemoval_eq r (notify .REMOVED r (setRecords (s.al.records.filter fun q => !q.isFor r.kind r.subject) s))
  unfold dropRecord
  simpa only [State.latch, hms] using this

end

/-! ### The raise, the event and the clear (R154 to R158) -/

section
variable {s : State} {k : AlarmKind} {x : Nat} {r : AlarmRecord}

theorem findRecord_of_mem (hlaw : AlarmLaw s) (hr : r ∈ s.al.records) (hpair : r.pair = (k, x)) : findRecord k x s = some r := by
  cases h : findRecord k x s with
  | none => exact absurd hpair (findRecord_none.mp h r hr)
  | some q =>
    obtain ⟨hq, hk, hx⟩ := findRecord_some h
    have hpairs : q.pair = r.pair := (Prod.ext hk hx : q.pair = (k, x)).trans hpair.symm
    rw [((alarmLaw_iff s).mp hlaw).eq_of_pair hq hr hpairs]

theorem inserted_of_other (l : List AlarmRecord) (h : r.kind ≠ .LIST_FULL) :
    inserted l r = l.filter (fun q => decide (q.kind ≠ .LIST_FULL)) ++ [r] ++ l.filter (fun q => decide (q.kind = .LIST_FULL)) :=
  if_neg h

/-- R157: what a raise that finds no room leaves. -/
theorem loseRaise_ends (hlaw : AlarmLaw s) :
    let list := s.al.records
    let last := list.filter fun q => decide (q.kind = .LIST_FULL)
    let t := loseRaise s
    let u := { s with al := { s.al with lost := min (s.al.lost + 1) 65535 } }
    let full := freshRecord .LIST_FULL noSubject s.seconds
    (last = [] → ListBecame u t (list ++ [full]) [(.CREATED, full, unackCount (list ++ [full]))] ∧ t.ms = s.ms)
    ∧ ∀ f ∈ last,
        (f.state ≠ .CLEARED_UNACK → t = u)
        ∧ (f.state = .CLEARED_UNACK →
            let r := { f with state := .ACTIVE_UNACK, count := min (f.count + 1) 255 }
            ListBecame u t (inPlace list r) [(.UPDATED, r, unackCount (inPlace list r))] ∧ t.ms = s.ms) := by
  intro list last t u full
  have ht : t = raiseListFull u := rfl
  have hulaw : AlarmLaw u := hlaw
  refine ⟨fun hnone => ?_, fun f hf => ?_⟩
  · have hfind : findRecord .LIST_FULL noSubject u = none := findRecord_none.mpr fun q hq hpair =>
      List.filter_eq_nil_iff.mp hnone q hq (decide_eq_true (congrArg Prod.fst hpair))
    have hraise : t = createRecord .LIST_FULL noSubject .ACTIVE_UNACK u := by rw [ht, raiseListFull, hfind]
    have hl : inserted list full = list ++ [full] := if_pos rfl
    rw [hraise, ← hl]
    exact ⟨listBecame_createRecord .., ms_createRecord ..⟩
  · obtain ⟨hmem, hkind⟩ := List.mem_filter.mp hf
    have hkind : f.kind = .LIST_FULL := of_decide_eq_true hkind
    have hpair : f.pair = (.LIST_FULL, noSubject) := Prod.ext hkind (hlaw.2.2.2.1 f hmem hkind)
    have hraise : t = reraise f u := by rw [ht, raiseListFull, findRecord_of_mem hulaw hmem hpair]
    refine ⟨fun hstate => by rw [hraise, reraise, if_neg hstate], fun hstate => ?_⟩
    rw [hraise, reraise, if_pos hstate]
    exact ⟨listBecame_updateRecord .., ms_updateRecord ..⟩

/-- R158: the test of LIST_FULL after a removal. -/
theorem testListFull_eq_self (h : 48 < otherCount s.al.records ∨ Cleared s .LIST_FULL noSubject) : testListFull s = s := by
  unfold testListFull
  split
  · next f hf =>
    obtain ⟨hmem, hkind, hsubject⟩ := findRecord_some hf
    refine if_neg fun ⟨hstate, hcount⟩ => ?_
    obtain hlt | hcleared := h
    · exact absurd hcount (Nat.not_le.mpr hlt)
    · exact hstate (hcleared f hmem hkind hsubject)
  · rfl

theorem testListFull_clears {f : AlarmRecord} (hlaw : AlarmLaw s) (hf : f ∈ s.al.records) (hkind : f.kind = .LIST_FULL)
    (hcount : otherCount s.al.records ≤ 48) (hstate : f.state ≠ .CLEARED_UNACK) : testListFull s = clearRecord f s := by
  have hpair : f.pair = (.LIST_FULL, noSubject) := Prod.ext hkind (hlaw.2.2.2.1 f hf hkind)
  unfold testListFull
  rw [findRecord_of_mem hlaw hf hpair]
  exact if_pos ⟨hstate, hcount⟩

theorem alarmLaw_dropRecord (r : AlarmRecord) (hlaw : AlarmLaw s) : AlarmLaw (dropRecord r s) := by
  rw [alarmLaw_iff, dropRecord_al]
  exact ((alarmLaw_iff s).mp hlaw).sublist List.filter_sublist

theorem ms_removeRecord (r : AlarmRecord) (s : State) : (removeRecord r s).ms = (dropRecord r s).ms := ms_testListFull

/-- R158: a removal, and what the test of LIST_FULL makes of that record. -/
theorem removeRecord_ends (hlaw : AlarmLaw s) (hk : r.kind ≠ .LIST_FULL) :
    let list := s.al.records
    let last := list.filter fun q => decide (q.kind = .LIST_FULL)
    let t := removeRecord r s
    let l := list.filter fun q => decide (q.pair ≠ r.pair)
    let removed : Change × AlarmRecord × Nat := (.REMOVED, r, unackCount l)
    (48 < otherCount l ∨ Cleared s .LIST_FULL noSubject → ListBecame s t l [removed])
    ∧ (otherCount l ≤ 48 → ∀ f ∈ last,
        (f.state = .ACTIVE_UNACK →
          let g := { f with state := .CLEARED_UNACK }
          ListBecame s t (inPlace l g) [removed, (.UPDATED, g, unackCount (inPlace l g))])
        ∧ (f.state = .ACTIVE_ACKED →
          let m := l.filter fun q => decide (q.kind ≠ .LIST_FULL)
          ListBecame s t m [removed, (.REMOVED, f, unackCount m)])) := by
  intro list last t l removed
  have dropped : ListBecame s (dropRecord r s) l [removed] := listBecame_dropRecord r s
  have hrecords : (dropRecord r s).al.records = l := by rw [dropped.1]
  have hdlaw := alarmLaw_dropRecord r hlaw
  refine ⟨fun h => ?_, fun hcount f hf => ?_⟩
  · have hstands : t = dropRecord r s := testListFull_eq_self <| by
      rw [hrecords]
      refine h.imp_right fun hc q hq => hc q ?_
      rw [hrecords] at hq
      exact (List.mem_filter.mp hq).1
    rw [hstands]
    exact dropped
  · obtain ⟨hmem, hkind⟩ := List.mem_filter.mp hf
    have hkind : f.kind = .LIST_FULL := of_decide_eq_true hkind
    have hfl : f ∈ (dropRecord r s).al.records := by
      rw [hrecords]
      exact List.mem_filter.mpr ⟨hmem, decide_eq_true fun hp => hk ((congrArg Prod.fst hp).symm.trans hkind)⟩
    have hclears (hstate : f.state ≠ .CLEARED_UNACK) : t = clearRecord f (dropRecord r s) :=
      testListFull_clears hdlaw hfl hkind (by rw [hrecords]; exact hcount) hstate
    refine ⟨fun hstate => ?_, fun hstate => ?_⟩
    · rw [hclears (by rw [hstate]; decide), clearRecord, hstate]
      have := listBecame_updateRecord { f with state := .CLEARED_UNACK } (dropRecord r s)
      rw [hrecords] at this
      exact listBecame_trans dropped this
    · rw [hclears (by rw [hstate]; decide), clearRecord, hstate]
      have hm : (l.filter fun q => decide (q.pair ≠ f.pair)) = l.filter fun q => decide (q.kind ≠ .LIST_FULL) := by
        refine List.filter_congr fun q hq => decide_eq_decide.mpr (not_congr ⟨fun h => ?_, fun h => ?_⟩)
        · exact (congrArg Prod.fst h).trans hkind
        · rw [← hrecords] at hq
          exact congrArg AlarmRecord.pair (((alarmLaw_iff _).mp hdlaw).full_eq hq hfl h hkind)
      have := listBecame_dropRecord f (dropRecord r s)
      rw [hrecords, hm] at this
      exact listBecame_trans dropped this

end

end Sys2Proof.Proofs
end

section
/-! ## Alarms acknowledged, and the statement about the alarm list (R153 to R162) -/
namespace Sys2Proof.Proofs
open Sys2Proof Sys2Proof.Machine

set_option Elab.async false

/-! ### One record acknowledged (R159) -/

section
variable {s : State} {k : AlarmKind} {x : Nat} {r q : AlarmRecord}

/-- R159: the record of an unacknowledged or acknowledged condition stands acknowledged in its place. -/
theorem ackRecord_records (hlaw : AlarmLaw s) (hr : r ∈ s.al.records) (hstate : r.state ≠ .CLEARED_UNACK) :
    (ackRecord r s).al.records = s.al.records.map fun q => if q.pair = r.pair then acked q else q := by
  have law := (alarmLaw_iff s).mp hlaw
  have hacked : (s.al.records.map fun q => if q.pair = r.pair then acked q else q)
      = s.al.records.map fun q => if q.pair = r.pair then acked r else q := by
    refine List.map_congr_left fun q hq => ?_
    split
    · next hpair => rw [law.eq_of_pair hq hr hpair]
    · rfl
  rw [hacked]
  unfold ackRecord
  split
  · rw [updateRecord_al]
    exact (inPlace_eq_replaced s.al.records (acked r)).symm
  · next hr' =>
    have hself : acked r = r := by cases r; cases hr'; rfl
    refine (List.map_id _).symm.trans (List.map_congr_left fun q hq => ?_)
    split
    · next hpair => rw [hself, law.eq_of_pair hq hr hpair]; rfl
    · rfl
  · next hr' => exact absurd hr' hstate

theorem ackRecord_of_cleared (hstate : r.state = .CLEARED_UNACK) (s : State) : ackRecord r s = removeRecord r s := by
  unfold ackRecord; rw [hstate]

theorem mem_dropRecord : q ∈ (dropRecord r s).al.records ↔ q ∈ s.al.records ∧ q.pair ≠ r.pair := by
  rw [dropRecord_al]; exact mem_without

/-- The test of LIST_FULL leaves every record of another kind, and of LIST_FULL none that had been CLEARED_UNACK only. -/
theorem mem_testListFull (hq : q ∈ (testListFull s).al.records) :
    q ∈ s.al.records ∨ (q.kind = .LIST_FULL ∧ ∃ f ∈ s.al.records, f.pair = q.pair ∧ f.state ≠ .CLEARED_UNACK) := by
  unfold testListFull at hq
  split at hq
  · next f hf =>
    obtain ⟨hmem, hkind, -⟩ := findRecord_some hf
    split at hq
    · next hcond =>
      unfold clearRecord at hq
      split at hq
      · rw [updateRecord_al] at hq
        obtain ⟨rfl, -⟩ | ⟨hq, -⟩ := mem_replaced hq
        · exact .inr ⟨hkind, f, hmem, rfl, hcond.1⟩
        · exact .inl hq
      · exact .inl (mem_dropRecord.mp hq).1
      · exact .inl hq
    · exact .inl hq
  · exact .inl hq

theorem mem_testListFull_of_other (hq : q ∈ s.al.records) (hk : q.kind ≠ .LIST_FULL) : q ∈ (testListFull s).al.records :=
  (onlyAlarms_testListFull s []).1 q hq (by simp) hk

theorem otherCount_testListFull_of_lt (h : 48 < otherCount (testListFull s).al.records) : testListFull s = s :=
  testListFull_eq_self (.inl (h.trans_le otherCount_testListFull))

/-- R158: with few enough other records LIST_FULL stands no longer. -/
theorem cleared_testListFull (hlaw : AlarmLaw s) (h : otherCount (testListFull s).al.records ≤ 48) :
    Cleared (testListFull s) .LIST_FULL noSubject := by
  have law := (alarmLaw_iff s).mp hlaw
  by_cases hactive : ∃ f ∈ s.al.records, f.kind = .LIST_FULL ∧ f.state ≠ .CLEARED_UNACK
  · obtain ⟨f, hf, hkind, hstate⟩ := hactive
    have hcount : otherCount s.al.records ≤ 48 := by
      by_contra hlt
      rw [testListFull_eq_self (.inl (Nat.lt_of_not_le hlt))] at h
      exact hlt h
    rw [testListFull_clears hlaw hf hkind hcount hstate]
    intro q hq hqk hqx
    have hpair : q.pair = f.pair := Prod.ext (hqk.trans hkind.symm) (hqx.trans (law.fullSubject f hf hkind).symm)
    unfold clearRecord at hq
    split at hq
    · rw [updateRecord_al] at hq
      obtain ⟨rfl, -⟩ | ⟨-, hne⟩ := mem_replaced hq
      · rfl
      · exact absurd hpair hne
    · exact absurd hpair (mem_dropRecord.mp hq).2
    · next hf' => exact absurd hf' hstate
  · have hcleared : Cleared s .LIST_FULL noSubject := fun f hf hkind _ =>
      not_not.mp fun hstate => hactive ⟨f, hf, hkind, hstate⟩
    rw [testListFull_eq_self (.inr hcleared)]
    exact hcleared

end

/-! ### Every record acknowledged (R159) -/

section
variable {s t : State} {k : AlarmKind} {x : Nat} {r q : AlarmRecord}

/-- What the acknowledgement of one pair leaves of the records. LIST_FULL alone changes beside it, and only where it stood
ACTIVE. -/
structure PairAcked (k : AlarmKind) (x : Nat) (s t : State) : Prop where
  others : ∀ q ∈ s.al.records, q.pair ≠ (k, x) → q.kind ≠ .LIST_FULL → q ∈ t.al.records
  source : ∀ q ∈ t.al.records, q.pair ≠ (k, x) →
    q ∈ s.al.records ∨ (q.kind = .LIST_FULL ∧ ∃ f ∈ s.al.records, f.pair = q.pair ∧ f.state ≠ .CLEARED_UNACK)
  acked : ∀ r ∈ s.al.records, r.pair = (k, x) → r.state ≠ .CLEARED_UNACK → acked r ∈ t.al.records
  standing : ∀ q ∈ t.al.records, q.pair = (k, x) →
    q.state = .ACTIVE_ACKED ∧ ∃ r ∈ s.al.records, r.pair = (k, x) ∧ r.state ≠ .CLEARED_UNACK
  freed : ∀ d : DoorIx, (∃ r ∈ s.al.records, r.pair = (k, x) ∧ r.pair = (.DOOR_FAULT, d.val) ∧ r.state = .CLEARED_UNACK) →
    t.latch d = .NONE
  kept : ∀ d : DoorIx, (∀ r ∈ s.al.records, r.pair = (k, x) → r.pair = (.DOOR_FAULT, d.val) → r.state ≠ .CLEARED_UNACK) →
    t.latch d = s.latch d

theorem latch_dropRecord (r : AlarmRecord) (s : State) (d : DoorIx) :
    (dropRecord r s).latch d = if r.pair = (.DOOR_FAULT, d.val) then .NONE else s.latch d := by
  have := congrArg Supervision.latch ((ms_dropRecord_eq r s).2 d)
  refine this.trans (if_congr ?_ rfl rfl)
  exact (Prod.ext_iff (x := r.pair) (y := (AlarmKind.DOOR_FAULT, d.val))).symm

theorem latch_removeRecord (r : AlarmRecord) (s : State) (d : DoorIx) :
    (removeRecord r s).latch d = if r.pair = (.DOOR_FAULT, d.val) then .NONE else s.latch d := by
  unfold State.latch
  rw [ms_removeRecord]
  exact latch_dropRecord r s d

theorem ackRecord_ms (hstate : r.state ≠ .CLEARED_UNACK) : (ackRecord r s).ms = s.ms := by
  unfold ackRecord
  split
  · exact ms_updateRecord ..
  · rfl
  · next h => exact absurd h hstate

theorem pairAcked_ackNamed (hlaw : AlarmLaw s) : PairAcked k x s (ackNamed k x s) := by
  have law := (alarmLaw_iff s).mp hlaw
  unfold ackNamed
  split
  · next r hr =>
    obtain ⟨hmem, hk, hx⟩ := findRecord_some hr
    obtain rfl : r.kind = k := hk
    obtain rfl : r.subject = x := hx
    change PairAcked r.kind r.subject s (ackRecord r s)
    by_cases hstate : r.state = .CLEARED_UNACK
    · rw [ackRecord_of_cleared hstate]
      have gone {q : AlarmRecord} (hq : q ∈ (removeRecord r s).al.records) : q.pair ≠ r.pair := by
        obtain hq | ⟨-, f, hf, hpair, -⟩ := mem_testListFull hq
        · exact (mem_dropRecord.mp hq).2
        · exact hpair ▸ (mem_dropRecord.mp hf).2
      exact {
        others := fun q hq hne hqk => mem_testListFull_of_other (mem_dropRecord.mpr ⟨hq, hne⟩) hqk
        source := fun q hq _ => (mem_testListFull hq).imp (fun h => (mem_dropRecord.mp h).1)
          fun ⟨hqk, f, hf, hrest⟩ => ⟨hqk, f, (mem_dropRecord.mp hf).1, hrest⟩
        acked := fun q hq hpair hq' => absurd hstate (law.eq_of_pair hq hmem hpair ▸ hq')
        standing := fun q hq hpair => absurd hpair (gone hq)
        freed := fun d ⟨q, _, hpair, hdoor, _⟩ => by rw [latch_removeRecord, if_pos (show r.pair = _ from hpair.symm.trans hdoor)]
        kept := fun d h => by rw [latch_removeRecord, if_neg fun hdoor => h r hmem rfl hdoor hstate] }
    · have hrecords := ackRecord_records hlaw hmem hstate
      have hms := ackRecord_ms (s := s) hstate
      exact {
        others := fun q hq hne _ => by
          rw [hrecords]
          exact List.mem_map.mpr ⟨q, hq, if_neg hne⟩
        source := fun q hq hne => by
          rw [hrecords] at hq
          obtain ⟨p, hp, rfl⟩ := List.mem_map.mp hq
          split at hne
          · next hpair => exact absurd hpair hne
          · next hpair => rw [if_neg hpair]; exact .inl hp
        acked := fun q hq hpair _ => by
          rw [hrecords]
          exact List.mem_map.mpr ⟨q, hq, if_pos hpair⟩
        standing := fun q hq hpair => by
          rw [hrecords] at hq
          obtain ⟨p, hp, rfl⟩ := List.mem_map.mp hq
          split at hpair
          · next hp' => rw [if_pos hp']; exact ⟨rfl, r, hmem, rfl, hstate⟩
          · next hp' => exact absurd hpair hp'
        freed := fun d ⟨q, hq, hpair, _, hq'⟩ => absurd (law.eq_of_pair hq hmem hpair ▸ hq') hstate
        kept := fun d _ => by unfold State.latch; rw [hms] }
  · next hnone =>
    have none := findRecord_none.mp hnone
    exact {
      others := fun q hq _ _ => hq
      source := fun q hq _ => .inl hq
      acked := fun r hr hpair _ => absurd hpair (none r hr)
      standing := fun q hq hpair => absurd hpair (none q hq)
      freed := fun d ⟨r, hr, hpair, _⟩ => absurd hpair (none r hr)
      kept := fun d _ => rfl }

/-- The records of a list acknowledged one after another. -/
abbrev ackEach (l : List AlarmRecord) (s : State) : State := forEach l (fun r => ackNamed r.kind r.subject) s

variable {a : AlarmRecord} {l : List AlarmRecord}

/-- Every record left by the acknowledgement of a list that names every record not yet acknowledged is acknowledged. -/
theorem ackEach_all (hlaw : AlLaw s) (hlast : l.Pairwise fun a _ => a.kind ≠ .LIST_FULL)
    (hs : ∀ q ∈ s.al.records, (∃ a ∈ l, a.pair = q.pair) ∨ (q.state = .ACTIVE_ACKED ∧ (q.kind = .LIST_FULL → l = []))) :
    ∀ q ∈ (ackEach l s).al.records, q.state = .ACTIVE_ACKED := by
  induction l generalizing s with
  | nil => exact fun q hq => ((hs q hq).resolve_left (by simp)).1
  | cons a rest ih =>
    obtain ⟨hhead, hrest⟩ := List.pairwise_cons.mp hlast
    have step : PairAcked a.kind a.subject s (ackNamed a.kind a.subject s) := pairAcked_ackNamed hlaw.1
    have later {p : AlarmRecord} (hp : p ∈ s.al.records) (hne : p.pair ≠ a.pair) :
        (∃ b ∈ rest, b.pair = p.pair) ∨ (p.state = .ACTIVE_ACKED ∧ p.kind ≠ .LIST_FULL) := by
      obtain ⟨b, hb, hpair⟩ | ⟨hstate, hfull⟩ := hs p hp
      · obtain rfl | hb := List.mem_cons.mp hb
        · exact absurd hpair.symm hne
        · exact .inl ⟨b, hb, hpair⟩
      · exact .inr ⟨hstate, fun h => by cases hfull h⟩
    refine ih (alLaw_ackNamed hlaw) hrest fun q hq => ?_
    by_cases hpair : q.pair = a.pair
    · refine .inr ⟨(step.standing q hq hpair).1, fun hk => ?_⟩
      cases rest with
      | nil => rfl
      | cons b _ => exact absurd ((congrArg Prod.fst hpair).symm.trans hk) (hhead b (by simp))
    · obtain hold | ⟨hk, f, hf, hfq, -⟩ := step.source q hq hpair
      · exact (later hold hpair).imp_right fun ⟨h, hk⟩ => ⟨h, fun h' => absurd h' hk⟩
      · obtain ⟨b, hb, hbf⟩ | ⟨-, hk'⟩ := later hf (hfq ▸ hpair)
        · exact .inl ⟨b, hb, hbf.trans hfq⟩
        · exact absurd ((congrArg Prod.fst hfq).trans hk) hk'

/-- A record that stands ACTIVE, of a pair of the list, is acknowledged by it. -/
theorem ackEach_acked (hlaw : AlLaw s) {r : AlarmRecord} (hr : r ∈ s.al.records) (hk : r.kind ≠ .LIST_FULL)
    (hstate : r.state ≠ .CLEARED_UNACK) (hin : (∃ a ∈ l, a.pair = r.pair) ∨ acked r = r) :
    acked r ∈ (ackEach l s).al.records := by
  induction l generalizing s r with
  | nil => exact (hin.resolve_left (by simp)).symm ▸ hr
  | cons a rest ih =>
    have step : PairAcked a.kind a.subject s (ackNamed a.kind a.subject s) := pairAcked_ackNamed hlaw.1
    by_cases hpair : r.pair = a.pair
    · exact ih (alLaw_ackNamed hlaw) (r := acked r) (step.acked r hr hpair hstate) hk (by simp [acked]) (.inr rfl)
    · refine ih (alLaw_ackNamed hlaw) (step.others r hr hpair hk) hk hstate (hin.imp_left fun ⟨b, hb, hbr⟩ => ?_)
      obtain rfl | hb := List.mem_cons.mp hb
      · exact absurd hbr.symm hpair
      · exact ⟨b, hb, hbr⟩

/-- What stands ACTIVE after the acknowledgement of a list stood ACTIVE before. -/
theorem ackEach_source (hlaw : AlLaw s) (hq : q ∈ (ackEach l s).al.records) (hstate : q.state ≠ .CLEARED_UNACK) :
    ∃ r ∈ s.al.records, r.pair = q.pair ∧ r.state ≠ .CLEARED_UNACK := by
  induction l generalizing s with
  | nil => exact ⟨q, hq, rfl, hstate⟩
  | cons a rest ih =>
    have step : PairAcked a.kind a.subject s (ackNamed a.kind a.subject s) := pairAcked_ackNamed hlaw.1
    obtain ⟨r, hr, hrq, hr'⟩ := ih (alLaw_ackNamed hlaw) hq
    by_cases hpair : r.pair = a.pair
    · obtain ⟨-, p, hp, hpa, hp'⟩ := step.standing r hr hpair
      exact ⟨p, hp, (hpa.trans hpair.symm).trans hrq, hp'⟩
    · obtain hold | ⟨-, f, hf, hfr, hf'⟩ := step.source r hr hpair
      · exact ⟨r, hold, hrq, hr'⟩
      · exact ⟨f, hf, hfr.trans hrq, hf'⟩

/-- The latch of a door is kept where no DOOR_FAULT record of it is removed. -/
theorem ackEach_kept (hlaw : AlLaw s) {d : DoorIx}
    (h : ∀ r ∈ s.al.records, r.pair = (.DOOR_FAULT, d.val) → r.state ≠ .CLEARED_UNACK) : (ackEach l s).latch d = s.latch d := by
  induction l generalizing s with
  | nil => rfl
  | cons a rest ih =>
    have step : PairAcked a.kind a.subject s (ackNamed a.kind a.subject s) := pairAcked_ackNamed hlaw.1
    refine (ih (alLaw_ackNamed hlaw) fun r hr hdoor => ?_).trans (step.kept d fun r hr _ hdoor => h r hr hdoor)
    by_cases hpair : r.pair = a.pair
    · rw [(step.standing r hr hpair).1]; decide
    · refine h r ((step.source r hr hpair).resolve_right fun ⟨hk, _⟩ => ?_) hdoor
      cases (congrArg Prod.fst hdoor).symm.trans hk

theorem ackNamed_none {d : DoorIx} (hlaw : AlarmLaw s) (h : s.latch d = .NONE) : (ackNamed k x s).latch d = .NONE := by
  by_cases hfreed : ∃ r ∈ s.al.records, r.pair = (k, x) ∧ r.pair = (.DOOR_FAULT, d.val) ∧ r.state = .CLEARED_UNACK
  · exact (pairAcked_ackNamed hlaw).freed d hfreed
  · rw [(pairAcked_ackNamed hlaw).kept d fun r hr hp hd hs => hfreed ⟨r, hr, hp, hd, hs⟩, h]

theorem ackEach_none {d : DoorIx} (hlaw : AlLaw s) (h : s.latch d = .NONE) : (ackEach l s).latch d = .NONE := by
  induction l generalizing s with
  | nil => exact h
  | cons a rest ih => exact ih (alLaw_ackNamed hlaw) (ackNamed_none hlaw.1 h)

/-- The latch of a door returns to NONE where the DOOR_FAULT record of it, cleared, is removed. -/
theorem ackEach_freed (hlaw : AlLaw s) {d : DoorIx} (hr : r ∈ s.al.records) (hdoor : r.pair = (.DOOR_FAULT, d.val))
    (hstate : r.state = .CLEARED_UNACK) (hin : ∃ a ∈ l, a.pair = r.pair) : (ackEach l s).latch d = .NONE := by
  induction l generalizing s with
  | nil => simp at hin
  | cons a rest ih =>
    have step : PairAcked a.kind a.subject s (ackNamed a.kind a.subject s) := pairAcked_ackNamed hlaw.1
    by_cases hpair : r.pair = a.pair
    · exact ackEach_none (s := ackNamed a.kind a.subject s) (alLaw_ackNamed hlaw) (step.freed d ⟨r, hr, hpair, hdoor, hstate⟩)
    · have hk : r.kind ≠ .LIST_FULL := fun hk => by cases (congrArg Prod.fst hdoor).symm.trans hk
      obtain ⟨b, hb, hbr⟩ := hin
      obtain rfl | hb := List.mem_cons.mp hb
      · exact absurd hbr.symm hpair
      · exact ih (alLaw_ackNamed hlaw) (step.others r hr hpair hk) ⟨b, hb, hbr⟩

theorem alLaw_ackEach (hlaw : AlLaw s) : AlLaw (ackEach l s) := by
  induction l generalizing s with
  | nil => exact hlaw
  | cons a rest ih => exact ih (alLaw_ackNamed hlaw)

end

/-! ### What an acknowledgement leaves of the count of lost raises -/

section
variable (s : State) (r : AlarmRecord)

theorem lost_dropRecord : (dropRecord r s).al.lost = s.al.lost := by rw [dropRecord_al]; rfl

theorem lost_clearRecord : (clearRecord r s).al.lost = s.al.lost := by
  unfold clearRecord
  split
  · rw [updateRecord_al]; rfl
  · exact lost_dropRecord ..
  · rfl

theorem lost_testListFull : (testListFull s).al.lost = s.al.lost := by
  unfold testListFull
  split
  · split
    · exact lost_clearRecord ..
    · rfl
  · rfl

theorem lost_ackRecord : (ackRecord r s).al.lost = s.al.lost := by
  unfold ackRecord
  split
  · rw [updateRecord_al]; rfl
  · rfl
  · exact (lost_testListFull _).trans (lost_dropRecord ..)

theorem lost_ackNamed (k : AlarmKind) (x : Nat) : (ackNamed k x s).al.lost = s.al.lost := by
  unfold ackNamed
  split
  · exact lost_ackRecord ..
  · rfl

theorem lost_ackAll : (ackAll s).al.lost = s.al.lost :=
  forEach_rel (R := fun s t => t.al.lost = s.al.lost) (fun _ => rfl) (fun h g => g.trans h) (fun _ _ => lost_ackNamed ..) _ s

end

end Sys2Proof.Proofs
end

section
/-! ## The statement about raising, clearing and acknowledging alarms -/
namespace Sys2Proof.Proofs
open Sys2Proof Sys2Proof.Machine

set_option Elab.async false

section
variable {p : PortIx} {s : State}

theorem exec_alarmAck (kind subject : Byte) (h : Awake s) : exec (.alarmAck p kind subject) s = .next
    (decideCommand (operating 8 closingRoles) (alarmKindOf kind.toNat).isNone p (alarmAck p kind subject) s) := exec_awake h rfl

theorem exec_alarmAckAll (h : Awake s) : exec (.alarmAckAll p) s = .next
    (decideCommand (operating 8 closingRoles) false p (fun t => answerDone p 8 false [] (ackAll t)) s) := exec_awake h rfl

theorem alarmKindOf_eq_none : ∀ c : Nat, c = 0 ∨ 17 < c → alarmKindOf c = none := by
  intro c h
  have hall (k : AlarmKind) : k.code ≠ c := by cases k <;> simp only [AlarmKind.code] <;> omega
  exact List.find?_eq_none.mpr fun k _ => by simpa using hall k

theorem alarmKindOf_code (k : AlarmKind) : alarmKindOf k.code = some k := by cases k <;> rfl

/-- A code from 1 to 17 is that of a kind. -/
theorem exists_kind_of_code {c : Nat} (hlow : 1 ≤ c) (hhigh : c ≤ 17) : ∃ k : AlarmKind, k.code = c := by
  have hall : ∀ c : Fin 18, 1 ≤ c.val → ∃ k ∈ alarmKinds, k.code = c.val := by decide
  obtain ⟨k, -, hk⟩ := hall ⟨c, by omega⟩ hlow
  exact ⟨k, hk⟩

/-- R168 step 2: a kind code that names nothing is refused. -/
theorem gateRefusal_naming_nothing {roles : List Role} {kind : Nat} (h : Operates s p roles) :
    gateRefusal (operating kind roles) true p s = some .INVALID_VALUE := by
  unfold gateRefusal
  rw [if_neg (by rintro ⟨h', -⟩; exact absurd h.2.1 (by simp [h'])), if_pos rfl]

theorem block_answered (f : State → State) (hf : ∀ u, BlockFrame u (f u)) :
    BlockFrame (acceptFrame p s) (answerDone p 8 false [] (f (acceptFrame p s))) :=
  (hf _).trans (frame_answerDone ..).toBlockFrame

/-- What an ALARM_ACK that names a record leaves of the list and of the latches. -/
theorem ackRecord_ends {r : AlarmRecord} (hlaw : AlarmLaw s) (hr : r ∈ s.al.records) : let t := ackRecord r s
    (r.state ≠ .CLEARED_UNACK → t.al.records = s.al.records.map fun q => if q.pair = r.pair then acked q else q)
    ∧ (r.state = .CLEARED_UNACK →
        (∀ q ∈ t.al.records, q.pair ≠ r.pair)
        ∧ (∀ q ∈ s.al.records, q.pair ≠ r.pair → q.kind ≠ .LIST_FULL → q ∈ t.al.records)
        ∧ (∀ q ∈ t.al.records, q ∈ s.al.records ∨ q.kind = .LIST_FULL)
        ∧ (48 < otherCount t.al.records → t.al.records = s.al.records.filter fun q => decide (q.pair ≠ r.pair))
        ∧ (otherCount t.al.records ≤ 48 → Cleared t .LIST_FULL noSubject))
    ∧ (∀ d : DoorIx, t.latch d =
        if r.pair = (.DOOR_FAULT, d.val) ∧ r.state = .CLEARED_UNACK then .NONE else s.latch d) := by
  intro t
  refine ⟨ackRecord_records hlaw hr, fun hstate => ?_, fun d => ?_⟩
  · have ht : t = testListFull (dropRecord r s) := ackRecord_of_cleared hstate s
    rw [ht]
    refine ⟨fun q hq => ?_, fun q hq hne hk => mem_testListFull_of_other (mem_dropRecord.mpr ⟨hq, hne⟩) hk, fun q hq => ?_,
      fun hlt => ?_, cleared_testListFull (alarmLaw_dropRecord r hlaw)⟩
    · obtain hq | ⟨-, f, hf, hpair, -⟩ := mem_testListFull hq
      · exact (mem_dropRecord.mp hq).2
      · exact hpair ▸ (mem_dropRecord.mp hf).2
    · exact (mem_testListFull hq).imp (fun h => (mem_dropRecord.mp h).1) And.left
    · rw [otherCount_testListFull_of_lt hlt, dropRecord_al]
      exact without_eq_filter ..
  · by_cases hstate : r.state = .CLEARED_UNACK
    · have ht : t = removeRecord r s := ackRecord_of_cleared hstate s
      rw [ht, latch_removeRecord]
      simp only [hstate, and_true]
    · have hms : t.ms = s.ms := ackRecord_ms hstate
      rw [if_neg fun h => hstate h.2]
      unfold State.latch
      rw [hms]

end

/-- Settles O30: each operation writes one list, or two where LIST_FULL goes with a removal, and notifies each change; the
acknowledgement of all is that of the pairs one after another, which touch each other through LIST_FULL alone. -/
theorem alarmsRaisedClearedAcknowledged : Obligations.AlarmsRaisedClearedAcknowledged := by
  unfold Obligations.AlarmsRaisedClearedAcknowledged
  refine ⟨fun k x s hk hlaw => ?_, fun p kind subject s h hlaw hline => ?_, fun p s h hlaw hline => ?_⟩
  · intro list others last created changed new
    refine ⟨fun hnone hroom => ?_, fun hnone hfull => ?_, clearAlarm_of_none, fun r hr hpair => ?_⟩
    · have hfind := findRecord_none.mpr hnone
      have made (st : AlarmState) : created (createRecord k x st s) ⟨k, x, st, s.seconds, 1⟩ := by
        refine ⟨?_, ms_createRecord ..⟩
        have := listBecame_createRecord s k x st
        rwa [inserted_of_other (r := ⟨k, x, st, s.seconds, 1⟩) s.al.records hk] at this
      have hraise : raiseAlarm k x s = createRecord k x .ACTIVE_UNACK s := by
        unfold raiseAlarm
        rw [hfind]
        exact if_pos hroom
      have hevent : raiseEvent k x s = createRecord k x .CLEARED_UNACK s := by
        unfold raiseEvent
        rw [hfind]
        exact if_pos hroom
      rw [hraise, hevent]
      exact ⟨made .ACTIVE_UNACK, made .CLEARED_UNACK⟩
    · have hfind := findRecord_none.mpr hnone
      have hraise : raiseAlarm k x s = loseRaise s := by
        unfold raiseAlarm
        rw [hfind]
        exact if_neg (Nat.not_lt.mpr hfull)
      have hevent : raiseEvent k x s = loseRaise s := by
        unfold raiseEvent
        rw [hfind]
        exact if_neg (Nat.not_lt.mpr hfull)
      intro t u full
      have ht : t = loseRaise s := hraise
      rw [ht]
      exact ⟨hevent, loseRaise_ends hlaw⟩
    · have hfind := findRecord_of_mem hlaw hr hpair
      have hrk : r.kind = k := congrArg Prod.fst hpair
      have hrx : r.subject = x := congrArg Prod.snd hpair
      refine ⟨fun hstate => ?_, fun hstate => ⟨?_, fun hcount => ?_, fun hcount => ?_, ?_⟩, fun hstate => ?_, fun hstate => ?_⟩
      · unfold raiseAlarm
        rw [hfind]
        exact if_neg hstate
      · have hraise : raiseAlarm k x s = updateRecord { r with state := .ACTIVE_UNACK, count := satInc 255 r.count } s := by
          unfold raiseAlarm
          rw [hfind]
          exact if_pos hstate
        rw [hraise]
        exact ⟨listBecame_updateRecord .., ms_updateRecord ..⟩
      · have hevent : raiseEvent k x s = updateRecord { r with count := r.count + 1 } s := by
          unfold raiseEvent
          rw [hfind]
          exact if_pos ⟨hstate, hcount⟩
        rw [hevent]
        exact ⟨listBecame_updateRecord .., ms_updateRecord ..⟩
      · unfold raiseEvent
        rw [hfind]
        exact if_neg fun h => Nat.not_lt.mpr hcount h.2
      · simp only [clearAlarm, hfind, hstate, clearRecord, reduceCtorEq, if_false]
      · have hclear : clearAlarm k x s = updateRecord { r with state := .CLEARED_UNACK } s := by
          simp only [clearAlarm, hfind, hstate, clearRecord, reduceCtorEq, if_false]
        rw [hclear]
        exact ⟨listBecame_updateRecord .., ms_updateRecord ..⟩
      · have hclear : clearAlarm k x s = removeRecord r s := by
          simp only [clearAlarm, hfind, hstate, if_true]
        have hends := removeRecord_ends (s := s) hlaw (r := r) (by rw [hrk]; exact hk)
        rw [hpair] at hends
        obtain ⟨hrepeats, hdoors⟩ := ms_dropRecord_eq r s
        rw [hrk, hrx] at hdoors
        intro t l removed
        have ht : t = removeRecord r s := hclear
        rw [ht, ms_removeRecord]
        exact ⟨hends.1, hends.2, hdoors, hrepeats⟩
  · have hexec := exec_alarmAck (p := p) kind subject h.1
    refine ⟨fun hcode => ?_, fun ⟨hlow, hhigh⟩ hnone => ?_, fun r hr hkind hsubject => ?_⟩
    · have hno : alarmKindOf kind.toNat = none := alarmKindOf_eq_none _ (by omega)
      rw [hexec, hno]
      exact congrArg _ (decideCommand_refused _ ((gateRefusal_acceptFrame ..).trans (gateRefusal_naming_nothing h)))
    · obtain ⟨k, hk⟩ := exists_kind_of_code hlow hhigh
      have hkind : alarmKindOf kind.toNat = some k := by rw [← hk]; exact alarmKindOf_code k
      have hfind : findRecord k subject.toNat (acceptFrame p s) = none := findRecord_none.mpr fun r hr hpair =>
        hnone r hr (by rw [← hk, show r.kind = k from congrArg Prod.fst hpair]) (congrArg Prod.snd hpair).symm
      rw [hexec, hkind]
      refine congrArg _ ((decide_operating _ h).trans ?_)
      simp only [alarmAck, hkind, hfind]
    · have hk : alarmKindOf kind.toNat = some r.kind := by rw [hkind]; exact alarmKindOf_code _
      have hfind : findRecord r.kind subject.toNat (acceptFrame p s) = some r :=
        findRecord_of_mem (s := acceptFrame p s) hlaw hr (by rw [hsubject]; rfl)
      have hend : exec (.alarmAck p kind subject) s = .next (answerDone p 8 false [] (ackRecord r (acceptFrame p s))) := by
        rw [hexec, hk]
        refine congrArg _ ((decide_operating _ h).trans ?_)
        simp only [alarmAck, hk, hfind]
      have hframe := AlarmFrame.ackRecord r (acceptFrame p s)
      have hanswer := frame_answerDone p 8 false [] (ackRecord r (acceptFrame p s))
      obtain ⟨hstands, hremoved, hlatch⟩ := ackRecord_ends (s := acceptFrame p s) hlaw hr
      have hnamed : ackNamed r.kind r.subject (acceptFrame p s) = ackRecord r (acceptFrame p s) := by
        unfold ackNamed
        rw [← hsubject, hfind]
      have hallaw : AlLaw (ackRecord r (acceptFrame p s)) := hnamed ▸ alLaw_ackNamed ⟨hlaw, hline⟩
      have hal := hanswer.al
      have hms := hanswer.ms
      refine ends_of hend ?_
      simp only [State.latch, hal, hms, Cleared, hanswer.cs, hanswer.gru, hanswer.mc, hanswer.rc]
      exact ⟨hstands, hremoved, hlatch, hallaw.2 ((congrArg Pins.reset hframe.pins).trans h.1), lost_ackRecord .., done_answerDone .., hframe.cs,
        hframe.gru, hframe.mc, hframe.rc, aside_of_block (hframe.toBlockFrame.trans hanswer.toBlockFrame)⟩
  · have hend : exec (.alarmAckAll p) s = .next (answerDone p 8 false [] (ackAll (acceptFrame p s))) :=
      (exec_alarmAckAll h.1).trans (congrArg _ (decide_operating _ h))
    have law := (alarmLaw_iff s).mp hlaw
    have hallaw : AlLaw (acceptFrame p s) := ⟨hlaw, hline⟩
    have hnames : ∀ q ∈ (acceptFrame p s).al.records, ∃ a ∈ s.al.records, a.pair = q.pair := fun q hq => ⟨q, hq, rfl⟩
    have hframe := AlarmFrame.ackAll (acceptFrame p s)
    have hanswer := frame_answerDone p 8 false [] (ackAll (acceptFrame p s))
    have hall : ∀ q ∈ (ackAll (acceptFrame p s)).al.records, q.state = .ACTIVE_ACKED :=
      ackEach_all hallaw law.fullLast fun q hq => .inl (hnames q hq)
    have hlineKept : (ackAll (acceptFrame p s)).al.line = false := by
      refine ((alLaw_ackEach hallaw (l := s.al.records)).2 ((congrArg Pins.reset hframe.pins).trans h.1)).trans ?_
      have hnil : (ackAll (acceptFrame p s)).al.records.filter AlarmRecord.unacked = [] :=
        List.filter_eq_nil_iff.mpr fun q hq => by simp [AlarmRecord.unacked, hall q hq]
      show decide (0 < ((ackAll (acceptFrame p s)).al.records.filter AlarmRecord.unacked).length) = false
      rw [hnil]; rfl
    have hal := hanswer.al
    have hms := hanswer.ms
    refine ends_of hend ?_
    simp only [State.latch, hal, hms, hanswer.cs, hanswer.gru, hanswer.mc, hanswer.rc]
    refine ⟨hall, hlineKept, fun r hr hstate hk => ackEach_acked hallaw hr hk hstate (.inl (hnames r hr)), fun q hq => ?_,
      fun d ⟨r, hr, hdoor, hstate⟩ => ackEach_freed hallaw hr hdoor hstate (hnames r hr), fun d hd => ackEach_kept hallaw hd,
      lost_ackAll _, done_answerDone .., hframe.cs, hframe.gru, hframe.mc, hframe.rc,
      aside_of_block (hframe.toBlockFrame.trans hanswer.toBlockFrame)⟩
    exact ackEach_source (s := acceptFrame p s) (l := s.al.records) hallaw hq (by rw [hall q hq]; decide)

end Sys2Proof.Proofs
end

section
/-! ## The snapshot and the transmit queues (R151, R152, R172) -/
namespace Sys2Proof.Proofs
open Sys2Proof Sys2Proof.Machine

set_option Elab.async false

section
variable {s t u : State} {p : PortIx}

/-- What placing a frame keeps, said of the whole state. -/
theorem state_of_placeFrame (h : PlaceFrame s t) : t = { s with sp := t.sp, ib := t.ib } := by
  have := state_of_alarmFrame h.toAlarmFrame
  rw [h.al, h.ms] at this
  exact this

theorem pacing_place (p q : PortIx) (f : Frame) (s : State) (h : q ≠ p) : (place p f s).ib.pacing[q] = s.ib.pacing[q] := by
  have hval : p.val ≠ q.val := fun h' => h (Fin.ext h').symm
  unfold place pendSummary
  split
  · rfl
  · split
    · simp [State.setPacing, hval]
    · rfl
  · rfl

/-- R172: what gives way in a full queue. -/
theorem placing_summary {q : List Frame} (hfull : 64 ≤ q.length) (hs : q.any Frame.isSummary = true) :
    placing q = .summaryDropped (q.eraseP Frame.isSummary) :=
  (if_neg (Nat.not_lt.mpr hfull)).trans (if_pos hs)

theorem placing_notice {q : List Frame} (hfull : 64 ≤ q.length) (hs : q.any Frame.isSummary = false)
    (hn : q.any Frame.isNotice = true) : placing q = .room (q.eraseP Frame.isNotice) :=
  (if_neg (Nat.not_lt.mpr hfull)).trans ((if_neg (by rw [hs]; exact Bool.false_ne_true)).trans (if_pos hn))

theorem placing_lost {q : List Frame} (hfull : 64 ≤ q.length) (hs : q.any Frame.isSummary = false)
    (hn : q.any Frame.isNotice = false) : placing q = .lost :=
  (if_neg (Nat.not_lt.mpr hfull)).trans ((if_neg (by rw [hs]; exact Bool.false_ne_true)).trans
    (if_neg (by rw [hn]; exact Bool.false_ne_true)))

theorem place_queues (p : PortIx) (f : Frame) (s : State) :
    let q := s.sp[p].queue
    let t := place p f s
    (q.length < 64 → t.sp[p].queue = q ++ [f])
    ∧ (64 ≤ q.length → (q.any Frame.isSummary) = true → t.sp[p].queue = q.eraseP Frame.isSummary ++ [f]
        ∧ ((s.row p).summaryMask ≠ 0 → t.ib.pacing[p].pending = true))
    ∧ (64 ≤ q.length → (q.any Frame.isSummary) = false → (q.any Frame.isNotice) = true →
        t.sp[p].queue = q.eraseP Frame.isNotice ++ [f])
    ∧ (64 ≤ q.length → (q.any Frame.isSummary) = false → (q.any Frame.isNotice) = false → t = s) := by
  intro q t
  have hqueue : t.sp[p].queue = placedIn f q := by rw [queue_place, if_pos rfl]
  rw [hqueue]
  refine ⟨placedIn_of_room, fun hfull hs => ?_, fun hfull hs hn => ?_, fun hfull hs hn => ?_⟩
  · have hplacing := placing_summary hfull hs
    refine ⟨by simp only [placedIn, hplacing], fun hmask => ?_⟩
    have ht : t = pendSummary p (s.modPort p fun x => { x with queue := q.eraseP Frame.isSummary ++ [f] }) := by
      simp only [t, place, q, hplacing]
    have hhas : hasMask (s.modPort p fun x => { x with queue := q.eraseP Frame.isSummary ++ [f] }) p = true :=
      decide_eq_true hmask
    rw [ht, pendSummary, if_pos hhas]
    simp [State.setPacing]
  · have hplacing := placing_notice hfull hs hn
    simp only [placedIn, hplacing]
  · have hplacing := placing_lost hfull hs hn
    simp only [t, place, q, hplacing]

theorem length_placedIn_of_full {f : Frame} {q : List Frame} (h : 63 ≤ q.length) : 64 ≤ (placedIn f q).length := by
  have gone {P : Frame → Bool} (hany : q.any P = true) : (q.eraseP P).length + 1 = q.length := by
    obtain ⟨a, ha, hP⟩ := List.any_eq_true.mp hany
    have hlen := List.length_eraseP_of_mem ha hP
    have hpos := List.length_pos_of_mem ha
    omega
  by_cases hroom : q.length < 64
  · rw [placedIn_of_room hroom, List.length_append, List.length_singleton]
    omega
  · have hfull := Nat.le_of_not_lt hroom
    unfold placedIn
    cases hs : q.any Frame.isSummary with
    | true =>
      simp only [placing_summary hfull hs, List.length_append, List.length_singleton, gone hs]
      exact hfull
    | false =>
      cases hn : q.any Frame.isNotice with
      | true =>
        simp only [placing_notice hfull hs hn, List.length_append, List.length_singleton, gone hn]
        exact hfull
      | false => simpa only [placing_lost hfull hs hn] using hfull

/-! ### Parts handed on (R152, R172) -/

theorem snapshotPart_congr (hnumber : t.ib.snapNumber = s.ib.snapNumber) (hbuffer : t.ib.buffer = s.ib.buffer) (n k : Nat) :
    snapshotPart t n k = snapshotPart s n k := by
  unfold snapshotPart; rw [hnumber, hbuffer]

/-- R172: the part in a port's part place, and the queue, after a part was handed to SP. -/
theorem handPart_eq (f : Frame) : handPart p f s = s.modPort p fun x =>
    if s.sp[p].queue.length < 64 then { x with queue := x.queue ++ [f], part := none } else { x with part := some f } := by
  unfold handPart joinPart
  simp only [Fin.getElem_fin, State.modPort_sp, getElem_upd, if_true]
  by_cases hroom : s.sp[p].queue.length < 64
  · have hlt : s.sp[p.val].queue.length < queueSize := hroom
    rw [if_pos hlt, modPort_modPort]
    exact congrArg _ (funext fun x => (if_pos hlt).symm)
  · have hge : ¬s.sp[p.val].queue.length < queueSize := hroom
    rw [if_neg hge]
    exact congrArg _ (funext fun x => (if_neg hge).symm)

/-- R152: part `y.k` has been handed on to the port, whose queue was `base`. -/
def PartHanded (s : State) (p : PortIx) (base : List Frame) (y : Sending) (t : State) : Prop :=
  t.ib.sending = some y
  ∧ (base.length < 64 → t.sp[p] = { s.sp[p] with queue := base ++ [snapshotPart s y.n y.k], part := none, partGone := false })
  ∧ (base.length = 64 → t.sp[p] = { s.sp[p] with queue := base, part := some (snapshotPart s y.n y.k), partGone := false })

/-- R152: a part has been reported sent: the next is handed on, part 1 where it was stale, or the snapshot ends. -/
def GoesOn (s : State) (p : PortIx) (base : List Frame) (x : Sending) (t : State) : Prop :=
  (x.stale = true → PartHanded s p base { x with stale := false } t)
  ∧ (x.stale = false → x.k < x.n → PartHanded s p base { x with k := x.k + 1 } t)
  ∧ (x.stale = false → x.n ≤ x.k → t.ib.sending = none
      ∧ t.sp[p] = { s.sp[p] with queue := base, part := none, partGone := false })

/-- Nothing differs but the port, the sending state and what left the port. -/
def OnlyPort (s : State) (p : PortIx) (t : State) : Prop :=
  (∀ q : PortIx, q ≠ p → t.sp[q] = s.sp[q] ∧ t.pins.stationOut[q] = s.pins.stationOut[q])
  ∧ t = { s with sp := t.sp, ib := { s.ib with sending := t.ib.sending },
                 pins := { s.pins with stationOut := t.pins.stationOut } }

theorem sp_modPort_of_ne (f : StationPort → StationPort) {q : PortIx} (h : q ≠ p) : (s.modPort p f).sp[q] = s.sp[q] := by
  have hval : p.val ≠ q.val := fun h' => h (Fin.ext h').symm
  simp [State.modPort, hval]

theorem sp_modPort_same (f : StationPort → StationPort) : (s.modPort p f).sp[p] = f s.sp[p] := by
  simp [State.modPort]

theorem handOn_port {y : Sending} {base : List Frame} (hp : y.port = p) (hnumber : t.ib.snapNumber = s.ib.snapNumber)
    (hbuffer : t.ib.buffer = s.ib.buffer)
    (ht : t.sp[p] = { s.sp[p] with queue := base, part := none, partGone := false }) :
    PartHanded s p base y (handOn y t) := by
  subst hp
  have hframe : snapshotPart t y.n y.k = snapshotPart s y.n y.k := snapshotPart_congr hnumber hbuffer ..
  have hport : (handOn y t).sp[y.port] = if base.length < 64
      then { s.sp[y.port] with queue := base ++ [snapshotPart s y.n y.k], part := none, partGone := false }
      else { s.sp[y.port] with queue := base, part := some (snapshotPart s y.n y.k), partGone := false } := by
    unfold handOn
    rw [handPart_eq, sp_modPort_same, hframe]
    have hsp : (setSending (some y) t).sp[y.port] = t.sp[y.port] := rfl
    rw [hsp, ht]
  refine ⟨?_, fun hlt => by rw [hport, if_pos hlt], fun heq => by rw [hport, if_neg (by omega)]⟩
  unfold handOn
  rw [handPart_eq]
  rfl

theorem handOn_only {y : Sending} (hp : y.port = p) (ht : OnlyPort s p t) : OnlyPort s p (handOn y t) := by
  subst hp
  obtain ⟨hports, hstate⟩ := ht
  unfold handOn
  rw [handPart_eq]
  refine ⟨fun q hq => ⟨(sp_modPort_of_ne _ hq).trans (hports q hq).1, (hports q hq).2⟩, ?_⟩
  rw [hstate]
  rfl

/-- R152: what a report of a part to the Indication Builder does. -/
theorem partSent_goesOn {x : Sending} {base : List Frame} (hx : s.ib.sending = some x) (hp : x.port = p)
    (hib : t.ib = s.ib) (ht : t.sp[p] = { s.sp[p] with queue := base, part := none, partGone := false })
    (honly : OnlyPort s p t) : GoesOn s p base x (partSent p t) ∧ OnlyPort s p (partSent p t)
      ∧ (partSent p t).pins = t.pins := by
  have hsending : t.ib.sending = some x := by rw [hib, hx]
  have hpins (y : Sending) : (handOn y t).pins = t.pins := by unfold handOn; rw [handPart_eq]; rfl
  have hnumber : t.ib.snapNumber = s.ib.snapNumber := by rw [hib]
  have hbuffer : t.ib.buffer = s.ib.buffer := by rw [hib]
  have hsent : partSent p t = if x.stale then handOn { x with stale := false } t
      else if x.n < x.k + 1 then setSending none t else handOn { x with k := x.k + 1 } t := by
    unfold partSent
    rw [hsending]
    exact if_neg (not_not.mpr hp)
  rw [hsent]
  by_cases hstale : x.stale = true
  · rw [if_pos hstale]
    exact ⟨⟨fun _ => handOn_port (y := { x with stale := false }) hp hnumber hbuffer ht,
      fun h => absurd (hstale.symm.trans h) (by decide), fun h => absurd (hstale.symm.trans h) (by decide)⟩,
      handOn_only (y := { x with stale := false }) hp honly, hpins _⟩
  · rw [if_neg hstale]
    by_cases hlast : x.n < x.k + 1
    · rw [if_pos hlast]
      refine ⟨⟨fun h => absurd h hstale, fun _ hlt => absurd hlt (by omega), fun _ _ => ⟨rfl, ht⟩⟩,
        ⟨honly.1, ?_⟩, rfl⟩
      rw [honly.2]
      rfl
    · rw [if_neg hlast]
      have hy : ({ x with k := x.k + 1 } : Sending).port = p := hp
      refine ⟨⟨fun h => absurd h hstale, fun _ _ => handOn_port hy hnumber hbuffer ht,
        fun _ hle => absurd hle (by omega)⟩, ?_, ?_⟩
      · exact handOn_only hy honly
      · exact hpins _

end

end Sys2Proof.Proofs
end

section
/-! ## The statement about snapshots and transmit queues -/
namespace Sys2Proof.Proofs
open Sys2Proof Sys2Proof.Machine

set_option Elab.async false

section
variable {s : State} {p : PortIx}

theorem exec_snapshotReq (h : Awake s) : exec (.snapshotReq p) s =
    .next (decideCommand (operating 9 anyRole) false p (snapshotReq p) s) := exec_awake h rfl

/-- R169: every role is permitted a command of every role. -/
theorem mem_anyRole (r : Role) : r ∈ anyRole := by cases r <;> decide

theorem decide_anyRole {kind : Nat} (f : State → State) (h : Awake s) (hs : s.inService = true) :
    decideCommand (operating kind anyRole) false p f s = f (acceptFrame p s) :=
  decide_operating f ⟨h, hs, mem_anyRole _⟩

/-- What a SNAPSHOT_REQ latches, in the words of the statement. -/
def SnapLatched (p : PortIx) (s t : State) : Prop :=
  t.ib.snapNumber = s.ib.snapNumber + 1
  ∧ t.ib.buffer = s.presentDoors.map (fun d => (⟨d, s.position d,
      (s.entry d).map fun e => (e.direction, e.cls, e.phase), s.latch d, (s.passage d).map Passage.phase,
      s.rc.reported[d].lost⟩ : SnapLine))
  ∧ t.ib.comps = s.ib.comps ∧ t.ib.allClosed = s.ib.allClosed
  ∧ (∀ q : PortIx, q ≠ p → t.sp[q] = s.sp[q])
  ∧ t.sp[p] = { (acceptFrame p s).sp[p] with queue := t.sp[p].queue, part := t.sp[p].part }
  ∧ t = { s with sp := t.sp, ib := t.ib }

/-- A change of the port's queue, its part place, the pacing and the sending state stays within what is latched. -/
theorem SnapLatched.handed {t u : State} (h : SnapLatched p s t) (hib : u.ib = { t.ib with pacing := u.ib.pacing, sending := u.ib.sending })
    (hother : ∀ q : PortIx, q ≠ p → u.sp[q] = t.sp[q])
    (hport : u.sp[p] = { t.sp[p] with queue := u.sp[p].queue, part := u.sp[p].part })
    (hstate : u = { t with sp := u.sp, ib := u.ib }) : SnapLatched p s u := by
  obtain ⟨hnumber, hbuffer, hcomps, hclosed, hports, hp, ht⟩ := h
  refine ⟨by rw [hib]; exact hnumber, by rw [hib]; exact hbuffer, by rw [hib]; exact hcomps, by rw [hib]; exact hclosed,
    fun q hq => (hother q hq).trans (hports q hq), ?_, ?_⟩
  · rw [hport, hp]
  · rw [hstate, ht]

theorem snapLatched_latch (p : PortIx) (s : State) : SnapLatched p s (latchSnapshot (acceptFrame p s)) :=
  ⟨rfl, rfl, rfl, rfl, fun _ hq => sp_modPort_of_ne _ hq, rfl, rfl⟩

/-- The answer to a SNAPSHOT_REQ. -/
def snapshotAnswered (p : PortIx) (s : State) : State :=
  answerDone p 9 false [s.ib.snapNumber + 1, byteOf (partCount s)] (latchSnapshot (acceptFrame p s))

theorem takeSnapshot_eq (abandoned : Bool) : takeSnapshot p abandoned (acceptFrame p s) =
    if abandoned then setSending (some ⟨p, partCount s, 1, true⟩) (snapshotAnswered p s)
    else handOn ⟨p, partCount s, 1, false⟩ (snapshotAnswered p s) := rfl

theorem queue_snapshotAnswered : (snapshotAnswered p s).sp[p].queue =
    placedIn (resultFrame 9 .DONE false [s.ib.snapNumber + 1, byteOf (partCount s)]) s.sp[p].queue := by
  unfold snapshotAnswered answerDone
  rw [queue_place, if_pos rfl]
  have : (latchSnapshot (acceptFrame p s)).sp[p].queue = s.sp[p].queue := by
    show (acceptFrame p s).sp[p].queue = _
    unfold acceptFrame
    rw [sp_modPort_same]
  rw [this]

theorem part_snapshotAnswered : (snapshotAnswered p s).sp[p].part = s.sp[p].part := by
  unfold snapshotAnswered answerDone
  rw [sp_place]
  show (acceptFrame p s).sp[p].part = _
  unfold acceptFrame
  rw [sp_modPort_same]

theorem snapLatched_answered (p : PortIx) (s : State) : SnapLatched p s (snapshotAnswered p s) := by
  have hframe := PlaceFrame.place p (resultFrame 9 .DONE false [s.ib.snapNumber + 1, byteOf (partCount s)])
    (latchSnapshot (acceptFrame p s))
  refine (snapLatched_latch p s).handed ?_ (fun q hq => ?_) ?_ (state_of_placeFrame hframe)
  · have := hframe.pacing
    unfold OnlyPacing at this
    unfold snapshotAnswered answerDone
    rw [this]
  · unfold snapshotAnswered answerDone
    rw [sp_place, if_neg hq.symm]
  · rw [part_snapshotAnswered]
    refine (hframe.queues p).trans ?_
    have : (latchSnapshot (acceptFrame p s)).sp[p].part = s.sp[p].part := by
      show (acceptFrame p s).sp[p].part = _
      unfold acceptFrame
      rw [sp_modPort_same]
    rw [← this]
    rfl

theorem answered_congr {t u : State} {f : Frame} (h : t.sp[p].queue = u.sp[p].queue) (ha : Answered u p f) : Answered t p f := by
  unfold Answered at *; rw [h]; exact ha

/-- R152: handing a part on, said of the port. -/
theorem handOn_eq (y : Sending) (t : State) : handOn y t = (setSending (some y) t).modPort y.port fun x =>
    if t.sp[y.port].queue.length < 64 then { x with queue := x.queue ++ [snapshotPart t y.n y.k], part := none }
    else { x with part := some (snapshotPart t y.n y.k) } := handPart_eq _

theorem modPort_congr {f g : StationPort → StationPort} (h : f s.sp[p] = g s.sp[p]) : s.modPort p f = s.modPort p g := by
  unfold State.modPort upd; rw [h]

/-- The frame at the head of a queue leaves, and a part that waits takes the place. -/
theorem frameLeaves_eq (p : PortIx) (f : Frame) (rest : List Frame) (s : State) (hroom : rest.length < 64) :
    let v : State := { s with sp := upd s.sp p fun x => { x with queue := f :: rest } }
    frameLeaves p f rest v = { s with
      sp := upd s.sp p fun x => { x with queue := rest ++ x.part.toList, part := none, partGone := x.partGone || f.isPart }
      pins := { s.pins with
        stationOut := put s.pins.stationOut p (stationFrameBytes (byteOf f.kind.code) f.payload) } } := by
  intro v
  have hlt : rest.length < queueSize := hroom
  have joins (w : State) (x : StationPort) (hx : w.sp[p] = { x with queue := rest }) :
      joinPart p w = w.modPort p fun y => { y with queue := rest ++ x.part.toList, part := none } := by
    unfold joinPart
    rw [hx]
    cases hpart : x.part with
    | none =>
      refine (modPort_eq_self ?_).symm
      rw [hx]
      simp [hpart]
    | some g =>
      simp only [if_pos hlt]
      refine modPort_congr ?_
      rw [hx]
      simp only [Option.toList]
  unfold frameLeaves
  rw [joins _ { s.sp[p] with partGone := s.sp[p].partGone || f.isPart } (by simp [v, State.modPort])]
  simp only [State.modPort, v, upd_upd]
  congr 1

theorem exec_stationFrameSent (h : Awake s) : exec (.stationFrameSent p) s = .next (frameSent p s) := exec_awake h rfl
theorem exec_snapshotPartSent (h : Awake s) : exec (.snapshotPartSent p) s = .next (snapshotPartLeft p s) := exec_awake h rfl

end

/-- Settles O31: the port's queue and part place, one lemma for a frame placed, one for a part handed on and one for a frame
that leaves; a report of a part goes through the same hand-over. -/
theorem snapshotsAndFrames : Obligations.SnapshotsAndFrames := by
  unfold Obligations.SnapshotsAndFrames
  refine ⟨fun p s h hs => ?_, fun p f s => ?_, fun p f rest s h hroom => ?_, fun p s hnil => ?_⟩
  · intro n u result latched
    have hexec : exec (.snapshotReq p) s = .next (snapshotReq p u) :=
      (exec_snapshotReq h).trans (congrArg _ (decide_anyRole _ h hs))
    have hqueue : (snapshotAnswered p s).sp[p].queue = placedIn result s.sp[p].queue := queue_snapshotAnswered
    have hanswered : Answered (snapshotAnswered p s) p result := answered_place ..
    refine ⟨fun hnone => ?_, fun x hx hport => ?_, fun x hx hport => ?_⟩
    · have hreq : snapshotReq p u = handOn ⟨p, n, 1, false⟩ (snapshotAnswered p s) := by
        have hidle : u.ib.sending = none := hnone
        unfold snapshotReq
        rw [hidle]
        rfl
      have hpart (k : Nat) : snapshotPart (snapshotReq p u) n k = snapshotPart (snapshotAnswered p s) n k := by
        rw [hreq, handOn_eq]; rfl
      refine ends_of hexec ⟨?_, ?_, fun hle => ?_, fun hge => ?_⟩
      · rw [hreq, handOn_eq]
        refine (snapLatched_answered p s).handed rfl (fun q hq => sp_modPort_of_ne _ hq) ?_ rfl
        rw [sp_modPort_same]
        split <;> rfl
      · rw [hreq, handOn_eq]; rfl
      · have hq : (snapshotAnswered p s).sp[p].queue = s.sp[p].queue ++ [result] := by
          rw [hqueue, placedIn_of_room (by unfold queueSize; omega)]
        have hlt : (snapshotAnswered p s).sp[p].queue.length < 64 := by
          rw [hq, List.length_append, List.length_singleton]; omega
        rw [hpart, hreq, handOn_eq, sp_modPort_same, if_pos hlt]
        refine ⟨?_, rfl⟩
        show (snapshotAnswered p s).sp[p].queue ++ _ = _
        rw [hq, List.append_assoc]
        rfl
      · have hge' : ¬(snapshotAnswered p s).sp[p].queue.length < 64 := by
          rw [hqueue]; exact Nat.not_lt.mpr (length_placedIn_of_full hge)
        rw [hpart, hreq, handOn_eq]
        refine ⟨answered_congr ?_ hanswered, ?_⟩ <;> rw [sp_modPort_same, if_neg hge'] <;> rfl
    · have hreq : snapshotReq p u = setSending (some ⟨p, n, 1, true⟩) (snapshotAnswered p s) := by
        have hbusy : u.ib.sending = some x := hx
        unfold snapshotReq
        rw [hbusy]
        exact if_pos hport
      refine ends_of hexec ?_
      rw [hreq]
      exact ⟨(snapLatched_answered p s).handed rfl (fun _ _ => rfl) rfl rfl, rfl, hanswered, part_snapshotAnswered⟩
    · refine hexec.trans (congrArg _ ?_)
      have hbusy : u.ib.sending = some x := hx
      unfold snapshotReq
      rw [hbusy]
      exact if_neg hport
  · intro q t
    obtain ⟨hroom, hsummary, hnotice, hlost⟩ := place_queues p f s
    have hframe := PlaceFrame.place p f s
    refine ⟨hroom, hsummary, hnotice, hlost, fun r hr => ⟨?_, pacing_place p r f s hr⟩, hframe.queues p,
      state_of_placeFrame hframe, hframe.pacing⟩
    show (place p f s).sp[r] = _
    rw [sp_place, if_neg hr.symm]
  · intro v left onlyPort handed goesOn
    have hv : Awake v := h
    have hqueue : v.sp[p].queue = f :: rest := by simp [v]
    have hleft := frameLeaves_eq p f rest s hroom
    change frameLeaves p f rest v = _ at hleft
    have hport : (frameLeaves p f rest v).sp[p] =
        { s.sp[p] with queue := left, part := none, partGone := s.sp[p].partGone || decide (f.kind = .SNAPSHOT_PART) } := by
      rw [hleft]
      simp [left, Frame.isPart]
    have hout : (frameLeaves p f rest v).pins.stationOut[p] = stationFrameBytes (byteOf f.kind.code) f.payload := by
      rw [hleft]; simp [put]
    have honly : OnlyPort s p (frameLeaves p f rest v) := by
      rw [hleft]
      refine ⟨fun q hq => ?_, rfl⟩
      have hval : p.val ≠ q.val := fun h' => hq (Fin.ext h').symm
      exact ⟨by simp [hval], by simp [put, hval]⟩
    have hgone : v.sp[p].partGone = s.sp[p].partGone := by simp [v]
    refine ⟨?_, fun x hx hxp => ⟨fun hkind hnot => ?_, fun hnone hwas => ?_⟩, fun hkind hnot => ?_⟩
    · have hexec : exec (.stationFrameSent p) v = .next (frameLeaves p f rest v) := by
        refine (exec_stationFrameSent hv).trans (congrArg _ ?_)
        unfold frameSent
        rw [hqueue]
      refine ends_of hexec ⟨hport, hout, ?_, honly⟩
      rw [hleft]
    · have hexec : exec (.snapshotPartSent p) v = .next (reportPart p (frameLeaves p f rest v)) := by
        refine (exec_snapshotPartSent hv).trans (congrArg _ ?_)
        unfold snapshotPartLeft
        rw [hgone, hnot, hqueue]
        simp [Frame.isPart, hkind]
      have hsent := partSent_goesOn (base := left) (t := (frameLeaves p f rest v).modPort p fun y => { y with partGone := false })
        hx hxp (by rw [hleft]; rfl) (by rw [sp_modPort_same, hport])
        ⟨fun q hq => ⟨(sp_modPort_of_ne _ hq).trans (honly.1 q hq).1, (honly.1 q hq).2⟩, by rw [honly.2]; rfl⟩
      exact ends_of hexec ⟨hsent.1, (congrArg (fun pins : Pins => pins.stationOut[p]) hsent.2.2).trans hout, hsent.2.1⟩
    · have hexec : exec (.snapshotPartSent p) v = .next (reportPart p v) := by
        refine (exec_snapshotPartSent hv).trans (congrArg _ ?_)
        unfold snapshotPartLeft
        rw [hgone, hwas, if_pos rfl]
      have hnone' : s.sp[p.val].part = none := hnone
      have hsent := partSent_goesOn (base := f :: rest) (s := s) (t := v.modPort p fun y => { y with partGone := false })
        hx hxp rfl (by rw [sp_modPort_same]; simp [v, hnone'])
        ⟨fun q hq => ⟨(sp_modPort_of_ne _ hq).trans (sp_modPort_of_ne (s := s) _ hq), rfl⟩, rfl⟩
      exact ends_of hexec ⟨hsent.1, hsent.2.2, hsent.2.1⟩
    · refine (exec_snapshotPartSent hv).trans (congrArg _ ?_)
      unfold snapshotPartLeft
      rw [hgone, hnot, hqueue]
      simp [Frame.isPart, hkind]
  · have stands {c : Instr} {x : State} (hx : exec c s = .next (if s.pins.reset then s else x)) (hs : x = s) :
        exec c s = .next s := by rw [hx, hs, ite_self]
    refine ⟨stands rfl ?_, fun hgone => stands rfl ?_⟩
    · unfold frameSent
      rw [hnil]
    · unfold snapshotPartLeft
      rw [hgone, hnil]
      rfl

end Sys2Proof.Proofs
end

section
/-! ## Frames of the ring that are accepted, and the reports of an HPU (R50 to R52, R131, R132, R136, R137) -/
namespace Sys2Proof.Proofs
open Sys2Proof Sys2Proof.Machine

set_option Elab.async false

/-! ### The law of the list is kept by a raise and by a clear, whatever the line -/

section
variable {s t : State} {k : AlarmKind} {x : Nat} {r : AlarmRecord}

theorem alarmLaw_of_write {l : List AlarmRecord} (hal : t.al = Al.write s.al l) (h : ListLaw l) : AlarmLaw t :=
  (alLaw_write hal h).1

theorem alarmLaw_reraise (h : AlarmLaw s) (hk : r.kind ≠ .PRECONDITION_BYPASSED) : AlarmLaw (reraise r s) := by
  unfold reraise
  split
  · exact alarmLaw_of_write (updateRecord_al ..) (((alarmLaw_iff s).mp h).replaced fun hkind => absurd hkind hk)
  · exact h

theorem alarmLaw_loseRaise (h : AlarmLaw s) : AlarmLaw (loseRaise s) := by
  have law := (alarmLaw_iff s).mp h
  unfold loseRaise raiseListFull
  split
  · next r hr => exact alarmLaw_reraise h (by rw [(findRecord_some hr).2.1]; decide)
  · next hr =>
    exact alarmLaw_of_write (createRecord_al ..)
      (law.inserted (findRecord_none.mp hr) (fun hk => absurd rfl hk) (fun _ => rfl) (fun hk => by cases hk))

theorem alarmLaw_raiseAlarm (h : AlarmLaw s) (hfull : k ≠ .LIST_FULL) (hevent : k ≠ .PRECONDITION_BYPASSED) :
    AlarmLaw (raiseAlarm k x s) := by
  have law := (alarmLaw_iff s).mp h
  unfold raiseAlarm
  split
  · next r hr => exact alarmLaw_reraise h (by rw [(findRecord_some hr).2.1]; exact hevent)
  · next hr =>
    split
    · next hroom =>
      exact alarmLaw_of_write (createRecord_al ..) (law.inserted (findRecord_none.mp hr) (fun _ => hroom)
        (fun hk => absurd hk hfull) fun hk => absurd hk hevent)
    · exact alarmLaw_loseRaise h

theorem alarmLaw_clearAlarm (h : AlarmLaw s) (k : AlarmKind) (x : Nat) : AlarmLaw (clearAlarm k x s) := by
  have law := (alarmLaw_iff s).mp h
  have cleared {u : State} (hu : AlarmLaw u) (r : AlarmRecord) : AlarmLaw (clearRecord r u) := by
    unfold clearRecord
    split
    · exact alarmLaw_of_write (updateRecord_al ..) (((alarmLaw_iff u).mp hu).replaced fun _ => rfl)
    · exact alarmLaw_dropRecord r hu
    · exact hu
  unfold clearAlarm
  split
  · split
    · unfold removeRecord testListFull
      split
      · split
        · exact cleared (alarmLaw_dropRecord _ h) _
        · exact alarmLaw_dropRecord _ h
      · exact alarmLaw_dropRecord _ h
    · exact cleared h _
  · exact h

end

/-! ### The duplicate filter (R132) -/

section
variable {s t : State} {rp : RingPort} {src seq : Byte}

/-- The state in which the rule of a frame's kind takes it: counted, its sequence the last of its address. -/
def heardAt (rp : RingPort) (src seq : Byte) (s : State) : State :=
  ringReceive rp ((ringHunt rp s).setFilter src.toNat (some seq))

theorem heardAt_eq (rp : RingPort) (src seq : Byte) (s : State) : ∃ v e w, heardAt rp src seq s =
    { s with rc := { s.rc with filter := v, east := e, west := w } } := by
  unfold heardAt
  obtain ⟨v, hv⟩ := setFilter_eq src.toNat (some seq) (ringHunt rp s)
  rw [hv]
  cases rp <;> exact ⟨_, _, _, rfl⟩

theorem filtered_first {take : State → State} (h : s.filterAt src.toNat ≠ some seq) :
    filtered rp src seq take (ringHunt rp s) = take (heardAt rp src seq s) :=
  if_neg (by rw [filterAt_ringHunt]; exact h)

theorem nodeIx_eq_some {a : Nat} {i : Fin 126} : nodeIx a = some i ↔ a = i.val + 1 := by
  unfold nodeIx
  split
  · next h =>
    rw [Option.some_inj, Fin.ext_iff]
    show a - 1 = i.val ↔ _
    omega
  · next h =>
    refine ⟨nofun, fun h' => absurd ?_ h⟩
    have := i.isLt
    omega

theorem filterAt_setFilter_of_ne {a b : Nat} (x : Option Byte) (h : a ≠ b) : (s.setFilter b x).filterAt a = s.filterAt a := by
  unfold State.setFilter
  split
  · next i hi =>
    unfold State.filterAt
    cases ha : nodeIx a with
    | none => rfl
    | some j =>
      have hval : i.val ≠ j.val := fun hij => h (by rw [nodeIx_eq_some.mp hi, nodeIx_eq_some.mp ha, hij])
      simp [put, hval]
  · rfl

theorem filterAt_setFilter_same {a : Nat} (x : Option Byte) (h : 1 ≤ a ∧ a ≤ 126) : (s.setFilter a x).filterAt a = x := by
  have hi : nodeIx a = some ⟨a - 1, by omega⟩ := dif_pos h
  unfold State.setFilter State.filterAt
  rw [hi]
  simp [put]

theorem sideOf_modSide (p q : RingPort) (f : RingSide → RingSide) (s : State) :
    sideOf (modSide p f s) q = if p = q then f (sideOf s q) else sideOf s q := by
  cases p <;> cases q <;> rfl

theorem filterAt_modSide (p : RingPort) (f : RingSide → RingSide) (s : State) (a : Nat) : (modSide p f s).filterAt a = s.filterAt a := by
  cases p <;> rfl

theorem sideOf_congr (h : t.rc = s.rc) (p : RingPort) : sideOf t p = sideOf s p := by
  cases p <;> simp only [sideOf, h]

/-- R132: what an accepted frame leaves of the ports and of the filter. -/
theorem accepted_heardAt (hnode : wfNode src = true) : Accepted s (heardAt rp src seq s) rp src seq := by
  have hrange : 1 ≤ src.toNat ∧ src.toNat ≤ 126 := by simpa [wfNode] using hnode
  obtain ⟨v, hv⟩ := setFilter_eq src.toNat (some seq) (ringHunt rp s)
  have hside (q : RingPort) : sideOf ((ringHunt rp s).setFilter src.toNat (some seq)) q = sideOf (ringHunt rp s) q := by
    rw [hv]; cases q <;> rfl
  unfold heardAt ringReceive
  refine ⟨?_, fun a _ ha => ?_, ?_, fun q _ hq => ?_, ?_⟩
  · rw [filterAt_modSide, filterAt_setFilter_same _ hrange]
  · rw [filterAt_modSide, filterAt_setFilter_of_ne _ ha, filterAt_ringHunt]
  · rw [sideOf_modSide, if_pos rfl, hside]
    unfold ringHunt
    rw [sideOf_modSide, if_pos rfl]
    rfl
  · rw [sideOf_modSide, if_neg hq.symm, hside]
    unfold ringHunt
    rw [sideOf_modSide, if_neg hq.symm]
  · rw [hv]; cases rp <;> rfl

/-- What touches RC neither at its ports, nor at the filter, nor at the count of second copies keeps the acceptance. -/
theorem accepted_of_rc {u : State} (h : Accepted s u rp src seq) (hfilter : t.rc.filter = u.rc.filter)
    (heast : t.rc.east = u.rc.east) (hwest : t.rc.west = u.rc.west) (hcopies : t.rc.secondCopies = u.rc.secondCopies) :
    Accepted s t rp src seq := by
  have hat (a : Nat) : t.filterAt a = u.filterAt a := by unfold State.filterAt; rw [hfilter]
  have hside (q : RingPort) : sideOf t q = sideOf u q := by cases q <;> assumption
  simp only [Accepted, hat, hside, hcopies]
  exact h

end

/-! ### E recomputed (R52) -/

section
variable {s u : State} {h : HpuIx}

theorem hpuAt_of_first (hpresent : s.hpuPresent h = true) (hnode : s.tables.hpus[h].node = src.toNat)
    (hfirst : ∀ x : HpuIx, x < h → s.hpuPresent x = true → s.tables.hpus[x].node ≠ src.toNat) : hpuAt s src = some h := by
  refine find?_finRange.mpr ⟨by simpa [hpresent] using hnode, fun x hx => ?_⟩
  cases hxp : s.hpuPresent x with
  | true => simpa using hfirst x hx hxp
  | false => rfl

theorem effectiveCapacity_congr {t : State} (ht : t.tables = s.tables) (hh : t.rc.hpus = s.rc.hpus) :
    effectiveCapacity t h = effectiveCapacity s h := by
  unfold effectiveCapacity State.hpuPresent; rw [ht, hh]

/-- R52: the schedule and the alarms after E of an HPU was recomputed. -/
structure ERecomputed (h : HpuIx) (s t : State) : Prop where
  frame : ScheduleFrame s t
  ms : t.ms = s.ms
  claims : ∀ d, claimOf t d = claimOf s d
  capacity : t.cs.flow[h].capacityE = effectiveCapacity t h
  others : ∀ x : HpuIx, x ≠ h → t.cs.flow[x] = s.cs.flow[x]
  alarms : OnlyAlarms s t [(.ADMISSION_DELAY, h.val)]
  recomputed : Recomputed s t h

theorem rc_of_orders {t : State} (h : OnlyOrders s t) : t.rc.hpus = s.rc.hpus ∧ t.rc.reported = s.rc.reported
    ∧ t.rc.polled = s.rc.polled ∧ t.rc.filter = s.rc.filter ∧ t.rc.east = s.rc.east ∧ t.rc.west = s.rc.west
    ∧ t.rc.secondCopies = s.rc.secondCopies ∧ t.rc.pollEnded = s.rc.pollEnded := by
  unfold OnlyOrders at h
  rw [h]
  exact ⟨rfl, rfl, rfl, rfl, rfl, rfl, rfl, rfl⟩

theorem recomputeE_ends (h : HpuIx) (s : State) : ERecomputed h s (recomputeE h s) := by
  have frame := ScheduleFrame.recomputeE h s
  have hE : effectiveCapacity (recomputeE h s) h = effectiveCapacity s h :=
    effectiveCapacity_congr frame.tables (rc_of_orders frame.orders).1
  by_cases hsame : s.cs.flow[h].capacityE = effectiveCapacity s h
  · have hstands : recomputeE h s = s := if_pos hsame
    have hrecomputed : Recomputed s (recomputeE h s) h := by
      unfold Recomputed
      rw [hE]
      exact ⟨fun _ => by rw [hstands], fun hne => absurd hsame hne⟩
    rw [hstands] at hrecomputed ⊢
    exact ⟨.refl s, rfl, fun _ => rfl, hsame, fun _ _ => rfl, onlyAlarms_refl .., hrecomputed⟩
  · have hpass : recomputeE h s = pass h (s.modFlow h fun f => { f with capacityE := effectiveCapacity s h }) := if_neg hsame
    have admits := pass_admits h (s.modFlow h fun f => { f with capacityE := effectiveCapacity s h })
    refine ⟨frame, ?_, fun d => ?_, ?_, fun x hx => ?_, ?_, ?_⟩
    · rw [hpass]; exact admits.ms
    · rw [hpass]; exact admits.claimOf d
    · rw [hE, hpass, admits.capacity]
      simp [State.modFlow]
    · have hval : h.val ≠ x.val := fun hv => hx (Fin.ext hv).symm
      rw [hpass, admits.others x hx]
      simp [State.modFlow, hval]
    · rw [hpass]; exact admits.delay.only
    · unfold Recomputed
      rw [hE]
      refine ⟨fun heq => absurd heq hsame, fun _ => ?_⟩
      rw [hpass]
      exact pass_cs_congr rfl rfl h

/-- The recomputation of E, with what was done to the alarms before it. -/
theorem recomputed_after {v t : State} (hcs : v.cs = s.cs) (htables : v.tables = s.tables) (ht : ERecomputed h v t) :
    Recomputed s t h := by
  obtain ⟨hsame, hnew⟩ := ht.recomputed
  rw [hcs] at hsame hnew
  refine ⟨hsame, fun hne => (hnew hne).trans ?_⟩
  exact pass_cs_congr (by rfl) (by exact htables) h

end

/-! ### The statement about the reports of an HPU -/

section
variable {s : State} {h : HpuIx}

theorem hpuSilent_iff : hpuSilent s h = true ↔
    s.inService = true ∧ s.hpuPresent h = true ∧ 30 ≤ s.rc.hpus[h].age ∧ s.rc.hpus[h].state ≠ .LOST := by
  unfold hpuSilent silentAge
  simp only [Bool.and_eq_true, decide_eq_true_eq, and_assoc]

theorem exec_reportAge (hs : Awake s) : exec (.reportAgeExpiry h) s = .next (if hpuSilent s h then loseHpu h s else s) :=
  exec_awake hs rfl

theorem hpu_modHpu (f : HpuReported → HpuReported) (s : State) : (s.modHpu h f).rc.hpus[h] = f s.rc.hpus[h] := by
  simp [State.modHpu]

theorem hpu_modHpu_of_ne (f : HpuReported → HpuReported) (s : State) {x : HpuIx} (hx : x ≠ h) :
    (s.modHpu h f).rc.hpus[x] = s.rc.hpus[x] := by
  have hval : h.val ≠ x.val := fun hv => hx (Fin.ext hv).symm
  simp [State.modHpu, hval]

/-- R136: the alarm conditions of an HPU that reported. -/
theorem hpuAlarms_ends (st : HpuCode) (hlaw : AlarmLaw s) :
    let t := hpuAlarms h st s
    AlarmFrame s t ∧ t.ms = s.ms
    ∧ (s.inService = true → Cleared t .HPU_SILENT h.val
        ∧ (st = .READY → Cleared t .HPU_FAILED h.val)
        ∧ (st = .FAILED → HasRoom s .HPU_FAILED h.val → Standing t .HPU_FAILED h.val)) := by
  unfold hpuAlarms
  by_cases hs : s.inService = true
  · rw [if_pos hs]
    by_cases hst : st = .FAILED
    · rw [if_pos hst]
      refine ⟨(AlarmFrame.raiseAlarm ..).trans (.clearAlarm ..), (ms_clearAlarm (by decide)).trans (ms_raiseAlarm ..), fun _ => ⟨?_,
        fun h' => absurd (hst.symm.trans h') (by decide), fun _ hroom => ?_⟩⟩
      · exact cleared_clearAlarm (alarmLaw_raiseAlarm hlaw (by decide) (by decide)) (by decide)
      · exact standing_of_onlyAlarms (onlyAlarms_clearAlarm ..) (by simp) (by decide) (standing_raiseAlarm hroom)
    · rw [if_neg hst]
      refine ⟨(AlarmFrame.clearAlarm ..).trans (.clearAlarm ..), (ms_clearAlarm (by decide)).trans (ms_clearAlarm (by decide)),
        fun _ => ⟨?_, fun _ => ?_, fun h' => absurd h' hst⟩⟩
      · exact cleared_clearAlarm (alarmLaw_clearAlarm hlaw ..) (by decide)
      · exact cleared_of_onlyAlarms (onlyAlarms_clearAlarm ..) (by simp) (by decide) (cleared_clearAlarm hlaw (by decide))
  · rw [if_neg hs]
    exact ⟨.refl s, rfl, fun h' => absurd h' hs⟩

/-- What the recomputation of E leaves of the frame around it. -/
theorem blocks_of_recomputeE {u v t : State} (hv : AlarmFrame u v) (hms : v.ms = u.ms) (ht : ERecomputed h v t) :
    t.ms = u.ms ∧ t.mc = u.mc ∧ t.gru = u.gru ∧ Aside u t ∧ (∀ d : DoorIx, claimOf t d = claimOf u d) ∧ OnlyOrders u t := by
  have frame : ScheduleFrame u t := hv.toScheduleFrame.trans ht.frame
  refine ⟨ht.ms.trans hms, frame.mc, frame.gru, aside_of_schedule frame, fun d => (ht.claims d).trans ?_, frame.orders⟩
  unfold claimOf State.entry
  rw [hv.cs]

end

/-- Settles O46: at a report, and at a loss, the fields of the HPU and the alarms change first, and E is recomputed on the
schedule that stands. -/
theorem hpuReports : Obligations.HpuReports := by
  unfold Obligations.HpuReports
  refine ⟨fun rp src seq st pressure h s hs hnode _ hlaw hpresent haddr hfirst hseq => ?_, fun h s hs => ⟨hpuSilent_iff, fun hsilent => ?_,
    fun hsilent => ?_⟩⟩
  · obtain ⟨v, e, w, hheard⟩ := heardAt_eq rp src seq s
    have haccepted := accepted_heardAt (s := s) (rp := rp) (seq := seq) hnode
    have hexec : exec (.hpuReport rp src seq st pressure) s = .next (takeHpuReport h st pressure (heardAt rp src seq s)) := by
      refine (exec_hpuReport hs st pressure).trans (congrArg _ ?_)
      unfold hpuReportArrives
      rw [hpuAt_ringHunt, hpuAt_of_first hpresent haddr hfirst]
      exact filtered_first hseq
    generalize hu : (heardAt rp src seq s).modHpu h (fun _ => ⟨reportedHpu st, pressure, 0⟩) = u at *
    have hucs : u.cs = s.cs := by rw [← hu, hheard]; rfl
    have hutables : u.tables = s.tables := by rw [← hu, hheard]; rfl
    obtain ⟨hframe, hms, halarms⟩ := hpuAlarms_ends (s := u) (h := h) st (by rw [← hu, hheard]; exact hlaw)
    have hends := recomputeE_ends h (hpuAlarms h st u)
    have ht : takeHpuReport h st pressure (heardAt rp src seq s) = recomputeE h (hpuAlarms h st u) := by rw [← hu]; rfl
    rw [ht] at hexec
    generalize recomputeE h (hpuAlarms h st u) = t at *
    obtain ⟨htms, htmc, htgru, htaside, htclaims, htorders⟩ := blocks_of_recomputeE hframe hms hends
    obtain ⟨hhpus, hreported, hpolled, hfilter, heast, hwest, hcopies, -⟩ := rc_of_orders htorders
    refine ends_of hexec ⟨?_, fun x hx => ⟨?_, ?_⟩, hends.capacity, recomputed_after (hframe.cs.trans hucs) (hframe.tables.trans hutables) hends,
      accepted_of_rc haccepted ?_ ?_ ?_ ?_, ?_, ?_, fun hin => ?_, fun d => ?_, ?_, ?_, ?_, ?_⟩
    · rw [hhpus, ← hu, hpu_modHpu]
      cases st <;> rfl
    · rw [hhpus, ← hu, hpu_modHpu_of_ne _ _ hx, hheard]
    · rw [hends.others x hx, hframe.cs, hucs]
    · rw [hfilter, ← hu]; rfl
    · rw [heast, ← hu]; rfl
    · rw [hwest, ← hu]; rfl
    · rw [hcopies, ← hu]; rfl
    · rw [hreported, ← hu, hheard]; rfl
    · rw [hpolled, ← hu, hheard]; rfl
    · obtain ⟨hsilent, hready, hfailed⟩ := halarms (by rw [← hu, hheard]; exact hin)
      refine ⟨cleared_of_onlyAlarms hends.alarms (by simp) (by decide) hsilent,
        fun hst => cleared_of_onlyAlarms hends.alarms (by simp) (by decide) (hready hst), fun hst hroom => ?_⟩
      refine standing_of_onlyAlarms hends.alarms (by simp) (by decide) (hfailed hst ?_)
      exact (hasRoom_congr (s := s) (by rw [← hu, hheard]; rfl)).mpr hroom
    · refine (htclaims d).trans ?_
      unfold claimOf State.entry
      rw [hucs]
    · rw [htms, ← hu, hheard]; rfl
    · rw [htmc, ← hu, hheard]; rfl
    · rw [htgru, ← hu, hheard]; rfl
    · have hus : Aside s u := by rw [← hu, hheard]; exact ⟨rfl, rfl, rfl, rfl, fun _ => rfl, rfl⟩
      obtain ⟨a1, a2, a3, a4, a5, a6⟩ := hus
      obtain ⟨b1, b2, b3, b4, b5, b6⟩ := htaside
      exact ⟨b1.trans a1, b2.trans a2, b3.trans a3, b4.trans a4, a5.trans b5, a6.trans b6⟩
  · rw [exec_reportAge hs, if_neg (by rw [hsilent]; exact Bool.false_ne_true)]
  · obtain ⟨-, hpresent, -, -⟩ := hpuSilent_iff.mp hsilent
    have hexec : exec (.reportAgeExpiry h) s = .next (loseHpu h s) := (exec_reportAge hs).trans (by rw [if_pos hsilent])
    have ht : loseHpu h s = recomputeE h (raiseAlarm .HPU_SILENT h.val (s.modHpu h fun x => { x with state := .LOST })) := rfl
    have hframe := AlarmFrame.raiseAlarm .HPU_SILENT h.val (s.modHpu h fun x => { x with state := .LOST })
    have hends := recomputeE_ends h (raiseAlarm .HPU_SILENT h.val (s.modHpu h fun x => { x with state := .LOST }))
    obtain ⟨htms, htmc, htgru, htaside, htclaims, htorders⟩ := blocks_of_recomputeE hframe (ms_raiseAlarm ..) hends
    have hstands : HasRoom s .HPU_SILENT h.val → Standing (loseHpu h s) .HPU_SILENT h.val := fun hroom =>
      standing_of_onlyAlarms hends.alarms (by simp) (by decide) (standing_raiseAlarm hroom)
    have hrecomputed : Recomputed s (loseHpu h s) h := recomputed_after hframe.cs hframe.tables hends
    have hothers := hends.others
    have hcapacity := hends.capacity
    rw [hframe.cs] at hothers
    rw [← ht] at htms htmc htgru htaside htclaims htorders hothers hcapacity
    obtain ⟨hhpus, hreported, -⟩ := rc_of_orders htorders
    have hlost : (loseHpu h s).rc.hpus[h] = { s.rc.hpus[h] with state := .LOST } := by rw [hhpus, hpu_modHpu]
    refine ends_of hexec ⟨hlost, fun x hx => ⟨?_, hothers x hx⟩, ?_, hrecomputed, hstands, htclaims, hreported, htms, htmc, htgru, htaside⟩
    · rw [hhpus, hpu_modHpu_of_ne _ _ hx]
    · have htables : (loseHpu h s).tables = s.tables := htaside.1
      rw [hcapacity, effectiveCapacity, hlost, htables, if_pos (by unfold State.hpuPresent; rw [htables]; exact hpresent)]
      rfl

end Sys2Proof.Proofs
end

section
/-! ## How many alarm records and notices the admissions of a pass can make (R60) -/
namespace Sys2Proof.Proofs
open Sys2Proof Sys2Proof.Machine

set_option Elab.async false

/-! ### The law of the alarm list, whatever the line -/

theorem micro_keeps_alarmLaw (s t : State) (h : Micro s t) (hs : AlarmLaw s) : AlarmLaw t := by
  have same {u v : State} (hr : v.al.records = u.al.records) (hu : AlarmLaw u) : AlarmLaw v := (alarmLaw_congr hr).mpr hu
  cases h with
  | calm h => exact same h.records hs
  | run _ h => exact same h.records hs
  | place p f => exact same (congrArg Al.records (PlaceFrame.place p f s).al) hs
  | joinPart p =>
    unfold joinPart
    split
    · split <;> exact hs
    · exact hs
  | raise k x _ hfull hevent => exact alarmLaw_raiseAlarm hs hfull hevent
  | event x =>
    have law := (alarmLaw_iff s).mp hs
    unfold raiseEvent
    split
    · split
      · next hc => exact alarmLaw_of_write (updateRecord_al ..) (law.replaced fun _ => hc.1)
      · exact hs
    · next hr =>
      split
      · next hroom =>
        exact alarmLaw_of_write (createRecord_al ..)
          (law.inserted (findRecord_none.mp hr) (fun _ => hroom) (fun hk => by cases hk) fun _ => rfl)
      · exact alarmLaw_loseRaise hs
  | clear k x => exact alarmLaw_clearAlarm hs k x
  | ack k x =>
    have law := (alarmLaw_iff s).mp hs
    unfold ackNamed
    split
    · next r hr =>
      unfold ackRecord
      split
      · next hstate =>
        refine alarmLaw_of_write (updateRecord_al ..) (law.replaced fun hk => ?_)
        exact absurd (hstate.symm.trans (law.events r (findRecord_some hr).1 hk)) (by decide)
      · exact hs
      · next hstate =>
        have hcleared : clearAlarm r.kind r.subject (dropRecord r s) = dropRecord r s :=
          clearAlarm_of_none fun q hq => (mem_dropRecord.mp hq).2
        unfold removeRecord testListFull
        split
        · split
          · next f hf hc =>
            have hlaw := alarmLaw_dropRecord r hs
            unfold clearRecord
            split
            · exact alarmLaw_of_write (updateRecord_al ..) (((alarmLaw_iff _).mp hlaw).replaced fun _ => rfl)
            · exact alarmLaw_dropRecord f hlaw
            · exact hlaw
          · exact alarmLaw_dropRecord r hs
        · exact alarmLaw_dropRecord r hs
    · exact hs
  | queueOrder | entry | passage | mode | poll | miss | writeHpu | writeGroup | writePermit | writeSystem | serve => exact hs
  | writeDoor d c =>
    unfold doorSet
    simp only
    split
    · exact same (by rw [resetDoor_al]; rfl) hs
    · exact hs
  | retire => exact same (congrArg Al.records (sendOrders_al (setPart .UNCONFIGURED (ringQuiet s))).1) hs
  | reset => exact hs
  | cold t x => exact (alarmLaw_iff _).mpr .nil
  | warm => exact (alarmLaw_iff _).mpr .nil

/-- Whatever a chain of micro steps does, the list stays lawful. -/
theorem alarmLaw_steps {s t : State} (h : Steps s t) (hs : AlarmLaw s) : AlarmLaw t := by
  induction h with
  | refl => exact hs
  | tail _ g ih => exact micro_keeps_alarmLaw _ _ g (ih hs)
  | enterLocal _ _ _ _ ih ih' => exact ih' (ih hs)

/-! ### The test of ADMISSION_DELAY raises at most once while no entry grows older -/

/-- The records that the test of R60 can still make. -/
def delayDue (h : HpuIx) (s : State) : Nat :=
  if admissionDelayed s h = true ∧ s.cs.flow[h].delayAlarm = false then 1 else 0

/-- A record of the pair stands acknowledged: its clear is a removal, after which LIST_FULL is tested (R155, R158). -/
def hasAcked (k : AlarmKind) (x : Nat) (s : State) : Bool :=
  s.al.records.any fun r => r.isFor k x && decide (r.state = .ACTIVE_ACKED)

/-- The notices that a clear of the pair can give. -/
def clearNotices (k : AlarmKind) (x : Nat) (s : State) : Nat := if hasAcked k x s then 2 else 1

/-- The notices that the test of R60 can still give: a raise that makes a record, or marks it, leaves it unacknowledged. -/
def delayNotices (h : HpuIx) (s : State) : Nat :=
  if s.cs.flow[h].delayAlarm then clearNotices .ADMISSION_DELAY h.val s else if admissionDelayed s h then 2 else 0

/-- Records and notices made stay within what the test of R60 could still make. -/
structure DelayBounded (h : HpuIx) (s t : State) : Prop where
  records : otherCount t.al.records + delayDue h t ≤ otherCount s.al.records + delayDue h s
  notices : ∀ q : PortIx, t.sp[q].queue.length + delayNotices h t ≤ s.sp[q].queue.length + delayNotices h s

section
variable {s t u : State} {h : HpuIx} {d x head : DoorIx} {e : Entry}

theorem hasAcked_iff {k : AlarmKind} {n : Nat} :
    hasAcked k n s = true ↔ ∃ r ∈ s.al.records, r.pair = (k, n) ∧ r.state = .ACTIVE_ACKED := by
  unfold hasAcked
  simp only [List.any_eq_true, Bool.and_eq_true, decide_eq_true_eq, isFor_iff]

theorem clearNotices_pos (k : AlarmKind) (n : Nat) (s : State) : 1 ≤ clearNotices k n s ∧ clearNotices k n s ≤ 2 := by
  unfold clearNotices
  split <;> omega

theorem clearNotices_of_unacked {k : AlarmKind} {n : Nat} (h : ∀ r ∈ s.al.records, r.pair = (k, n) → r.state ≠ .ACTIVE_ACKED) :
    clearNotices k n s = 1 := by
  refine if_neg fun hacked => ?_
  obtain ⟨r, hr, hpair, hstate⟩ := hasAcked_iff.mp hacked
  exact h r hr hpair hstate

/-- R155, R158: a clear gives one notice, and one of LIST_FULL's clear beside that of a removal. -/
theorem length_clearAlarm (k : AlarmKind) (n : Nat) (s : State) (q : PortIx) :
    (clearAlarm k n s).sp[q].queue.length ≤ s.sp[q].queue.length + clearNotices k n s := by
  by_cases hacked : hasAcked k n s = true
  · unfold clearNotices
    rw [if_pos hacked]
    exact (Grown.clearAlarm s k n).port q
  · have hone := (clearNotices_pos k n s).1
    unfold clearAlarm
    split
    · next r hr =>
      obtain ⟨hmem, hk, hx⟩ := findRecord_some hr
      rw [if_neg fun hstate => hacked (hasAcked_iff.mpr ⟨r, hmem, Prod.ext hk hx, hstate⟩)]
      have := (Grown.clearRecord s r).port q
      omega
    · omega

theorem length_reraise {r : AlarmRecord} {k : AlarmKind} {n : Nat} (hpair : r.pair = (k, n)) (q : PortIx) :
    (reraise r s).sp[q].queue.length + clearNotices k n (reraise r s) ≤ s.sp[q].queue.length + 2 := by
  unfold reraise
  split
  · have hone : clearNotices k n (updateRecord { r with state := .ACTIVE_UNACK, count := satInc 255 r.count } s) = 1 := by
      refine clearNotices_of_unacked fun p hp hpp => ?_
      rw [updateRecord_al] at hp
      obtain ⟨rfl, -⟩ | ⟨-, hne⟩ := mem_replaced hp
      · simp
      · exact absurd (hpp.trans hpair.symm) hne
    have hgrown := (Grown.updateRecord s { r with state := .ACTIVE_UNACK, count := satInc 255 r.count }).port q
    rw [hone]
    omega
  · have := (clearNotices_pos k n s).2
    omega

/-- R154, R157: a raise and the clear of what it made give two notices. -/
theorem length_raiseAlarm {k : AlarmKind} (hk : k ≠ .LIST_FULL) (n : Nat) (s : State) (q : PortIx) :
    (raiseAlarm k n s).sp[q].queue.length + clearNotices k n (raiseAlarm k n s) ≤ s.sp[q].queue.length + 2 := by
  have hgrown := (Grown.raiseAlarm s k n).port q
  cases hr : findRecord k n s with
  | some r =>
    obtain ⟨-, hkind, hx⟩ := findRecord_some hr
    have hraise : raiseAlarm k n s = reraise r s := by unfold raiseAlarm; rw [hr]
    rw [hraise]
    exact length_reraise (Prod.ext hkind hx) q
  | none =>
    have hnone := findRecord_none.mp hr
    have hone : clearNotices k n (raiseAlarm k n s) = 1 := by
      refine clearNotices_of_unacked fun p hp hpair hstate => ?_
      unfold raiseAlarm at hp
      rw [hr] at hp
      simp only at hp
      split at hp
      · rw [createRecord_al] at hp
        obtain rfl | hold := mem_inserted.mp hp
        · cases hstate
        · exact hnone p hold hpair
      · have hkind : p.kind ≠ .LIST_FULL := fun hfull => hk ((congrArg Prod.fst hpair).symm.trans hfull)
        exact hnone p ((onlyAlarms_loseRaise s []).2 p hp (by simp) hkind) hpair
    omega

theorem DelayBounded.refl (h : HpuIx) (s : State) : DelayBounded h s s := ⟨le_rfl, fun _ => le_rfl⟩
theorem DelayBounded.trans (a : DelayBounded h s t) (b : DelayBounded h t u) : DelayBounded h s u :=
  ⟨b.records.trans a.records, fun q => (b.notices q).trans (a.notices q)⟩
theorem DelayBounded.ite {c : Prop} [Decidable c] {a b : State} (ha : DelayBounded h s a) (hb : DelayBounded h s b) :
    DelayBounded h s (if c then a else b) := by
  split
  · exact ha
  · exact hb

/-- Nothing is made where the alarms and the queues stand and no entry becomes late. -/
theorem DelayBounded.quiet (hal : t.al = s.al) (hsp : t.sp = s.sp) (hflag : t.cs.flow[h].delayAlarm = s.cs.flow[h].delayAlarm)
    (hless : admissionDelayed t h = true → admissionDelayed s h = true) : DelayBounded h s t := by
  refine ⟨?_, fun q => ?_⟩
  · rw [hal]
    unfold delayDue
    rw [hflag]
    by_cases ht : admissionDelayed t h = true
    · rw [hless ht]; simp [ht]
    · simp [ht]
  · rw [hsp]
    unfold delayNotices
    rw [hflag, show clearNotices .ADMISSION_DELAY h.val t = clearNotices .ADMISSION_DELAY h.val s by unfold clearNotices hasAcked; rw [hal]]
    by_cases ht : admissionDelayed t h = true
    · rw [hless ht]; simp [ht]
    · simp only [ht]
      split
      · exact le_rfl
      · simp

theorem evalDelay_stands (hf : s.cs.flow[h].delayAlarm = admissionDelayed s h) : evalDelay h s = s := by
  unfold evalDelay
  split
  · next hd => exact if_pos (hf.trans hd)
  · next hd => exact if_neg fun hon => hd (hf.symm.trans hon)

theorem evalDelay_raises (hd : admissionDelayed s h = true) (hf : s.cs.flow[h].delayAlarm = false) :
    evalDelay h s = raiseAlarm .ADMISSION_DELAY h.val (s.modFlow h fun f => { f with delayAlarm := true }) :=
  (if_pos hd).trans (if_neg (by rw [hf]; exact Bool.false_ne_true))

theorem evalDelay_clears (hd : admissionDelayed s h = false) (hf : s.cs.flow[h].delayAlarm = true) :
    evalDelay h s = clearAlarm .ADMISSION_DELAY h.val (s.modFlow h fun f => { f with delayAlarm := false }) :=
  (if_neg (by rw [hd]; exact Bool.false_ne_true)).trans (if_pos hf)

theorem DelayBounded.evalDelay (h : HpuIx) (s : State) : DelayBounded h s (evalDelay h s) := by
  have hdelayed : admissionDelayed (Machine.evalDelay h s) h = admissionDelayed s h :=
    admissionDelayed_congr (by rw [evalDelay_cs]) (ScheduleFrame.evalDelay ..).tables h
  have hflag : (Machine.evalDelay h s).cs.flow[h].delayAlarm = admissionDelayed s h := by rw [evalDelay_cs]; simp
  by_cases hsame : s.cs.flow[h].delayAlarm = admissionDelayed s h
  · rw [evalDelay_stands hsame]; exact .refl h s
  cases hd : admissionDelayed s h with
  | false =>
    have hf : s.cs.flow[h].delayAlarm = true := by simpa [hd] using hsame
    have hcount := otherCount_clearAlarm (s := s.modFlow h fun f => { f with delayAlarm := false }) .ADMISSION_DELAY h.val
    have hlength := length_clearAlarm .ADMISSION_DELAY h.val (s.modFlow h fun f => { f with delayAlarm := false })
    refine ⟨?_, fun q => ?_⟩
    · unfold delayDue
      rw [hdelayed, hflag, hd, hf, evalDelay_clears hd hf]
      exact hcount
    · unfold delayNotices
      rw [hdelayed, hflag, hd, hf, evalDelay_clears hd hf]
      exact hlength q
  | true =>
    have hf : s.cs.flow[h].delayAlarm = false := by simpa [hd] using hsame
    have hcount := otherCount_raiseAlarm (s := s.modFlow h fun f => { f with delayAlarm := true }) .ADMISSION_DELAY h.val
    have hlength := length_raiseAlarm (k := .ADMISSION_DELAY) (by decide) h.val (s.modFlow h fun f => { f with delayAlarm := true })
    refine ⟨?_, fun q => ?_⟩
    · unfold delayDue
      rw [hdelayed, hflag, hd, hf, evalDelay_raises hd hf]
      exact hcount
    · unfold delayNotices
      rw [hdelayed, hflag, hd, hf, evalDelay_raises hd hf]
      exact hlength q

theorem DelayBounded.admitDoor (he : s.entry d = some e) (hd : s.hpuOf d = h) : DelayBounded h s (admitDoor d s) := by
  subst hd
  rw [admitDoor_eq_beforeTest he]
  refine (DelayBounded.quiet (beforeTest_al d e s) rfl (beforeTest_delayAlarm ..) fun hlate => ?_).trans (.evalDelay ..)
  rw [admissionDelayed_beforeTest he] at hlate
  exact admissionDelayed_admitDoor he _ hlate

theorem admissionDelayed_overtake (head : DoorIx) (s : State) : admissionDelayed (overtake head s) h = admissionDelayed s h := by
  cases he : s.entry head with
  | none => unfold overtake; rw [he]
  | some e =>
    have hentry (x : DoorIx) : (overtake head s).entry x =
        if head = x then some { e with overtaken := satInc overtakenCap e.overtaken } else s.entry x := by
      rw [overtake_eq he]; exact entry_setEntry ..
    have htables := (ScheduleFrame.overtake head s).tables
    unfold admissionDelayed
    refine List.any_congr rfl fun x => ?_
    unfold waitsTooLong State.hpuOf
    rw [hentry, htables]
    by_cases hx : head = x
    · subst hx; rw [if_pos rfl, he]
    · rw [if_neg hx]

theorem isSome_admitDoor (d x : DoorIx) (s : State) : ((admitDoor d s).entry x).isSome = (s.entry x).isSome := by
  cases he : s.entry d with
  | none => unfold admitDoor; rw [he]
  | some e =>
    rw [admitDoor_entry he]
    split
    · next hx => rw [← hx, he]; rfl
    · rfl

theorem isSome_overtake (d x : DoorIx) (s : State) : ((overtake d s).entry x).isSome = (s.entry x).isSome := by
  cases he : s.entry d with
  | none => unfold overtake; rw [he]
  | some e =>
    rw [overtake_eq he, entry_setEntry]
    split
    · next hx => rw [← hx, he]; rfl
    · rfl

theorem DelayBounded.overtake (head : DoorIx) (s : State) : DelayBounded h s (overtake head s) := by
  refine .quiet ?_ ?_ ?_ fun hlate => by rwa [admissionDelayed_overtake] at hlate
  all_goals
    unfold Machine.overtake
    split <;> rfl

theorem DelayBounded.lookAhead {l : List DoorIx} (hl : ∀ d ∈ l, (s.entry d).isSome = true ∧ s.hpuOf d = h) :
    DelayBounded h s (lookAhead h head l s) := by
  induction l generalizing s with
  | nil => exact .refl h s
  | cons d rest ih =>
    obtain ⟨hd, hrest⟩ := List.forall_mem_cons.mp hl
    obtain ⟨e, he⟩ := Option.isSome_iff_exists.mp hd.1
    have kept {u : State} (hu : ∀ x, (u.entry x).isSome = (s.entry x).isSome) (ht : u.tables = s.tables) :
        ∀ x ∈ rest, (u.entry x).isSome = true ∧ u.hpuOf x = h := fun x hx =>
      ⟨(hu x).trans (hrest x hx).1, (hpuOf_congr ht x).trans (hrest x hx).2⟩
    unfold Machine.lookAhead
    refine .ite (.refl h s) (.ite ?_ (ih hrest))
    refine ((DelayBounded.admitDoor he hd.2).trans (.overtake ..)).trans (ih (kept (fun x => ?_) ?_))
    · rw [isSome_overtake, isSome_admitDoor]
    · exact ((ScheduleFrame.admitDoor ..).trans (.overtake ..)).tables

theorem DelayBounded.passWalk {l : List DoorIx} (hl : ∀ d ∈ l, (s.entry d).isSome = true ∧ s.hpuOf d = h) :
    DelayBounded h s (passWalk h l s) := by
  induction l generalizing s with
  | nil => exact .refl h s
  | cons d rest ih =>
    obtain ⟨hd, hrest⟩ := List.forall_mem_cons.mp hl
    obtain ⟨e, he⟩ := Option.isSome_iff_exists.mp hd.1
    unfold Machine.passWalk
    refine .ite ((DelayBounded.admitDoor he hd.2).trans (ih fun x hx => ⟨?_, ?_⟩)) (.lookAhead fun x hx => ?_)
    · rw [isSome_admitDoor]; exact (hrest x hx).1
    · exact (hpuOf_congr (ScheduleFrame.admitDoor ..).tables x).trans (hrest x hx).2
    · exact hrest x (List.mem_filter.mp (List.mem_of_mem_take hx)).1

theorem DelayBounded.pass (h : HpuIx) (s : State) : DelayBounded h s (pass h s) := by
  refine .passWalk fun d hd => ?_
  obtain ⟨e, he, -, hh⟩ := entry_of_entryIn (mem_readyOn.mp hd)
  exact ⟨Option.isSome_iff_exists.mpr ⟨e, he⟩, hh⟩

/-- An admission pass and a test of R60 give two notices at most: a raise and a clear. -/
theorem DelayBounded.grown_two (hb : DelayBounded h s t) : Grown 2 s t := by
  refine ⟨fun q => ?_⟩
  have := hb.notices q
  have hmost : delayNotices h s ≤ 2 := by
    unfold delayNotices
    split <;> [exact (clearNotices_pos ..).2; (split <;> omega)]
  omega

theorem DelayBounded.grown (hb : DelayBounded h s t) : Grown 3 s t := hb.grown_two.mono (by omega)

theorem DelayBounded.count (hb : DelayBounded h s t) : otherCount t.al.records ≤ otherCount s.al.records + 1 := by
  have := hb.records
  have hmost : delayDue h s ≤ 1 := by unfold delayDue; split <;> omega
  omega

end

end Sys2Proof.Proofs
end

section
/-! ## What the removal of an entry leaves (R47) -/
namespace Sys2Proof.Proofs
open Sys2Proof Sys2Proof.Machine

set_option Elab.async false

/-! ### Reports while no run waits and none is suspended -/

/-- No run waits, none is suspended and none has its precondition to look at again: no run submits a demand while another block
acts. -/
structure Deaf (l : List SlotIx) (s : State) : Prop where
  waits : ∀ i : SlotIx, slotIn s i .WAITING = false
  stack : s.gru.stack = []
  resumed : s.gru.resumed = l

section
variable {s t u : State} {l : List SlotIx}

theorem Deaf.of_gru (hs : Deaf l s) (h : t.gru = s.gru) : Deaf l t := by
  obtain ⟨hw, hst, hr⟩ := hs
  refine ⟨fun i => ?_, by rw [h]; exact hst, by rw [h]; exact hr⟩
  unfold slotIn
  rw [h]
  exact hw i

theorem noRunHears_deaf (h : NoRunHears s) : Deaf s.gru.resumed s := ⟨h.1, h.2, rfl⟩
theorem settled_deaf (h : NoRunHears s) (hs : SettledLaw s) : Deaf [] s := ⟨h.1, h.2, hs.2⟩

/-- A context changed by a fate stands in the state it stood in. -/
theorem fated_state (tag : Option RunTag) (fate : TagFate) (r : Run) : (fated tag fate r).state = r.state := by
  unfold fated
  split
  · split <;> [(cases fate <;> rfl); rfl]
  · rfl

theorem vacate_of_idle {i : SlotIx} (h : s.gru.stack = []) : vacate i s = { s with gru := { s.gru with
    slots := put s.gru.slots i none, slotting := s.gru.slotting.filter fun k => decide (k ≠ i) } } := by
  unfold vacate
  simp only
  split
  · rfl
  · show resumeTop i s.gru.stack _ = _
    rw [h]
    unfold resumeTop setStack
    simp only [setSlotting, setSlot, h]

theorem slotIn_of_put {i j : SlotIx} {st : RunState} (hgru : t.gru.slots = put s.gru.slots i none)
    (h : slotIn s j st = false) : slotIn t j st = false := by
  have hslot : t.gru.slots[j] = if i = j then none else s.gru.slots[j] := by
    rw [hgru]
    simp only [Fin.getElem_fin, getElem_put, Fin.val_inj]
  unfold slotIn at h ⊢
  rw [hslot]
  by_cases hij : i = j
  · rw [if_pos hij]
  · rw [if_neg hij]; exact h

/-- A report leaves no run waiting where none waited; with no context suspended none resumes. -/
theorem Deaf.reportTag (hs : Deaf l s) (tag : Option RunTag) (fate : TagFate) :
    Deaf l (reportTag tag fate s) ∧ Grown 1 s (reportTag tag fate s) := by
  unfold Machine.reportTag
  cases tag with
  | none => exact ⟨hs, .refl s⟩
  | some tg =>
    obtain ⟨hslots, hstack, hslotting, hresumed, hsp⟩ := countTag_gru (some tg) fate s
    have hc : Deaf l (countTag (some tg) fate s) := by
      refine ⟨fun i => ?_, by rw [hstack, hs.stack]; rfl, hresumed.trans hs.resumed⟩
      have hw := hs.waits i
      unfold slotIn at hw ⊢
      rw [hslots i]
      cases hi : s.gru.slots[i] with
      | none => rfl
      | some r =>
        rw [hi] at hw
        simpa only [Option.map_some, fated_state] using hw
    have hgrown : Grown 0 s (countTag (some tg) fate s) := .of_sp hsp
    show Deaf l (completeRun tg.number _) ∧ Grown 1 s (completeRun tg.number _)
    generalize countTag (some tg) fate s = v at hc hgrown
    unfold completeRun
    split
    · next i _ =>
      unfold completeSlot
      split
      · split
        · next r _ _ =>
          have hsent := PlaceFrame.sendReport .COMPLETE r v
          have hd : Deaf l (sendReport .COMPLETE r v) := hc.of_gru hsent.gru
          rw [vacate_of_idle hd.stack]
          refine ⟨⟨fun j => slotIn_of_put rfl (hd.waits j), hd.stack, hd.resumed⟩, ?_⟩
          exact (hgrown.trans (.sendReport ..)).trans (n := 0) (.of_sp rfl)
        · exact ⟨hc, hgrown.mono (by omega)⟩
      · exact ⟨hc, hgrown.mono (by omega)⟩
    · unfold completeStacked
      rw [hc.stack]
      exact ⟨hc, hgrown.mono (by omega)⟩

theorem waitsOn_of_deaf (hs : Deaf l s) (d : DoorIx) (i : SlotIx) : waitsOn s d i = false := by
  have hw := hs.waits i
  unfold waitsOn
  unfold slotIn at hw
  cases hi : s.gru.slots[i] with
  | none => rfl
  | some r =>
    rw [hi] at hw
    simp only at hw ⊢
    rw [hw, Bool.false_and]

theorem forWaiting_of_deaf (hs : Deaf l s) (d : DoorIx) (act : SlotIx → State → State) : forWaiting d act s = s := by
  have hnone : allSlots.filter (waitsOn s d) = [] :=
    List.filter_eq_nil_iff.mpr fun i _ => by rw [waitsOn_of_deaf hs d i]; exact Bool.false_ne_true
  unfold forWaiting
  rw [hnone]
  rfl

theorem settleRuns_of_deaf (hs : Deaf [] s) : settleRuns s = s := by
  unfold settleRuns
  rw [hs.stack, hs.resumed]
  rfl

end

/-! ### The entry taken out -/

/-- An earlier state with the same runs and tables, from which the queues have grown by no more than a report may find. -/
structure Prior (n : Nat) (b s : State) : Prop where
  gru : s.gru = b.gru
  tables : s.tables = b.tables
  grown : Grown n b s

theorem Prior.refl (n : Nat) (s : State) : Prior n s s := ⟨rfl, rfl, .refl s⟩

/-- What taking out the entry `e` of a door leaves. -/
structure TakenOut (c : RemovalCause) (d : DoorIx) (e : Entry) (s t : State) : Prop extends RunFrame s t where
  cs : t.cs = schedWithout s d
  ms : t.ms = s.ms
  told : c ≠ .FLUSH → ∀ fate, c.fate = some fate → ∀ b : State, Prior 22 b s → Told b t (fated e.tag fate)
  untold : c.fate = none → t.gru = s.gru
  oas : t.mc.oas = s.mc.oas
  others : ∀ x : DoorIx, x ≠ d → t.passage x = s.passage x
  opened : e.direction = .OPEN → t.passage d = s.passage d
  closed : e.direction = .CLOSE → t.passage d = (s.passage d).filter fun x => decide (x.phase ≠ .RECLOSING) || !x.demanded
  ordered : ∀ k, c.order e.phase = some k → Pending t d k
  unordered : c.order e.phase = none → t.rc = s.rc
  otherOrders : ∀ o : PendingOrder, o.door ≠ d → (o ∈ t.rc.orders ↔ o ∈ s.rc.orders)
  alarms : OnlyAlarms s t [(.PASSAGE_OVERDUE, d.val)]
  count : otherCount t.al.records ≤ otherCount s.al.records
  lasting : Lasting s t

section
variable {s t u : State} {c : RemovalCause} {d x : DoorIx} {e : Entry}

/-- The draw of a MOVING entry released. -/
abbrev released (d : DoorIx) (e : Entry) (s : State) : State :=
  if e.phase = .MOVING then s.modFlow (s.hpuOf d) fun f => { f with committed := f.committed - s.draw d } else s

theorem released_eq (he : s.entry d = some e) : released d e s = { s with cs := { s.cs with
    flow := upd s.cs.flow (s.hpuOf d) fun f => { f with committed := f.committed - movingDraw s d } } } := by
  have hdraw : movingDraw s d = if e.phase = .MOVING then s.draw d else 0 := by unfold movingDraw; rw [he]
  unfold released
  rw [hdraw]
  split
  · rfl
  · have hself : upd s.cs.flow (s.hpuOf d) (fun f => { f with committed := f.committed - 0 }) = s.cs.flow := upd_self rfl
    rw [hself]

theorem takeOut_eq (he : s.entry d = some e) (c : RemovalCause) : takeOut c d s =
    recloseGone d e.direction (queueOrder? d (c.order e.phase) ((c.report e.tag (released d e s)).dropEntry d)) := by
  unfold takeOut released
  rw [he]

theorem takeOut_of_none (h : s.entry d = none) (c : RemovalCause) : takeOut c d s = s := by
  unfold takeOut; rw [h]

theorem ReportFrame.report (c : RemovalCause) (tag : Option RunTag) (s : State) : ReportFrame s (c.report tag s) := by
  unfold RemovalCause.report
  split
  · split
    · exact .countTag ..
    · exact .reportTag ..
  · exact .refl s

theorem onlyAlarms_recloseGone (d : DoorIx) (dir : Direction) (s : State) :
    OnlyAlarms s (recloseGone d dir s) [(.PASSAGE_OVERDUE, d.val)] := by
  unfold recloseGone
  split
  · split
    · exact onlyAlarms_clearAlarm .PASSAGE_OVERDUE d.val (s.dropPassage d)
    · exact onlyAlarms_refl ..
  · exact onlyAlarms_refl ..

theorem otherCount_recloseGone (d : DoorIx) (dir : Direction) (s : State) :
    otherCount (recloseGone d dir s).al.records ≤ otherCount s.al.records := by
  unfold recloseGone
  split
  · split
    · exact otherCount_clearAlarm (s := s.dropPassage d) .PASSAGE_OVERDUE d.val
    · exact le_rfl
  · exact le_rfl

theorem takenOut (he : s.entry d = some e) (c : RemovalCause) : TakenOut c d e s (takeOut c d s) := by
  have frame := RunFrame.takeOut c d s
  have hrel := released_eq he
  have hreport := ReportFrame.report c e.tag (released d e s)
  rw [takeOut_eq he] at frame ⊢
  generalize hv : c.report e.tag (released d e s) = v at *
  generalize hw : queueOrder? d (c.order e.phase) (v.dropEntry d) = w at *
  have hwrc : w = { v.dropEntry d with rc := w.rc } := by rw [← hw]; exact queueOrder?_eq ..
  have hend := Ending.recloseGone d e.direction w
  have hvrc : v.rc = s.rc := by rw [hreport.rc, hrel]
  have hgruw : w.gru = v.gru := by rw [hwrc]; rfl
  have hpassage (y : DoorIx) : w.passage y = s.passage y := passage_of_mc_passages (by
    have : w.mc = v.mc := by rw [hwrc]; rfl
    rw [this, hreport.mc, hrel]) y
  have hlast : Lasting v (recloseGone d e.direction w) := hend.lasting.after (by rw [hwrc]; rfl)
  refine { toRunFrame := frame, cs := ?_, ms := ?_, told := fun hflush fate hfate b hb => ?_, untold := fun hfate => ?_,
           oas := ?_, others := fun y hy => (hend.others y hy).trans (hpassage y), opened := fun hdir => ?_, closed := fun hdir => ?_,
           ordered := fun k hk => ?_, unordered := fun hk => ?_, otherOrders := fun o ho => ?_,
           alarms := ?_, count := ?_, lasting := ?_ }
  · rw [hend.cs, hwrc]
    show { v.cs with entries := put v.cs.entries d none } = _
    rw [hreport.cs, hrel]
    rfl
  · rw [hend.ms, hwrc]
    show v.ms = _
    rw [hreport.ms, hrel]
  · refine Told.mono (u := v) ?_ (hend.gru.trans hgruw) hlast
    have hrep : v = reportTag e.tag fate (released d e s) := by
      rw [← hv]
      unfold RemovalCause.report
      rw [hfate]
      exact if_neg hflush
    rw [hrep]
    exact told_reportTag e.tag fate (by rw [hrel]; exact hb.gru) (by rw [hrel]; exact hb.tables)
      (Grown.trans (n := 0) hb.grown (.of_sp (by rw [hrel])))
  · have hsame : v = released d e s := by
      rw [← hv]
      unfold RemovalCause.report
      rw [hfate]
    rw [hend.gru, hgruw, hsame, hrel]
  · rw [hend.oas, hwrc]
    show v.mc.oas = _
    rw [hreport.mc, hrel]
  · rw [hdir, passage_recloseGone_open]; exact hpassage d
  · rw [hdir, passage_recloseGone_close, hpassage]
  · show _ ∈ (recloseGone d e.direction w).rc.orders
    rw [hend.rc, ← hw, hk]
    exact mem_queued_self ..
  · rw [hend.rc, ← hw, hk]
    exact hvrc
  · rw [hend.rc, ← hw]
    cases hk : c.order e.phase with
    | none =>
      show o ∈ v.rc.orders ↔ _
      rw [hvrc]
    | some k =>
      show o ∈ queued v.rc.orders ⟨d, k⟩ ↔ _
      rw [mem_queued_of_ne ho, hvrc]
  · have halw : w.al = s.al := by rw [hwrc]; show v.al = _; rw [hreport.al, hrel]
    exact onlyAlarms_trans (onlyAlarms_of_records (congrArg Al.records halw) _) (onlyAlarms_recloseGone ..)
  · have halw : w.al = s.al := by rw [hwrc]; show v.al = _; rw [hreport.al, hrel]
    rw [← halw]
    exact otherCount_recloseGone ..
  · have hfirst : Lasting s v := hreport.lasting.after (by rw [hrel])
    exact hfirst.trans hlast

/-! ### The pass and the test after it -/

theorem entry_schedWithout (d x : DoorIx) (h : t.cs = schedWithout s d) : t.entry x = if d = x then none else s.entry x := by
  unfold State.entry
  rw [h]
  simp only [schedWithout, Fin.getElem_fin, Vector.getElem_set, Fin.val_inj]

/-- What the removal of the entry `e` of a door leaves: the schedule after the pass of a MOVING entry, or the pass and the test
of a READY one. -/
structure Removed (c : RemovalCause) (d : DoorIx) (e : Entry) (s t : State) : Prop extends RunFrame s t where
  ms : t.ms = s.ms
  gone : t.entry d = none
  claims : ∀ x : DoorIx, x ≠ d → claimOf t x = claimOf s x
  warning : e.phase = .WARNING → t.cs = schedWithout s d
  ready : e.phase = .READY → PassedAndTested s t (s.hpuOf d) (schedWithout s d)
  moving : e.phase = .MOVING → Passed s t (s.hpuOf d) (schedWithout s d)
  told : c ≠ .FLUSH → ∀ fate, c.fate = some fate → ∀ b : State, Prior 22 b s → Told b t (fated e.tag fate)
  untold : c.fate = none → t.gru = s.gru
  oas : t.mc.oas = s.mc.oas
  others : ∀ x : DoorIx, x ≠ d → t.passage x = s.passage x
  opened : e.direction = .OPEN → t.passage d = s.passage d
  closed : e.direction = .CLOSE → t.passage d = (s.passage d).filter fun x => decide (x.phase ≠ .RECLOSING) || !x.demanded
  ordered : ∀ k, c.order e.phase = some k → Pending t d k
  unordered : c.order e.phase = none → e.phase = .WARNING → t.rc = s.rc
  alarms : OnlyAlarms s t [(.PASSAGE_OVERDUE, d.val), (.ADMISSION_DELAY, (s.hpuOf d).val), (.TRAVEL_OVERTIME, d.val)]
  overtime : AlarmLaw s → Cleared t .TRAVEL_OVERTIME d.val
  count : otherCount t.al.records ≤ otherCount s.al.records + 1
  lasting : Lasting s t

/-- The state between the taking out of an entry and the clear of its overtime. -/
def readmitted (d : DoorIx) (e : Entry) (s u : State) : State :=
  (fun v => if e.phase = .READY then evalDelay (s.hpuOf d) v else v)
    (if e.phase = .WARNING then u else pass (s.hpuOf d) u)

theorem removeEntry_eq (he : s.entry d = some e) (c : RemovalCause) :
    removeEntry c d s = clearDoor .TRAVEL_OVERTIME d (readmitted d e s (takeOut c d s)) := by
  unfold removeEntry readmitted
  rw [he]

theorem removeEntry_of_none (h : s.entry d = none) (c : RemovalCause) : removeEntry c d s = s := by
  unfold removeEntry; rw [h]

theorem readmitted_warning (h : e.phase = .WARNING) (u : State) : readmitted d e s u = u := by
  unfold readmitted; simp [h]
theorem readmitted_ready (h : e.phase = .READY) (u : State) :
    readmitted d e s u = evalDelay (s.hpuOf d) (pass (s.hpuOf d) u) := by
  unfold readmitted; simp [h]
theorem readmitted_moving (h : e.phase = .MOVING) (u : State) : readmitted d e s u = pass (s.hpuOf d) u := by
  unfold readmitted; simp [h]

/-- What the pass and the test keep. -/
structure Readmitted (h : HpuIx) (u v : State) : Prop extends ScheduleFrame u v where
  ms : v.ms = u.ms
  claims : ∀ x, claimOf v x = claimOf u x
  idle : ∀ x, entryIn u h .READY x = false → v.entry x = u.entry x
  otherOrders : ∀ o : PendingOrder, entryIn u h .READY o.door = false → (o ∈ v.rc.orders ↔ o ∈ u.rc.orders)
  alarms : OnlyAlarms u v [(.ADMISSION_DELAY, h.val)]
  bounded : DelayBounded h u v
  lasting : Lasting u v
  steps : Steps u v

theorem Readmitted.refl (h : HpuIx) (u : State) : Readmitted h u u :=
  ⟨.refl u, rfl, fun _ => rfl, fun _ _ => rfl, fun _ _ => Iff.rfl, onlyAlarms_refl .., .refl h u, .refl u, .refl u⟩

theorem Readmitted.pass (h : HpuIx) (u : State) : Readmitted h u (pass h u) :=
  ⟨.pass .., ms_pass .., claimOf_pass h u, fun _ hx => entry_pass_of_not_ready hx, fun _ ho => pass_orders_of_not_ready ho,
    (pass_admits h u).delay.only, .pass h u, .pass h u, .pass h u⟩

theorem Readmitted.tested {v : State} {h : HpuIx} (hv : Readmitted h u v) : Readmitted h u (evalDelay h v) :=
  ⟨hv.toScheduleFrame.trans (.evalDelay ..), (evalDelay_ms ..).trans hv.ms,
    fun x => (by unfold claimOf; rw [evalDelay_entry] : claimOf (evalDelay h v) x = claimOf v x).trans (hv.claims x),
    fun x hx => (evalDelay_entry ..).trans (hv.idle x hx), fun o ho => by rw [evalDelay_rc]; exact hv.otherOrders o ho,
    onlyAlarms_trans hv.alarms (onlyAlarms_evalDelay ..), hv.bounded.trans (.evalDelay ..), hv.lasting.trans (.evalDelay ..),
    hv.steps.trans (.evalDelay ..)⟩

theorem readmitted_frame (d : DoorIx) (e : Entry) (s u : State) : Readmitted (s.hpuOf d) u (readmitted d e s u) := by
  cases hph : e.phase with
  | WARNING => rw [readmitted_warning hph]; exact .refl ..
  | READY => rw [readmitted_ready hph]; exact (Readmitted.pass ..).tested
  | MOVING => rw [readmitted_moving hph]; exact .pass ..

theorem removed (he : s.entry d = some e) (c : RemovalCause) : Removed c d e s (removeEntry c d s) := by
  have frame := RunFrame.removeEntry c d s
  have hsteps := Steps.takeOut c d s
  have hout := takenOut he c
  rw [removeEntry_eq he] at frame ⊢
  generalize takeOut c d s = u at *
  have hv := readmitted_frame d e s u
  have hready : e.phase = .READY → readmitted d e s u = evalDelay (s.hpuOf d) (pass (s.hpuOf d) u) := fun h => readmitted_ready h u
  have hmoving : e.phase = .MOVING → readmitted d e s u = pass (s.hpuOf d) u := fun h => readmitted_moving h u
  have hwarning : e.phase = .WARNING → readmitted d e s u = u := fun h => readmitted_warning h u
  generalize readmitted d e s u = v at *
  have hclear := AlarmFrame.clearDoor .TRAVEL_OVERTIME d v
  have hnone : u.entry d = none := (entry_schedWithout d d hout.cs).trans (if_pos rfl)
  have hidle : entryIn u (s.hpuOf d) .READY d = false := by unfold entryIn; rw [hnone]
  have hentry (x : DoorIx) : (clearDoor .TRAVEL_OVERTIME d v).entry x = v.entry x := entry_congr (by rw [hclear.cs]) x
  have hpassage (x : DoorIx) : (clearDoor .TRAVEL_OVERTIME d v).passage x = u.passage x :=
    passage_of_mc_passages (by rw [hclear.mc, hv.mc]) x
  have hlast : Lasting u (clearDoor .TRAVEL_OVERTIME d v) := hv.lasting.trans (.clearAlarm ..)
  refine { toRunFrame := frame, ms := ?_, gone := ?_, claims := fun x hx => ?_, warning := fun hph => ?_, ready := fun hph => ?_,
           moving := fun hph => ?_, told := fun hflush fate hfate b hb => ?_, untold := fun hfate => ?_, oas := ?_,
           others := fun x hx => (hpassage x).trans (hout.others x hx), opened := fun hdir => (hpassage d).trans (hout.opened hdir),
           closed := fun hdir => (hpassage d).trans (hout.closed hdir), ordered := fun k hk => ?_, unordered := fun hk hph => ?_,
           alarms := ?_, overtime := fun hlaw => ?_, count := ?_, lasting := hout.lasting.trans hlast }
  · exact (ms_clearAlarm (by decide)).trans (hv.ms.trans hout.ms)
  · rw [hentry, hv.idle d hidle, hnone]
  · unfold claimOf
    rw [hentry]
    refine (hv.claims x).trans ?_
    unfold claimOf
    rw [entry_schedWithout d x hout.cs, if_neg (Ne.symm hx)]
  · rw [hclear.cs, hwarning hph, hout.cs]
  · refine passedAndTested_of_evalDelay ?_ hout.cs hout.tables frame.tables
    rw [hclear.cs, hready hph]
  · refine passed_of_pass ?_ hout.cs hout.tables
    rw [hclear.cs, hmoving hph]
  · exact Told.mono (hout.told hflush fate hfate b hb) (hclear.gru.trans hv.gru) hlast
  · rw [hclear.gru, hv.gru, hout.untold hfate]
  · rw [hclear.mc, hv.mc, hout.oas]
  · show _ ∈ (clearDoor .TRAVEL_OVERTIME d v).rc.orders
    rw [hclear.rc]
    exact (hv.otherOrders ⟨d, k⟩ hidle).mpr (hout.ordered k hk)
  · rw [hclear.rc, hwarning hph, hout.unordered hk]
  · refine onlyAlarms_trans (onlyAlarms_trans (onlyAlarms_mono hout.alarms (by simp)) (onlyAlarms_mono hv.alarms (by simp)))
      (onlyAlarms_mono (onlyAlarms_clearAlarm .TRAVEL_OVERTIME d.val v) (by simp))
  · exact cleared_clearAlarm (alarmLaw_steps (hsteps.trans hv.steps) hlaw) (by decide)
  · exact (otherCount_clearAlarm ..).trans (hv.bounded.count.trans (Nat.add_le_add_right hout.count 1))

end

end Sys2Proof.Proofs
end

section
/-! ## Movements that end in a fault, and their expiries (R70, R73, R74) -/
namespace Sys2Proof.Proofs
open Sys2Proof Sys2Proof.Machine

set_option Elab.async false

section
variable {s t u : State} {c : RemovalCause} {d x : DoorIx} {e : Entry} {k : Latch} {l : List SlotIx}

/-! ### The operations of a removal while no run hears -/

theorem Deaf.report (hs : Deaf l s) (c : RemovalCause) (hc : c ≠ .FLUSH) (tag : Option RunTag) :
    Deaf l (c.report tag s) ∧ Grown 1 s (c.report tag s) := by
  unfold RemovalCause.report
  split
  · rw [if_neg hc]
    exact hs.reportTag ..
  · exact ⟨hs, .refl s⟩

theorem Deaf.takeOut (hs : Deaf l s) (hc : c ≠ .FLUSH) (d : DoorIx) : Deaf l (takeOut c d s) ∧ Grown 3 s (takeOut c d s) := by
  cases he : s.entry d with
  | none => rw [takeOut_of_none he]; exact ⟨hs, .refl s⟩
  | some e =>
    rw [takeOut_eq he]
    have hrel := released_eq he
    have hr := (hs.of_gru (t := released d e s) (by rw [hrel])).report c hc e.tag
    generalize c.report e.tag (released d e s) = v at *
    have hq := queueOrder?_eq d (c.order e.phase) (v.dropEntry d)
    have hend := Ending.recloseGone d e.direction (queueOrder? d (c.order e.phase) (v.dropEntry d))
    refine ⟨hr.1.of_gru (hend.gru.trans (by rw [hq]; rfl)), ?_⟩
    have hfirst : Grown 1 s v := hr.2.after (by rw [hrel])
    have hmid : Grown 0 v (queueOrder? d (c.order e.phase) (v.dropEntry d)) := .of_sp (by rw [hq]; rfl)
    exact (hfirst.trans hmid).trans (.recloseGone ..)

theorem Deaf.removeEntry (hs : Deaf l s) (hc : c ≠ .FLUSH) (d : DoorIx) :
    Deaf l (removeEntry c d s) ∧ Grown 8 s (removeEntry c d s) := by
  cases he : s.entry d with
  | none => rw [removeEntry_of_none he]; exact ⟨hs, .refl s⟩
  | some e =>
    rw [removeEntry_eq he]
    have hout := hs.takeOut hc d
    have hv := readmitted_frame d e s (Machine.takeOut c d s)
    have hclear := AlarmFrame.clearDoor .TRAVEL_OVERTIME d (readmitted d e s (Machine.takeOut c d s))
    exact ⟨hout.1.of_gru (hclear.gru.trans hv.gru), (hout.2.trans hv.bounded.grown).trans (.clearAlarm ..)⟩

/-! ### Supervision fields (R11) -/

theorem sup_modSup (f : Supervision → Supervision) (s : State) (d x : DoorIx) :
    (s.modSup d f).ms.doors[x] = if d = x then f s.ms.doors[x] else s.ms.doors[x] := by
  by_cases hx : d = x
  · subst hx; simp [State.modSup]
  · have hval : d.val ≠ x.val := fun hv => hx (Fin.ext hv)
    simp [State.modSup, hx, hval]

/-! ### A fault (R74) -/

/-- What a fault does before it tells the runs that wait on the door (R95). -/
abbrev faultTold (k : Latch) (d : DoorIx) (s : State) : State :=
  raiseDoor .DOOR_FAULT d (setLatch d k (removeEntry (.FAULT k) d s))

theorem faultDoor_of_deaf (hs : Deaf l s) (k : Latch) (d : DoorIx) : faultDoor k d s = faultTold k d s := by
  have hr := (hs.removeEntry (c := .FAULT k) (by simp) d).1
  have hf := AlarmFrame.raiseDoor .DOOR_FAULT d (setLatch d k (Machine.removeEntry (.FAULT k) d s))
  exact forWaiting_of_deaf (hr.of_gru hf.gru) ..

theorem Deaf.faultDoor (hs : Deaf l s) (k : Latch) (d : DoorIx) : Deaf l (faultDoor k d s) ∧ Grown 9 s (faultDoor k d s) := by
  have hr := hs.removeEntry (c := .FAULT k) (by simp) d
  have hf := AlarmFrame.raiseDoor .DOOR_FAULT d (setLatch d k (Machine.removeEntry (.FAULT k) d s))
  rw [faultDoor_of_deaf hs]
  exact ⟨hr.1.of_gru hf.gru, hr.2.trans (n := 1) ((Grown.raiseAlarm ..).after rfl)⟩

/-- What a fault leaves of a door's entry, of its latch and of the alarms. -/
structure FaultEnds (k : Latch) (d : DoorIx) (e : Entry) (s t : State) : Prop extends RunFrame s t where
  gone : t.entry d = none
  claims : ∀ x : DoorIx, x ≠ d → claimOf t x = claimOf s x
  moving : e.phase = .MOVING → Passed s t (s.hpuOf d) (schedWithout s d)
  told : ∀ b : State, Prior 22 b s → Told b t (faultedBy e.tag)
  sups : ∀ x : DoorIx, t.ms.doors[x] = if d = x then { s.ms.doors[x] with latch := k } else s.ms.doors[x]
  stopped : k = .WRONG_WAY → Pending t d .STOP
  standing : HasSpare s .DOOR_FAULT d.val → Standing t .DOOR_FAULT d.val
  oas : t.mc.oas = s.mc.oas
  others : ∀ x : DoorIx, x ≠ d → t.passage x = s.passage x
  opened : e.direction = .OPEN → t.passage d = s.passage d
  closed : e.direction = .CLOSE → t.passage d = (s.passage d).filter fun x => decide (x.phase ≠ .RECLOSING) || !x.demanded
  alarms : OnlyAlarms s t [(.PASSAGE_OVERDUE, d.val), (.ADMISSION_DELAY, (s.hpuOf d).val), (.TRAVEL_OVERTIME, d.val),
    (.DOOR_FAULT, d.val)]
  overtime : AlarmLaw s → Cleared t .TRAVEL_OVERTIME d.val
  lasting : Lasting s t

theorem faultEnds (he : s.entry d = some e) (k : Latch) : FaultEnds k d e s (faultTold k d s) := by
  have hr := removed he (.FAULT k)
  have hf := AlarmFrame.raiseDoor .DOOR_FAULT d (setLatch d k (removeEntry (.FAULT k) d s))
  have hl : AlarmFrame (removeEntry (.FAULT k) d s) (setLatch d k (removeEntry (.FAULT k) d s)) := .modSup ..
  have hms : (faultTold k d s).ms = (setLatch d k (removeEntry (.FAULT k) d s)).ms := ms_raiseAlarm ..
  have hcs : (faultTold k d s).cs = (removeEntry (.FAULT k) d s).cs := hf.cs
  have hentry (x : DoorIx) : (faultTold k d s).entry x = (removeEntry (.FAULT k) d s).entry x := entry_congr (by rw [hcs]) x
  have hpassage (x : DoorIx) : (faultTold k d s).passage x = (removeEntry (.FAULT k) d s).passage x :=
    passage_of_mc_passages (by rw [hf.mc]; rfl) x
  have honly := onlyAlarms_raiseAlarm .DOOR_FAULT d.val (setLatch d k (removeEntry (.FAULT k) d s))
  refine { toRunFrame := (hr.toRunFrame.trans hl.toRunFrame).trans hf.toRunFrame, gone := (hentry d).trans hr.gone,
           claims := fun x hx => ?_, moving := fun hph => ?_, told := fun b hb => ?_, sups := fun x => ?_, stopped := fun hk => ?_,
           standing := fun hspare => ?_, oas := ?_, others := fun x hx => (hpassage x).trans (hr.others x hx),
           opened := fun h => (hpassage d).trans (hr.opened h), closed := fun h => (hpassage d).trans (hr.closed h), alarms := ?_,
           overtime := fun hlaw => ?_, lasting := ?_ }
  · unfold claimOf
    rw [hentry]
    exact hr.claims x hx
  · exact hcs.trans (hr.moving hph)
  · exact Told.mono (hr.told (by simp) .faulted rfl b hb) hf.gru ((Lasting.raiseAlarm ..).after rfl)
  · rw [hms]
    show ((removeEntry (.FAULT k) d s).modSup d _).ms.doors[x] = _
    rw [sup_modSup, hr.ms]
  · show _ ∈ (faultTold k d s).rc.orders
    rw [hf.rc]
    exact hr.ordered .STOP (by simp [RemovalCause.order, hk])
  · refine standing_raiseAlarm ?_
    obtain hroom | ⟨r, hmem, hpair⟩ := hspare
    · exact .inl (lt_of_le_of_lt hr.count (by omega))
    · exact .inr ⟨r, hr.alarms.1 r hmem (by rw [hpair]; simp) (by rw [show r.kind = .DOOR_FAULT from congrArg Prod.fst hpair]; decide), hpair⟩
  · rw [hf.mc]; exact hr.oas
  · exact onlyAlarms_trans (onlyAlarms_mono hr.alarms (by simp)) (onlyAlarms_mono honly (by simp))
  · exact cleared_of_onlyAlarms honly (by simp) (by decide) (hr.overtime hlaw)
  · exact hr.lasting.trans ((Lasting.raiseAlarm ..).after rfl)

theorem faulted_of_ends (h : FaultEnds k d e s t) (he : s.entry d = some e) (hph : e.phase = .MOVING) : Faulted s t d k := by
  have hsup := h.sups d
  rw [if_pos rfl] at hsup
  refine ⟨h.gone, fun f hf => ?_, h.moving hph, congrArg Supervision.latch hsup, h.standing, fun x hx => ⟨h.claims x hx, ?_⟩, hsup,
    h.orders, aside_of_block h.toBlockFrame⟩
  · rw [he] at hf
    cases hf
    exact h.told s (.refl 22 s)
  · rw [h.sups x, if_neg (Ne.symm hx)]

end

/-! ### The expiries of MS -/

theorem exec_startWindow {s : State} (h : Awake s) (d : DoorIx) :
    exec (.startWindowExpiry d) s = .next (settleRuns (onEntry Entry.windowOut d (windowExpires d) s)) := exec_awake h rfl

theorem exec_hardLimit {s : State} (h : Awake s) (d : DoorIx) :
    exec (.hardLimitExpiry d) s = .next (settleRuns (onEntry Entry.overdue d (fun _ => faultDoor .OVERTIME d) s)) :=
  exec_awake h rfl

/-- Settles O56. -/
theorem movementsTimeOut : Obligations.MovementsTimeOut := by
  unfold Obligations.MovementsTimeOut
  intro d s hs hsettled
  have settled {u : State} (hu : u.gru = s.gru) : settleRuns u = u := settleRuns_eq_self (by rw [hu]; exact hsettled.2)
  have hwindow := exec_startWindow hs d
  have hhard := exec_hardLimit hs d
  have fault {e : Entry} (he : s.entry d = some e) (hph : e.phase = .MOVING) (hdeaf : NoRunHears s) (k : Latch) :
      Faulted s (settleRuns (faultDoor k d s)) d k := by
    have hd := settled_deaf hdeaf hsettled
    rw [settleRuns_of_deaf (hd.faultDoor k d).1, faultDoor_of_deaf hd]
    exact faulted_of_ends (faultEnds he k) he hph
  refine ⟨fun hnot => ?_, fun hnot => ?_, fun e he hph hstarted hout => ⟨fun hrepeat => ?_, fun hrepeat hpos => ?_,
    fun hrepeat hpos hdeaf => ?_⟩, fun e he hph hlimit hdeaf => ?_⟩
  · rw [hwindow, onEntry_stands fun e he => ?_, settled rfl]
    have := hnot e he
    simp only [Entry.windowOut, Bool.and_eq_false_imp, Bool.and_eq_true, decide_eq_true_eq, Bool.not_eq_true', and_imp,
      decide_eq_false_iff_not]
    intro hph hst hw
    rcases this with h | h | h
    · exact h hph
    · rw [hst] at h; cases h
    · exact h hw
  · rw [hhard, onEntry_stands fun e he => ?_, settled rfl]
    have := hnot e he
    simp only [Entry.overdue, Bool.and_eq_false_imp, decide_eq_true_eq, decide_eq_false_iff_not]
    intro hph hle
    rcases this with h | h
    · exact h hph
    · omega
  all_goals
    have hentry : s.entry d = some e := he
  · have hran : e.windowOut = true := by simp [Entry.windowOut, hph, hstarted, hout]
    have hexec : exec (.startWindowExpiry d) s = .next (repeatMove d e s) := by
      rw [hwindow, onEntry_due hentry hran, windowExpires, if_pos hrepeat]
      exact congrArg _ (settled rfl)
    refine ends_of hexec ⟨(entry_setEntry ..).trans (if_pos rfl), fun x hx => (entry_setEntry ..).trans (if_neg (Ne.symm hx)), rfl,
      mem_queued_self .., rfl, rfl, rfl, rfl, rfl, rfl, rfl, rfl, rfl, fun _ => rfl, rfl⟩
  · have hran : e.windowOut = true := by simp [Entry.windowOut, hph, hstarted, hout]
    rw [hwindow, onEntry_due hentry hran, windowExpires, if_neg (by rw [hrepeat]; decide), if_pos hpos]
    exact congrArg _ (settled rfl)
  · have hran : e.windowOut = true := by simp [Entry.windowOut, hph, hstarted, hout]
    have hexec : exec (.startWindowExpiry d) s = .next (settleRuns (faultDoor .NOT_STARTED d s)) := by
      rw [hwindow, onEntry_due hentry hran, windowExpires, if_neg (by rw [hrepeat]; decide), if_neg hpos]
    exact ends_of hexec (fault hentry hph hdeaf _)
  · have hran : e.overdue = true := by simp [Entry.overdue, hph, hlimit]
    have hexec : exec (.hardLimitExpiry d) s = .next (settleRuns (faultDoor .OVERTIME d s)) := by
      rw [hhard, onEntry_due hentry hran]
    exact ends_of hexec (fault hentry hph hdeaf _)

end Sys2Proof.Proofs
end

section
/-! ## What the operations of the blocks carry

A relation that the frames placed and the alarms of the schedule, the passages and the runs meet, and every update beside them, is
met by every operation of the blocks up to the entry into EMERGENCY. It is shown once, for any such relation; that no frame but a
summary and a notice is lost, and that the records of the other kinds stand, are instances. -/
namespace Sys2Proof.Proofs
open Sys2Proof Sys2Proof.Machine

set_option Elab.async false

/-- The kinds of alarm that an operation of the schedule, the passages or the runs may raise or clear. -/
def blockKinds : List AlarmKind :=
  [.ADMISSION_DELAY, .PASSAGE_OVERDUE, .TRAVEL_OVERTIME, .PRECONDITION_BYPASSED, .LIST_FULL]

/-- A relation between an earlier and a later state that the parts of the schedule's own operations meet: those that send no
RUN_REPORT. -/
structure Borne (R : State → State → Prop) : Prop where
  refl : ∀ s, R s s
  trans : ∀ {s t u}, R s t → R t u → R s u
  quiet : ∀ {s t}, t.al = s.al → t.sp = s.sp → t.ms = s.ms → t.ib = s.ib → R s t
  raise : ∀ k x s, k ∈ blockKinds → R s (raiseAlarm k x s)
  event : ∀ x s, R s (raiseEvent .PRECONDITION_BYPASSED x s)
  clear : ∀ k x s, k ∈ blockKinds → R s (clearAlarm k x s)

/-- A relation that the frames placed, no summaries, meet besides. -/
structure Carried (R : State → State → Prop) : Prop extends Borne R where
  place : ∀ p f s, f.isSummary = false → R s (place p f s)

section
variable {R : State → State → Prop}

theorem Borne.ite (_ : Borne R) {p : Prop} [Decidable p] {s a b : State} (h : R s a) (g : R s b) : R s (if p then a else b) := by
  split
  · exact h
  · exact g

variable (c : Borne R)
include c

theorem Borne.after {s t u : State} (g : R t u) (hal : t.al = s.al) (hsp : t.sp = s.sp) (hms : t.ms = s.ms)
    (hib : t.ib = s.ib) : R s u := c.trans (c.quiet hal hsp hms hib) g

theorem Borne.forEach {ι : Type} {act : ι → State → State} (h : ∀ i s, R s (act i s)) (l : List ι) (s : State) :
    R s (forEach l act s) := forEach_rel c.refl c.trans h l s

theorem Borne.queueOrder (d : DoorIx) (k : OrderKind) (s : State) : R s (queueOrder d k s) := c.quiet rfl rfl rfl rfl
theorem Borne.queueOrder? (d : DoorIx) (k : Option OrderKind) (s : State) : R s (queueOrder? d k s) := by
  cases k with
  | none => exact c.refl s
  | some k => exact c.queueOrder d k s

/-! ### Admission -/

theorem Borne.evalDelay (h : HpuIx) (s : State) : R s (evalDelay h s) := by
  unfold Machine.evalDelay
  split
  · exact c.ite (c.refl s) (c.after (c.raise .ADMISSION_DELAY _ _ (by decide)) rfl rfl rfl rfl)
  · exact c.ite (c.after (c.clear .ADMISSION_DELAY _ _ (by decide)) rfl rfl rfl rfl) (c.refl s)

theorem Borne.admitDoor (d : DoorIx) (s : State) : R s (admitDoor d s) := by
  unfold Machine.admitDoor
  split
  · exact c.after (c.evalDelay ..) rfl rfl rfl rfl
  · exact c.refl s

theorem Borne.overtake (d : DoorIx) (s : State) : R s (overtake d s) := by
  unfold Machine.overtake
  split
  · exact c.quiet rfl rfl rfl rfl
  · exact c.refl s

theorem Borne.lookAhead (h : HpuIx) (head : DoorIx) (l : List DoorIx) (s : State) : R s (lookAhead h head l s) := by
  induction l generalizing s with
  | nil => exact c.refl s
  | cons d rest ih =>
    unfold Machine.lookAhead
    exact c.ite (c.refl s) (c.ite (c.trans (c.trans (c.admitDoor d s) (c.overtake ..)) (ih _)) (ih s))

theorem Borne.passWalk (h : HpuIx) (l : List DoorIx) (s : State) : R s (passWalk h l s) := by
  induction l generalizing s with
  | nil => exact c.refl s
  | cons d rest ih =>
    unfold Machine.passWalk
    exact c.ite (c.trans (c.admitDoor d s) (ih _)) (c.lookAhead ..)

theorem Borne.pass (h : HpuIx) (s : State) : R s (pass h s) := c.passWalk ..

theorem Borne.passes (l : List HpuIx) (s : State) : R s (Machine.forEach l Machine.pass s) := c.forEach (fun _ _ => c.pass ..) l s
theorem Borne.tests (l : List HpuIx) (s : State) : R s (Machine.forEach l Machine.evalDelay s) :=
  c.forEach (fun _ _ => c.evalDelay ..) l s

/-! ### Passages and runs -/

theorem Borne.endPassage (d : DoorIx) (s : State) : R s (endPassage d s) :=
  c.trans (t := s.dropPassage d) (c.quiet rfl rfl rfl rfl) (c.clear _ _ _ (by decide))

theorem Borne.recloseGone (d : DoorIx) (dir : Direction) (s : State) : R s (recloseGone d dir s) := by
  unfold Machine.recloseGone
  split
  · exact c.ite (c.endPassage ..) (c.refl s)
  · exact c.refl s

theorem Borne.endBeaten (m : Demand) (s : State) : R s (endBeaten m s) := c.ite (c.endPassage ..) (c.refl s)

/-! ### Requests and demands that displace no tag -/

theorem Borne.countTag (tag : Option RunTag) (fate : TagFate) (s : State) : R s (countTag tag fate s) := by
  cases tag with
  | none => exact c.refl s
  | some t => exact c.quiet rfl rfl rfl rfl

theorem Borne.request {act : DoorIx → State → State} (h : ∀ d s, R s (act d s)) (l : List DoorIx) (s : State) :
    R s (request act l s) := c.trans (c.forEach h l s) (c.passes ..)

theorem Borne.dropTag (d : DoorIx) (s : State) : R s (dropTag d s) := by
  unfold Machine.dropTag
  split
  · exact c.quiet rfl rfl rfl rfl
  · exact c.refl s

theorem Borne.detachTag (number : Byte) (s : State) : R s (detachTag number s) := c.request c.dropTag _ s

/-- The flush for LOCAL counts the tags of the entries it removes, and reports none (R102). -/
theorem Borne.takeOut_flush (d : DoorIx) (s : State) : R s (takeOut .FLUSH d s) := by
  unfold Machine.takeOut
  split
  · next e _ =>
    have flow : R s (if e.phase = .MOVING then
        s.modFlow (s.hpuOf d) fun f => { f with committed := f.committed - s.draw d } else s) :=
      c.ite (c.quiet rfl rfl rfl rfl) (c.refl s)
    refine c.trans (c.trans (c.trans flow (c.countTag e.tag .overruled _)) ?_) (c.recloseGone ..)
    exact c.trans (c.quiet (t := State.dropEntry _ d) rfl rfl rfl rfl) (c.queueOrder? ..)
  · exact c.refl s

theorem Borne.flush (s : State) : R s (flush s) := c.trans (c.request c.takeOut_flush _ s) (c.tests ..)

theorem Borne.abortRuns (s : State) : R s (abortRuns s) :=
  c.trans (c.forEach (fun (r : Run) u => c.detachTag r.number u) (liveRuns s) s) (c.quiet rfl rfl rfl rfl)

theorem Borne.arrived (d : DoorIx) (s : State) : R s (arrived d s) := by
  rw [arrived_eq]
  exact c.quiet rfl rfl rfl rfl

theorem Borne.enqueue (m : Demand) (s : State) : R s (enqueue m s) := by
  unfold Machine.enqueue
  simp only
  refine c.trans (c.arrived m.door s) (c.ite (c.after (c.queueOrder ..) rfl rfl rfl rfl) (c.after (c.pass ..) rfl rfl rfl rfl))

theorem Borne.merge (m : Demand) (e : Entry) (s : State) : R s (merge m e s) :=
  c.trans (c.quiet (t := s.setEntry m.door (e.merged m)) rfl rfl rfl rfl) (c.ite (c.pass ..) (c.refl _))

end

section
variable {R : State → State → Prop} (c : Carried R)
include c

/-! ### Runs -/

theorem Carried.sendReport (m : EndMark) (r : Run) (s : State) : R s (sendReport m r s) :=
  c.forEach (fun _ _ => c.place _ _ _ rfl) _ s

theorem Carried.resumeTop (i : SlotIx) (l : List Run) (s : State) : R s (resumeTop i l s) := by
  induction l generalizing s with
  | nil => exact c.quiet rfl rfl rfl rfl
  | cons r rest ih =>
    unfold Machine.resumeTop
    exact c.ite (c.trans (c.sendReport ..) (ih _)) (c.ite (c.quiet rfl rfl rfl rfl) (c.quiet rfl rfl rfl rfl))

theorem Carried.vacate (i : SlotIx) (s : State) : R s (vacate i s) :=
  c.ite (c.quiet rfl rfl rfl rfl) (c.after (c.resumeTop ..) rfl rfl rfl rfl)

theorem Carried.completeSlot (i : SlotIx) (s : State) : R s (completeSlot i s) := by
  unfold Machine.completeSlot
  split
  · exact c.ite (c.trans (c.sendReport ..) (c.vacate ..)) (c.refl s)
  · exact c.refl s

theorem Carried.completeRun (number : Byte) (s : State) : R s (completeRun number s) := by
  unfold Machine.completeRun completeStacked
  split
  · exact c.completeSlot ..
  · split
    · exact c.trans (c.sendReport ..) (c.quiet rfl rfl rfl rfl)
    · exact c.refl s

theorem Carried.reportTag (tag : Option RunTag) (fate : TagFate) (s : State) : R s (reportTag tag fate s) := by
  cases tag with
  | none => exact c.refl s
  | some t => exact c.trans (c.countTag (some t) fate s) (c.completeRun ..)

/-! ### Removal and requests -/

theorem Carried.report (k : RemovalCause) (tag : Option RunTag) (s : State) : R s (k.report tag s) := by
  unfold RemovalCause.report
  split
  · exact c.ite (c.countTag ..) (c.reportTag ..)
  · exact c.refl s

theorem Carried.takeOut (k : RemovalCause) (d : DoorIx) (s : State) : R s (takeOut k d s) := by
  unfold Machine.takeOut
  split
  · next e _ =>
    have flow : R s (if e.phase = .MOVING then
        s.modFlow (s.hpuOf d) fun f => { f with committed := f.committed - s.draw d } else s) :=
      c.ite (c.quiet rfl rfl rfl rfl) (c.refl s)
    refine c.trans (c.trans (c.trans flow (c.report k e.tag _)) ?_) (c.recloseGone ..)
    exact c.trans (c.quiet (t := State.dropEntry _ d) rfl rfl rfl rfl) (c.queueOrder? ..)
  · exact c.refl s

theorem Carried.removeEntry (k : RemovalCause) (d : DoorIx) (s : State) : R s (removeEntry k d s) := by
  unfold Machine.removeEntry
  split
  · exact c.trans (c.trans (c.trans (c.takeOut k d s) (c.ite (c.refl _) (c.pass ..))) (c.ite (c.evalDelay ..) (c.refl _)))
      (c.clear _ _ _ (by decide))
  · exact c.refl s

theorem Carried.removeAll (k : RemovalCause) (l : List DoorIx) (s : State) : R s (removeAll k l s) :=
  c.trans (c.request (c.takeOut k) l s) (c.tests ..)

theorem Carried.cancelTag (number : Byte) (s : State) : R s (cancelTag number s) := by
  refine c.trans (c.request (fun d s => ?_) _ s) (c.tests ..)
  unfold cancelOne
  split
  · exact c.ite (c.dropTag ..) (c.takeOut ..)
  · exact c.refl s

/-! ### Demands -/

theorem Carried.replace (m : Demand) (e : Entry) (s : State) : R s (replace m e s) := by
  unfold Machine.replace
  simp only
  refine c.trans (c.trans ?_ (c.pass ..)) (c.ite (c.evalDelay ..) (c.refl _))
  refine c.trans (c.trans ?_ (c.arrived m.door _)) (c.after (c.queueOrder? ..) rfl rfl rfl rfl)
  exact c.trans (c.trans (c.endBeaten m s) (c.recloseGone ..)) (c.reportTag ..)

theorem Carried.reverseEntry (m : Demand) (e : Entry) (s : State) : R s (reverseEntry m e s) :=
  c.trans (c.reportTag ..) (c.quiet rfl rfl rfl rfl)

theorem Carried.reverse (m : Demand) (e : Entry) (s : State) : R s (reverse m e s) :=
  c.trans (c.trans (c.trans (c.endBeaten m s) (c.recloseGone ..)) (c.reverseEntry m e _)) (c.ite (c.pass ..) (c.refl _))

theorem Carried.decideDemand (m : Demand) (s : State) : R s (decideDemand m s).2 := by
  unfold Machine.decideDemand
  split
  · exact c.refl s
  split
  · exact c.refl s
  split
  · exact c.refl s
  unfold decideClaims
  split
  · split
    · exact c.merge ..
    split
    · split
      · exact c.reverse ..
      · exact c.replace ..
    · exact c.refl s
  · split
    · unfold settleDemand
      split
      · exact c.endBeaten ..
      · exact c.trans (c.endBeaten m s) (c.enqueue ..)
    · exact c.refl s

/-! ### Walks and looks -/

theorem Carried.advance (i : SlotIx) (s : State) : R s (advance i s) := by
  unfold Machine.advance
  split
  · exact c.after (c.completeSlot ..) rfl rfl rfl rfl
  · exact c.refl s

theorem Carried.submitAt (i : SlotIx) (s : State) : R s (submitAt i s) := by
  unfold Machine.submitAt
  split
  · next r _ =>
    split
    · next d _ =>
      exact c.trans (c.decideDemand (r.demand d) s) (c.after (c.advance i _) rfl rfl rfl rfl)
    · exact c.advance i s
  · exact c.refl s

theorem Carried.raiseBypass (r : Run) (s : State) : R s (raiseBypass r s) := by
  unfold Machine.raiseBypass
  split
  · exact c.event ..
  · exact c.refl s

theorem Carried.bypassAt (i : SlotIx) (s : State) : R s (bypassAt i s) := by
  unfold Machine.bypassAt
  split
  · exact c.trans (c.raiseBypass ..) (c.submitAt ..)
  · exact c.refl s

theorem Carried.takeListEntry (i : SlotIx) (age : Nat) (s : State) : R s (takeListEntry i age s) := by
  unfold Machine.takeListEntry
  split
  · split
    · split
      · exact c.submitAt ..
      · exact c.bypassAt ..
      · unfold setStage
        split
        · exact c.quiet rfl rfl rfl rfl
        · exact c.refl s
    · exact c.submitAt ..
  · exact c.refl s

theorem Carried.walkStep (i : SlotIx) (s : State) : R s (walkStep i s) := c.ite (c.takeListEntry ..) (c.refl s)

theorem Carried.lookAgain (i : SlotIx) (s : State) : R s (lookAgain i s) := by
  unfold Machine.lookAgain
  split
  · exact c.takeListEntry ..
  · exact c.refl s

theorem Carried.settleOne (s : State) : R s (settleOne s) := by
  unfold Machine.settleOne
  split
  · exact c.ite (c.after (c.lookAgain ..) rfl rfl rfl rfl) (c.quiet rfl rfl rfl rfl)
  · exact c.refl s

theorem Carried.settleRuns (s : State) : R s (settleRuns s) := c.forEach (fun _ _ => c.settleOne _) _ s

theorem Carried.forWaiting (d : DoorIx) {act : SlotIx → State → State} (h : ∀ i s, R s (act i s)) (s : State) :
    R s (forWaiting d act s) := c.forEach h _ s

theorem Carried.pokeRuns (d : DoorIx) (s : State) : R s (pokeRuns d s) := by
  refine c.forWaiting d (fun i u => ?_) s
  unfold hearPresentation
  split
  · exact c.ite (c.submitAt ..) (c.ite (c.bypassAt ..) (c.refl u))
  · exact c.refl u

theorem Carried.bypassWaits (d : DoorIx) (s : State) : R s (bypassWaits d s) := c.forWaiting d (fun _ _ => c.bypassAt ..) s

theorem Carried.cancelRun (r : Run) (s : State) : R s (cancelRun r s) := by
  unfold Machine.cancelRun
  have told := c.trans (c.cancelTag r.number s) (c.sendReport .CANCELLED r _)
  split
  · exact c.trans told (c.vacate ..)
  · exact c.trans told (c.quiet rfl rfl rfl rfl)

/-! ### Launches and mode entries -/

theorem Carried.takeSlot (i : SlotIx) (g : GroupRef) (dir : Direction) (cls : Nat) (x : SourceGroup) (o : RunOrigin) (s : State) :
    R s (takeSlot i g dir cls x o s) := c.ite (c.quiet rfl rfl rfl rfl) (c.quiet rfl rfl rfl rfl)

theorem Carried.launchSystem (cls : Nat) (o : RunOrigin) (s : State) : R s (launchSystem cls o s) := by
  unfold Machine.launchSystem
  refine c.trans (c.settleRuns s) ?_
  simp only
  split
  · exact c.trans (c.detachTag ..) (c.takeSlot ..)
  · exact c.takeSlot ..

theorem Carried.takePassage (d : DoorIx) (s : State) : R s (takePassage d s) := by
  unfold Machine.takePassage
  split
  · exact c.ite (c.refl s) (c.trans (c.endPassage d s) (c.decideDemand ..))
  · exact c.refl s

theorem Carried.raiseForEmergency (s : State) : R s (raiseForEmergency s) := by
  refine c.request (fun d u => ?_) _ s
  unfold raiseEntry
  split
  · exact c.quiet rfl rfl rfl rfl
  · exact c.refl u

theorem Carried.reverseForEmergency (o : Origin) (s : State) : R s (reverseForEmergency o s) := by
  refine c.request (fun d u => ?_) _ s
  unfold reverseOne
  split
  · exact c.reverseEntry ..
  · exact c.refl u

theorem Carried.enterEmergency (k : EmergencyCause) (s : State) : R s (enterEmergency k s) := by
  unfold Machine.enterEmergency
  refine c.trans (c.trans ?_ (c.forEach (fun _ _ => c.takePassage ..) _ _)) (c.launchSystem ..)
  exact c.trans (c.trans (c.after (c.raiseForEmergency (Machine.setMode .EMERGENCY s)) rfl rfl rfl rfl) (c.removeAll ..)) (c.reverseForEmergency ..)

theorem Carried.enterClosedFromLocal (s : State) : R s (enterClosedFromLocal s) :=
  c.after (c.launchSystem ..) rfl rfl rfl rfl

end

/-! ### Instances -/

/-- No operation of the blocks loses a frame but a summary or a notice. -/
theorem carried_lasting : Carried Lasting where
  refl := .refl
  trans := .trans
  quiet _ hsp _ _ := .of_sp hsp
  place p f s _ := .place p f s
  raise k x s _ := .raiseAlarm k x s
  event x s := .raiseEvent _ x s
  clear k x s _ := .clearAlarm k x s

/-- The records of every kind but those of the schedule, the passages and the runs stand. -/
def OthersStand (s t : State) : Prop := ∀ r : AlarmRecord, r.kind ∉ blockKinds → (r ∈ t.al.records ↔ r ∈ s.al.records)

theorem othersStand_of_onlyAlarms {s t : State} {k : AlarmKind} {x : Nat} (h : OnlyAlarms s t [(k, x)]) (hk : k ∈ blockKinds) :
    OthersStand s t := fun r hr => by
  have hpair : r.pair ∉ [(k, x)] := by
    rw [List.mem_singleton]
    exact fun he => hr (by rw [show r.kind = k from congrArg Prod.fst he]; exact hk)
  have hfull : r.kind ≠ .LIST_FULL := fun he => hr (he ▸ by decide)
  exact ⟨fun hm => h.2 r hm hpair hfull, fun hm => h.1 r hm hpair hfull⟩

theorem OthersStand.trans {s t u : State} (h : OthersStand s t) (g : OthersStand t u) : OthersStand s u :=
  fun r hr => (g r hr).trans (h r hr)
theorem OthersStand.of_al {s t : State} (h : t.al = s.al) : OthersStand s t := fun _ _ => by rw [h]

/-- No operation of the blocks touches a record of another kind. -/
theorem carried_othersStand : Carried OthersStand where
  refl _ := .of_al rfl
  trans := .trans
  quiet hal _ _ _ := .of_al hal
  place _ _ _ _ := .of_al (PlaceFrame.place ..).al
  raise k x s hk := othersStand_of_onlyAlarms (onlyAlarms_raiseAlarm k x s) hk
  event x s := othersStand_of_onlyAlarms (onlyAlarms_raiseEvent .PRECONDITION_BYPASSED x s) (by decide)
  clear k x s hk := othersStand_of_onlyAlarms (onlyAlarms_clearAlarm k x s) hk

/-- No operation of the blocks touches a supervision record: none clears DOOR_FAULT. -/
theorem carried_ms : Carried fun s t => t.ms = s.ms where
  refl _ := rfl
  trans h g := g.trans h
  quiet _ _ hms _ := hms
  place _ _ _ _ := (PlaceFrame.place ..).ms
  raise _ _ _ _ := ms_raiseAlarm ..
  event _ _ := ms_raiseEvent ..
  clear k _ _ hk := ms_clearAlarm fun he => by rw [he] at hk; exact absurd hk (by decide)

/-- The schedule's own operations place notices alone. -/
theorem borne_joined : Borne (QueuesJoined IsNotice) where
  refl := .refl
  trans := .trans
  quiet _ hsp _ _ := .of_sp hsp
  raise _ _ _ _ := raiseAlarm_joined ..
  event _ _ := raiseEvent_joined ..
  clear _ _ _ _ := clearAlarm_joined ..

theorem filter_eraseP_of_disjoint {α : Type} {P R : α → Bool} (h : ∀ x, P x = true → R x = false) (l : List α) :
    (l.eraseP P).filter R = l.filter R := by
  induction l with
  | nil => rfl
  | cons x rest ih =>
    cases hp : P x with
    | true => simp [List.eraseP_cons_of_pos hp, h x hp]
    | false => rw [List.eraseP_cons_of_neg (by simp [hp]), List.filter_cons, List.filter_cons, ih]

/-- The RUN_REPORT frames of a queue stand under the placing of a frame of another kind: the frame that gives way is a summary or
a notice. -/
theorem reports_placedIn {f : Frame} (h : f.kind ≠ .RUN_REPORT) (q : List Frame) :
    (placedIn f q).filter (fun g => decide (g.kind = .RUN_REPORT)) = q.filter fun g => decide (g.kind = .RUN_REPORT) := by
  have hlast (l : List Frame) : (l ++ [f]).filter (fun g => decide (g.kind = .RUN_REPORT))
      = l.filter fun g => decide (g.kind = .RUN_REPORT) := by simp [h]
  have hsummary : ∀ g : Frame, g.isSummary = true → decide (g.kind = .RUN_REPORT) = false := fun g hg => by
    simp [Frame.isSummary] at hg; simp [hg]
  have hnotice : ∀ g : Frame, g.isNotice = true → decide (g.kind = .RUN_REPORT) = false := fun g hg => by
    simp [Frame.isNotice] at hg; simp [hg]
  unfold placedIn placing
  by_cases hroom : q.length < queueSize
  · simp only [if_pos hroom, hlast]
  · cases hs : q.any Frame.isSummary with
    | true => simp only [if_neg hroom, if_true, hlast, filter_eraseP_of_disjoint hsummary]
    | false =>
      cases hn : q.any Frame.isNotice with
      | true => simp only [if_neg hroom, if_true, Bool.false_eq_true, if_false, hlast, filter_eraseP_of_disjoint hnotice]
      | false => simp only [if_neg hroom, Bool.false_eq_true, if_false]

theorem reportsAt_of_joined {s t : State} (h : QueuesJoined IsNotice s t) (q : PortIx) : reportsAt t q = reportsAt s q := by
  have hq := h.port q
  unfold reportsAt
  generalize t.sp[q].queue = l at *
  induction hq with
  | refl => rfl
  | tail _ hf ih => rw [reports_placedIn (by rw [hf]; simp), ih]

section
variable {s t : State} {k : AlarmKind} {x : Nat}

theorem OthersStand.standing (h : OthersStand s t) (hk : k ∉ blockKinds) : Standing t k x ↔ Standing s k x := by
  have each : ∀ r : AlarmRecord, r.pair = (k, x) → (r ∈ t.al.records ↔ r ∈ s.al.records) :=
    fun r hr => h r (by rw [show r.kind = k from congrArg Prod.fst hr]; exact hk)
  exact ⟨fun ⟨r, hm, hp, hs⟩ => ⟨r, (each r hp).mp hm, hp, hs⟩, fun ⟨r, hm, hp, hs⟩ => ⟨r, (each r hp).mpr hm, hp, hs⟩⟩

theorem OthersStand.cleared (h : OthersStand s t) (hk : k ∉ blockKinds) (hs : Cleared s k x) : Cleared t k x :=
  fun r hr hkind => hs r ((h r (by rw [hkind]; exact hk)).mp hr) hkind

theorem OthersStand.mem (h : OthersStand s t) (hk : k ∉ blockKinds) {r : AlarmRecord} (hr : r.pair = (k, x)) :
    r ∈ t.al.records ↔ r ∈ s.al.records := h r (by rw [show r.kind = k from congrArg Prod.fst hr]; exact hk)

end

end Sys2Proof.Proofs
end

section
/-! ## Requests of the schedule: passes, detached tags, and the launch of a system run -/
namespace Sys2Proof.Proofs
open Sys2Proof Sys2Proof.Machine

set_option Elab.async false

section
variable {s t u : State} {d x : DoorIx} {e : Entry} {h : HpuIx}

theorem phaseOf_eq (he : s.entry d = some e) : phaseOf s d = some e.phase := by unfold phaseOf; rw [he]; rfl
theorem claimOf_eq (he : s.entry d = some e) : claimOf s d = some e.claim := by unfold claimOf; rw [he]; rfl

theorem entryIn_ready_eq_false (hd : phaseOf s d ≠ some .READY) : entryIn s h .READY d = false := by
  cases hin : entryIn s h .READY d with
  | false => rfl
  | true =>
    obtain ⟨e, he, hph, -⟩ := entry_of_entryIn hin
    exact absurd ((phaseOf_eq he).trans (congrArg some hph)) hd

/-! ### What passes and tests leave (R48, R55, R60) -/

/-- What a row of admission passes and delay tests leaves: READY entries may be taken into movement, and nothing else is done to an entry. -/
structure Passing (s t : State) : Prop extends ScheduleFrame s t where
  ms : t.ms = s.ms
  claims : ∀ d : DoorIx, claimOf t d = claimOf s d
  idle : ∀ d : DoorIx, phaseOf s d ≠ some .READY → t.entry d = s.entry d
  ready : ∀ d : DoorIx, phaseOf s d = some .READY → phaseOf t d = some .READY ∨ phaseOf t d = some .MOVING
  otherOrders : ∀ o : PendingOrder, phaseOf s o.door ≠ some .READY → (o ∈ t.rc.orders ↔ o ∈ s.rc.orders)

theorem Passing.refl (s : State) : Passing s s :=
  ⟨.refl s, rfl, fun _ => rfl, fun _ _ => rfl, fun _ h => .inl h, fun _ _ => Iff.rfl⟩

theorem Passing.phase (h : Passing s t) (hd : phaseOf s d ≠ some .READY) : phaseOf t d = phaseOf s d := by
  unfold phaseOf
  rw [h.idle d hd]

theorem Passing.trans (h : Passing s t) (g : Passing t u) : Passing s u where
  toScheduleFrame := h.toScheduleFrame.trans g.toScheduleFrame
  ms := g.ms.trans h.ms
  claims d := (g.claims d).trans (h.claims d)
  idle d hd := (g.idle d (by rw [h.phase hd]; exact hd)).trans (h.idle d hd)
  ready d hd := by
    rcases h.ready d hd with hr | hm
    · exact g.ready d hr
    · exact .inr ((g.phase (by rw [hm]; simp)).trans hm)
  otherOrders o ho := (g.otherOrders o (by rw [h.phase ho]; exact ho)).trans (h.otherOrders o ho)

theorem Passing.pass (h : HpuIx) (s : State) : Passing s (pass h s) where
  toScheduleFrame := .pass ..
  ms := ms_pass ..
  claims := claimOf_pass h s
  idle _ hd := entry_pass_of_not_ready (entryIn_ready_eq_false hd)
  ready d hd := by
    obtain ⟨e, he, hph⟩ := Option.map_eq_some_iff.mp hd
    exact (pass_ready he hph).imp id And.left
  otherOrders _ ho := pass_orders_of_not_ready (entryIn_ready_eq_false ho)

theorem Passing.evalDelay (h : HpuIx) (s : State) : Passing s (evalDelay h s) where
  toScheduleFrame := .evalDelay ..
  ms := evalDelay_ms ..
  claims d := by unfold claimOf; rw [evalDelay_entry]
  idle d _ := evalDelay_entry ..
  ready d hd := .inl (by unfold phaseOf at *; rw [evalDelay_entry]; exact hd)
  otherOrders o _ := by rw [evalDelay_rc]

theorem Passing.forEach {ι : Type} {act : ι → State → State} (h : ∀ i s, Passing s (act i s)) (l : List ι) (s : State) :
    Passing s (forEach l act s) := forEach_rel .refl .trans h l s

theorem Passing.passes (l : List HpuIx) (s : State) : Passing s (Machine.forEach l Machine.pass s) := .forEach .pass l s
theorem Passing.tests (l : List HpuIx) (s : State) : Passing s (Machine.forEach l Machine.evalDelay s) := .forEach .evalDelay l s

/-! ### Entries rewritten door by door -/

/-- Rewrite a door's entry, if it has one. -/
def rewriteEntry (f : Entry → Entry) (d : DoorIx) (s : State) : State :=
  match s.entry d with
  | some e => s.setEntry d (f e)
  | none => s

theorem entry_rewriteEntry (f : Entry → Entry) (d x : DoorIx) (s : State) :
    (rewriteEntry f d s).entry x = if d = x then (s.entry x).map f else s.entry x := by
  unfold rewriteEntry
  cases he : s.entry d with
  | some e =>
    simp only [entry_setEntry]
    split
    · next hdx => subst hdx; rw [he]; rfl
    · rfl
  | none =>
    simp only
    split
    · next hdx => subst hdx; rw [he]; rfl
    · rfl

/-- Only the entries change. -/
theorem forEach_rewriteEntry_entries (f : Entry → Entry) (l : List DoorIx) (s : State) :
    ∃ v, forEach l (rewriteEntry f) s = { s with cs := { s.cs with entries := v } } := by
  induction l generalizing s with
  | nil => exact ⟨_, rfl⟩
  | cons d rest ih =>
    have hone : ∃ v, rewriteEntry f d s = { s with cs := { s.cs with entries := v } } := by
      unfold rewriteEntry
      split <;> exact ⟨_, rfl⟩
    obtain ⟨v, hv⟩ := hone
    obtain ⟨w, hw⟩ := ih (rewriteEntry f d s)
    exact ⟨w, hw.trans (by rw [hv])⟩

theorem forEach_rewriteEntry_eq (f : Entry → Entry) (l : List DoorIx) (s : State) :
    forEach l (rewriteEntry f) s = { s with cs := { s.cs with entries := (forEach l (rewriteEntry f) s).cs.entries } } := by
  obtain ⟨v, hv⟩ := forEach_rewriteEntry_entries f l s
  rw [hv]

theorem entry_forEach_rewriteEntry {f : Entry → Entry} (hf : ∀ e, f (f e) = f e) (l : List DoorIx) (s : State) (x : DoorIx) :
    (forEach l (rewriteEntry f) s).entry x = if x ∈ l then (s.entry x).map f else s.entry x := by
  induction l generalizing s with
  | nil => rfl
  | cons d rest ih =>
    show (forEach rest (rewriteEntry f) (rewriteEntry f d s)).entry x = _
    rw [ih, entry_rewriteEntry]
    by_cases hd : d = x
    · subst hd
      cases s.entry d <;> simp [hf]
    · rw [if_neg hd]
      simp [Ne.symm hd]

/-! ### The detach of a tag (R48) -/

/-- The entry without its tag. -/
def untagged (e : Entry) : Entry := { e with tag := none }

/-- The entry as the detach of a run number leaves it. -/
def detached (n : Byte) (d : DoorIx) (e : Entry) : Entry := if tagged n d e = true then untagged e else e

@[simp] theorem detached_phase (n : Byte) (d : DoorIx) (e : Entry) : (detached n d e).phase = e.phase := by
  unfold detached; split <;> rfl

theorem dropTag_eq : dropTag = rewriteEntry untagged := by
  funext d s
  unfold dropTag rewriteEntry untagged
  rfl

/-- What the detach of a run number leaves: its tag is gone from every entry, and passes have been taken. -/
structure Detached (n : Byte) (s t : State) : Prop extends ScheduleFrame s t where
  ms : t.ms = s.ms
  claims : ∀ d : DoorIx, claimOf t d = (s.entry d).map fun e => (detached n d e).claim
  idle : ∀ d : DoorIx, phaseOf s d ≠ some .READY → t.entry d = (s.entry d).map (detached n d)
  ready : ∀ d : DoorIx, phaseOf s d = some .READY → phaseOf t d = some .READY ∨ phaseOf t d = some .MOVING
  otherOrders : ∀ o : PendingOrder, phaseOf s o.door ≠ some .READY → (o ∈ t.rc.orders ↔ o ∈ s.rc.orders)

theorem entry_dropTags (n : Byte) (s : State) (d : DoorIx) :
    (forEach (matching s (tagged n)) dropTag s).entry d = (s.entry d).map (detached n d) := by
  rw [dropTag_eq, entry_forEach_rewriteEntry (f := untagged) (fun _ => rfl)]
  cases he : s.entry d with
  | none => simp
  | some e =>
    simp only [mem_matching, he, Option.some.injEq, exists_eq_left', Option.map_some]
    unfold detached
    split <;> rfl

theorem detachTag_detached (n : Byte) (s : State) : Detached n s (detachTag n s) := by
  have hentry := entry_dropTags n s
  have heq := forEach_rewriteEntry_eq untagged (matching s (tagged n)) s
  rw [← dropTag_eq] at heq
  have hpass : Passing (forEach (matching s (tagged n)) dropTag s) (detachTag n s) := .passes ..
  have hframe : ScheduleFrame s (detachTag n s) := by
    refine ScheduleFrame.trans (.forEach (fun d u => ?_) _ _) hpass.toScheduleFrame
    unfold dropTag
    split
    · exact .setEntry ..
    · exact .refl u
  have hphase : ∀ d, phaseOf (forEach (matching s (tagged n)) dropTag s) d = phaseOf s d := fun d => by
    unfold phaseOf
    rw [hentry, Option.map_map]
    cases s.entry d <;> simp
  refine { toScheduleFrame := hframe, ms := hpass.ms.trans (by rw [heq]), claims := fun d => ?_, idle := fun d hd => ?_,
           ready := fun d hd => hpass.ready d (by rw [hphase]; exact hd), otherOrders := fun o ho => ?_ }
  · rw [hpass.claims, claimOf, hentry, Option.map_map]
    rfl
  · rw [hpass.idle d (by rw [hphase]; exact hd), hentry]
  · rw [hpass.otherOrders o (by rw [hphase]; exact ho), heq]

/-! ### The launch of a system run (R101) -/

theorem numberHeld_congr (hslots : t.gru.slots = s.gru.slots) (hstack : t.gru.stack = s.gru.stack) (n : Byte) :
    numberHeld t n = numberHeld s n := by
  unfold numberHeld liveRuns
  rw [hslots, hstack]

theorem nextNumber_of_gru (h : t.gru = s.gru) : nextNumber t = nextNumber s :=
  nextNumber_congr (numberHeld_congr (by rw [h]) (by rw [h])) (by rw [h])

theorem takeSystemSlot_eq (cls : Nat) (o : RunOrigin) (s : State) :
    takeSlot slotS .ALL .CLOSE cls .A o s = { s with gru := { s.gru with
      slots := s.gru.slots.set slotS (some (newRun slotS .ALL .CLOSE cls .A o (nextNumber s)))
      counter := nextNumber s + 1 } } := by
  unfold takeSlot
  rw [if_pos rfl]
  rfl

/-- R101: what a launch leaves where no resumed run waits for its look. -/
structure LaunchEnds (cls : Nat) (o : RunOrigin) (s t : State) : Prop extends BlockFrame s t where
  gru : t.gru = { s.gru with slots := s.gru.slots.set slotS (some (newRun slotS .ALL .CLOSE cls .A o (nextNumber s)))
                             counter := nextNumber s + 1 }
  claims : ∀ d : DoorIx, claimOf t d = (s.entry d).map (claimLess s)
  idle : ∀ d : DoorIx, phaseOf s d ≠ some .READY → t.entry d = (s.entry d).map fun e =>
    match s.gru.slots[slotS] with
    | some r => detached r.number d e
    | none => e
  otherOrders : ∀ o : PendingOrder, phaseOf s o.door ≠ some .READY → (o ∈ t.rc.orders ↔ o ∈ s.rc.orders)
  ms : t.ms = s.ms
  mc : t.mc = s.mc

theorem claimLess_of_none (h : s.gru.slots[slotS] = none) (e : Entry) : claimLess s e = e.claim := by
  unfold claimLess
  rw [h]

theorem claimLess_of_some {r : Run} (h : s.gru.slots[slotS] = some r) (d : DoorIx) (e : Entry) :
    claimLess s e = (detached r.number d e).claim := by
  unfold claimLess detached tagged untagged
  rw [h]
  cases e.tag with
  | none => rfl
  | some x => simp only [decide_eq_true_eq]; split <;> rfl

theorem launchSystem_ends (cls : Nat) (o : RunOrigin) (hsettled : s.gru.resumed = []) :
    LaunchEnds cls o s (launchSystem cls o s) := by
  have hblock := BlockFrame.launchSystem cls o s
  unfold launchSystem at *
  rw [settleRuns_eq_self hsettled] at *
  simp only at *
  cases hslot : s.gru.slots[slotS] with
  | none =>
    rw [hslot] at hblock
    simp only [takeSystemSlot_eq] at *
    refine { toBlockFrame := hblock, gru := rfl, claims := fun d => ?_, idle := fun d _ => ?_, otherOrders := fun _ _ => Iff.rfl,
             ms := rfl, mc := rfl }
    · exact Option.map_congr fun e _ => (claimLess_of_none hslot e).symm
    · rw [hslot]
      exact Option.map_id'.symm
  | some r =>
    rw [hslot] at hblock
    have hdet := detachTag_detached r.number s
    have hnumber := nextNumber_of_gru hdet.gru
    simp only [takeSystemSlot_eq] at *
    refine { toBlockFrame := hblock, gru := ?_, claims := fun d => ?_, idle := fun d hd => ?_,
             otherOrders := fun o ho => hdet.otherOrders o ho, ms := hdet.ms, mc := hdet.mc }
    · simp only [hnumber, hdet.gru]
    · exact (hdet.claims d).trans (Option.map_congr fun e _ => (claimLess_of_some hslot d e).symm)
    · rw [hslot]
      exact hdet.idle d hd

theorem launched_of_ends {cls : Nat} {o : RunOrigin} (h : LaunchEnds cls o s t) : Launched s t cls o :=
  ⟨h.gru, h.claims, h.ms, h.orders⟩

/-- R101: whatever stood before, slot S holds the new run. -/
theorem launchSystem_slot (cls : Nat) (o : RunOrigin) (s : State) :
    ((launchSystem cls o s).gru.slots[slotS]).map (fun r => { r with number := 0 }) = some (newRun slotS .ALL .CLOSE cls .A o 0) := by
  unfold launchSystem
  simp only
  split <;> (rw [takeSystemSlot_eq]; simp [newRun])

end

end Sys2Proof.Proofs
end

section
/-! ## MODE_SET requesting CLOSED, and bridge loss -/
namespace Sys2Proof.Proofs
open Sys2Proof Sys2Proof.Machine

set_option Elab.async false

/-! ### MODE_SET requesting CLOSED (R106, R109) -/

theorem exec_modeSetClosed {s : State} {p : PortIx} (h : Operates s p [.BRIDGE]) :
    exec (.modeSetClosed p) s = .next (requestClosed p (acceptFrame p s)) :=
  (exec_awake h.1 rfl).trans (congrArg _ (decide_operating _ h))

/-- The answer to a command that left the part at `u`. -/
theorem aside_of_answer {s u : State} (h : BlockFrame s u) (p : PortIx) (kind : Nat) (c : Bool) (data : List Byte) :
    Aside s (answerDone p kind c data u) :=
  aside_of_block (h.trans (frame_answerDone p kind c data u).toBlockFrame)

/-- Settles O24: the entry into CLOSED from LOCAL is a launch, and the other cases are the branches of the request. -/
theorem modeSetClosed : Obligations.ModeSetClosed := by
  intro p s h u
  refine ⟨fun hm => ?_, fun hm hl => ?_, fun hm hl => ?_, fun hm hs => ?_⟩
  · rw [exec_modeSetClosed h]
    unfold requestClosed
    rw [show (acceptFrame p s).mc.mode = .CLOSED from hm]
  · rw [exec_modeSetClosed h]
    unfold requestClosed
    rw [show (acceptFrame p s).mc.mode = .EMERGENCY from hm]
    simp only
    rw [if_pos (show (acceptFrame p s).mc.line = true from hl)]
  · rw [exec_modeSetClosed h]
    unfold requestClosed
    rw [show (acceptFrame p s).mc.mode = .EMERGENCY from hm]
    simp only
    rw [if_neg (by rw [show (acceptFrame p s).mc.line = false from hl]; exact Bool.false_ne_true)]
    rfl
  · have hends := launchSystem_ends 2 .MODE (s := setMode .CLOSED u) hs.2
    have hsettle : settleRuns (enterClosedFromLocal u) = launchSystem 2 .MODE (setMode .CLOSED u) :=
      settleRuns_eq_self ((congrArg Gru.resumed hends.gru).trans hs.2)
    have hans := frame_answerDone p 2 false [] (launchSystem 2 .MODE (setMode .CLOSED u))
    refine ends_of (exec_modeSetClosed h) ?_
    have hreq : requestClosed p (acceptFrame p s) = answerDone p 2 false [] (launchSystem 2 .MODE (setMode .CLOSED u)) := by
      unfold requestClosed
      rw [show (acceptFrame p s).mc.mode = .LOCAL from hm]
      exact congrArg (answerDone p 2 false []) hsettle
    rw [hreq]
    obtain ⟨hgru, hclaims, hms, horders⟩ := launched_of_ends hends
    refine ⟨hans.mc.trans hends.mc, ⟨hans.gru.trans hgru, fun d => ?_, hans.ms.trans hms, ?_⟩, done_answerDone .., ?_⟩
    · exact (congrArg (Option.map Entry.claim) (entry_congr (by rw [hans.cs]) d)).trans (hclaims d)
    · unfold OnlyOrders
      rw [hans.rc, horders]
      rfl
    · exact aside_of_answer ((BlockFrame.setMode .CLOSED u).trans hends.toBlockFrame) ..

/-! ### Bridge loss (R126) -/

section
variable {s t : State}

theorem countsForBridge_congr (h : t.tables = s.tables) : countsForBridge t = countsForBridge s := by
  funext p
  unfold countsForBridge State.roleAt State.row
  rw [h]

theorem bridgeSilent_congr (h : t.tables = s.tables) (hsilent : ∀ p : PortIx, t.sp[p].silent = s.sp[p].silent) :
    bridgeSilent t = bridgeSilent s := by
  unfold bridgeSilent
  rw [countsForBridge_congr h]
  exact congrArg _ (congrArg (allPorts.all ·) (funext fun p => by rw [hsilent]))

theorem bridgeSilent_of_block (h : BlockFrame s t) : bridgeSilent t = bridgeSilent s :=
  bridgeSilent_congr h.tables fun p => by rw [h.queues p]

/-- The loss of the bridge takes the part to CLOSED. -/
def LossCloses (s : State) : Prop :=
  bridgeSilent s = true ∧ s.mc.bridgeLost = false ∧ s.tables.system.lossAction = 1 ∧ s.mc.mode = .LOCAL

/-- R126: what the evaluation of bridge loss leaves in service. -/
structure BridgeEvaluated (s t : State) : Prop where
  tables : t.tables = s.tables
  cfs : t.cfs = s.cfs
  pins : t.pins = s.pins
  seconds : t.seconds = s.seconds
  queues : OnlyQueues s t
  orders : OnlyOrders s t
  pacing : OnlyPacing s t
  ms : t.ms = s.ms
  sea : t.mc.sea = s.mc.sea
  line : t.mc.line = s.mc.line
  lost : t.mc.bridgeLost = bridgeSilent s
  begins : s.mc.bridgeLost = false → bridgeSilent s = true → HasRoom s .BRIDGE_LOST noSubject → Standing t .BRIDGE_LOST noSubject
  ends_ : s.mc.bridgeLost = true → bridgeSilent s = false → AlarmLaw s → Cleared t .BRIDGE_LOST noSubject
  same : bridgeSilent s = s.mc.bridgeLost → t = s
  others : ∀ k x, k ∉ blockKinds → k ≠ .BRIDGE_LOST → (Standing s k x → Standing t k x) ∧ (Cleared s k x → Cleared t k x)
  stands : ¬LossCloses s → t.mc = { s.mc with bridgeLost := bridgeSilent s } ∧ t.cs = s.cs ∧ t.gru = s.gru ∧ t.rc = s.rc
  closes : LossCloses s → t.mc.mode = .CLOSED
    ∧ (t.gru.slots[slotS]).map (fun r => { r with number := 0 }) = some (newRun slotS .ALL .CLOSE 2 .A .MODE 0)

theorem blockFrame_setBridgeLost (b : Bool) (s : State) : BlockFrame s (setBridgeLost b s) :=
  ⟨rfl, rfl, rfl, rfl, rfl, fun _ => rfl, rfl, rfl, rfl, rfl⟩

theorem others_of_onlyAlarms {k : AlarmKind} {x : Nat} (h : OnlyAlarms s t [(.BRIDGE_LOST, noSubject)]) (hk : k ∉ blockKinds)
    (hb : k ≠ .BRIDGE_LOST) : (Standing s k x → Standing t k x) ∧ (Cleared s k x → Cleared t k x) := by
  have hpair : (k, x) ∉ [(AlarmKind.BRIDGE_LOST, noSubject)] := fun hm =>
    hb (congrArg Prod.fst (List.mem_singleton.mp hm))
  have hfull : k ≠ .LIST_FULL := fun he => hk (he ▸ by decide)
  exact ⟨standing_of_onlyAlarms h hpair hfull, cleared_of_onlyAlarms h hpair hfull⟩

theorem evalBridge_stands (h : bridgeSilent s = s.mc.bridgeLost) : evalBridge s = s := by
  unfold evalBridge
  rw [h]
  cases s.inService <;> cases s.mc.bridgeLost <;> rfl

theorem evalBridge_begins (hin : s.inService = true) (hs : bridgeSilent s = true) (hl : s.mc.bridgeLost = false) :
    evalBridge s = loseBridge s := by
  unfold evalBridge
  rw [hin, hs, hl]
  rfl

theorem evalBridge_ends (hin : s.inService = true) (hs : bridgeSilent s = false) (hl : s.mc.bridgeLost = true) :
    evalBridge s = clearAlarm .BRIDGE_LOST noSubject (setBridgeLost false s) := by
  unfold evalBridge
  rw [hin, hs, hl]
  rfl

/-- The alarm of a loss that begins, before the action of the system record. -/
abbrev lossRaised (s : State) : State := raiseAlarm .BRIDGE_LOST noSubject (setBridgeLost true s)

theorem loseBridge_closes (h : LossCloses s) : loseBridge s = enterClosedFromLocal (lossRaised s) := by
  have frame := AlarmFrame.raiseAlarm .BRIDGE_LOST noSubject (setBridgeLost true s)
  unfold loseBridge
  refine if_pos ⟨?_, ?_⟩
  · rw [frame.tables]; exact h.2.2.1
  · rw [frame.mc]; exact h.2.2.2

theorem loseBridge_stands (h : ¬(s.tables.system.lossAction = 1 ∧ s.mc.mode = .LOCAL)) : loseBridge s = lossRaised s := by
  have frame := AlarmFrame.raiseAlarm .BRIDGE_LOST noSubject (setBridgeLost true s)
  unfold loseBridge
  exact if_neg fun hc => h ⟨(congrArg (·.system.lossAction) frame.tables).symm.trans hc.1, (congrArg Mc.mode frame.mc).symm.trans hc.2⟩

theorem BridgeEvaluated.refl (h : bridgeSilent s = s.mc.bridgeLost) : BridgeEvaluated s s where
  tables := rfl
  cfs := rfl
  pins := rfl
  seconds := rfl
  queues _ := rfl
  orders := rfl
  pacing := rfl
  ms := rfl
  sea := rfl
  line := rfl
  lost := h.symm
  begins h1 h2 _ := by rw [h, h1] at h2; cases h2
  ends_ h1 h2 _ := by rw [h, h1] at h2; cases h2
  same _ := rfl
  others _ _ _ _ := ⟨id, id⟩
  stands _ := ⟨by rw [h], rfl, rfl, rfl⟩
  closes hc := by rw [LossCloses, h] at hc; rw [hc.1] at hc; exact absurd hc.2.1 (by simp)

/-- A change of the bridge-loss state with its alarm, and nothing besides. -/
theorem BridgeEvaluated.of_alarm {b : Bool} (frame : AlarmFrame (setBridgeLost b s) t) (hms : t.ms = s.ms)
    (hb : b = bridgeSilent s) (hne : b ≠ s.mc.bridgeLost) (hno : ¬LossCloses s)
    (honly : OnlyAlarms s t [(.BRIDGE_LOST, noSubject)])
    (hbegins : b = true → HasRoom s .BRIDGE_LOST noSubject → Standing t .BRIDGE_LOST noSubject)
    (hends : b = false → AlarmLaw s → Cleared t .BRIDGE_LOST noSubject) : BridgeEvaluated s t where
  tables := frame.tables
  cfs := frame.cfs
  pins := frame.pins
  seconds := frame.seconds
  queues := frame.queues
  orders := frame.orders
  pacing := frame.pacing
  ms := hms
  sea := frame.sea
  line := frame.line
  lost := by rw [frame.mc]; exact hb
  begins _ h2 := hbegins (hb.trans h2)
  ends_ _ h2 := hends (hb.trans h2)
  same h := absurd (hb.trans h) hne
  others _ _ := others_of_onlyAlarms honly
  stands _ := ⟨frame.mc.trans (by rw [← hb]; rfl), frame.cs, frame.gru, frame.rc⟩
  closes hc := absurd hc hno

theorem evalBridge_evaluated (hin : s.inService = true) : BridgeEvaluated s (evalBridge s) := by
  by_cases hsame : bridgeSilent s = s.mc.bridgeLost
  · rw [evalBridge_stands hsame]
    exact .refl hsame
  cases hs : bridgeSilent s with
  | false =>
    have hl : s.mc.bridgeLost = true := by cases hb : s.mc.bridgeLost <;> simp_all
    rw [evalBridge_ends hin hs hl]
    exact .of_alarm (.clearAlarm ..) (ms_clearAlarm (by decide)) hs.symm (by rw [hl]; decide)
      (fun hc => by rw [hc.1] at hs; cases hs) (onlyAlarms_clearAlarm .BRIDGE_LOST noSubject (setBridgeLost false s)) nofun
      fun _ hlaw => cleared_clearAlarm (s := setBridgeLost false s) hlaw (by decide)
  | true =>
    have hl : s.mc.bridgeLost = false := by cases hb : s.mc.bridgeLost <;> simp_all
    rw [evalBridge_begins hin hs hl]
    have frame := AlarmFrame.raiseAlarm .BRIDGE_LOST noSubject (setBridgeLost true s)
    have honly : OnlyAlarms s (lossRaised s) [(.BRIDGE_LOST, noSubject)] :=
      onlyAlarms_raiseAlarm .BRIDGE_LOST noSubject (setBridgeLost true s)
    have hstanding : HasRoom s .BRIDGE_LOST noSubject → Standing (lossRaised s) .BRIDGE_LOST noSubject :=
      fun hroom => standing_raiseAlarm (s := setBridgeLost true s) hroom
    by_cases hact : s.tables.system.lossAction = 1 ∧ s.mc.mode = .LOCAL
    · have hcloses : LossCloses s := ⟨hs, hl, hact⟩
      rw [loseBridge_closes hcloses]
      have hblock := (blockFrame_setBridgeLost true s).trans
        (frame.toBlockFrame.trans (BlockFrame.enterClosedFromLocal (lossRaised s)))
      have hothers := carried_othersStand.enterClosedFromLocal (lossRaised s)
      exact { tables := hblock.tables, cfs := hblock.cfs, pins := hblock.pins, seconds := hblock.seconds, queues := hblock.queues,
              orders := hblock.orders, pacing := hblock.pacing, sea := hblock.sea, line := hblock.line,
              ms := (carried_ms.enterClosedFromLocal _).trans (ms_raiseAlarm ..),
              lost := by
                rw [hs]
                unfold enterClosedFromLocal launchSystem
                have hsettled := (RunFrame.settleRuns (setMode .CLOSED (lossRaised s))).bridgeLost
                have hraised : (setMode .CLOSED (lossRaised s)).mc.bridgeLost = true := congrArg Mc.bridgeLost frame.mc
                simp only
                split
                · rw [takeSlot_mc, (RunFrame.detachTag ..).bridgeLost, hsettled, hraised]
                · rw [takeSlot_mc, hsettled, hraised]
              begins := fun _ _ hroom => (hothers.standing (by decide)).mpr (hstanding hroom)
              ends_ := fun h => by rw [hl] at h; cases h
              same := fun h => absurd h hsame
              others := fun k x hk hb =>
                have hpart := others_of_onlyAlarms (x := x) honly hk hb
                ⟨fun h => (hothers.standing hk).mpr (hpart.1 h), fun h => hothers.cleared hk (hpart.2 h)⟩
              stands := fun h => absurd hcloses h
              closes := fun _ => ⟨launchSystem_mode .., launchSystem_slot ..⟩ }
    · rw [loseBridge_stands hact]
      exact .of_alarm frame (ms_raiseAlarm ..) hs.symm (by rw [hl]; decide) (fun hc => hact hc.2.2) honly (fun _ => hstanding)
        nofun

theorem BridgeEvaluated.silent (h : BridgeEvaluated s t) : bridgeSilent t = bridgeSilent s :=
  bridgeSilent_congr h.tables fun p => by rw [h.queues p]

/-- R126: BRIDGE_LOST follows the evaluation of a state that an earlier one was led to with its bridge-loss state. -/
theorem bridgeAlarmFollows {u : State} {room : Prop} (h : BridgeEvaluated u t) (hlost : u.mc.bridgeLost = s.mc.bridgeLost)
    (hroom : room → HasRoom u .BRIDGE_LOST noSubject) (hlaw : AlarmLaw s → AlarmLaw u)
    (hmem : ∀ r ∈ s.al.records, r.pair = (.BRIDGE_LOST, noSubject) → r ∈ u.al.records) : BridgeAlarmFollows s t room := by
  refine ⟨fun hf ht hr => ?_, fun hf ht hl => ?_, fun hsame r hr hpair => ?_⟩
  · exact h.begins (hlost.trans hf) (h.lost.symm.trans ht) (hroom hr)
  · exact h.ends_ (hlost.trans hf) (h.lost.symm.trans ht) (hlaw hl)
  · rw [h.same (h.lost.symm.trans (hsame.trans hlost.symm))]
    exact hmem r hr hpair

end

/-! ### HEARTBEAT and the expiry of its window (R124, R125) -/

section
variable {s : State} {p : PortIx}

theorem exec_heartbeat (h : Awake s) (hin : s.inService = true) :
    exec (.heartbeat p) s = .next (heartbeat p (acceptFrame p s)) :=
  (exec_awake h rfl).trans (congrArg _ (decide_operating _ ⟨h, hin, by cases s.roleAt p <;> decide⟩))

theorem exec_heartbeatWindow (h : Awake s) :
    exec (.heartbeatWindowExpiry p) s = .next (if windowReached s p then fallSilent p s else s) := exec_awake h rfl

theorem windowReached_iff : windowReached s p = true ↔ s.inService = true ∧ (s.row p).hbRequired = 1
    ∧ s.tables.system.hbMax ≤ s.sp[p].hbElapsed ∧ s.sp[p].silent = false := by
  unfold windowReached
  simp only [Bool.and_eq_true, decide_eq_true_eq, Bool.not_eq_true', and_assoc]

theorem modPort_acceptFrame (f : StationPort → StationPort) :
    (acceptFrame p s).modPort p f =
      { s with sp := s.sp.set p (f { s.sp[p] with rx := .HUNT, accepted := count16 s.sp[p].accepted }) } := by
  show (s.modPort p _).modPort p f = _
  rw [modPort_modPort]
  rfl

theorem sp_acceptFrame : (acceptFrame p s).sp[p] = { s.sp[p] with rx := .HUNT, accepted := count16 s.sp[p].accepted } := by
  simp [acceptFrame]

theorem heartbeat_required (h : (s.row p).hbRequired = 1) : heartbeat p (acceptFrame p s) = heartbeatTaken p (acceptFrame p s) :=
  if_pos h

theorem heartbeat_early (h : (s.row p).hbRequired = 1) (he : s.sp[p].hbElapsed < s.tables.system.hbMin) :
    heartbeat p (acceptFrame p s) = { s with sp := s.sp.set p { s.sp[p] with
      rx := .HUNT, accepted := count16 s.sp[p].accepted, early := min (s.sp[p].early + 1) 255 } } := by
  rw [heartbeat_required h]
  unfold heartbeatTaken
  rw [if_pos (by rw [sp_acceptFrame]; exact he), modPort_acceptFrame]
  rfl

theorem heartbeat_timely (h : (s.row p).hbRequired = 1) (he : s.tables.system.hbMin ≤ s.sp[p].hbElapsed) :
    heartbeat p (acceptFrame p s) =
      if s.sp[p].silent then unsilence p ((acceptFrame p s).modPort p fun t => { t with hbElapsed := 0 })
      else (acceptFrame p s).modPort p fun t => { t with hbElapsed := 0 } := by
  rw [heartbeat_required h]
  unfold heartbeatTaken
  rw [if_neg (by rw [sp_acceptFrame]; exact Nat.not_lt.mpr he)]
  simp only [sp_acceptFrame]

theorem hasRoom_of_onlyAlarms {s t : State} {k : AlarmKind} {x : Nat} {l : List (AlarmKind × Nat)} (h : OnlyAlarms s t l)
    (hl : (k, x) ∉ l) (hk : k ≠ .LIST_FULL) (hcount : otherCount s.al.records < 63 → otherCount t.al.records < 63)
    (hroom : HasRoom s k x) : HasRoom t k x := by
  refine hroom.imp hcount fun ⟨r, hr, hpair⟩ => ⟨r, h.1 r hr (by rw [hpair]; exact hl) ?_, hpair⟩
  rw [show r.kind = k from congrArg Prod.fst hpair]
  exact hk

end

/-- Settles O23: a silence that ends or begins clears or raises STATION_SILENT, and then bridge loss is evaluated. -/
theorem heartbeatsTaken : Obligations.HeartbeatsTaken := by
  refine ⟨fun p s hawake hin => ?_, fun p s hawake => ?_⟩
  · intro x counted timely
    refine ⟨fun hreq => ?_, fun hreq he => ?_, fun ht hsil => ?_, fun ht hsil hlaw => ?_⟩
    · rw [exec_heartbeat hawake hin]
      exact congrArg _ (if_neg hreq)
    · rw [exec_heartbeat hawake hin, heartbeat_early hreq he]
    · rw [exec_heartbeat hawake hin, heartbeat_timely ht.1 ht.2, if_neg (by rw [show s.sp[p].silent = false from hsil]; decide),
        modPort_acceptFrame]
    · refine ends_of (exec_heartbeat hawake hin) ?_
      rw [heartbeat_timely ht.1 ht.2, if_pos hsil]
      have hsp : ((acceptFrame p s).modPort p fun t => { t with hbElapsed := 0 }).modPort p (fun t => { t with silent := false })
          = { s with sp := s.sp.set p { counted with hbElapsed := 0, silent := false } } := by
        rw [modPort_modPort, modPort_acceptFrame]
        rfl
      unfold unsilence
      rw [hsp]
      generalize hv : ({ s with sp := s.sp.set p { counted with hbElapsed := 0, silent := false } } : State) = v
      have hal : v.al = s.al := by rw [← hv]
      have frame := AlarmFrame.clearAlarm .STATION_SILENT p.val v
      have honly := onlyAlarms_clearAlarm .STATION_SILENT p.val v
      have hvlaw : AlarmLaw v := (alarmLaw_congr (by rw [hal])).mpr hlaw
      have hbridge := evalBridge_evaluated (s := clearAlarm .STATION_SILENT p.val v)
        (by rw [inService_congr frame.cfs, ← hv]; exact hin)
      refine ⟨frame.queues.trans hbridge.queues, (hbridge.others _ _ (by decide) (by decide)).2 (cleared_clearAlarm hvlaw (by decide)),
        hbridge.lost.trans hbridge.silent.symm, ?_, hbridge.tables.trans (frame.tables.trans (by rw [← hv])),
        hbridge.cfs.trans (frame.cfs.trans (by rw [← hv])), fun hno => ?_⟩
      · refine bridgeAlarmFollows hbridge (by rw [frame.bridgeLost, ← hv]) (fun hroom => ?_) (fun _ => alarmLaw_clearAlarm hvlaw ..)
          fun r hr hpair => ?_
        · refine hasRoom_of_onlyAlarms honly (by simp) (by decide) (fun h => ?_) ((hasRoom_congr hal).mpr hroom)
          exact Nat.lt_of_le_of_lt (otherCount_clearAlarm ..) h
        · exact honly.1 r (by rw [hal]; exact hr) (by rw [hpair]; simp)
            (by rw [show r.kind = .BRIDGE_LOST from congrArg Prod.fst hpair]; decide)
      · obtain ⟨hmc, hcs, hgru, -⟩ := hbridge.stands fun hc => by
          rw [hbridge.silent.trans hc.1] at hno
          cases hno
        refine ⟨?_, hgru.trans (frame.gru.trans (by rw [← hv])), hcs.trans (frame.cs.trans (by rw [← hv]))⟩
        rw [hmc]
        show (clearAlarm .STATION_SILENT p.val v).mc.mode = s.mc.mode
        rw [frame.mode, ← hv]
  · intro due
    refine ⟨fun hdue => ?_, fun hdue => ?_⟩
    · rw [exec_heartbeatWindow hawake, if_neg fun h => hdue (windowReached_iff.mp h)]
    · refine ends_of (exec_heartbeatWindow hawake) ?_
      rw [if_pos (windowReached_iff.mpr hdue)]
      unfold fallSilent
      generalize hv : s.modPort p (fun t => { t with silent := true }) = v
      have hal : v.al = s.al := by rw [← hv]; rfl
      have frame := AlarmFrame.raiseAlarm .STATION_SILENT p.val v
      have honly := onlyAlarms_raiseAlarm .STATION_SILENT p.val v
      have hbridge := evalBridge_evaluated (s := raiseAlarm .STATION_SILENT p.val v)
        (by rw [inService_congr frame.cfs, ← hv]; exact hdue.1)
      have hcloses : LossCloses (raiseAlarm .STATION_SILENT p.val v) ↔
          bridgeSilent (evalBridge (raiseAlarm .STATION_SILENT p.val v)) = true ∧ s.mc.bridgeLost = false
            ∧ s.tables.system.lossAction = 1 ∧ s.mc.mode = .LOCAL := by
        unfold LossCloses
        rw [hbridge.silent, frame.bridgeLost, frame.tables, frame.mode, ← hv]
        rfl
      refine ⟨?_, fun hroom => ?_, hbridge.lost.trans hbridge.silent.symm, ?_, fun h1 h2 h3 h4 => ?_, fun hno => ?_, ?_, ?_, ?_, ?_, ?_⟩
      · have hq := frame.queues.trans hbridge.queues
        rw [← hv] at hq ⊢
        exact hq
      · exact (hbridge.others _ _ (by decide) (by decide)).1 (standing_raiseAlarm ((hasRoom_congr hal).mpr hroom))
      · refine bridgeAlarmFollows hbridge (by rw [frame.bridgeLost, ← hv]; rfl) (fun hspare => ?_)
          (fun hlaw => alarmLaw_raiseAlarm ((alarmLaw_congr (by rw [hal])).mpr hlaw) (by decide) (by decide)) fun r hr hpair => ?_
        · rcases hspare with h | ⟨r, hr, hpair⟩
          · refine .inl (Nat.lt_of_le_of_lt (otherCount_raiseAlarm ..) ?_)
            rw [hal]
            omega
          · exact .inr ⟨r, honly.1 r (by rw [hal]; exact hr) (by rw [hpair]; simp)
              (by rw [show r.kind = .BRIDGE_LOST from congrArg Prod.fst hpair]; decide), hpair⟩
        · exact honly.1 r (by rw [hal]; exact hr) (by rw [hpair]; simp)
            (by rw [show r.kind = .BRIDGE_LOST from congrArg Prod.fst hpair]; decide)
      · exact hbridge.closes (hcloses.mpr ⟨h1, h2, h3, h4⟩)
      · obtain ⟨hmc, hcs, hgru, -⟩ := hbridge.stands fun hc => by
          obtain ⟨h1, h2, h3, h4⟩ := hcloses.mp hc
          rcases hno with h | h | h | h
          · rw [h1] at h; cases h
          · rw [h2] at h; cases h
          · exact h h3
          · exact h h4
        refine ⟨?_, hcs.trans (frame.cs.trans (by rw [← hv]; rfl)), hgru.trans (frame.gru.trans (by rw [← hv]; rfl))⟩
        rw [hmc]
        show (raiseAlarm .STATION_SILENT p.val v).mc.mode = s.mc.mode
        rw [frame.mode, ← hv]
        rfl
      · exact hbridge.ms.trans ((ms_raiseAlarm ..).trans (by rw [← hv]; rfl))
      · exact OnlyOrders.trans (t := raiseAlarm .STATION_SILENT p.val v) (by rw [← hv] at frame ⊢; exact frame.orders) hbridge.orders
      · exact hbridge.tables.trans (frame.tables.trans (by rw [← hv]; rfl))
      · exact hbridge.cfs.trans (frame.cfs.trans (by rw [← hv]; rfl))
      · exact hbridge.pins.trans (frame.pins.trans (by rw [← hv]; rfl))

end Sys2Proof.Proofs
end

section
/-! ## MODE_SET requesting LOCAL: the abort and the flush -/
namespace Sys2Proof.Proofs
open Sys2Proof Sys2Proof.Machine

set_option Elab.async false

section
variable {s t u : State} {d x : DoorIx} {e : Entry}

/-! ### The abort of every run (R102) -/

/-- The entry carries one of the run numbers. -/
def tagAmong (ns : List Byte) (tag : Option RunTag) : Bool := tag.any fun x => decide (x.number ∈ ns)

/-- The entry without a tag of one of the run numbers. -/
def freed (ns : List Byte) (e : Entry) : Entry := if tagAmong ns e.tag = true then untagged e else e

/-- The claim fields without a tag of one of the run numbers. -/
def freeClaim (ns : List Byte) (c : Direction × Nat × SourceGroup × Origin × Option RunTag × Nat) :
    Direction × Nat × SourceGroup × Origin × Option RunTag × Nat :=
  (c.1, c.2.1, c.2.2.1, c.2.2.2.1, if tagAmong ns c.2.2.2.2.1 = true then none else c.2.2.2.2.1, c.2.2.2.2.2)

theorem freed_claim (ns : List Byte) (e : Entry) : (freed ns e).claim = freeClaim ns e.claim := by
  unfold freed freeClaim untagged Entry.claim
  split <;> simp_all

@[simp] theorem freed_phase (ns : List Byte) (e : Entry) : (freed ns e).phase = e.phase := by unfold freed; split <;> rfl

theorem freed_nil (e : Entry) : freed [] e = e := by
  unfold freed tagAmong
  cases e.tag <;> simp

theorem freed_cons (n : Byte) (ns : List Byte) (d : DoorIx) (e : Entry) : freed ns (detached n d e) = freed (n :: ns) e := by
  unfold freed detached tagged tagAmong
  cases htag : e.tag with
  | none => simp [htag]
  | some x =>
    by_cases hn : x.number = n
    · simp [hn, untagged]
    · by_cases hm : x.number ∈ ns <;> simp [hn, hm, htag]

/-- What the detach of some run numbers leaves. -/
structure Freed (ns : List Byte) (s t : State) : Prop extends ScheduleFrame s t where
  ms : t.ms = s.ms
  claims : ∀ d : DoorIx, claimOf t d = (claimOf s d).map (freeClaim ns)
  idle : ∀ d : DoorIx, phaseOf s d ≠ some .READY → t.entry d = (s.entry d).map (freed ns)
  ready : ∀ d : DoorIx, phaseOf s d = some .READY → phaseOf t d = some .READY ∨ phaseOf t d = some .MOVING
  otherOrders : ∀ o : PendingOrder, phaseOf s o.door ≠ some .READY → (o ∈ t.rc.orders ↔ o ∈ s.rc.orders)

theorem Freed.refl (s : State) : Freed [] s s where
  toScheduleFrame := .refl s
  ms := rfl
  claims d := by unfold claimOf; rw [Option.map_map]; exact Option.map_congr fun e _ =>
    (congrArg Entry.claim (freed_nil e)).symm.trans (freed_claim [] e)
  idle d _ := (Option.map_id'.symm.trans (Option.map_congr fun e _ => (freed_nil e).symm))
  ready _ h := .inl h
  otherOrders _ _ := Iff.rfl

theorem Freed.cons {n : Byte} {ns : List Byte} (h : Detached n s t) (g : Freed ns t u) : Freed (n :: ns) s u := by
  have hphase (d : DoorIx) (hd : phaseOf s d ≠ some .READY) : phaseOf t d = phaseOf s d := by
    unfold phaseOf
    rw [h.idle d hd, Option.map_map]
    exact Option.map_congr fun e _ => detached_phase ..
  refine { toScheduleFrame := h.toScheduleFrame.trans g.toScheduleFrame, ms := g.ms.trans h.ms, claims := fun d => ?_,
           idle := fun d hd => ?_, ready := fun d hd => ?_, otherOrders := fun o ho => ?_ }
  · rw [g.claims, h.claims, claimOf, Option.map_map, Option.map_map]
    refine Option.map_congr fun e _ => ?_
    show freeClaim ns (detached n d e).claim = freeClaim (n :: ns) e.claim
    rw [← freed_claim, ← freed_claim, freed_cons]
  · rw [g.idle d (by rw [hphase d hd]; exact hd), h.idle d hd, Option.map_map]
    exact Option.map_congr fun e _ => freed_cons ..
  · rcases h.ready d hd with hr | hm
    · exact g.ready d hr
    · refine .inr ?_
      have hidle := g.idle d (by rw [hm]; simp)
      unfold phaseOf at hm ⊢
      rw [hidle, Option.map_map, ← hm]
      exact Option.map_congr fun e _ => freed_phase ..
  · exact (g.otherOrders o (by rw [hphase _ ho]; exact ho)).trans (h.otherOrders o ho)

theorem freed_forEach (l : List Run) (s : State) :
    Freed (l.map Run.number) s (forEach l (fun r => detachTag r.number) s) := by
  induction l generalizing s with
  | nil => exact .refl s
  | cons r rest ih => exact .cons (detachTag_detached r.number s) (ih _)

/-- What the abort leaves: the tags of every live run gone and GRU empty. -/
structure Aborted (s t : State) : Prop extends RunFrame s t where
  ms : t.ms = s.ms
  mc : t.mc = s.mc
  gru : t.gru = { s.gru with slots := Vector.replicate 5 none, slotting := [], stack := [], resumed := [] }
  claims : ∀ d : DoorIx, claimOf t d = (claimOf s d).map (freeClaim ((liveRuns s).map Run.number))
  idle : ∀ d : DoorIx, phaseOf s d ≠ some .READY → t.entry d = (s.entry d).map (freed ((liveRuns s).map Run.number))
  ready : ∀ d : DoorIx, phaseOf s d = some .READY → phaseOf t d = some .READY ∨ phaseOf t d = some .MOVING
  otherOrders : ∀ o : PendingOrder, phaseOf s o.door ≠ some .READY → (o ∈ t.rc.orders ↔ o ∈ s.rc.orders)
  joined : QueuesJoined IsNotice s t

theorem abortRuns_aborted (s : State) : Aborted s (abortRuns s) := by
  have h := freed_forEach (liveRuns s) s
  exact { toBlockFrame := ⟨h.tables, h.cfs, h.pins, h.seconds, h.pending, h.queues, h.orders, h.pacing, h.sea, h.line⟩,
          mode := h.mode, bridgeLost := h.bridgeLost, counter := h.counter, freeCount := h.freeCount,
          moveRepeats := h.moveRepeats, ms := h.ms, mc := h.mc,
          gru := by unfold abortRuns; simp only [h.gru],
          claims := h.claims, idle := h.idle, ready := h.ready, otherOrders := h.otherOrders,
          joined := borne_joined.abortRuns s }

/-! ### The entries of some doors taken out (R48) -/

/-- What taking out the entries of the doors of a list leaves. -/
structure TakenEach (c : RemovalCause) (l : List DoorIx) (s t : State) : Prop extends RunFrame s t where
  ms : t.ms = s.ms
  gone : ∀ d ∈ l, t.entry d = none
  others : ∀ d : DoorIx, d ∉ l → t.entry d = s.entry d
  ordered : ∀ d ∈ l, ∀ e ∈ s.entry d, ∀ k, c.order e.phase = some k → Pending t d k
  otherOrders : ∀ o : PendingOrder, o.door ∉ l ∨ s.entry o.door = none → (o ∈ t.rc.orders ↔ o ∈ s.rc.orders)

theorem takeOut_each (c : RemovalCause) (d : DoorIx) (s : State) : TakenEach c [d] s (takeOut c d s) := by
  cases he : s.entry d with
  | none =>
    rw [takeOut_of_none he]
    refine ⟨.refl s, rfl, fun x hx => ?_, fun _ _ => rfl, fun x hx e hex => ?_, fun _ _ => Iff.rfl⟩
    · rw [List.mem_singleton.mp hx]; exact he
    · rw [List.mem_singleton.mp hx, he] at hex; cases hex
  | some e =>
    have h := takenOut he c
    refine ⟨h.toRunFrame, h.ms, fun x hx => ?_, fun x hx => ?_, fun x hx f hf k hk => ?_, fun o ho => h.otherOrders o fun hd => ?_⟩
    · rw [entry_schedWithout d x h.cs, if_pos (List.mem_singleton.mp hx).symm]
    · rw [entry_schedWithout d x h.cs, if_neg fun hd => hx (List.mem_singleton.mpr hd.symm)]
    · rw [List.mem_singleton.mp hx] at hf ⊢
      rw [he] at hf
      cases hf
      exact h.ordered k hk
    · rcases ho with ho | ho
      · exact ho (List.mem_singleton.mpr hd)
      · rw [hd, he] at ho; cases ho

theorem TakenEach.refl (c : RemovalCause) (s : State) : TakenEach c [] s s :=
  ⟨.refl s, rfl, nofun, fun _ _ => rfl, nofun, fun _ _ => Iff.rfl⟩

theorem TakenEach.append {c : RemovalCause} {a l : List DoorIx} (h : TakenEach c a s t) (g : TakenEach c l t u) :
    TakenEach c (a ++ l) s u := by
  refine ⟨h.toRunFrame.trans g.toRunFrame, g.ms.trans h.ms, fun d hd => ?_, fun d hd => ?_, fun d hd e he k hk => ?_, fun o ho => ?_⟩
  · by_cases hl : d ∈ l
    · exact g.gone d hl
    · rw [g.others d hl]
      exact h.gone d ((List.mem_append.mp hd).resolve_right hl)
  · rw [List.mem_append, not_or] at hd
    exact (g.others d hd.2).trans (h.others d hd.1)
  · by_cases ha : d ∈ a
    · exact (g.otherOrders ⟨d, k⟩ (.inr (h.gone d ha))).mpr (h.ordered d ha e he k hk)
    · exact g.ordered d ((List.mem_append.mp hd).resolve_left ha) e (by rw [h.others d ha]; exact he) k hk
  · rcases ho with ho | ho
    · rw [List.mem_append, not_or] at ho
      exact (g.otherOrders o (.inl ho.2)).trans (h.otherOrders o (.inl ho.1))
    · refine (g.otherOrders o (.inr ?_)).trans (h.otherOrders o (.inr ho))
      by_cases ha : o.door ∈ a
      · exact h.gone _ ha
      · rw [h.others _ ha]; exact ho

theorem takenEach (c : RemovalCause) (l : List DoorIx) (s : State) : TakenEach c l s (forEach l (takeOut c) s) := by
  induction l generalizing s with
  | nil => exact .refl c s
  | cons d rest ih => exact (takeOut_each c d s).append (ih _)

/-! ### The flush (R48) -/

/-- The doors whose entries a flush removes. -/
theorem mem_flushes : d ∈ matching s flushes ↔ ∃ e, s.entry d = some e ∧ flushed e = true := mem_matching

/-- What the flush leaves: the entries it removes gone, with STOP queued where they warned. -/
structure FlushEnds (s t : State) : Prop extends RunFrame s t where
  ms : t.ms = s.ms
  numbers : (liveRuns t).map Run.number = (liveRuns s).map Run.number
  emptied : liveRuns s = [] → t.gru = s.gru
  gone : ∀ d, ∀ e ∈ s.entry d, flushed e = true → t.entry d = none
  claims : ∀ d, (∀ e ∈ s.entry d, flushed e = false) → claimOf t d = claimOf s d
  idle : ∀ d, (∀ e ∈ s.entry d, flushed e = false) → phaseOf s d ≠ some .READY → t.entry d = s.entry d
  stopped : ∀ d, ∀ e ∈ s.entry d, flushed e = true → e.phase = .WARNING → Pending t d .STOP
  joined : QueuesJoined IsNotice s t

theorem modRun_gru_of_none (n : Byte) (f : Run → Run) (h : liveRuns s = []) : (modRun n f s).gru = s.gru := by
  obtain ⟨hslots, hstack⟩ := liveRuns_eq_nil_iff.mp h
  have hvec : updAll s.gru.slots (fun _ x => x.map fun r => if r.number = n then f r else r) = s.gru.slots := by
    refine Vector.ext fun i hi => ?_
    simp only [updAll, Vector.getElem_ofFn, Fin.getElem_fin]
    rw [show s.gru.slots[i] = none from hslots ⟨i, hi⟩]
    rfl
  unfold modRun
  simp only [hvec, hstack, List.map_nil]
  rw [← hstack]

/-- The flush counts the tags of the entries it removes, so the run numbers stand, and an empty GRU. -/
structure Counts (s t : State) : Prop where
  numbers : (liveRuns t).map Run.number = (liveRuns s).map Run.number
  emptied : liveRuns s = [] → t.gru = s.gru

theorem Counts.of_gru (h : t.gru = s.gru) : Counts s t := ⟨by unfold liveRuns; rw [h], fun _ => h⟩
theorem Counts.trans (h : Counts s t) (g : Counts t u) : Counts s u :=
  ⟨g.numbers.trans h.numbers, fun hs => (g.emptied (by
    have hn := h.numbers
    rw [hs] at hn
    exact List.map_eq_nil_iff.mp hn)).trans (h.emptied hs)⟩

theorem Counts.countTag (tag : Option RunTag) (fate : TagFate) (s : State) : Counts s (countTag tag fate s) := by
  refine ⟨?_, fun hs => ?_⟩
  · rw [liveRuns_countTag, List.map_map]
    exact List.map_congr_left fun r _ => fated_number ..
  · cases tag with
    | none => rfl
    | some x => exact modRun_gru_of_none _ _ hs

theorem Counts.takeOut_flush (d : DoorIx) (s : State) : Counts s (takeOut .FLUSH d s) := by
  cases he : s.entry d with
  | none => rw [takeOut_of_none he]; exact .of_gru rfl
  | some e =>
    have hreport : RemovalCause.FLUSH.report e.tag (released d e s) = Machine.countTag e.tag .overruled (released d e s) := rfl
    rw [takeOut_eq he, hreport]
    refine Counts.trans (t := Machine.countTag e.tag .overruled (released d e s)) ?_ (.of_gru ?_)
    · exact Counts.trans (.of_gru (by rw [released_eq he])) (.countTag ..)
    · rw [(Ending.recloseGone d e.direction _).gru, queueOrder?_eq]
      rfl

theorem flush_ends (s : State) : FlushEnds s (flush s) := by
  have htaken := takenEach .FLUSH (matching s flushes) s
  have hcounts : Counts s (forEach (matching s flushes) (takeOut .FLUSH) s) :=
    forEach_rel (R := Counts) (fun _ => .of_gru rfl) .trans .takeOut_flush _ s
  have hpass : Passing (forEach (matching s flushes) (takeOut .FLUSH) s) (flush s) := (Passing.passes ..).trans (.tests ..)
  generalize forEach (matching s flushes) (takeOut .FLUSH) s = u at *
  have hall := hcounts.trans (.of_gru hpass.gru)
  have hstays : ∀ d, (∀ e ∈ s.entry d, flushed e = false) → u.entry d = s.entry d := fun d hd => htaken.others d fun hm => by
    obtain ⟨e, he, hf⟩ := mem_flushes.mp hm
    rw [hd e he] at hf
    cases hf
  refine { toRunFrame := htaken.toRunFrame.trans hpass.toRunFrame, ms := hpass.ms.trans htaken.ms, numbers := hall.numbers,
           emptied := hall.emptied, gone := fun d e he hf => ?_, claims := fun d hd => ?_, idle := fun d hd hph => ?_,
           stopped := fun d e he hf hph => ?_, joined := borne_joined.flush s }
  · have hnone := htaken.gone d (mem_flushes.mpr ⟨e, he, hf⟩)
    rw [hpass.idle d (by unfold phaseOf; rw [hnone]; simp), hnone]
  · rw [hpass.claims, claimOf, hstays d hd]
    rfl
  · rw [hpass.idle d (by unfold phaseOf at *; rw [hstays d hd]; exact hph), hstays d hd]
  · have hmem := mem_flushes.mpr ⟨e, he, hf⟩
    refine (hpass.otherOrders ⟨d, .STOP⟩ ?_).mpr (htaken.ordered d hmem e he .STOP (if_pos hph))
    unfold phaseOf
    rw [htaken.gone d hmem]
    simp

/-! ### The abort and the flush in either order (R102, R108) -/

theorem claimFreed_eq (s : State) (e : Entry) : claimFreed s e = freeClaim ((liveRuns s).map Run.number) e.claim := by
  have hheld (x : RunTag) : numberHeld s x.number = true ↔ x.number ∈ (liveRuns s).map Run.number := by
    rw [numberHeld_iff, List.mem_map]
  unfold claimFreed freeClaim tagAmong Entry.claim
  cases htag : e.tag with
  | none => simp
  | some x =>
    simp only [hheld, Option.any_some, decide_eq_true_eq]
    split <;> simp

/-- What the abort and the flush leave together. -/
structure LocalCleared (s t : State) : Prop extends BlockFrame s t where
  mode : t.mc.mode = s.mc.mode
  bridgeLost : t.mc.bridgeLost = s.mc.bridgeLost
  ms : t.ms = s.ms
  gru : t.gru = { s.gru with slots := Vector.replicate 5 none, slotting := [], stack := [], resumed := [] }
  kept : ∀ d, ∀ e ∈ s.entry d, flushed e = false → claimOf t d = some (claimFreed s e)
  warned : ∀ d, ∀ e ∈ s.entry d, flushed e = true → e.phase = .WARNING → t.entry d = none ∧ Pending t d .STOP
  waited : ∀ d, ∀ e ∈ s.entry d, flushed e = true → e.phase = .READY →
    t.entry d = none ∨ (claimOf t d = some (claimFreed s e) ∧ phaseOf t d = some .MOVING)
  empty : ∀ d, s.entry d = none → t.entry d = none
  joined : QueuesJoined IsNotice s t

theorem entry_eq_none_of_claim (h : claimOf t d = none) : t.entry d = none := by
  unfold claimOf at h
  exact Option.map_eq_none_iff.mp h

theorem flush_then_abort (s : State) : LocalCleared s (abortRuns (flush s)) := by
  have hf := flush_ends s
  generalize flush s = u at *
  have ha := abortRuns_aborted u
  generalize abortRuns u = t at *
  have hgone : ∀ d, u.entry d = none → t.entry d = none := fun d hd => entry_eq_none_of_claim (by
    rw [ha.claims]; unfold claimOf; rw [hd]; rfl)
  refine { toBlockFrame := hf.toBlockFrame.trans ha.toBlockFrame, mode := ha.mode.trans hf.mode,
           bridgeLost := ha.bridgeLost.trans hf.bridgeLost, ms := ha.ms.trans hf.ms, gru := ?_, kept := fun d e he hk => ?_,
           warned := fun d e he hk hph => ⟨hgone d (hf.gone d e he hk), ?_⟩,
           waited := fun d e he hk _ => .inl (hgone d (hf.gone d e he hk)), empty := fun d hd => hgone d ?_,
           joined := hf.joined.trans ha.joined }
  · rw [ha.gru]
    simp only [show u.gru.counter = s.gru.counter from hf.counter]
  · rw [ha.claims, hf.numbers, hf.claims d fun x hx => by rw [he] at hx; cases hx; exact hk, claimOf_eq he, claimFreed_eq]
    rfl
  · refine (ha.otherOrders ⟨d, .STOP⟩ ?_).mpr (hf.stopped d e he hk hph)
    unfold phaseOf
    rw [hf.gone d e he hk]
    simp
  · exact entry_eq_none_of_claim (by rw [hf.claims d (by rw [hd]; nofun)]; unfold claimOf; rw [hd]; rfl)

theorem flushed_iff : flushed e = true ↔ e.direction = .CLOSE ∧ e.cls ≤ 2 ∧ e.phase ≠ .MOVING := by
  simp [flushed, and_assoc]

/-- The flush looks at the claim and the phase of an entry. -/
theorem flushed_congr {f : Entry} {ns : List Byte} (hclaim : f.claim = freeClaim ns e.claim) (hphase : f.phase = e.phase) :
    flushed f = flushed e := by
  have hdir : f.direction = e.direction := congrArg (·.1) hclaim
  have hcls : f.cls = e.cls := congrArg (·.2.1) hclaim
  unfold flushed
  rw [hdir, hcls, hphase]

theorem abort_then_flush (s : State) : LocalCleared s (flush (abortRuns s)) := by
  have ha := abortRuns_aborted s
  generalize abortRuns s = u at *
  have hf := flush_ends u
  generalize flush u = t at *
  have hlive : liveRuns u = [] := liveRuns_eq_nil_iff.mpr ⟨fun i => by rw [SlotIdle, ha.gru]; simp, by rw [ha.gru]⟩
  have hentry (d : DoorIx) (e : Entry) (he : s.entry d = some e) : ∃ f, u.entry d = some f
      ∧ f.claim = freeClaim ((liveRuns s).map Run.number) e.claim := by
    have hc := ha.claims d
    rw [claimOf_eq he] at hc
    exact Option.map_eq_some_iff.mp hc
  have hstill (d : DoorIx) (e : Entry) (he : s.entry d = some e) (hr : e.phase ≠ .READY) :
      u.entry d = some (freed ((liveRuns s).map Run.number) e) := by
    rw [ha.idle d (by rw [phaseOf_eq he]; simpa using hr), he]
    rfl
  refine { toBlockFrame := ha.toBlockFrame.trans hf.toBlockFrame, mode := hf.mode.trans ha.mode,
           bridgeLost := hf.bridgeLost.trans ha.bridgeLost, ms := hf.ms.trans ha.ms, gru := (hf.emptied hlive).trans ha.gru,
           kept := fun d e he hk => ?_, warned := fun d e he hk hph => ?_, waited := fun d e he hk hph => ?_,
           empty := fun d hd => ?_, joined := ha.joined.trans hf.joined }
  · obtain ⟨f, hfu, hclaim⟩ := hentry d e he
    rw [hf.claims d, claimOf_eq hfu, hclaim, claimFreed_eq]
    intro y hy
    rw [hfu] at hy
    cases hy
    cases hph : e.phase with
    | READY =>
      by_contra hflush
      rw [Bool.not_eq_false, flushed_iff] at hflush
      have hdir : f.direction = e.direction := congrArg (·.1) hclaim
      have hcls : f.cls = e.cls := congrArg (·.2.1) hclaim
      rw [hdir, hcls] at hflush
      exact absurd (flushed_iff.mpr ⟨hflush.1, hflush.2.1, by rw [hph]; decide⟩) (by rw [hk]; decide)
    | WARNING | MOVING =>
      have hsame := hstill d e he (by rw [hph]; decide)
      rw [hfu] at hsame
      cases hsame
      rw [← hk]
      exact flushed_congr hclaim (freed_phase ..)
  · have hsame := hstill d e he (by rw [hph]; decide)
    have hfl : flushed (freed ((liveRuns s).map Run.number) e) = true := by
      rw [← hk]
      exact flushed_congr (freed_claim ..) (freed_phase ..)
    exact ⟨hf.gone d _ hsame hfl, hf.stopped d _ hsame hfl ((freed_phase ..).trans hph)⟩
  · obtain ⟨f, hfu, hclaim⟩ := hentry d e he
    rcases ha.ready d ((phaseOf_eq he).trans (congrArg some hph)) with hr | hm
    · rw [phaseOf_eq hfu, Option.some.injEq] at hr
      exact .inl (hf.gone d f hfu (by rw [← hk]; exact flushed_congr hclaim (hr.trans hph.symm)))
    · have hno : ∀ y ∈ u.entry d, flushed y = false := fun y hy => by
        rw [hfu] at hy
        cases hy
        rw [phaseOf_eq hfu, Option.some.injEq] at hm
        simp [flushed, hm]
      have hidle := hf.idle d hno (by rw [hm]; simp)
      refine .inr ⟨?_, ?_⟩
      · rw [hf.claims d hno, claimOf_eq hfu, hclaim, claimFreed_eq]
      · unfold phaseOf at *
        rw [hidle]
        exact hm
  · have hu : u.entry d = none := entry_eq_none_of_claim (by rw [ha.claims]; unfold claimOf; rw [hd]; rfl)
    exact entry_eq_none_of_claim (by rw [hf.claims d (by rw [hu]; nofun)]; unfold claimOf; rw [hu]; rfl)

/-- Whatever is chosen where the order is free. -/
theorem abortAndFlush_cleared (s : State) : LocalCleared s (abortAndFlush s) := by
  have chosen : ∀ u, LocalCleared { s with freeCount := s.freeCount + 1 } u → LocalCleared s u := fun u h =>
    { toBlockFrame := ⟨h.tables, h.cfs, h.pins, h.seconds, h.pending, h.queues, h.orders, h.pacing, h.sea, h.line⟩, mode := h.mode,
      bridgeLost := h.bridgeLost, ms := h.ms, gru := h.gru, kept := h.kept, warned := h.warned, waited := h.waited, empty := h.empty,
      joined := ⟨h.joined.port⟩ }
  unfold abortAndFlush
  split
  · unfold freeChoice
    simp only
    split
    · exact chosen _ (flush_then_abort _)
    · exact chosen _ (abort_then_flush _)
  · exact abort_then_flush s

/-! ### The entry into LOCAL (R108) -/

theorem frame_endAnyPassage (d : DoorIx) (s : State) : RunFrame s (endAnyPassage d s) := by
  unfold endAnyPassage
  split
  · exact .endPassage ..
  · exact .refl s

/-- What the end of every passage leaves beside the passages. -/
structure PassagesEnded (s t : State) : Prop extends RunFrame s t where
  cs : t.cs = s.cs
  rc : t.rc = s.rc
  ms : t.ms = s.ms
  gru : t.gru = s.gru
  joined : QueuesJoined IsNotice s t

theorem PassagesEnded.trans (h : PassagesEnded s t) (g : PassagesEnded t u) : PassagesEnded s u :=
  ⟨h.toRunFrame.trans g.toRunFrame, g.cs.trans h.cs, g.rc.trans h.rc, g.ms.trans h.ms, g.gru.trans h.gru, h.joined.trans g.joined⟩

theorem endAnyPassage_ended (d : DoorIx) (s : State) : PassagesEnded s (endAnyPassage d s) := by
  have frame := frame_endAnyPassage d s
  unfold endAnyPassage at *
  split
  · next hx =>
    rw [hx] at frame
    have hend := Ending.endPassage d s
    exact ⟨frame, hend.cs, hend.rc, hend.ms, hend.gru, borne_joined.endPassage d s⟩
  · exact ⟨.refl s, rfl, rfl, rfl, rfl, .refl s⟩

theorem passagesEnded (s : State) : PassagesEnded s (forEach allDoors endAnyPassage s) :=
  forEach_rel (R := PassagesEnded) (fun s => ⟨.refl s, rfl, rfl, rfl, rfl, .refl s⟩) .trans endAnyPassage_ended _ s

/-- Clearing the condition of every door leaves each of them cleared. -/
theorem cleared_clearDoors {k : AlarmKind} (hk : k ≠ .LIST_FULL) {l : List DoorIx} (hlaw : AlarmLaw s) (hd : d ∈ l ∨ Cleared s k d.val) :
    Cleared (forEach l (clearDoor k) s) k d.val := by
  induction l generalizing s with
  | nil => exact hd.resolve_left (by simp)
  | cons x rest ih =>
    have hfirst : d = x ∨ Cleared s k d.val → Cleared (clearDoor k x s) k d.val := by
      intro h
      by_cases hx : d = x
      · subst hx
        exact cleared_clearAlarm hlaw hk
      · refine cleared_of_onlyAlarms (onlyAlarms_clearAlarm k x.val s) (fun hm => hx ?_) hk (h.resolve_left hx)
        exact Fin.ext (congrArg Prod.snd (List.mem_singleton.mp hm))
    show Cleared (forEach rest (clearDoor k) (clearDoor k x s)) k d.val
    refine ih (alarmLaw_clearAlarm hlaw ..) ?_
    rcases hd with hd | hd
    · rcases List.mem_cons.mp hd with h | h
      · exact .inr (hfirst (.inl h))
      · exact .inl h
    · exact .inr (hfirst (.inr hd))

/-- What the clear of the conditions at sea leaves. -/
structure SeaCleared (s t : State) : Prop extends BlockFrame s t where
  cs : t.cs = s.cs
  rc : t.rc = s.rc
  ms : t.ms = s.ms
  gru : t.gru = s.gru
  mc : t.mc = { s.mc with oas := Vector.replicate 96 ⟨0, false⟩ }
  cleared : AlarmLaw s → ∀ d : DoorIx, Cleared t .DOOR_OPEN_AT_SEA d.val
  joined : QueuesJoined IsNotice s t

theorem clearAtSea_cleared (s : State) : SeaCleared s (clearAtSea s) := by
  have frame := AlarmFrame.forEach (AlarmFrame.clearDoor .DOOR_OPEN_AT_SEA) allDoors s
  have hms : (forEach allDoors (clearDoor .DOOR_OPEN_AT_SEA) s).ms = s.ms :=
    forEach_rel (R := fun s t => t.ms = s.ms) (fun _ => rfl) (fun h g => g.trans h) (fun _ _ => ms_clearAlarm (by decide)) _ s
  have hjoin : QueuesJoined IsNotice s (forEach allDoors (clearDoor .DOOR_OPEN_AT_SEA) s) :=
    .forEach (fun _ _ => clearAlarm_joined ..) _ s
  have hcleared : AlarmLaw s → ∀ d : DoorIx, Cleared (forEach allDoors (clearDoor .DOOR_OPEN_AT_SEA) s) .DOOR_OPEN_AT_SEA d.val :=
    fun hlaw d => cleared_clearDoors (by decide) hlaw (.inl (mem_allDoors d))
  have hshape : clearAtSea s = { forEach allDoors (clearDoor .DOOR_OPEN_AT_SEA) s with
    mc := { (forEach allDoors (clearDoor .DOOR_OPEN_AT_SEA) s).mc with oas := Vector.replicate 96 ⟨0, false⟩ } } := rfl
  rw [hshape]
  generalize forEach allDoors (clearDoor .DOOR_OPEN_AT_SEA) s = t at *
  exact { tables := frame.tables, cfs := frame.cfs, pins := frame.pins, seconds := frame.seconds, pending := frame.pending,
          queues := frame.queues, orders := frame.orders, pacing := frame.pacing, sea := frame.sea, line := frame.line,
          cs := frame.cs, rc := frame.rc, ms := hms, gru := frame.gru, mc := by rw [frame.mc], cleared := hcleared,
          joined := ⟨hjoin.port⟩ }

end

section
variable {s : State} {p : PortIx}

theorem exec_modeSetLocal (h : Operates s p [.BRIDGE]) : exec (.modeSetLocal p) s = .next (requestLocal p (acceptFrame p s)) :=
  (exec_awake h.1 rfl).trans (congrArg _ (decide_operating _ h))

/-- The RUN_REPORT frames of a queue stand under an answer. -/
theorem reportsAt_answerDone (kind : Nat) (c : Bool) (data : List Byte) (s : State) (q : PortIx) :
    reportsAt (answerDone p kind c data s) q = reportsAt s q := by
  unfold reportsAt answerDone
  rw [queue_place]
  split
  · exact reports_placedIn (by simp [resultFrame]) _
  · rfl

end

/-- Settles O25: the abort and the flush, in either order, then the passages and the conditions at sea. -/
theorem modeSetLocal : Obligations.ModeSetLocal := by
  intro p s h u
  refine ⟨fun hm => ?_, fun hm => ?_, fun hm hlaw => ends_of (exec_modeSetLocal h) ?_⟩
  · rw [exec_modeSetLocal h]
    unfold requestLocal
    rw [show (acceptFrame p s).mc.mode = .LOCAL from hm]
  · rw [exec_modeSetLocal h]
    unfold requestLocal
    rw [show (acceptFrame p s).mc.mode = .EMERGENCY from hm]
  · have hreq : requestLocal p (acceptFrame p s) = answerDone p 2 false [] (settleRuns (enterLocal u)) := by
      unfold requestLocal
      rw [show (acceptFrame p s).mc.mode = .CLOSED from hm]
    have hcleared := abortAndFlush_cleared (setMode .LOCAL u)
    have hended := passagesEnded (abortAndFlush (setMode .LOCAL u))
    have hsea := clearAtSea_cleared (forEach allDoors endAnyPassage (abortAndFlush (setMode .LOCAL u)))
    have hpassage : ∀ d, (enterLocal u).passage d = none := passage_enterLocal u
    have hal : AlarmLaw (forEach allDoors endAnyPassage (abortAndFlush (setMode .LOCAL u))) :=
      alarmLaw_steps ((Steps.abortAndFlush _).trans (.forEach (fun _ _ => .endAnyPassage ..) _ _)) hlaw
    rw [hreq]
    unfold enterLocal at *
    generalize abortAndFlush (setMode .LOCAL u) = a at *
    generalize forEach allDoors endAnyPassage a = b at *
    generalize clearAtSea b = c at *
    have hgru : c.gru = { s.gru with slots := Vector.replicate 5 none, slotting := [], stack := [], resumed := [] } :=
      hsea.gru.trans (hended.gru.trans hcleared.gru)
    rw [settleRuns_eq_self (by rw [hgru])]
    have hblock : BlockFrame u c :=
      (BlockFrame.setMode .LOCAL u).trans (hcleared.toBlockFrame.trans (hended.toBlockFrame.trans hsea.toBlockFrame))
    have hans := frame_answerDone p 2 false [] c
    have hcs : (answerDone p 2 false [] c).cs = a.cs := hans.cs.trans (hsea.cs.trans hended.cs)
    have hrc : (answerDone p 2 false [] c).rc = a.rc := hans.rc.trans (hsea.rc.trans hended.rc)
    have hentry (d : DoorIx) : (answerDone p 2 false [] c).entry d = a.entry d := entry_congr (by rw [hcs]) d
    have hclaim (d : DoorIx) : claimOf (answerDone p 2 false [] c) d = claimOf a d := by unfold claimOf; rw [hentry]
    have hpend (d : DoorIx) (k : OrderKind) (hp : Pending a d k) : Pending (answerDone p 2 false [] c) d k := by
      unfold Pending at *; rw [hrc]; exact hp
    have htgru : (answerDone p 2 false [] c).gru =
        { s.gru with slots := Vector.replicate 5 none, slotting := [], stack := [], resumed := [] } := hans.gru.trans hgru
    have hmc : c.mc = { b.mc with oas := Vector.replicate 96 ⟨0, false⟩ } := hsea.mc
    refine ⟨?_, fun d => ⟨?_, ?_, ?_⟩, ?_, ?_, ?_, fun i => ?_, ?_, ?_, ?_, fun q => ?_, fun d e he hf => ?_, fun d e he hf hph => ?_,
      fun d e he hf hph => ?_, fun d hd => ?_, ?_, ?_, done_answerDone .., ?_⟩
    · rw [hans.mc, hmc]
      exact hended.mode.trans hcleared.mode
    · exact (passage_of_mc_passages (congrArg Mc.passages hans.mc) d).trans (hpassage d)
    · rw [hans.mc, hmc]
      simp
    · exact (cleared_congr hans.al).mpr (hsea.cleared hal d)
    · exact hans.sea.trans hblock.sea
    · exact hans.line.trans hblock.line
    · rw [hans.mc, hmc]
      exact hended.bridgeLost.trans hcleared.bridgeLost
    · rw [SlotIdle, htgru]
      simp
    · rw [htgru]
    · rw [htgru]
    · rw [htgru]
    · rw [reportsAt_answerDone, reportsAt_of_joined (hsea.joined), reportsAt_of_joined hended.joined,
        reportsAt_of_joined hcleared.joined]
      unfold reportsAt
      rw [show (setMode .LOCAL u).sp[q].queue = s.sp[q].queue by
        show ((acceptFrame p s).sp[q]).queue = _
        unfold acceptFrame
        exact queue_modPort s p q _ ▸ by split <;> rfl]
    · rw [hclaim]
      exact hcleared.kept d e he hf
    · obtain ⟨hnone, hstop⟩ := hcleared.warned d e he hf hph
      exact ⟨(hentry d).trans hnone, hpend d .STOP hstop⟩
    · rw [hentry, hclaim, phaseOf, hentry]
      exact hcleared.waited d e he hf hph
    · exact (hentry d).trans (hcleared.empty d hd)
    · exact hans.ms.trans (hsea.ms.trans (hended.ms.trans hcleared.ms))
    · exact OnlyOrders.trans (t := c) hblock.orders (by unfold OnlyOrders; rw [hans.rc])
    · exact aside_of_answer hblock ..

end Sys2Proof.Proofs
end

section
/-! ## Reports to the runs: what they keep of the slots, and that every resumed run looks -/
namespace Sys2Proof.Proofs
open Sys2Proof Sys2Proof.Machine

set_option Elab.async false

/-- A run without its counts. -/
def standing (r : Run) : Run :=
  { r with enqueued := 0, merged := 0, already := 0, overruled := 0, refused := 0, completed := 0, faulted := 0, outstanding := 0 }

/-- A relation that reports of tags to GRU meet, and everything that leaves GRU alone. -/
structure Reporting (R : State → State → Prop) : Prop where
  trans : ∀ {s t u}, R s t → R t u → R s u
  quiet : ∀ {s t}, t.gru = s.gru → R s t
  count : ∀ n f s, (∀ r : Run, standing (f r) = standing r) → R s (modRun n f s)
  complete : ∀ n s, R s (completeRun n s)

section
variable {R : State → State → Prop} (c : Reporting R)
include c

theorem Reporting.countTag (tag : Option RunTag) (fate : TagFate) (s : State) : R s (countTag tag fate s) := by
  cases tag with
  | none => exact c.quiet rfl
  | some x => exact c.count _ _ s fun r => by cases fate <;> rfl

theorem Reporting.reportTag (tag : Option RunTag) (fate : TagFate) (s : State) : R s (reportTag tag fate s) := by
  cases tag with
  | none => exact c.quiet rfl
  | some x => exact c.trans (c.countTag (some x) fate s) (c.complete ..)

theorem Reporting.reverseEntry (m : Demand) (e : Entry) (s : State) : R s (reverseEntry m e s) :=
  c.trans (c.reportTag ..) (c.quiet rfl)

theorem Reporting.decideDemand (m : Demand) (s : State) : R s (decideDemand m s).2 := by
  have beaten : R s (endBeaten m s) := c.quiet (Ending.endBeaten m s).gru
  have gone (e : Entry) : R s (recloseGone m.door e.direction (endBeaten m s)) :=
    c.trans beaten (c.quiet (Ending.recloseGone ..).gru)
  unfold Machine.decideDemand
  split
  · exact c.quiet rfl
  split
  · exact c.quiet rfl
  split
  · exact c.quiet rfl
  unfold decideClaims
  split
  · next e _ =>
    split
    · refine c.quiet ?_
      unfold merge
      simp only
      split
      · exact (ScheduleFrame.pass ..).gru
      · rfl
    split
    · split
      · refine c.trans (c.trans (gone e) (c.reverseEntry m e _)) (c.quiet ?_)
        unfold reverse
        simp only
        split
        · exact (ScheduleFrame.pass ..).gru
        · rfl
      · refine c.trans (c.trans (gone e) (c.reportTag e.tag .overruled _)) (c.quiet ?_)
        have harrived (u : State) : (takeArrival m.door u).2.gru = u.gru := by
          show (arrived m.door u).gru = u.gru
          rw [arrived_eq]
        unfold replace
        simp only
        split
        · exact (ScheduleFrame.evalDelay ..).gru.trans ((ScheduleFrame.pass ..).gru.trans
            ((ScheduleFrame.queueOrder? ..).gru.trans (harrived _)))
        · exact (ScheduleFrame.pass ..).gru.trans ((ScheduleFrame.queueOrder? ..).gru.trans (harrived _))
    · exact c.quiet rfl
  · split
    · unfold settleDemand
      split
      · exact beaten
      · exact c.trans beaten (c.quiet (enqueue_gru ..))
    · exact c.quiet rfl

end

/-! ### Runs that are not TRACKING stay (R97) -/

section
variable {s t : State} {i j : SlotIx}

/-- The slot holds no run that is TRACKING. -/
def NotTracking (s : State) (j : SlotIx) : Prop := ∀ r ∈ s.gru.slots[j], r.state ≠ .TRACKING

theorem state_of_standing {x r : Run} (h : standing x = standing r) : x.state = r.state :=
  show (standing x).state = (standing r).state by rw [h]
theorem number_of_standing {x r : Run} (h : standing x = standing r) : x.number = r.number :=
  show (standing x).number = (standing r).number by rw [h]

/-- A run in a slot that is not TRACKING stays in it as it stands. -/
def Stays (j : SlotIx) (s t : State) : Prop :=
  ∀ r, s.gru.slots[j] = some r → r.state ≠ .TRACKING → ∃ x, t.gru.slots[j] = some x ∧ standing x = standing r

theorem Stays.of_eq (h : t.gru.slots[j] = s.gru.slots[j]) : Stays j s t := fun r hr _ => ⟨r, h.trans hr, rfl⟩
theorem Stays.trans {u : State} (h : Stays j s t) (g : Stays j t u) : Stays j s u := fun r hr hne => by
  obtain ⟨x, hx, hxs⟩ := h r hr hne
  obtain ⟨y, hy, hys⟩ := g x hx (by rw [state_of_standing hxs]; exact hne)
  exact ⟨y, hy, hys.trans hxs⟩

/-- What the top of the stack resumes into is the slot given up. -/
theorem resumeTop_slots (h : j ≠ i) (l : List Run) (s : State) : (resumeTop i l s).gru.slots[j] = s.gru.slots[j] := by
  induction l generalizing s with
  | nil => rfl
  | cons r rest ih =>
    unfold resumeTop
    split
    · rw [ih, (PlaceFrame.sendReport ..).gru]
    · simp only
      split <;> simp [setResumed, setSlotting, setSlot, setStack, Ne.symm h, Fin.val_inj]

theorem vacate_slots (h : j ≠ i) (s : State) : (vacate i s).gru.slots[j] = s.gru.slots[j] := by
  have hfreed : (setSlotting (s.gru.slotting.filter fun k => decide (k ≠ i)) (setSlot i none s)).gru.slots[j] = s.gru.slots[j] := by
    simp [setSlotting, setSlot, Ne.symm h, Fin.val_inj]
  unfold vacate
  simp only
  split
  · exact hfreed
  · exact (resumeTop_slots h ..).trans hfreed

theorem completeSlot_slots (h : j ≠ i) (s : State) : (completeSlot i s).gru.slots[j] = s.gru.slots[j] := by
  unfold completeSlot
  split
  · split
    · rw [vacate_slots h, (PlaceFrame.sendReport ..).gru]
    · rfl
  · rfl

theorem done_iff {r : Run} : r.done = true ↔ r.state = .TRACKING ∧ r.outstanding = 0 := by simp [Run.done]

theorem Stays.completeSlot (i j : SlotIx) (s : State) : Stays j s (completeSlot i s) := by
  by_cases h : j = i
  · subst h
    intro r hr hne
    have hself : Machine.completeSlot j s = s := completeSlot_eq_self fun x hx => by
      rw [hr] at hx
      cases hx
      rw [Bool.eq_false_iff]
      exact fun hd => hne (done_iff.mp hd).1
    rw [hself]
    exact ⟨r, hr, rfl⟩
  · exact .of_eq (completeSlot_slots h s)

/-- A report keeps the runs that are not TRACKING in their slots. -/
theorem reporting_stays (j : SlotIx) : Reporting (Stays j) where
  trans := .trans
  quiet h := .of_eq (by rw [h])
  count n f s hf := fun r hr _ => by
    refine ⟨if r.number = n then f r else r, ?_, ?_⟩
    · simp only [modRun, Fin.getElem_fin, updAll, Vector.getElem_ofFn]
      rw [show s.gru.slots[j.val] = some r from hr]
      rfl
    · split
      · exact hf r
      · rfl
  complete n s := by
    unfold Machine.completeRun completeStacked
    split
    · exact Stays.completeSlot _ j s
    · split
      · refine .of_eq ?_
        show (Machine.sendReport _ _ s).gru.slots[j] = _
        rw [(PlaceFrame.sendReport ..).gru]
      · exact .of_eq rfl

/-- Whatever befalls the run of one slot, another run that is not TRACKING stays in its own. -/
theorem Stays.submitAt (h : j ≠ i) (s : State) : Stays j s (submitAt i s) := by
  have advanced (u : State) : Stays j u (advance i u) := by
    unfold advance
    split
    · next r _ => exact .of_eq ((completeSlot_slots h _).trans (by simp [setSlot, Ne.symm h, Fin.val_inj]))
    · exact .of_eq rfl
  unfold Machine.submitAt
  split
  · next r _ =>
    split
    · next d _ =>
      refine Stays.trans ((reporting_stays j).decideDemand (r.demand d) s) (Stays.trans ?_ (advanced _))
      exact (reporting_stays j).count _ _ _ fun x => by
        unfold Run.takeOutcome
        split <;> rfl
    · exact advanced s
  · exact .of_eq rfl

theorem raiseBypass_gru (r : Run) (s : State) : (raiseBypass r s).gru = s.gru := by
  unfold raiseBypass
  split
  · exact (AlarmFrame.raiseEvent ..).gru
  · rfl

theorem Stays.bypassAt (h : j ≠ i) (s : State) : Stays j s (bypassAt i s) := by
  unfold Machine.bypassAt
  split
  · exact (Stays.of_eq (by rw [raiseBypass_gru])).trans (.submitAt h _)
  · exact .of_eq rfl

theorem Stays.notTracking (h : Stays j s t) (hw : slotIn s j .WAITING = true) : NotTracking t j := by
  unfold slotIn at hw
  cases hr : s.gru.slots[j] with
  | none => rw [hr] at hw; cases hw
  | some r =>
    rw [hr] at hw
    have hstate : r.state = .WAITING := of_decide_eq_true hw
    obtain ⟨x, hx, hxs⟩ := h r hr (by rw [hstate]; decide)
    intro y hy
    rw [hx] at hy
    cases hy
    rw [state_of_standing hxs, hstate]
    decide

theorem notTracking_of_slotIn {st : RunState} (h : slotIn s i st = true) (hst : st ≠ .TRACKING) : NotTracking s i := by
  unfold slotIn at h
  intro r hr
  rw [show s.gru.slots[i] = some r from hr] at h
  rw [of_decide_eq_true h]
  exact hst

theorem notTracking_congr (h : t.gru = s.gru) (hs : NotTracking s i) : NotTracking t i := by unfold NotTracking; rw [h]; exact hs

/-! ### Every resumed run looks (R98) -/

/-- The looks a resume may still bring: the slots noted and the contexts stacked. -/
def looks (s : State) : Nat := s.gru.resumed.length + s.gru.stack.length

theorem looks_resumeTop (i : SlotIx) (l : List Run) (s : State) :
    looks (resumeTop i l s) ≤ s.gru.resumed.length + l.length := by
  induction l generalizing s with
  | nil => exact Nat.le_refl _
  | cons r rest ih =>
    unfold resumeTop
    split
    · refine (ih _).trans ?_
      rw [(PlaceFrame.sendReport ..).gru, List.length_cons]
      omega
    · simp only
      split <;> simp [looks, setResumed, setSlotting, setSlot, setStack] <;> omega

theorem looks_vacate (i : SlotIx) (s : State) : looks (vacate i s) ≤ looks s := by
  unfold vacate
  simp only
  split
  · exact Nat.le_refl _
  · exact looks_resumeTop ..

theorem looks_completeSlot (i : SlotIx) (s : State) : looks (completeSlot i s) ≤ looks s := by
  unfold completeSlot
  split
  · split
    · refine (looks_vacate i _).trans ?_
      unfold looks
      rw [(PlaceFrame.sendReport ..).gru]
    · exact Nat.le_refl _
  · exact Nat.le_refl _

theorem looks_modRun (n : Byte) (f : Run → Run) (s : State) : looks (modRun n f s) = looks s := by simp [looks, modRun]

/-- No report brings more looks. -/
theorem reporting_looks : Reporting fun s t => looks t ≤ looks s where
  trans h g := g.trans h
  quiet h := by unfold looks; rw [h]
  count n f s _ := Nat.le_of_eq (looks_modRun n f s)
  complete n s := by
    unfold Machine.completeRun completeStacked
    split
    · exact looks_completeSlot ..
    · split
      · have hle := List.length_filter_le (fun x : Run => decide (x.number ≠ n)) s.gru.stack
        show looks (Machine.setStack _ (Machine.sendReport _ _ s)) ≤ _
        simp only [looks, setStack, (PlaceFrame.sendReport ..).gru] at *
        omega
      · exact Nat.le_refl _

theorem looks_submitAt (i : SlotIx) (s : State) : looks (submitAt i s) ≤ looks s := by
  have advanced (u : State) : looks (advance i u) ≤ looks u := by
    unfold advance
    split
    · exact looks_completeSlot ..
    · exact Nat.le_refl _
  unfold submitAt
  split
  · next r _ =>
    split
    · next d _ =>
      have hdecide := reporting_looks.decideDemand (r.demand d) s
      exact (advanced _).trans (Nat.le_of_eq (looks_modRun ..) |>.trans hdecide)
    · exact advanced s
  · exact Nat.le_refl _

theorem looks_bypassAt (i : SlotIx) (s : State) : looks (bypassAt i s) ≤ looks s := by
  unfold bypassAt
  split
  · refine (looks_submitAt i _).trans ?_
    unfold looks
    rw [raiseBypass_gru]
  · exact Nat.le_refl _

theorem looks_takeListEntry (i : SlotIx) (age : Nat) (s : State) : looks (takeListEntry i age s) ≤ looks s := by
  unfold takeListEntry
  split
  · split
    · split
      · exact looks_submitAt ..
      · exact looks_bypassAt ..
      · unfold setStage
        split <;> exact Nat.le_refl _
    · exact looks_submitAt ..
  · exact Nat.le_refl _

theorem settleOne_of_none (h : s.gru.resumed = []) : settleOne s = s := by
  unfold settleOne
  rw [h]

/-- A look takes its slot off the note. -/
theorem looks_settleOne (h : s.gru.resumed ≠ []) : looks (settleOne s) + 1 ≤ looks s := by
  unfold settleOne
  cases hr : s.gru.resumed with
  | nil => exact absurd hr h
  | cons i rest =>
    have hpop : looks (setResumed rest s) + 1 ≤ looks s := by
      simp only [looks, setResumed, hr, List.length_cons]
      omega
    simp only
    split
    · unfold lookAgain
      split
      · exact (Nat.add_le_add_right (looks_takeListEntry ..) 1).trans hpop
      · exact hpop
    · exact hpop

theorem resumed_forEach_settleOne (l : List Nat) (s : State) (h : looks s ≤ l.length) :
    (forEach l (fun _ => settleOne) s).gru.resumed = [] := by
  induction l generalizing s with
  | nil =>
    have hzero : s.gru.resumed.length = 0 := by
      have : looks s ≤ 0 := h
      unfold looks at this
      omega
    exact List.length_eq_zero_iff.mp hzero
  | cons k rest ih =>
    show (forEach rest (fun _ => settleOne) (settleOne s)).gru.resumed = []
    by_cases hr : s.gru.resumed = []
    · rw [settleOne_of_none hr]
      have hstill : ∀ l : List Nat, forEach l (fun _ => settleOne) s = s := fun l => by
        induction l with
        | nil => rfl
        | cons _ tail iht =>
          show forEach tail (fun _ => settleOne) (settleOne s) = s
          rw [settleOne_of_none hr]
          exact iht
      rw [hstill]
      exact hr
    · refine ih _ ?_
      have hlook := looks_settleOne hr
      rw [List.length_cons] at h
      omega

/-- R98: after the looks no resumed run is left to look. -/
theorem resumed_settleRuns (s : State) : (settleRuns s).gru.resumed = [] :=
  resumed_forEach_settleOne _ s (by rw [List.length_range]; exact Nat.le_refl _)

end

end Sys2Proof.Proofs
end

section
/-! ## What a command does to the schedule and the runs

Every command is a chain of operations on the schedule and the runs, after each of which the laws of both hold again. The chain is
found once, operation by operation; the laws of the schedule and of the runs are then proved of the operations alone. -/
namespace Sys2Proof.Proofs
open Sys2Proof Sys2Proof.Machine

set_option Elab.async false

/-- An entry without its timers and what supervises its movement. -/
def Entry.core (e : Entry) : Entry :=
  { e with warnRemaining := 0, readyAge := 0, repeatUsed := false, started := false, elapsed := 0, deadline := 0,
           hardLimit := 0, overtimeRaised := false, startWindow := 0, moveWarn := false }

/-- A run without its wait age. -/
def Run.core (r : Run) : Run := { r with waitAge := 0 }

/-- An update that leaves entries, flow, runs and tables but for timers, and sets no latch. -/
structure Still (s t : State) : Prop where
  entries : ∀ d : DoorIx, (t.entry d).map Entry.core = (s.entry d).map Entry.core := by exact fun _ => rfl
  arrivals : t.cs.nextArrival = s.cs.nextArrival := by rfl
  flow : ∀ h : HpuIx, t.cs.flow[h].committed = s.cs.flow[h].committed ∧ t.cs.flow[h].capacityE = s.cs.flow[h].capacityE := by
    exact fun _ => ⟨rfl, rfl⟩
  slots : ∀ i : SlotIx, t.gru.slots[i].map Run.core = s.gru.slots[i].map Run.core := by exact fun _ => rfl
  slotting : t.gru.slotting = s.gru.slotting := by rfl
  stack : t.gru.stack = s.gru.stack := by rfl
  resumed : t.gru.resumed = s.gru.resumed := by rfl
  doors : t.tables.doors = s.tables.doors := by rfl
  hpus : t.tables.hpus = s.tables.hpus := by rfl
  system : t.tables.system = s.tables.system := by rfl
  latch : ∀ d : DoorIx, t.latch d ≠ .NONE → s.latch d ≠ .NONE := by exact fun _ h => h

/-- The part of `launchSystem` that follows the looks of resumed runs. -/
def launchTail (cls : Nat) (origin : RunOrigin) (s : State) : State :=
  takeSlot slotS .ALL .CLOSE cls .A origin
    (match s.gru.slots[slotS] with
      | some r => detachTag r.number s
      | none => s)

/-- The operations on the schedule and the runs that a command is made of. `lawful` says that the HPU fields of doors with an entry
name an HPU. -/
inductive Meso (lawful : Prop) : State → State → Prop where
  | still {s t : State} (h : Still s t) : Meso lawful s t
  | pass (h : HpuIx) (s : State) : Meso lawful s (pass h s)
  | leave (c : RemovalCause) (d : DoorIx) (s : State) (hc : c ≠ .FLUSH ∧ c ≠ .CANCEL) : Meso lawful s (removeEntry c d s)
  | demand (m : Demand) (s : State) (htag : m.tag = none) : Meso lawful s (decideDemand m s).2
  | submit (i : SlotIx) (s : State) (h : NotTracking s i) : Meso lawful s (submitAt i s)
  | wait (i : SlotIx) (age : Nat) (s : State) : Meso lawful s (setStage i .WAITING age s)
  | noted (l : List SlotIx) (s : State) : Meso lawful s (setResumed l s)
  | cancel (r : Run) (s : State) (hr : r ∈ liveRuns s) : Meso lawful s (cancelRun r s)
  | accept (p : PortIx) (g : GroupRef) (dir : Direction) (cls : Nat) (s : State) : Meso lawful s (acceptRun p g dir cls s).2
  | launch (cls : Nat) (o : RunOrigin) (s : State) : Meso lawful s (launchTail cls o s)
  | abort (s : State) : Meso lawful s (abortAndFlush s)
  | raise (s : State) : Meso lawful s (raiseForEmergency s)
  | deny (s : State) : Meso lawful s (denyForEmergency s)
  | turn (o : Origin) (d : DoorIx) (s : State) (h : phaseOf s d = some .MOVING) : Meso lawful s (reverseOne o d s)
  | adopt (d : DoorIx) (dir : Direction) (s : State) (hentry : s.entry d = none) (hlatch : s.latch d = .NONE) :
      Meso lawful s (adopt d dir s)
  | latch (d : DoorIx) (k : Latch) (s : State) (hentry : s.entry d = none) : Meso lawful s (setLatch d k s)
  | recompute (h : HpuIx) (s : State) : Meso lawful s (recomputeE h s)
  | warned (d : DoorIx) (e : Entry) (s : State) (he : s.entry d = some e) (hphase : e.phase = .WARNING) :
      Meso lawful s (warningExpires d e s)
  | writeDoor (d : DoorIx) (c : DoorConfig) (s : State) (hfree : s.entry d = none) :
      Meso lawful s (setTables (withDoor s.tables d c) s)
  | writeHpu (h : HpuIx) (c : HpuConfig) (s : State) (hfree : lawful → ∀ d : DoorIx, entryIn s h .READY d = false) :
      Meso lawful s (setTables (withHpu s.tables h c) s)
  | writeSystem (c : SystemRecord) (s : State) : Meso lawful s (systemWritten s.tables.system c s)
  | fresh {s t : State} (hentry : ∀ d : DoorIx, t.entry d = none) (hflow : ∀ h : HpuIx, t.cs.flow[h].committed = 0)
      (hnext : t.cs.nextArrival ≤ arrivalTop) (hslots : ∀ i : SlotIx, t.gru.slots[i] = none) (hslotting : t.gru.slotting = [])
      (hstack : t.gru.stack = []) (hresumed : t.gru.resumed = []) : Meso lawful s t

/-- A chain of operations. -/
abbrev Mesos (lawful : Prop) : State → State → Prop := Relation.ReflTransGen (Meso lawful)

/-- A chain that leaves no resumed run to look, where there was none before it. -/
structure Course (lawful : Prop) (s t : State) : Prop where
  chain : Mesos lawful s t
  looked : s.gru.resumed = [] → t.gru.resumed = []

section
variable {L : Prop} {s t u : State}

theorem Mesos.refl (s : State) : Mesos L s s := Relation.ReflTransGen.refl
theorem Mesos.one (h : Meso L s t) : Mesos L s t := Relation.ReflTransGen.single h
theorem Mesos.still (h : Still s t) : Mesos L s t := .one (.still h)
theorem Mesos.chained (h : Mesos L s t) (g : Mesos L t u) : Mesos L s u := Relation.ReflTransGen.trans h g
theorem Mesos.next (h : Mesos L s t) (g : Meso L t u) : Mesos L s u := h.tail g
theorem Mesos.ite {c : Prop} [Decidable c] {a b : State} (h : c → Mesos L s a) (g : ¬c → Mesos L s b) :
    Mesos L s (if c then a else b) := by
  split
  · next hc => exact h hc
  · next hc => exact g hc
theorem Mesos.forEach {ι : Type} {act : ι → State → State} (h : ∀ i s, Mesos L s (act i s)) (l : List ι) (s : State) :
    Mesos L s (forEach l act s) := forEach_rel .refl (fun a b => a.trans b) h l s

theorem Course.refl (s : State) : Course L s s := ⟨.refl s, id⟩
theorem Course.trans (h : Course L s t) (g : Course L t u) : Course L s u := ⟨h.chain.trans g.chain, g.looked ∘ h.looked⟩
theorem Course.still (h : Still s t) : Course L s t := ⟨.still h, fun hr => h.resumed.trans hr⟩
theorem Course.quiet (h : Meso L s t) (hgru : t.gru = s.gru) : Course L s t := ⟨.one h, fun hr => by rw [hgru, hr]⟩
theorem Course.settled (h : Mesos L s (settleRuns t)) : Course L s (settleRuns t) := ⟨h, fun _ => resumed_settleRuns t⟩
theorem Course.ite {c : Prop} [Decidable c] {a b : State} (h : c → Course L s a) (g : ¬c → Course L s b) :
    Course L s (if c then a else b) := by
  split
  · next hc => exact h hc
  · next hc => exact g hc
theorem Course.forEach {ι : Type} {act : ι → State → State} (h : ∀ i s, Course L s (act i s)) (l : List ι) (s : State) :
    Course L s (forEach l act s) := forEach_rel .refl .trans h l s

end

/-! ### Updates that leave schedule and runs -/

section
variable {s t u : State}

theorem Still.refl (s : State) : Still s s := {}
theorem Still.trans (h : Still s t) (g : Still t u) : Still s u where
  entries d := (g.entries d).trans (h.entries d)
  arrivals := g.arrivals.trans h.arrivals
  flow x := ⟨(g.flow x).1.trans (h.flow x).1, (g.flow x).2.trans (h.flow x).2⟩
  slots i := (g.slots i).trans (h.slots i)
  slotting := g.slotting.trans h.slotting
  stack := g.stack.trans h.stack
  resumed := g.resumed.trans h.resumed
  doors := g.doors.trans h.doors
  hpus := g.hpus.trans h.hpus
  system := g.system.trans h.system
  latch d hd := h.latch d (g.latch d hd)

theorem Still.of_eq (hcs : t.cs = s.cs) (hgru : t.gru = s.gru) (htables : t.tables = s.tables)
    (hlatch : ∀ d : DoorIx, t.latch d ≠ .NONE → s.latch d ≠ .NONE) : Still s t where
  entries d := by unfold State.entry; rw [hcs]
  arrivals := by rw [hcs]
  flow h := by rw [hcs]; exact ⟨rfl, rfl⟩
  slots i := by rw [hgru]
  slotting := by rw [hgru]
  stack := by rw [hgru]
  resumed := by rw [hgru]
  doors := by rw [htables]
  hpus := by rw [htables]
  system := by rw [htables]
  latch := hlatch

theorem Still.alarm (h : AlarmFrame s t) (hlatch : ∀ d : DoorIx, t.latch d ≠ .NONE → s.latch d ≠ .NONE) : Still s t :=
  .of_eq h.cs h.gru h.tables hlatch
theorem latch_of_ms (h : t.ms = s.ms) (d : DoorIx) (hd : t.latch d ≠ .NONE) : s.latch d ≠ .NONE := by
  unfold State.latch at *; rwa [h] at hd
theorem Still.same (hcs : t.cs = s.cs) (hgru : t.gru = s.gru) (htables : t.tables = s.tables) (hms : t.ms = s.ms) : Still s t :=
  .of_eq hcs hgru htables (latch_of_ms hms)
theorem Still.frame (h : PlaceFrame s t) : Still s t := .alarm h.toAlarmFrame (latch_of_ms h.ms)

theorem Still.ite {c : Prop} [Decidable c] {a b : State} (h : c → Still s a) (g : ¬c → Still s b) : Still s (if c then a else b) := by
  split
  · next hc => exact h hc
  · next hc => exact g hc
theorem Still.forEach {ι : Type} {act : ι → State → State} (h : ∀ i s, Still s (act i s)) (l : List ι) (s : State) :
    Still s (forEach l act s) := forEach_rel .refl .trans h l s

theorem Still.place (p : PortIx) (f : Frame) (s : State) : Still s (place p f s) := .frame (.place p f s)
theorem Still.queueOrder (d : DoorIx) (k : OrderKind) (s : State) : Still s (queueOrder d k s) := {}
theorem Still.raiseAlarm (k : AlarmKind) (x : Nat) (s : State) : Still s (raiseAlarm k x s) :=
  .alarm (.raiseAlarm k x s) (latch_of_ms (ms_raiseAlarm ..))
theorem Still.raiseDoor (k : AlarmKind) (d : DoorIx) (s : State) : Still s (raiseDoor k d s) := .raiseAlarm k d.val s
theorem Still.raiseEvent (k : AlarmKind) (x : Nat) (s : State) : Still s (raiseEvent k x s) :=
  .alarm (.raiseEvent k x s) (latch_of_ms (ms_raiseEvent ..))

theorem latch_removeRecord_le (r : AlarmRecord) (s : State) (d : DoorIx) (h : (removeRecord r s).latch d ≠ .NONE) :
    s.latch d ≠ .NONE := by
  rw [latch_removeRecord] at h
  split at h
  · exact absurd rfl h
  · exact h

theorem Still.removeRecord (r : AlarmRecord) (s : State) : Still s (removeRecord r s) :=
  .alarm (.removeRecord r s) (latch_removeRecord_le r s)

theorem Still.clearAlarm (k : AlarmKind) (x : Nat) (s : State) : Still s (clearAlarm k x s) := by
  unfold Machine.clearAlarm
  split
  · next r _ =>
    split
    · exact .removeRecord r s
    · next hstate =>
      unfold clearRecord
      split
      · exact .alarm (.updateRecord ..) (latch_of_ms (ms_updateRecord ..))
      · next h => exact absurd h hstate
      · exact .refl s
  · exact .refl s
theorem Still.clearDoor (k : AlarmKind) (d : DoorIx) (s : State) : Still s (clearDoor k d s) := .clearAlarm k d.val s

theorem Still.ackRecord (r : AlarmRecord) (s : State) : Still s (ackRecord r s) := by
  unfold Machine.ackRecord
  split
  · exact .alarm (.updateRecord ..) (latch_of_ms (ms_updateRecord ..))
  · exact .refl s
  · exact .removeRecord r s
theorem Still.ackNamed (k : AlarmKind) (x : Nat) (s : State) : Still s (ackNamed k x s) := by
  unfold Machine.ackNamed
  split
  · exact .ackRecord ..
  · exact .refl s
theorem Still.ackAll (s : State) : Still s (ackAll s) := .forEach (fun _ _ => .ackNamed ..) _ s

theorem Still.modPort (s : State) (p : PortIx) (f : StationPort → StationPort) : Still s (s.modPort p f) := {}
theorem Still.answerDone (p : PortIx) (kind : Nat) (c : Bool) (data : List Byte) (s : State) :
    Still s (answerDone p kind c data s) := .place ..
theorem Still.refuseWith (p : PortIx) (kind : Nat) (code : ResultCode) (c : Bool) (data : List Byte) (s : State) :
    Still s (refuseWith p kind code c data s) := (Still.modPort s p _).trans (.place ..)
theorem Still.refuse (p : PortIx) (kind : Nat) (code : ResultCode) (s : State) : Still s (refuse p kind code s) := .refuseWith ..

theorem Still.sendSummary (p : PortIx) (s : State) : Still s (sendSummary p s) := by
  unfold Machine.sendSummary
  simp only
  split <;> exact (Still.place ..).trans (.same rfl rfl rfl rfl)
theorem Still.sendSummaries (s : State) : Still s (sendSummaries s) := .forEach (fun _ _ => .sendSummary ..) _ s
theorem Still.setPacing (s : State) (p : PortIx) (x : Pacing) : Still s (s.setPacing p x) := {}
theorem Still.pacingChange (p : PortIx) (s : State) : Still s (pacingChange p s) :=
  .ite (fun _ => .setPacing ..) fun _ => .sendSummary ..
theorem Still.recomputeComps (l : List CompIx) (s : State) : Still s (recomputeComps l s) := by
  unfold Machine.recomputeComps
  have written : Still s (writeComps l s) := by unfold writeComps; exact .same rfl rfl rfl rfl
  exact .ite (fun _ => written.trans (.forEach (fun _ _ => .pacingChange ..) _ _)) fun _ => written

theorem Still.modFlow (h : HpuIx) (f : HpuFlow → HpuFlow) (hf : ∀ x, (f x).committed = x.committed ∧ (f x).capacityE = x.capacityE)
    (s : State) : Still s (s.modFlow h f) where
  flow x := by
    simp only [State.modFlow_cs_flow, Fin.getElem_fin, getElem_upd]
    split
    · next hx => rw [Fin.val_inj] at hx; subst hx; exact hf _
    · exact ⟨rfl, rfl⟩

theorem Still.evalDelay (h : HpuIx) (s : State) : Still s (evalDelay h s) := by
  have flagged (b : Bool) : Still s (s.modFlow h fun f => { f with delayAlarm := b }) := .modFlow h (fun f => { f with delayAlarm := b }) (fun _ => ⟨rfl, rfl⟩) s
  exact .ite (fun _ => .ite (fun _ => .refl s) fun _ => (flagged true).trans (.raiseAlarm ..)) fun _ =>
    .ite (fun _ => (flagged false).trans (.clearAlarm ..)) fun _ => .refl s

theorem Still.endPassage (d : DoorIx) (s : State) : Still s (endPassage d s) :=
  Still.trans (t := s.dropPassage d) {} (.clearDoor ..)
theorem Still.endAnyPassage (d : DoorIx) (s : State) : Still s (endAnyPassage d s) := by
  unfold Machine.endAnyPassage
  split
  · exact .endPassage ..
  · exact .refl s

/-- An entry rewritten in its timers alone. -/
theorem Still.rewriteEntry {d : DoorIx} {e x : Entry} (he : s.entry d = some e) (hx : Entry.core x = Entry.core e) :
    Still s (s.setEntry d x) where
  entries y := by
    rw [entry_setEntry]
    split
    · next hy =>
      subst hy
      rw [he]
      exact congrArg some hx
    · rfl

end

end Sys2Proof.Proofs
end

section
/-! ## The chain of operations of each command -/
namespace Sys2Proof.Proofs
open Sys2Proof Sys2Proof.Machine

set_option Elab.async false

section
variable {L : Prop} {s t u : State}

/-! ### Runs that walk, wait and are told -/

theorem Still.raiseBypass (r : Run) (s : State) : Still s (raiseBypass r s) := by
  unfold Machine.raiseBypass
  split
  · exact .raiseEvent ..
  · exact .refl s

theorem Mesos.bypassAt {i : SlotIx} (h : NotTracking s i) : Mesos L s (bypassAt i s) := by
  unfold Machine.bypassAt
  split
  · next r _ =>
    exact (Mesos.still (.raiseBypass r s)).next (.submit i _ (notTracking_congr (raiseBypass_gru r s) h))
  · exact .refl s

theorem Mesos.takeListEntry {i : SlotIx} (age : Nat) (h : NotTracking s i) : Mesos L s (takeListEntry i age s) := by
  unfold Machine.takeListEntry
  split
  · split
    · split
      · exact .one (.submit i s h)
      · exact .bypassAt h
      · exact .one (.wait i age s)
    · exact .one (.submit i s h)
  · exact .refl s

theorem Mesos.walkStep (i : SlotIx) (s : State) : Mesos L s (walkStep i s) :=
  .ite (fun h => .takeListEntry 0 (notTracking_of_slotIn h (by decide))) fun _ => .refl s

theorem Mesos.settleOne (s : State) : Mesos L s (settleOne s) := by
  unfold Machine.settleOne
  split
  · next i rest _ =>
    have popped : Mesos L s (setResumed rest s) := .one (.noted rest s)
    refine popped.chained (.ite (fun h => ?_) fun _ => .refl _)
    unfold lookAgain
    split
    · exact .takeListEntry _ (notTracking_of_slotIn h (by decide))
    · exact .refl _
  · exact .refl s

theorem Course.settle (h : Mesos L s t) : Course L s (settleRuns t) :=
  .settled (h.chained (.forEach (fun _ => .settleOne) _ t))

theorem slotIn_of_waitsOn {d : DoorIx} {i : SlotIx} (h : waitsOn s d i = true) : slotIn s i .WAITING = true := by
  unfold waitsOn at h
  unfold slotIn
  split at h
  · next r hr =>
    simp only [Bool.and_eq_true] at h
    exact h.1
  · cases h

/-- An action for runs that wait is a chain where each action leaves the runs of the other slots that are not TRACKING. -/
theorem Mesos.forSlots {act : SlotIx → State → State} (chain : ∀ i s, NotTracking s i → Mesos L s (act i s))
    (stays : ∀ i j s, j ≠ i → Stays j s (act i s)) (l : List SlotIx) (hl : l.Nodup) {s : State}
    (h : ∀ i ∈ l, ∃ u, slotIn u i .WAITING = true ∧ Stays i u s) : Mesos L s (Machine.forEach l act s) := by
  induction l generalizing s with
  | nil => exact .refl s
  | cons i rest ih =>
    obtain ⟨u, hw, hu⟩ := h i (List.mem_cons_self ..)
    obtain ⟨hi, hrest⟩ := List.nodup_cons.mp hl
    refine (chain i s (hu.notTracking hw)).chained (ih hrest fun j hj => ?_)
    obtain ⟨v, hwj, hv⟩ := h j (List.mem_cons_of_mem _ hj)
    exact ⟨v, hwj, hv.trans (stays i j s fun hji => hi (hji ▸ hj))⟩

theorem Mesos.forWaiting (d : DoorIx) {act : SlotIx → State → State} (chain : ∀ i s, NotTracking s i → Mesos L s (act i s))
    (stays : ∀ i j s, j ≠ i → Stays j s (act i s)) (s : State) : Mesos L s (forWaiting d act s) := by
  refine .forSlots chain stays _ ((List.nodup_finRange 5).filter _) fun i hi => ⟨s, ?_, .of_eq rfl⟩
  exact slotIn_of_waitsOn (List.mem_filter.mp hi).2

theorem Mesos.bypassWaits (d : DoorIx) (s : State) : Mesos L s (bypassWaits d s) :=
  .forWaiting d (fun _ _ h => .bypassAt h) (fun _ _ s h => .bypassAt h s) s

theorem Mesos.pokeRuns (d : DoorIx) (s : State) : Mesos L s (pokeRuns d s) := by
  refine .forWaiting d (fun i s h => ?_) (fun i j s h => ?_) s
  · unfold hearPresentation
    split
    · exact .ite (fun _ => .one (.submit i s h)) fun _ => .ite (fun _ => .bypassAt h) fun _ => .refl s
    · exact .refl s
  · unfold hearPresentation
    split
    · split
      · exact .submitAt h s
      · split
        · exact .bypassAt h s
        · exact .of_eq rfl
    · exact .of_eq rfl

/-! ### Movement -/

theorem Mesos.leave (c : RemovalCause) (d : DoorIx) (s : State) (hc : c ≠ .FLUSH ∧ c ≠ .CANCEL) : Mesos L s (removeEntry c d s) :=
  .one (.leave c d s hc)

theorem Still.modSup {d : DoorIx} {f : Supervision → Supervision} (hf : ∀ m, (f m).latch = m.latch) (s : State) :
    Still s (s.modSup d f) where
  latch x := by
    rw [latch_modSup]
    split
    · next hx => subst hx; rw [hf]; exact id
    · exact id

theorem Mesos.arrive (d : DoorIx) (e : Entry) (b : Before) (s : State) : Mesos L s (arrive d e b s) := by
  have captured : Mesos L s (s.modSup d (Supervision.capture e.direction e.elapsed)) :=
    .still (.modSup (fun m => by unfold Supervision.capture; split <;> rfl) s)
  exact (Mesos.ite (fun _ => captured) fun _ => .refl s).chained (.leave _ _ _ (by decide))

theorem entry_removeEntry_self (c : RemovalCause) (d : DoorIx) (s : State) : (removeEntry c d s).entry d = none := by
  cases he : s.entry d with
  | none => rw [removeEntry_of_none he]; exact he
  | some e => exact (removed he c).gone

theorem Mesos.faultDoor (k : Latch) (d : DoorIx) (s : State) : Mesos L s (faultDoor k d s) :=
  (((Mesos.leave (.FAULT k) d s ⟨nofun, nofun⟩).next (.latch d k _ (entry_removeEntry_self ..))).next
    (.still (.raiseDoor ..))).chained (.bypassWaits ..)

theorem Mesos.startEntry {d : DoorIx} {e : Entry} (he : s.entry d = some e) : Mesos L s (startEntry d e s) :=
  .still (.rewriteEntry he rfl)

theorem Mesos.judgeEntry {d : DoorIx} {e : Entry} (b : Before) (he : s.entry d = some e) : Mesos L s (judgeEntry d e b s) := by
  unfold Machine.judgeEntry
  split
  · exact .arrive ..
  · exact .startEntry he
  · exact .faultDoor ..
  · exact .faultDoor ..
  · exact .refl s

theorem Mesos.releaseOnIdle (d : DoorIx) (prev : Handle) (s : State) : Mesos L s (releaseOnIdle d prev s) := by
  unfold Machine.releaseOnIdle
  split
  · exact .ite (fun _ => .leave _ _ _ (by decide)) fun _ => .refl s
  · exact .refl s

theorem phaseOf_adopt (d : DoorIx) (dir : Direction) (s : State) : phaseOf (adopt d dir s) d = some .MOVING := by
  unfold phaseOf Machine.adopt
  simp only
  rw [entry_congr (State.modFlow_cs_entries ..), entry_congr (t := State.makeEntry ..) (s := State.setEntry ..) rfl, entry_setEntry,
    if_pos rfl]
  rfl

theorem Mesos.foundMoving {d : DoorIx} (dir : Direction) (hentry : s.entry d = none) : Mesos L s (foundMoving d dir s) := by
  refine .ite (fun hlatch => (Mesos.one (.adopt d dir s hentry hlatch)).chained (.ite (fun _ => ?_) fun _ => .refl _)) fun _ =>
    .still (.raiseDoor ..)
  exact (Mesos.one (.turn .MODE d _ (phaseOf_adopt d dir s))).next (.pass ..)

theorem Mesos.presentMS (d : DoorIx) (b : Before) (s : State) : Mesos L s (presentMS d b s) := by
  have cleared : Mesos L s (clearAtRest d s) := .ite (fun _ => .still ((Still.clearDoor ..).trans (.clearDoor ..))) fun _ => .refl s
  have judged (u : State) : Mesos L u (match u.entry d with
      | some e => if e.phase = .MOVING then Machine.releaseOnIdle d b.handle (Machine.judgeEntry d e b u) else u
      | none => match foundDirection b.position (u.position d) with
        | some dir => Machine.foundMoving d dir u
        | none => u) := by
    split
    · next he => exact .ite (fun _ => (Mesos.judgeEntry b he).chained (.releaseOnIdle ..)) fun _ => .refl u
    · next he =>
      split
      · exact .foundMoving _ he
      · exact .refl u
  exact cleared.chained (judged _)

theorem Mesos.presentCS (d : DoorIx) (s : State) : Mesos L s (presentCS d s) := by
  unfold Machine.presentCS
  split
  · exact .ite (fun _ => .leave _ _ _ (by decide)) fun _ => .refl s
  · exact .refl s

/-! ### Handles and passages -/

theorem Mesos.demand (m : Demand) (s : State) (htag : m.tag = none) : Mesos L s (decideDemand m s).2 := .one (.demand m s htag)

theorem Mesos.submitReclose (d : DoorIx) (x : Passage) (s : State) : Mesos L s (submitReclose d x s) := by
  unfold Machine.submitReclose
  have set : Mesos L s (s.setPassage d { x with phase := .RECLOSING, demanded := true }) := .still (.same rfl rfl rfl rfl)
  exact (set.chained (.demand _ _ rfl)).chained (.ite (fun _ => .still (.endPassage ..)) fun _ => .refl _)

theorem Mesos.endHoldOf (d : DoorIx) (s : State) : Mesos L s (endHoldOf d s) := by
  have released : Mesos L s (releasePassageEntry d s) := by
    unfold releasePassageEntry
    split
    · exact .ite (fun _ => .leave _ _ _ (by decide)) fun _ => .refl s
    · exact .refl s
  have set (x : Passage) (u : State) : Mesos L u (u.setPassage d x) := .still (.same rfl rfl rfl rfl)
  unfold Machine.endHoldOf
  split
  · exact .ite (fun _ => .refl s) fun _ => released.chained (.ite (fun _ => set ..) fun _ => .submitReclose ..)
  · exact .refl s

theorem Mesos.openPassage (d : DoorIx) (s : State) : Mesos L s (openPassage d s) := by
  unfold Machine.openPassage
  simp only
  have decided := Mesos.demand (L := L) (passageDemand .OPEN (passageClass s.mc.mode) d) s rfl
  have made (x : Passage) (u : State) : Mesos L u (u.makePassage d x) := .still (.same rfl rfl rfl rfl)
  split
  · exact (decided.next (.still (.endAnyPassage ..))).chained (made ..)
  · exact decided

theorem Mesos.releaseLocal (d : DoorIx) (s : State) : Mesos L s (releaseLocal d s) := by
  unfold Machine.releaseLocal
  split
  · exact .ite (fun _ => .leave _ _ _ (by decide)) fun _ => .refl s
  · exact .refl s

theorem Still.denyHandle (d : DoorIx) (s : State) : Still s (denyHandle d s) := by
  have counted : Still s (s.modSea d fun x => { x with denied := satInc 255 x.denied }) := .same rfl rfl rfl rfl
  refine counted.trans ?_
  unfold Machine.denyHandle
  simp only
  split
  · exact .ite (fun _ => .queueOrder ..) fun _ => .refl _
  · exact .queueOrder ..

theorem Mesos.handleDemand (d : DoorIx) (new : Handle) (s : State) : Mesos L s (handleDemand d new s) := by
  unfold Machine.handleDemand localDemand
  split
  · exact .demand _ _ rfl
  · exact .demand _ _ rfl
  · exact .openPassage d s
  · exact .ite (fun _ => .openPassage d s) fun _ => .still (.denyHandle ..)
  all_goals exact .refl s

theorem Mesos.presentHandle (d : DoorIx) (prev : Handle) (s : State) : Mesos L s (presentHandle d prev s) :=
  .ite (fun _ => .refl s) fun _ => ((Mesos.ite (fun _ => .releaseLocal ..) fun _ => .refl s).chained
    (.ite (fun _ => .endHoldOf ..) fun _ => .refl _)).chained (.handleDemand ..)

theorem Mesos.progressPassage (d : DoorIx) (x : Passage) (s : State) : Mesos L s (progressPassage d x s) := by
  have set (y : Passage) : Mesos L s (s.setPassage d y) := .still (.same rfl rfl rfl rfl)
  unfold Machine.progressPassage
  split
  · exact .ite (fun _ => set _) fun _ => .refl s
  · exact .refl s
  · exact .ite (fun _ => .ite (fun _ => .still (.endPassage ..)) fun _ => .refl s) fun _ =>
      .ite (fun _ => .refl s) fun _ => .submitReclose ..

theorem Mesos.presentPassage (d : DoorIx) (s : State) : Mesos L s (presentPassage d s) := by
  have cleared : Mesos L s (if s.position d = .CLOSED then Machine.clearDoor .DOOR_OPEN_AT_SEA d s else s) :=
    .ite (fun _ => .still (.clearDoor ..)) fun _ => .refl s
  have taken (u : State) : Mesos L u (match u.passage d with
      | some x => Machine.progressPassage d x u
      | none => u) := by
    split
    · exact .progressPassage ..
    · exact .refl u
  exact cleared.chained (taken _)

theorem Still.presentIB (d : DoorIx) (prev : Position) (s : State) : Still s (presentIB d prev s) :=
  .ite (fun _ => .refl s) fun _ => .recomputeComps ..

theorem Mesos.takePresentation (d : DoorIx) (b : Before) (a : PresentAct) (s : State) : Mesos L s (takePresentation d b a s) := by
  cases a with
  | MS => exact .presentMS d b s
  | CS => exact .presentCS d s
  | MC_PASSAGE => exact .presentPassage d s
  | MC_HANDLE => exact .presentHandle ..
  | GRU => exact .pokeRuns ..
  | IB => exact .still (.presentIB ..)

theorem Course.present (d : DoorIx) (b : Before) (s : State) : Course L s (present d b s) := by
  have chosen : Mesos L s { s with freeCount := s.freeCount + 1 } := .still (.same rfl rfl rfl rfl)
  exact .ite (fun _ => .settle (chosen.chained (.forEach (.takePresentation d b) _ _))) fun _ => .still (.presentIB ..)

end

end Sys2Proof.Proofs
end

section
/-! ## The chain of operations of each command: the ring, the modes, the tables, the starts, the commands -/
namespace Sys2Proof.Proofs
open Sys2Proof Sys2Proof.Machine

set_option Elab.async false

section
variable {L : Prop} {s t u : State}

/-! ### The ring -/

theorem Still.modSide (p : RingPort) (f : RingSide → RingSide) (s : State) : Still s (modSide p f s) := by
  cases p <;> exact .same rfl rfl rfl rfl
theorem Still.setFilter (s : State) (addr : Nat) (x : Option Byte) : Still s (s.setFilter addr x) := by
  unfold State.setFilter
  split <;> exact .same rfl rfl rfl rfl
theorem Still.modReported (s : State) (d : DoorIx) (f : Reported → Reported) : Still s (s.modReported d f) := .same rfl rfl rfl rfl
theorem Still.setPosition (s : State) (d : DoorIx) (x : Position) : Still s (s.setPosition d x) := by
  unfold State.setPosition
  simp only
  split <;> exact .same rfl rfl rfl rfl

theorem Course.filtered (p : RingPort) (src seq : Byte) {take : State → State} (h : ∀ u, Course L u (take u)) (s : State) :
    Course L s (filtered p src seq take s) := by
  have second : Still s (secondCopy p s) := (Still.modSide p _ s).trans (.same rfl rfl rfl rfl)
  exact .ite (fun _ => .still second) fun _ => (Course.still ((Still.setFilter s src.toNat (some seq)).trans (.modSide ..))).trans (h _)

theorem Still.heardFrom (d : DoorIx) (s : State) : Still s (heardFrom d s) := (Still.modReported ..).trans (.clearDoor ..)
theorem Still.takeReport (d : DoorIx) (r : ReportBits) (s : State) : Still s (takeReport d r s) := by
  unfold Machine.takeReport
  simp only
  exact (((Still.heardFrom d s).trans (.modReported ..)).trans (.setPosition ..)).trans
    (.ite (fun _ => .raiseDoor ..) fun _ => .clearDoor ..)
theorem Still.takeEvent (d : DoorIx) (h : HandleCode) (low fault : Bool) (s : State) : Still s (takeEvent d h low fault s) := by
  unfold Machine.takeEvent
  simp only
  exact ((Still.heardFrom d s).trans (.modReported ..)).trans
    (.ite (fun _ => (Still.setPosition ..).trans (.raiseDoor ..)) fun _ => .refl _)
theorem Still.endPoll (s : State) : Still s (endPoll s) := .same rfl rfl rfl rfl

theorem Course.reportArrives (p : RingPort) (src seq : Byte) (r : ReportBits) (s : State) :
    Course L s (reportArrives p src seq r s) := by
  unfold Machine.reportArrives
  split
  · exact .ite (fun _ => .filtered p src seq (fun u => (Course.still ((Still.endPoll u).trans (.takeReport ..))).trans (.present ..)) s)
      fun _ => .still (.modSide ..)
  · exact .still (.modSide ..)

theorem Course.eventArrives (p : RingPort) (src seq : Byte) (h : HandleCode) (low fault : Bool) (s : State) :
    Course L s (eventArrives p src seq h low fault s) := by
  unfold Machine.eventArrives
  split
  · exact .filtered p src seq (fun u => (Course.still (.takeEvent ..)).trans (.present ..)) s
  · exact .still (.modSide ..)

theorem Course.pass (h : HpuIx) (s : State) : Course L s (pass h s) := .quiet (.pass h s) (ScheduleFrame.pass ..).gru
theorem Course.recomputeE (h : HpuIx) (s : State) : Course L s (recomputeE h s) :=
  .quiet (.recompute h s) (ScheduleFrame.recomputeE ..).gru
theorem Still.modHpu (s : State) (h : HpuIx) (f : HpuReported → HpuReported) : Still s (s.modHpu h f) := .same rfl rfl rfl rfl

theorem Still.hpuAlarms (h : HpuIx) (st : HpuCode) (s : State) : Still s (hpuAlarms h st s) :=
  .ite (fun _ => (Still.ite (fun _ => .raiseAlarm ..) fun _ => .clearAlarm ..).trans (.clearAlarm ..)) fun _ => .refl s

theorem Course.hpuReportArrives (p : RingPort) (src seq : Byte) (st : HpuCode) (x : Nat) (s : State) :
    Course L s (hpuReportArrives p src seq st x s) := by
  unfold Machine.hpuReportArrives
  split
  · exact .filtered p src seq (fun u => (Course.still ((Still.modHpu ..).trans (.hpuAlarms ..))).trans (.recomputeE ..)) s
  · exact .still (.modSide ..)

theorem Course.loseHpu (h : HpuIx) (s : State) : Course L s (loseHpu h s) :=
  (Course.still ((Still.modHpu ..).trans (.raiseAlarm ..))).trans (.recomputeE ..)

theorem Still.startLoop (s : State) : Still s (startLoop s) := by
  unfold Machine.startLoop
  split <;> exact .same rfl rfl rfl rfl

theorem Still.loopArrives (p : RingPort) (seq : Byte) (s : State) : Still s (loopArrives p seq s) := by
  have complete (u : State) : Still u (loopComplete u) := by
    unfold loopComplete
    refine Still.trans ?_ (.clearAlarm ..)
    exact .same rfl rfl rfl rfl
  have set (x : Option LoopCheck) (u : State) : Still u (setLoop x u) := .same rfl rfl rfl rfl
  unfold Machine.loopArrives
  split
  · exact (Still.modSide p _ s).trans (.ite (fun _ => complete _) fun _ => set ..)
  · exact .modSide ..

theorem Still.loopTimerExpires (s : State) : Still s (loopTimerExpires s) := by
  unfold Machine.loopTimerExpires
  split
  · have missed (u : State) (n : Nat) : Still u { u with rc := { u.rc with
        loop := none, incomplete := n, loopMisses := count16 u.rc.loopMisses } } := .same rfl rfl rfl rfl
    exact .ite (fun _ => (missed s _).trans (.ite (fun _ => .raiseAlarm ..) fun _ => .refl _)) fun _ => .refl s
  · exact .refl s

theorem Still.ringQuiet (s : State) : Still s (ringQuiet s) := .same rfl rfl rfl rfl
theorem Still.loopIntervalExpires (s : State) : Still s (loopIntervalExpires s) := by
  have restarted (u : State) : Still u { u with rc := { u.rc with interval := 0 } } := .same rfl rfl rfl rfl
  exact .ite (fun _ => ((Still.ringQuiet s).trans (.startLoop _)).trans (restarted _)) fun _ => .refl s

theorem Still.sendHeadOrder (s : State) : Still s (sendHeadOrder s) := by
  unfold Machine.sendHeadOrder
  split <;> exact .same rfl rfl rfl rfl
theorem Still.sendPoll (d : DoorIx) (s : State) : Still s (sendPoll d s) := .same rfl rfl rfl rfl
theorem Still.pollNext (s : State) : Still s (pollNext s) := by
  unfold Machine.pollNext
  split
  · exact .sendPoll ..
  · unfold endCycle
    split
    · exact (Still.startLoop s).trans (.sendPoll ..)
    · exact .startLoop s
theorem Still.startPolling (s : State) : Still s (startPolling s) := by
  unfold Machine.startPolling
  split
  · exact .sendPoll ..
  · exact .refl s

theorem Course.missPoll (d : DoorIx) (s : State) : Course L s (missPoll d s) := by
  have missed (f : Reported → Reported) (u : State) : Still u ((Machine.endPoll u).modReported d f) := (Still.endPoll u).trans (.modReported ..)
  refine .ite (fun _ => Course.trans (.still ?_) (.present ..)) fun _ => .still (missed _ s)
  exact (((missed _ s).trans (.modReported ..)).trans (.setPosition ..)).trans (.raiseDoor ..)

/-! ### Ports -/

theorem Still.foldl {ι : Type} {act : State → ι → State} (h : ∀ i s, Still s (act s i)) (l : List ι) (s : State) :
    Still s (l.foldl act s) := Still.forEach (act := fun i s => act s i) h l s
theorem Still.stationBytes (p : PortIx) (l : List RxByte) (s : State) : Still s (stationBytes p l s) := by
  refine .foldl (fun b u => ?_) l s
  unfold stationByte
  split
  · exact .modPort ..
  · exact .modPort ..
  · exact .ite (fun _ => .modPort ..) fun _ => .modPort ..
theorem Still.stationTimeout (p : PortIx) (s : State) : Still s (stationTimeout p s) := by
  unfold Machine.stationTimeout
  split
  · exact .modPort ..
  · exact .refl s
theorem Still.ringBytes (p : RingPort) (l : List RxByte) (s : State) : Still s (ringBytes p l s) := by
  refine .foldl (fun b u => ?_) l s
  unfold ringByte
  split
  · exact .modSide ..
  · exact (Still.modSide ..).trans (.modSide ..)
  · exact .ite (fun _ => (Still.modSide ..).trans (.modSide ..)) fun _ => .modSide ..
theorem Still.ringTimeout (p : RingPort) (s : State) : Still s (ringTimeout p s) := by
  unfold Machine.ringTimeout
  split
  · exact (Still.modSide ..).trans (.modSide ..)
  · exact .refl s

theorem Still.joinPart (p : PortIx) (s : State) : Still s (joinPart p s) := by
  unfold Machine.joinPart
  split
  · exact .ite (fun _ => .same rfl rfl rfl rfl) fun _ => .refl s
  · exact .refl s
theorem Still.setSending (x : Option Sending) (s : State) : Still s (setSending x s) := .same rfl rfl rfl rfl
theorem Still.handOn (x : Sending) (s : State) : Still s (handOn x s) :=
  ((Still.setSending (some x) s).trans (.modPort _ x.port _)).trans (.joinPart ..)
theorem Still.snapshotReq (p : PortIx) (s : State) : Still s (snapshotReq p s) := by
  have latched (b : Bool) : Still s (takeSnapshot p b s) := by
    have begun : Still s (latchSnapshot s) := .same rfl rfl rfl rfl
    exact (begun.trans (.answerDone ..)).trans (.ite (fun _ => .setSending ..) fun _ => .handOn ..)
  unfold Machine.snapshotReq
  split
  · exact latched false
  · exact .ite (fun _ => latched true) fun _ => .refuse ..
theorem Still.partSent (p : PortIx) (s : State) : Still s (partSent p s) := by
  unfold Machine.partSent
  split
  · exact .ite (fun _ => .refl s) fun _ => .ite (fun _ => .handOn ..) fun _ => .ite (fun _ => .setSending ..) fun _ => .handOn ..
  · exact .refl s
theorem Still.frameLeaves (p : PortIx) (f : Frame) (rest : List Frame) (s : State) : Still s (frameLeaves p f rest s) := by
  unfold Machine.frameLeaves
  simp only
  refine Still.trans ?_ (.joinPart ..)
  exact .same rfl rfl rfl rfl
theorem Still.frameSent (p : PortIx) (s : State) : Still s (frameSent p s) := by
  unfold Machine.frameSent
  split
  · exact .frameLeaves ..
  · exact .refl s
theorem Still.snapshotPartLeft (p : PortIx) (s : State) : Still s (snapshotPartLeft p s) := by
  have told (u : State) : Still u (reportPart p u) := (Still.modPort u p _).trans (.partSent ..)
  unfold Machine.snapshotPartLeft
  split
  · exact told s
  · split
    · exact .ite (fun _ => (Still.frameLeaves ..).trans (told _)) fun _ => .refl s
    · exact .refl s

/-! ### Mode entries -/

theorem Still.setMode (m : Mode) (s : State) : Still s (setMode m s) := .same rfl rfl rfl rfl
theorem Still.clearAtSea (s : State) : Still s (clearAtSea s) := by
  have zeroed (u : State) : Still u { u with mc := { u.mc with oas := Vector.replicate 96 ⟨0, false⟩ } } := .same rfl rfl rfl rfl
  have cleared : Still s (Machine.forEach allDoors (Machine.clearDoor .DOOR_OPEN_AT_SEA) s) := .forEach (fun _ _ => .clearDoor ..) _ s
  exact cleared.trans (zeroed _)

/-- The tags of the flush are counted alone: no run resumes. -/
theorem resumed_takeOut_flush (d : DoorIx) (s : State) : (takeOut .FLUSH d s).gru.resumed = s.gru.resumed := by
  have counted (tag : Option RunTag) (fate : TagFate) (u : State) : (countTag tag fate u).gru.resumed = u.gru.resumed := by
    unfold countTag
    split <;> rfl
  unfold takeOut
  split
  · next e _ =>
    simp only
    rw [(Ending.recloseGone ..).gru, (ScheduleFrame.queueOrder? ..).gru]
    refine (counted e.tag .overruled _).trans ?_
    split <;> rfl
  · rfl

theorem resumed_flush (s : State) : (flush s).gru.resumed = s.gru.resumed := by
  have hpass : Passing (forEach (matching s flushes) (takeOut .FLUSH) s) (flush s) := (Passing.passes ..).trans (.tests ..)
  rw [hpass.gru]
  exact forEach_rel (R := fun s t : State => t.gru.resumed = s.gru.resumed) (fun _ => rfl) (fun h g => g.trans h)
    resumed_takeOut_flush _ s

theorem Course.abortAndFlush (s : State) : Course L s (abortAndFlush s) := by
  refine ⟨.one (.abort s), fun _ => ?_⟩
  have aborted (u : State) : (abortRuns u).gru.resumed = [] := rfl
  unfold Machine.abortAndFlush
  simp only
  split
  · split
    · exact aborted _
    · rw [resumed_flush]; exact aborted _
  · rw [resumed_flush]; exact aborted _

theorem Course.enterLocal (s : State) : Course L s (enterLocal s) := by
  unfold Machine.enterLocal
  exact ((Course.still (.setMode .LOCAL s)).trans (.abortAndFlush _)).trans
    (.still ((Still.forEach .endAnyPassage _ _).trans (.clearAtSea _)))

theorem resumed_launchTail (cls : Nat) (o : RunOrigin) (s : State) : (launchTail cls o s).gru.resumed = s.gru.resumed := by
  unfold launchTail takeSlot
  rw [if_pos rfl]
  split
  · next r _ => exact (congrArg Gru.resumed (detachTag_detached r.number s).gru : (detachTag r.number s).gru.resumed = s.gru.resumed)
  · rfl

theorem Course.launchSystem (cls : Nat) (o : RunOrigin) (h : Mesos L s t) : Course L s (launchSystem cls o t) := by
  refine ⟨?_, fun _ => (resumed_launchTail cls o (settleRuns t)).trans (resumed_settleRuns t)⟩
  exact (h.chained (.forEach (fun _ => .settleOne) _ t)).next (.launch cls o _)

theorem Course.enterClosedFromLocal (s : State) : Course L s (enterClosedFromLocal s) :=
  .launchSystem _ _ (.still (.setMode .CLOSED s))

theorem Mesos.takePassage (d : DoorIx) (s : State) : Mesos L s (takePassage d s) := by
  unfold Machine.takePassage
  split
  · exact .ite (fun _ => .refl s) fun _ => (Mesos.still (.endPassage d s)).chained (.demand _ _ rfl)
  · exact .refl s

theorem reverseEntry_cs (m : Demand) (e : Entry) (s : State) :
    (reverseEntry m e s).cs = (s.setEntry m.door (e.reversed m (doorDeadline s m.door m.direction))).cs := by
  have told := ReportFrame.reportTag e.tag .overruled s
  unfold reverseEntry State.setEntry doorDeadline
  simp only [queueOrder_cs]
  rw [told.cs, told.tables]

theorem reverseEntry_gru (m : Demand) (e : Entry) (s : State) : (reverseEntry m e s).gru = (reportTag e.tag .overruled s).gru := rfl

theorem phaseOf_reverseOne (o : Origin) (d x : DoorIx) (s : State) : phaseOf (reverseOne o d s) x = phaseOf s x := by
  unfold reverseOne
  split
  · next e he =>
    unfold phaseOf
    rw [entry_congr (congrArg Cs.entries (reverseEntry_cs ..)), entry_setEntry]
    split
    · next hx =>
      have hx : d = x := hx
      subst hx
      rw [he]
      rfl
    · rfl
  · rfl

theorem Mesos.reverseForEmergency (o : Origin) (s : State) : Mesos L s (reverseForEmergency o s) := by
  have turned (l : List DoorIx) (u : State) (hl : ∀ d ∈ l, phaseOf u d = some .MOVING) : Mesos L u (Machine.forEach l (reverseOne o) u) := by
    induction l generalizing u with
    | nil => exact .refl u
    | cons d rest ih =>
      refine (Mesos.one (.turn o d u (hl d (List.mem_cons_self ..)))).chained (ih _ fun x hx => ?_)
      rw [phaseOf_reverseOne]
      exact hl x (List.mem_cons_of_mem _ hx)
  refine (turned _ s fun d hd => ?_).chained (.forEach (fun _ _ => .one (.pass ..)) _ _)
  obtain ⟨e, he, hopen⟩ := mem_matching.mp hd
  rw [phaseOf_eq he, of_decide_eq_true (Bool.and_eq_true_iff.mp hopen).2]

theorem Course.enterEmergency (c : EmergencyCause) (s : State) : Course L s (enterEmergency c s) := by
  unfold Machine.enterEmergency
  refine .launchSystem _ _ ?_
  exact (((((Mesos.still (.setMode .EMERGENCY s)).next (.raise _)).next (.deny _)).chained (.reverseForEmergency ..)).chained
    (.forEach .takePassage _ _))

theorem Course.evalBridge (s : State) : Course L s (evalBridge s) := by
  have lost (u : State) (b : Bool) : Still u (setBridgeLost b u) := .same rfl rfl rfl rfl
  unfold Machine.evalBridge
  refine .ite (fun _ => .refl s) fun _ => .ite (fun _ => .ite (fun _ => .refl s) fun _ => ?_) fun _ =>
    .ite (fun _ => .still ((lost s false).trans (.clearAlarm ..))) fun _ => .refl s
  exact (Course.still ((lost s true).trans (.raiseAlarm .BRIDGE_LOST noSubject _))).trans
    (.ite (fun _ => .enterClosedFromLocal _) fun _ => .refl _)

/-! ### Station commands -/

theorem Course.decideCommand (g : Gate) (b : Bool) (p : PortIx) {take : State → State}
    (h : ∀ u, Still s u → Course L u (take u)) : Course L s (decideCommand g b p take s) := by
  have counted : Still s (acceptFrame p s) := .modPort ..
  refine (Course.still counted).trans ?_
  unfold Machine.decideCommand
  simp only
  split
  · exact .still (.refuse ..)
  · exact h _ counted

theorem Course.answered (h : Mesos L s t) (p : PortIx) (kind : Nat) (c : Bool) (data : List Byte) :
    Course L s (answerDone p kind c data (settleRuns t)) := (Course.settle h).trans (.still (.answerDone ..))

theorem Course.heartbeat (p : PortIx) (s : State) : Course L s (heartbeat p s) := by
  refine .ite (fun _ => .ite (fun _ => .still (.modPort ..)) fun _ => ?_) fun _ => .refl s
  refine (Course.still (.modPort s p _)).trans (.ite (fun _ => ?_) fun _ => .refl _)
  exact (Course.still ((Still.modPort ..).trans (.clearAlarm ..))).trans (.evalBridge _)
theorem Course.fallSilent (p : PortIx) (s : State) : Course L s (fallSilent p s) :=
  (Course.still ((Still.modPort s p _).trans (.raiseAlarm ..))).trans (.evalBridge _)

theorem Course.doorCommand (p : PortIx) (kind : Nat) (dir : Direction) (door cls : Byte) (s : State) :
    Course L s (doorCommand p kind dir door cls s) := by
  have answered (c : Bool) (o : DemandOutcome) (u : State) : Still u (answerDemand p kind c o u) := by
    unfold answerDemand
    split
    · exact .answerDone ..
    · exact .refuseWith ..
  unfold Machine.doorCommand
  split
  · exact (Course.settle (.demand _ _ rfl)).trans (.still (answered ..))
  · exact .still (.refuse ..)

theorem acceptRun_resumed (p : PortIx) (g : GroupRef) (dir : Direction) (cls : Nat) (s : State) :
    (acceptRun p g dir cls s).2.gru.resumed = s.gru.resumed := by
  have taken (i : SlotIx) (x : SourceGroup) (o : RunOrigin) (u : State) : (takeSlot i g dir cls x o u).gru.resumed = u.gru.resumed := by
    unfold takeSlot
    simp only
    split <;> rfl
  have suspended (k : SlotIx) : (suspend k s).gru.resumed = s.gru.resumed := by
    unfold suspend
    split <;> rfl
  unfold Machine.acceptRun
  split
  · simp only
    rw [taken]
    split
    · exact suspended _
    · rfl
  · rfl

theorem Course.acceptRun (p : PortIx) (g : GroupRef) (dir : Direction) (cls : Nat) (s : State) :
    Course L s (acceptRun p g dir cls s).2 :=
  ⟨.one (.accept p g dir cls s), fun h => (acceptRun_resumed ..).trans h⟩

theorem Course.groupCommand (p : PortIx) (kind : Nat) (dir : Direction) (group cls : Byte) (s : State) :
    Course L s (groupCommand p kind dir group cls s) := by
  unfold Machine.groupCommand
  split
  · next g _ =>
    split
    · exact .still (.refuse ..)
    · unfold launchStation
      have accepted := Course.acceptRun (L := L) p g dir (usedClass s p cls.toNat) s
      simp only
      split
      · next heq => rw [heq] at accepted; exact accepted.trans (.still (.answerDone ..))
      · next heq => rw [heq] at accepted; exact accepted.trans (.still (.refuseWith ..))
  · exact .still (.refuse ..)

theorem Course.runCancel (p : PortIx) (n : Byte) (s : State) : Course L s (runCancel p n s) := by
  unfold Machine.runCancel
  split
  · next r hr =>
    split
    · exact .still (.refuse ..)
    · exact .answered (.one (.cancel r s (List.mem_of_find?_eq_some hr))) ..
  · exact .still (.refuse ..)

theorem Still.alarmAck (p : PortIx) (kind subject : Byte) (s : State) : Still s (alarmAck p kind subject s) := by
  unfold Machine.alarmAck
  split
  · split
    · exact (Still.ackRecord ..).trans (.answerDone ..)
    · exact .refuse ..
  · exact .refuse ..

theorem Course.requestLocal (p : PortIx) (s : State) : Course L s (requestLocal p s) := by
  unfold Machine.requestLocal
  split
  · exact .still (.answerDone ..)
  · exact .answered (Course.enterLocal s).chain ..
  · exact .still (.refuse ..)
theorem Course.requestClosed (p : PortIx) (s : State) : Course L s (requestClosed p s) := by
  unfold Machine.requestClosed
  split
  · exact .answered (Course.enterClosedFromLocal s).chain ..
  · exact .still (.answerDone ..)
  · exact .ite (fun _ => .still (.refuse ..)) fun _ => (Course.still (.setMode .CLOSED s)).trans (.still (.answerDone ..))
theorem Course.requestEmergency (p : PortIx) (s : State) : Course L s (requestEmergency p s) := by
  unfold Machine.requestEmergency
  split
  · exact .answered (Course.enterEmergency .MODE s).chain ..
  · exact .answered (Course.enterEmergency .MODE s).chain ..
  · exact .still (.answerDone ..)

theorem Course.codeRefused (p : PortIx) (c : UnknownCode) (s : State) : Course L s (codeRefused p c s) := by
  unfold Machine.codeRefused
  split
  · exact .decideCommand _ _ _ fun u _ => .refl u
  · exact .decideCommand _ _ _ fun _ _ => .still (.refuse ..)
  · exact .decideCommand _ _ _ fun u _ => .refl u
  · exact .decideCommand _ _ _ fun u _ => .refl u

end

end Sys2Proof.Proofs
end

section
/-! ## The chain of operations of each command: the tables, the starts, the timers, the commands -/
namespace Sys2Proof.Proofs
open Sys2Proof Sys2Proof.Machine

set_option Elab.async false

section
variable {L : Prop} {s t u : State}

/-! ### Tables -/

theorem isSome_of_still (h : Still s t) (d : DoorIx) : (t.entry d).isSome = (s.entry d).isSome := by
  have he := congrArg Option.isSome (h.entries d)
  simpa using he

theorem hpuFieldLaw_of_still (h : Still s t) (hs : HpuFieldLaw s) : HpuFieldLaw t := fun d hd => by
  rw [h.doors]
  exact hs d (by rwa [isSome_of_still h] at hd)

theorem Course.decideWrite {p : PortIx} {inUse refused clamped : Bool} {conflict : Option RecordName} {write : State → State}
    (h : inUse = false → Mesos L s (write s)) : Course L s (decideWrite p inUse refused clamped conflict write s) := by
  unfold Machine.decideWrite
  split
  · exact .still (.refuse ..)
  · next huse =>
    split
    · exact .still (.refuse ..)
    · split
      · exact .still (.refuseWith ..)
      · exact .answered (h (by simpa using huse)) ..

theorem Still.resetFilters (old new : Nat) (s : State) : Still s (resetFilters old new s) := (Still.setFilter ..).trans (.setFilter ..)

theorem Still.resetDoor (d : DoorIx) (old new : Nat) (s : State) : Still s (resetDoor d old new s) := by
  have ended (u : State) : Still u (endPollOf d u) := .ite (fun _ => .endPoll u) fun _ => .refl u
  have unqueued (u : State) : Still u (unqueueOrder d u) := .same rfl rfl rfl rfl
  exact (((Still.resetFilters old new s).trans (ended _)).trans (unqueued _)).trans (.modReported ..)

theorem Course.writeDoor (p : PortIx) (index : Byte) (image : List Byte) (s : State) : Course L s (writeDoor p index image s) := by
  unfold Machine.writeDoor
  split
  · next d _ =>
    refine .decideWrite fun huse => ?_
    have hfree : s.entry d = none := by
      simp only [doorInUse, Bool.or_eq_false_iff] at huse
      exact Option.isNone_iff_eq_none.mp (by simpa using huse.1)
    unfold doorWritten
    simp only
    refine Mesos.chained ?_ (.ite (fun _ => (Course.present ..).chain) fun _ => .refl _)
    refine Mesos.next ?_ (.still (.ite (fun _ => .recomputeComps ..) fun _ => .refl _))
    refine Mesos.next ?_ (.still (.ite (fun _ => ?_) fun _ => .refl _))
    refine Mesos.next ?_ (.still (.ite (fun _ => .resetDoor ..) fun _ => .refl _))
    · exact .one (.writeDoor d (DoorConfig.decode image).clamp s hfree)
    · have zeroed (u : State) : Still u (u.zeroOas d) := .same rfl rfl rfl rfl
      exact (Still.forEach (fun _ _ => .clearDoor ..) _ _).trans (zeroed _)
  · exact .still (.refuse ..)

theorem not_readyOn_of_hpuInUse {h : HpuIx} (hfield : HpuFieldLaw s) (huse : hpuInUse s h = false) (d : DoorIx) :
    entryIn s h .READY d = false := by
  unfold hpuInUse at huse
  obtain ⟨-, hnone⟩ := Bool.or_eq_false_iff.mp huse
  have hd := List.any_eq_false.mp hnone d (List.mem_finRange d)
  cases hin : entryIn s h .READY d with
  | false => rfl
  | true =>
    obtain ⟨e, he, hph, hhpu⟩ := entry_of_entryIn hin
    refine absurd ?_ hd
    rw [he]
    have hle := hfield d (by rw [he]; rfl)
    have hval : s.tables.doors[d].hpu = h.val := by
      rw [← hhpu]
      simp only [State.hpuOf, Fin.val_ofNat]
      omega
    exact Bool.and_eq_true_iff.mpr ⟨decide_eq_true hval, decide_eq_true (by rw [hph]; decide)⟩

theorem Course.writeHpu (p : PortIx) (index : Byte) (image : List Byte) (hfield : L → HpuFieldLaw s) :
    Course L s (writeHpu p index image s) := by
  unfold Machine.writeHpu
  split
  · next h _ =>
    refine .decideWrite fun huse => ?_
    unfold hpuWritten
    simp only
    refine Mesos.next ?_ (.recompute ..)
    refine Mesos.next ?_ (.still (.ite (fun _ => ?_) fun _ => .refl _))
    refine Mesos.next ?_ (.still (.ite (fun _ => (Still.resetFilters ..).trans (.modHpu ..)) fun _ => .refl _))
    · exact .one (.writeHpu h (HpuConfig.decode image).clamp s fun hL => not_readyOn_of_hpuInUse (hfield hL) huse)
    · unfold dismissHpu
      exact (((Still.modFlow h (fun f => { f with delayAlarm := false }) (fun _ => ⟨rfl, rfl⟩) _).trans (.clearAlarm ..)).trans
        (.clearAlarm ..)).trans (.clearAlarm ..)
  · exact .still (.refuse ..)

theorem Course.writeGroup (p : PortIx) (index : Byte) (image : List Byte) (s : State) : Course L s (writeGroup p index image s) := by
  unfold Machine.writeGroup
  split
  · exact .decideWrite fun _ => .still {}
  · exact .still (.refuse ..)

theorem Course.writePermit (p : PortIx) (index : Byte) (image : List Byte) (s : State) :
    Course L s (writePermit p index image s) := by
  have beats (q : PortIx) (old new : PermitRow) (u : State) : Still u (heartbeatWritten q old new u) :=
    .ite (fun _ => .refl u) fun _ => (Still.modPort u q _).trans (.ite (fun _ => .clearAlarm ..) fun _ => .refl _)
  have paced (q : PortIx) (old new : PermitRow) (u : State) : Still u (pacingWritten q old new u) :=
    .ite (fun _ => .refl u) fun _ => .ite (fun _ => .setPacing ..) fun _ => .ite (fun _ => .refl u) fun _ =>
      .ite (fun _ => .sendSummary ..) fun _ => .pacingChange ..
  unfold Machine.writePermit
  split
  · next q _ =>
    refine .decideWrite fun _ => ?_
    unfold permitWritten
    have written (x : PermitRow) : Still s (setTables { s.tables with permits := put s.tables.permits q x } s) := {}
    exact ((((Course.still (written _)).trans (.still (beats ..))).trans (.evalBridge _)).trans (.still (paced ..))).chain
  · exact .still (.refuse ..)

theorem Course.writeSystem (p : PortIx) (index : Byte) (image : List Byte) (s : State) :
    Course L s (writeSystem p index image s) := by
  unfold Machine.writeSystem
  split
  · exact .decideWrite fun _ => .one (.writeSystem ..)
  · exact .still (.refuse ..)

theorem Course.writeOfLength (ok : Bool) (p : PortIx) {write : State → State} (h : ∀ u, Still s u → Course L u (write u)) :
    Course L s (writeOfLength ok p write s) :=
  .ite (fun _ => .decideCommand _ _ _ h) fun _ => .still (.modPort ..)

theorem Still.tableRead (p : PortIx) (table size : Nat) (records : List (List Byte)) (first count : Byte)
    {effect : Nat → State → State} (h : ∀ n u, Still u (effect n u)) (s : State) :
    Still s (tableRead p table size records first count effect s) :=
  .ite (fun _ => .refuse ..) fun _ => (Still.answerDone ..).trans (h _ _)

theorem Still.clearFresh (first n : Nat) (s : State) : Still s (clearFresh first n s) := by
  unfold Machine.clearFresh
  refine .of_eq rfl rfl rfl fun d hd => ?_
  simp only [State.latch, Fin.getElem_fin, getElem_updAll] at hd ⊢
  split at hd <;> exact hd

theorem Still.counterRead (p : PortIx) (set : Nat) (counters : List Byte) (clear : Byte) {reset : State → State}
    (h : ∀ u, Still u (reset u)) (s : State) : Still s (counterRead p set counters clear reset s) :=
  (Still.answerDone ..).trans (.ite (fun _ => .refl _) fun _ => h _)
theorem Still.clearStationCounters (s : State) : Still s (clearStationCounters s) := by
  unfold Machine.clearStationCounters
  exact .same rfl rfl rfl rfl
theorem Still.clearRingCounters (s : State) : Still s (clearRingCounters s) := by
  unfold Machine.clearRingCounters
  exact .of_eq rfl rfl rfl fun _ h => h

/-! ### Starts -/

theorem Still.startRing (s : State) : Still s (startRing s) := by
  have aged : Still s { s with rc := { s.rc with hpus := updAll s.rc.hpus fun _ x => { x with age := 0 } } } := .same rfl rfl rfl rfl
  unfold Machine.startRing
  exact (aged.trans (.forEach (fun _ _ => .raiseAlarm ..) _ _)).trans (.startPolling _)

theorem Still.startHeartbeats (s : State) : Still s (startHeartbeats s) := by
  unfold Machine.startHeartbeats
  exact .same rfl rfl rfl rfl

theorem Course.enterBlocks (s : State) : Course L s (enterBlocks s) := by
  have served (u : State) : Still u (setPart .IN_SERVICE u) := .same rfl rfl rfl rfl
  have begun : Course L s (setPart .IN_SERVICE (Machine.ringQuiet s)) := .still ((Still.ringQuiet s).trans (served _))
  have entered : Course L s (enterStartMode (setPart .IN_SERVICE (Machine.ringQuiet s))) :=
    begun.trans ((Course.ite (fun _ => .enterEmergency .LINE _) fun _ => .ite (fun _ => .enterClosedFromLocal _) fun _ =>
      .enterLocal _).trans (.evalBridge _))
  exact .settle ((entered.chain.next (.still (.startHeartbeats _))).next (.still (.startRing _)))

theorem Course.enterService (s : State) : Course L s (enterService s) := (Course.enterBlocks s).trans (.still (.sendSummaries _))

theorem Course.commission (p : PortIx) (s : State) : Course L s (commission p s) := by
  unfold Machine.commission
  split
  · exact .still (.refuse ..)
  · split
    · exact .still (.refuseWith ..)
    · have chosen (u : State) : Still u (freeChoice Config.resultBeforeSummary u).2 := .same rfl rfl rfl rfl
      unfold commissionTaken
      refine (Course.enterBlocks s).trans (.still ?_)
      generalize Machine.enterBlocks s = t
      refine .ite (fun _ => (chosen t).trans (.ite (fun _ => ?_) fun _ => ?_)) fun _ => ?_
      · exact (Still.answerDone ..).trans (.sendSummaries _)
      · exact (Still.sendSummaries _).trans (.answerDone ..)
      · exact (Still.sendSummaries _).trans (.answerDone ..)

theorem Course.quietHpu (h : HpuIx) (s : State) : Course L s (quietHpu h s) :=
  (Course.ite (fun _ => (Course.still (.modHpu ..)).trans (.recomputeE ..)) fun _ => .refl s).trans
    (.still ((Still.clearAlarm ..).trans (.clearAlarm ..)))

theorem Still.recomputeReleased (s : State) : Still s (recomputeReleased s) := by
  unfold Machine.recomputeReleased writeComps
  exact .same rfl rfl rfl rfl

theorem Course.decommissioned (s : State) : Course L s (decommissioned s) := by
  have unserved (u : State) : Still u (setPart .UNCONFIGURED u) := .same rfl rfl rfl rfl
  have stopped (u : State) : Still u (stopPolling u) := .same rfl rfl rfl rfl
  have sent (u : State) : Still u (sendOrders u) := .foldl (fun _ _ => .sendHeadOrder _) _ u
  have quietPorts (u : State) : Still u (Machine.forEach allPorts quietPort u) :=
    .forEach (fun q v => (Still.modPort v q _).trans (.clearAlarm ..)) _ u
  have quietDoors (l : List DoorIx) (u : State) : Still u (Machine.forEach l quietDoor u) :=
    .forEach (fun d v => (Still.modReported v d _).trans (.clearDoor ..)) l u
  have quietMode (u : State) : Still u (quietMode u) := by
    refine Still.trans ?_ (.clearAlarm ..)
    exact .same rfl rfl rfl rfl
  have unpaced (u : State) : Still u (clearPacing u) := .same rfl rfl rfl rfl
  unfold Machine.decommissioned
  simp only
  refine (Course.still ((((Still.ringQuiet s).trans (unserved _)).trans (sent _)).trans (stopped _))).trans ?_
  refine (Course.forEach .quietHpu allHpus _).trans (.still ?_)
  exact ((((quietDoors ..).trans (quietPorts _)).trans (quietMode _)).trans (unpaced _)).trans (.recomputeReleased _)

theorem Course.decommission (p : PortIx) (s : State) : Course L s (decommission p s) := by
  unfold Machine.decommission
  split
  · exact .still (.refuse ..)
  · split
    · exact .still (.refuse ..)
    · exact (Course.decommissioned s).trans (.still (.answerDone ..))

theorem Still.saveCompletes (p : PortIx) (s : State) : Still s (saveCompletes p s) := by
  unfold Machine.saveCompletes
  refine Still.trans ?_ (.answerDone ..)
  refine Still.trans ?_ (.clearAlarm ..)
  exact .same rfl rfl rfl rfl

theorem Still.raiseLine (s : State) : Still s (raiseLine s) := .ite (fun _ => .raiseAlarm ..) fun _ => .refl s
theorem Still.raiseStore (s : State) : Still s (raiseStore s) := .ite (fun _ => .raiseAlarm ..) fun _ => .refl s

theorem Course.ofFresh (h : Meso L s t) (hresumed : t.gru.resumed = []) : Course L s t := ⟨.one h, fun _ => hresumed⟩

theorem Course.resetAsserted (s : State) : Course L s (resetAsserted s) := by
  unfold Machine.resetAsserted
  exact .ofFresh (.fresh (fun d => by simp [State.entry, Cs.empty]) (fun h => by simp [Cs.empty]) (Nat.zero_le _)
    (fun i => by simp [Gru.cold]) rfl rfl rfl) rfl

theorem Course.coldState (x : Tables) (status : ImageStatus) (s : State) : Course L s (coldState x status s) := by
  unfold Machine.coldState
  refine Course.trans ?_ (.still (.recomputeReleased _))
  exact .ofFresh (.fresh (fun d => by simp [State.entry, Cs.empty]) (fun h => by simp [startFlow]) (Nat.zero_le _)
    (fun i => by simp [Gru.cold]) rfl rfl rfl) rfl

theorem Course.warmState (s : State) : Course L s (warmState s) := by
  unfold Machine.warmState
  refine Course.trans ?_ (.still (.recomputeReleased _))
  exact .ofFresh (.fresh (fun d => by simp [State.entry, Cs.empty]) (fun h => by simp [startFlow]) (Nat.zero_le _)
    (fun i => by simp [Gru.cold]) rfl rfl rfl) rfl

theorem Course.coldStart (s : State) : Course L s (coldStart s) := by
  have failed (u : State) : Still u (Machine.raiseLine (Machine.raiseStore u)) := (Still.raiseStore u).trans (.raiseLine _)
  unfold Machine.coldStart
  split
  · exact .ite (fun _ => ((Course.coldState ..).trans (.still (.raiseLine _))).trans (.enterService _)) fun _ =>
      (Course.coldState ..).trans (.still (failed _))
  · exact (Course.coldState ..).trans (.still (failed _))

theorem Course.warmRestart (s : State) : Course L s (warmRestart s) := by
  unfold Machine.warmRestart
  exact (((Course.warmState s).trans (.still (.raiseLine _))).trans (.ite (fun _ => .enterService _) fun _ => .refl _)).trans
    (.still (.raiseStore _))

theorem Still.restart (p : PortIx) (s : State) : Still s (restart p s) := by
  unfold Machine.restart
  refine Still.trans ?_ (.answerDone ..)
  exact .same rfl rfl rfl rfl

theorem Course.lineAsserted (s : State) : Course L s (lineAsserted s) := by
  have set : Still s (setLine true s) := .same rfl rfl rfl rfl
  exact (Course.still (set.trans (.raiseAlarm .EMERGENCY_LINE noSubject _))).trans
    (.ite (fun _ => .settle (Course.enterEmergency .LINE _).chain) fun _ => .refl _)
theorem Still.lineReleased (s : State) : Still s (lineReleased s) := by
  have set : Still s (setLine false s) := .same rfl rfl rfl rfl
  exact set.trans (.clearAlarm ..)

/-! ### Timers -/

theorem Still.countTick (s : State) : Still s (countTick s) := by
  have entry_core (e : Entry) : Entry.core e.tick = Entry.core e := by
    unfold Entry.tick
    split <;> rfl
  have run_core (r : Run) : Run.core r.tick = Run.core r := by
    unfold Run.tick
    split <;> rfl
  unfold Machine.countTick
  refine { entries := fun d => ?_, slots := fun i => ?_ }
  · simp only [State.entry, Fin.getElem_fin, getElem_updAll, Option.map_map]
    exact congrArg (fun f => Option.map f _) (funext entry_core)
  · simp only [Fin.getElem_fin, getElem_updAll, Option.map_map]
    exact congrArg (fun f => Option.map f _) (funext run_core)

theorem Still.supervisionTick (s : State) : Still s (supervisionTick s) :=
  (Still.countTick s).trans (.forEach (fun _ _ => .ite (fun _ => .refl _) fun _ => .evalDelay ..) _ _)

theorem Still.secondsIncrement (s : State) : Still s (secondsIncrement s) := by
  unfold Machine.secondsIncrement
  exact .same rfl rfl rfl rfl

theorem Mesos.onEntry {ran : Entry → Bool} {d : DoorIx} {act : Entry → State → State}
    (h : ∀ e, s.entry d = some e → ran e = true → Mesos L s (act e s)) : Mesos L s (onEntry ran d act s) := by
  unfold Machine.onEntry
  split
  · next e he => exact .ite (fun hran => h e he hran) fun _ => .refl s
  · exact .refl s

theorem warningExpires_gru (d : DoorIx) (e : Entry) (s : State) : (warningExpires d e s).gru = s.gru := by
  unfold warningExpires
  exact (ScheduleFrame.pass ..).gru

theorem onEntry_gru {ran : Entry → Bool} {d : DoorIx} {act : Entry → State → State} (h : ∀ e u, (act e u).gru = u.gru) (s : State) :
    (onEntry ran d act s).gru = s.gru := by
  unfold onEntry
  split
  · split
    · exact h _ s
    · rfl
  · rfl

theorem Course.preWarning (d : DoorIx) (s : State) : Course L s (onEntry Entry.warned d (warningExpires d) s) := by
  refine ⟨.onEntry fun e he hran => .one (.warned d e s he ?_), fun h => ?_⟩
  · exact of_decide_eq_true (Bool.and_eq_true_iff.mp hran).1
  · rw [onEntry_gru (warningExpires_gru d)]; exact h

theorem Mesos.windowExpires {d : DoorIx} {e : Entry} (he : s.entry d = some e) : Mesos L s (windowExpires d e s) := by
  have counted (u : State) : Still u { u with ms := { u.ms with moveRepeats := satInc 65535 u.ms.moveRepeats } } :=
    .of_eq rfl rfl rfl fun _ h => h
  refine .ite (fun _ => ?_) fun _ => .ite (fun _ => .still (.rewriteEntry he rfl)) fun _ => .faultDoor ..
  exact .still (((Still.rewriteEntry (x := { e with repeatUsed := true, startWindow := startWindowTicks }) he rfl).trans
    (counted _)).trans (.queueOrder ..))

theorem Still.deadlineExpires {d : DoorIx} {e : Entry} (he : s.entry d = some e) : Still s (deadlineExpires d e s) :=
  .ite (fun _ => .refl s) fun _ => (Still.rewriteEntry (x := { e with overtimeRaised := true }) he rfl).trans (.raiseDoor ..)

theorem Still.deadline (d : DoorIx) (s : State) : Still s (onEntry Entry.late d (Machine.deadlineExpires d) s) := by
  unfold Machine.onEntry
  split
  · next e he => exact .ite (fun _ => .deadlineExpires he) fun _ => .refl s
  · exact .refl s

theorem Still.heldTimeExpires (d : DoorIx) (s : State) : Still s (heldTimeExpires d s) := by
  have set (x : Passage) : Still s (s.setPassage d x) := .same rfl rfl rfl rfl
  unfold Machine.heldTimeExpires
  split
  · exact .ite (fun _ => (set _).trans (.raiseDoor ..)) fun _ => .refl s
  · exact .refl s

theorem Still.openAtSeaExpires (d : DoorIx) (s : State) : Still s (openAtSeaExpires d s) := by
  unfold Machine.openAtSeaExpires
  refine .ite (fun _ => ?_) fun _ => .refl s
  refine Still.trans ?_ (.raiseDoor ..)
  exact .same rfl rfl rfl rfl

theorem notTracking_of_waitedOut {i : SlotIx} (h : waitedOut s i = true) : NotTracking s i := by
  unfold waitedOut at h
  intro r hr
  rw [hr] at h
  rw [of_decide_eq_true (Bool.and_eq_true_iff.mp h).1]
  decide

/-! ### The commands -/

theorem Course.awake {f : State → State} (h : awake f s = .next t) (g : Course L s (f s)) : Course L s t := by
  unfold Machine.awake at h
  injection h with h
  subst h
  exact .ite (fun _ => .refl s) fun _ => g

theorem exec_course {c : Instr} (h : exec c s = .next t) (hfield : L → HpuFieldLaw s) : Course L s t := by
  cases c with
  | heartbeat p => exact .awake h (.decideCommand _ _ _ fun _ _ => .heartbeat ..)
  | modeSetLocal p => exact .awake h (.decideCommand _ _ _ fun _ _ => .requestLocal ..)
  | modeSetClosed p => exact .awake h (.decideCommand _ _ _ fun _ _ => .requestClosed ..)
  | modeSetEmergency p => exact .awake h (.decideCommand _ _ _ fun _ _ => .requestEmergency ..)
  | doorClose p d x => exact .awake h (.decideCommand _ _ _ fun _ _ => .doorCommand ..)
  | doorOpen p d x => exact .awake h (.decideCommand _ _ _ fun _ _ => .doorCommand ..)
  | groupClose p g x => exact .awake h (.decideCommand _ _ _ fun _ _ => .groupCommand ..)
  | groupOpen p g x => exact .awake h (.decideCommand _ _ _ fun _ _ => .groupCommand ..)
  | runCancel p n => exact .awake h (.decideCommand _ _ _ fun _ _ => .runCancel ..)
  | alarmAck p k x => exact .awake h (.decideCommand _ _ _ fun _ _ => .still (.alarmAck ..))
  | alarmAckAll p => exact .awake h (.decideCommand _ _ _ fun _ _ => .still ((Still.ackAll _).trans (.answerDone ..)))
  | snapshotReq p => exact .awake h (.decideCommand _ _ _ fun _ _ => .still (.snapshotReq ..))
  | tableWriteDoor p i l => exact .awake h (.writeOfLength _ _ fun _ _ => .writeDoor ..)
  | tableWriteHpu p i l =>
    exact .awake h (.writeOfLength _ _ fun _ hu => .writeHpu p i l fun hL => hpuFieldLaw_of_still hu (hfield hL))
  | tableWriteGroup p i l => exact .awake h (.writeOfLength _ _ fun _ _ => .writeGroup ..)
  | tableWritePermitRow p i l => exact .awake h (.writeOfLength _ _ fun _ _ => .writePermit ..)
  | tableWriteSystemRecord p i l => exact .awake h (.writeOfLength _ _ fun _ _ => .writeSystem ..)
  | tableReadDoorState p i n =>
    exact .awake h (.decideCommand _ _ _ fun _ _ => .still (.tableRead _ _ _ _ _ _ (fun _ _ => .clearFresh ..) _))
  | tableReadDoorConfig p i n | tableReadHpuConfig p i n | tableReadHpuState p i n | tableReadGroup p i n
  | tableReadPermitConfig p i n | tableReadPermitState p i n | tableReadSystemRecord p i n | tableReadAlarmList p i n =>
    exact .awake h (.decideCommand _ _ _ fun _ _ => .still (.tableRead _ _ _ _ _ _ (fun _ u => .refl u) _))
  | counterReadStation p x =>
    exact .awake h (.decideCommand _ _ _ fun _ _ => .still (.counterRead _ _ _ _ .clearStationCounters _))
  | counterReadRing p x =>
    exact .awake h (.decideCommand _ _ _ fun _ _ => .still (.counterRead _ _ _ _ .clearRingCounters _))
  | commission p => exact .awake h (.decideCommand _ _ _ fun _ _ => .commission ..)
  | decommission p => exact .awake h (.decideCommand _ _ _ fun _ _ => .decommission ..)
  | save p => exact .awake h (.decideCommand _ _ _ fun _ _ => .still (.same rfl rfl rfl rfl))
  | restart p => exact .awake h (.decideCommand _ _ _ fun _ _ => .still (.restart ..))
  | stationFrameDiscarded p l => exact .awake h (.still (.stationBytes ..))
  | stationInterbyteTimeout p l =>
    change awake (fun t => stationTimeout p (stationBytes p l t)) s = _ at h
    exact .awake h (.still ((Still.stationBytes ..).trans (.stationTimeout ..)))
  | stationFrameSent p => exact .awake h (.still (.frameSent ..))
  | snapshotPartSent p => exact .awake h (.still (.snapshotPartLeft ..))
  | saveComplete =>
    change awake (fun t => match t.cfs.save with | some p => saveCompletes p t | none => t) s = _ at h
    refine .awake h ?_
    split
    · exact .still (.saveCompletes ..)
    · exact .refl s
  | warmRestart => exact .awake h (.ite (fun _ => .warmRestart s) fun _ => .refl s)
  | resetAsserted => injection h with h; subst h; exact .resetAsserted s
  | coldStart => injection h with h; subst h; exact .coldStart s
  | emergencyCloseAsserted =>
    change awake (fun t => if t.mc.line then t else lineAsserted t) (setPin true s) = _ at h
    have pin : Still s (setPin true s) := .same rfl rfl rfl rfl
    exact (Course.still pin).trans (.awake h (.ite (fun _ => .refl _) fun _ => .lineAsserted _))
  | emergencyCloseReleased =>
    change awake (fun t => if t.mc.line then lineReleased t else t) (setPin false s) = _ at h
    have pin : Still s (setPin false s) := .same rfl rfl rfl rfl
    exact (Course.still pin).trans (.awake h (.ite (fun _ => .still (.lineReleased _)) fun _ => .refl _))
  | report p src seq r =>
    change awake (fun t => reportArrives p src seq r (ringHunt p t)) s = _ at h
    exact .awake h ((Course.still (.modSide p _ s)).trans (.reportArrives ..))
  | event p src seq x low fault =>
    change awake (fun t => eventArrives p src seq x low fault (ringHunt p t)) s = _ at h
    exact .awake h ((Course.still (.modSide p _ s)).trans (.eventArrives ..))
  | hpuReport p src seq st x =>
    change awake (fun t => hpuReportArrives p src seq st x (ringHunt p t)) s = _ at h
    exact .awake h ((Course.still (.modSide p _ s)).trans (.hpuReportArrives ..))
  | loopCopy p seq =>
    change awake (fun t => loopArrives p seq (ringHunt p t)) s = _ at h
    exact .awake h (.still ((Still.modSide p _ s).trans (.loopArrives ..)))
  | ringFrameDiscarded p l => exact .awake h (.still (.ringBytes ..))
  | ringInterbyteTimeout p l =>
    change awake (fun t => ringTimeout p (ringBytes p l t)) s = _ at h
    exact .awake h (.still ((Still.ringBytes ..).trans (.ringTimeout ..)))
  | orderSend => exact .awake h (.still (.ite (fun _ => (Still.ringQuiet s).trans (.sendHeadOrder _)) fun _ => .refl s))
  | pollSend => exact .awake h (.still (.ite (fun _ => (Still.ringQuiet s).trans (.pollNext _)) fun _ => .refl s))
  | replyLimitExpiry =>
    change awake (fun t => match replyOverdue t with | some d => missPoll d t | none => t) s = _ at h
    refine .awake h ?_
    split
    · exact .missPoll ..
    · exact .refl s
  | loopTimerExpiry => exact .awake h (.still (.loopTimerExpires s))
  | loopIntervalExpiry => exact .awake h (.still (.loopIntervalExpires s))
  | reportAgeExpiry x => exact .awake h (.ite (fun _ => .loseHpu ..) fun _ => .refl s)
  | supervisionTick => exact .awake h (.still (.supervisionTick s))
  | secondsCounterIncrement => exact .awake h (.still (.secondsIncrement s))
  | preWarningExpiry d => exact .awake h (.preWarning d s)
  | readyAgeExpiry d => exact .awake h (.still (.ite (fun _ => .evalDelay ..) fun _ => .refl s))
  | startWindowExpiry d =>
    change awake (fun t => settleRuns (onEntry Entry.windowOut d (windowExpires d) t)) s = _ at h
    exact .awake h (.settle (.onEntry fun e he _ => .windowExpires he))
  | deadlineExpiry d => exact .awake h (.still (.deadline d s))
  | hardLimitExpiry d =>
    change awake (fun t => settleRuns (onEntry Entry.overdue d (fun _ => faultDoor .OVERTIME d) t)) s = _ at h
    exact .awake h (.settle (.onEntry fun e _ _ => .faultDoor ..))
  | waitAgeExpiry i =>
    change awake (fun t => settleRuns (if waitedOut t i then bypassAt i t else t)) s = _ at h
    exact .awake h (.settle (.ite (fun hw => .bypassAt (notTracking_of_waitedOut hw)) fun _ => .refl s))
  | heldTimeExpiry d => exact .awake h (.still (.heldTimeExpires ..))
  | openAtSeaTimerExpiry d => exact .awake h (.still (.openAtSeaExpires ..))
  | heartbeatWindowExpiry p => exact .awake h (.ite (fun _ => .fallSilent ..) fun _ => .refl s)
  | summaryElapsedExpiry p => exact .awake h (.still (.ite (fun _ => .sendSummary ..) fun _ => .refl s))
  | walkStep i =>
    change awake (fun t => settleRuns (walkStep i t)) s = _ at h
    exact .awake h (.settle (.walkStep i s))
  | codeThatNamesNothing p x => exact .awake h (.ite (fun _ => .codeRefused ..) fun _ => .refl s)

/-- Every step is a chain of operations, after which no resumed run is left to look where none was before. -/
theorem step_course (h : step s = .next t) (hfield : L → HpuFieldLaw s) : Course L s t := by
  unfold step at h
  split at h
  · injection h with h; subst h; exact .refl s
  · have popped (l : List Instr) : Still s (s.withPending l) := .same rfl rfl rfl rfl
    exact (Course.still (popped _)).trans (exec_course h fun hL => hpuFieldLaw_of_still (popped _) (hfield hL))

end

end Sys2Proof.Proofs
end

section
/-! ## The accounts of the runs: numbers, tags and outstanding counts (R89, R96, R97) -/
namespace Sys2Proof.Proofs
open Sys2Proof Sys2Proof.Machine

set_option Elab.async false

/-- The run number that the entry of a door carries. -/
def tagOf (s : State) (d : DoorIx) : Option Byte := (s.entry d).bind fun e => e.tag.map RunTag.number

/-- How many doors carry a run number. -/
def carried (f : DoorIx → Option Byte) (n : Byte) : Nat := allDoors.countP fun d => decide (f d = some n)

/-- 1 where the number is the one given. -/
def one (x : Option Byte) (n : Byte) : Int := if x = some n then 1 else 0

theorem carried_eq_taggedDoors (s : State) (n : Byte) : (taggedDoors s n).length = carried (tagOf s) n := by
  unfold taggedDoors carried
  rw [← List.countP_eq_length_filter]
  refine List.countP_congr fun d _ => ?_
  unfold tagOf
  cases s.entry d with
  | none => simp
  | some e => cases htag : e.tag <;> simp [tagged, htag]

theorem taggedDoors_ne_nil_iff (s : State) (n : Byte) : taggedDoors s n ≠ [] ↔ ∃ d, tagOf s d = some n := by
  rw [← List.length_pos_iff, carried_eq_taggedDoors]
  unfold carried
  rw [List.countP_pos_iff]
  simp only [decide_eq_true_eq]
  exact ⟨fun ⟨d, _, h⟩ => ⟨d, h⟩, fun ⟨d, h⟩ => ⟨d, List.mem_finRange d, h⟩⟩

theorem carried_eq_zero {f : DoorIx → Option Byte} {n : Byte} (h : ∀ d, f d ≠ some n) : carried f n = 0 :=
  List.countP_eq_zero.mpr fun d _ => by simpa using h d

theorem ne_of_carried_eq_zero {f : DoorIx → Option Byte} {n : Byte} (h : carried f n = 0) (d : DoorIx) : f d ≠ some n := by
  simpa using List.countP_eq_zero.mp h d (List.mem_finRange d)

theorem carried_pos {f : DoorIx → Option Byte} {n : Byte} {d : DoorIx} (h : f d = some n) : 0 < carried f n :=
  List.countP_pos_iff.mpr ⟨d, List.mem_finRange d, by simpa using h⟩

/-- The count of a number follows what one door gives up and takes. -/
theorem carried_retag {f g : DoorIx → Option Byte} {d : DoorIx} (h : ∀ x, x ≠ d → g x = f x) (n : Byte) :
    (carried g n : Int) + one (f d) n = carried f n + one (g d) n := by
  have split (x : DoorIx → Option Byte) : (carried x n : Int) =
      ((allDoors.erase d).countP fun y => decide (x y = some n)) + one (x d) n := by
    unfold carried
    have hd : d ∈ allDoors := List.mem_finRange d
    rw [(List.perm_cons_erase hd).countP_eq, List.countP_cons]
    unfold one
    push_cast
    simp only [decide_eq_true_eq]
  rw [split f, split g]
  have rest : ((allDoors.erase d).countP fun y => decide (g y = some n)) = (allDoors.erase d).countP fun y => decide (f y = some n) :=
    List.countP_congr fun y hy => by
      have hne : y ≠ d := fun heq => (((List.nodup_finRange 96).mem_erase_iff).mp hy).1 heq
      rw [h y hne]
  rw [rest]
  omega

/-! ### The account -/

/-- What the accounts read of a run. -/
structure Brief where
  number : Byte
  state : RunState
  outstanding : Nat

/-- What the accounts read of a run. -/
def briefOf (r : Run) : Brief := ⟨r.number, r.state, r.outstanding⟩

/-- The run numbers are distinct, every number carried is a run's, and each outstanding count with what is owed to it is the count of
the doors that carry the number; a run that is owed an entry is not TRACKING. -/
structure Account (owed : Byte → Int) (l : List Brief) (f : DoorIx → Option Byte) : Prop where
  distinct : (l.map Brief.number).Nodup
  live : ∀ d, ∀ n ∈ f d, n ∈ l.map Brief.number
  counts : ∀ b ∈ l, (b.outstanding : Int) + owed b.number = carried f b.number
  owing : ∀ b ∈ l, 0 < owed b.number → b.state ≠ .TRACKING

section
variable {k k' : Byte → Int} {l l' : List Brief} {f g : DoorIx → Option Byte} {b : Brief}

theorem Account.perm (h : Account k l f) (hl : l.Perm l') : Account k l' f where
  distinct := (hl.map _).nodup_iff.mp h.distinct
  live d n hn := (hl.map _).mem_iff.mp (h.live d n hn)
  counts b hb := h.counts b (hl.mem_iff.mpr hb)
  owing b hb := h.owing b (hl.mem_iff.mpr hb)

/-- One door gives up its number and takes another. -/
theorem Account.retag (h : Account k l f) {d : DoorIx} (hsame : ∀ x, x ≠ d → g x = f x) (hlive : ∀ n ∈ g d, n ∈ l.map Brief.number)
    (hk : ∀ n, k' n = k n - one (f d) n + one (g d) n) (howing : ∀ b ∈ l, 0 < k' b.number → b.state ≠ .TRACKING) :
    Account k' l g where
  distinct := h.distinct
  live x n hn := by
    by_cases hx : x = d
    · exact hlive n (hx ▸ hn)
    · exact h.live x n (hsame x hx ▸ hn)
  counts b hb := by
    have hb := h.counts b hb
    have hcount := carried_retag hsame b.number
    rw [hk]
    omega
  owing := howing

/-- The counts of the runs change with what they are owed. -/
theorem Account.map (h : Account k l f) {c : Brief → Brief} (hnumber : ∀ b ∈ l, (c b).number = b.number)
    (hcount : ∀ b ∈ l, ((c b).outstanding : Int) + k' b.number = b.outstanding + k b.number)
    (howing : ∀ b ∈ l, 0 < k' b.number → (c b).state ≠ .TRACKING) : Account k' (l.map c) f := by
  have hnumbers : (l.map c).map Brief.number = l.map Brief.number := by
    rw [List.map_map]
    exact List.map_congr_left hnumber
  refine ⟨by rw [hnumbers]; exact h.distinct, fun d n hn => by rw [hnumbers]; exact h.live d n hn, fun b hb => ?_, fun b hb => ?_⟩
  · obtain ⟨x, hx, rfl⟩ := List.mem_map.mp hb
    have hnx := hnumber x hx
    have hcx := hcount x hx
    have hx := h.counts x hx
    rw [hnx]
    omega
  · obtain ⟨x, hx, rfl⟩ := List.mem_map.mp hb
    rw [hnumber x hx]
    exact howing x hx

theorem Account.drop (h : Account k (b :: l) f) (hnone : carried f b.number = 0) : Account k l f where
  distinct := (List.nodup_cons.mp h.distinct).2
  live d n hn := by
    obtain rfl | hmem := List.mem_cons.mp (h.live d n hn)
    · exact absurd hn (ne_of_carried_eq_zero hnone d)
    · exact hmem
  counts x hx := h.counts x (List.mem_cons_of_mem _ hx)
  owing x hx := h.owing x (List.mem_cons_of_mem _ hx)

theorem Account.add (h : Account k l f) (hfree : b.number ∉ l.map Brief.number) (hout : b.outstanding = 0) (hk : k b.number = 0) :
    Account k (b :: l) f where
  distinct := List.nodup_cons.mpr ⟨hfree, h.distinct⟩
  live d n hn := List.mem_cons_of_mem _ (h.live d n hn)
  counts x hx := by
    obtain rfl | hx := List.mem_cons.mp hx
    · rw [hout, hk, carried_eq_zero fun d hd => hfree (h.live d _ hd)]
      rfl
    · exact h.counts x hx
  owing x hx hpos := by
    obtain rfl | hx := List.mem_cons.mp hx
    · rw [hk] at hpos
      exact absurd hpos (by decide)
    · exact h.owing x hx hpos

end

/-! ### The live contexts -/

/-- A list filtered by two tests that differ at one of its elements alone. -/
theorem filterMap_perm_cons {α β : Type} [DecidableEq α] {l : List α} (hl : l.Nodup) {i : α} (hi : i ∈ l) {f g : α → Option β} {r : β}
    (hf : f i = some r) (hg : g i = none) (h : ∀ x, x ≠ i → g x = f x) : (l.filterMap f).Perm (r :: l.filterMap g) := by
  have hperm := List.perm_cons_erase hi
  have hrest : (l.erase i).filterMap f = (l.erase i).filterMap g :=
    List.filterMap_congr fun x hx => (h x fun heq => (hl.mem_erase_iff.mp hx).1 heq).symm
  have hgs : (l.filterMap g).Perm ((l.erase i).filterMap g) := by
    refine (hperm.filterMap g).trans ?_
    rw [List.filterMap_cons, hg]
  refine (hperm.filterMap f).trans ?_
  rw [List.filterMap_cons, hf, hrest]
  exact hgs.symm.cons r

section
variable {s t u : State} {i j : SlotIx} {r x : Run}

theorem slots_setSlot (y : Option Run) : (setSlot i y s).gru.slots[j] = if i = j then y else s.gru.slots[j] := by
  simp only [setSlot, Fin.getElem_fin, put, Vector.getElem_set, Fin.val_inj]

/-- A run leaves the live contexts with its slot. -/
theorem liveRuns_perm_of_slots (hs : s.gru.slots[i] = some r) (ht : t.gru.slots[i] = none)
    (h : ∀ j : SlotIx, j ≠ i → t.gru.slots[j] = s.gru.slots[j]) (hstack : t.gru.stack = s.gru.stack) :
    (liveRuns s).Perm (r :: liveRuns t) := by
  unfold liveRuns
  rw [hstack]
  exact (filterMap_perm_cons (List.nodup_finRange 5) (List.mem_finRange i) hs ht h).append_right _

/-- The runs as the accounts read them. -/
def briefs (s : State) : List Brief := (liveRuns s).map briefOf

theorem briefs_congr (h : t.gru = s.gru) : briefs t = briefs s := by unfold briefs liveRuns; rw [h]

theorem map_number_briefs (s : State) : (briefs s).map Brief.number = (liveRuns s).map Run.number := by
  unfold briefs
  rw [List.map_map]
  rfl

theorem mem_briefs {b : Brief} : b ∈ briefs s ↔ ∃ r ∈ liveRuns s, briefOf r = b := List.mem_map

theorem modRun_liveRuns (n : Byte) (f : Run → Run) (s : State) :
    liveRuns (modRun n f s) = (liveRuns s).map fun r => if r.number = n then f r else r := by
  have hslots : (fun i : SlotIx => (modRun n f s).gru.slots[i]) = fun i => (s.gru.slots[i]).map fun r => if r.number = n then f r else r :=
    funext fun i => by simp only [modRun, Fin.getElem_fin, getElem_updAll]
  unfold liveRuns
  rw [List.map_append, List.map_filterMap, hslots]
  rfl

end

/-! ### The seats -/

/-- The slots, the slotting order and the stack hang together (R88, R91). -/
structure Seats (c : SlotIx → Option Nat) (order : List SlotIx) (stack : List Nat) : Prop where
  nodup : order.Nodup
  seated : ∀ i, i ∈ order ↔ i ∈ stationSlots ∧ c i ≠ none
  size : stack.length ≤ stackSize
  falling : stack.Pairwise fun a b => b ≤ a
  below : ∀ x ∈ stack, ∀ i ∈ stationSlots, ∃ y ∈ c i, x ≤ y

theorem slotClass_eq_none {s : State} {i : SlotIx} : slotClass s i = none ↔ s.gru.slots[i] = none := by
  unfold slotClass
  exact Option.map_eq_none_iff

theorem stackLaw_iff (s : State) : StackLaw s ↔ Seats (slotClass s) s.gru.slotting (s.gru.stack.map Run.cls) := by
  unfold StackLaw SlotIdle
  constructor
  · rintro ⟨hnodup, hseated, hsize, hfalling, hbelow⟩
    refine ⟨hnodup, fun i => (hseated i).trans (and_congr Iff.rfl (not_congr slotClass_eq_none.symm)), by rwa [List.length_map], hfalling,
      fun x hx => ?_⟩
    obtain ⟨r, hr, rfl⟩ := List.mem_map.mp hx
    exact hbelow r hr
  · intro h
    refine ⟨h.nodup, fun i => (h.seated i).trans (and_congr Iff.rfl (not_congr slotClass_eq_none)), ?_, h.falling, fun r hr => ?_⟩
    · have := h.size
      rwa [List.length_map] at this
    · exact h.below r.cls (List.mem_map_of_mem hr)

section
variable {c c' : SlotIx → Option Nat} {order : List SlotIx} {stack stack' : List Nat} {i : SlotIx} {x : Nat}

theorem slotS_not_station : slotS ∉ stationSlots := by decide

theorem Seats.stack_eq_nil (h : Seats c order stack) (hi : i ∈ stationSlots) (hfree : c i = none) : stack = [] := by
  cases stack with
  | nil => rfl
  | cons a rest =>
    obtain ⟨y, hy, -⟩ := h.below a (List.mem_cons_self ..) i hi
    rw [hfree] at hy
    cases hy

/-- The system slot is no station slot. -/
theorem Seats.system (h : Seats c order stack) (hc : ∀ j ∈ stationSlots, c' j = c j) : Seats c' order stack where
  nodup := h.nodup
  seated j := (h.seated j).trans (and_congr_right fun hj => by rw [hc j hj])
  size := h.size
  falling := h.falling
  below a ha j hj := by
    rw [hc j hj]
    exact h.below a ha j hj

theorem Seats.sublist (h : Seats c order stack) (hl : stack'.Sublist stack) : Seats c order stack' where
  nodup := h.nodup
  seated := h.seated
  size := hl.length_le.trans h.size
  falling := h.falling.sublist hl
  below a ha := h.below a (hl.subset ha)

/-- A station slot is given up while nothing is stacked. -/
theorem Seats.leave (h : Seats c order []) (hc : ∀ j, j ≠ i → c' j = c j) (hi : c' i = none) :
    Seats c' (order.filter fun j => decide (j ≠ i)) [] where
  nodup := h.nodup.filter _
  seated j := by
    rw [List.mem_filter, h.seated]
    by_cases hj : j = i
    · subst hj
      simp [hi]
    · simp [hj, hc j hj]
  size := Nat.zero_le _
  falling := .nil
  below := nofun

/-- A free station slot is taken. -/
theorem Seats.take (h : Seats c order stack) (hi : i ∈ stationSlots) (hfree : c i = none) (hc : ∀ j, j ≠ i → c' j = c j)
    (hx : c' i = some x) : Seats c' (order ++ [i]) stack := by
  have hnil := h.stack_eq_nil hi hfree
  subst hnil
  have hni : i ∉ order := fun hmem => ((h.seated i).mp hmem).2 hfree
  refine ⟨h.nodup.append (List.nodup_singleton i) (List.disjoint_singleton.mpr hni), fun j => ?_, Nat.zero_le _, .nil, nofun⟩
  rw [List.mem_append, List.mem_singleton, h.seated]
  by_cases hj : j = i
  · subst hj
    simp [hi, hx]
  · simp [hj, hc j hj]

/-- The slot of the order changes its run: the run before it leaves, the next one joins the end. -/
theorem Seats.succeed (h : Seats c order stack) (hi : i ∈ stationSlots) (hc : ∀ j, j ≠ i → c' j = c j)
    (hx : c' i = some x) (hsize : stack'.length ≤ stackSize) (hfalling : stack'.Pairwise fun a b => b ≤ a)
    (hbelow : ∀ a ∈ stack', (∀ j ∈ stationSlots, j ≠ i → ∃ y ∈ c j, a ≤ y) ∧ a ≤ x) :
    Seats c' ((order.filter fun j => decide (j ≠ i)) ++ [i]) stack' := by
  refine ⟨(h.nodup.filter _).append (List.nodup_singleton i) (List.disjoint_singleton.mpr (by simp)), fun j => ?_, hsize, hfalling,
    fun a ha j hj => ?_⟩
  · rw [List.mem_append, List.mem_singleton, List.mem_filter, h.seated]
    by_cases hj : j = i
    · subst hj
      simp [hi, hx]
    · simp [hj, hc j hj]
  · obtain ⟨hothers, hle⟩ := hbelow a ha
    by_cases hji : j = i
    · subst hji
      exact ⟨x, hx, hle⟩
    · rw [hc j hji]
      exact hothers j hj hji

end

end Sys2Proof.Proofs
end

section
/-! ## The laws of the runs under what GRU does (R89 to R99) -/
namespace Sys2Proof.Proofs
open Sys2Proof Sys2Proof.Machine

set_option Elab.async false

/-- A complete run, as the accounts read it. -/
def Brief.complete (b : Brief) : Prop := b.state = .TRACKING ∧ b.outstanding = 0

theorem complete_briefOf {r : Run} : (briefOf r).complete ↔ r.done = true := done_iff.symm

/-- The laws of the runs with the entries that are owed to their counts. -/
structure Balanced (owed : Byte → Int) (s : State) (f : DoorIx → Option Byte) : Prop where
  seats : StackLaw s
  account : Account owed (briefs s) f

/-- The laws of the runs, no complete run standing. -/
structure Settled (owed : Byte → Int) (s : State) (f : DoorIx → Option Byte) : Prop extends Balanced owed s f where
  quiet : ∀ b ∈ briefs s, ¬b.complete

section
variable {s t u : State} {i j : SlotIx} {r x : Run} {k k' : Byte → Int} {f g : DoorIx → Option Byte}

theorem stackLaw_congr (h : t.gru = s.gru) (hs : StackLaw s) : StackLaw t := by
  unfold StackLaw SlotIdle slotClass at *
  rw [h]
  exact hs

theorem Balanced.congr (h : t.gru = s.gru) (hs : Balanced k s f) : Balanced k t f :=
  ⟨stackLaw_congr h hs.seats, by rw [briefs_congr h]; exact hs.account⟩
theorem Settled.congr (h : t.gru = s.gru) (hs : Settled k s f) : Settled k t f :=
  ⟨hs.toBalanced.congr h, by rw [briefs_congr h]; exact hs.quiet⟩

theorem done_eq_false (h : ∀ b ∈ briefs s, ¬b.complete) (hr : r ∈ liveRuns s) : r.done = false := by
  have := h (briefOf r) (mem_briefs.mpr ⟨r, hr, rfl⟩)
  rw [complete_briefOf] at this
  exact Bool.eq_false_iff.mpr this

theorem runsKept_iff (s : State) : (StackLaw s ∧ TagLaw s ∧ ∀ r ∈ liveRuns s, r.done = false) ↔ Settled (fun _ => 0) s (tagOf s) := by
  have hnumbers := map_number_briefs s
  constructor
  · rintro ⟨hstack, ⟨hdistinct, hlive, hcounts⟩, hdone⟩
    refine ⟨⟨hstack, by rwa [hnumbers], fun d n hn => ?_, fun b hb => ?_, fun b _ hpos => absurd hpos (by decide)⟩, fun b hb => ?_⟩
    · rw [hnumbers]
      exact hlive n ((taggedDoors_ne_nil_iff s n).mpr ⟨d, hn⟩)
    · obtain ⟨r, hr, rfl⟩ := mem_briefs.mp hb
      have hcount := hcounts r hr
      rw [carried_eq_taggedDoors] at hcount
      show (r.outstanding : Int) + 0 = carried (tagOf s) r.number
      omega
    · obtain ⟨r, hr, rfl⟩ := mem_briefs.mp hb
      rw [complete_briefOf, hdone r hr]
      decide
  · rintro h
    refine ⟨h.seats, ⟨by rw [← hnumbers]; exact h.account.distinct, fun n hn => ?_, fun r hr => ?_⟩, fun r hr => done_eq_false h.quiet hr⟩
    · obtain ⟨d, hd⟩ := (taggedDoors_ne_nil_iff s n).mp hn
      rw [← hnumbers]
      exact h.account.live d n hd
    · have hcount := h.account.counts (briefOf r) (mem_briefs.mpr ⟨r, hr, rfl⟩)
      rw [carried_eq_taggedDoors]
      have hcount : (r.outstanding : Int) + 0 = carried (tagOf s) r.number := hcount
      omega

/-! ### A slot or a stacked context is given up (R97, R98, R100) -/

theorem slotClass_of_slots (h : ∀ j : SlotIx, j ≠ i → t.gru.slots[j] = s.gru.slots[j]) (j : SlotIx) (hj : j ≠ i) :
    slotClass t j = slotClass s j := by
  unfold slotClass
  rw [h j hj]

theorem slotting_filter_slotS (h : StackLaw s) : (s.gru.slotting.filter fun k => decide (k ≠ slotS)) = s.gru.slotting :=
  List.filter_eq_self.mpr fun j hj => by
    have hstation := ((h.2.1 j).mp hj).1
    exact decide_eq_true fun heq => slotS_not_station (heq ▸ hstation)

theorem put_slots {v : Vector (Option Run) 5} (y : Option Run) : (put v i y)[j] = if i = j then y else v[j] := by
  simp only [Fin.getElem_fin, put, Vector.getElem_set, Fin.val_inj]

theorem station_of_ne (h : i ≠ slotS) : i ∈ stationSlots := by
  revert h
  revert i
  decide

/-- R97, R98: a slot given up takes the run out of the live contexts; what resumes was live before. -/
theorem vacate_ends (hlaw : StackLaw s) (hr : s.gru.slots[i] = some r) (hstack : ∀ x ∈ s.gru.stack, x.done = false) :
    StackLaw (vacate i s) ∧ (briefs s).Perm (briefOf r :: briefs (vacate i s)) := by
  by_cases hplain : i = slotS ∨ s.gru.stack = []
  · have hgru := vacate_gru (s := s) hplain
    have hslots (j : SlotIx) : (vacate i s).gru.slots[j] = if i = j then none else s.gru.slots[j] := by
      rw [hgru]; exact put_slots none
    have hothers (j : SlotIx) (hj : j ≠ i) : (vacate i s).gru.slots[j] = s.gru.slots[j] := by
      rw [hslots, if_neg (Ne.symm hj)]
    have hfree : (vacate i s).gru.slots[i] = none := by rw [hslots, if_pos rfl]
    have hstacked : (vacate i s).gru.stack = s.gru.stack := by rw [hgru]
    refine ⟨(stackLaw_iff _).mpr ?_, (liveRuns_perm_of_slots hr hfree hothers hstacked).map briefOf⟩
    have seats := (stackLaw_iff s).mp hlaw
    rw [hstacked, show (vacate i s).gru.slotting = s.gru.slotting.filter fun k => decide (k ≠ i) by rw [hgru]]
    by_cases hS : i = slotS
    · subst hS
      rw [slotting_filter_slotS hlaw]
      exact seats.system fun j hj => slotClass_of_slots hothers j fun heq => slotS_not_station (heq ▸ hj)
    · rw [hplain.resolve_left hS] at seats ⊢
      exact seats.leave (slotClass_of_slots hothers) (slotClass_eq_none.mpr hfree)
  · obtain ⟨hi, hne⟩ := not_or.mp hplain
    obtain ⟨x, rest, hst⟩ := List.exists_cons_of_ne_nil hne
    have hx := hstack x (hst ▸ List.mem_cons_self ..)
    have hgru := vacate_gru_resumes (s := s) hi hst hx
    have hslots (j : SlotIx) : (vacate i s).gru.slots[j] = if i = j then some { x with slot := i } else s.gru.slots[j] := by
      rw [hgru]
      refine (put_slots _).trans ?_
      split
      · rfl
      · next hij => rw [put_slots, if_neg hij]
    have hothers (j : SlotIx) (hj : j ≠ i) : (vacate i s).gru.slots[j] = s.gru.slots[j] := by
      rw [hslots, if_neg (Ne.symm hj)]
    have hstation : i ∈ stationSlots := station_of_ne hi
    have seats := (stackLaw_iff s).mp hlaw
    rw [hst, List.map_cons] at seats
    refine ⟨(stackLaw_iff _).mpr ?_, ?_⟩
    · rw [show (vacate i s).gru.slotting = (s.gru.slotting.filter fun k => decide (k ≠ i)) ++ [i] by rw [hgru],
        show (vacate i s).gru.stack = rest by rw [hgru]]
      obtain ⟨hfirst, hfalling⟩ := List.pairwise_cons.mp seats.falling
      refine seats.succeed hstation (slotClass_of_slots hothers) (x := x.cls) ?_ (Nat.le_of_succ_le seats.size) hfalling fun a ha => ?_
      · unfold slotClass
        rw [hslots, if_pos rfl]
        rfl
      · exact ⟨fun j hj _ => seats.below a (List.mem_cons_of_mem _ ha) j hj, hfirst a ha⟩
    · have hout : (liveRuns s).Perm (r :: liveRuns (setSlot i none s)) :=
        liveRuns_perm_of_slots hr (by rw [slots_setSlot, if_pos rfl]) (fun j hj => by rw [slots_setSlot, if_neg (Ne.symm hj)]) rfl
      have hin : (liveRuns (vacate i s)).Perm ({ x with slot := i } :: liveRuns (setStack rest (setSlot i none s))) := by
        refine liveRuns_perm_of_slots (by rw [hslots, if_pos rfl]) ?_ (fun j hj => ?_) (by rw [hgru]; rfl)
        · exact (slots_setSlot none).trans (if_pos rfl)
        · rw [hothers j hj]
          exact (slots_setSlot none).trans (if_neg (Ne.symm hj))
      have hmid : (liveRuns (setSlot i none s)).Perm (x :: liveRuns (setStack rest (setSlot i none s))) := by
        have hsplit : liveRuns (setSlot i none s) = (allSlots.filterMap fun j => (setSlot i none s).gru.slots[j]) ++ x :: rest := by
          unfold liveRuns
          exact congrArg _ hst
        rw [hsplit]
        exact List.perm_middle
      refine (hout.map briefOf).trans (List.Perm.cons _ ?_)
      exact (hmid.map briefOf).trans (hin.map briefOf).symm

/-- R99: a stacked context ends where it stands. -/
theorem filterStack_ends (hlaw : StackLaw s) (hdistinct : ((briefs s).map Brief.number).Nodup) (hr : r ∈ s.gru.stack)
    (hstack : t.gru.stack = s.gru.stack.filter fun x => decide (x.number ≠ r.number)) (hslots : t.gru.slots = s.gru.slots)
    (hslotting : t.gru.slotting = s.gru.slotting) : StackLaw t ∧ (briefs s).Perm (briefOf r :: briefs t) := by
  have hclass : slotClass t = slotClass s := by unfold slotClass; rw [hslots]
  have seats := (stackLaw_iff s).mp hlaw
  refine ⟨(stackLaw_iff t).mpr ?_, ?_⟩
  · rw [hclass, hslotting, hstack]
    exact seats.sublist (List.filter_sublist.map Run.cls)
  · rw [map_number_briefs] at hdistinct
    have hnodup := (distinctNumbers_iff.mp hdistinct).2.1
    have hperm : s.gru.stack.Perm (r :: s.gru.stack.filter fun x => decide (x.number ≠ r.number)) := by
      refine (List.perm_cons_erase hr).trans (List.Perm.cons r (List.Perm.of_eq ?_))
      have hrs : s.gru.stack.Nodup := hnodup.of_map
      rw [hrs.erase_eq_filter]
      refine List.filter_congr fun x hx => ?_
      by_cases hxr : x = r
      · simp [hxr]
      · have hne : x.number ≠ r.number := fun heq => hxr (List.inj_on_of_nodup_map hnodup hx hr heq)
        simp [hxr, hne]
    have hlive : (liveRuns s).Perm (r :: liveRuns t) := by
      have hseats : (fun i : SlotIx => t.gru.slots[i]) = fun i => s.gru.slots[i] := by rw [hslots]
      unfold liveRuns
      rw [hstack, hseats]
      exact (List.Perm.append_left _ hperm).trans List.perm_middle
    exact hlive.map briefOf

end

/-! ### Reports of tags (R34, R96, R97) -/

section
variable {s t u : State} {i j : SlotIx} {r x : Run} {k k' : Byte → Int} {f g : DoorIx → Option Byte} {m n : Byte}

theorem Balanced.drop (h : Balanced k s f) (hlaw : StackLaw t) (hperm : (briefs s).Perm (briefOf r :: briefs t))
    (hnone : carried f r.number = 0) : Balanced k t f := ⟨hlaw, (h.account.perm hperm).drop hnone⟩

/-- R97, R99: the run of a number completes where it is complete; no other run was, so none is left. -/
theorem settled_completeRun (h : Balanced k s f) (hothers : ∀ r ∈ liveRuns s, r.done = true → r.number = m)
    (hk : ∀ r ∈ liveRuns s, r.done = true → k m = 0) : Settled k (completeRun m s) f := by
  have hdistinct : DistinctNumbers s := by
    have := h.account.distinct
    rwa [map_number_briefs] at this
  have hunique {a b : Run} (ha : a ∈ liveRuns s) (hb : b ∈ liveRuns s) (hab : a.number = b.number) : a = b :=
    List.inj_on_of_nodup_map hdistinct ha hb hab
  have hnone {r : Run} (hr : r ∈ liveRuns s) (hd : r.done = true) : carried f r.number = 0 := by
    have hcount := h.account.counts (briefOf r) (mem_briefs.mpr ⟨r, hr, rfl⟩)
    have hcount : (r.outstanding : Int) + k r.number = carried f r.number := hcount
    rw [hothers r hr hd, hk r hr hd, (done_iff.mp hd).2] at hcount
    rw [hothers r hr hd]
    omega
  have ended {t : State} {r : Run} (hr : r ∈ liveRuns s) (hd : r.done = true) (hlaw : StackLaw t)
      (hperm : (briefs s).Perm (briefOf r :: briefs t)) : Settled k t f := by
    refine ⟨h.drop hlaw hperm (hnone hr hd), fun b hb hc => ?_⟩
    have hmem : b ∈ briefs s := hperm.mem_iff.mpr (List.mem_cons_of_mem _ hb)
    obtain ⟨x, hx, rfl⟩ := mem_briefs.mp hmem
    have hxr := hunique hx hr ((hothers x hx (complete_briefOf.mp hc)).trans (hothers r hr hd).symm)
    subst hxr
    have hnodup := (hperm.map Brief.number).nodup_iff.mp h.account.distinct
    exact (List.nodup_cons.mp hnodup).1 (List.mem_map_of_mem hb)
  have still (hall : ∀ r ∈ liveRuns s, r.done = false) : Settled k s f :=
    ⟨h, fun b hb hc => by
      obtain ⟨x, hx, rfl⟩ := mem_briefs.mp hb
      rw [complete_briefOf, hall x hx] at hc
      cases hc⟩
  unfold completeRun
  split
  · next i hi =>
    obtain ⟨r, hr, hn⟩ := slotNumbered_eq_some hi
    have hlive := liveRuns_of_slot hr
    unfold completeSlot
    rw [hr]
    simp only
    split
    · next hd =>
      have hgru : (sendReport .COMPLETE r s).gru = s.gru := (PlaceFrame.sendReport ..).gru
      have hnostack : ∀ x ∈ (sendReport .COMPLETE r s).gru.stack, x.done = false := fun x hx => by
        rw [hgru] at hx
        by_contra hxd
        have hxr := hothers x (liveRuns_of_stack hx) (by simpa using hxd)
        exact (distinctNumbers_iff.mp hdistinct).2.2 i r hr x hx (by rw [hn, hxr])
      obtain ⟨hlaw, hperm⟩ := vacate_ends (stackLaw_congr hgru h.seats) (i := i) (r := r) (by rw [hgru]; exact hr) hnostack
      rw [briefs_congr hgru] at hperm
      exact ended hlive hd hlaw hperm
    · next hd =>
      refine still fun x hx => Bool.eq_false_iff.mpr fun hxd => hd ?_
      rw [← hunique hx hlive ((hothers x hx hxd).trans hn.symm)]
      exact hxd
  · next hi =>
    have hnotslot : ∀ i : SlotIx, ∀ r ∈ s.gru.slots[i], r.number ≠ m := fun i r hr heq => by
      rw [← heq, slotNumbered_eq hdistinct hr] at hi
      cases hi
    unfold completeStacked
    split
    · next r hfind =>
      have hmem := List.mem_of_find?_eq_some hfind
      have hfound := List.find?_some hfind
      obtain ⟨hnum, hd⟩ := Bool.and_eq_true_iff.mp hfound
      have hnum : r.number = m := of_decide_eq_true hnum
      have hgru : (sendReport .COMPLETE r s).gru = s.gru := (PlaceFrame.sendReport ..).gru
      have hslots : (sendReport .COMPLETE r s).gru.slots = s.gru.slots := by rw [hgru]
      have hslotting : (sendReport .COMPLETE r s).gru.slotting = s.gru.slotting := by rw [hgru]
      obtain ⟨hlaw, hperm⟩ := filterStack_ends h.seats h.account.distinct hmem
        (t := setStack (s.gru.stack.filter fun x => decide (x.number ≠ m)) (sendReport .COMPLETE r s))
        (by rw [hnum]; rfl) hslots hslotting
      exact ended (liveRuns_of_stack hmem) hd hlaw hperm
    · next hfind =>
      refine still fun x hx => Bool.eq_false_iff.mpr fun hxd => ?_
      have hxm := hothers x hx hxd
      obtain ⟨i, hi⟩ | hst := mem_liveRuns.mp hx
      · exact hnotslot i x hi hxm
      · have := List.find?_eq_none.mp hfind x hst
        simp [hxm, hxd] at this

/-- The briefs of the runs after the run of a number was changed. -/
theorem briefs_modRun {c : Run → Run} {cb : Brief → Brief} (hc : ∀ r, briefOf (c r) = cb (briefOf r)) (s : State) :
    briefs (modRun m c s) = (briefs s).map fun b => if b.number = m then cb b else b := by
  unfold briefs
  rw [modRun_liveRuns, List.map_map, List.map_map]
  refine List.map_congr_left fun r _ => ?_
  simp only [Function.comp_apply]
  split
  · next hr => rw [if_pos (show (briefOf r).number = m from hr), hc]
  · next hr => rw [if_neg (show (briefOf r).number ≠ m from hr)]

theorem stackLaw_modRun {c : Run → Run} (hc : ∀ r, (c r).cls = r.cls) (h : StackLaw s) : StackLaw (modRun m c s) := by
  have hcls (r : Run) : (if r.number = m then c r else r).cls = r.cls := by split <;> [exact hc r; rfl]
  have hclass : slotClass (modRun m c s) = slotClass s := by
    funext i
    simp only [slotClass, modRun, Fin.getElem_fin, getElem_updAll, Option.map_map]
    exact congrArg (fun F => Option.map F _) (funext hcls)
  have hstack : (modRun m c s).gru.stack.map Run.cls = s.gru.stack.map Run.cls := by
    show (s.gru.stack.map _).map Run.cls = _
    rw [List.map_map]
    exact List.map_congr_left fun r _ => hcls r
  rw [stackLaw_iff] at h ⊢
  rw [hclass, hstack]
  exact h

/-- What a fate makes of a run, as the accounts read it. -/
def Brief.less (b : Brief) : Brief := { b with outstanding := countDown b.outstanding }

theorem briefOf_takeFate (fate : TagFate) (r : Run) : briefOf (r.takeFate fate) = (briefOf r).less := by cases fate <;> rfl

/-- R34, R96, R97: a door gives up its number, which is reported to the run that holds it, and may take the number of another run that
is not TRACKING, to which an entry is owed until it counts it. -/
theorem settled_reportTag {d : DoorIx} {tag : Option RunTag} (h : Settled (fun _ => 0) s f) (hu : u.gru = s.gru)
    (htag : f d = tag.map RunTag.number) (hsame : ∀ x, x ≠ d → g x = f x)
    (htaken : ∀ n ∈ g d, ∃ r ∈ liveRuns s, r.number = n ∧ r.state ≠ .TRACKING) (fate : TagFate) :
    Settled (one (g d)) (reportTag tag fate u) g := by
  have hdistinct := h.account.distinct
  have hunique {a b : Run} (ha : a ∈ liveRuns s) (hb : b ∈ liveRuns s) (hab : a.number = b.number) : a = b := by
    rw [map_number_briefs] at hdistinct
    exact List.inj_on_of_nodup_map hdistinct ha hb hab
  have howing : ∀ b ∈ briefs s, 0 < one (g d) b.number → b.state ≠ .TRACKING := fun b hb hpos => by
    obtain ⟨r, hr, rfl⟩ := mem_briefs.mp hb
    unfold one at hpos
    split at hpos
    · next hgd =>
      obtain ⟨x, hx, hxn, hxs⟩ := htaken _ hgd
      rw [← hunique hx hr hxn]
      exact hxs
    · exact absurd hpos (by decide)
  have hlive : ∀ n ∈ g d, n ∈ (briefs s).map Brief.number := fun n hn => by
    obtain ⟨x, hx, hxn, -⟩ := htaken n hn
    rw [map_number_briefs]
    exact List.mem_map.mpr ⟨x, hx, hxn⟩
  cases tag with
  | none =>
    have hfd : f d = none := htag
    refine Settled.congr hu ⟨⟨h.seats, h.account.retag hsame hlive (fun n => ?_) howing⟩, h.quiet⟩
    rw [hfd]
    simp [one]
  | some tg =>
    have hfd : f d = some tg.number := htag
    -- the entry changes first, in the account
    have retagged : Account (fun n => 0 - one (f d) n + one (g d) n) (briefs s) g := by
      refine h.account.retag hsame hlive (fun n => rfl) fun b hb hpos => howing b hb ?_
      have hnonneg : 0 ≤ one (f d) b.number := by unfold one; split <;> decide
      omega
    have counted : Account (one (g d)) (briefs (countTag (some tg) fate u)) g := by
      have hbriefs : briefs (countTag (some tg) fate u) =
          (briefs s).map fun b => if b.number = tg.number then b.less else b := by
        rw [← briefs_congr hu]
        exact briefs_modRun (briefOf_takeFate fate) u
      rw [hbriefs]
      refine retagged.map (fun b _ => by split <;> rfl) (fun b hb => ?_) fun b hb hpos => ?_
      · have hcount := h.account.counts b hb
        split
        · next hn =>
          have hpos : 0 < carried f b.number := carried_pos (by rw [hfd, hn])
          have hcount : (b.outstanding : Int) + 0 = carried f b.number := hcount
          have hdown : b.less.outstanding = b.outstanding - 1 := by
            simp only [Brief.less, countDown]
          rw [hdown, hfd, hn]
          simp only [one, if_pos]
          omega
        · next hn =>
          rw [hfd]
          have hzero : one (some tg.number) b.number = 0 := if_neg fun heq => hn (Option.some.inj heq).symm
          rw [hzero]
          omega
      · split <;> exact howing b hb hpos
    refine settled_completeRun ⟨?_, counted⟩ (fun r hr hd => ?_) fun r hr hd => ?_
    · exact stackLaw_modRun (takeFate_cls fate) (stackLaw_congr hu h.seats)
    · rw [liveRuns_countTag] at hr
      obtain ⟨x, hx, rfl⟩ := List.mem_map.mp hr
      have hxs : x ∈ liveRuns s := by unfold liveRuns at *; rwa [hu] at hx
      obtain ⟨tg', htg, hn⟩ := number_of_fated_done (done_eq_false h.quiet hxs) hd
      rw [fated_number, hn, ← Option.some.inj htg]
    · have hb := counted.owing (briefOf r) (mem_briefs.mpr ⟨r, hr, rfl⟩)
      have hnum : r.number = tg.number := by
        rw [liveRuns_countTag] at hr
        obtain ⟨x, hx, rfl⟩ := List.mem_map.mp hr
        have hxs : x ∈ liveRuns s := by unfold liveRuns at *; rwa [hu] at hx
        obtain ⟨tg', htg, hn⟩ := number_of_fated_done (done_eq_false h.quiet hxs) hd
        rw [fated_number, hn, ← Option.some.inj htg]
      by_contra hne
      have hpos : 0 < one (g d) r.number := by
        rw [hnum]
        unfold one at hne ⊢
        split at hne
        · next heq => rw [if_pos heq]; decide
        · exact absurd rfl hne
      exact hb hpos (done_iff.mp hd).1

end

end Sys2Proof.Proofs
end

section
/-! ## The laws of the runs under the operations on the schedule (R47, R48, R93, R96) -/
namespace Sys2Proof.Proofs
open Sys2Proof Sys2Proof.Machine

set_option Elab.async false

/-- The number of a tag. -/
abbrev numberOf (tag : Option RunTag) : Option Byte := tag.map RunTag.number

/-- No run is owed an entry. -/
abbrev nothing : Byte → Int := fun _ => 0

theorem one_none : one none = nothing := by funext n; simp [one]

/-! ### The tags of the entries -/

section
variable {s t u : State} {d x : DoorIx} {e : Entry} {m : Demand}

theorem tagOf_eq (he : s.entry d = some e) : tagOf s d = numberOf e.tag := by unfold tagOf; rw [he]; rfl
theorem tagOf_eq_none (he : s.entry d = none) : tagOf s d = none := by unfold tagOf; rw [he]; rfl

theorem tagOf_of_entry (h : t.entry x = s.entry x) : tagOf t x = tagOf s x := by unfold tagOf; rw [h]
theorem tagOf_of_cs (h : t.cs = s.cs) : tagOf t = tagOf s := funext fun x => tagOf_of_entry (entry_congr (by rw [h]) x)

theorem tagOf_of_claim (h : claimOf t x = claimOf s x) : tagOf t x = tagOf s x := by
  have tag (u : State) : tagOf u x = (claimOf u x).bind fun c => numberOf c.2.2.2.2.1 := by
    unfold tagOf claimOf
    cases u.entry x <;> rfl
  rw [tag, tag, h]

theorem tagOf_pass (h : HpuIx) (s : State) : tagOf (pass h s) = tagOf s := funext fun x => tagOf_of_claim (claimOf_pass h s x)
theorem tagOf_evalDelay (h : HpuIx) (s : State) : tagOf (evalDelay h s) = tagOf s := funext fun _ => tagOf_of_entry (evalDelay_entry ..)

theorem tagOf_setEntry (d x : DoorIx) (e : Entry) (s : State) :
    tagOf (s.setEntry d e) x = if d = x then numberOf e.tag else tagOf s x := by
  unfold tagOf
  rw [entry_setEntry]
  split <;> rfl

theorem tagOf_makeEntry (d x : DoorIx) (e : Entry) (s : State) :
    tagOf (s.makeEntry d e) x = if d = x then numberOf e.tag else tagOf s x := tagOf_setEntry d x e s

theorem tagOf_dropEntry (d x : DoorIx) (s : State) : tagOf (s.dropEntry d) x = if d = x then none else tagOf s x := by
  unfold tagOf
  rw [entry_dropEntry]
  split <;> rfl

/-- R41: a renumbering keeps every tag. -/
theorem tagOf_arrived (d x : DoorIx) (s : State) : tagOf (arrived d s) x = tagOf s x := by
  by_cases h : s.cs.nextArrival = arrivalTop
  · rw [(arrived_at_top h d).2]
    simp only [tagOf, State.entry, renumber, Fin.getElem_fin, getElem_updAll]
    split
    · rfl
    · cases s.cs.entries[x.val] <;> rfl
  · rw [(arrived_below_top h d).2]
    rfl

theorem tagOf_enqueue (m : Demand) (s : State) (x : DoorIx) :
    tagOf (enqueue m s) x = if m.door = x then numberOf m.tag else tagOf s x := by
  have made (e : Entry) (he : e.tag = m.tag) : tagOf ((arrived m.door s).makeEntry m.door e) x =
      if m.door = x then numberOf m.tag else tagOf s x := by
    rw [tagOf_makeEntry, he, tagOf_arrived]
  unfold enqueue
  simp only
  split
  · exact made _ rfl
  · rw [tagOf_pass]
    exact made _ rfl

theorem tagOf_merge (he : s.entry m.door = some e) (x : DoorIx) : tagOf (merge m e s) x = tagOf s x := by
  have hkept : tagOf (s.setEntry m.door (e.merged m)) x = tagOf s x := by
    rw [tagOf_setEntry]
    split
    · next hx =>
      subst hx
      rw [tagOf_eq he]
      unfold Entry.merged
      split <;> rfl
    · rfl
  unfold merge
  simp only
  split
  · rw [tagOf_pass]; exact hkept
  · exact hkept

theorem displaced_cs (m : Demand) (e : Entry) (s : State) : (displaced m e s).cs = s.cs :=
  (ReportFrame.reportTag ..).cs.trans ((Ending.recloseGone ..).cs.trans (Ending.endBeaten ..).cs)

/-- The state in which the displaced tag is reported keeps GRU. -/
theorem beaten_gru (m : Demand) (e : Entry) (s : State) : (recloseGone m.door e.direction (endBeaten m s)).gru = s.gru :=
  (Ending.recloseGone ..).gru.trans (Ending.endBeaten ..).gru

theorem reverse_gru (m : Demand) (e : Entry) (s : State) : (reverse m e s).gru = (displaced m e s).gru := by
  rw [reverse_eq]
  split
  · exact (ScheduleFrame.pass ..).gru
  · rfl

theorem tagOf_reverse (m : Demand) (e : Entry) (s : State) (x : DoorIx) :
    tagOf (reverse m e s) x = if m.door = x then numberOf m.tag else tagOf s x := by
  have hturned : tagOf (turned m e (displaced m e s)) x = if m.door = x then numberOf m.tag else tagOf s x := by
    refine (tagOf_setEntry m.door x _ (displaced m e s)).trans ?_
    rw [tagOf_of_cs (displaced_cs m e s)]
    rfl
  rw [reverse_eq]
  split
  · rw [tagOf_pass]; exact hturned
  · exact hturned

theorem replace_gru (m : Demand) (e : Entry) (s : State) : (replace m e s).gru = (displaced m e s).gru := by
  have harrived (u : State) : (takeArrival m.door u).2.gru = u.gru := by
    show (arrived m.door u).gru = u.gru
    rw [arrived_eq]
  unfold replace
  simp only
  split
  · exact (ScheduleFrame.evalDelay ..).gru.trans ((ScheduleFrame.pass ..).gru.trans ((ScheduleFrame.queueOrder? ..).gru.trans (harrived _)))
  · exact (ScheduleFrame.pass ..).gru.trans ((ScheduleFrame.queueOrder? ..).gru.trans (harrived _))

theorem tagOf_queueOrder? (d : DoorIx) (o : Option OrderKind) (s : State) : tagOf (queueOrder? d o s) = tagOf s := by
  cases o <;> rfl

theorem tagOf_replace (m : Demand) (e : Entry) (s : State) (x : DoorIx) :
    tagOf (replace m e s) x = if m.door = x then numberOf m.tag else tagOf s x := by
  have hset (y : Entry) (hy : y.tag = m.tag) : tagOf ((arrived m.door (displaced m e s)).setEntry m.door y) x =
      if m.door = x then numberOf m.tag else tagOf s x := by
    rw [tagOf_setEntry, hy, tagOf_arrived, tagOf_of_cs (displaced_cs m e s)]
  unfold replace
  simp only
  split
  · rw [tagOf_evalDelay, tagOf_pass, tagOf_queueOrder?]
    exact hset _ rfl
  · rw [tagOf_pass, tagOf_queueOrder?]
    exact hset _ rfl

/-- Actions on the doors of a list that each take the tag of their door. -/
theorem tagOf_forEach {act : DoorIx → State → State} (h : ∀ d s x, tagOf (act d s) x = if d = x then none else tagOf s x)
    (l : List DoorIx) (s : State) (x : DoorIx) : tagOf (forEach l act s) x = if x ∈ l then none else tagOf s x := by
  induction l generalizing s with
  | nil => rfl
  | cons d rest ih =>
    refine (ih (act d s)).trans ?_
    rw [h]
    by_cases hx : x ∈ rest
    · simp [hx]
    · by_cases hd : d = x
      · simp [hd]
      · simp [hx, hd, Ne.symm hd]

end

/-! ### Entries that leave or lose their tag -/

section
variable {s t u : State} {d : DoorIx} {e : Entry} {f g : DoorIx → Option Byte}

theorem Settled.of_tags (h : Settled nothing s (tagOf s)) (hgru : t.gru = s.gru) (htags : ∀ x, tagOf t x = tagOf s x) :
    Settled nothing t (tagOf t) := by
  rw [show tagOf t = tagOf s from funext htags]
  exact h.congr hgru

theorem takeOut_cs_tags (c : RemovalCause) (d x : DoorIx) (s : State) :
    tagOf (takeOut c d s) x = if d = x then none else tagOf s x := by
  cases he : s.entry d with
  | none =>
    rw [takeOut_of_none he]
    split
    · next hx => subst hx; exact tagOf_eq_none he
    · rfl
  | some e =>
    have hcs := (takenOut he c).cs
    unfold tagOf
    rw [entry_schedWithout d x hcs]
    split <;> rfl

/-- The causes whose report may complete a run. -/
abbrev reports (c : RemovalCause) : Prop := c ≠ .FLUSH ∧ c ≠ .CANCEL

theorem takeOut_gru (he : s.entry d = some e) {c : RemovalCause} (hc : reports c) :
    ∃ fate u, (takeOut c d s).gru = (reportTag e.tag fate u).gru ∧ u.gru = s.gru := by
  rw [takeOut_eq he]
  have hgru (u : State) : (recloseGone d e.direction (queueOrder? d (c.order e.phase) (u.dropEntry d))).gru = u.gru :=
    (Ending.recloseGone ..).gru.trans (ScheduleFrame.queueOrder? ..).gru
  have hreleased : (released d e s).gru = s.gru := by unfold released; split <;> rfl
  have hreport : ∃ fate, c.report e.tag (released d e s) = reportTag e.tag fate (released d e s) := by
    obtain ⟨hflush, hcancel⟩ := hc
    unfold RemovalCause.report
    cases c with
    | FLUSH => exact absurd rfl hflush
    | CANCEL => exact absurd rfl hcancel
    | ARRIVAL | WITHOUT_MOVEMENT | RELEASE => exact ⟨.completed, rfl⟩
    | FAULT k => exact ⟨.faulted, rfl⟩
    | DENIED => exact ⟨.overruled, rfl⟩
  obtain ⟨fate, hreport⟩ := hreport
  exact ⟨fate, released d e s, by rw [hgru, hreport], hreleased⟩

theorem settled_takeOut {c : RemovalCause} (hc : reports c) (d : DoorIx) (h : Settled nothing s (tagOf s)) :
    Settled nothing (takeOut c d s) (tagOf (takeOut c d s)) := by
  cases he : s.entry d with
  | none => rw [takeOut_of_none he]; exact h
  | some e =>
    obtain ⟨fate, u, hgru, hu⟩ := takeOut_gru he hc
    have hgone : tagOf (takeOut c d s) d = none := by rw [takeOut_cs_tags, if_pos rfl]
    have hsettled := settled_reportTag (g := tagOf (takeOut c d s)) h hu (tagOf_eq he) (fun x hx => by rw [takeOut_cs_tags, if_neg (Ne.symm hx)])
      (by rw [hgone]; nofun) fate
    rw [hgone, one_none] at hsettled
    exact hsettled.congr hgru

theorem settled_removeEntry {c : RemovalCause} (hc : reports c) (d : DoorIx) (h : Settled nothing s (tagOf s)) :
    Settled nothing (removeEntry c d s) (tagOf (removeEntry c d s)) := by
  cases he : s.entry d with
  | none => rw [removeEntry_of_none he]; exact h
  | some e =>
    rw [removeEntry_eq he]
    have hv := readmitted_frame d e s (takeOut c d s)
    have hclear := AlarmFrame.clearDoor .TRAVEL_OVERTIME d (readmitted d e s (takeOut c d s))
    refine (settled_takeOut hc d h).of_tags (hclear.gru.trans hv.gru) fun x => ?_
    rw [tagOf_of_cs hclear.cs]
    exact tagOf_of_claim (hv.claims x)

theorem settled_turn (o : Origin) (d : DoorIx) (h : Settled nothing s (tagOf s)) :
    Settled nothing (reverseOne o d s) (tagOf (reverseOne o d s)) := by
  unfold reverseOne
  split
  · next e he =>
    have htags (x : DoorIx) : tagOf (reverseEntry (emergencyClose o d) e s) x = if d = x then none else tagOf s x := by
      rw [tagOf_of_cs (reverseEntry_cs ..), tagOf_setEntry]
      rfl
    have hgone : tagOf (reverseEntry (emergencyClose o d) e s) d = none := by rw [htags, if_pos rfl]
    have hsettled := settled_reportTag (g := tagOf (reverseEntry (emergencyClose o d) e s)) h rfl (tagOf_eq he) (fun x hx => by rw [htags, if_neg (Ne.symm hx)])
      (by rw [hgone]; nofun) .overruled
    rw [hgone, one_none] at hsettled
    exact hsettled.congr (reverseEntry_gru ..)
  · exact h

end

/-! ### Demands -/

/-- The outcomes that give the door an entry of the demand. -/
def gains (o : DemandOutcome) : Bool := decide (o = .ENQUEUED ∨ o = .REPLACED ∨ o = .REVERSED)

/-- R34, R96: a demand reports the tag it displaces; where it gets an entry that carries its own tag, its run is owed that entry until
it counts the outcome. -/
theorem settled_decideDemand {s : State} (m : Demand) (h : Settled nothing s (tagOf s))
    (htag : ∀ n ∈ numberOf m.tag, ∃ r ∈ liveRuns s, r.number = n ∧ r.state ≠ .TRACKING) :
    Settled (one (if gains (decideDemand m s).1 then numberOf m.tag else none)) (decideDemand m s).2 (tagOf (decideDemand m s).2) := by
  have kept {t : State} (hgru : t.gru = s.gru) (htags : ∀ x, tagOf t x = tagOf s x) : Settled (one none) t (tagOf t) := by
    rw [one_none]
    exact h.of_tags hgru htags
  have gained {t u : State} {tag : Option RunTag} (hgru : t.gru = (reportTag tag .overruled u).gru) (hu : u.gru = s.gru)
      (hold : tagOf s m.door = numberOf tag) (htags : ∀ x, tagOf t x = if m.door = x then numberOf m.tag else tagOf s x) :
      Settled (one (numberOf m.tag)) t (tagOf t) := by
    have hown : tagOf t m.door = numberOf m.tag := by rw [htags, if_pos rfl]
    have hsettled := settled_reportTag (g := tagOf t) h hu hold (fun x hx => by rw [htags, if_neg (Ne.symm hx)]) (by rw [hown]; exact htag)
      .overruled
    rw [hown] at hsettled
    exact hsettled.congr hgru
  unfold decideDemand
  split
  · exact kept rfl fun _ => rfl
  split
  · exact kept rfl fun _ => rfl
  split
  · exact kept rfl fun _ => rfl
  unfold decideClaims
  split
  · next e he =>
    split
    · refine kept ?_ (tagOf_merge he)
      unfold merge
      simp only
      split
      · exact (ScheduleFrame.pass ..).gru
      · rfl
    split
    · split
      · exact gained (reverse_gru m e s) (beaten_gru m e s) (tagOf_eq he) (tagOf_reverse m e s)
      · exact gained (replace_gru m e s) (beaten_gru m e s) (tagOf_eq he) (tagOf_replace m e s)
    · exact kept rfl fun _ => rfl
  · next he =>
    have hbeaten : (endBeaten m s).gru = s.gru := (Ending.endBeaten m s).gru
    have htags : tagOf (endBeaten m s) = tagOf s := tagOf_of_cs (Ending.endBeaten m s).cs
    split
    · unfold settleDemand
      split
      · exact kept hbeaten fun x => by rw [htags]
      · refine gained (tag := none) (u := s) ((enqueue_gru ..).trans hbeaten) rfl (tagOf_eq_none he) fun x => ?_
        rw [tagOf_enqueue, htags]
    · exact kept rfl fun _ => rfl

end Sys2Proof.Proofs
end

section
/-! ## The laws of the runs are kept (O8) -/
namespace Sys2Proof.Proofs
open Sys2Proof Sys2Proof.Machine

set_option Elab.async false

section
variable {s t u : State} {i j : SlotIx} {r x : Run} {f g : DoorIx → Option Byte} {k : Byte → Int}

/-! ### The run of a slot changes -/

/-- A run is written over the run of its slot with its number, class and outstanding. -/
theorem balanced_setSlot (h : Settled nothing s f) (hr : s.gru.slots[i] = some r)
    (hkeep : x.number = r.number ∧ x.cls = r.cls ∧ x.outstanding = r.outstanding) :
    Balanced nothing (setSlot i (some x) s) f ∧ ∀ y ∈ liveRuns (setSlot i (some x) s), y.done = true → y = x := by
  obtain ⟨hnumber, hcls, hout⟩ := hkeep
  have hclass : slotClass (setSlot i (some x) s) = slotClass s := by
    funext j
    unfold slotClass
    rw [slots_setSlot]
    split
    · next hj =>
      subst hj
      rw [hr]
      exact congrArg some hcls
    · rfl
  have hlaw : StackLaw (setSlot i (some x) s) := by
    have hs := (stackLaw_iff s).mp h.seats
    rw [stackLaw_iff, hclass]
    exact hs
  have hold : (liveRuns s).Perm (r :: liveRuns (setSlot i none s)) :=
    liveRuns_perm_of_slots hr ((slots_setSlot none).trans (if_pos rfl)) (fun j hj => (slots_setSlot none).trans (if_neg (Ne.symm hj))) rfl
  have hnew : (liveRuns (setSlot i (some x) s)).Perm (x :: liveRuns (setSlot i none s)) :=
    liveRuns_perm_of_slots ((slots_setSlot _).trans (if_pos rfl)) ((slots_setSlot none).trans (if_pos rfl))
      (fun j hj => by rw [slots_setSlot, slots_setSlot, if_neg (Ne.symm hj), if_neg (Ne.symm hj)]) rfl
  refine ⟨⟨hlaw, ?_⟩, fun y hy hyd => ?_⟩
  · have hacc := h.account.perm (hold.map briefOf)
    refine Account.perm ?_ (hnew.map briefOf).symm
    have hnum : (briefOf x).number = (briefOf r).number := hnumber
    refine ⟨?_, fun d n hn => ?_, fun b hb => ?_, fun b _ hpos => absurd hpos (Int.lt_irrefl 0)⟩
    · have := hacc.distinct
      simp only [List.map_cons] at this ⊢
      rwa [hnum]
    · have := hacc.live d n hn
      simp only [List.map_cons] at this ⊢
      rwa [hnum]
    · obtain rfl | hb := List.mem_cons.mp hb
      · have hcount := hacc.counts (briefOf r) (List.mem_cons_self ..)
        rw [hnum]
        show (x.outstanding : Int) + 0 = _
        rw [hout]
        exact hcount
      · exact hacc.counts b (List.mem_cons_of_mem _ hb)
  · obtain rfl | hrest := List.mem_cons.mp (hnew.mem_iff.mp hy)
    · rfl
    · have hlive : y ∈ liveRuns s := hold.mem_iff.mpr (List.mem_cons_of_mem _ hrest)
      rw [done_eq_false h.quiet hlive] at hyd
      cases hyd

/-- R93, R97: the run of a slot moves on or tracks, and completes where it is complete. -/
theorem settled_advance (h : Settled nothing s f) (i : SlotIx) : Settled nothing (advance i s) f := by
  unfold advance
  split
  · next r hr =>
    obtain ⟨hbalanced, hdone⟩ := balanced_setSlot (x := { r with
      cursor := r.cursor + 1
      state := if r.cursor + 1 < listLength s r then RunState.WALKING else RunState.TRACKING }) h hr ⟨rfl, rfl, rfl⟩
    generalize hx : ({ r with
      cursor := r.cursor + 1
      state := if r.cursor + 1 < listLength s r then RunState.WALKING else RunState.TRACKING } : Run) = x at *
    have hdistinct : DistinctNumbers (setSlot i (some x) s) := by
      have := hbalanced.account.distinct
      rwa [map_number_briefs] at this
    have hslot : (setSlot i (some x) s).gru.slots[i] = some x := (slots_setSlot _).trans (if_pos rfl)
    have hcomplete : completeSlot i (setSlot i (some x) s) = completeRun x.number (setSlot i (some x) s) := by
      unfold completeRun
      rw [slotNumbered_eq hdistinct hslot]
    rw [hcomplete]
    exact settled_completeRun hbalanced (fun y hy hd => by rw [hdone y hy hd]) fun _ _ _ => rfl
  · exact h

/-- One more entry outstanding. -/
def Brief.more (b : Brief) : Brief := { b with outstanding := b.outstanding + 1 }

theorem briefOf_takeOutcome (o : DemandOutcome) (r : Run) :
    briefOf (r.takeOutcome o) = if gains o then (briefOf r).more else briefOf r := by cases o <;> rfl

/-- R34: a run counts the outcome of its own demand, and with it the entry that was owed to it. -/
theorem settled_takeOutcome {o : DemandOutcome} {n : Byte} (h : Settled (one (if gains o then some n else none)) s f) :
    Settled nothing (modRun n (Run.takeOutcome o) s) f := by
  have hcls (r : Run) : (r.takeOutcome o).cls = r.cls := by cases o <;> rfl
  have hbriefs := briefs_modRun (m := n) (cb := fun b => if gains o then b.more else b) (briefOf_takeOutcome o) s
  have hlaw := stackLaw_modRun (m := n) hcls h.seats
  by_cases ho : gains o = true
  · simp only [if_pos ho] at h hbriefs
    refine ⟨⟨hlaw, ?_⟩, fun b hb hc => ?_⟩
    · rw [hbriefs]
      refine h.account.map (fun b _ => by split <;> rfl) (fun b _ => ?_) fun b _ hpos => absurd hpos (Int.lt_irrefl 0)
      unfold one
      split
      · next hn =>
        rw [if_pos (by rw [hn])]
        simp only [Brief.more, nothing]
        omega
      · next hn => rw [if_neg fun heq => hn (Option.some.inj heq).symm]
    · rw [hbriefs] at hb
      obtain ⟨x, hx, rfl⟩ := List.mem_map.mp hb
      split at hc
      · exact absurd hc.2 (Nat.succ_ne_zero _)
      · exact h.quiet x hx hc
  · simp only [if_neg ho, one_none, ite_self, List.map_id'] at h hbriefs
    exact ⟨⟨hlaw, by rw [hbriefs]; exact h.account⟩, by rw [hbriefs]; exact h.quiet⟩

theorem advance_cs (i : SlotIx) (s : State) : (advance i s).cs = s.cs := by
  unfold advance
  split
  · exact (ReportFrame.completeSlot ..).cs
  · rfl

theorem settled_submitAt (h : Settled nothing s (tagOf s)) (hi : NotTracking s i) :
    Settled nothing (submitAt i s) (tagOf (submitAt i s)) := by
  unfold submitAt
  split
  · next r hr =>
    split
    · next d _ =>
      simp only
      have hdecided := settled_decideDemand (r.demand d) h fun n hn => ⟨r, liveRuns_of_slot hr, Option.some.inj hn, hi r hr⟩
      rw [tagOf_of_cs (advance_cs ..)]
      exact settled_advance (settled_takeOutcome hdecided) i
    · rw [tagOf_of_cs (advance_cs ..)]
      exact settled_advance h i
  · exact h

theorem settled_setStage (h : Settled nothing s f) (i : SlotIx) (age : Nat) : Settled nothing (setStage i .WAITING age s) f := by
  unfold setStage
  split
  · next r hr =>
    obtain ⟨hbalanced, hdone⟩ := balanced_setSlot (x := { r with state := .WAITING, waitAge := age }) h hr ⟨rfl, rfl, rfl⟩
    refine ⟨hbalanced, fun b hb hc => ?_⟩
    obtain ⟨y, hy, rfl⟩ := mem_briefs.mp hb
    have hyd := complete_briefOf.mp hc
    rw [hdone y hy hyd] at hyd
    have hstate : RunState.WAITING = .TRACKING := (done_iff.mp hyd).1
    cases hstate
  · exact h

/-! ### A run ends with its tags (R100, R101) -/

/-- A run ends, and no entry carries its number any longer. -/
theorem Account.erase {l : List Brief} {b : Brief} (h : Account k (b :: l) f)
    (hg : ∀ d, g d = if f d = some b.number then none else f d) : Account k l g := by
  have hrest := List.nodup_cons.mp h.distinct
  have hne : ∀ c ∈ l, c.number ≠ b.number := fun c hc heq => hrest.1 (heq ▸ List.mem_map_of_mem hc)
  refine ⟨hrest.2, fun d n hn => ?_, fun c hc => ?_, fun c hc => h.owing c (List.mem_cons_of_mem _ hc)⟩
  · rw [hg] at hn
    split at hn
    · cases hn
    · next hfd =>
      obtain rfl | hmem := List.mem_cons.mp (h.live d n hn)
      · exact absurd hn hfd
      · exact hmem
  · have hcount : carried g c.number = carried f c.number := by
      refine List.countP_congr fun d _ => ?_
      rw [hg]
      split
      · next hfd => simp [hfd, Ne.symm (hne c hc)]
      · rfl
    rw [hcount]
    exact h.counts c (List.mem_cons_of_mem _ hc)

theorem tagged_iff {n : Byte} {d : DoorIx} : d ∈ matching s (tagged n) ↔ tagOf s d = some n := by
  rw [mem_matching]
  unfold tagOf
  cases s.entry d with
  | none => simp
  | some e => cases htag : e.tag <;> simp [tagged, htag]

theorem tagOf_dropTag (d x : DoorIx) (s : State) : tagOf (dropTag d s) x = if d = x then none else tagOf s x := by
  unfold dropTag
  split
  · exact tagOf_setEntry ..
  · next he =>
    split
    · next hx => subst hx; exact tagOf_eq_none he
    · rfl

theorem tagOf_cancelOne (d x : DoorIx) (s : State) : tagOf (cancelOne d s) x = if d = x then none else tagOf s x := by
  unfold cancelOne
  split
  · split
    · exact tagOf_dropTag ..
    · exact takeOut_cs_tags ..
  · next he =>
    split
    · next hx => subst hx; exact tagOf_eq_none he
    · rfl

/-- Passes and delay tests at the end of a request. -/
theorem Passing.tags (h : Passing s t) (x : DoorIx) : tagOf t x = tagOf s x := tagOf_of_claim (h.claims x)

theorem tagOf_detachTag (n : Byte) (s : State) (x : DoorIx) :
    tagOf (detachTag n s) x = if tagOf s x = some n then none else tagOf s x := by
  have hpass : Passing (forEach (matching s (tagged n)) dropTag s) (detachTag n s) := .passes ..
  rw [hpass.tags, tagOf_forEach (fun d u x => tagOf_dropTag d x u)]
  simp only [tagged_iff]

theorem cancelOne_gru (d : DoorIx) (s : State) : (cancelOne d s).gru = s.gru := by
  unfold cancelOne
  split
  · next e he =>
    split
    · unfold dropTag
      split <;> rfl
    · exact (takenOut he .CANCEL).untold rfl
  · rfl

theorem tagOf_cancelTag (n : Byte) (s : State) (x : DoorIx) :
    tagOf (cancelTag n s) x = if tagOf s x = some n then none else tagOf s x := by
  have hpass : Passing (forEach (matching s (tagged n)) cancelOne s) (cancelTag n s) := (Passing.passes ..).trans (.tests ..)
  rw [hpass.tags, tagOf_forEach (fun d u x => tagOf_cancelOne d x u)]
  simp only [tagged_iff]

theorem cancelTag_gru (n : Byte) (s : State) : (cancelTag n s).gru = s.gru := by
  have hpass : Passing (forEach (matching s (tagged n)) cancelOne s) (cancelTag n s) := (Passing.passes ..).trans (.tests ..)
  rw [hpass.gru]
  exact forEach_rel (R := fun s t : State => t.gru = s.gru) (fun _ => rfl) (fun h g => g.trans h) cancelOne_gru _ s

theorem settled_ended (h : Settled nothing s f) (hlaw : StackLaw t) (hperm : (briefs s).Perm (briefOf r :: briefs t))
    (hg : ∀ d, g d = if f d = some r.number then none else f d) : Settled nothing t g :=
  ⟨⟨hlaw, (h.account.perm hperm).erase hg⟩, fun b hb => h.quiet b (hperm.mem_iff.mpr (List.mem_cons_of_mem _ hb))⟩

/-- R100: a cancelled run ends with its tags. -/
theorem settled_cancelRun (h : Settled nothing s (tagOf s)) (hr : r ∈ liveRuns s) :
    Settled nothing (cancelRun r s) (tagOf (cancelRun r s)) := by
  have hdistinct : DistinctNumbers s := by
    have := h.account.distinct
    rwa [map_number_briefs] at this
  have hsent := PlaceFrame.sendReport .CANCELLED r (cancelTag r.number s)
  have hgru : (sendReport .CANCELLED r (cancelTag r.number s)).gru = s.gru := hsent.gru.trans (cancelTag_gru ..)
  have htags (u : State) (hu : u.cs = (sendReport .CANCELLED r (cancelTag r.number s)).cs) (d : DoorIx) :
      tagOf u d = if tagOf s d = some r.number then none else tagOf s d := by
    rw [tagOf_of_cs hu, tagOf_of_cs hsent.cs]
    exact tagOf_cancelTag ..
  unfold cancelRun
  simp only
  generalize sendReport .CANCELLED r (cancelTag r.number s) = t at *
  split
  · next i hi =>
    obtain ⟨x, hx, hn⟩ := slotNumbered_eq_some hi
    have hxr : x = r := List.inj_on_of_nodup_map hdistinct (liveRuns_of_slot hx) hr hn
    subst hxr
    obtain ⟨hlaw, hperm⟩ := vacate_ends (s := t) (stackLaw_congr hgru h.seats) (i := i) (by rw [hgru]; exact hx) fun y hy =>
      done_eq_false h.quiet (liveRuns_of_stack (by rwa [hgru] at hy))
    rw [briefs_congr hgru] at hperm
    exact settled_ended h hlaw hperm (htags _ (ReportFrame.vacate i t).cs)
  · next hi =>
    have hst : r ∈ s.gru.stack := by
      obtain ⟨i, hslot⟩ | hst := mem_liveRuns.mp hr
      · rw [slotNumbered_eq hdistinct hslot] at hi
        cases hi
      · exact hst
    have hslots : t.gru.slots = s.gru.slots := by rw [hgru]
    have hslotting : t.gru.slotting = s.gru.slotting := by rw [hgru]
    obtain ⟨hlaw, hperm⟩ := filterStack_ends h.seats h.account.distinct hst
      (t := setStack (t.gru.stack.filter fun x => decide (x.number ≠ r.number)) t)
      (by rw [hgru]; rfl) hslots hslotting
    exact settled_ended h hlaw hperm (htags _ rfl)

/-! ### A run begins (R89 to R92, R101) -/

theorem length_liveRuns_le (h : StackLaw s) : (liveRuns s).length ≤ 9 := by
  have hslots : (allSlots.filterMap fun i => s.gru.slots[i]).length ≤ 5 := by
    refine (List.length_filterMap_le ..).trans ?_
    decide
  have hstack : s.gru.stack.length ≤ 4 := h.2.2.1
  unfold liveRuns
  rw [List.length_append]
  omega

theorem nextNumber_free (h : (liveRuns s).length ≤ 9) : nextNumber s ∉ (briefs s).map Brief.number := by
  obtain ⟨_, _, _, hfree, _⟩ := nextNumber_first h
  rw [map_number_briefs]
  intro hmem
  obtain ⟨r, hr, hn⟩ := List.mem_map.mp hmem
  rw [numberHeld_iff.mpr ⟨r, hr, hn⟩] at hfree
  cases hfree

theorem slots_takeSlot (hi : i ≠ slotS) (g : GroupRef) (dir : Direction) (cls : Nat) (y : SourceGroup) (o : RunOrigin) (j : SlotIx) :
    (takeSlot i g dir cls y o s).gru.slots[j] = if i = j then some (newRun i g dir cls y o (nextNumber s)) else s.gru.slots[j] := by
  rw [takeSlot_gru hi]
  exact put_slots _

/-- A new run under a free number, in a slot that holds none. -/
theorem settled_begun (h : Settled nothing s f) (hlaw : StackLaw t) {l : List Run} {x : Run} (hold : (briefs s).Perm (l.map briefOf))
    (hnew : (briefs t).Perm (briefOf x :: l.map briefOf)) (hfree : x.number ∉ (briefs s).map Brief.number)
    (hout : x.outstanding = 0) (hwalk : x.state = .WALKING) : Settled nothing t f := by
  refine ⟨⟨hlaw, Account.perm ?_ hnew.symm⟩, fun b hb => ?_⟩
  · refine (h.account.perm hold).add ?_ hout rfl
    rwa [(hold.map Brief.number).mem_iff] at hfree
  · obtain rfl | hb := List.mem_cons.mp (hnew.mem_iff.mp hb)
    · rintro ⟨hstate, -⟩
      have hstate : x.state = .TRACKING := hstate
      rw [hwalk] at hstate
      cases hstate
    · exact h.quiet b (hold.mem_iff.mpr hb)

theorem takeSlot_cs (i : SlotIx) (g : GroupRef) (dir : Direction) (cls : Nat) (y : SourceGroup) (o : RunOrigin) (s : State) :
    (takeSlot i g dir cls y o s).cs = s.cs := by
  unfold takeSlot
  simp only
  split <;> rfl

theorem settled_takeFree (h : Settled nothing s f) (hi : i ∈ stationSlots) (hfree : s.gru.slots[i] = none) (g : GroupRef)
    (dir : Direction) (cls : Nat) (y : SourceGroup) (o : RunOrigin) : Settled nothing (takeSlot i g dir cls y o s) f := by
  have hne : i ≠ slotS := fun heq => slotS_not_station (heq ▸ hi)
  have hslots (j : SlotIx) := slots_takeSlot (s := s) hne g dir cls y o j
  have hstack : (takeSlot i g dir cls y o s).gru.stack = s.gru.stack := by rw [takeSlot_gru hne]
  have hothers (j : SlotIx) (hj : j ≠ i) : (takeSlot i g dir cls y o s).gru.slots[j] = s.gru.slots[j] := by
    rw [hslots, if_neg (Ne.symm hj)]
  have hnew : (takeSlot i g dir cls y o s).gru.slots[i] = some (newRun i g dir cls y o (nextNumber s)) := by rw [hslots, if_pos rfl]
  have hlaw : StackLaw (takeSlot i g dir cls y o s) := by
    have seats := (stackLaw_iff s).mp h.seats
    rw [stackLaw_iff, hstack, show (takeSlot i g dir cls y o s).gru.slotting = s.gru.slotting ++ [i] by rw [takeSlot_gru hne]]
    exact seats.take hi (slotClass_eq_none.mpr hfree) (slotClass_of_slots hothers) (x := cls) (by unfold slotClass; rw [hnew]; rfl)
  refine settled_begun h hlaw (l := liveRuns s) (x := newRun i g dir cls y o (nextNumber s)) (List.Perm.refl _) ?_
    (nextNumber_free (length_liveRuns_le h.seats)) rfl rfl
  exact (liveRuns_perm_of_slots hnew hfree (fun j hj => (hothers j hj).symm) hstack.symm).map briefOf

/-- R91: the victim is suspended and the new run takes its slot. -/
theorem settled_preempt (h : Settled nothing s f) (hi : i ∈ stationSlots) (hr : s.gru.slots[i] = some r)
    (hsize : s.gru.stack.length < stackSize) (hlow : ∀ j ∈ stationSlots, ∃ c ∈ slotClass s j, r.cls ≤ c) (cls : Nat)
    (hcls : r.cls ≤ cls) (g : GroupRef) (dir : Direction) (y : SourceGroup) (o : RunOrigin) :
    Settled nothing (takeSlot i g dir cls y o (suspend i s)) f := by
  have hne : i ≠ slotS := fun heq => slotS_not_station (heq ▸ hi)
  have hsus := suspend_eq (s := s) hr
  have hsusSlots (j : SlotIx) : (suspend i s).gru.slots[j] = if i = j then none else s.gru.slots[j] := by
    rw [hsus]; exact put_slots none
  have hslots (j : SlotIx) := slots_takeSlot (s := suspend i s) hne g dir cls y o j
  have hothers (j : SlotIx) (hj : j ≠ i) : (takeSlot i g dir cls y o (suspend i s)).gru.slots[j] = s.gru.slots[j] := by
    rw [hslots, if_neg (Ne.symm hj), hsusSlots, if_neg (Ne.symm hj)]
  have hnew : (takeSlot i g dir cls y o (suspend i s)).gru.slots[i] = some (newRun i g dir cls y o (nextNumber (suspend i s))) := by
    rw [hslots, if_pos rfl]
  have hstack : (takeSlot i g dir cls y o (suspend i s)).gru.stack = r :: s.gru.stack := by rw [takeSlot_gru hne, hsus]
  have hlaw : StackLaw (takeSlot i g dir cls y o (suspend i s)) := by
    have seats := (stackLaw_iff s).mp h.seats
    have horder : (takeSlot i g dir cls y o (suspend i s)).gru.slotting = (s.gru.slotting.filter fun k => decide (k ≠ i)) ++ [i] := by
      rw [takeSlot_gru hne, hsus]
    have hbelow : ∀ a ∈ s.gru.stack.map Run.cls, a ≤ r.cls := fun a ha => by
      obtain ⟨c, hc, hle⟩ := seats.below a ha i hi
      rw [slotClass_eq hr] at hc
      rwa [← Option.some.inj hc] at hle
    rw [stackLaw_iff, hstack, horder, List.map_cons]
    refine seats.succeed hi (slotClass_of_slots hothers) (x := cls) (by unfold slotClass; rw [hnew]; rfl) ?_
      (List.pairwise_cons.mpr ⟨hbelow, seats.falling⟩) fun a ha => ?_
    · rw [List.length_cons, List.length_map]
      exact hsize
    · obtain rfl | ha := List.mem_cons.mp ha
      · exact ⟨fun j hj _ => hlow j hj, hcls⟩
      · exact ⟨fun j hj _ => seats.below a ha j hj, (hbelow a ha).trans hcls⟩
  have hperm : (liveRuns s).Perm (liveRuns (suspend i s)) := by
    have hout : (liveRuns s).Perm (r :: liveRuns (setSlot i none s)) :=
      liveRuns_perm_of_slots hr ((slots_setSlot none).trans (if_pos rfl)) (fun j hj => (slots_setSlot none).trans (if_neg (Ne.symm hj))) rfl
    have hin : liveRuns (suspend i s) = (allSlots.filterMap fun j => (setSlot i none s).gru.slots[j]) ++ r :: s.gru.stack := by
      rw [hsus]
      rfl
    rw [hin]
    exact hout.trans List.perm_middle.symm
  refine settled_begun h hlaw (l := liveRuns s) (x := newRun i g dir cls y o (nextNumber (suspend i s))) (List.Perm.refl _) ?_ ?_ rfl rfl
  · have hfree : (suspend i s).gru.slots[i] = none := by rw [hsusSlots, if_pos rfl]
    have hjoin : (liveRuns (takeSlot i g dir cls y o (suspend i s))).Perm
        (newRun i g dir cls y o (nextNumber (suspend i s)) :: liveRuns (suspend i s)) :=
      liveRuns_perm_of_slots hnew hfree (fun j hj => by rw [hothers j hj, hsusSlots, if_neg (Ne.symm hj)]) (by rw [hstack, hsus])
    exact (hjoin.trans (hperm.symm.cons _)).map briefOf
  · have hle := length_liveRuns_le h.seats
    have hfree := nextNumber_free (s := suspend i s) (by rw [← hperm.length_eq]; exact hle)
    exact fun hmem => hfree (((hperm.map briefOf).map Brief.number).mem_iff.mp hmem)

theorem settled_acceptRun (h : Settled nothing s f) (p : PortIx) (g : GroupRef) (dir : Direction) (cls : Nat) :
    Settled nothing (acceptRun p g dir cls s).2 f ∧ (acceptRun p g dir cls s).2.cs = s.cs := by
  unfold acceptRun
  split
  · next i v hchoice =>
    unfold chooseSlot at hchoice
    split at hchoice
    · next hfree =>
      cases hchoice
      have hidle := List.find?_some hfree
      exact ⟨settled_takeFree h (List.mem_of_find?_eq_some hfree) (Option.isNone_iff_eq_none.mp hidle) .., takeSlot_cs ..⟩
    · next hfull =>
      split at hchoice
      · next hlow =>
        split at hchoice
        · next hroom =>
          split at hchoice
          · next k hk =>
            cases hchoice
            have hfound := List.find?_some hk
            obtain ⟨hsome, hclass⟩ := Bool.and_eq_true_iff.mp hfound
            have hclass := of_decide_eq_true hclass
            obtain ⟨low, hlowest⟩ := Option.isSome_iff_exists.mp hsome
            rw [hlowest] at hclass hlow
            have hmem : i ∈ s.gru.slotting := List.mem_reverse.mp (List.mem_of_find?_eq_some hk)
            have hstation := ((h.seats.2.1 i).mp hmem).1
            obtain ⟨r, hr, hrc⟩ := mem_slotClass.mp (show low ∈ slotClass s i from hclass)
            have hcls : low < cls := by simpa using hlow
            obtain ⟨-, hmin⟩ := lowestClass_iff.mp hlowest
            refine ⟨settled_preempt h hstation hr hroom (fun j hj => ?_) cls (by rw [hrc]; exact hcls.le) .., ?_⟩
            · have hheld : s.gru.slots[j] ≠ none := fun hnone => by
                have := List.find?_eq_none.mp hfull j hj
                rw [hnone] at this
                exact this rfl
              obtain ⟨x, hx⟩ := Option.ne_none_iff_exists'.mp hheld
              exact ⟨x.cls, slotClass_eq hx, by rw [hrc]; exact hmin j hj x.cls (slotClass_eq hx)⟩
            · refine (takeSlot_cs ..).trans ?_
              show (suspend i s).cs = s.cs
              rw [suspend_eq hr]
          · cases hchoice
        · cases hchoice
      · cases hchoice
  · exact ⟨h, rfl⟩

/-- R101: the launch of the system run takes slot S from the run in it, whose tags were detached. -/
theorem settled_launchTail (h : Settled nothing s (tagOf s)) (cls : Nat) (o : RunOrigin) :
    Settled nothing (launchTail cls o s) (tagOf (launchTail cls o s)) := by
  have hle := length_liveRuns_le h.seats
  have launched (u : State) (hgru : u.gru = s.gru) (g : DoorIx → Option Byte)
      (hrest : Settled nothing (setSlot slotS none s) g) : Settled nothing (takeSlot slotS .ALL .CLOSE cls .A o u) g := by
    have hnumber : nextNumber u = nextNumber s := nextNumber_of_gru hgru
    have heq : (takeSlot slotS .ALL .CLOSE cls .A o u).gru = { s.gru with
        slots := s.gru.slots.set slotS (some (newRun slotS .ALL .CLOSE cls .A o (nextNumber s)))
        counter := nextNumber s + 1 } := by rw [takeSystemSlot_eq, hgru, hnumber]
    have hslots (j : SlotIx) : (takeSlot slotS .ALL .CLOSE cls .A o u).gru.slots[j] =
        if slotS = j then some (newRun slotS .ALL .CLOSE cls .A o (nextNumber s)) else s.gru.slots[j] := by
      rw [heq]; exact put_slots _
    have hothers (j : SlotIx) (hj : j ≠ slotS) : (takeSlot slotS .ALL .CLOSE cls .A o u).gru.slots[j] = (setSlot slotS none s).gru.slots[j] := by
      rw [hslots, if_neg (Ne.symm hj), slots_setSlot, if_neg (Ne.symm hj)]
    have hlaw : StackLaw (takeSlot slotS .ALL .CLOSE cls .A o u) := by
      have seats := (stackLaw_iff _).mp hrest.seats
      rw [stackLaw_iff, show (takeSlot slotS .ALL .CLOSE cls .A o u).gru.slotting = s.gru.slotting by rw [heq],
        show (takeSlot slotS .ALL .CLOSE cls .A o u).gru.stack = s.gru.stack by rw [heq]]
      exact seats.system fun j hj => slotClass_of_slots hothers j fun hjs => slotS_not_station (hjs ▸ hj)
    refine settled_begun hrest hlaw (l := liveRuns (setSlot slotS none s)) (x := newRun slotS .ALL .CLOSE cls .A o (nextNumber s))
      (List.Perm.refl _) ?_ ?_ rfl rfl
    · exact (liveRuns_perm_of_slots ((hslots _).trans (if_pos rfl)) ((slots_setSlot none).trans (if_pos rfl))
        (fun j hj => (hothers j hj).symm) (by rw [heq]; rfl)).map briefOf
    · intro hmem
      refine nextNumber_free hle ?_
      rw [map_number_briefs] at hmem ⊢
      obtain ⟨x, hx, hn⟩ := List.mem_map.mp hmem
      refine List.mem_map.mpr ⟨x, ?_, hn⟩
      rcases mem_liveRuns.mp hx with ⟨j, hj⟩ | hst
      · rw [slots_setSlot] at hj
        split at hj
        · cases hj
        · exact liveRuns_of_slot hj
      · exact liveRuns_of_stack hst
  unfold launchTail
  split
  · next r hr =>
    rw [tagOf_of_cs (takeSlot_cs ..)]
    refine launched _ (detachTag_detached r.number s).gru _ ?_
    refine settled_ended (r := r) h ?_ ?_ (tagOf_detachTag r.number s)
    · have seats := (stackLaw_iff s).mp h.seats
      rw [stackLaw_iff]
      refine seats.system fun j hj => ?_
      exact slotClass_of_slots (i := slotS) (fun j hj => (slots_setSlot none).trans (if_neg (Ne.symm hj))) j
        fun hjs => slotS_not_station (hjs ▸ hj)
    · exact (liveRuns_perm_of_slots hr ((slots_setSlot none).trans (if_pos rfl))
        (fun j hj => (slots_setSlot none).trans (if_neg (Ne.symm hj))) rfl).map briefOf
  · next hfree =>
    rw [tagOf_of_cs (takeSlot_cs ..)]
    refine launched s rfl _ (h.congr ?_)
    have hvec : put s.gru.slots slotS none = s.gru.slots := by
      refine Vector.ext fun j hj => ?_
      rw [show (put s.gru.slots slotS none)[j] = (put s.gru.slots slotS none)[(⟨j, hj⟩ : SlotIx)] from rfl, put_slots]
      split
      · next heq =>
        have hval : slotS.val = j := congrArg Fin.val heq
        subst hval
        exact hfree.symm
      · rfl
    show { s.gru with slots := put s.gru.slots slotS none } = s.gru
    rw [hvec]

/-- A part without runs and without tags. -/
theorem settled_empty (hslots : ∀ i : SlotIx, t.gru.slots[i] = none) (hslotting : t.gru.slotting = []) (hstack : t.gru.stack = [])
    (htags : ∀ d, tagOf t d = none) : Settled nothing t (tagOf t) := by
  have hlive : briefs t = [] := by
    unfold briefs
    rw [liveRuns_eq_nil_iff.mpr ⟨hslots, hstack⟩]
    rfl
  refine ⟨⟨(stackLaw_iff t).mpr ?_, ?_⟩, by rw [hlive]; nofun⟩
  · rw [hslotting, hstack]
    exact ⟨.nil, fun i => by simp [slotClass_eq_none.mpr (hslots i)], Nat.zero_le _, .nil, nofun⟩
  · rw [hlive]
    exact ⟨.nil, fun d n hn => (by rw [htags d] at hn; cases hn), nofun, nofun⟩

end

end Sys2Proof.Proofs
end

section
/-! ## Every operation keeps the laws of the runs (O8) -/
namespace Sys2Proof.Proofs
open Sys2Proof Sys2Proof.Machine

set_option Elab.async false

section
variable {s t : State} {L : Prop}

theorem briefs_of_still (h : Still s t) : briefs t = briefs s := by
  have hslots : (fun i : SlotIx => (t.gru.slots[i]).map briefOf) = fun i => (s.gru.slots[i]).map briefOf := funext fun i => by
    have hcore := congrArg (Option.map briefOf) (h.slots i)
    rwa [Option.map_map, Option.map_map] at hcore
  unfold briefs liveRuns
  rw [List.map_append, List.map_append, List.map_filterMap, List.map_filterMap, hslots, h.stack]

theorem stackLaw_of_still (h : Still s t) (hs : StackLaw s) : StackLaw t := by
  have hclass : slotClass t = slotClass s := funext fun i => by
    have hcore := congrArg (Option.map Run.cls) (h.slots i)
    rwa [Option.map_map, Option.map_map] at hcore
  rw [stackLaw_iff] at hs ⊢
  rw [hclass, h.slotting, h.stack]
  exact hs

theorem tagOf_of_still (h : Still s t) : tagOf t = tagOf s := funext fun d => by
  have hcore := congrArg (fun e : Option Entry => e.bind fun e => numberOf e.tag) (h.entries d)
  simp only [Option.bind_map] at hcore
  exact hcore

theorem tagOf_abortAndFlush (h : Settled nothing s (tagOf s)) (d : DoorIx) : tagOf (abortAndFlush s) d = none := by
  have hclear := abortAndFlush_cleared s
  cases he : s.entry d with
  | none => exact tagOf_eq_none (hclear.empty d he)
  | some e =>
    have hfreed (hc : claimOf (abortAndFlush s) d = some (claimFreed s e)) : tagOf (abortAndFlush s) d = none := by
      have htag : tagOf (abortAndFlush s) d = numberOf (claimFreed s e).2.2.2.2.1 := by
        obtain ⟨x, hx, hxc⟩ := Option.map_eq_some_iff.mp hc
        rw [tagOf_eq hx, ← hxc]
        rfl
      rw [htag, claimFreed_eq]
      cases hnum : e.tag with
      | none => unfold freeClaim Entry.claim; simp [hnum]
      | some tg =>
        have hlive := h.account.live d tg.number (by rw [tagOf_eq he, hnum]; rfl)
        rw [map_number_briefs] at hlive
        have hmem : tagAmong ((liveRuns s).map Run.number) (some tg) = true := decide_eq_true hlive
        unfold freeClaim Entry.claim
        simp only [hnum, hmem, if_true]
        rfl
    by_cases hf : flushed e = true
    · cases hph : e.phase with
      | WARNING => exact tagOf_eq_none (hclear.warned d e he hf hph).1
      | READY =>
        rcases hclear.waited d e he hf hph with hnone | ⟨hc, -⟩
        · exact tagOf_eq_none hnone
        · exact hfreed hc
      | MOVING => simp [flushed, hph] at hf
    · exact hfreed (hclear.kept d e he (Bool.eq_false_iff.mpr hf))

theorem settled_forEach {ι : Type} {act : ι → State → State}
    (h : ∀ i s, Settled nothing s (tagOf s) → Settled nothing (act i s) (tagOf (act i s))) (l : List ι) {s : State}
    (hs : Settled nothing s (tagOf s)) : Settled nothing (forEach l act s) (tagOf (forEach l act s)) := by
  induction l generalizing s with
  | nil => exact hs
  | cons i rest ih => exact ih (h i s hs)

theorem Settled.passing (h : Settled nothing s (tagOf s)) (hp : Passing s t) : Settled nothing t (tagOf t) := h.of_tags hp.gru hp.tags

theorem raiseEntry_tags (d x : DoorIx) (s : State) : tagOf (raiseEntry d s) x = tagOf s x := by
  unfold raiseEntry
  split
  · next e he =>
    rw [tagOf_setEntry]
    split
    · next hx => subst hx; exact (tagOf_eq he).symm
    · rfl
  · rfl

theorem settled_of_meso (h : Meso L s t) (hs : Settled nothing s (tagOf s)) : Settled nothing t (tagOf t) := by
  cases h with
  | still h => exact ⟨⟨stackLaw_of_still h hs.seats, by rw [briefs_of_still h, tagOf_of_still h]; exact hs.account⟩,
      by rw [briefs_of_still h]; exact hs.quiet⟩
  | pass h => exact hs.of_tags (ScheduleFrame.pass ..).gru fun x => by rw [tagOf_pass]
  | leave c d _ hc => exact settled_removeEntry hc d hs
  | demand m _ htag =>
    have hdecided := settled_decideDemand m hs (by rw [htag]; nofun)
    rw [htag, show numberOf none = none from rfl, ite_self, one_none] at hdecided
    exact hdecided
  | submit i _ hi => exact settled_submitAt hs hi
  | wait i age =>
    have hcs : (setStage i .WAITING age s).cs = s.cs := by unfold setStage; split <;> rfl
    rw [tagOf_of_cs hcs]
    exact settled_setStage hs i age
  | noted l => exact ⟨⟨hs.seats, hs.account⟩, hs.quiet⟩
  | cancel r _ hr => exact settled_cancelRun hs hr
  | accept p g dir cls =>
    obtain ⟨haccept, hcs⟩ := settled_acceptRun hs p g dir cls
    rw [tagOf_of_cs hcs]
    exact haccept
  | launch cls o => exact settled_launchTail hs cls o
  | abort =>
    have hgru := (abortAndFlush_cleared s).gru
    exact settled_empty (fun i => by rw [hgru]; simp) (by rw [hgru]) (by rw [hgru]) (tagOf_abortAndFlush hs)
  | raise =>
    have hpass : Passing (forEach (matching s raises) raiseEntry s) (raiseForEmergency s) := .passes ..
    refine Settled.passing (settled_forEach (fun d u hu => hu.of_tags ?_ fun x => raiseEntry_tags d x u) _ hs) hpass
    unfold raiseEntry
    split <;> rfl
  | deny =>
    have hpass : Passing (forEach (matching s (opensStandard s .READY)) (takeOut .DENIED) s) (denyForEmergency s) :=
      (Passing.passes ..).trans (.tests ..)
    exact Settled.passing (settled_forEach (fun d u hu => settled_takeOut (by decide) d hu) _ hs) hpass
  | turn o d _ _ => exact settled_turn o d hs
  | adopt d dir _ hentry _ =>
    refine hs.of_tags ?_ fun x => ?_
    · show (arrived d s).gru = s.gru
      rw [arrived_eq]
    · unfold adopt
      refine (tagOf_of_entry (entry_congr (State.modFlow_cs_entries ..) x)).trans ?_
      rw [tagOf_makeEntry]
      split
      · next hx => subst hx; exact (tagOf_eq_none hentry).symm
      · exact tagOf_arrived d x s
  | latch d k => exact hs.of_tags rfl fun _ => rfl
  | recompute h =>
    refine hs.of_tags (ScheduleFrame.recomputeE ..).gru fun x => ?_
    unfold recomputeE
    simp only
    split
    · rfl
    · rw [tagOf_pass]; exact tagOf_of_entry (entry_congr (State.modFlow_cs_entries ..) x)
  | warned d e _ he _ =>
    refine hs.of_tags (warningExpires_gru d e s) fun x => ?_
    unfold warningExpires
    rw [tagOf_pass, tagOf_setEntry]
    split
    · next hx => subst hx; exact (tagOf_eq he).symm
    · rfl
  | writeDoor d c => exact hs.of_tags rfl fun _ => rfl
  | writeHpu x c => exact hs.of_tags rfl fun _ => rfl
  | writeSystem c =>
    have written : Settled nothing (setTables { s.tables with system := c } s) (tagOf s) := Settled.congr (s := s) rfl hs
    have passes (l : List HpuIx) (u : State) : Passing u (forEach l pass u) := .forEach (fun _ _ => .pass ..) l u
    have tests (l : List HpuIx) (u : State) : Passing u (forEach l evalDelay u) := .forEach (fun _ _ => .evalDelay ..) l u
    have passed : Passing (setTables { s.tables with system := c } s) (systemWritten s.tables.system c s) := by
      unfold systemWritten
      simp only
      split
      · split
        · exact (passes ..).trans (tests ..)
        · exact tests ..
      · split
        · exact passes ..
        · exact .refl _
    exact Settled.passing (s := setTables { s.tables with system := c } s) written passed
  | fresh hentry _ _ hslots hslotting hstack _ => exact settled_empty hslots hslotting hstack fun d => tagOf_eq_none (hentry d)

/-- Settles O8, by the chain of operations of the command: each keeps the seats of the runs and the account of their tags; the
looks at its end leave no resumed run to look. -/
theorem runsKept : Obligations.RunsKept := by
  intro s t ⟨hstack, htag, hdone, hresumed⟩ hstep
  have course := step_course (L := False) hstep False.elim
  have hs := (runsKept_iff s).mp ⟨hstack, htag, hdone⟩
  have ht : Settled nothing t (tagOf t) := by
    have chain := course.chain
    clear course hstep
    induction chain with
    | refl => exact hs
    | tail _ m ih => exact settled_of_meso m ih
  obtain ⟨hstack', htag', hdone'⟩ := (runsKept_iff t).mpr ht
  exact ⟨hstack', htag', hdone', course.looked hresumed⟩

end

end Sys2Proof.Proofs
end

section
/-! ## The laws of the schedule under a change (R12, R39 to R41, R54 to R57)

`Orderly L P s` says that the laws of the schedule hold in `s`, and, where `L` does, that no head fits on a present HPU outside `P`:
an operation may leave the HPUs of `P` to the admission passes that follow it. -/
namespace Sys2Proof.Proofs
open Sys2Proof Sys2Proof.Machine

set_option Elab.async false

/-- R55 to R57: no head fits on the HPU, if it is present. -/
def NoneFits (s : State) (h : HpuIx) : Prop := s.hpuPresent h = true → ∀ d : DoorIx, HeadOn s h d → entryFits s h d = false

/-- The laws of the schedule, and no head that fits on a present HPU outside `P`. -/
structure Orderly (L : Prop) (P : HpuIx → Prop) (s : State) : Prop where
  flow : FlowLaw s
  latch : LatchLaw s
  arrival : ArrivalLaw s
  overtaken : OvertakenLaw s
  passed : L → ∀ h, ¬P h → NoneFits s h

/-- No HPU. -/
abbrev noHpu (_ : HpuIx) : Prop := False

/-- What the door's entry adds to the committed flow of the HPU. -/
def drawOn (s : State) (h : HpuIx) (d : DoorIx) : Nat := if s.hpuOf d = h then movingDraw s d else 0

/-- The READY entries of an HPU stand as they stood, and one that fits now fitted before. -/
structure Tighter (h : HpuIx) (s t : State) : Prop where
  ready : ∀ d, ReadyOn t h d ↔ ReadyOn s h d
  before : ∀ a b, ReadyOn s h a → ReadyOn s h b → schedBefore t a b = schedBefore s a b
  fits : ∀ d, ReadyOn s h d → entryFits t h d = true → entryFits s h d = true
  present : t.hpuPresent h = true → s.hpuPresent h = true

section
variable {L : Prop} {P Q : HpuIx → Prop} {s t u : State} {d x : DoorIx} {h g : HpuIx} {e : Entry}

theorem Tighter.refl (h : HpuIx) (s : State) : Tighter h s s := ⟨fun _ => Iff.rfl, fun _ _ _ _ => rfl, fun _ _ h => h, id⟩

theorem Tighter.trans (hst : Tighter h s t) (htu : Tighter h t u) : Tighter h s u where
  ready d := (htu.ready d).trans (hst.ready d)
  before a b ha hb := (htu.before a b ((hst.ready a).mpr ha) ((hst.ready b).mpr hb)).trans (hst.before a b ha hb)
  fits d hd hf := hst.fits d hd (htu.fits d ((hst.ready d).mpr hd) hf)
  present hu := hst.present (htu.present hu)

theorem NoneFits.tighter (hs : NoneFits s h) (ht : Tighter h s t) : NoneFits t h := by
  intro hpresent d hd
  have hready := (ht.ready d).mp hd.1
  have hhead : HeadOn s h d := ⟨hready, fun x hx hne => by
    rw [← ht.before d x hready hx]; exact hd.2 x ((ht.ready x).mpr hx) hne⟩
  have := hs (ht.present hpresent) d hhead
  rw [Bool.eq_false_iff] at this ⊢
  exact fun hf => this (ht.fits d hready hf)

theorem noneFits_of_not_ready (hs : ∀ d, entryIn s h .READY d = false) : NoneFits s h := fun _ d hd => by
  exact absurd (show entryIn s h .READY d = true from hd.1) (by rw [hs d]; exact Bool.false_ne_true)

/-! ### Congruence -/

theorem hpuOf_of_doors (hd : t.tables.doors = s.tables.doors) (d : DoorIx) : t.hpuOf d = s.hpuOf d := by
  unfold State.hpuOf; rw [hd]
theorem draw_of_doors (hd : t.tables.doors = s.tables.doors) (d : DoorIx) : t.draw d = s.draw d := by
  unfold State.draw; rw [hd]

theorem sum_map_filter_eq (l : List DoorIx) (p : DoorIx → Bool) (f : DoorIx → Nat) :
    ((l.filter p).map f).sum = (l.map fun d => if p d = true then f d else 0).sum := by
  induction l with
  | nil => rfl
  | cons x rest ih =>
    rw [List.filter_cons, List.map_cons, List.sum_cons, ← ih]
    split
    · rw [List.map_cons, List.sum_cons]
    · rw [Nat.zero_add]

/-- R54: the committed flow is the sum of what the doors add to it. -/
theorem flowLaw_iff : FlowLaw s ↔ ∀ h : HpuIx, s.cs.flow[h].committed = (allDoors.map (drawOn s h)).sum := by
  refine forall_congr' fun h => ?_
  rw [sum_map_filter_eq]
  simp only [decide_eq_true_eq]
  rfl

theorem entryIn_eq_phaseOf (s : State) (h : HpuIx) (ph : Phase) (d : DoorIx) :
    entryIn s h ph d = (decide (phaseOf s d = some ph) && decide (s.hpuOf d = h)) := by
  unfold entryIn phaseOf
  cases s.entry d <;> simp

/-- A door whose entry, if any, stands as it stood adds what it added. -/
theorem drawOn_congr (hphase : phaseOf t d = phaseOf s d) (hdoors : t.tables.doors = s.tables.doors) (h : HpuIx) :
    drawOn t h d = drawOn s h d := by
  have hmove (v : State) : movingDraw v d = if phaseOf v d = some .MOVING then v.draw d else 0 := by
    unfold movingDraw phaseOf
    cases v.entry d <;> simp
  unfold drawOn
  rw [hmove, hmove, hphase, hpuOf_of_doors hdoors, draw_of_doors hdoors]

theorem entryFits_congr (hclass : entryClass t d = entryClass s d) (hdraw : t.draw d = s.draw d)
    (hflow : s.cs.flow[h].committed ≤ t.cs.flow[h].committed) (hcap : t.cs.flow[h].capacityE = s.cs.flow[h].capacityE)
    (hreserve : t.tables.hpus[h].reserve = s.tables.hpus[h].reserve)
    (hlane : t.tables.system.directLane = s.tables.system.directLane) (hf : entryFits t h d = true) : entryFits s h d = true := by
  unfold entryFits fits admissionLimit isDirectLane at *
  simp only [decide_eq_true_eq] at *
  rw [hclass, hdraw, hcap, hreserve, hlane] at hf
  omega

end

/-! ### A change of one door's entry -/

/-- The change of one door's entry and of the flow committed for it, the schedule left standing elsewhere. -/
structure Touch (d : DoorIx) (s t : State) : Prop where
  others : ∀ x : DoorIx, x ≠ d → t.entry x = s.entry x
  tables : t.tables = s.tables
  latch : ∀ x : DoorIx, t.latch x ≠ .NONE → s.latch x ≠ .NONE
  capacity : ∀ h : HpuIx, t.cs.flow[h].capacityE = s.cs.flow[h].capacityE
  committed : FlowLaw s → ∀ h : HpuIx, t.cs.flow[h].committed + drawOn s h d = s.cs.flow[h].committed + drawOn t h d
  opened : hasOpenEntry t d = true → hasOpenEntry s d = true ∨ s.latch d = .NONE
  overtaken : (∀ e ∈ s.entry d, e.overtaken ≤ 3) → ∀ e ∈ t.entry d, e.overtaken ≤ 3
  counter : s.cs.nextArrival ≤ arrivalTop → s.cs.nextArrival ≤ t.cs.nextArrival ∧ t.cs.nextArrival ≤ arrivalTop
  arrival : ∀ n ∈ arrivalOf t d, n ∈ arrivalOf s d ∨ n = s.cs.nextArrival ∧ n < t.cs.nextArrival

/-- The door's entry is READY neither before nor after the change, and no draw is released. -/
structure Quiet (d : DoorIx) (s t : State) : Prop where
  was : phaseOf s d ≠ some .READY
  becomes : phaseOf t d ≠ some .READY
  draw : phaseOf s d = some .MOVING → phaseOf t d = some .MOVING

section
variable {L : Prop} {P Q : HpuIx → Prop} {s t u : State} {d x : DoorIx} {h g : HpuIx} {e : Entry}

theorem sum_map_change {f g : DoorIx → Nat} (hfg : ∀ x, x ≠ d → g x = f x) :
    (allDoors.map g).sum + f d = (allDoors.map f).sum + g d := by
  have key (l : List DoorIx) (hl : l.Nodup) : (l.map g).sum + (if d ∈ l then f d else 0) = (l.map f).sum + (if d ∈ l then g d else 0) := by
    induction l with
    | nil => rfl
    | cons x rest ih =>
      obtain ⟨hx, hrest⟩ := List.nodup_cons.mp hl
      have := ih hrest
      by_cases hxd : x = d
      · subst hxd
        simp only [hx, if_false, List.mem_cons, true_or, if_true, List.map_cons, List.sum_cons] at *
        omega
      · have hd : d ∈ x :: rest ↔ d ∈ rest := by simp [Ne.symm hxd]
        simp only [hd, List.map_cons, List.sum_cons, hfg x hxd]
        omega
  simpa [mem_allDoors] using key allDoors nodup_allDoors

theorem phaseOf_of_entry (he : t.entry d = s.entry d) : phaseOf t d = phaseOf s d := by unfold phaseOf; rw [he]

theorem Touch.hpuOf (ht : Touch d s t) (x : DoorIx) : t.hpuOf x = s.hpuOf x := hpuOf_congr ht.tables x

theorem Touch.drawOn (ht : Touch d s t) (hx : x ≠ d) (h : HpuIx) : drawOn t h x = Proofs.drawOn s h x :=
  drawOn_congr (phaseOf_of_entry (ht.others x hx)) (by rw [ht.tables]) h

theorem Touch.flowLaw (ht : Touch d s t) (hs : FlowLaw s) : FlowLaw t := flowLaw_iff.mpr fun h => by
  have hcommitted := ht.committed hs h
  have hsum := sum_map_change (d := d) fun x hx => ht.drawOn hx h
  rw [flowLaw_iff.mp hs h] at hcommitted
  omega

theorem hasOpenEntry_of_claim (hc : claimOf t d = claimOf s d) : hasOpenEntry t d = hasOpenEntry s d := by
  have key (v : State) : hasOpenEntry v d = (claimOf v d).any fun c => decide (c.1 = .OPEN) := by
    unfold hasOpenEntry claimOf
    cases v.entry d <;> rfl
  rw [key, key, hc]
theorem arrivalOf_of_claim (hc : claimOf t d = claimOf s d) : arrivalOf t d = arrivalOf s d := by
  have key (v : State) : arrivalOf v d = (claimOf v d).map fun c => c.2.2.2.2.2 := by
    unfold arrivalOf claimOf
    cases v.entry d <;> rfl
  rw [key, key, hc]
theorem hasOpenEntry_congr (he : t.entry d = s.entry d) : hasOpenEntry t d = hasOpenEntry s d := by unfold hasOpenEntry; rw [he]
theorem arrivalOf_congr (he : t.entry d = s.entry d) : arrivalOf t d = arrivalOf s d := by unfold arrivalOf; rw [he]

theorem Touch.latchLaw (ht : Touch d s t) (hs : LatchLaw s) : LatchLaw t := fun x hx => by
  have hlatch := ht.latch x hx
  by_cases hxd : x = d
  · subst hxd
    rw [Bool.eq_false_iff]
    intro hopen
    rcases ht.opened hopen with hopen | hnone
    · rw [hs x hlatch] at hopen; cases hopen
    · exact hlatch hnone
  · rw [hasOpenEntry_congr (ht.others x hxd)]
    exact hs x hlatch

theorem Touch.arrivalLaw (ht : Touch d s t) (hs : ArrivalLaw s) : ArrivalLaw t := by
  obtain ⟨htop, hbelow, hdistinct⟩ := hs
  obtain ⟨hgrow, htop'⟩ := ht.counter htop
  have hother {x : DoorIx} (hx : x ≠ d) : arrivalOf t x = arrivalOf s x := arrivalOf_congr (ht.others x hx)
  -- the number of the door's entry is no other's
  have hown {y : DoorIx} (hy : y ≠ d) {n : Nat} (hn : n ∈ arrivalOf t d) : n ∉ arrivalOf s y := fun hny => by
    rcases ht.arrival n hn with hold | ⟨hnew, -⟩
    · exact hdistinct d y (Ne.symm hy) n hold hny
    · have := hbelow y n hny
      omega
  refine ⟨htop', fun x n hn => ?_, fun a b hab n hna hnb => ?_⟩
  · by_cases hxd : x = d
    · subst hxd
      rcases ht.arrival n hn with hold | ⟨-, hnew⟩
      · exact Nat.lt_of_lt_of_le (hbelow x n hold) hgrow
      · exact hnew
    · rw [hother hxd] at hn
      exact Nat.lt_of_lt_of_le (hbelow x n hn) hgrow
  · by_cases had : a = d
    · subst had
      rw [hother (Ne.symm hab)] at hnb
      exact hown (Ne.symm hab) hna hnb
    · rw [hother had] at hna
      by_cases hbd : b = d
      · subst hbd
        exact hown hab hnb hna
      · rw [hother hbd] at hnb
        exact hdistinct a b hab n hna hnb

theorem Touch.overtakenLaw (ht : Touch d s t) (hs : OvertakenLaw s) : OvertakenLaw t := fun x e he => by
  by_cases hxd : x = d
  · subst hxd
    exact ht.overtaken (hs x) e he
  · rw [ht.others x hxd] at he
    exact hs x e he

/-- A change of a door on another HPU, or of an entry that is not READY, leaves the heads of the HPU and what fits. -/
theorem Touch.tighter (ht : Touch d s t) (hflow : FlowLaw s) (hd : s.hpuOf d ≠ h ∨ Quiet d s t) : Tighter h s t := by
  have hidle : ¬ReadyOn s h d ∧ ¬ReadyOn t h d := by
    unfold ReadyOn
    rw [entryIn_eq_phaseOf, entryIn_eq_phaseOf, ht.hpuOf]
    rcases hd with hd | hd
    · simp [hd]
    · simp [hd.was, hd.becomes]
  have hne {x : DoorIx} (hx : ReadyOn s h x) : x ≠ d := fun hxd => hidle.1 (hxd ▸ hx)
  have hdraw : Proofs.drawOn s h d ≤ Proofs.drawOn t h d := by
    rcases hd with hd | hd
    · unfold Proofs.drawOn
      rw [if_neg hd]
      exact Nat.zero_le _
    · by_cases hm : phaseOf s d = some .MOVING
      · rw [drawOn_congr ((hd.draw hm).trans hm.symm) (by rw [ht.tables])]
      · have : movingDraw s d = 0 := by
          unfold movingDraw
          cases he : s.entry d with
          | none => rfl
          | some e =>
            rw [phaseOf_eq he] at hm
            exact if_neg fun hph => hm (congrArg some hph)
        unfold Proofs.drawOn
        rw [this]
        split <;> exact Nat.zero_le _
  refine ⟨fun x => ?_, fun a b ha hb => ?_, fun x hx hf => ?_, fun hp => ?_⟩
  · by_cases hxd : x = d
    · subst hxd
      exact ⟨fun hx => absurd hx hidle.2, fun hx => absurd hx hidle.1⟩
    · unfold ReadyOn
      rw [entryIn_congr (ht.others x hxd) ht.tables]
  · unfold schedBefore
    rw [ht.others a (hne ha), ht.others b (hne hb)]
  · refine entryFits_congr ?_ (draw_congr ht.tables x) ?_ (ht.capacity h) (by rw [ht.tables]) (by rw [ht.tables]) hf
    · unfold entryClass
      rw [ht.others x (hne hx)]
    · have := ht.committed hflow h
      omega
  · unfold State.hpuPresent at *
    rwa [ht.tables] at hp

/-! ### Orderly -/

theorem Orderly.mono (hs : Orderly L P s) (hPQ : ∀ h, P h → Q h) : Orderly L Q s :=
  ⟨hs.flow, hs.latch, hs.arrival, hs.overtaken, fun hL h hh => hs.passed hL h fun hp => hh (hPQ h hp)⟩

theorem Orderly.touch (hs : Orderly L P s) (ht : Touch d s t) (hd : P (s.hpuOf d) ∨ Quiet d s t) : Orderly L P t where
  flow := ht.flowLaw hs.flow
  latch := ht.latchLaw hs.latch
  arrival := ht.arrivalLaw hs.arrival
  overtaken := ht.overtakenLaw hs.overtaken
  passed hL h hh := (hs.passed hL h hh).tighter <| ht.tighter hs.flow <| hd.imp_left fun hP heq => hh (heq ▸ hP)

theorem Orderly.touched (hs : Orderly L noHpu s) (ht : Touch d s t) : Orderly L (· = s.hpuOf d) t :=
  (hs.mono fun _ => False.elim).touch ht (.inl rfl)

/-- R54: a pass commits the draws of the doors it admits. -/
theorem flowLaw_pass (hs : FlowLaw s) (g : HpuIx) : FlowLaw (pass g s) := flowLaw_iff.mpr fun h => by
  have ha := pass_admits g s
  generalize passFirst s g ++ passBehind s g = a at ha
  have htables := ha.frame.tables
  have hadd (d : DoorIx) : drawOn (Machine.pass g s) h d = drawOn s h d + if d ∈ a then (if h = g then s.draw d else 0) else 0 := by
    split
    · next hd =>
      obtain ⟨e, he, hph, hhpu⟩ := entry_of_entryIn (ha.ready d hd)
      have ht := ha.admitted d hd
      rw [he] at ht
      unfold drawOn movingDraw
      rw [ht, he, hpuOf_congr htables, hhpu, draw_congr htables]
      simp [Entry.dispatched, eq_comm, hph]
    · next hd =>
      refine drawOn_congr ?_ (by rw [htables]) h
      unfold phaseOf
      rw [ha.stays d hd]
      cases s.entry d <;> rfl
  have hsum : (allDoors.map (drawOn (Machine.pass g s) h)).sum =
      (allDoors.map (drawOn s h)).sum + (a.map fun d => if h = g then s.draw d else 0).sum := by
    rw [funext hadd, List.sum_map_add,
      ← sum_filter_eq (p := fun d => decide (d ∈ a)) ha.nodup fun d => decide_eq_true_iff, sum_map_filter_eq]
    simp only [decide_eq_true_eq]
  rw [hsum, ← flowLaw_iff.mp hs h]
  by_cases hg : h = g
  · subst hg
    simp only [if_true]
    exact ha.committed
  · simp only [if_neg hg, List.map_const', List.sum_replicate, smul_zero, Nat.add_zero]
    rw [ha.others h hg]

/-- R57: a pass overtakes the head that stays, and no further than it may. -/
theorem overtakenLaw_pass (hs : OvertakenLaw s) (hd : DistinctArrivals s) (g : HpuIx) : OvertakenLaw (pass g s) := fun d e he => by
  have ha := pass_admits g s
  by_cases hin : d ∈ passFirst s g ++ passBehind s g
  · rw [ha.admitted d hin] at he
    obtain ⟨e', he', rfl⟩ := Option.mem_map.mp he
    exact hs d e' he'
  · cases hleft : passLeft s g with
    | nil =>
      rw [ha.stays d hin] at he
      obtain ⟨e', he', rfl⟩ := Option.mem_map.mp he
      unfold passOvertakings
      rw [hleft]
      exact hs d e' he'
    | cons head rest =>
      by_cases hhead : d = head
      · subst hhead
        have hle := overtakenOf_pass_le hd hs hleft
        unfold overtakenOf at hle
        rw [Option.mem_def] at he
        rw [he] at hle
        exact hle
      · rw [ha.stays d hin] at he
        obtain ⟨e', he', rfl⟩ := Option.mem_map.mp he
        unfold passOvertakings
        rw [hleft]
        show e'.overtaken + overtakings head _ d ≤ 3
        rw [overtakings, if_neg hhead]
        exact hs d e' he'

/-- A pass of one HPU leaves the READY entries of another, and what fits there. -/
theorem Tighter.pass (hg : h ≠ g) (s : State) : Tighter h s (pass g s) := by
  have ha := pass_admits g s
  have htables := ha.frame.tables
  refine ⟨fun d => ?_, fun x y _ _ => schedBefore_of_claims (claimOf_pass g s) x y, fun d _ hf => ?_, fun hp => ?_⟩
  · by_cases hd : d ∈ passFirst s g ++ passBehind s g
    · obtain ⟨-, -, -, hhpu⟩ := entry_of_entryIn (ha.ready d hd)
      unfold ReadyOn
      rw [entryIn_eq_phaseOf, entryIn_eq_phaseOf, hpuOf_congr htables, hhpu]
      simp [Ne.symm hg]
    · unfold ReadyOn
      rw [entryIn_eq_phaseOf, entryIn_eq_phaseOf, hpuOf_congr htables, phaseOf_stays ha hd]
  · exact entryFits_congr (ha.entryClass d) (draw_congr htables d) (by rw [ha.others h hg]) (by rw [ha.others h hg]) (by rw [htables])
      (by rw [htables]) hf
  · unfold State.hpuPresent at *
    rwa [htables] at hp

/-- R55 to R57: a pass keeps the laws, and leaves no head that fits on its HPU. -/
theorem Orderly.pass (hs : Orderly L P s) (g : HpuIx) : Orderly L (fun h => P h ∧ h ≠ g) (pass g s) where
  flow := flowLaw_pass hs.flow g
  latch d hd := by
    rw [hasOpenEntry_of_claim (claimOf_pass g s d)]
    exact hs.latch d (latch_of_ms (ms_pass g s) d hd)
  arrival := by
    obtain ⟨htop, hbelow, hdistinct⟩ := hs.arrival
    have harrival (d : DoorIx) := arrivalOf_of_claim (claimOf_pass g s d)
    have hnext := (ScheduleFrame.pass g s).nextArrival
    refine ⟨by rw [hnext]; exact htop, fun d n hn => ?_, fun a b hab n ha hb => ?_⟩
    · rw [harrival] at hn
      rw [hnext]
      exact hbelow d n hn
    · rw [harrival] at ha hb
      exact hdistinct a b hab n ha hb
  overtaken := overtakenLaw_pass hs.overtaken (ArrivalLaw.distinct hs.arrival) g
  passed hL h hh := by
    by_cases hg : h = g
    · subst hg
      intro _ d hd
      obtain ⟨rest, hleft⟩ := headOn_pass (ArrivalLaw.distinct hs.arrival) hd
      exact entryFits_pass_head hleft
    · exact (hs.passed hL h fun hP => hh ⟨hP, hg⟩).tighter (.pass hg s)

end

end Sys2Proof.Proofs
end

section
/-! ## The laws of the schedule under the operations on an entry

A rewritten entry, a new one with its arrival number, an entry taken out: each a `Touch`, with the renumbering of R41 apart. -/
namespace Sys2Proof.Proofs
open Sys2Proof Sys2Proof.Machine

set_option Elab.async false

section
variable {L : Prop} {P Q : HpuIx → Prop} {s t u : State} {d x : DoorIx} {h g : HpuIx} {e y : Entry} {m : Demand}

/-! ### Updates that leave the schedule -/

/-- An update that leaves entries, flow and tables but for timers, and sets no latch, whatever it does to the runs. -/
structure Level (s t : State) : Prop where
  entries : ∀ d : DoorIx, (t.entry d).map Entry.core = (s.entry d).map Entry.core
  arrivals : t.cs.nextArrival = s.cs.nextArrival
  flow : ∀ h : HpuIx, t.cs.flow[h].committed = s.cs.flow[h].committed ∧ t.cs.flow[h].capacityE = s.cs.flow[h].capacityE
  doors : t.tables.doors = s.tables.doors
  hpus : t.tables.hpus = s.tables.hpus
  system : t.tables.system = s.tables.system
  latch : ∀ d : DoorIx, t.latch d ≠ .NONE → s.latch d ≠ .NONE

theorem Still.level (h : Still s t) : Level s t :=
  ⟨h.entries, h.arrivals, h.flow, h.doors, h.hpus, h.system, h.latch⟩

/-- An operation on the runs leaves the schedule, the tables and the latches. -/
structure Apart (s t : State) : Prop where
  cs : t.cs = s.cs
  tables : t.tables = s.tables
  ms : t.ms = s.ms

theorem Apart.refl (s : State) : Apart s s := ⟨rfl, rfl, rfl⟩
theorem Apart.trans (h : Apart s t) (g : Apart t u) : Apart s u := ⟨g.cs.trans h.cs, g.tables.trans h.tables, g.ms.trans h.ms⟩
theorem Apart.report (h : ReportFrame s t) : Apart s t := ⟨h.cs, h.tables, h.ms⟩
theorem Apart.level (h : Apart s t) : Level s t where
  entries d := by rw [entry_congr (s := s) (t := t) (by rw [h.cs]) d]
  arrivals := by rw [h.cs]
  flow _ := by rw [h.cs]; exact ⟨rfl, rfl⟩
  doors := by rw [h.tables]
  hpus := by rw [h.tables]
  system := by rw [h.tables]
  latch := latch_of_ms h.ms

theorem core_eq_some (h : Level s t) (ht : t.entry d = some y) :
    ∃ e, s.entry d = some e ∧ y.direction = e.direction ∧ y.cls = e.cls ∧ y.phase = e.phase ∧ y.arrival = e.arrival
      ∧ y.overtaken = e.overtaken := by
  have hd := h.entries d
  rw [ht] at hd
  cases he : s.entry d with
  | none => rw [he] at hd; cases hd
  | some e =>
    rw [he, Option.map_some, Option.map_some, Option.some_inj, Entry.core, Entry.core, Entry.mk.injEq] at hd
    obtain ⟨hdir, hcls, -, -, -, harr, hph, -, -, hover, -⟩ := hd
    exact ⟨e, rfl, hdir, hcls, hph, harr, hover⟩

theorem map_core_congr {α : Type} (h : Level s t) (f : Entry → α) (hf : ∀ e, f (Entry.core e) = f e) (d : DoorIx) :
    (t.entry d).map f = (s.entry d).map f := by
  have key (o : Option Entry) : o.map f = (o.map Entry.core).map f := by
    cases o with
    | none => rfl
    | some e => exact congrArg some (hf e).symm
  rw [key, key (s.entry d), h.entries]

theorem phaseOf_of_level (h : Level s t) (d : DoorIx) : phaseOf t d = phaseOf s d := map_core_congr h _ (fun _ => rfl) d
theorem arrivalOf_of_level (h : Level s t) (d : DoorIx) : arrivalOf t d = arrivalOf s d := map_core_congr h _ (fun _ => rfl) d
theorem claimOf_of_level (h : Level s t) (d : DoorIx) : claimOf t d = claimOf s d := map_core_congr h _ (fun _ => rfl) d

theorem Tighter.level (ht : Level s t) (h : HpuIx) : Tighter h s t := by
  refine ⟨fun d => ?_, fun a b _ _ => schedBefore_of_claims (claimOf_of_level ht) a b, fun d _ hf => ?_, fun hp => ?_⟩
  · unfold ReadyOn
    rw [entryIn_eq_phaseOf, entryIn_eq_phaseOf, phaseOf_of_level ht, hpuOf_of_doors ht.doors]
  · refine entryFits_congr ?_ (draw_of_doors ht.doors d) (ht.flow h).1.ge (ht.flow h).2 (by rw [ht.hpus]) (by rw [ht.system]) hf
    have key (v : State) : entryClass v d = ((claimOf v d).map fun c => c.2.1).getD 0 := by
      unfold entryClass claimOf
      cases v.entry d <;> rfl
    rw [key, key, claimOf_of_level ht]
  · unfold State.hpuPresent at *
    rwa [ht.hpus] at hp

theorem Orderly.level (hs : Orderly L P s) (ht : Level s t) : Orderly L P t where
  flow := flowLaw_iff.mpr fun h => by
    rw [(ht.flow h).1, flowLaw_iff.mp hs.flow h,
      show drawOn t h = drawOn s h from funext fun d => drawOn_congr (phaseOf_of_level ht d) ht.doors h]
  latch d hd := by
    rw [hasOpenEntry_of_claim (claimOf_of_level ht d)]
    exact hs.latch d (ht.latch d hd)
  arrival := by
    obtain ⟨htop, hbelow, hdistinct⟩ := hs.arrival
    refine ⟨by rw [ht.arrivals]; exact htop, fun d n hn => ?_, fun a b hab n ha hb => ?_⟩
    · rw [arrivalOf_of_level ht] at hn
      rw [ht.arrivals]
      exact hbelow d n hn
    · rw [arrivalOf_of_level ht] at ha hb
      exact hdistinct a b hab n ha hb
  overtaken d y hy := by
    obtain ⟨e, he, -, -, -, -, hover⟩ := core_eq_some ht hy
    rw [hover]
    exact hs.overtaken d e he
  passed hL h hh := (hs.passed hL h hh).tighter (.level ht h)

theorem Orderly.still (hs : Orderly L P s) (ht : Still s t) : Orderly L P t := hs.level ht.level
theorem Orderly.apart (hs : Orderly L P s) (ht : Apart s t) : Orderly L P t := hs.level ht.level

/-! ### An entry rewritten -/

/-- An entry rewritten with its phase, its arrival number and its overtaken count. -/
structure Rewritten (d : DoorIx) (e y : Entry) (s t : State) : Prop where
  was : s.entry d = some e
  entries : ∀ x : DoorIx, t.entry x = if d = x then some y else s.entry x
  flow : t.cs.flow = s.cs.flow
  next : t.cs.nextArrival = s.cs.nextArrival
  tables : t.tables = s.tables
  latch : ∀ x : DoorIx, t.latch x ≠ .NONE → s.latch x ≠ .NONE
  phase : y.phase = e.phase
  arrival : y.arrival = e.arrival
  overtaken : y.overtaken = e.overtaken
  opened : y.direction = .OPEN → e.direction = .OPEN ∨ s.latch d = .NONE

theorem Rewritten.phaseOf (ht : Rewritten d e y s t) (x : DoorIx) : phaseOf t x = Machine.phaseOf s x := by
  unfold Machine.phaseOf
  rw [ht.entries]
  split
  · next hx => subst hx; rw [ht.was]; exact congrArg some ht.phase
  · rfl

theorem Rewritten.touch (ht : Rewritten d e y s t) : Touch d s t where
  others x hx := (ht.entries x).trans (if_neg (Ne.symm hx))
  tables := ht.tables
  latch := ht.latch
  capacity h := by rw [ht.flow]
  committed _ h := by rw [ht.flow, drawOn_congr (ht.phaseOf d) (by rw [ht.tables])]
  opened hopen := by
    unfold hasOpenEntry at *
    rw [ht.entries, if_pos rfl] at hopen
    rw [ht.was]
    simpa using ht.opened (by simpa using hopen)
  overtaken hs y' hy := by
    rw [ht.entries, if_pos rfl, Option.mem_def, Option.some_inj] at hy
    subst hy
    rw [ht.overtaken]
    exact hs e ht.was
  counter htop := by rw [ht.next]; exact ⟨le_rfl, htop⟩
  arrival n hn := by
    refine .inl ?_
    unfold arrivalOf at *
    rw [ht.entries, if_pos rfl] at hn
    rw [ht.was]
    simpa [ht.arrival] using hn

theorem Rewritten.quiet (ht : Rewritten d e y s t) (hph : e.phase ≠ .READY) : Quiet d s t where
  was := by rw [phaseOf_eq ht.was]; simpa using hph
  becomes := by rw [ht.phaseOf, phaseOf_eq ht.was]; simpa using hph
  draw hm := (ht.phaseOf d).trans hm

theorem Orderly.rewritten (hs : Orderly L P s) (ht : Rewritten d e y s t) (hd : P (s.hpuOf d) ∨ e.phase ≠ .READY) : Orderly L P t :=
  hs.touch ht.touch (hd.imp_right ht.quiet)

theorem Rewritten.setEntry (he : s.entry d = some e) (hphase : y.phase = e.phase) (harrival : y.arrival = e.arrival)
    (hover : y.overtaken = e.overtaken) (hopen : y.direction = .OPEN → e.direction = .OPEN ∨ s.latch d = .NONE) :
    Rewritten d e y s (s.setEntry d y) :=
  ⟨he, fun _ => entry_setEntry .., rfl, rfl, rfl, fun _ h => h, hphase, harrival, hover, hopen⟩

/-! ### An entry taken out -/

theorem le_sum_of_mem {f : DoorIx → Nat} (d : DoorIx) : f d ≤ (allDoors.map f).sum :=
  List.le_sum_of_mem (List.mem_map_of_mem (mem_allDoors d))

/-- R47: the door's entry gone, the draw of a MOVING one released. -/
theorem Touch.without (hcs : t.cs = schedWithout s d) (htables : t.tables = s.tables)
    (hlatch : ∀ x : DoorIx, t.latch x ≠ .NONE → s.latch x ≠ .NONE) : Touch d s t where
  others x hx := (entry_schedWithout d x hcs).trans (if_neg (Ne.symm hx))
  tables := htables
  latch := hlatch
  capacity h := by
    rw [hcs]
    simp only [schedWithout, Fin.getElem_fin, getElem_upd]
    split
    · next hh => simp only [hh]
    · rfl
  committed hflow h := by
    have hgone : t.entry d = none := (entry_schedWithout d d hcs).trans (if_pos rfl)
    have hzero : Proofs.drawOn t h d = 0 := by
      unfold Proofs.drawOn movingDraw
      rw [hgone]
      exact ite_self _
    have hle : Proofs.drawOn s h d ≤ s.cs.flow[h].committed := by
      rw [flowLaw_iff.mp hflow h]
      exact le_sum_of_mem d
    rw [hzero, hcs]
    unfold Proofs.drawOn at *
    simp only [schedWithout, Fin.getElem_fin, getElem_upd, Fin.val_inj]
    by_cases hd : s.hpuOf d = h
    · subst hd
      simp only [if_true, Fin.getElem_fin] at hle ⊢
      omega
    · rw [if_neg hd, if_neg hd]
  opened hopen := by
    unfold hasOpenEntry at hopen
    rw [entry_schedWithout d d hcs, if_pos rfl] at hopen
    cases hopen
  overtaken _ y hy := by
    rw [entry_schedWithout d d hcs, if_pos rfl] at hy
    cases hy
  counter htop := by rw [hcs]; exact ⟨le_rfl, htop⟩
  arrival n hn := by
    unfold arrivalOf at hn
    rw [entry_schedWithout d d hcs, if_pos rfl] at hn
    cases hn

theorem Quiet.without (hcs : t.cs = schedWithout s d) (hph : phaseOf s d = some .WARNING) : Quiet d s t := by
  have hnone : phaseOf t d = none := by
    unfold phaseOf
    rw [entry_schedWithout d d hcs, if_pos rfl]
    rfl
  exact ⟨by rw [hph]; decide, by rw [hnone]; nofun, fun hm => by rw [hph] at hm; cases hm⟩

theorem Touch.takeOut (he : s.entry d = some e) (c : RemovalCause) : Touch d s (takeOut c d s) :=
  have h := takenOut he c
  .without h.cs h.tables (latch_of_ms h.ms)

/-! ### A new arrival number (R40, R41) -/

/-- The arrival numbers rewritten in their order, below the counter. -/
structure Renumbering (f : Nat → Nat) (s t : State) : Prop where
  entries : ∀ x : DoorIx, t.entry x = (s.entry x).map fun e => { e with arrival := f e.arrival }
  flow : t.cs.flow = s.cs.flow
  tables : t.tables = s.tables
  ms : t.ms = s.ms
  order : ∀ a b : DoorIx, ∀ n ∈ arrivalOf s a, ∀ k ∈ arrivalOf s b, n < k → f n < f k
  below : ∀ a : DoorIx, ∀ n ∈ arrivalOf s a, f n < t.cs.nextArrival
  top : t.cs.nextArrival ≤ arrivalTop

theorem Renumbering.entry {f : Nat → Nat} (ht : Renumbering f s t) (hy : t.entry d = some y) :
    ∃ e, s.entry d = some e ∧ y = { e with arrival := f e.arrival } := by
  rw [ht.entries] at hy
  obtain ⟨e, he, rfl⟩ := Option.map_eq_some_iff.mp hy
  exact ⟨e, he, rfl⟩

theorem Renumbering.phaseOf {f : Nat → Nat} (ht : Renumbering f s t) (d : DoorIx) : phaseOf t d = Machine.phaseOf s d := by
  unfold Machine.phaseOf
  rw [ht.entries]
  cases s.entry d <;> rfl

theorem Renumbering.arrivalOf {f : Nat → Nat} (ht : Renumbering f s t) (d : DoorIx) : arrivalOf t d = (Machine.arrivalOf s d).map f := by
  unfold Machine.arrivalOf
  rw [ht.entries]
  cases s.entry d <;> rfl

theorem Renumbering.tighter {f : Nat → Nat} (ht : Renumbering f s t) (h : HpuIx) : Tighter h s t := by
  refine ⟨fun d => ?_, fun a b ha hb => ?_, fun d _ hf => ?_, fun hp => ?_⟩
  · unfold ReadyOn
    rw [entryIn_eq_phaseOf, entryIn_eq_phaseOf, ht.phaseOf, hpuOf_congr ht.tables]
  · obtain ⟨x, hx, -⟩ := entry_of_entryIn ha
    obtain ⟨y, hy, -⟩ := entry_of_entryIn hb
    unfold schedBefore
    rw [ht.entries, ht.entries, hx, hy]
    have hxn : x.arrival ∈ Machine.arrivalOf s a := by unfold Machine.arrivalOf; rw [hx]; rfl
    have hyn : y.arrival ∈ Machine.arrivalOf s b := by unfold Machine.arrivalOf; rw [hy]; rfl
    have hiff : f x.arrival < f y.arrival ↔ x.arrival < y.arrival := by
      refine ⟨fun hlt => ?_, ht.order a b _ hxn _ hyn⟩
      rcases Nat.lt_trichotomy x.arrival y.arrival with hc | hc | hc
      · exact hc
      · rw [hc] at hlt; omega
      · have := ht.order b a _ hyn _ hxn hc
        omega
    simp [Entry.before, hiff]
  · refine entryFits_congr ?_ (draw_congr ht.tables d) (by rw [ht.flow]) (by rw [ht.flow]) (by rw [ht.tables]) (by rw [ht.tables]) hf
    unfold entryClass
    rw [ht.entries]
    cases s.entry d <;> rfl
  · unfold State.hpuPresent at *
    rwa [ht.tables] at hp

theorem Orderly.renumbering {f : Nat → Nat} (hs : Orderly L P s) (ht : Renumbering f s t) : Orderly L P t where
  flow := flowLaw_iff.mpr fun h => by
    rw [ht.flow, flowLaw_iff.mp hs.flow h,
      show drawOn t h = drawOn s h from funext fun d => drawOn_congr (ht.phaseOf d) (by rw [ht.tables]) h]
  latch d hd := by
    have := hs.latch d (latch_of_ms ht.ms d hd)
    unfold hasOpenEntry at *
    rw [ht.entries]
    cases he : s.entry d with
    | none => rfl
    | some e => rw [he] at this; exact this
  arrival := by
    refine ⟨ht.top, fun d n hn => ?_, fun a b hab n ha hb => ?_⟩
    · rw [ht.arrivalOf] at hn
      obtain ⟨k, hk, rfl⟩ := Option.mem_map.mp hn
      exact ht.below d k hk
    · rw [ht.arrivalOf] at ha hb
      obtain ⟨i, hi, rfl⟩ := Option.mem_map.mp ha
      obtain ⟨j, hj, hij⟩ := Option.mem_map.mp hb
      rcases Nat.lt_trichotomy i j with hlt | heq | hlt
      · have := ht.order a b i hi j hj hlt
        omega
      · subst heq
        exact hs.arrival.2.2 a b hab i hi hj
      · have := ht.order b a j hj i hi hlt
        omega
  overtaken d y hy := by
    obtain ⟨e, he, rfl⟩ := ht.entry hy
    exact hs.overtaken d e he
  passed hL h hh := (hs.passed hL h hh).tighter (ht.tighter h)

/-- R40, R41: the state in which the counter stands at the number that the door's entry takes. -/
def counted (d : DoorIx) (s : State) : State := if s.cs.nextArrival = arrivalTop then renumber d s else s

theorem arrivalFor_eq (d : DoorIx) (s : State) : arrivalFor d s = (counted d s).cs.nextArrival := rfl
theorem arrived_eq_counted (d : DoorIx) (s : State) :
    arrived d s = { counted d s with cs := { (counted d s).cs with nextArrival := (counted d s).cs.nextArrival + 1 } } := rfl

theorem length_filter_lt {l : List DoorIx} {p q : DoorIx → Bool} (hpq : ∀ y, p y = true → q y = true) (hx : x ∈ l)
    (hp : p x = false) (hq : q x = true) : (l.filter p).length < (l.filter q).length := by
  have hsub : (l.filter p).Sublist (l.filter q) := List.monotone_filter_right l hpq
  refine lt_of_le_of_ne hsub.length_le fun heq => ?_
  have hmem : x ∈ l.filter q := List.mem_filter.mpr ⟨hx, hq⟩
  rw [← hsub.eq_of_length heq] at hmem
  rw [(List.mem_filter.mp hmem).2] at hp
  cases hp

/-- The door's entry has a lower arrival number. -/
def arrivedBefore (s : State) (n : Nat) (x : DoorIx) : Bool :=
  match s.entry x with
  | some e => decide (e.arrival < n)
  | none => false

theorem arrivedBefore_of_entry (hx : s.entry x = some e) (n : Nat) : arrivedBefore s n x = decide (e.arrival < n) := by
  unfold arrivedBefore; rw [hx]

theorem arrivalRank_eq_length (s : State) (d : DoorIx) (n : Nat) :
    arrivalRank s d n = ((otherEntries s d).filter (arrivedBefore s n)).length := rfl

theorem mem_otherEntries (hn : x ≠ d) (hx : s.entry x = some e) : x ∈ otherEntries s d := by
  unfold otherEntries
  simp [mem_allDoors, hn, hx]

/-- R41: fewer entries stand before an earlier entry than before a later one. -/
theorem arrivalRank_lt (hn : x ≠ d) (hx : s.entry x = some e) {k : Nat} (hk : e.arrival < k) :
    arrivalRank s d e.arrival < arrivalRank s d k := by
  rw [arrivalRank_eq_length, arrivalRank_eq_length]
  refine length_filter_lt (fun y hy => ?_) (mem_otherEntries hn hx) ?_ ?_
  · cases hye : s.entry y with
    | none => unfold arrivedBefore at hy; rw [hye] at hy; cases hy
    | some e' =>
      rw [arrivedBefore_of_entry hye] at *
      exact decide_eq_true (Nat.lt_trans (of_decide_eq_true hy) hk)
  · rw [arrivedBefore_of_entry hx]; exact decide_eq_false (Nat.lt_irrefl _)
  · rw [arrivedBefore_of_entry hx]; exact decide_eq_true hk

theorem arrivalRank_lt_length (hn : x ≠ d) (hx : s.entry x = some e) : arrivalRank s d e.arrival < (otherEntries s d).length := by
  rw [arrivalRank_eq_length]
  refine lt_of_le_of_ne (List.length_filter_le ..) fun heq => ?_
  have hall := List.length_filter_eq_length_iff.mp heq x (mem_otherEntries hn hx)
  rw [arrivedBefore_of_entry hx] at hall
  exact Nat.lt_irrefl _ (of_decide_eq_true hall)

theorem length_otherEntries_le (s : State) (d : DoorIx) : (otherEntries s d).length ≤ 96 :=
  (List.length_filter_le ..).trans (by simp [allDoors])

/-- R40, R41: the number that the door's entry takes is below the greatest. -/
theorem counted_next_lt (htop : s.cs.nextArrival ≤ arrivalTop) (d : DoorIx) : (counted d s).cs.nextArrival < arrivalTop := by
  unfold counted
  split
  · have := length_otherEntries_le s d
    have : (renumber d s).cs.nextArrival = (otherEntries s d).length := rfl
    unfold arrivalTop
    omega
  · next h => exact lt_of_le_of_ne htop h

/-- R41: what the renumbering makes of the arrival number of an entry other than the door's. -/
def countedNumber (d : DoorIx) (s : State) (n : Nat) : Nat := if s.cs.nextArrival = arrivalTop then arrivalRank s d n else n

theorem entry_counted (hn : x ≠ d) (s : State) :
    (counted d s).entry x = (s.entry x).map fun e => { e with arrival := countedNumber d s e.arrival } := by
  unfold counted countedNumber
  split
  · unfold State.entry renumber
    simp only [Fin.getElem_fin, getElem_updAll]
    rw [if_neg hn]
  · cases s.entry x <;> rfl

theorem counted_flow (d : DoorIx) (s : State) : (counted d s).cs.flow = s.cs.flow := by
  unfold counted
  split
  · unfold renumber
    rfl
  · rfl

/-- R40, R41: the door's entry gone, the others are renumbered where they must be. -/
theorem renumbering_counted (hs : ArrivalLaw s) (hcs : t.cs = { (counted d s).cs with entries := put (counted d s).cs.entries d none })
    (hu : ∀ x, u.entry x = if d = x then none else s.entry x) (hflow : u.cs.flow = s.cs.flow) (htables : t.tables = u.tables)
    (hms : t.ms = u.ms) : Renumbering (countedNumber d s) u t := by
  have hentry (x : DoorIx) : t.entry x = if d = x then none else (counted d s).entry x := by
    unfold State.entry
    rw [hcs]
    simp only [Fin.getElem_fin, getElem_put, Fin.val_inj]
  have harr {x : DoorIx} {n : Nat} (hn : n ∈ arrivalOf u x) : x ≠ d ∧ ∃ e, s.entry x = some e ∧ n = e.arrival := by
    unfold arrivalOf at hn
    rw [hu] at hn
    by_cases hx : d = x
    · rw [if_pos hx] at hn; cases hn
    · rw [if_neg hx] at hn
      obtain ⟨e, he, rfl⟩ := Option.mem_map.mp hn
      exact ⟨Ne.symm hx, e, he, rfl⟩
  refine ⟨fun x => ?_, by rw [hcs, hflow]; exact counted_flow d s, htables, hms, fun a b n hn k hk hnk => ?_, fun a n hn => ?_, ?_⟩
  · rw [hentry, hu]
    by_cases hx : d = x
    · rw [if_pos hx, if_pos hx]; rfl
    · rw [if_neg hx, if_neg hx, entry_counted (Ne.symm hx)]
  · obtain ⟨ha, e, he, rfl⟩ := harr hn
    unfold countedNumber
    split
    · exact arrivalRank_lt ha he hnk
    · exact hnk
  · obtain ⟨ha, e, he, rfl⟩ := harr hn
    rw [hcs]
    unfold countedNumber counted
    split
    · exact arrivalRank_lt_length ha he
    · exact hs.2.1 a _ (by unfold arrivalOf; rw [he]; rfl)
  · rw [hcs]
    exact (counted_next_lt hs.1 d).le

/-- A new entry of the door under the number it takes, in place of one that does not move. -/
structure Made (d : DoorIx) (y : Entry) (s t : State) : Prop where
  still : phaseOf s d ≠ some .MOVING
  entries : ∀ x : DoorIx, t.entry x = if d = x then some y else (arrived d s).entry x
  next : t.cs.nextArrival = (arrived d s).cs.nextArrival
  committed : ∀ h : HpuIx, t.cs.flow[h].committed = s.cs.flow[h].committed + drawOn t h d
  capacity : ∀ h : HpuIx, t.cs.flow[h].capacityE = s.cs.flow[h].capacityE
  tables : t.tables = s.tables
  latch : ∀ x : DoorIx, t.latch x ≠ .NONE → s.latch x ≠ .NONE
  arrival : y.arrival = arrivalFor d s
  overtaken : y.overtaken = 0
  opened : y.direction = .OPEN → s.latch d = .NONE

theorem Orderly.made (hs : Orderly L P s) (ht : Made d y s t)
    (hd : P (s.hpuOf d) ∨ phaseOf s d ≠ some .READY ∧ y.phase ≠ .READY) : Orderly L P t := by
  have hidle (h : HpuIx) : drawOn s h d = 0 := by
    unfold drawOn movingDraw
    cases he : s.entry d with
    | none => exact ite_self _
    | some e =>
      have hph : ¬e.phase = .MOVING := fun hph => ht.still (by rw [phaseOf_eq he, hph])
      simp only [if_neg hph, ite_self]
  -- the old entry goes, the others are renumbered, and the new one comes
  have hdrop (x : DoorIx) : (s.dropEntry d).entry x = if d = x then none else s.entry x := entry_dropEntry s d x
  have hnone : phaseOf (s.dropEntry d) d = none := by unfold phaseOf; rw [hdrop, if_pos rfl]; rfl
  have hdropTouch : Touch d s (s.dropEntry d) :=
    { others := fun x hx => (hdrop x).trans (if_neg (Ne.symm hx))
      tables := rfl, latch := fun _ h => h, capacity := fun _ => rfl
      committed := fun _ h => by
        have hzero : drawOn (s.dropEntry d) h d = 0 := by
          unfold drawOn movingDraw
          rw [hdrop, if_pos rfl]
          exact ite_self _
        rw [hidle, hzero]
        rfl
      opened := fun ho => by unfold hasOpenEntry at ho; rw [hdrop, if_pos rfl] at ho; cases ho
      overtaken := fun _ y hy => by rw [hdrop, if_pos rfl] at hy; cases hy
      counter := fun htop => ⟨le_rfl, htop⟩
      arrival := fun n hn => by unfold arrivalOf at hn; rw [hdrop, if_pos rfl] at hn; cases hn }
  have hdropped : Orderly L P (s.dropEntry d) := hs.touch hdropTouch <| hd.imp_right fun hq =>
    ⟨hq.1, by rw [hnone]; nofun, fun hm => absurd hm ht.still⟩
  obtain ⟨w, hw⟩ : ∃ w : State, w = { s.dropEntry d with cs := { (counted d s).cs with
    entries := put (counted d s).cs.entries d none } } := ⟨_, rfl⟩
  have hwcs : w.cs = { (counted d s).cs with entries := put (counted d s).cs.entries d none } := by rw [hw]
  have hwflow : w.cs.flow = s.cs.flow := by rw [hwcs]; exact counted_flow d s
  have hwtables : w.tables = s.tables := by rw [hw]; rfl
  have hwms : w.ms = s.ms := by rw [hw]; rfl
  have hwnext : w.cs.nextArrival = (counted d s).cs.nextArrival := by rw [hwcs]
  have hwentry (x : DoorIx) : w.entry x = if d = x then none else (arrived d s).entry x := by
    unfold State.entry
    rw [hwcs, arrived_eq_counted]
    simp only [Fin.getElem_fin, getElem_put, Fin.val_inj]
  have hordered : Orderly L P w := hdropped.renumbering (renumbering_counted hs.arrival hwcs hdrop rfl hwtables hwms)
  have hwnone : phaseOf w d = none := by unfold phaseOf; rw [hwentry, if_pos rfl]; rfl
  have hnext : t.cs.nextArrival = w.cs.nextArrival + 1 := by rw [ht.next, hwnext, arrived_eq_counted]
  have hself : t.entry d = some y := (ht.entries d).trans (if_pos rfl)
  refine hordered.touch
    { others := fun x hx => by rw [ht.entries, hwentry, if_neg (Ne.symm hx), if_neg (Ne.symm hx)]
      tables := ht.tables.trans hwtables.symm
      latch := fun x hx => by unfold State.latch; rw [hwms]; exact ht.latch x hx
      capacity := fun h => by rw [hwflow]; exact ht.capacity h
      committed := fun _ h => ?_
      opened := fun ho => .inr ?_
      overtaken := fun _ y' hy => by
        rw [hself, Option.mem_def, Option.some_inj] at hy
        subst hy
        rw [ht.overtaken]
        decide
      counter := fun htop => ⟨by omega, ?_⟩
      arrival := fun n hn => .inr ?_ } (hd.imp (fun hP => by rwa [hpuOf_congr hwtables]) fun hq =>
        ⟨by rw [hwnone]; nofun, by rw [phaseOf_eq hself]; simpa using hq.2, fun hm => by rw [hwnone] at hm; cases hm⟩)
  · have hzero : drawOn w h d = 0 := by
      unfold drawOn movingDraw
      rw [hwentry, if_pos rfl]
      exact ite_self _
    rw [hzero, hwflow]
    exact ht.committed h
  · unfold hasOpenEntry at ho
    rw [hself] at ho
    unfold State.latch
    rw [hwms]
    exact ht.opened (of_decide_eq_true ho)
  · rw [hnext, hwnext]
    exact counted_next_lt hs.arrival.1 d
  · unfold arrivalOf at hn
    rw [hself, Option.map_some, Option.mem_some_iff, ht.arrival, arrivalFor_eq, ← hwnext] at hn
    omega

end

end Sys2Proof.Proofs
end

section
/-! ## Every operation keeps the laws of the schedule -/
namespace Sys2Proof.Proofs
open Sys2Proof Sys2Proof.Machine

set_option Elab.async false

section
variable {L : Prop} {P Q : HpuIx → Prop} {s t u : State} {d x : DoorIx} {h g : HpuIx} {e y : Entry} {m : Demand}

/-! ### Passes -/

/-- What an operation on one HPU left to the pass of that HPU. -/
theorem Orderly.passLast (hs : Orderly L (· = g) s) : Orderly L noHpu (Machine.pass g s) := (hs.pass g).mono fun _ h => h.2 h.1

theorem Orderly.passes (hs : Orderly L P s) (l : List HpuIx) : Orderly L (fun h => P h ∧ h ∉ l) (forEach l Machine.pass s) := by
  induction l generalizing s P with
  | nil => exact hs.mono fun h hp => ⟨hp, List.not_mem_nil⟩
  | cons g rest ih =>
    refine (ih (hs.pass g)).mono fun h hp => ⟨hp.1.1, fun hmem => ?_⟩
    rcases List.mem_cons.mp hmem with heq | hmem
    · exact hp.1.2 heq
    · exact hp.2 hmem

theorem Orderly.evalDelay (hs : Orderly L P s) (g : HpuIx) : Orderly L P (Machine.evalDelay g s) := hs.still (.evalDelay g s)
theorem Orderly.evalDelays (hs : Orderly L P s) (l : List HpuIx) : Orderly L P (forEach l Machine.evalDelay s) :=
  hs.still (.forEach (fun g u => .evalDelay g u) l s)

theorem Orderly.ofNo (hs : Orderly L noHpu s) : Orderly L P s := hs.mono fun _ => False.elim

/-! ### Requests (R48) -/

/-- An act on one door leaves no more to the passes than its HPU, and keeps the tables. -/
structure Acts (L : Prop) (act : DoorIx → State → State) : Prop where
  kept : ∀ (P : HpuIx → Prop) (d : DoorIx) (u : State), P (u.hpuOf d) → Orderly L P u → Orderly L P (act d u)
  tables : ∀ (d : DoorIx) (u : State), (act d u).tables = u.tables

theorem mem_hpusOf {l : List DoorIx} (hd : d ∈ l) : s.hpuOf d ∈ hpusOf s l := by
  unfold hpusOf
  simp only [List.mem_filter, List.any_eq_true, decide_eq_true_eq]
  exact ⟨List.mem_finRange _, d, hd, rfl⟩

theorem Acts.forEach {act : DoorIx → State → State} (ha : Acts L act) (l : List DoorIx) (hP : ∀ d ∈ l, P (s.hpuOf d))
    (hs : Orderly L P s) : Orderly L P (Machine.forEach l act s) := by
  induction l generalizing s with
  | nil => exact hs
  | cons d rest ih =>
    refine ih (s := act d s) (fun x hx => ?_) (ha.kept P d s (hP d List.mem_cons_self) hs)
    rw [hpuOf_congr (ha.tables d s)]
    exact hP x (List.mem_cons_of_mem d hx)

theorem Orderly.request (hs : Orderly L noHpu s) {act : DoorIx → State → State} (ha : Acts L act) (l : List DoorIx) :
    Orderly L noHpu (request act l s) :=
  ((ha.forEach l (P := (· ∈ hpusOf s l)) (fun _ hd => mem_hpusOf hd) hs.ofNo).passes (hpusOf s l)).mono fun _ h => h.2 h.1

theorem Acts.setEntry {act : DoorIx → State → State} {f : Entry → Entry}
    (hact : ∀ d u, act d u = match u.entry d with | some e => u.setEntry d (f e) | none => u)
    (hf : ∀ e, (f e).phase = e.phase ∧ (f e).arrival = e.arrival ∧ (f e).overtaken = e.overtaken ∧ (f e).direction = e.direction) :
    Acts L act where
  kept P d u hP hu := by
    rw [hact]
    split
    · next e he =>
      obtain ⟨hph, harr, hover, hdir⟩ := hf e
      exact hu.rewritten (.setEntry he hph harr hover fun ho => .inl (hdir ▸ ho)) (.inl hP)
    · exact hu
  tables d u := by
    rw [hact]
    split <;> rfl

theorem Acts.raiseEntry : Acts L raiseEntry :=
  .setEntry (f := fun e => { e with cls := 3 }) (fun d u => by unfold Machine.raiseEntry; rfl) fun _ => ⟨rfl, rfl, rfl, rfl⟩
theorem Acts.dropTag : Acts L dropTag :=
  .setEntry (f := fun e => { e with tag := none }) (fun d u => by unfold Machine.dropTag; rfl) fun _ => ⟨rfl, rfl, rfl, rfl⟩

theorem Acts.takeOut (c : RemovalCause) : Acts L (takeOut c) where
  kept P d u hP hu := by
    cases he : u.entry d with
    | none => rw [takeOut_of_none he]; exact hu
    | some e => exact hu.touch (.takeOut he c) (.inl hP)
  tables d u := (RunFrame.takeOut c d u).tables

theorem Acts.cancelOne : Acts L cancelOne where
  kept P d u hP hu := by
    unfold Machine.cancelOne
    split
    · split
      · exact Acts.dropTag.kept P d u hP hu
      · exact (Acts.takeOut .CANCEL).kept P d u hP hu
    · exact hu
  tables d u := by
    unfold Machine.cancelOne
    split
    · split
      · exact Acts.dropTag.tables (L := L) d u
      · exact (Acts.takeOut (L := L) .CANCEL).tables d u
    · rfl

theorem Orderly.removeAll (hs : Orderly L noHpu s) (c : RemovalCause) (l : List DoorIx) : Orderly L noHpu (removeAll c l s) :=
  (hs.request (.takeOut c) l).evalDelays _
theorem Orderly.detachTag (hs : Orderly L noHpu s) (n : Byte) : Orderly L noHpu (detachTag n s) := hs.request .dropTag _
theorem Orderly.cancelTag (hs : Orderly L noHpu s) (n : Byte) : Orderly L noHpu (cancelTag n s) :=
  (hs.request .cancelOne _).evalDelays _

theorem Orderly.abortRuns (hs : Orderly L noHpu s) : Orderly L noHpu (abortRuns s) := by
  have hdetached (l : List Run) : ∀ {u}, Orderly L noHpu u → Orderly L noHpu (forEach l (fun r => Machine.detachTag r.number) u) := by
    induction l with
    | nil => exact id
    | cons r rest ih => exact fun hu => ih (hu.detachTag r.number)
  exact (hdetached (liveRuns s) hs).apart ⟨rfl, rfl, rfl⟩

theorem Orderly.flush (hs : Orderly L noHpu s) : Orderly L noHpu (flush s) := hs.removeAll .FLUSH _

theorem Orderly.abortAndFlush (hs : Orderly L noHpu s) : Orderly L noHpu (abortAndFlush s) := by
  unfold Machine.abortAndFlush
  split
  · have hfree : Orderly L noHpu (freeChoice Config.flushBeforeAbort s).2 := hs.apart ⟨rfl, rfl, rfl⟩
    simp only
    split
    · exact hfree.flush.abortRuns
    · exact hfree.abortRuns.flush
  · exact hs.abortRuns.flush

/-! ### Removal (R47) -/

theorem Orderly.removeEntry (hs : Orderly L noHpu s) (c : RemovalCause) (d : DoorIx) : Orderly L noHpu (removeEntry c d s) := by
  cases he : s.entry d with
  | none => rw [removeEntry_of_none he]; exact hs
  | some e =>
    rw [removeEntry_eq he]
    refine Orderly.still ?_ (.clearDoor ..)
    have ht := Touch.takeOut he c
    have hleft : Orderly L (· = s.hpuOf d) (Machine.takeOut c d s) := hs.touched ht
    cases hph : e.phase with
    | WARNING =>
      rw [readmitted_warning hph]
      exact hs.touch ht (.inr (.without (takenOut he c).cs ((phaseOf_eq he).trans (congrArg some hph))))
    | READY =>
      rw [readmitted_ready hph]
      exact hleft.passLast.evalDelay _
    | MOVING =>
      rw [readmitted_moving hph]
      exact hleft.passLast

/-! ### Demands (R22) -/

theorem Still.queueOrder? (d : DoorIx) (k : Option OrderKind) (s : State) : Still s (queueOrder? d k s) := by
  unfold Machine.queueOrder?
  split
  · exact .queueOrder ..
  · exact .refl s

theorem newEntry_not_moving (m : Demand) (preWarn n : Nat) : ¬(m.newEntry preWarn n).phase = .MOVING := by
  rw [newEntry_phase]
  split <;> decide

theorem merged_kept (m : Demand) (e : Entry) : (e.merged m).phase = e.phase ∧ (e.merged m).arrival = e.arrival
    ∧ (e.merged m).overtaken = e.overtaken ∧ (e.merged m).direction = e.direction := by
  unfold Entry.merged
  split <;> exact ⟨rfl, rfl, rfl, rfl⟩

theorem Made.makeEntry (hstill : phaseOf s m.door ≠ some .MOVING) (hopen : m.direction = .OPEN → s.latch m.door = .NONE) :
    Made m.door (m.newEntry (s.preWarn m.door) (arrivalFor m.door s)) s (renewed m s) where
  still := hstill
  entries _ := entry_setEntry ..
  next := rfl
  committed h := by
    have hself : (renewed m s).entry m.door = some (m.newEntry (s.preWarn m.door) (arrivalFor m.door s)) :=
      (entry_setEntry ..).trans (if_pos rfl)
    have hzero : drawOn (renewed m s) h m.door = 0 := by
      unfold drawOn movingDraw
      simp only [hself, if_neg (newEntry_not_moving m _ _), ite_self]
    rw [hzero]
    show (arrived m.door s).cs.flow[h].committed = _
    rw [arrived_flow]
    rfl
  capacity h := by
    show (arrived m.door s).cs.flow[h].capacityE = _
    rw [arrived_flow]
  tables := by rw [renewed_eq]
  latch := latch_of_ms (by rw [renewed_eq])
  arrival := rfl
  overtaken := rfl
  opened := hopen

theorem Orderly.enqueue (hs : Orderly L noHpu s) (he : s.entry m.door = none) (hopen : m.direction = .OPEN → s.latch m.door = .NONE) :
    Orderly L noHpu (enqueue m s) := by
  have hnone : phaseOf s m.door = none := by unfold phaseOf; rw [he]; rfl
  have hmade := Made.makeEntry (m := m) (s := s) (by rw [hnone]; nofun) hopen
  have haside (P : HpuIx → Prop) (h : Orderly L P (renewed m s)) : Orderly L P ((renewed m s).zeroOas m.door) :=
    h.apart ⟨rfl, rfl, rfl⟩
  rw [enqueue_eq]
  split
  · next hwarn =>
    refine Orderly.still (haside _ (hs.made hmade (.inr ⟨by rw [hnone]; nofun, ?_⟩))) (.queueOrder ..)
    rw [newEntry_phase, if_pos hwarn]
    decide
  · exact (haside (· = s.hpuOf m.door) (hs.ofNo.made hmade (.inl rfl))).passLast

theorem Orderly.merge (hs : Orderly L noHpu s) (he : s.entry m.door = some e) : Orderly L noHpu (merge m e s) := by
  have hrewritten : Rewritten m.door e (e.merged m) s (s.setEntry m.door (e.merged m)) := by
    obtain ⟨hph, harr, hover, hdir⟩ := merged_kept m e
    exact .setEntry he hph harr hover fun ho => .inl (hdir ▸ ho)
  unfold Machine.merge
  simp only
  split
  · exact Orderly.passLast (hs.ofNo.rewritten hrewritten (.inl rfl))
  · next hle =>
    have hsame : e.merged m = e := if_neg hle
    refine hs.still (.rewriteEntry he ?_)
    rw [hsame]

theorem displaced_apart (m : Demand) (e : Entry) (s : State) : Apart s (displaced m e s) :=
  ((Apart.mk (Ending.endBeaten m s).cs (Ending.endBeaten m s).tables (Ending.endBeaten m s).ms).trans
    (Apart.mk (Ending.recloseGone m.door e.direction _).cs (Ending.recloseGone m.door e.direction _).tables
      (Ending.recloseGone m.door e.direction _).ms)).trans (.report (.reportTag ..))

theorem Rewritten.turned (he : s.entry m.door = some e) (hopen : m.direction = .OPEN → s.latch m.door = .NONE) :
    Rewritten m.door e (e.reversed m (doorDeadline s m.door m.direction)) s (turned m e s) :=
  ⟨he, fun _ => entry_setEntry .., rfl, rfl, rfl, fun _ h => h, rfl, rfl, rfl, fun ho => .inr (hopen ho)⟩

theorem Orderly.reverse (hs : Orderly L noHpu s) (he : s.entry m.door = some e) (hph : e.phase = .MOVING)
    (hopen : m.direction = .OPEN → s.latch m.door = .NONE) : Orderly L noHpu (reverse m e s) := by
  have hd := displaced_apart m e s
  have hturned : Orderly L noHpu (turned m e (displaced m e s)) := by
    refine (hs.apart hd).rewritten (.turned ((entry_congr (by rw [hd.cs]) _).trans he) fun ho => ?_) (.inr (by rw [hph]; decide))
    unfold State.latch
    rw [hd.ms]
    exact hopen ho
  rw [reverse_eq]
  split
  · exact hturned.ofNo.passLast
  · exact hturned

theorem Orderly.replace (hs : Orderly L noHpu s) (he : s.entry m.door = some e) (hph : e.phase ≠ .MOVING)
    (hopen : m.direction = .OPEN → s.latch m.door = .NONE) : Orderly L noHpu (replace m e s) := by
  have hd := displaced_apart m e s
  rw [replace_eq]
  generalize displaced m e s = u at *
  have hentry : u.entry m.door = some e := (entry_congr (by rw [hd.cs]) _).trans he
  have hmade := Made.makeEntry (m := m) (s := u) (by rw [phaseOf_eq hentry]; simpa using hph) fun ho => by
    unfold State.latch
    rw [hd.ms]
    exact hopen ho
  have hexchanged : Orderly L (· = u.hpuOf m.door) (exchanged m u) :=
    Orderly.level ((hs.apart hd).ofNo.made hmade (.inl rfl)) (Still.queueOrder? ..).level
  simp only
  split
  · exact hexchanged.passLast.evalDelay _
  · exact hexchanged.passLast

theorem Orderly.decideDemand (hs : Orderly L noHpu s) (m : Demand) : Orderly L noHpu (decideDemand m s).2 := by
  unfold Machine.decideDemand
  split
  · exact hs
  split
  · exact hs
  split
  · exact hs
  next hlatch =>
  have hopen : m.direction = .OPEN → s.latch m.door = .NONE := fun ho => by
    by_contra hne
    exact hlatch ⟨ho, hne⟩
  unfold decideClaims
  split
  · next e he =>
    split
    · exact hs.merge he
    split
    · split
      · next hph => exact hs.reverse he hph hopen
      · next hph => exact hs.replace he hph hopen
    · exact hs
  · next he =>
    split
    · have hend := Ending.endBeaten m s
      have hbeaten : Orderly L noHpu (endBeaten m s) := hs.apart ⟨hend.cs, hend.tables, hend.ms⟩
      unfold settleDemand
      split
      · exact hbeaten
      · refine hbeaten.enqueue ((entry_congr (by rw [hend.cs]) _).trans he) fun ho => ?_
        unfold State.latch
        rw [hend.ms]
        exact hopen ho
    · exact hs

end

end Sys2Proof.Proofs
end

section
/-! ## The laws of the schedule (O6) -/
namespace Sys2Proof.Proofs
open Sys2Proof Sys2Proof.Machine

set_option Elab.async false

section
variable {L : Prop} {P Q : HpuIx → Prop} {s t u : State} {d x : DoorIx} {h g : HpuIx} {e y : Entry} {m : Demand} {i : SlotIx}

/-! ### The operations of the runs -/

theorem Apart.setSlot (i : SlotIx) (x : Option Run) (s : State) : Apart s (setSlot i x s) := ⟨rfl, rfl, rfl⟩
theorem Apart.takeSlot (i : SlotIx) (g : GroupRef) (dir : Direction) (cls : Nat) (y : SourceGroup) (o : RunOrigin) (s : State) :
    Apart s (takeSlot i g dir cls y o s) := by
  unfold Machine.takeSlot
  simp only
  split <;> exact ⟨rfl, rfl, rfl⟩
theorem Apart.suspend (i : SlotIx) (s : State) : Apart s (suspend i s) := by
  unfold Machine.suspend
  split <;> exact ⟨rfl, rfl, rfl⟩
theorem Apart.advance (i : SlotIx) (s : State) : Apart s (advance i s) := by
  unfold Machine.advance
  split
  · exact (Apart.setSlot ..).trans (.report (.completeSlot ..))
  · exact .refl s
theorem Apart.setStage (i : SlotIx) (st : RunState) (age : Nat) (s : State) : Apart s (setStage i st age s) := by
  unfold Machine.setStage
  split <;> exact ⟨rfl, rfl, rfl⟩
theorem Apart.acceptRun (p : PortIx) (g : GroupRef) (dir : Direction) (cls : Nat) (s : State) : Apart s (acceptRun p g dir cls s).2 := by
  unfold Machine.acceptRun
  split
  · simp only
    refine Apart.trans ?_ (.takeSlot ..)
    split
    · exact .suspend ..
    · exact .refl s
  · exact .refl s

theorem Orderly.submitAt (hs : Orderly L noHpu s) (i : SlotIx) : Orderly L noHpu (submitAt i s) := by
  unfold Machine.submitAt
  split
  · next r _ =>
    split
    · next d _ =>
      exact ((hs.decideDemand (r.demand d)).apart (t := modRun _ _ _) ⟨rfl, rfl, rfl⟩).apart (.advance ..)
    · exact hs.apart (.advance ..)
  · exact hs

theorem Orderly.cancelRun (hs : Orderly L noHpu s) (r : Run) : Orderly L noHpu (cancelRun r s) := by
  have hreported : Orderly L noHpu (sendReport .CANCELLED r (Machine.cancelTag r.number s)) :=
    (hs.cancelTag r.number).apart (.report (.sendReport ..))
  unfold Machine.cancelRun
  simp only
  split
  · exact hreported.apart (.report (.vacate ..))
  · exact hreported.apart ⟨rfl, rfl, rfl⟩

theorem Orderly.launchTail (hs : Orderly L noHpu s) (cls : Nat) (o : RunOrigin) : Orderly L noHpu (launchTail cls o s) := by
  unfold Proofs.launchTail
  refine Orderly.apart ?_ (.takeSlot ..)
  split
  · exact hs.detachTag _
  · exact hs

/-! ### Adoption, pre-warning, capacity, tables -/

theorem Orderly.reverseOne (hs : Orderly L noHpu s) (o : Origin) (hm : phaseOf s d = some .MOVING) :
    Orderly L noHpu (reverseOne o d s) := by
  unfold Machine.reverseOne
  split
  · next e he =>
    have hph : e.phase = .MOVING := by rw [phaseOf_eq he] at hm; exact Option.some.inj hm
    have hcs := reverseEntry_cs (emergencyClose o d) e s
    have hframe := Apart.report (.reportTag e.tag .overruled s)
    refine hs.rewritten (e := e) (y := e.reversed (emergencyClose o d) (doorDeadline s d .CLOSE)) (d := d)
      ⟨he, fun x => ?_, by rw [hcs]; rfl, by rw [hcs]; rfl, hframe.tables, latch_of_ms hframe.ms, rfl, rfl, rfl, nofun⟩
      (.inr (by rw [hph]; decide))
    rw [entry_congr (s := s.setEntry d (e.reversed (emergencyClose o d) (doorDeadline s d .CLOSE))) (by rw [hcs]; rfl) x]
    exact entry_setEntry ..
  · exact hs

theorem Orderly.adopt (hs : Orderly L noHpu s) (dir : Direction) (he : s.entry d = none) (hlatch : s.latch d = .NONE) :
    Orderly L noHpu (Machine.adopt d dir s) := by
  have hnone : phaseOf s d = none := by unfold phaseOf; rw [he]; rfl
  obtain ⟨y, hy⟩ : ∃ y, y = adoptedEntry dir (arrivalFor d s) (doorDeadline (arrived d s) d dir) := ⟨_, rfl⟩
  have heq : Machine.adopt d dir s = ((arrived d s).makeEntry d y).modFlow (((arrived d s).makeEntry d y).hpuOf d)
      fun f => { f with committed := f.committed + ((arrived d s).makeEntry d y).draw d } := by rw [hy]; rfl
  have htables : (arrived d s).tables = s.tables := by rw [arrived_eq]
  have hentries (x : DoorIx) : (Machine.adopt d dir s).entry x = if d = x then some y else (arrived d s).entry x := by
    rw [heq]
    exact entry_setEntry ..
  have hflow (h : HpuIx) : (Machine.adopt d dir s).cs.flow[h] =
      if s.hpuOf d = h then { s.cs.flow[h] with committed := s.cs.flow[h].committed + s.draw d } else s.cs.flow[h] := by
    have hf : ((arrived d s).makeEntry d y).cs.flow = s.cs.flow := arrived_flow d s
    have hh : ((arrived d s).makeEntry d y).hpuOf d = s.hpuOf d := hpuOf_congr (t := (arrived d s).makeEntry d y) htables d
    have hd : ((arrived d s).makeEntry d y).draw d = s.draw d := draw_congr (t := (arrived d s).makeEntry d y) htables d
    rw [heq, State.modFlow_cs_flow, hf, hh, hd]
    simp only [Fin.getElem_fin, getElem_upd, Fin.val_inj]
    split
    · next hh => subst hh; rfl
    · rfl
  refine hs.made (y := y)
    { still := by rw [hnone]; nofun
      entries := hentries
      next := by rw [heq]; rfl
      committed := fun h => ?_
      capacity := fun h => by rw [hflow]; split <;> rfl
      tables := by rw [heq]; exact htables
      latch := latch_of_ms (by rw [heq]; show (arrived d s).ms = _; rw [arrived_eq])
      arrival := by rw [hy]; rfl
      overtaken := by rw [hy]; rfl
      opened := fun _ => hlatch } (.inr ⟨by rw [hnone]; nofun, by rw [hy]; simp [adoptedEntry]⟩)
  have htables' : (Machine.adopt d dir s).tables = s.tables := by rw [heq]; exact htables
  have hself : (Machine.adopt d dir s).entry d = some y := (hentries d).trans (if_pos rfl)
  have hdraw : drawOn (Machine.adopt d dir s) h d = if s.hpuOf d = h then s.draw d else 0 := by
    unfold drawOn movingDraw
    rw [hself, hpuOf_congr htables', draw_congr htables']
    rw [hy]
    rfl
  rw [hflow, hdraw]
  split <;> rfl

/-- A WARNING entry made READY. -/
theorem Touch.readied (he : s.entry d = some e) (hph : e.phase = .WARNING) :
    Touch d s (s.setEntry d { e with phase := .READY, readyAge := 0 }) := by
  have hentry (x : DoorIx) : (s.setEntry d { e with phase := .READY, readyAge := 0 }).entry x =
      if d = x then some { e with phase := .READY, readyAge := 0 } else s.entry x := entry_setEntry ..
  generalize hu : s.setEntry d { e with phase := .READY, readyAge := 0 } = u at *
  have hself := (hentry d).trans (if_pos rfl)
  have hcs : u.cs.flow = s.cs.flow ∧ u.cs.nextArrival = s.cs.nextArrival ∧ u.tables = s.tables ∧ u.ms = s.ms := by
    rw [← hu]; exact ⟨rfl, rfl, rfl, rfl⟩
  obtain ⟨hflow, hnext, htables, hms⟩ := hcs
  have hzero (v : State) (y : Entry) (hy : v.entry d = some y) (hph : y.phase ≠ .MOVING) (h : HpuIx) : Proofs.drawOn v h d = 0 := by
    unfold Proofs.drawOn movingDraw
    simp only [hy, if_neg hph, ite_self]
  refine ⟨fun x hx => (hentry x).trans (if_neg (Ne.symm hx)), htables, latch_of_ms hms, fun h => by rw [hflow], fun _ h => ?_,
    fun ho => .inl ?_, fun hs y hy => ?_, fun htop => by rw [hnext]; exact ⟨le_rfl, htop⟩, fun n hn => .inl ?_⟩
  · rw [hflow, hzero s e he (by rw [hph]; decide), hzero u _ hself (by simp)]
  · unfold hasOpenEntry at *
    rw [hself] at ho
    rw [he]
    exact ho
  · rw [hself, Option.mem_def, Option.some_inj] at hy
    subst hy
    exact hs e he
  · unfold arrivalOf at *
    rw [hself] at hn
    rw [he]
    exact hn

theorem Orderly.warned (hs : Orderly L noHpu s) (he : s.entry d = some e) (hph : e.phase = .WARNING) :
    Orderly L noHpu (warningExpires d e s) := (hs.touched (.readied he hph)).passLast

theorem Orderly.recomputeE (hs : Orderly L noHpu s) (h : HpuIx) : Orderly L noHpu (recomputeE h s) := by
  unfold Machine.recomputeE
  simp only
  split
  · exact hs
  generalize effectiveCapacity s h = c
  have hflow (x : HpuIx) : (s.modFlow h fun f => { f with capacityE := c }).cs.flow[x].committed = s.cs.flow[x].committed := by
    simp only [State.modFlow_cs_flow, Fin.getElem_fin, getElem_upd]
    split
    · next hx => simp only [hx]
    · rfl
  have hother (x : HpuIx) (hx : x ≠ h) : (s.modFlow h fun f => { f with capacityE := c }).cs.flow[x] = s.cs.flow[x] := by
    simp only [State.modFlow_cs_flow, Fin.getElem_fin, getElem_upd]
    exact if_neg fun heq => hx (Fin.ext heq.symm)
  refine Orderly.passLast (g := h) ⟨fun x => (hflow x).trans (hs.flow x), hs.latch, hs.arrival, hs.overtaken, fun hL x hx => ?_⟩
  refine (hs.passed hL x id).tighter ⟨fun _ => Iff.rfl, fun _ _ _ _ => rfl, fun d _ hf => ?_, id⟩
  exact entryFits_congr (t := s.modFlow h fun f => { f with capacityE := c }) rfl rfl (by rw [hother x hx]) (by rw [hother x hx]) rfl rfl hf

/-- A write of the tables leaves the records of the doors with an entry. -/
def EntriesStand (x : Tables) (s : State) : Prop := ∀ d : DoorIx, (s.entry d).isSome = true → x.doors[d] = s.tables.doors[d]

theorem Tighter.setTables {x : Tables} (hx : EntriesStand x s) (hhpu : x.hpus[h] = s.tables.hpus[h])
    (hlane : x.system.directLane = s.tables.system.directLane) : Tighter h s (setTables x s) := by
  refine ⟨fun d => ?_, fun _ _ _ _ => rfl, fun d hd hf => ?_, fun hp => ?_⟩
  · unfold ReadyOn
    cases he : s.entry d with
    | none =>
      have he' : (Machine.setTables x s).entry d = none := he
      unfold entryIn
      rw [he, he']
    | some e =>
      have he' : (Machine.setTables x s).entry d = some e := he
      rw [entryIn_of_entry he, entryIn_of_entry he', show (Machine.setTables x s).hpuOf d = s.hpuOf d from ?_]
      unfold State.hpuOf
      rw [← hx d (by rw [he]; rfl)]
      rfl
  · obtain ⟨e, he, -⟩ := entry_of_entryIn hd
    refine entryFits_congr (t := Machine.setTables x s) rfl ?_ le_rfl rfl ?_ hlane hf
    · unfold State.draw
      rw [← hx d (by rw [he]; rfl)]
      rfl
    · exact congrArg HpuConfig.reserve hhpu
  · unfold State.hpuPresent at *
    rw [← hhpu]
    exact hp

/-- A write of the tables that leaves the records of the doors with an entry keeps the laws of the schedule. -/
theorem Orderly.setTables {x : Tables} (hs : Orderly L P s) (hx : EntriesStand x s)
    (hpassed : L → ∀ h, ¬Q h → NoneFits (setTables x s) h) : Orderly L Q (setTables x s) := by
  refine ⟨flowLaw_iff.mpr fun h => (flowLaw_iff.mp hs.flow h).trans ?_, hs.latch, hs.arrival, hs.overtaken, hpassed⟩
  refine congrArg List.sum (List.map_congr_left fun d _ => ?_)
  unfold drawOn movingDraw
  cases he : s.entry d with
  | none =>
    have he' : (Machine.setTables x s).entry d = none := he
    rw [he']
    simp only [ite_self]
  | some e =>
    have he' : (Machine.setTables x s).entry d = some e := he
    have hdoor := hx d (by rw [he]; rfl)
    rw [he', show (Machine.setTables x s).hpuOf d = s.hpuOf d from by unfold State.hpuOf; rw [← hdoor]; rfl,
      show (Machine.setTables x s).draw d = s.draw d from by unfold State.draw; rw [← hdoor]; rfl]

theorem Orderly.writeDoor (hs : Orderly L noHpu s) (he : s.entry d = none) (c : DoorConfig) :
    Orderly L noHpu (Machine.setTables (withDoor s.tables d c) s) := by
  have hx : EntriesStand (withDoor s.tables d c) s := fun y hy => by
    have hne : ¬d = y := fun h => by rw [← h, he] at hy; cases hy
    unfold withDoor
    simp only [Fin.getElem_fin, getElem_put, Fin.val_inj, if_neg hne]
  exact hs.setTables hx fun hL h hh => (hs.passed hL h hh).tighter (.setTables hx rfl rfl)

theorem Orderly.writeHpu (hs : Orderly L noHpu s) (c : HpuConfig) (hfree : L → ∀ d : DoorIx, entryIn s h .READY d = false) :
    Orderly L noHpu (Machine.setTables (withHpu s.tables h c) s) := by
  have hx : EntriesStand (withHpu s.tables h c) s := fun _ _ => rfl
  refine hs.setTables hx fun hL g hg => ?_
  by_cases heq : h = g
  · subst heq
    exact noneFits_of_not_ready (s := Machine.setTables (withHpu s.tables h c) s) (hfree hL)
  · refine (hs.passed hL g hg).tighter (.setTables hx ?_ rfl)
    unfold withHpu
    simp only [Fin.getElem_fin, getElem_put, Fin.val_inj, if_neg heq]

theorem mem_presentHpus : h ∈ presentHpus s ↔ s.hpuPresent h = true := by
  unfold presentHpus
  simp [List.mem_finRange, allHpus]

theorem Orderly.writeSystem (hs : Orderly L noHpu s) (c : SystemRecord) :
    Orderly L noHpu (systemWritten s.tables.system c s) := by
  have hx : EntriesStand { s.tables with system := c } s := fun _ _ => rfl
  have tested {v : State} {b : Prop} [Decidable b] (hv : Orderly L noHpu v) :
      Orderly L noHpu (if b then forEach (presentHpus v) Machine.evalDelay v else v) := by
    split
    · exact hv.evalDelays _
    · exact hv
  unfold systemWritten
  simp only
  refine tested ?_
  split
  · refine ((hs.setTables (Q := fun h => s.hpuPresent h = true) hx fun hL h hh => fun hp => absurd hp hh).passes _).mono fun h hp => ?_
    exact hp.2 (mem_presentHpus.mpr hp.1)
  · next hsame =>
    refine hs.setTables hx fun hL h hh => (hs.passed hL h hh).tighter (.setTables hx rfl ?_)
    by_contra hne
    exact hsame (.inl (Ne.symm hne))

theorem Orderly.fresh (hentry : ∀ d : DoorIx, t.entry d = none) (hflow : ∀ h : HpuIx, t.cs.flow[h].committed = 0)
    (hnext : t.cs.nextArrival ≤ arrivalTop) : Orderly L P t where
  flow := flowLaw_iff.mpr fun h => by
    have hzero (d : DoorIx) : drawOn t h d = 0 := by
      unfold drawOn movingDraw
      rw [hentry d]
      exact ite_self _
    rw [hflow, funext hzero]
    simp
  latch d _ := by unfold hasOpenEntry; rw [hentry d]
  arrival := by
    have hnone (d : DoorIx) : arrivalOf t d = none := by unfold arrivalOf; rw [hentry d]; rfl
    exact ⟨hnext, (fun d n hn => by rw [hnone] at hn; cases hn), (fun a b _ n hn => by rw [hnone] at hn; cases hn)⟩
  overtaken d e he := by rw [hentry d] at he; cases he
  passed _ h _ := noneFits_of_not_ready fun d => by unfold entryIn; rw [hentry d]

theorem Orderly.setLatch (hs : Orderly L P s) (he : s.entry d = none) (k : Latch) : Orderly L P (setLatch d k s) := by
  refine ⟨hs.flow, fun x hx => ?_, hs.arrival, hs.overtaken, hs.passed⟩
  by_cases hxd : x = d
  · subst hxd
    unfold hasOpenEntry
    rw [show (Machine.setLatch x k s).entry x = none from he]
  · refine hs.latch x fun hnone => hx ?_
    unfold Machine.setLatch
    rw [latch_modSup, if_neg (Ne.symm hxd)]
    exact hnone

/-- Every operation keeps the laws of the schedule. -/
theorem orderly_of_meso (hm : Meso L s t) (hs : Orderly L noHpu s) : Orderly L noHpu t := by
  cases hm with
  | still h => exact hs.still h
  | pass h => exact (hs.pass h).mono fun _ hp => hp.1
  | leave c d _ _ => exact hs.removeEntry c d
  | demand m _ _ => exact hs.decideDemand m
  | submit i => exact hs.submitAt i
  | wait i age => exact hs.apart (.setStage ..)
  | noted l => exact hs.apart ⟨rfl, rfl, rfl⟩
  | cancel r => exact hs.cancelRun r
  | accept p g dir cls => exact hs.apart (.acceptRun ..)
  | launch cls o => exact hs.launchTail cls o
  | abort => exact hs.abortAndFlush
  | raise => exact hs.request .raiseEntry _
  | deny => exact hs.removeAll .DENIED _
  | turn o d _ hph => exact hs.reverseOne o hph
  | adopt d dir _ he hlatch => exact hs.adopt dir he hlatch
  | latch d k _ he => exact hs.setLatch he k
  | recompute h => exact hs.recomputeE h
  | warned d e _ he hph => exact hs.warned he hph
  | writeDoor d c _ he => exact hs.writeDoor he c
  | writeHpu h c _ hfree => exact hs.writeHpu c hfree
  | writeSystem c => exact hs.writeSystem c
  | fresh hentry hflow hnext => exact .fresh hentry hflow hnext

theorem orderly_of_mesos (h : Mesos L s t) (hs : Orderly L noHpu s) : Orderly L noHpu t := by
  induction h with
  | refl => exact hs
  | tail _ m ih => exact orderly_of_meso m ih

end

/-- Settles O6, by the chain of operations of the command: each keeps the laws of the schedule, and takes the passes that its
changes ask for. -/
theorem scheduleKept : Obligations.ScheduleKept := by
  refine ⟨fun s t ⟨hflow, hlatch, harrival, hover⟩ hstep => ?_,
    fun s t ⟨⟨hflow, hlatch, harrival, hover⟩, htable, hpassed⟩ hstep => ?_⟩
  · have course := step_course (L := False) hstep False.elim
    have ht := orderly_of_mesos course.chain ⟨hflow, hlatch, harrival, hover, False.elim⟩
    exact ⟨ht.flow, ht.latch, ht.arrival, ht.overtaken⟩
  · have course := step_course (L := True) hstep fun _ => htable.2.2
    have ht := orderly_of_mesos course.chain ⟨hflow, hlatch, harrival, hover, fun _ h _ => hpassed h⟩
    exact ⟨⟨ht.flow, ht.latch, ht.arrival, ht.overtaken⟩, tableLawKept s t htable hstep, fun h => ht.passed trivial h id⟩

end Sys2Proof.Proofs
end

section
/-! ## Door commands (O27) -/
namespace Sys2Proof.Proofs
open Sys2Proof Sys2Proof.Machine

set_option Elab.async false

section
variable {s t u : State} {p : PortIx} {door cls : Byte} {d : DoorIx} {dir : Direction} {kind : Nat} {m : Demand}

/-- R98: with no resumed run that has yet to look, no run looks. -/
theorem settleRuns_of_resumed (h : s.gru.resumed = []) : settleRuns s = s := by
  have hone : settleOne s = s := by unfold settleOne; rw [h]
  unfold settleRuns
  generalize List.range _ = l
  induction l with
  | nil => rfl
  | cons _ rest ih =>
    show forEach rest _ (settleOne s) = s
    rw [hone]
    exact ih

theorem aside_trans (h : Aside s t) (g : Aside t u) : Aside s u := by
  obtain ⟨h1, h2, h3, h4, hq, hp⟩ := h
  obtain ⟨g1, g2, g3, g4, gq, gp⟩ := g
  exact ⟨g1.trans h1, g2.trans h2, g3.trans h3, g4.trans h4, OnlyQueues.trans hq gq, OnlyPacing.trans hp gp⟩

theorem presentDoor_eq (hd : door.toNat = d.val) (hp : s.isPresent d = true) : presentDoor s door = some d := by
  unfold presentDoor
  rw [ix?_val hd]
  exact if_pos hp

theorem presentDoor_eq_none (h : ∀ d : DoorIx, door.toNat = d.val → s.isPresent d = false) : presentDoor s door = none := by
  unfold presentDoor
  split
  · next d hd =>
    rw [if_neg]
    rw [h d (ix?_eq_some.mp hd).symm]
    exact Bool.false_ne_true
  · rfl

/-- The demand of a station's door command. -/
abbrev doorDemand (s : State) (p : PortIx) (dir : Direction) (cls : Byte) (d : DoorIx) : Demand :=
  ⟨d, dir, classUsed s p cls, s.rowGroup p, .STATION p, none⟩

/-- R22, R35: a door command of a present door submits its demand and is answered with the outcome. -/
theorem doorCommand_present (hd : door.toNat = d.val) (hp : s.isPresent d = true) :
    doorCommand p kind dir door cls (acceptFrame p s) =
      answerDemand p kind (marked s p cls) (decideDemand (doorDemand s p dir cls d) (acceptFrame p s)).1
        (settleRuns (decideDemand (doorDemand s p dir cls d) (acceptFrame p s)).2) := by
  unfold doorCommand
  rw [presentDoor_eq (s := acceptFrame p s) hd hp]
  rfl

theorem doorCommand_absent (h : ∀ d : DoorIx, door.toNat = d.val → s.isPresent d = false) :
    doorCommand p kind dir door cls (acceptFrame p s) = refuse p kind .UNKNOWN_TARGET (acceptFrame p s) := by
  unfold doorCommand
  rw [presentDoor_eq_none (s := acceptFrame p s) h]

theorem exec_doorClose (h : Operates s p [.BRIDGE, .SAFETY, .ENGINE]) (door cls : Byte) :
    exec (.doorClose p door cls) s = .next (doorCommand p 3 .CLOSE door cls (acceptFrame p s)) :=
  (exec_awake h.1 rfl).trans (congrArg _ (decide_operating _ h))

theorem exec_doorOpen (h : Operates s p [.BRIDGE]) (hmode : s.mc.mode ≠ .EMERGENCY) (door cls : Byte) :
    exec (.doorOpen p door cls) s = .next (doorCommand p 4 .OPEN door cls (acceptFrame p s)) :=
  (exec_awake h.1 rfl).trans (congrArg _ (decide_opening _ h hmode))

/-- R22, R26: at a door with no entry, no passage and another position the demand is ENQUEUED. -/
theorem decideDemand_enqueued (hin : s.inService = true) (he : s.entry m.door = none) (hpassage : s.passage m.door = none)
    (hposition : s.position m.door ≠ m.direction.target) (hmode : m.direction = .OPEN → s.mc.mode ≠ .EMERGENCY)
    (hlatch : m.direction = .OPEN → s.latch m.door = .NONE) : (decideDemand m s).1 = .ENQUEUED := by
  obtain ⟨-, -, -, hclaims⟩ := demandDecision m s
  obtain ⟨-, -, hwins⟩ := hclaims hin (fun h => hmode h.2.1 h.1) (fun h => h.2 (hlatch h.1))
  have hnone : directionOf s m.door = none := by unfold directionOf; rw [he]; rfl
  have hfree : claims s m.door = [] := by
    unfold claims
    rw [he, hpassage]
    rfl
  refine (hwins (by rw [hnone]; nofun) (by rw [Wins, hfree]; nofun)).2.2.2 ?_ hposition
  unfold phaseOf
  rw [he]
  rfl

/-- R35: the answer to each outcome. -/
theorem answered_of {c : Instr} {b : Bool} {o : DemandOutcome} {v : State} (hexec : exec c s = .next (answerDemand p kind b o v)) :
    (o = .ENQUEUED ∨ o = .REPLACED ∨ o = .REVERSED → exec c s = .next (answerDone p kind b [0] v))
    ∧ (o = .MERGED → exec c s = .next (answerDone p kind b [1] v))
    ∧ (o = .ALREADY → exec c s = .next (answerDone p kind b [2] v))
    ∧ (o = .OVERRULED → exec c s = .next (refuseWith p kind .OVERRULED b [] v))
    ∧ (o = .DOOR_FAULT → exec c s = .next (refuseWith p kind .DOOR_FAULT b [] v)) := by
  refine ⟨?_, ?_, ?_, ?_, ?_⟩
  · rintro (rfl | rfl | rfl) <;> exact hexec
  all_goals rintro rfl; exact hexec

theorem passages_ext (h : ∀ d : DoorIx, t.passage d = s.passage d) : t.mc.passages = s.mc.passages :=
  Vector.ext fun i hi => h ⟨i, hi⟩

/-- R22, R26, R35: a door command whose demand is ENQUEUED. -/
theorem doorCommand_enqueued (hd : door.toNat = d.val) (hp : s.isPresent d = true) (hpassage : s.passage d = none)
    (hsettled : SettledLaw s) (htop : s.cs.nextArrival ≠ arrivalTop) (hin : s.inService = true)
    (ho : (decideDemand (doorDemand s p dir cls d) (acceptFrame p s)).1 = .ENQUEUED) {t : State}
    (ht : t = doorCommand p kind dir door cls (acceptFrame p s)) :
    EnqueuedFor s t p cls d dir kind
    ∧ (dir = .CLOSE → 0 < s.preWarn d → phaseOf t d = some .WARNING ∧ Pending t d .WARN)
    ∧ (dir = .OPEN ∨ s.preWarn d = 0 → phaseOf t d = some .READY ∨ phaseOf t d = some .MOVING) := by
  obtain ⟨hclaim, hothers, hnext, hwarn, -, hready, hpassage', hpassages, hoas, hsea, hmode, hgru, hms, horders, haside⟩ :=
    demandEnqueued.1 (doorDemand s p dir cls d) (acceptFrame p s) hin ho htop
  rw [doorCommand_present hd hp, ho] at ht
  generalize (decideDemand (doorDemand s p dir cls d) (acceptFrame p s)).2 = v at *
  rw [settleRuns_of_resumed (by rw [hgru]; exact hsettled.2)] at ht
  have ht : t = answerDone p kind (marked s p cls) [0] v := ht
  have hf := PlaceFrame.place p (resultFrame kind .DONE (marked s p cls) [0]) v
  have hentry (x : DoorIx) : t.entry x = v.entry x := entry_congr (by rw [ht]; exact congrArg _ hf.cs) x
  have hclaims (x : DoorIx) : claimOf t x = claimOf v x := by unfold claimOf; rw [hentry]
  have hphase : phaseOf t d = phaseOf v d := phaseOf_of_entry (hentry d)
  have hrc : t.rc = v.rc := by rw [ht]; exact hf.rc
  have hmc : t.mc = v.mc := by rw [ht]; exact hf.mc
  refine ⟨⟨(hclaims d).trans hclaim, fun x hx => (hclaims x).trans (hothers x hx), ?_, ?_, ?_, ?_, ?_, ?_, ?_, ?_, ?_, ?_⟩,
    fun hdir hw => ?_, fun hready' => ?_⟩
  · rw [ht]; exact (congrArg _ hf.cs).trans hnext
  · rw [hmc]; exact hoas
  · rw [hmc]
    refine passages_ext (t := v) fun x => ?_
    by_cases hx : x = d
    · subst hx
      rw [hpassage']
      unfold passageAfter
      rw [show (acceptFrame p s).passage x = none from hpassage]
      exact hpassage.symm
    · exact hpassages x hx
  · rw [hmc]; exact hsea
  · rw [hmc]; exact hmode
  · rw [ht]; exact hf.gru.trans hgru
  · rw [ht]; exact hf.ms.trans hms
  · unfold OnlyOrders
    rw [hrc]
    exact horders
  · rw [ht]; exact done_answerDone ..
  · rw [ht]; exact aside_trans haside (aside_of_block hf.toBlockFrame)
  · obtain ⟨hph, -, hpending, -⟩ := hwarn hdir nofun hw
    refine ⟨hphase.trans hph, ?_⟩
    unfold Pending
    rw [hrc]
    exact hpending
  · rw [hphase]
    exact (hready (hready'.imp_right .inr)).imp_right And.left

end

/-- Settles O27, from the decision of the demand (O19) and what ENQUEUED leaves (O20). -/
theorem doorCommandsAnswered : Obligations.DoorCommandsAnswered := by
  unfold Obligations.DoorCommandsAnswered
  refine ⟨fun p door cls d s hd hp he hpassage hsettled htop => ⟨fun hop hposition => ?_, fun hop hmode hlatch hposition => ?_⟩, ?_⟩
  · have ho : (decideDemand (doorDemand s p .CLOSE cls d) (acceptFrame p s)).1 = .ENQUEUED :=
      decideDemand_enqueued (m := doorDemand s p .CLOSE cls d) (s := acceptFrame p s) hop.2.1 he hpassage hposition nofun nofun
    obtain ⟨henqueued, hwarn, hready⟩ := doorCommand_enqueued (kind := 3) hd hp hpassage hsettled htop hop.2.1 ho rfl
    exact ends_of (exec_doorClose hop door cls) ⟨henqueued, hwarn rfl, fun hw => hready (.inr hw)⟩
  · have ho : (decideDemand (doorDemand s p .OPEN cls d) (acceptFrame p s)).1 = .ENQUEUED :=
      decideDemand_enqueued (m := doorDemand s p .OPEN cls d) (s := acceptFrame p s) hop.2.1 he hpassage hposition
        (fun _ => hmode) fun _ => hlatch
    obtain ⟨henqueued, -, hready⟩ := doorCommand_enqueued (kind := 4) hd hp hpassage hsettled htop hop.2.1 ho rfl
    exact ends_of (exec_doorOpen hop hmode door cls) ⟨henqueued, hready (.inl rfl)⟩
  intro p door cls s u claimed answered
  refine ⟨fun hop => ⟨fun d hd hp => ?_, fun habsent => ?_⟩, fun hop hmode => ⟨fun d hd hp => ?_, fun habsent => ?_⟩⟩
  · have hexec := exec_doorClose hop door cls
    rw [doorCommand_present hd hp] at hexec
    exact answered_of hexec
  · rw [exec_doorClose hop door cls, doorCommand_absent habsent]
  · have hexec := exec_doorOpen hop hmode door cls
    rw [doorCommand_present hd hp] at hexec
    exact answered_of hexec
  · rw [exec_doorOpen hop hmode door cls, doorCommand_absent habsent]

end Sys2Proof.Proofs
end

section
/-! ## Numbers that no run holds

The looks of resumed runs bring no number back that no run and no entry holds, and they leave a WALKING run in its slot. -/
namespace Sys2Proof.Proofs
open Sys2Proof Sys2Proof.Machine

set_option Elab.async false

/-- Every number of a live run was one. -/
def NumbersFrom (s t : State) : Prop := ∀ x ∈ liveRuns t, ∃ y ∈ liveRuns s, y.number = x.number

section
variable {s t u : State} {i j : SlotIx} {n : Byte} {m : Demand} {r : Run} {d x : DoorIx}

theorem NumbersFrom.trans (h : NumbersFrom s t) (g : NumbersFrom t u) : NumbersFrom s u := fun x hx => by
  obtain ⟨y, hy, hyx⟩ := g x hx
  obtain ⟨z, hz, hzy⟩ := h y hy
  exact ⟨z, hz, hzy.trans hyx⟩

theorem NumbersFrom.of_gru (h : t.gru = s.gru) : NumbersFrom s t := fun x hx => ⟨x, by
  unfold liveRuns at *
  rwa [h] at hx, rfl⟩

theorem NumbersFrom.setSlot (hr : s.gru.slots[i] = some r) {y : Run} (hy : y.number = r.number) :
    NumbersFrom s (setSlot i (some y) s) := fun x hx => by
  obtain ⟨j, hj⟩ | hst := mem_liveRuns.mp hx
  · rw [slots_setSlot] at hj
    split at hj
    · cases hj
      exact ⟨r, liveRuns_of_slot hr, hy.symm⟩
    · exact ⟨x, liveRuns_of_slot hj, rfl⟩
  · exact ⟨x, liveRuns_of_stack hst, rfl⟩

theorem NumbersFrom.resumeTop (i : SlotIx) (l : List Run) (s : State) (hl : ∀ r ∈ l, r ∈ liveRuns u)
    (hs : ∀ j : SlotIx, ∀ r, s.gru.slots[j] = some r → r ∈ liveRuns u) : NumbersFrom u (resumeTop i l s) := by
  induction l generalizing s with
  | nil =>
    intro x hx
    obtain ⟨j, hj⟩ | hst := mem_liveRuns.mp hx
    · exact ⟨x, hs j x hj, rfl⟩
    · cases hst
  | cons r rest ih =>
    unfold Machine.resumeTop
    split
    · exact ih _ (fun y hy => hl y (List.mem_cons_of_mem r hy)) fun j y hy => hs j y (by rwa [(PlaceFrame.sendReport ..).gru] at hy)
    · have hkey : NumbersFrom u (setSlotting (s.gru.slotting ++ [i]) (Machine.setSlot i (some { r with slot := i }) (setStack rest s))) := by
        intro x hx
        obtain ⟨j, hj⟩ | hst := mem_liveRuns.mp hx
        · rw [show (setSlotting (s.gru.slotting ++ [i]) (Machine.setSlot i (some { r with slot := i }) (setStack rest s))).gru.slots[j]
            = (Machine.setSlot i (some { r with slot := i }) (setStack rest s)).gru.slots[j] from rfl, slots_setSlot] at hj
          split at hj
          · cases hj
            exact ⟨r, hl r List.mem_cons_self, rfl⟩
          · exact ⟨x, hs j x hj, rfl⟩
        · exact ⟨x, hl x (List.mem_cons_of_mem r hst), rfl⟩
      simp only
      split
      · exact hkey
      · exact hkey

theorem NumbersFrom.vacate (i : SlotIx) (s : State) : NumbersFrom s (vacate i s) := by
  have hslots (j : SlotIx) (r : Run) (hr : (setSlotting (s.gru.slotting.filter fun k => decide (k ≠ i)) (Machine.setSlot i none s)).gru.slots[j]
      = some r) : r ∈ liveRuns s := by
    rw [show (setSlotting (s.gru.slotting.filter fun k => decide (k ≠ i)) (Machine.setSlot i none s)).gru.slots[j]
      = (Machine.setSlot i none s).gru.slots[j] from rfl, slots_setSlot] at hr
    split at hr
    · cases hr
    · exact liveRuns_of_slot hr
  unfold Machine.vacate
  simp only
  split
  · intro x hx
    obtain ⟨j, hj⟩ | hst := mem_liveRuns.mp hx
    · exact ⟨x, hslots j x hj, rfl⟩
    · exact ⟨x, liveRuns_of_stack hst, rfl⟩
  · exact .resumeTop i _ _ (fun r hr => liveRuns_of_stack hr) hslots

theorem NumbersFrom.completeSlot (i : SlotIx) (s : State) : NumbersFrom s (completeSlot i s) := by
  unfold Machine.completeSlot
  split
  · split
    · exact (NumbersFrom.of_gru (PlaceFrame.sendReport ..).gru).trans (.vacate i _)
    · exact .of_gru rfl
  · exact .of_gru rfl

/-- A report brings no number that no run holds. -/
theorem reporting_numbers : Reporting NumbersFrom where
  trans := .trans
  quiet := .of_gru
  count n f s hf := fun x hx => by
    rw [modRun_liveRuns] at hx
    obtain ⟨y, hy, rfl⟩ := List.mem_map.mp hx
    refine ⟨y, hy, ?_⟩
    split
    · exact (number_of_standing (hf y)).symm
    · rfl
  complete n s := by
    unfold Machine.completeRun completeStacked
    split
    · exact .completeSlot _ s
    · split
      · next r _ =>
        intro x hx
        obtain ⟨j, hj⟩ | hst := mem_liveRuns.mp hx
        · refine ⟨x, liveRuns_of_slot (i := j) ?_, rfl⟩
          have hgru := (PlaceFrame.sendReport .COMPLETE r s).gru
          rw [← hgru]
          exact hj
        · exact ⟨x, liveRuns_of_stack (List.mem_of_mem_filter hst), rfl⟩
      · exact .of_gru rfl

/-- Every tag that a demand leaves stood before or is its own. -/
theorem tagOf_decideDemand (h : tagOf (decideDemand m s).2 x = some n) : tagOf s x = some n ∨ numberOf m.tag = some n := by
  have own (v : State) (hv : tagOf v x = if m.door = x then numberOf m.tag else tagOf s x) (hn : tagOf v x = some n) :
      tagOf s x = some n ∨ numberOf m.tag = some n := by
    rw [hv] at hn
    split at hn
    · exact .inr hn
    · exact .inl hn
  revert h
  unfold Machine.decideDemand
  split
  · exact .inl
  split
  · exact .inl
  split
  · exact .inl
  unfold decideClaims
  split
  · next e he =>
    split
    · exact fun h => .inl (by rwa [tagOf_merge he] at h)
    split
    · split
      · exact own _ (tagOf_reverse m e s x)
      · exact own _ (tagOf_replace m e s x)
    · exact .inl
  · split
    · have hbeaten : tagOf (endBeaten m s) = tagOf s := tagOf_of_cs (Ending.endBeaten m s).cs
      unfold settleDemand
      split
      · exact fun h => .inl (by rwa [hbeaten] at h)
      · exact own _ (by rw [tagOf_enqueue, hbeaten])
    · exact .inl

/-- Neither a run nor an entry holds the number. -/
structure Unheld (n : Byte) (s : State) : Prop where
  runs : ∀ x ∈ liveRuns s, x.number ≠ n
  tags : ∀ d : DoorIx, tagOf s d ≠ some n

theorem Unheld.from (h : Unheld n s) (hruns : NumbersFrom s t) (htags : ∀ d, tagOf t d = some n → tagOf s d = some n) : Unheld n t :=
  ⟨fun x hx hn => by
    obtain ⟨y, hy, hyx⟩ := hruns x hx
    exact h.runs y hy (hyx.trans hn), fun d hd => h.tags d (htags d hd)⟩

theorem Unheld.same (h : Unheld n s) (hgru : t.gru = s.gru) (hcs : t.cs = s.cs) : Unheld n t :=
  h.from (.of_gru hgru) fun d hd => by rwa [tagOf_of_cs hcs] at hd

theorem NumbersFrom.advance (i : SlotIx) (s : State) : NumbersFrom s (advance i s) := by
  unfold Machine.advance
  split
  · next r hr =>
    refine NumbersFrom.trans (t := Machine.setSlot i (some { r with
      cursor := r.cursor + 1
      state := if r.cursor + 1 < listLength s r then RunState.WALKING else RunState.TRACKING }) s) (.setSlot hr rfl) (.completeSlot i _)
  · exact .of_gru rfl

theorem standing_takeOutcome (o : DemandOutcome) (r : Run) : standing (r.takeOutcome o) = standing r := by
  cases o <;> rfl

theorem Unheld.submitAt (h : Unheld n s) (i : SlotIx) : Unheld n (submitAt i s) := by
  have advanced {v : State} (hv : Unheld n v) : Unheld n (Machine.advance i v) :=
    hv.from (.advance i v) fun d hd => by rwa [tagOf_of_cs (advance_cs i v)] at hd
  unfold Machine.submitAt
  split
  · next r hr =>
    split
    · next d _ =>
      have hdecided : Unheld n (Machine.decideDemand (r.demand d) s).2 := by
        refine h.from (reporting_numbers.decideDemand (r.demand d) s) fun y hy => ?_
        rcases tagOf_decideDemand hy with hold | hown
        · exact hold
        · exact absurd (Option.some.inj hown) (h.runs r (liveRuns_of_slot hr))
      refine advanced (hdecided.from (reporting_numbers.count _ _ _ fun x => standing_takeOutcome _ x) fun _ hd => hd)
    · exact advanced h
  · exact h

theorem Unheld.bypassAt (h : Unheld n s) (i : SlotIx) : Unheld n (bypassAt i s) := by
  unfold Machine.bypassAt
  split
  · next r _ =>
    refine Unheld.submitAt (h.same (raiseBypass_gru r s) ?_) i
    unfold raiseBypass
    split
    · exact (AlarmFrame.raiseEvent ..).cs
    · rfl
  · exact h

theorem Unheld.takeListEntry (h : Unheld n s) (i : SlotIx) (age : Nat) : Unheld n (takeListEntry i age s) := by
  unfold Machine.takeListEntry
  split
  · next r hr =>
    split
    · split
      · exact h.submitAt i
      · exact h.bypassAt i
      · unfold setStage
        split
        · next y hy => exact h.from (.setSlot hy rfl) fun _ hd => hd
        · exact h
    · exact h.submitAt i
  · exact h

theorem Unheld.settleOne (h : Unheld n s) : Unheld n (settleOne s) := by
  unfold Machine.settleOne
  split
  · next i rest _ =>
    have hpop : Unheld n (setResumed rest s) := h.from (fun x hx => ⟨x, hx, rfl⟩) fun _ hd => hd
    simp only
    split
    · unfold lookAgain
      split
      · exact hpop.takeListEntry ..
      · exact hpop
    · exact hpop
  · exact h

theorem Unheld.settleRuns (h : Unheld n s) : Unheld n (settleRuns s) := by
  unfold Machine.settleRuns
  generalize List.range _ = l
  induction l generalizing s with
  | nil => exact h
  | cons _ rest ih => exact ih h.settleOne

/-! ### A WALKING run while others look -/

/-- The slot holds the run, WALKING, but for its counts. -/
def Walks (i : SlotIx) (r : Run) (s : State) : Prop := ∃ y, s.gru.slots[i] = some y ∧ standing y = standing r ∧ y.state = .WALKING

theorem Walks.stays (h : Walks i r s) (hst : Stays i s t) : Walks i r t := by
  obtain ⟨y, hy, hyr, hw⟩ := h
  obtain ⟨z, hz, hzy⟩ := hst y hy (by rw [hw]; decide)
  exact ⟨z, hz, hzy.trans hyr, (state_of_standing hzy).trans hw⟩

theorem Stays.takeListEntry (h : j ≠ i) (age : Nat) (s : State) : Stays j s (takeListEntry i age s) := by
  unfold Machine.takeListEntry
  split
  · split
    · split
      · exact .submitAt h s
      · exact .bypassAt h s
      · refine .of_eq ?_
        unfold setStage
        split
        · rw [slots_setSlot, if_neg (Ne.symm h)]
        · rfl
    · exact .submitAt h s
  · exact .of_eq rfl

theorem Walks.settleOne (h : Walks j r s) : Walks j r (settleOne s) := by
  unfold Machine.settleOne
  split
  · next i rest _ =>
    have hpop : Walks j r (setResumed rest s) := h
    simp only
    split
    · next hwait =>
      by_cases hij : j = i
      · subst hij
        obtain ⟨y, hy, -, hw⟩ := hpop
        unfold slotIn at hwait
        rw [show (setResumed rest s).gru.slots[j] = some y from hy] at hwait
        have hwait : y.state = .WAITING := of_decide_eq_true hwait
        rw [hw] at hwait
        cases hwait
      · unfold lookAgain
        split
        · next y _ => exact hpop.stays (Stays.takeListEntry hij y.waitAge _)
        · exact hpop
    · exact hpop
  · exact h

theorem Walks.settleOnes (h : Walks j r s) (l : List Nat) : Walks j r (forEach l (fun _ => Machine.settleOne) s) := by
  induction l generalizing s with
  | nil => exact h
  | cons _ rest ih => exact ih h.settleOne

end

end Sys2Proof.Proofs
end

section
/-! ## What a cancel does to the schedule, and that its report is sent (R48, R97, R100) -/
namespace Sys2Proof.Proofs
open Sys2Proof Sys2Proof.Machine

set_option Elab.async false

section
variable {s t u : State} {i j : SlotIx} {n : Byte} {m : Demand} {r : Run} {d x : DoorIx} {e : Entry} {f : Frame} {q : List Frame}

/-! ### A report is placed where few frames of its kind wait -/

/-- The frame is neither a summary nor a notice: it never gives way. -/
def stands (f : Frame) : Bool := !f.isSummary && !f.isNotice

theorem countP_eraseP_stands {P : Frame → Bool} (hP : ∀ g, P g = true → stands g = false) (q : List Frame) :
    (q.eraseP P).countP stands = q.countP stands := by
  induction q with
  | nil => rfl
  | cons g rest ih =>
    by_cases hg : P g = true
    · rw [List.eraseP_cons_of_pos hg, List.countP_cons_of_neg (by rw [hP g hg]; exact Bool.false_ne_true)]
    · rw [List.eraseP_cons_of_neg hg, List.countP_cons, List.countP_cons, ih]

theorem stands_of_summary (g : Frame) (h : g.isSummary = true) : stands g = false := by unfold stands; rw [h]; rfl
theorem stands_of_notice (g : Frame) (h : g.isNotice = true) : stands g = false := by unfold stands; rw [h]; exact Bool.and_false _

/-- A frame placed that may give way leaves the count of the frames that never do. -/
theorem countP_placedIn (hstands : stands f = false) (q : List Frame) : (placedIn f q).countP stands = q.countP stands := by
  have happend (l : List Frame) : (l ++ [f]).countP stands = l.countP stands := by
    rw [List.countP_append, List.countP_singleton, hstands]
    rfl
  unfold placedIn placing
  split
  · next heq =>
    split at heq
    · injection heq with heq; subst heq; exact happend q
    split at heq
    · cases heq
    split at heq
    · injection heq with heq; subst heq; rw [happend, countP_eraseP_stands stands_of_notice]
    · cases heq
  · next heq =>
    split at heq
    · cases heq
    split at heq
    · injection heq with heq; subst heq; rw [happend, countP_eraseP_stands stands_of_summary]
    split at heq <;> cases heq
  · rfl

theorem countP_placedIn_notice (hf : IsNotice f) (q : List Frame) : (placedIn f q).countP stands = q.countP stands :=
  countP_placedIn (stands_of_notice f (by simp [Frame.isNotice, hf])) q

/-- A frame finds its place where not all the frames that wait stand. -/
theorem mem_placedIn_self (h : q.countP stands < queueSize) : f ∈ placedIn f q := by
  have hlast (l : List Frame) : f ∈ l ++ [f] := List.mem_append_right _ (List.mem_singleton_self f)
  unfold placedIn placing
  split
  · next heq =>
    split at heq
    · injection heq with heq; subst heq; exact hlast q
    split at heq
    · cases heq
    split at heq
    · injection heq with heq; subst heq; exact hlast _
    · cases heq
  · next heq =>
    split at heq
    · cases heq
    split at heq
    · injection heq with heq; subst heq; exact hlast _
    split at heq <;> cases heq
  · next heq =>
    split at heq
    · cases heq
    next hfull =>
    split at heq
    · cases heq
    next hsum =>
    split at heq
    · cases heq
    next hnot =>
    have hall : q.countP stands = q.length := List.countP_eq_length.mpr fun g hg => by
      have hs : g.isSummary = false := Bool.eq_false_iff.mpr fun h => hsum (List.any_eq_true.mpr ⟨g, hg, h⟩)
      have hn : g.isNotice = false := Bool.eq_false_iff.mpr fun h => hnot (List.any_eq_true.mpr ⟨g, hg, h⟩)
      unfold stands
      rw [hs, hn]
      rfl
    omega

theorem Joined.countP_stands {l : List Frame} (h : Joined IsNotice q l) : l.countP stands = q.countP stands := by
  induction h with
  | refl => rfl
  | tail _ hf ih => exact (countP_placedIn_notice hf _).trans ih

/-- R97: after notices alone a RUN_REPORT is placed at each port of its destination that had room. -/
theorem reportSent_of_joined {k : EndMark} (htables : u.tables = s.tables) (hjoined : QueuesJoined IsNotice s u) :
    ReportSent s (sendReport k r u) k r := by
  intro q hq hroom
  have hmem : q ∈ reportPorts u r := by
    have hrole : u.roleAt q = s.roleAt q := by unfold State.roleAt State.row; rw [htables]
    unfold reportPorts
    rcases hq with hq | ⟨ho, hrole'⟩
    · rw [hq]; exact List.mem_singleton_self q
    · rw [← hrole] at hrole'
      have hports : q ∈ allPorts.filter fun p => decide (u.roleAt p = .BRIDGE) || decide (u.roleAt p = .SAFETY) :=
        List.mem_filter.mpr ⟨List.mem_finRange q, by simpa using hrole'⟩
      rcases List.mem_pair.mp ho with ho | ho <;> rw [ho] <;> exact hports
  show _ ∈ (forEach (reportPorts u r) (fun p => place p (runReport k r)) u).sp[q].queue
  rw [queue_placeEach _ (nodup_reportPorts ..), if_pos hmem]
  refine mem_placedIn_self ?_
  rw [(hjoined.port q).countP_stands]
  have := List.countP_le_length (p := stands) (l := s.sp[q].queue)
  unfold queueSize
  omega

theorem reportSent_lasting {k : EndMark} (h : ReportSent s t k r) (hlast : Lasting t u) : ReportSent s u k r := fun q hq hroom =>
  hlast.stays q _ ⟨rfl, rfl⟩ (h q hq hroom)

theorem Borne.takeOut_cancel {R : State → State → Prop} (c : Borne R) (d : DoorIx) (s : State) : R s (takeOut .CANCEL d s) := by
  unfold Machine.takeOut
  split
  · next e _ =>
    have flow : R s (if e.phase = .MOVING then
        s.modFlow (s.hpuOf d) fun f => { f with committed := f.committed - s.draw d } else s) :=
      c.ite (c.quiet rfl rfl rfl rfl) (c.refl s)
    refine c.trans (c.trans flow ?_) (c.recloseGone ..)
    exact c.trans (c.quiet (t := State.dropEntry _ d) rfl rfl rfl rfl) (c.queueOrder? ..)
  · exact c.refl s

/-- A cancel of a tag reports no run: its frames are notices. -/
theorem Borne.cancelTag {R : State → State → Prop} (c : Borne R) (n : Byte) (s : State) : R s (cancelTag n s) := by
  refine c.trans (c.request (fun d s => ?_) _ s) (c.tests ..)
  unfold cancelOne
  split
  · exact c.ite (c.dropTag ..) (c.takeOut_cancel ..)
  · exact c.refl s

/-! ### The entries of a cancelled tag (R48) -/

/-- R48: what a cancel leaves of an entry with the tag. -/
def cancelledEntry (e : Entry) : Option Entry := if e.phase = .MOVING then some { e with tag := none } else none

/-- What a cancel of the entries of the doors of a list leaves. -/
structure CancelledEach (l : List DoorIx) (s t : State) : Prop where
  entries : ∀ x : DoorIx, t.entry x = if x ∈ l then (s.entry x).bind cancelledEntry else s.entry x
  ordered : ∀ x ∈ l, ∀ e ∈ s.entry x, e.phase = .WARNING → Pending t x .STOP
  otherOrders : ∀ o : PendingOrder, o.door ∉ l → (o ∈ t.rc.orders ↔ o ∈ s.rc.orders)

theorem cancelled_one (d : DoorIx) (s : State) : CancelledEach [d] s (cancelOne d s) := by
  unfold cancelOne
  split
  · next e he =>
    split
    · next hph =>
      have hdrop : dropTag d s = s.setEntry d { e with tag := none } := by unfold dropTag; rw [he]
      rw [hdrop]
      refine ⟨fun x => ?_, fun x hx e' he' hw => ?_, fun _ _ => Iff.rfl⟩
      · rw [entry_setEntry]
        by_cases hx : d = x
        · subst hx
          simp [he, cancelledEntry, hph]
        · simp [hx, Ne.symm hx]
      · rw [List.mem_singleton.mp hx, he] at he'
        cases he'
        rw [hph] at hw
        cases hw
    · next hph =>
      have h := takenOut he .CANCEL
      refine ⟨fun x => ?_, fun x hx e' he' hw => ?_, fun o ho => h.otherOrders o fun hd => ho (List.mem_singleton.mpr hd)⟩
      · rw [entry_schedWithout d x h.cs]
        by_cases hx : d = x
        · subst hx
          simp [he, cancelledEntry, hph]
        · simp [hx, Ne.symm hx]
      · rw [List.mem_singleton.mp hx] at he' ⊢
        rw [he] at he'
        cases he'
        refine h.ordered .STOP ?_
        unfold RemovalCause.order
        rw [if_pos hw]
  · next he =>
    refine ⟨fun x => ?_, fun x hx e' he' => ?_, fun _ _ => Iff.rfl⟩
    · split
      · next hx => rw [List.mem_singleton.mp hx, he]; rfl
      · rfl
    · rw [List.mem_singleton.mp hx, he] at he'
      cases he'

theorem cancelledEach {l : List DoorIx} (hl : l.Nodup) (s : State) : CancelledEach l s (forEach l cancelOne s) := by
  induction l generalizing s with
  | nil => exact ⟨fun _ => rfl, nofun, fun _ _ => Iff.rfl⟩
  | cons d rest ih =>
    obtain ⟨hd, hrest⟩ := List.nodup_cons.mp hl
    have h := cancelled_one d s
    have g := ih hrest (cancelOne d s)
    show CancelledEach (d :: rest) s (forEach rest cancelOne (cancelOne d s))
    generalize forEach rest cancelOne (cancelOne d s) = v at *
    generalize cancelOne d s = w at *
    refine ⟨fun x => ?_, fun x hx e he hw => ?_, fun o ho => ?_⟩
    · rw [g.entries, h.entries]
      by_cases hx : x = d
      · subst hx
        simp [hd]
      · simp [hx]
    · rcases List.mem_cons.mp hx with hx | hx
      · subst hx
        exact (g.otherOrders ⟨x, .STOP⟩ hd).mpr (h.ordered x (List.mem_singleton_self x) e he hw)
      · refine g.ordered x hx e ?_ hw
        rw [h.entries, if_neg fun hxd => by rw [List.mem_singleton.mp hxd] at hx; exact hd hx]
        exact he
    · rw [List.mem_cons, not_or] at ho
      exact (g.otherOrders o ho.2).trans (h.otherOrders o fun hod => ho.1 (List.mem_singleton.mp hod))

/-- R48: what the cancel of a tag leaves of the schedule. -/
structure TagCancelled (n : Byte) (s t : State) : Prop extends RunFrame s t where
  gru : t.gru = s.gru
  ms : t.ms = s.ms
  claims : ∀ d : DoorIx, claimOf t d = (s.entry d).bind fun e =>
    if tagged n d e then (if e.phase = .MOVING then some { e with tag := none }.claim else none) else some e.claim
  stopped : ∀ d : DoorIx, ∀ e ∈ s.entry d, tagged n d e = true → e.phase = .WARNING → Pending t d .STOP

theorem tagCancelled (n : Byte) (s : State) : TagCancelled n s (cancelTag n s) := by
  have hpass : Passing (forEach (matching s (tagged n)) cancelOne s) (cancelTag n s) := (Passing.passes ..).trans (.tests ..)
  have h := cancelledEach (nodup_matching s (tagged n)) s
  refine ⟨.cancelTag n s, cancelTag_gru n s, (carried_ms.cancelTag n s), fun d => ?_, fun d e he ht hw => ?_⟩
  · rw [hpass.claims, claimOf, h.entries]
    cases he : s.entry d with
    | none => simp
    | some e =>
      by_cases ht : tagged n d e = true
      · rw [if_pos (mem_matching.mpr ⟨e, he, ht⟩)]
        simp only [Option.bind_some, ht, if_true, cancelledEntry]
        split <;> rfl
      · rw [if_neg fun hm => by
          obtain ⟨y, hy, hyt⟩ := mem_matching.mp hm
          rw [he] at hy
          cases hy
          exact ht hyt]
        simp [ht]
  · have hmem : d ∈ matching s (tagged n) := mem_matching.mpr ⟨e, he, ht⟩
    refine (hpass.otherOrders ⟨d, .STOP⟩ ?_).mpr (h.ordered d hmem e he hw)
    unfold phaseOf
    rw [h.entries, if_pos hmem, show s.entry d = some e from he]
    simp [cancelledEntry, hw]

end

end Sys2Proof.Proofs
end

section
/-! ## RUN_CANCEL (O29) -/
namespace Sys2Proof.Proofs
open Sys2Proof Sys2Proof.Machine

set_option Elab.async false

section
variable {s t u : State} {i j : SlotIx} {n : Byte} {r x y : Run} {d : DoorIx} {p : PortIx}

/-! ### The slot of a number -/

theorem numberedIn_iff (hd : DistinctNumbers s) (hr : s.gru.slots[i] = some r) : NumberedIn s j r.number ↔ j = i := by
  constructor
  · intro hj
    obtain ⟨y, hy, hn⟩ := Option.map_eq_some_iff.mp hj
    have h := slotNumbered_eq hd hy
    rw [hn, slotNumbered_eq hd hr] at h
    exact (Option.some.inj h).symm
  · rintro rfl
    unfold NumberedIn
    rw [hr]
    rfl

theorem not_numberedIn (hd : DistinctNumbers s) (hr : r ∈ s.gru.stack) : ¬NumberedIn s j r.number := fun hj => by
  obtain ⟨y, hy, hn⟩ := Option.map_eq_some_iff.mp hj
  have hnodup : ((allSlots.filterMap fun i => s.gru.slots[i]) ++ s.gru.stack).map Run.number |>.Nodup := hd
  rw [List.map_append] at hnodup
  refine (List.nodup_append.mp hnodup).2.2 _ (List.mem_map_of_mem (List.mem_filterMap.mpr ⟨j, List.mem_finRange j, hy⟩)) _
    (List.mem_map_of_mem hr) hn

theorem filter_stationSlots (i : SlotIx) : stationSlots.filter (fun j => decide (j = i)) = if i = slotS then [] else [i] := by
  revert i
  decide

/-! ### The look of a run that resumed -/

theorem evalPrecondition_notMet {q : DoorIx} {dir : Direction} (h1 : s.position q ≠ dir.target) (h2 : s.position q ≠ .UNKNOWN)
    (h3 : s.latch q = .NONE) : evalPrecondition s dir q = .NOT_MET := by
  unfold evalPrecondition
  rw [if_neg h1, if_neg (by rintro (h | h); exacts [h2 h, h h3])]

/-- R98: a run that resumed WAITING and still waits stands as it was stacked. -/
theorem settleRuns_waits (hr : s.gru.slots[i] = some r) (hres : s.gru.resumed = [i]) (hstate : r.state = .WAITING)
    (hwait : ∃ e ∈ listEntry s r, PreWaits s r e) : settleRuns s = setResumed [] s := by
  obtain ⟨e, he, q, hq, h1, h2, h3⟩ := hwait
  have hslot : slotIn (setResumed [] s) i .WAITING = true := by
    unfold slotIn
    rw [show (setResumed [] s).gru.slots[i] = some r from hr]
    exact decide_eq_true hstate
  have hpre : preconditionOf (setResumed [] s) r = some q := by
    unfold preconditionOf
    rw [show listEntry (setResumed [] s) r = some e from he]
    exact ix?_val hq
  have hstage : setStage i .WAITING r.waitAge (setResumed [] s) = setResumed [] s := by
    unfold setStage
    rw [show (setResumed [] s).gru.slots[i] = some r from hr]
    have hsame : ({ r with state := .WAITING, waitAge := r.waitAge } : Run) = r := by rw [← hstate]
    have hput : put s.gru.slots i (some r) = s.gru.slots := Vector.ext fun k hk => by
      rw [getElem_put]
      split
      · next hik => subst hik; exact hr.symm
      · rfl
    simp only [hsame, setSlot, setResumed, hput]
  have hone : settleOne s = setResumed [] s := by
    unfold settleOne
    rw [hres]
    simp only
    rw [if_pos hslot]
    unfold lookAgain
    rw [show (setResumed [] s).gru.slots[i] = some r from hr]
    unfold takeListEntry
    rw [show (setResumed [] s).gru.slots[i] = some r from hr]
    simp only
    rw [hpre]
    simp only
    rw [evalPrecondition_notMet (s := setResumed [] s) h1 h2 h3]
    exact hstage
  have hrest (l : List Nat) : forEach l (fun _ => settleOne) (setResumed [] s) = setResumed [] s := by
    induction l with
    | nil => rfl
    | cons _ rest ih =>
      show forEach rest _ (settleOne (setResumed [] s)) = _
      rw [settleOne_of_none (s := setResumed [] s) rfl]
      exact ih
  unfold settleRuns
  rw [hres, List.length_singleton, Nat.add_comm 1, List.range_succ_eq_map]
  show forEach _ _ (settleOne s) = _
  rw [hone]
  exact hrest _

/-- R93: after its demand a run that has entries left walks on at the next one. -/
theorem walks_submitAt (hr : s.gru.slots[i] = some r) (hstate : r.state ≠ .TRACKING) (hcur : r.cursor + 1 < listLength s r) :
    Walks i { r with cursor := r.cursor + 1, state := .WALKING } (submitAt i s) := by
  have advanced {v : State} {y : Run} (hy : v.gru.slots[i] = some y) (hyr : standing y = standing r) (htables : v.tables = s.tables) :
      Walks i { r with cursor := r.cursor + 1, state := .WALKING } (advance i v) := by
    have hcursor : y.cursor = r.cursor := show (standing y).cursor = (standing r).cursor by rw [hyr]
    have hgroup : y.group = r.group := show (standing y).group = (standing r).group by rw [hyr]
    have hlen : listLength v y = listLength s r := by unfold listLength; rw [hgroup, htables]
    unfold advance
    rw [hy]
    simp only
    rw [hcursor, hlen, if_pos hcur, completeSlot_eq_self fun z hz => by
      rw [slots_setSlot, if_pos rfl] at hz
      cases hz
      rfl]
    refine ⟨_, (slots_setSlot _).trans (if_pos rfl), ?_, rfl⟩
    cases y
    cases r
    simp only [standing, Run.mk.injEq] at hyr ⊢
    simp_all
  unfold submitAt
  rw [hr]
  simp only
  split
  · next d _ =>
    have hstays := (reporting_stays i).decideDemand (r.demand d) s
    obtain ⟨y, hy, hyr⟩ := hstays r hr hstate
    have hcounted := (reporting_stays i).count r.number (Run.takeOutcome (decideDemand (r.demand d) s).1)
      (decideDemand (r.demand d) s).2 fun z => standing_takeOutcome _ z
    obtain ⟨z, hz, hzy⟩ := hcounted y hy (by rw [state_of_standing hyr]; exact hstate)
    exact advanced hz (hzy.trans hyr) (RunFrame.decideDemand ..).tables
  · exact advanced hr rfl rfl

/-- R98: a run that resumed WAITING with its precondition met or bypassed walks on. -/
theorem walks_settleRuns (hr : s.gru.slots[i] = some r) (hres : s.gru.resumed = [i]) (hstate : r.state = .WAITING)
    (hwait : ¬∃ e ∈ listEntry s r, PreWaits s r e) (hcur : r.cursor + 1 < listLength s r) :
    Walks i { r with cursor := r.cursor + 1, state := .WALKING } (settleRuns s) := by
  have hslot : slotIn (setResumed [] s) i .WAITING = true := by
    unfold slotIn
    rw [show (setResumed [] s).gru.slots[i] = some r from hr]
    exact decide_eq_true hstate
  have hne : r.state ≠ .TRACKING := by rw [hstate]; decide
  have hsubmit (v : State) (hgru : v.gru = (setResumed [] s).gru) (htables : v.tables = s.tables) :
      Walks i { r with cursor := r.cursor + 1, state := .WALKING } (submitAt i v) := by
    refine walks_submitAt (by rw [hgru]; exact hr) hne ?_
    unfold listLength at *
    rwa [htables]
  have hone : Walks i { r with cursor := r.cursor + 1, state := .WALKING } (settleOne s) := by
    unfold settleOne
    rw [hres]
    simp only
    rw [if_pos hslot]
    unfold lookAgain
    rw [show (setResumed [] s).gru.slots[i] = some r from hr]
    simp only
    unfold takeListEntry
    rw [show (setResumed [] s).gru.slots[i] = some r from hr]
    simp only
    split
    · next q hq =>
      split
      · exact hsubmit _ rfl rfl
      · unfold bypassAt
        rw [show (setResumed [] s).gru.slots[i] = some r from hr]
        refine hsubmit _ (raiseBypass_gru ..) ?_
        unfold raiseBypass
        split
        · exact (AlarmFrame.raiseEvent ..).tables
        · rfl
      · next heval =>
        exfalso
        unfold preconditionOf at hq
        split at hq
        · next e he =>
          refine hwait ⟨e, he, q, (ix?_eq_some.mp hq).symm, ?_⟩
          unfold evalPrecondition at heval
          split at heval
          · cases heval
          next hpos =>
          split at heval
          · cases heval
          next hun =>
          rw [not_or, not_not] at hun
          exact ⟨hpos, hun.1, hun.2⟩
        · cases hq
    · exact hsubmit _ rfl rfl
  unfold settleRuns
  rw [hres, List.length_singleton, Nat.add_comm 1, List.range_succ_eq_map]
  exact hone.settleOnes _

end

end Sys2Proof.Proofs
end

section
/-! ## RUN_CANCEL: what it leaves (O29) -/
namespace Sys2Proof.Proofs
open Sys2Proof Sys2Proof.Machine

set_option Elab.async false

section
variable {s t u : State} {i j : SlotIx} {n : Byte} {r x y : Run} {d : DoorIx} {p : PortIx}

/-- The station slot in which a number stands (none for slot S and for a stacked context). -/
abbrev slotsFreed (s : State) (n : Byte) : List SlotIx := stationSlots.filter fun i => decide (NumberedIn s i n)

/-- What a cancel leaves of GRU before the looks of the run that resumes. -/
structure RunGone (n : Byte) (s t : State) : Prop where
  slots : ∀ i : SlotIx, t.gru.slots[i] = if i ∈ slotsFreed s n then s.gru.stack.head?.map fun x => { x with slot := i }
    else if NumberedIn s i n then none else s.gru.slots[i]
  stack : t.gru.stack = if slotsFreed s n = [] then s.gru.stack.filter fun x => decide (x.number ≠ n) else s.gru.stack.tail
  slotting : t.gru.slotting = (s.gru.slotting.filter fun i => decide (¬NumberedIn s i n))
    ++ if s.gru.stack = [] then [] else slotsFreed s n
  counter : t.gru.counter = s.gru.counter
  resumed : t.gru.resumed = if ∃ x ∈ s.gru.stack.head?, x.state = .WAITING then slotsFreed s n else []

theorem slotsFreed_of_slot (hd : DistinctNumbers s) (hr : s.gru.slots[i] = some r) :
    slotsFreed s r.number = if i = slotS then [] else [i] := by
  have hiff : ∀ j, decide (NumberedIn s j r.number) = decide (j = i) := fun j => decide_eq_decide.mpr (numberedIn_iff hd hr)
  unfold slotsFreed
  simp only [hiff]
  exact filter_stationSlots i

theorem slotsFreed_of_stack (hd : DistinctNumbers s) (hr : r ∈ s.gru.stack) : slotsFreed s r.number = [] := by
  have hno : ∀ j, decide (NumberedIn s j r.number) = false := fun j => decide_eq_false (not_numberedIn hd hr)
  exact List.filter_eq_nil_iff.mpr fun j _ => by rw [hno]; exact Bool.false_ne_true

theorem filter_numbers_of_slot (hd : DistinctNumbers s) (hr : s.gru.slots[i] = some r) :
    (s.gru.stack.filter fun x => decide (x.number ≠ r.number)) = s.gru.stack := by
  refine List.filter_eq_self.mpr fun x hx => decide_eq_true fun hn => ?_
  exact (distinctNumbers_iff.mp hd).2.2 i r hr x hx hn.symm

/-- R98, R100: the slot of a run that is given up is taken by the top of the stack, where it is a station slot. -/
theorem runGone_vacate (hd : DistinctNumbers s) (hr : s.gru.slots[i] = some r) (hgru : u.gru = s.gru) (hsettled : SettledLaw s) :
    RunGone r.number s (vacate i u) := by
  have hfreed := slotsFreed_of_slot hd hr
  have hslotting : (s.gru.slotting.filter fun k => decide (k ≠ i)) = s.gru.slotting.filter fun j => decide (¬NumberedIn s j r.number) :=
    List.filter_congr fun j _ => decide_eq_decide.mpr (not_congr (numberedIn_iff hd hr)).symm
  have hnumbered (j : SlotIx) := numberedIn_iff (j := j) hd hr
  by_cases hi : i = slotS
  · have hv := vacate_gru (s := u) (.inl hi)
    rw [if_pos hi] at hfreed
    rw [hgru] at hv
    refine ⟨fun j => ?_, ?_, ?_, by rw [hv], ?_⟩
    · rw [hv, hfreed]
      simp only [List.not_mem_nil, if_false, hnumbered, Fin.getElem_fin, getElem_put, Fin.val_inj, eq_comm]
    · rw [hv, hfreed, if_pos rfl, filter_numbers_of_slot hd hr]
    · rw [hv, hfreed, ite_self, List.append_nil]
      exact hslotting
    · rw [hv, hfreed, ite_self]
      exact hsettled.2
  · rw [if_neg hi] at hfreed
    cases hstack : s.gru.stack with
    | nil =>
      have hv := vacate_gru (s := u) (i := i) (.inr (by rw [hgru]; exact hstack))
      rw [hgru] at hv
      refine ⟨fun j => ?_, ?_, ?_, by rw [hv], ?_⟩
      · rw [hv, hfreed, hstack]
        simp only [List.mem_singleton, List.head?_nil, Option.map_none, hnumbered, Fin.getElem_fin, getElem_put, Fin.val_inj]
        by_cases hj : j = i
        · simp [hj]
        · simp [hj, Ne.symm hj]
      · rw [hv, hfreed, hstack]
        rfl
      · rw [hv, hstack, if_pos rfl, List.append_nil]
        exact hslotting
      · rw [hv, hstack]
        simpa using hsettled.2
    | cons top rest =>
      have hdone : top.done = false := hsettled.1 top (liveRuns_of_stack (by rw [hstack]; exact List.mem_cons_self))
      have hv := vacate_gru_resumes (s := u) hi (by rw [hgru]; exact hstack) hdone
      rw [hgru] at hv
      refine ⟨fun j => ?_, ?_, ?_, by rw [hv], ?_⟩
      · rw [hv, hfreed, hstack]
        simp only [List.mem_singleton, List.head?_cons, Option.map_some, hnumbered, Fin.getElem_fin, getElem_put, Fin.val_inj]
        by_cases hj : j = i
        · simp [hj]
        · simp [hj, Ne.symm hj]
      · rw [hv, hfreed, hstack]
        rfl
      · rw [hv, hfreed, hslotting, if_neg (show ¬s.gru.stack = [] by rw [hstack]; nofun)]
      · rw [hv, hfreed, hstack, hsettled.2]
        simp

theorem runGone_cancelRun (hd : DistinctNumbers s) (hr : r ∈ liveRuns s) (hsettled : SettledLaw s) :
    RunGone r.number s (cancelRun r s) := by
  have hsent := PlaceFrame.sendReport .CANCELLED r (cancelTag r.number s)
  have hgru : (sendReport .CANCELLED r (cancelTag r.number s)).gru = s.gru := hsent.gru.trans (cancelTag_gru ..)
  unfold cancelRun
  simp only
  generalize sendReport .CANCELLED r (cancelTag r.number s) = u at *
  obtain ⟨i, hi⟩ | hst := mem_liveRuns.mp hr
  · rw [slotNumbered_eq hd hi]
    exact runGone_vacate hd hi hgru hsettled
  · have hno : slotNumbered s r.number = none := slotNumbered_eq_none fun j y hy hn =>
      not_numberedIn (j := j) hd hst (by unfold NumberedIn; rw [show s.gru.slots[j] = some y from hy, ← hn]; rfl)
    have hfreed := slotsFreed_of_stack hd hst
    rw [hno]
    show RunGone r.number s (setStack (u.gru.stack.filter fun x => decide (x.number ≠ r.number)) u)
    refine ⟨fun j => ?_, ?_, ?_, by rw [← hgru]; rfl, ?_⟩
    · show u.gru.slots[j] = _
      rw [hfreed, hgru, if_neg (not_numberedIn hd hst)]
      rfl
    · show u.gru.stack.filter _ = _
      rw [hfreed, hgru]
      rfl
    · show u.gru.slotting = _
      rw [hfreed, hgru, ite_self, List.append_nil]
      exact (List.filter_eq_self.mpr fun j _ => decide_eq_true (not_numberedIn hd hst)).symm
    · show u.gru.resumed = _
      rw [hfreed, hgru, ite_self]
      exact hsettled.2

/-- R97, R100: a cancelled run is reported, and neither a run nor an entry holds its number. -/
theorem unheld_cancelRun (hd : DistinctNumbers s) (hr : r ∈ liveRuns s) (hsettled : SettledLaw s) : Unheld r.number (cancelRun r s) := by
  have hgone := runGone_cancelRun hd hr hsettled
  refine ⟨fun x hx hn => ?_, fun d => ?_⟩
  · have hother (y : Run) (hy : y ∈ s.gru.stack.head?) (hfreed : slotsFreed s r.number ≠ []) : y.number ≠ r.number := fun hyn => by
      obtain ⟨j, hj⟩ := List.exists_mem_of_ne_nil _ hfreed
      have hj := of_decide_eq_true (List.mem_filter.mp hj).2
      obtain ⟨z, hz, hzn⟩ := Option.map_eq_some_iff.mp hj
      exact (distinctNumbers_iff.mp hd).2.2 j z hz y (List.mem_of_mem_head? hy) (hzn.trans hyn.symm)
    obtain ⟨i, hi⟩ | hst := mem_liveRuns.mp hx
    · rw [hgone.slots] at hi
      split at hi
      · next hmem =>
        obtain ⟨y, hy, rfl⟩ := Option.map_eq_some_iff.mp hi
        exact hother y hy (List.ne_nil_of_mem hmem) hn
      split at hi
      · cases hi
      next hnot => exact hnot (by unfold NumberedIn; rw [hi, ← hn]; rfl)
    · rw [hgone.stack] at hst
      split at hst
      · exact of_decide_eq_true (List.mem_filter.mp hst).2 hn
      · next hfreed =>
        obtain ⟨j, hj⟩ := List.exists_mem_of_ne_nil _ hfreed
        have hj := of_decide_eq_true (List.mem_filter.mp hj).2
        obtain ⟨z, hz, hzn⟩ := Option.map_eq_some_iff.mp hj
        exact (distinctNumbers_iff.mp hd).2.2 j z hz x (List.mem_of_mem_tail hst) (hzn.trans hn.symm)
  · have htags : tagOf (cancelRun r s) = tagOf (cancelTag r.number s) := by
      have hsent := PlaceFrame.sendReport .CANCELLED r (cancelTag r.number s)
      refine tagOf_of_cs ?_
      rw [← hsent.cs]
      unfold cancelRun
      simp only
      split
      · exact (ReportFrame.vacate ..).cs
      · rfl
    rw [htags, tagOf_cancelTag]
    split
    · nofun
    · next h => exact h

/-! ### The command -/

theorem queue_acceptFrame (p q : PortIx) (s : State) : (acceptFrame p s).sp[q].queue = s.sp[q].queue := by
  unfold acceptFrame State.modPort
  simp only [Fin.getElem_fin, getElem_upd]
  split
  · next hq => simp only [hq]
  · rfl

/-- R97: the report of a cancelled run goes out, whatever is placed after it. -/
theorem reportSent_cancelRun (hqueue : ∀ q : PortIx, u.sp[q].queue = s.sp[q].queue) (htables : u.tables = s.tables) :
    ReportSent s (cancelRun r u) .CANCELLED r := by
  have hjoined : QueuesJoined IsNotice s (cancelTag r.number u) :=
    QueuesJoined.trans (t := u) ⟨fun q => by rw [hqueue]; exact .refl _⟩ (borne_joined.cancelTag r.number u)
  have hsent : ReportSent s (sendReport .CANCELLED r (cancelTag r.number u)) .CANCELLED r :=
    reportSent_of_joined ((RunFrame.cancelTag r.number u).tables.trans htables) hjoined
  unfold cancelRun
  simp only
  split
  · exact reportSent_lasting hsent (carried_lasting.vacate ..)
  · exact reportSent_lasting hsent (.of_sp rfl)

theorem cancelRun_orders (r : Run) (s : State) :
    (cancelRun r s).cs = (cancelTag r.number s).cs ∧ (cancelRun r s).rc = (cancelTag r.number s).rc := by
  have hsent := PlaceFrame.sendReport .CANCELLED r (cancelTag r.number s)
  unfold cancelRun
  simp only
  split
  · have h := ReportFrame.vacate ‹SlotIx› (sendReport .CANCELLED r (cancelTag r.number s))
    exact ⟨h.cs.trans hsent.cs, h.rc.trans hsent.rc⟩
  · exact ⟨hsent.cs, hsent.rc⟩

theorem exec_runCancel (ha : Awake s) (hin : s.inService = true) (n : Byte) :
    exec (.runCancel p n) s = .next (runCancel p n (acceptFrame p s)) := by
  have hrole : s.roleAt p ∈ anyRole := by
    unfold anyRole
    cases s.roleAt p <;> decide
  exact (exec_awake ha rfl).trans (congrArg _ (decide_operating _ ⟨ha, hin, hrole⟩))

theorem cancelRefusal_eq_none (h : MayCancel s p r) : cancelRefusal s p r = none := by
  obtain ⟨hstation, hsystem⟩ := h
  unfold cancelRefusal
  split
  · next q ho =>
    refine if_neg fun ⟨hne, hrole⟩ => ?_
    exact (hstation q ho).elim hne hrole
  all_goals
    next ho =>
    obtain ⟨hrole, hmode⟩ := hsystem (by rw [ho]; simp)
    rw [if_neg (not_not.mpr hrole), if_neg hmode]

theorem cancelRefusal_station {q : PortIx} (ho : r.origin = .STATION q) (hne : q ≠ p) (hrole : s.roleAt p ≠ .BRIDGE) :
    cancelRefusal s p r = some .NOT_PERMITTED := by
  unfold cancelRefusal
  rw [ho]
  exact if_pos ⟨hne, hrole⟩

theorem cancelRefusal_system (ho : r.origin = .MODE ∨ r.origin = .LINE) : cancelRefusal s p r =
    if s.roleAt p ≠ .BRIDGE then some .NOT_PERMITTED else if s.mc.mode = .EMERGENCY then some .WRONG_MODE else none := by
  unfold cancelRefusal
  rcases ho with ho | ho <;> rw [ho]

theorem runCancel_refused {c : ResultCode} (hr : r ∈ runNumbered s n) (hc : cancelRefusal s p r = some c) :
    runCancel p n s = refuse p 7 c s := by
  unfold runCancel
  rw [show runNumbered s n = some r from hr]
  simp only
  rw [hc]

theorem runCancel_taken (hr : r ∈ runNumbered s n) (hmay : MayCancel s p r) :
    runCancel p n s = answerDone p 7 false [] (settleRuns (cancelRun r s)) := by
  unfold runCancel
  rw [show runNumbered s n = some r from hr]
  simp only
  rw [cancelRefusal_eq_none hmay]

theorem runCancel_unknown (h : ∀ x ∈ liveRuns s, x.number ≠ n) : runCancel p n s = refuse p 7 .UNKNOWN_TARGET s := by
  unfold runCancel
  rw [show runNumbered s n = none from List.find?_eq_none.mpr fun x hx => by simpa using h x hx]

theorem mem_liveRuns_of_runNumbered (h : r ∈ runNumbered s n) : r ∈ liveRuns s ∧ r.number = n :=
  ⟨List.mem_of_find?_eq_some h, of_decide_eq_true (List.find?_some (p := fun x : Run => decide (x.number = n)) h)⟩

/-- R98: a context that resumes as it was stacked leaves no more to the looks than its slot noted. -/
theorem settleRuns_cancelled (hd : DistinctNumbers s) (hr : r ∈ liveRuns s) (hsettled : SettledLaw s)
    (hstands : slotsFreed s r.number ≠ [] → ∀ x ∈ s.gru.stack.head?, ResumesAsStacked s x) :
    settleRuns (cancelRun r s) = setResumed [] (cancelRun r s) := by
  have hgone := runGone_cancelRun hd hr hsettled
  have hframe := RunFrame.cancelRun r s
  have hms : (cancelRun r s).ms = s.ms := carried_ms.cancelRun r s
  have hposition (q : DoorIx) : (cancelRun r s).position q = s.position q := by unfold State.position; rw [hframe.orders]
  by_cases hres : (cancelRun r s).gru.resumed = []
  · rw [settleRuns_of_resumed hres]
    generalize cancelRun r s = u at hres
    unfold setResumed
    rw [← hres]
  · rw [hgone.resumed] at hres
    split at hres
    · next hw =>
      obtain ⟨x, hx, hstate⟩ := hw
      have hwait := (hstands hres x hx).resolve_left (not_not.mpr hstate)
      obtain ⟨i, hi⟩ : ∃ i, slotsFreed s r.number = [i] := by
        obtain ⟨i, hslot⟩ | hst := mem_liveRuns.mp hr
        · rw [slotsFreed_of_slot hd hslot] at hres ⊢
          split
          · next h => rw [if_pos h] at hres; exact absurd rfl hres
          · exact ⟨i, rfl⟩
        · rw [slotsFreed_of_stack hd hst] at hres
          exact absurd rfl hres
      have hslot : (cancelRun r s).gru.slots[i] = some { x with slot := i } := by
        rw [hgone.slots, hi, if_pos (List.mem_singleton_self i), show s.gru.stack.head? = some x from hx]
        rfl
      refine settleRuns_waits hslot (by rw [hgone.resumed, if_pos ⟨x, hx, hstate⟩, hi]) hstate ?_
      obtain ⟨e, he, q, hq, h1, h2, h3⟩ := hwait
      refine ⟨e, ?_, q, hq, ?_, ?_, ?_⟩
      · unfold listEntry at *
        rw [hframe.tables]
        exact he
      · rw [hposition]; exact h1
      · rw [hposition]; exact h2
      · unfold State.latch at *
        rw [hms]; exact h3
    · exact absurd rfl hres

end

/-- Settles O29, by what a cancel leaves of the schedule and of the contexts, and the look of the context that resumes. -/
theorem runCancelDecided : Obligations.RunCancelDecided := by
  unfold Obligations.RunCancelDecided
  constructor
  · intro p n s hawake hin htag hsettled r hr hmay freed
    obtain ⟨hlive, rfl⟩ := mem_liveRuns_of_runNumbered hr
    have hdistinct : DistinctNumbers s := htag.1
    have hexec : exec (.runCancel p r.number) s =
        .next (answerDone p 7 false [] (settleRuns (cancelRun r (acceptFrame p s)))) :=
      (exec_runCancel hawake hin r.number).trans (congrArg _ (runCancel_taken (s := acceptFrame p s) hr hmay))
    refine ends_of hexec ?_
    have hgone : RunGone r.number s (cancelRun r (acceptFrame p s)) :=
      have h := runGone_cancelRun (s := acceptFrame p s) hdistinct hlive hsettled
      ⟨h.slots, h.stack, h.slotting, h.counter, h.resumed⟩
    have hcancelled := tagCancelled r.number (acceptFrame p s)
    have hcancelFrame := RunFrame.cancelRun r (acceptFrame p s)
    have hframe := hcancelFrame.trans (.settleRuns (cancelRun r (acceptFrame p s)))
    have hms : (settleRuns (cancelRun r (acceptFrame p s))).ms = s.ms :=
      (carried_ms.settleRuns _).trans (carried_ms.cancelRun r (acceptFrame p s))
    have hwms : (cancelRun r (acceptFrame p s)).ms = s.ms := carried_ms.cancelRun r (acceptFrame p s)
    have hunheld := (unheld_cancelRun (s := acceptFrame p s) hdistinct hlive hsettled).settleRuns
    have hsent := reportSent_lasting (reportSent_cancelRun (r := r) (u := acceptFrame p s) (queue_acceptFrame p · s) rfl)
      (carried_lasting.settleRuns (cancelRun r (acceptFrame p s)))
    have hstands := settleRuns_cancelled (s := acceptFrame p s) hdistinct hlive hsettled
    have hcs := cancelRun_orders r (acceptFrame p s)
    generalize cancelRun r (acceptFrame p s) = w at *
    generalize cancelTag r.number (acceptFrame p s) = c at *
    generalize hv : settleRuns w = v at *
    have hplace := PlaceFrame.place p (resultFrame 7 .DONE false []) v
    have hdone := done_answerDone p 7 false [] v
    have hfinal := hframe.trans hplace.toRunFrame
    have hlast : ReportSent s (answerDone p 7 false [] v) .CANCELLED r :=
      reportSent_lasting hsent (Lasting.place ..)
    have hgru : (answerDone p 7 false [] v).gru = v.gru := hplace.gru
    have hvcs : (answerDone p 7 false [] v).cs = v.cs := hplace.cs
    have hvrc : (answerDone p 7 false [] v).rc = v.rc := hplace.rc
    have hvms : (answerDone p 7 false [] v).ms = s.ms := hplace.ms.trans hms
    have hfinal : RunFrame (acceptFrame p s) (answerDone p 7 false [] v) := hfinal
    generalize answerDone p 7 false [] v = t at *
    have hheld := hunheld.same hgru hvcs
    refine ⟨hheld.runs, fun d hd => ?_, hlast, fun has => ?_, fun i hi x hx hresumes hcur => ?_, hdone, hvms, hfinal.mode,
      hfinal.orders, aside_of_block hfinal.toBlockFrame⟩
    · obtain ⟨y, hy⟩ := (taggedDoors_ne_nil_iff t r.number).mp (List.ne_nil_of_mem hd)
      exact hheld.tags y hy
    · have hvw : v = setResumed [] w := hstands has
      rw [hvw] at hgru hvcs hvrc
      refine ⟨fun i => ?_, ?_, ?_, ?_, ?_, fun d => ?_, fun d e he ht hw => ?_⟩
      · rw [hgru]; exact hgone.slots i
      · rw [hgru]; exact hgone.stack
      · rw [hgru]; exact hgone.slotting
      · rw [hgru]; exact hgone.counter
      · rw [hgru]; rfl
      · refine Eq.trans ?_ (hcancelled.claims d)
        unfold claimOf
        rw [entry_congr (s := c) (t := t) (by rw [hvcs]; exact congrArg _ hcs.1)]
      · have hpending := hcancelled.stopped d e he ht hw
        unfold Pending at *
        rw [hvrc]
        rw [← hcs.2] at hpending
        exact hpending
    · have hstate : x.state = .WAITING := by
        by_contra hne
        exact hresumes (.inl hne)
      have hmem : x ∈ s.gru.stack.head? := hx
      have hone : freed = [i] := by
        obtain ⟨j, hslot⟩ | hst := mem_liveRuns.mp hlive
        · have hfreed := slotsFreed_of_slot hdistinct hslot
          rw [show freed = _ from hfreed] at hi ⊢
          split at hi
          · cases hi
          · next hj => rw [if_neg hj, List.mem_singleton.mp hi]
        · rw [show freed = [] from slotsFreed_of_stack hdistinct hst] at hi
          cases hi
      have hslot : w.gru.slots[i] = some { x with slot := i } := by
        rw [hgone.slots, if_pos hi, show s.gru.stack.head? = some x from hx]
        rfl
      have hres : w.gru.resumed = [i] := by
        rw [hgone.resumed, if_pos ⟨x, hmem, hstate⟩]
        exact hone
      have hposition (q : DoorIx) : w.position q = s.position q := by
        unfold State.position
        rw [hcancelFrame.orders]
        rfl
      have hwalks : Walks i { { x with slot := i } with cursor := x.cursor + 1, state := .WALKING } v := by
        rw [← hv]
        refine walks_settleRuns hslot hres hstate
          (fun ⟨e, he, q, hq, h1, h2, h3⟩ => hresumes (.inr ⟨e, ?_, q, hq, ?_, ?_, ?_⟩)) ?_
        · unfold listEntry at *
          rw [hcancelFrame.tables] at he
          exact he
        · rw [← hposition]; exact h1
        · rw [← hposition]; exact h2
        · unfold State.latch at *
          rw [hwms] at h3
          exact h3
        · unfold listLength at *
          rw [hcancelFrame.tables]
          exact hcur
      obtain ⟨y, hy, hyx, hyw⟩ := hwalks
      rw [hgru, hy, Option.map_some]
      have hnumber : y.number = x.number := show (standing y).number = _ by rw [hyx]; rfl
      have hslot : y.slot = i := show (standing y).slot = _ by rw [hyx]; rfl
      have hcursor : y.cursor = x.cursor + 1 := show (standing y).cursor = _ by rw [hyx]; rfl
      rw [hnumber, hslot, hcursor, hyw]
  · intro p n s hawake hin u
    have hexec := exec_runCancel (p := p) hawake hin n
    refine ⟨fun hno => hexec.trans (congrArg _ (runCancel_unknown (s := acceptFrame p s) hno)), fun r hr =>
      ⟨fun q ho hne hrole => ?_, fun ho hrole => ?_, fun ho hrole hmode => ?_⟩⟩
    · exact hexec.trans (congrArg _ (runCancel_refused (s := acceptFrame p s) hr (cancelRefusal_station ho hne hrole)))
    · exact hexec.trans (congrArg _ (runCancel_refused (s := acceptFrame p s) hr ((cancelRefusal_system ho).trans (if_pos hrole))))
    · exact hexec.trans (congrArg _ (runCancel_refused (s := acceptFrame p s) hr ((cancelRefusal_system ho).trans
        ((if_neg (not_not.mpr hrole)).trans (if_pos hmode)))))

end Sys2Proof.Proofs
end

section
/-! ## The entry into IN_SERVICE of a part at rest (R127, R128, R133, R145, R182) -/
namespace Sys2Proof.Proofs
open Sys2Proof Sys2Proof.Machine

set_option Elab.async false

/-! ### A part at rest: its schedule, its runs, its passages -/

/-- The schedule, the slots, the stack and the passages are empty. -/
structure AtRest (s : State) : Prop where
  entry : ∀ d : DoorIx, s.entry d = none
  passage : ∀ d : DoorIx, s.passage d = none
  slot : ∀ i : SlotIx, s.gru.slots[i] = none
  stack : s.gru.stack = []

section
variable {s t : State}

theorem AtRest.congr (h : AtRest s) (hcs : t.cs.entries = s.cs.entries) (hpass : t.mc.passages = s.mc.passages) (hslots : t.gru.slots = s.gru.slots)
    (hstack : t.gru.stack = s.gru.stack) : AtRest t where
  entry d := by unfold State.entry; rw [hcs]; exact h.entry d
  passage d := by unfold State.passage; rw [hpass]; exact h.passage d
  slot i := by rw [hslots]; exact h.slot i
  stack := hstack.trans h.stack

theorem matching_of_empty (h : ∀ d : DoorIx, s.entry d = none) (p : DoorIx → Entry → Bool) : matching s p = [] :=
  List.filter_eq_nil_iff.mpr fun d _ => by simp [h d]

theorem hpusOf_nil (s : State) : hpusOf s [] = [] := List.filter_eq_nil_iff.mpr fun _ _ => Bool.false_ne_true

theorem request_nil (act : DoorIx → State → State) (s : State) : request act [] s = s := by
  unfold request
  rw [hpusOf_nil]
  rfl

theorem removeAll_nil (c : RemovalCause) (s : State) : removeAll c [] s = s := by
  unfold removeAll
  rw [request_nil, show readyAmong s [] = [] from rfl, hpusOf_nil]
  rfl

theorem forEach_stands {ι : Type} {act : ι → State → State} (l : List ι) (h : ∀ i ∈ l, act i s = s) : forEach l act s = s := by
  induction l with
  | nil => rfl
  | cons i rest ih =>
    show forEach rest act (act i s) = s
    rw [h i List.mem_cons_self]
    exact ih fun j hj => h j (List.mem_cons_of_mem _ hj)

theorem AtRest.liveRuns (h : AtRest s) : liveRuns s = [] := liveRuns_eq_nil_iff.mpr ⟨h.slot, h.stack⟩

theorem AtRest.nextNumber (h : AtRest s) : nextNumber s = s.gru.counter := by
  have hfree (n : Byte) : numberHeld s n = false := by
    unfold numberHeld
    rw [h.liveRuns]
    rfl
  unfold Machine.nextNumber
  have hfirst : (List.range 256).find? (fun _ => true) = some 0 := by decide
  simp only [hfree, Bool.not_false, List.find?_map, Function.comp_def, hfirst, Option.map_some, Option.getD_some,
    BitVec.add_zero]

theorem settleOne_idle (h : ∀ i : SlotIx, s.gru.slots[i] = none) : settleOne s = setResumed s.gru.resumed.tail s := by
  unfold settleOne
  split
  · next i rest hres =>
    have hslot : slotIn (setResumed rest s) i .WAITING = false := by
      unfold slotIn
      rw [show (setResumed rest s).gru.slots[i] = none from h i]
    simp only [hslot, Bool.false_eq_true, if_false, hres, List.tail_cons]
  · next hres =>
    rw [hres]
    unfold setResumed
    rw [List.tail_nil, ← hres]

theorem settleOnes_idle (h : ∀ i : SlotIx, s.gru.slots[i] = none) (l : List Nat) :
    forEach l (fun _ => settleOne) s = setResumed (s.gru.resumed.drop l.length) s := by
  induction l generalizing s with
  | nil => rfl
  | cons _ rest ih =>
    show forEach rest (fun _ => settleOne) (settleOne s) = _
    rw [settleOne_idle h, ih (s := setResumed s.gru.resumed.tail s) h]
    unfold setResumed
    simp only [List.length_cons, ← List.drop_one, List.drop_drop, Nat.add_comm]

theorem AtRest.settleRuns (h : AtRest s) : settleRuns s = setResumed [] s := by
  unfold Machine.settleRuns
  rw [settleOnes_idle h.slot, List.length_range, List.drop_eq_nil_of_le (Nat.le_add_right ..)]

end

/-! ### The mode entered (R127) -/

/-- GRU after an entry of a part at rest into a mode: the system run of CLOSED and of EMERGENCY, nothing in LOCAL. -/
def startGru (s : State) : Gru :=
  if startMode s = .LOCAL then ⟨Vector.replicate 5 none, [], [], s.gru.counter, []⟩
  else { s.gru with slots := s.gru.slots.set slotS (startRun s), counter := s.gru.counter + 1, resumed := [] }

/-- The mode and the runs of an entry into the start mode, nothing else. -/
def moded (s : State) : State := { s with mc := { s.mc with mode := startMode s }, gru := startGru s }

/-- R126: bridge loss ends where no row is silent. -/
def unlost (s : State) : State :=
  if s.mc.bridgeLost = true then clearAlarm .BRIDGE_LOST noSubject (setBridgeLost false s) else s

section
variable {s : State}

theorem bridgeSilent_of_heard (h : ∀ q : PortIx, s.sp[q].silent = false) : bridgeSilent s = false := by
  unfold bridgeSilent
  rw [Bool.and_eq_false_iff]
  by_cases hany : allPorts.any (countsForBridge s) = true
  · right
    obtain ⟨p, hp, hc⟩ := List.any_eq_true.mp hany
    exact List.all_eq_false.mpr ⟨p, hp, by rw [hc, h p]; decide⟩
  · exact .inl (Bool.eq_false_iff.mpr hany)

theorem evalBridge_heard (hin : s.inService = true) (h : ∀ q : PortIx, s.sp[q].silent = false) : evalBridge s = unlost s := by
  unfold evalBridge unlost
  rw [hin, bridgeSilent_of_heard h]
  rfl

theorem AtRest.launchSystem (h : AtRest s) (cls : Nat) (o : RunOrigin) : launchSystem cls o s =
    { s with gru := { s.gru with slots := s.gru.slots.set slotS (some (newRun slotS .ALL .CLOSE cls .A o s.gru.counter))
                                 counter := s.gru.counter + 1, resumed := [] } } := by
  have hnumber : Machine.nextNumber (setResumed [] s) = s.gru.counter :=
    AtRest.nextNumber (h.congr (t := setResumed [] s) rfl rfl rfl rfl)
  unfold Machine.launchSystem
  rw [h.settleRuns]
  simp only [show (setResumed [] s).gru.slots[slotS] = none from h.slot slotS]
  rw [takeSystemSlot_eq, hnumber]
  rfl

theorem forEach_takePassage (h : ∀ d : DoorIx, s.passage d = none) : forEach allDoors takePassage s = s :=
  forEach_stands _ fun d _ => by unfold takePassage; rw [h d]

theorem forEach_endAnyPassage (h : ∀ d : DoorIx, s.passage d = none) : forEach allDoors endAnyPassage s = s :=
  forEach_stands _ fun d _ => by unfold endAnyPassage; rw [h d]

theorem AtRest.enterEmergency (h : AtRest s) (c : EmergencyCause) :
    enterEmergency c s = Machine.launchSystem 3 c.runOrigin (setMode .EMERGENCY s) := by
  have hset : AtRest (setMode .EMERGENCY s) := h.congr rfl rfl rfl rfl
  unfold Machine.enterEmergency raiseForEmergency denyForEmergency reverseForEmergency
  simp only [matching_of_empty hset.entry, request_nil, removeAll_nil, forEach_takePassage hset.passage]

theorem AtRest.abortAndFlush (h : AtRest s) : abortAndFlush s =
    { s with gru := ⟨Vector.replicate 5 none, [], [], s.gru.counter, []⟩ } := by
  have habort : abortRuns s = { s with gru := ⟨Vector.replicate 5 none, [], [], s.gru.counter, []⟩ } := by
    unfold abortRuns
    rw [h.liveRuns]
    rfl
  have hmeets : flushMeetsAbort s = false := by
    unfold flushMeetsAbort
    rw [h.liveRuns]
    exact Bool.and_false _
  have hentry (d : DoorIx) : (abortRuns s).entry d = none := by rw [habort]; exact h.entry d
  have hfirst : Machine.abortAndFlush s = flush (abortRuns s) := if_neg (by rw [hmeets]; exact Bool.false_ne_true)
  rw [hfirst, flush, matching_of_empty hentry, removeAll_nil, habort]

theorem AtRest.enterLocal (h : AtRest s) : enterLocal s =
    clearAtSea { s with mc := { s.mc with mode := .LOCAL }, gru := ⟨Vector.replicate 5 none, [], [], s.gru.counter, []⟩ } := by
  have hset : AtRest (setMode .LOCAL s) := h.congr rfl rfl rfl rfl
  unfold Machine.enterLocal
  rw [hset.abortAndFlush]
  exact congrArg clearAtSea (forEach_endAnyPassage hset.passage)

/-- R127: the start mode entered, its conditions at sea cleared where it is LOCAL. -/
def modeTaken (s : State) : State := if startMode s = .LOCAL then clearAtSea (moded s) else moded s

theorem enterStartMode_atRest (h : AtRest s) (hin : s.inService = true) (hheard : ∀ q : PortIx, s.sp[q].silent = false) :
    enterStartMode s = unlost (modeTaken s) := by
  have htaken : (if s.mc.line then enterEmergency .LINE s
      else if s.tables.system.startMode = 1 then enterClosedFromLocal s else enterLocal s) = modeTaken s := by
    unfold modeTaken moded startGru startRun
    split
    · next hline =>
      have hmode : startMode s = .EMERGENCY := if_pos hline
      rw [h.enterEmergency, AtRest.launchSystem (s := setMode .EMERGENCY s) (h.congr rfl rfl rfl rfl), hmode]
      rfl
    · next hline =>
      split
      · next hone =>
        have hmode : startMode s = .CLOSED := (if_neg hline).trans (if_pos hone)
        unfold enterClosedFromLocal
        rw [AtRest.launchSystem (s := setMode .CLOSED s) (h.congr rfl rfl rfl rfl), hmode]
        rfl
      · next hone =>
        have hmode : startMode s = .LOCAL := (if_neg hline).trans (if_neg hone)
        simp only [h.enterLocal, hmode, if_true]
  unfold enterStartMode
  rw [htaken]
  have frame : BlockFrame s (modeTaken s) := by
    unfold modeTaken
    have hmoded : BlockFrame s (moded s) := ⟨rfl, rfl, rfl, rfl, rfl, fun _ => rfl, rfl, rfl, rfl, rfl⟩
    split
    · exact hmoded.trans (clearAtSea_cleared _).toBlockFrame
    · exact hmoded
  refine evalBridge_heard ?_ fun q => ?_
  · rw [inService_congr frame.cfs]; exact hin
  · rw [frame.queues q]; exact hheard q

end

end Sys2Proof.Proofs
end

section
/-! ## Notices at a port whose queue has room for them (R162, R172) -/
namespace Sys2Proof.Proofs
open Sys2Proof Sys2Proof.Machine

set_option Elab.async false

/-- At a port with room for `n` frames at most `n` frames joined the queue, all of them notices, and none was dropped for
them. -/
structure Appended (n : Nat) (s t : State) : Prop where
  port : ∀ q : PortIx, s.sp[q].queue.length + n ≤ 64 →
    (∃ l : List Frame, l.length ≤ n ∧ (∀ f ∈ l, IsNotice f) ∧ t.sp[q].queue = s.sp[q].queue ++ l)
    ∧ t.ib.pacing[q] = s.ib.pacing[q]

section
variable {s t u : State} {m n : Nat}

theorem Appended.refl (s : State) : Appended n s s := ⟨fun _ _ => ⟨⟨[], Nat.zero_le _, nofun, (List.append_nil _).symm⟩, rfl⟩⟩

theorem Appended.trans (h : Appended m s t) (g : Appended n t u) : Appended (m + n) s u := by
  refine ⟨fun q hq => ?_⟩
  obtain ⟨⟨l, hl, hln, hlq⟩, hlp⟩ := h.port q (by omega)
  have hlen : t.sp[q].queue.length ≤ s.sp[q].queue.length + m := by rw [hlq, List.length_append]; omega
  obtain ⟨⟨k, hk, hkn, hkq⟩, hkp⟩ := g.port q (by omega)
  refine ⟨⟨l ++ k, by rw [List.length_append]; omega, fun f hf => ?_, by rw [hkq, hlq, List.append_assoc]⟩, hkp.trans hlp⟩
  exact (List.mem_append.mp hf).elim (hln f) (hkn f)

theorem Appended.mono (h : Appended m s t) (hmn : m ≤ n) : Appended n s t := by
  refine ⟨fun q hq => ?_⟩
  obtain ⟨⟨l, hl, hln, hlq⟩, hp⟩ := h.port q (by omega)
  exact ⟨⟨l, hl.trans hmn, hln, hlq⟩, hp⟩

theorem Appended.of_eq (hsp : ∀ q : PortIx, t.sp[q].queue = s.sp[q].queue) (hib : t.ib.pacing = s.ib.pacing) : Appended n s t :=
  ⟨fun q _ => ⟨⟨[], Nat.zero_le _, nofun, by rw [hsp q, List.append_nil]⟩, by rw [hib]⟩⟩

/-- A step that leaves the queues and the pacing, after which notices join. -/
theorem Appended.after (g : Appended n t u) (hsp : t.sp = s.sp) (hib : t.ib = s.ib) : Appended n s u := by
  refine ⟨fun q hq => ?_⟩
  rw [← hsp, ← hib]
  exact g.port q (by rw [hsp]; exact hq)

theorem Appended.ite {c : Prop} [Decidable c] {a b : State} (h : Appended n s a) (g : Appended n s b) :
    Appended n s (if c then a else b) := by
  split
  · exact h
  · exact g

theorem pacing_place_of_ne {p q : PortIx} (f : Frame) (s : State) (h : p ≠ q) : (place p f s).ib.pacing[q] = s.ib.pacing[q] := by
  have hval : p.val ≠ q.val := fun he => h (Fin.ext he)
  unfold place
  split
  · rfl
  · unfold pendSummary
    split
    · simp [State.modPort, State.setPacing, hval]
    · rfl
  · rfl

theorem pacing_placeEach_of_notMem {ports : List PortIx} (f : Frame) {q : PortIx} (h : q ∉ ports) (s : State) :
    (forEach ports (fun p => place p f) s).ib.pacing[q] = s.ib.pacing[q] := by
  induction ports generalizing s with
  | nil => rfl
  | cons p rest ih =>
    rw [List.mem_cons, not_or] at h
    exact (ih h.2 (place p f s)).trans (pacing_place_of_ne f s (Ne.symm h.1))

theorem pacing_placeEach {ports : List PortIx} (f : Frame) (hnodup : ports.Nodup) {q : PortIx} {s : State}
    (hroom : s.sp[q].queue.length < queueSize) : (forEach ports (fun p => place p f) s).ib.pacing[q] = s.ib.pacing[q] := by
  induction ports generalizing s with
  | nil => rfl
  | cons p rest ih =>
    obtain ⟨hp, hrest⟩ := List.nodup_cons.mp hnodup
    show (forEach rest (fun p => place p f) (place p f s)).ib.pacing[q] = _
    by_cases hpq : p = q
    · subst hpq
      rw [pacing_placeEach_of_notMem f hp, place_of_room hroom]
      rfl
    · rw [ih hrest (by rw [queue_place, if_neg hpq]; exact hroom), pacing_place_of_ne f s hpq]

theorem Appended.placeEach {ports : List PortIx} {f : Frame} (hf : IsNotice f) (hnodup : ports.Nodup) (s : State) :
    Appended 1 s (forEach ports (fun p => place p f) s) := by
  refine ⟨fun q hq => ?_⟩
  have hroom : s.sp[q].queue.length < queueSize := hq
  refine ⟨?_, pacing_placeEach f hnodup hroom⟩
  rw [queue_placeEach f hnodup, placedIn_of_room hroom]
  split
  · exact ⟨[f], le_rfl, fun g hg => by rw [List.mem_singleton.mp hg]; exact hf, rfl⟩
  · exact ⟨[], Nat.zero_le _, nofun, (List.append_nil _).symm⟩

end

/-! ### The alarm list's operations -/

section
variable (s : State) (r : AlarmRecord) (k : AlarmKind) (x : Nat)

theorem Appended.notify (c : Change) : Appended 1 s (notify c r s) := .placeEach rfl ((List.nodup_finRange 8).filter _) s
theorem Appended.updateRecord : Appended 1 s (updateRecord r s) := (Appended.notify ..).after rfl rfl
theorem Appended.createRecord (st : AlarmState) : Appended 1 s (createRecord k x st s) := (Appended.notify ..).after rfl rfl
theorem Appended.reraise : Appended 1 s (reraise r s) := .ite (.updateRecord ..) (.refl s)
theorem Appended.raiseListFull : Appended 1 s (raiseListFull s) := by
  unfold Machine.raiseListFull
  split
  · exact .reraise ..
  · exact .createRecord ..
theorem Appended.loseRaise : Appended 1 s (loseRaise s) := (Appended.raiseListFull _).after rfl rfl
theorem Appended.raiseAlarm : Appended 1 s (raiseAlarm k x s) := by
  unfold Machine.raiseAlarm
  split
  · exact .reraise ..
  · exact .ite (.createRecord ..) (.loseRaise ..)
theorem Appended.raiseEvent : Appended 1 s (raiseEvent k x s) := by
  unfold Machine.raiseEvent
  split
  · exact .ite (.updateRecord ..) (.refl s)
  · exact .ite (.createRecord ..) (.loseRaise ..)
theorem Appended.dropRecord : Appended 1 s (dropRecord r s) := by
  have hremoved (u : State) : (onRemoval r u).sp = u.sp ∧ (onRemoval r u).ib = u.ib := by
    unfold onRemoval
    split
    · split <;> exact ⟨rfl, rfl⟩
    · exact ⟨rfl, rfl⟩
  have hnoticed : Appended 1 s (Machine.notify .REMOVED r (setRecords (s.al.records.filter fun q => !q.isFor r.kind r.subject) s)) :=
    (Appended.notify ..).after rfl rfl
  exact hnoticed.trans (n := 0) (.of_eq (fun q => congrArg (fun v : Vector StationPort 8 => v[q].queue) (hremoved _).1)
    (congrArg Ib.pacing (hremoved _).2))
theorem Appended.clearRecord : Appended 1 s (clearRecord r s) := by
  unfold Machine.clearRecord
  split
  · exact .updateRecord ..
  · exact .dropRecord ..
  · exact .refl s
theorem Appended.testListFull : Appended 1 s (testListFull s) := by
  unfold Machine.testListFull
  split
  · exact .ite (.clearRecord ..) (.refl s)
  · exact .refl s
theorem Appended.removeRecord : Appended 2 s (removeRecord r s) := (Appended.dropRecord s r).trans (.testListFull _)
theorem Appended.clearAlarm : Appended 2 s (clearAlarm k x s) := by
  unfold Machine.clearAlarm
  split
  · exact .ite (.removeRecord ..) (.mono (.clearRecord ..) (by omega))
  · exact .refl s

theorem Appended.raises (l : List HpuIx) : Appended l.length s (forEach l (fun h => Machine.raiseAlarm k h.val) s) := by
  induction l generalizing s with
  | nil => exact .refl s
  | cons h rest ih => exact ((Appended.raiseAlarm s k h.val).trans (ih _)).mono (by rw [List.length_cons]; omega)

end

/-! ### A clear sends no more notices than conditions end -/

/-- The records whose condition stands. -/
def standingCount (l : List AlarmRecord) : Nat := l.countP fun r => decide (r.state ≠ .CLEARED_UNACK)

/-- Conditions ended, and at a port with room for them no more notices joined than conditions. -/
structure Ended (s t : State) : Prop where
  fewer : standingCount t.al.records ≤ standingCount s.al.records
  appended : Appended (standingCount s.al.records - standingCount t.al.records) s t

section
variable {s t u : State} {r : AlarmRecord}

theorem Ended.refl (s : State) : Ended s s := ⟨le_rfl, .refl s⟩
theorem Ended.trans (h : Ended s t) (g : Ended t u) : Ended s u :=
  ⟨g.fewer.trans h.fewer, (h.appended.trans g.appended).mono (by have := h.fewer; have := g.fewer; omega)⟩
theorem Ended.of_one (h : Appended 1 s t) (hlt : standingCount t.al.records < standingCount s.al.records) : Ended s t :=
  ⟨hlt.le, h.mono (by omega)⟩
theorem Ended.forEach {ι : Type} {act : ι → State → State} (h : ∀ i s, Ended s (act i s)) (l : List ι) (s : State) :
    Ended s (forEach l act s) := forEach_rel .refl .trans h l s

theorem countP_lt_of_imp {α : Type} {p q : α → Bool} {l : List α} (himp : ∀ a ∈ l, p a = true → q a = true)
    (hex : ∃ a ∈ l, q a = true ∧ p a = false) : l.countP p < l.countP q := by
  obtain ⟨a, ha, hqa, hpa⟩ := hex
  obtain ⟨l₁, l₂, rfl⟩ := List.append_of_mem ha
  have hone : l₁.countP p ≤ l₁.countP q := List.countP_mono_left fun b hb => himp b (List.mem_append_left _ hb)
  have htwo : l₂.countP p ≤ l₂.countP q := List.countP_mono_left fun b hb =>
    himp b (List.mem_append_right _ (List.mem_cons_of_mem _ hb))
  rw [List.countP_append, List.countP_append, List.countP_cons_of_pos (p := q) hqa,
    List.countP_cons_of_neg (p := p) (by rw [hpa]; exact Bool.false_ne_true)]
  omega

theorem standingCount_replaced {q : AlarmRecord} {l : List AlarmRecord} (hq : q ∈ l) (hpair : q.pair = r.pair)
    (hstands : q.state ≠ .CLEARED_UNACK) (hstate : r.state = .CLEARED_UNACK) : standingCount (replaced r l) < standingCount l := by
  unfold standingCount replaced
  rw [List.countP_map]
  refine countP_lt_of_imp (fun a _ ha => ?_) ⟨q, hq, decide_eq_true hstands, ?_⟩
  · by_cases hfor : a.isFor r.kind r.subject = true
    · simp [hfor, hstate] at ha
    · simpa [hfor] using ha
  · simp [isFor_iff.mpr hpair, hstate]

theorem standingCount_without {l : List AlarmRecord} (hr : r ∈ l) (hstands : r.state ≠ .CLEARED_UNACK) :
    standingCount (without r.kind r.subject l) < standingCount l := by
  unfold standingCount without
  rw [List.countP_filter]
  refine countP_lt_of_imp (fun a _ ha => (Bool.and_eq_true_iff.mp ha).1) ⟨r, hr, decide_eq_true hstands, ?_⟩
  simp [isFor_iff.mpr (rfl : r.pair = (r.kind, r.subject))]

theorem Ended.dropRecord (hr : r ∈ s.al.records) (hstands : r.state ≠ .CLEARED_UNACK) : Ended s (dropRecord r s) := by
  refine .of_one (.dropRecord ..) ?_
  rw [dropRecord_al]
  exact standingCount_without hr hstands

theorem Ended.clearRecord (hr : r ∈ s.al.records) : Ended s (clearRecord r s) := by
  unfold Machine.clearRecord
  split
  · next hstate =>
    refine .of_one (.updateRecord ..) ?_
    rw [updateRecord_al]
    exact standingCount_replaced (r := { r with state := .CLEARED_UNACK }) hr rfl (by rw [hstate]; decide) rfl
  · next hstate => exact .dropRecord hr (by rw [hstate]; decide)
  · exact .refl s

theorem Ended.testListFull (s : State) : Ended s (testListFull s) := by
  unfold Machine.testListFull
  split
  · next r hr =>
    split
    · exact .clearRecord (findRecord_some hr).1
    · exact .refl s
  · exact .refl s

theorem Ended.clearAlarm (k : AlarmKind) (x : Nat) (s : State) : Ended s (clearAlarm k x s) := by
  unfold Machine.clearAlarm
  split
  · next r hr =>
    split
    · next hstate => exact (Ended.dropRecord (findRecord_some hr).1 (by rw [hstate]; decide)).trans (.testListFull _)
    · exact .clearRecord (findRecord_some hr).1
  · exact .refl s

/-- A list that meets its law holds at most one record beside the others: LIST_FULL. -/
theorem length_le_otherCount {l : List AlarmRecord} (h : ListLaw l) : l.length ≤ otherCount l + 1 := by
  have hfull : (l.filter fun r => decide (r.kind = .LIST_FULL)).length ≤ 1 := by
    match hm : l.filter fun r => decide (r.kind = .LIST_FULL) with
    | [] => rw [hm]; exact Nat.zero_le _
    | [_] => rw [hm]; exact le_rfl
    | a :: b :: m =>
      have hsub := h.fullLast.sublist (List.filter_sublist (p := fun r => decide (r.kind = .LIST_FULL)) (l := l))
      rw [hm] at hsub
      have ha : a ∈ l.filter fun r => decide (r.kind = .LIST_FULL) := by rw [hm]; exact List.mem_cons_self
      exact absurd (of_decide_eq_true (List.mem_filter.mp ha).2) (List.rel_of_pairwise_cons hsub List.mem_cons_self)
  have hsplit := List.length_eq_length_filter_add (l := l) fun r => decide (r.kind ≠ .LIST_FULL)
  unfold otherCount
  simp only [ne_eq, decide_not, Bool.not_not] at hsplit ⊢
  omega

theorem standingCount_le (h : AlarmLaw s) : standingCount s.al.records ≤ otherCount s.al.records + 1 :=
  List.countP_le_length.trans (length_le_otherCount ((alarmLaw_iff s).mp h))

end

end Sys2Proof.Proofs
end

section
/-! ## The blocks' entry actions (R127, R128, R145, R182) -/
namespace Sys2Proof.Proofs
open Sys2Proof Sys2Proof.Machine

set_option Elab.async false

/-- The part state of an entry into IN_SERVICE, with no frame sent on the ring yet. -/
abbrev opened (s : State) : State := setPart .IN_SERVICE (ringQuiet s)

/-- What MC's entry into the start mode leaves. -/
structure ModeBegun (s t : State) : Prop extends BlockFrame s t where
  cs : t.cs = s.cs
  rc : t.rc = s.rc
  ms : t.ms = s.ms
  gru : t.gru = startGru s
  mode : t.mc.mode = startMode s
  passages : t.mc.passages = s.mc.passages
  others : otherCount t.al.records ≤ otherCount s.al.records
  ended : Ended s t
  joined : QueuesJoined IsNotice s t

section
variable {s t : State}

theorem moded_begun (s : State) : ModeBegun s (moded s) where
  toBlockFrame := ⟨rfl, rfl, rfl, rfl, rfl, fun _ => rfl, rfl, rfl, rfl, rfl⟩
  cs := rfl
  rc := rfl
  ms := rfl
  gru := rfl
  mode := rfl
  passages := rfl
  others := le_rfl
  ended := ⟨le_rfl, .of_eq (fun _ => rfl) rfl⟩
  joined := .of_sp rfl

/-- Conditions that end leave what the entry into the mode made. -/
theorem ModeBegun.cleared (h : ModeBegun s t) {u : State} (frame : BlockFrame t u) (hcs : u.cs = t.cs) (hrc : u.rc = t.rc)
    (hms : u.ms = t.ms) (hgru : u.gru = t.gru) (hmode : u.mc.mode = t.mc.mode) (hpass : u.mc.passages = t.mc.passages)
    (hothers : otherCount u.al.records ≤ otherCount t.al.records) (hended : Ended t u) (hjoined : QueuesJoined IsNotice t u) :
    ModeBegun s u :=
  ⟨h.toBlockFrame.trans frame, hcs.trans h.cs, hrc.trans h.rc, hms.trans h.ms, hgru.trans h.gru, hmode.trans h.mode,
    hpass.trans h.passages, hothers.trans h.others, h.ended.trans hended, h.joined.trans hjoined⟩

theorem clearAtSea_eq (s : State) : clearAtSea s = { forEach allDoors (clearDoor .DOOR_OPEN_AT_SEA) s with
    mc := { (forEach allDoors (clearDoor .DOOR_OPEN_AT_SEA) s).mc with oas := Vector.replicate 96 ⟨0, false⟩ } } := rfl

theorem Ended.clearAtSea (s : State) : Ended s (clearAtSea s) := by
  have h : Ended s (Machine.forEach allDoors (clearDoor .DOOR_OPEN_AT_SEA) s) := .forEach (fun _ _ => .clearAlarm ..) _ s
  rw [clearAtSea_eq]
  generalize Machine.forEach allDoors (clearDoor .DOOR_OPEN_AT_SEA) s = t at h ⊢
  exact ⟨h.fewer, ⟨h.appended.port⟩⟩

theorem otherCount_forEach {ι : Type} {act : ι → State → State}
    (h : ∀ i s, otherCount (act i s).al.records ≤ otherCount s.al.records) (l : List ι) (s : State) :
    otherCount (forEach l act s).al.records ≤ otherCount s.al.records :=
  forEach_rel (R := fun s t => otherCount t.al.records ≤ otherCount s.al.records) (fun _ => le_rfl) (fun h g => g.trans h) h l s

theorem otherCount_clearAtSea (s : State) : otherCount (clearAtSea s).al.records ≤ otherCount s.al.records := by
  have h := otherCount_forEach (act := clearDoor .DOOR_OPEN_AT_SEA) (fun _ _ => otherCount_clearAlarm ..) allDoors s
  rw [clearAtSea_eq]
  generalize forEach allDoors (clearDoor .DOOR_OPEN_AT_SEA) s = t at h ⊢
  exact h

theorem modeTaken_begun (s : State) : ModeBegun s (modeTaken s) := by
  unfold modeTaken
  split
  · have sea := clearAtSea_cleared (moded s)
    exact (moded_begun s).cleared sea.toBlockFrame sea.cs sea.rc sea.ms sea.gru (by rw [sea.mc]) (by rw [sea.mc])
      (otherCount_clearAtSea _) (.clearAtSea _) sea.joined
  · exact moded_begun s

theorem ModeBegun.unlost (h : ModeBegun s t) : ModeBegun s (unlost t) := by
  unfold Proofs.unlost
  split
  · have frame := AlarmFrame.clearAlarm .BRIDGE_LOST noSubject (setBridgeLost false t)
    have hended := Ended.clearAlarm .BRIDGE_LOST noSubject (setBridgeLost false t)
    refine h.cleared (BlockFrame.trans (blockFrame_setBridgeLost false t) frame.toBlockFrame) frame.cs frame.rc ?_ frame.gru
      (by rw [frame.mc]; rfl) (by rw [frame.mc]; rfl) (otherCount_clearAlarm ..)
      ⟨hended.fewer, ⟨hended.appended.port⟩⟩ ⟨(clearAlarm_joined (setBridgeLost false t) _ _).port⟩
    exact ms_clearAlarm (by decide)
  · exact h

/-! ### The ring starts (R133, R145) -/

/-- RC after its entry: the report ages 0 and the first POLL out. -/
def startedRc (s : State) : Rc :=
  let aged : Rc := { s.rc with hpus := updAll s.rc.hpus fun _ x => { x with age := 0 } }
  match firstDoor s with
  | some d => { aged with txSeq := s.rc.txSeq + 1, polled := some d, pollEnded := false, replyLimit := 3 }
  | none => aged

/-- The pins after the entry: the first POLL left, and nothing else did on the ring. -/
def startedPins (s : State) : Pins :=
  match firstDoor s with
  | some d => { s.pins with ringOut := [ringFrameBytes (byteOf s.tables.doors[d].node) 0 1 s.rc.txSeq []] }
  | none => { s.pins with ringOut := [] }

/-- What the blocks' entry actions leave, before the summaries. -/
structure BlocksEntered (s t : State) : Prop where
  tables : t.tables = s.tables
  cfs : t.cfs = { s.cfs with part := .IN_SERVICE }
  seconds : t.seconds = s.seconds
  mode : t.mc.mode = startMode s
  line : t.mc.line = s.mc.line
  sea : t.mc.sea = s.mc.sea
  passages : t.mc.passages = s.mc.passages
  gru : t.gru = startGru s
  cs : t.cs = s.cs
  ms : t.ms = s.ms
  rc : t.rc = startedRc s
  pins : t.pins = startedPins s
  ports : ∀ q : PortIx, t.sp[q] = { s.sp[q] with
    queue := t.sp[q].queue, hbElapsed := if (s.row q).hbRequired = 1 then 0 else s.sp[q].hbElapsed }
  pacing : OnlyPacing s t
  joined : QueuesJoined IsNotice s t
  failed : ∀ h : HpuIx, s.hpuPresent h = true → s.rc.hpus[h].state = .FAILED → otherCount s.al.records ≤ 54 →
    Standing t .HPU_FAILED h.val
  appended : AlarmLaw s → otherCount s.al.records ≤ 20 → Appended 29 s t

theorem standing_raises {l : List HpuIx} (hnodup : l.Nodup) {h : HpuIx} (hmem : h ∈ l)
    (hroom : otherCount s.al.records + l.length ≤ 63) :
    Standing (forEach l (fun h => raiseAlarm .HPU_FAILED h.val) s) .HPU_FAILED h.val := by
  induction l generalizing s with
  | nil => exact absurd hmem List.not_mem_nil
  | cons x rest ih =>
    obtain ⟨hx, hrest⟩ := List.nodup_cons.mp hnodup
    rw [List.length_cons] at hroom
    show Standing (forEach rest (fun h => raiseAlarm .HPU_FAILED h.val) (raiseAlarm .HPU_FAILED x.val s)) .HPU_FAILED h.val
    rcases List.mem_cons.mp hmem with rfl | hmem
    · have hraised : Standing (raiseAlarm .HPU_FAILED h.val s) .HPU_FAILED h.val := standing_raiseAlarm (.inl (by omega))
      have honly : OnlyAlarms (raiseAlarm .HPU_FAILED h.val s) (forEach rest (fun h => raiseAlarm .HPU_FAILED h.val)
          (raiseAlarm .HPU_FAILED h.val s)) (rest.map fun x => (AlarmKind.HPU_FAILED, x.val)) :=
        onlyAlarms_forEach rest (fun i hi u => onlyAlarms_mono (onlyAlarms_raiseAlarm .HPU_FAILED i.val u)
          fun a ha => List.mem_map.mpr ⟨i, hi, (List.mem_singleton.mp ha).symm⟩) _
      refine standing_of_onlyAlarms honly (fun hm => ?_) (by decide) hraised
      obtain ⟨y, hy, hpair⟩ := List.mem_map.mp hm
      exact hx (Fin.ext (congrArg Prod.snd hpair) ▸ hy)
    · have := otherCount_raiseAlarm (s := s) .HPU_FAILED x.val
      exact ih hrest hmem (by omega)

theorem startPolling_eq (s : State) : startPolling s =
    match firstDoor s with
    | some d => { s with
        rc := { s.rc with txSeq := s.rc.txSeq + 1, polled := some d, pollEnded := false, replyLimit := 3 }
        pins := { s.pins with ringOut := s.pins.ringOut ++ [ringFrameBytes (byteOf s.tables.doors[d].node) 0 1 s.rc.txSeq []] } }
    | none => s := by
  unfold startPolling
  cases firstDoor s <;> rfl

theorem firstDoor_congr (h : t.tables = s.tables) : firstDoor t = firstDoor s := by
  unfold firstDoor
  exact congrArg (allDoors.find? ·) (funext fun d => isPresent_congr h d)

theorem startGru_resumed (s : State) : (startGru s).resumed = [] := by
  unfold startGru
  split <;> rfl

/-- The report ages at 0. -/
def aged (s : State) : State := { s with rc := { s.rc with hpus := updAll s.rc.hpus fun _ x => { x with age := 0 } } }

/-- R145: HPU_FAILED raised for each present HPU that is FAILED. -/
def failuresRaised (s : State) : State := forEach (failedHpus (aged s)) (fun h => raiseAlarm .HPU_FAILED h.val) (aged s)

theorem startRing_eq (s : State) : startRing s = startPolling (failuresRaised s) := rfl

theorem mem_failedHpus {h : HpuIx} : h ∈ failedHpus (aged s) ↔ s.hpuPresent h = true ∧ s.rc.hpus[h].state = .FAILED := by
  unfold failedHpus presentHpus
  rw [List.mem_filter, List.mem_filter, decide_eq_true_iff]
  have hstate : (aged s).rc.hpus[h].state = s.rc.hpus[h].state := by
    unfold aged
    simp only [Fin.getElem_fin, getElem_updAll]
  rw [hstate]
  exact ⟨fun ⟨⟨_, hp⟩, hf⟩ => ⟨hp, hf⟩, fun ⟨hp, hf⟩ => ⟨⟨List.mem_finRange h, hp⟩, hf⟩⟩

theorem failedHpus_nodup (s : State) : (failedHpus s).Nodup := ((List.nodup_finRange 8).filter _).filter _

theorem failedHpus_length (s : State) : (failedHpus s).length ≤ 8 := by
  unfold failedHpus presentHpus
  exact ((List.length_filter_le ..).trans (List.length_filter_le ..)).trans (List.length_finRange (n := 8)).le

theorem sp_startHeartbeats (q : PortIx) (s : State) : (startHeartbeats s).sp[q] =
    { s.sp[q] with hbElapsed := if (s.row q).hbRequired = 1 then 0 else s.sp[q].hbElapsed } := by
  unfold startHeartbeats
  simp only [Fin.getElem_fin, getElem_updAll]
  split <;> rfl

theorem enterBlocks_eq (h : AtRest s) (hheard : ∀ q : PortIx, s.sp[q].silent = false) :
    enterBlocks s = settleRuns (startRing (startHeartbeats (unlost (modeTaken (opened s))))) := by
  unfold enterBlocks
  rw [enterStartMode_atRest (s := opened s) (h.congr rfl rfl rfl rfl) rfl hheard]

theorem enterBlocks_entered (h : AtRest s) (hheard : ∀ q : PortIx, s.sp[q].silent = false) : BlocksEntered s (enterBlocks s) := by
  rw [enterBlocks_eq h hheard]
  have begun : ModeBegun (opened s) (unlost (modeTaken (opened s))) := (modeTaken_begun _).unlost
  generalize unlost (modeTaken (opened s)) = t at begun ⊢
  have hports (q : PortIx) := sp_startHeartbeats q t
  have hstarted : startHeartbeats t = { t with sp := (startHeartbeats t).sp } := rfl
  have frame : AlarmFrame (aged (startHeartbeats t)) (failuresRaised (startHeartbeats t)) := .forEach (fun _ _ => .raiseAlarm ..) _ _
  have hms : (failuresRaised (startHeartbeats t)).ms = (aged (startHeartbeats t)).ms :=
    forEach_rel (R := fun s t => t.ms = s.ms) (fun _ => rfl) (fun h g => g.trans h) (fun _ _ => ms_raiseAlarm ..) _ _
  have hjoined : QueuesJoined IsNotice (aged (startHeartbeats t)) (failuresRaised (startHeartbeats t)) :=
    .forEach (fun _ _ => raiseAlarm_joined ..) _ _
  have happended := Appended.raises (aged (startHeartbeats t)) .HPU_FAILED (failedHpus (aged (startHeartbeats t)))
  have hstanding (x : HpuIx) (hx : x ∈ failedHpus (aged (startHeartbeats t))) (hroom : otherCount t.al.records ≤ 54) :
      Standing (failuresRaised (startHeartbeats t)) .HPU_FAILED x.val :=
    standing_raises (failedHpus_nodup _) hx (by
      have := failedHpus_length (aged (startHeartbeats t))
      show otherCount t.al.records + _ ≤ 63
      omega)
  have hmem (x : HpuIx) : x ∈ failedHpus (aged (startHeartbeats t)) ↔ s.hpuPresent x = true ∧ s.rc.hpus[x].state = .FAILED := by
    rw [mem_failedHpus, show (startHeartbeats t).hpuPresent x = s.hpuPresent x from
      congrArg (fun v : Tables => v.hpuPresent x) begun.tables]
    show _ ∧ t.rc.hpus[x].state = _ ↔ _
    rw [begun.rc]
    rfl
  have hlen := failedHpus_length (aged (startHeartbeats t))
  rw [startRing_eq]
  change Appended _ _ (failuresRaised (startHeartbeats t)) at happended
  generalize failuresRaised (startHeartbeats t) = u at frame hms hjoined happended hstanding ⊢
  have hfirst : firstDoor u = firstDoor s := firstDoor_congr (frame.tables.trans begun.tables)
  have hgru : u.gru = startGru s := frame.gru.trans begun.gru
  have hrc : u.rc = { s.rc with hpus := updAll s.rc.hpus fun _ x => { x with age := 0 } } := by
    rw [frame.rc]
    show { t.rc with hpus := updAll t.rc.hpus fun _ x => { x with age := 0 } } = _
    rw [begun.rc]
    rfl
  have hpins : u.pins = { s.pins with ringOut := [] } := frame.pins.trans begun.pins
  have htables : u.tables = s.tables := frame.tables.trans begun.tables
  have hsp (q : PortIx) : u.sp[q] = { s.sp[q] with
      queue := u.sp[q].queue, hbElapsed := if (s.row q).hbRequired = 1 then 0 else s.sp[q].hbElapsed } := by
    rw [frame.queues q, show (aged (startHeartbeats t)).sp[q] = _ from hports q, begun.queues q, show t.row q = s.row q from congrArg (·.permits[q]) begun.tables]
    rfl
  have hqueue (q : PortIx) : (aged (startHeartbeats t)).sp[q].queue = t.sp[q].queue := by
    rw [show (aged (startHeartbeats t)).sp[q] = _ from hports q]
  have hib : u.ib = { s.ib with pacing := u.ib.pacing } := begun.pacing.trans frame.pacing
  have hjoin : QueuesJoined IsNotice s u := ⟨fun q => (begun.joined.port q).trans (by rw [← hqueue q]; exact hjoined.port q)⟩
  have hroom (hlaw : AlarmLaw s) (hcount : otherCount s.al.records ≤ 20) : Appended 29 s u := by
    have hle := standingCount_le hlaw
    have hpassed : Appended 0 t (aged (startHeartbeats t)) := .of_eq hqueue rfl
    have hmode : Appended (standingCount s.al.records - standingCount t.al.records) s t := ⟨begun.ended.appended.port⟩
    exact ((hmode.trans hpassed).trans happended).mono (by omega)
  have hsettled : settleRuns (startPolling u) = startPolling u := by
    refine settleRuns_of_resumed ?_
    rw [startPolling_eq]
    cases firstDoor u <;> exact (congrArg Gru.resumed hgru).trans (startGru_resumed s)
  rw [hsettled, startPolling_eq, hfirst]
  have hentered (v : State) (hvrc : v.rc = startedRc s) (hvpins : v.pins = startedPins s)
      (hv : v = { u with rc := v.rc, pins := v.pins }) : BlocksEntered s v := by
    rw [hvrc, hvpins] at hv
    subst hv
    exact { tables := htables, cfs := frame.cfs.trans begun.cfs, seconds := frame.seconds.trans begun.seconds
            mode := (congrArg Mc.mode frame.mc).trans begun.mode, line := frame.line.trans begun.line
            sea := frame.sea.trans begun.sea, passages := (congrArg Mc.passages frame.mc).trans begun.passages
            gru := hgru, cs := frame.cs.trans begun.cs, ms := hms.trans begun.ms, rc := rfl, pins := rfl, ports := hsp
            pacing := hib, joined := ⟨hjoin.port⟩
            failed := fun x hp hf hc => hstanding x ((hmem x).mpr ⟨hp, hf⟩) (begun.others.trans hc)
            appended := fun hlaw hc => ⟨(hroom hlaw hc).port⟩ }
  unfold startedRc startedPins at hentered
  cases hd : firstDoor s with
  | none =>
    rw [hd] at hentered
    exact hentered u hrc hpins rfl
  | some d =>
    rw [hd] at hentered
    refine hentered _ ?_ ?_ rfl
    · simp only [hrc]
    · simp only [hpins, hrc, htables, List.nil_append]

end

end Sys2Proof.Proofs
end

section
/-! ## The summaries of an entry into IN_SERVICE (R148 to R150) -/
namespace Sys2Proof.Proofs
open Sys2Proof Sys2Proof.Machine

set_option Elab.async false

section
variable {s t u : State} {p q : PortIx}

/-- What a ZONE_SUMMARY is built from stands. -/
theorem zoneSummary_congr (htables : t.tables = s.tables) (hcomps : t.ib.comps = s.ib.comps) (hrc : t.rc.reported = s.rc.reported)
    (hmode : t.mc.mode = s.mc.mode) (hal : t.al.records = s.al.records) : zoneSummary t p = zoneSummary s p := by
  have hpresent : t.presentDoors = s.presentDoors := List.filter_congr fun d _ => isPresent_congr htables d
  have hcount (i : Indication) : countShowing t i = countShowing s i := by
    unfold countShowing State.position
    rw [hpresent, hrc]
  have hbyte (m : Fin 16) : summaryByte t p m = summaryByte s p m := by
    unfold summaryByte summaryCode watches State.row
    rw [htables, hcomps]
  unfold zoneSummary
  rw [hcount, hcount, hcount, hcount, hmode, hal, List.map_congr_left fun m _ => hbyte m]

/-- What is sent with one ZONE_SUMMARY at each port of a list. -/
structure SummariesSent (l : List PortIx) (s t : State) : Prop where
  state : t = { s with sp := t.sp, ib := t.ib, freeCount := t.freeCount }
  queues : OnlyQueues s t
  pacing : OnlyPacing s t
  queue : ∀ q : PortIx, t.sp[q].queue = if q ∈ l then placedIn (zoneSummary s q) s.sp[q].queue else s.sp[q].queue
  elapsed : ∀ q ∈ l, t.ib.pacing[q].elapsed = 0
  begun : ∀ q ∈ l, s.sp[q].queue.length < queueSize → t.ib.pacing[q] = ⟨0, false⟩
  others : ∀ q : PortIx, q ∉ l → t.ib.pacing[q] = s.ib.pacing[q]

theorem sendSummary_sent (p : PortIx) (s : State) : SummariesSent [p] s (sendSummary p s) := by
  have frame := PlaceFrame.place p (zoneSummary s p) s
  have hplaced : place p (zoneSummary s p) s =
      { s with sp := (place p (zoneSummary s p) s).sp, ib := (place p (zoneSummary s p) s).ib } := by
    have hstate := state_of_alarmFrame frame.toAlarmFrame
    rw [frame.al, frame.ms] at hstate
    exact hstate
  have hqueue (q : PortIx) := queue_place p q (zoneSummary s p) s
  have hpacing {q : PortIx} (h : p ≠ q) := pacing_place_of_ne (zoneSummary s p) s h
  have hsent (n : Nat) (x : Pacing) (hx : x.elapsed = 0) (hroom : s.sp[p].queue.length < queueSize → x = ⟨0, false⟩) :
      SummariesSent [p] s (State.setPacing { place p (zoneSummary s p) s with freeCount := n } p x) := by
    have hself (q : PortIx) (hq : q ∈ [p]) :
        (State.setPacing { place p (zoneSummary s p) s with freeCount := n } p x).ib.pacing[q] = x := by
      rw [List.mem_singleton.mp hq]
      simp [State.setPacing]
    refine { state := ?_, queues := frame.queues, pacing := ?_, queue := fun q => ?_, elapsed := fun q hq => ?_,
             begun := fun q hq hr => ?_, others := fun q hq => ?_ }
    · rw [hplaced]; rfl
    · have hp := frame.pacing
      generalize place p (zoneSummary s p) s = v at hp ⊢
      unfold OnlyPacing State.setPacing
      rw [hp]
    · refine (hqueue q).trans ?_
      by_cases hpq : p = q
      · subst hpq; simp
      · simp [hpq, Ne.symm hpq]
    · rw [hself q hq]; exact hx
    · rw [hself q hq]; exact hroom (List.mem_singleton.mp hq ▸ hr)
    · have hne : p ≠ q := fun h => hq (List.mem_singleton.mpr h.symm)
      have hval : p.val ≠ q.val := fun h => hne (Fin.ext h)
      refine Eq.trans ?_ (hpacing hne)
      simp [State.setPacing, hval]
  unfold sendSummary
  split
  · next hdrops =>
    refine hsent _ _ rfl fun hroom => ?_
    unfold dropsSummary placing at hdrops
    rw [if_pos hroom] at hdrops
    cases hdrops
  · exact hsent (place p (zoneSummary s p) s).freeCount _ rfl fun _ => rfl

theorem SummariesSent.zoneSummary (h : SummariesSent l s t) : Machine.zoneSummary t q = Machine.zoneSummary s q := by
  have hcomps : t.ib.comps = s.ib.comps := by rw [h.pacing]
  have hstate := h.state
  generalize t.sp = sp, t.ib = ib, t.freeCount = n at hstate hcomps
  subst hstate
  exact zoneSummary_congr rfl hcomps rfl rfl rfl

theorem summaries_sent {l : List PortIx} (hnodup : l.Nodup) (s : State) : SummariesSent l s (forEach l sendSummary s) := by
  induction l generalizing s with
  | nil => exact ⟨rfl, fun _ => rfl, rfl, fun _ => rfl, nofun, nofun, fun _ _ => rfl⟩
  | cons p rest ih =>
    obtain ⟨hp, hrest⟩ := List.nodup_cons.mp hnodup
    have h := sendSummary_sent p s
    have g : SummariesSent rest (sendSummary p s) (forEach (p :: rest) sendSummary s) := ih hrest _
    generalize forEach (p :: rest) sendSummary s = u at g ⊢
    generalize sendSummary p s = t at h g
    have hsame {q : PortIx} (hq : q ∉ [p]) : t.sp[q].queue = s.sp[q].queue := by rw [h.queue q, if_neg hq]
    refine { state := ?_, queues := OnlyQueues.trans h.queues g.queues, pacing := OnlyPacing.trans h.pacing g.pacing,
             queue := fun q => ?_, elapsed := fun q hq => ?_, begun := fun q hq hroom => ?_, others := fun q hq => ?_ }
    · rw [g.state, h.state]
    · rw [g.queue q, h.zoneSummary, h.queue q]
      by_cases hpq : q = p
      · subst hpq; simp [hp]
      · simp [hpq]
    · by_cases hr : q ∈ rest
      · exact g.elapsed q hr
      · rw [g.others q hr]
        exact h.elapsed q (List.mem_singleton.mpr ((List.mem_cons.mp hq).resolve_right hr))
    · by_cases hr : q ∈ rest
      · exact g.begun q hr (by rw [hsame (fun hm => hp (List.mem_singleton.mp hm ▸ hr))]; exact hroom)
      · rw [g.others q hr]
        exact h.begun q (List.mem_singleton.mpr ((List.mem_cons.mp hq).resolve_right hr)) hroom
    · rw [List.mem_cons, not_or] at hq
      rw [g.others q hq.2, h.others q (fun hm => hq.1 (List.mem_singleton.mp hm))]

theorem sendSummaries_sent (s : State) : SummariesSent (allPorts.filter (hasMask s)) s (sendSummaries s) :=
  summaries_sent ((List.nodup_finRange 8).filter _) s

theorem mem_masked : q ∈ allPorts.filter (hasMask s) ↔ (s.row q).summaryMask ≠ 0 := by
  unfold hasMask
  rw [List.mem_filter, decide_eq_true_iff]
  exact ⟨fun h => h.2, fun h => ⟨List.mem_finRange q, h⟩⟩

end

end Sys2Proof.Proofs
end

section
/-! ## COMMISSION (O39) -/
namespace Sys2Proof.Proofs
open Sys2Proof Sys2Proof.Machine

set_option Elab.async false

section
variable {s t u b : State} {p q : PortIx}

theorem isSummary_of_notice {f : Frame} (h : IsNotice f) : f.isSummary = false := by simp [Frame.isSummary, h]

theorem summariesAt_append {l : List Frame} (hl : ∀ f ∈ l, IsNotice f) (hq : t.sp[q].queue = s.sp[q].queue ++ l) :
    summariesAt t q = summariesAt s q := by
  have hnone : l.filter Frame.isSummary = [] := List.filter_eq_nil_iff.mpr fun f hf => by
    rw [isSummary_of_notice (hl f hf)]
    exact Bool.false_ne_true
  unfold summariesAt
  rw [hq, List.filter_append, hnone, List.append_nil]

/-- The entry of the blocks, then the summaries, and a RESULT at one port before or after them. -/
structure ServiceTaken (b t : State) : Prop where
  state : t = { b with sp := t.sp, ib := t.ib, freeCount := t.freeCount }
  queues : OnlyQueues b t
  pacing : OnlyPacing b t
  elapsed : ∀ q : PortIx, (b.row q).summaryMask ≠ 0 → t.ib.pacing[q].elapsed = 0
  summaries : ∀ q : PortIx, b.sp[q].queue.length + 2 ≤ 64 →
    summariesAt t q = summariesAt b q ++ (if (b.row q).summaryMask = 0 then [] else [zoneSummary t q])
    ∧ ((b.row q).summaryMask ≠ 0 → t.ib.pacing[q] = ⟨0, false⟩)

theorem place_state (p : PortIx) (f : Frame) (s : State) : place p f s = { s with sp := (place p f s).sp, ib := (place p f s).ib } := by
  have frame := PlaceFrame.place p f s
  have h := state_of_alarmFrame frame.toAlarmFrame
  rwa [frame.al, frame.ms] at h

theorem summaries_of_sent (h : SummariesSent (allPorts.filter (hasMask s)) s t) (hroom : s.sp[q].queue.length < queueSize) :
    summariesAt t q = summariesAt s q ++ (if (s.row q).summaryMask = 0 then [] else [zoneSummary t q])
    ∧ ((s.row q).summaryMask ≠ 0 → t.ib.pacing[q] = ⟨0, false⟩) := by
  refine ⟨?_, fun hm => h.begun q (mem_masked.mpr hm) hroom⟩
  unfold summariesAt
  rw [h.queue q, h.zoneSummary]
  by_cases hm : (s.row q).summaryMask = 0
  · rw [if_neg (fun hmem => mem_masked.mp hmem hm), if_pos hm, List.append_nil]
  · rw [if_pos (mem_masked.mpr hm), if_neg hm, placedIn_of_room hroom, List.filter_append]
    rfl

theorem elapsed_place (f : Frame) (s : State) : (place p f s).ib.pacing[q].elapsed = s.ib.pacing[q].elapsed :=
  (ElapsedStands.place ..).port q

theorem pacing_place_of_room {f : Frame} (h : s.sp[q].queue.length < queueSize) : (place p f s).ib.pacing[q] = s.ib.pacing[q] := by
  by_cases hpq : p = q
  · subst hpq; rw [place_of_room h]; rfl
  · exact pacing_place_of_ne f s hpq

theorem summariesAt_place_result {f : Frame} (hf : f.isSummary = false) (h : s.sp[q].queue.length < queueSize) :
    summariesAt (place p f s) q = summariesAt s q := by
  unfold summariesAt
  rw [queue_place]
  split
  · rw [placedIn_of_room h, List.filter_append, List.filter_singleton, hf]
    exact List.append_nil _
  · rfl

theorem length_queue_place (f : Frame) (s : State) : (place p f s).sp[q].queue.length ≤ s.sp[q].queue.length + 1 :=
  (Grown.place p f s).port q

theorem zoneSummary_place (f : Frame) (s : State) : zoneSummary (place p f s) q = zoneSummary s q := by
  have frame := PlaceFrame.place p f s
  refine zoneSummary_congr frame.tables ?_ (by rw [frame.rc]) frame.mode (by rw [frame.al])
  rw [frame.pacing]

theorem taken_of_last (h : SummariesSent (allPorts.filter (hasMask b)) b t) {f : Frame} (hf : f.isSummary = false) :
    ServiceTaken b (place p f t) := by
  have frame := PlaceFrame.place p f t
  refine { state := ?_, queues := OnlyQueues.trans h.queues frame.queues, pacing := OnlyPacing.trans h.pacing frame.pacing,
           elapsed := fun q hm => (elapsed_place f t).trans (h.elapsed q (mem_masked.mpr hm)), summaries := fun q hq => ?_ }
  · rw [place_state, h.state]
  · have hlen : t.sp[q].queue.length ≤ b.sp[q].queue.length + 1 := by
      rw [h.queue q]
      split
      · exact length_placedIn_succ ..
      · omega
    have hroom : t.sp[q].queue.length < queueSize := by unfold queueSize; omega
    rw [summariesAt_place_result hf hroom, pacing_place_of_room hroom, zoneSummary_place]
    exact summaries_of_sent h (by unfold queueSize; omega)

theorem taken_of_first {f : Frame} (hf : f.isSummary = false)
    (h : SummariesSent (allPorts.filter (hasMask b)) (place p f b) t) : ServiceTaken b t := by
  have frame := PlaceFrame.place p f b
  have hmask : allPorts.filter (hasMask (place p f b)) = allPorts.filter (hasMask b) := by
    unfold hasMask State.row
    rw [frame.tables]
  have hrow (q : PortIx) : (place p f b).row q = b.row q := congrArg (·.permits[q]) frame.tables
  rw [← hmask] at h
  refine { state := ?_, queues := OnlyQueues.trans frame.queues h.queues, pacing := OnlyPacing.trans frame.pacing h.pacing,
           elapsed := fun q hm => h.elapsed q (mem_masked.mpr (by rwa [hrow])), summaries := fun q hq => ?_ }
  · rw [h.state, place_state]
  · have hlen := length_queue_place (p := p) (q := q) f b
    have hsent := summaries_of_sent h (q := q) (by unfold queueSize; omega)
    rwa [summariesAt_place_result hf (by unfold queueSize; omega), hrow] at hsent

/-- R182: the RESULT stands before or after the summaries (entry 3). -/
theorem commissionTaken_cases (p : PortIx) (s : State) : ∃ n : Nat, ∃ b : State, b = { enterBlocks s with freeCount := n }
    ∧ (commissionTaken p s = answerDone p 13 false [] (sendSummaries b)
      ∨ commissionTaken p s = sendSummaries (answerDone p 13 false [] b)) := by
  unfold commissionTaken
  generalize enterBlocks s = t
  by_cases hmask : hasMask t p = true
  · simp only [freeChoice, hmask, if_true]
    by_cases hfirst : Config.resultBeforeSummary t.freeCount = true
    · exact ⟨t.freeCount + 1, _, rfl, .inr (if_pos hfirst)⟩
    · exact ⟨t.freeCount + 1, _, rfl, .inl (if_neg hfirst)⟩
  · exact ⟨t.freeCount, _, rfl, .inl (if_neg hmask)⟩

theorem lasts_result (kind : Nat) (code : ResultCode) (c : Bool) (data : List Byte) : lasts (resultFrame kind code c data) :=
  ⟨rfl, rfl⟩

theorem stands_zoneSummary (s : State) (q : PortIx) : stands (zoneSummary s q) = false := rfl

/-- What a COMMISSION leaves of the blocks as they entered. -/
theorem taken_of_cases (h : t = answerDone p 13 false [] (sendSummaries b) ∨ t = sendSummaries (answerDone p 13 false [] b)) :
    ServiceTaken b t ∧ (b.sp[p].queue.countP stands < queueSize → resultFrame 13 .DONE false [] ∈ t.sp[p].queue) := by
  obtain rfl | rfl := h
  · refine ⟨taken_of_last (sendSummaries_sent b) rfl, fun hroom => ?_⟩
    unfold answerDone
    rw [queue_place, if_pos rfl]
    refine mem_placedIn_self ?_
    rw [(sendSummaries_sent b).queue p]
    split
    · rwa [countP_placedIn (stands_zoneSummary ..)]
    · exact hroom
  · have hmask : allPorts.filter (hasMask (answerDone p 13 false [] b)) = allPorts.filter (hasMask b) := by
      unfold hasMask State.row
      rw [show (answerDone p 13 false [] b).tables = b.tables from (PlaceFrame.place ..).tables]
    have hsent := sendSummaries_sent (answerDone p 13 false [] b)
    rw [hmask] at hsent
    refine ⟨taken_of_first rfl hsent, fun hroom => ?_⟩
    have hplaced : resultFrame 13 .DONE false [] ∈ (answerDone p 13 false [] b).sp[p].queue := by
      unfold answerDone
      rw [queue_place, if_pos rfl]
      exact mem_placedIn_self hroom
    rw [hsent.queue p]
    split
    · exact mem_placedIn (lasts_result ..) hplaced
    · exact hplaced

theorem startGru_slotS (s : State) : (startGru s).slots[slotS] = startRun s := by
  unfold startGru
  split
  · next h =>
    have hnone : startRun s = none := by unfold startRun; rw [h]
    rw [hnone]
    simp
  · simp

theorem startGru_idle (h : AtRest s) {i : SlotIx} (hi : i ≠ slotS) : (startGru s).slots[i] = none := by
  have hval : (slotS : SlotIx).val ≠ i.val := fun he => hi (Fin.ext he.symm)
  unfold startGru
  split
  · simp
  · simp only [Fin.getElem_fin, Vector.getElem_set, hval, if_false]
    exact h.slot i

theorem startGru_stack (h : AtRest s) : (startGru s).stack = [] := by
  unfold startGru
  split
  · rfl
  · exact h.stack

theorem startedRc_fields (s : State) : (startedRc s).reported = s.rc.reported ∧ (startedRc s).filter = s.rc.filter
    ∧ (∀ h : HpuIx, (startedRc s).hpus[h] = { s.rc.hpus[h] with age := 0 }) := by
  unfold startedRc
  cases firstDoor s <;> exact ⟨rfl, rfl, fun h => by simp⟩

/-- What the blocks' entry actions and the summaries leave together. -/
theorem enteredService (hrest : AtRest s) (hpolled : s.rc.polled = none) (hb : BlocksEntered s b) (ht : ServiceTaken b t) :
    EnteredService s t := by
  obtain ⟨hreported, hfilter, hhpus⟩ := startedRc_fields s
  have hrow (q : PortIx) : b.row q = s.row q := congrArg (·.permits[q]) hb.tables
  have hcfs : t.cfs = b.cfs := by rw [ht.state]
  have htables : t.tables = b.tables := by rw [ht.state]
  have hmc : t.mc = b.mc := by rw [ht.state]
  have hgru : t.gru = startGru s := by rw [ht.state]; exact hb.gru
  have hcs : t.cs = s.cs := by rw [ht.state]; exact hb.cs
  have hrc : t.rc = startedRc s := by rw [ht.state]; exact hb.rc
  have hpins : t.pins = startedPins s := by rw [ht.state]; exact hb.pins
  have hms : t.ms = s.ms := by rw [ht.state]; exact hb.ms
  have hal : t.al = b.al := by rw [ht.state]
  have hpoll : t.rc.polled = firstDoor s := by
    rw [hrc]
    unfold startedRc
    cases firstDoor s with
    | none => exact hpolled
    | some d => rfl
  refine ⟨by rw [hcfs, hb.cfs], htables.trans hb.tables, by rw [hmc]; exact hb.mode, by rw [hmc]; exact hb.line,
    by rw [hgru]; exact startGru_slotS s, fun i hi => (congrArg (fun v : Gru => v.slots[i]) hgru).trans (startGru_idle hrest hi),
    by rw [hgru]; exact startGru_stack hrest, fun d => ⟨?_, ?_⟩, by rw [hcs], fun h => by rw [hrc]; exact hhpus h, hpoll,
    fun d hd => ?_, fun q hq => ?_, fun q hq => ht.elapsed q (by rwa [hrow]), by rw [hrc]; exact hreported,
    by rw [hrc]; exact hfilter, hms, by rw [hmc]; exact hb.sea, fun h hp hf hc => (standing_congr hal).mpr (hb.failed h hp hf hc),
    fun hlaw hcount q hq => ?_⟩
  · unfold State.entry
    rw [hcs]
    exact hrest.entry d
  · unfold State.passage
    rw [hmc, hb.passages]
    exact hrest.passage d
  · have hsome : firstDoor s = some d := hd
    rw [hrc, hpins]
    unfold startedRc startedPins
    rw [hsome]
    exact ⟨rfl, rfl, rfl⟩
  · rw [ht.queues q, hb.ports q, if_pos hq]
  · have happ := hb.appended hlaw hcount
    obtain ⟨⟨l, hl, hnotices, hqueue⟩, -⟩ := happ.port q (by omega)
    obtain ⟨hsum, hpace⟩ := ht.summaries q (by rw [hqueue, List.length_append]; omega)
    rw [hrow] at hsum hpace
    rw [hsum, summariesAt_append hnotices hqueue]
    exact ⟨rfl, hpace⟩

theorem sp_acceptFrame_port (p q : PortIx) (s : State) : (acceptFrame p s).sp[q] =
    if p = q then { s.sp[q] with rx := .HUNT, accepted := count16 s.sp[q].accepted } else s.sp[q] := by
  unfold acceptFrame
  simp only [State.modPort_sp, Fin.getElem_fin, getElem_upd, Fin.val_inj]
  split
  · next h => subst h; rfl
  · rfl

theorem silent_acceptFrame (p q : PortIx) (s : State) : (acceptFrame p s).sp[q].silent = s.sp[q].silent := by
  rw [sp_acceptFrame_port]
  split <;> rfl

theorem BlocksEntered.chosen (h : BlocksEntered s b) (n : Nat) : BlocksEntered s { b with freeCount := n } where
  tables := h.tables
  cfs := h.cfs
  seconds := h.seconds
  mode := h.mode
  line := h.line
  sea := h.sea
  passages := h.passages
  gru := h.gru
  cs := h.cs
  ms := h.ms
  rc := h.rc
  pins := h.pins
  ports := h.ports
  pacing := h.pacing
  joined := ⟨h.joined.port⟩
  failed := h.failed
  appended hlaw hc := ⟨(h.appended hlaw hc).port⟩

theorem exec_commission (h : ManagesStore s p) : exec (.commission p) s = .next (commission p (acceptFrame p s)) := by
  rw [exec_awake h.1.1 rfl, decide_exclusive _ h]

end

/-- Settles O39: the entry of the blocks of a part at rest, then the summaries and the RESULT. -/
theorem commissioned : Obligations.Commissioned := by
  intro p s h u
  refine ⟨fun hin => ?_, fun hout r hr => ?_, fun hout hchecks hquiet hheard hpass => ?_⟩
  · rw [exec_commission h]
    exact congrArg _ (if_pos hin)
  · rw [exec_commission h]
    unfold commission
    rw [if_neg (by rw [show (acceptFrame p s).inService = _ from hout]; exact Bool.false_ne_true),
      show commissionChecks (acceptFrame p s).tables = _ from Option.mem_def.mp hr]
    rfl
  · have hcommission : commission p u = commissionTaken p u := by
      unfold commission
      rw [if_neg (by rw [show u.inService = _ from hout]; exact Bool.false_ne_true), show commissionChecks u.tables = _ from hchecks]
    refine ends_of ((exec_commission h).trans (congrArg _ hcommission)) ?_
    obtain ⟨-, hentry, hslots, hstack, hpolled⟩ := hquiet.2 hout
    have hrest : AtRest u := ⟨hentry, hpass, hslots, hstack⟩
    have hsilent (q : PortIx) : u.sp[q].silent = false := (silent_acceptFrame p q s).trans (hheard q)
    have entered : BlocksEntered u (enterBlocks u) := enterBlocks_entered hrest hsilent
    obtain ⟨n, b, hb, hcases⟩ := commissionTaken_cases p u
    generalize commissionTaken p u = t at hcases ⊢
    generalize enterBlocks u = e at entered hb
    have hbentered : BlocksEntered u b := hb ▸ entered.chosen n
    obtain ⟨taken, hresult⟩ := taken_of_cases hcases
    obtain ⟨hpart, htables, hmode, hline, hslotS, hidle, hstack, hdoors, harrival, hhpus, hpoll, hfirst, hwindow, helapsed,
      hreported, hfilter, hms, hsea, hfailed, hsummaries⟩ := enteredService hrest hpolled hbentered taken
    have hqueue (q : PortIx) : u.sp[q].queue = s.sp[q].queue := queue_acceptFrame p q s
    refine ⟨⟨hpart, htables, hmode, hline, hslotS, hidle, hstack, hdoors, harrival, hhpus, hpoll, hfirst, hwindow, helapsed,
      hreported, hfilter, hms, hsea, hfailed, fun hlaw hcount q hq => ?_⟩, ?_, fun hroom => hresult ?_, ?_, ?_⟩
    · have hsum := hsummaries hlaw hcount q (by rw [hqueue]; exact hq)
      unfold summariesAt at hsum ⊢
      rwa [hqueue] at hsum
    · rw [taken.state]
      exact hbentered.cfs
    · rw [(hbentered.joined.port p).countP_stands, hqueue]
      have := List.countP_le_length (p := stands) (l := s.sp[p].queue)
      unfold queueSize
      omega
    · rw [taken.state]
      exact hbentered.seconds
    · rw [taken.queues p, hbentered.ports p]
      show u.sp[p].accepted = _
      rw [show u.sp[p] = _ from sp_acceptFrame]
      rfl

end Sys2Proof.Proofs
end

section
/-! ## What a start leaves, before and after the entry into IN_SERVICE (R17, R184 to R187) -/
namespace Sys2Proof.Proofs
open Sys2Proof Sys2Proof.Machine

set_option Elab.async false

/-- RC as every start leaves it: no poll out, the counters kept. -/
def idleRc (k : State) : Rc :=
  { reported := Vector.replicate 96 Reported.start, hpus := Vector.replicate 8 HpuReported.start
    east := { k.rc.east with rx := .HUNT }, west := { k.rc.west with rx := .HUNT }
    secondCopies := k.rc.secondCopies, loopMisses := k.rc.loopMisses, txSeq := 0
    filter := Vector.replicate 126 none, polled := none, pollEnded := true, replyLimit := 0, orders := []
    loop := none, incomplete := 0, interval := 0 }

/-- A frame of a start: a notice or a summary. -/
abbrev IsStartFrame (f : Frame) : Prop := f.kind = .ALARM_NOTICE ∨ f.kind = .ZONE_SUMMARY

/-- What a start has made of a part whose kept fields are those of `k`, with the records raised so far: not yet, or not at
all, in service, or in service (`serves`). -/
structure Begun (serves : Bool) (k t : State) (records : List AlarmRecord) : Prop where
  tables : t.tables = k.tables
  seconds : t.seconds = k.seconds
  cfs : t.cfs = { k.cfs with part := if serves then .IN_SERVICE else .UNCONFIGURED, restartPending := false }
  entry : ∀ d : DoorIx, t.entry d = none
  arrival : t.cs.nextArrival = 0
  flow : ∀ h : HpuIx, t.cs.flow[h] = ⟨0, effectiveCapacity t h, false⟩
  doors : ∀ d : DoorIx, t.ms.doors[d] = { k.ms.doors[d] with latch := .NONE }
  repeats : t.ms.moveRepeats = k.ms.moveRepeats
  mc : t.mc = { mode := if serves then startMode t else .LOCAL, line := k.pins.emClose
                passages := Vector.replicate 96 none, sea := k.mc.sea, oas := Vector.replicate 96 ⟨0, false⟩
                bridgeLost := false }
  comps : ∀ c : CompIx, t.ib.comps[c] = compIndication t c
  ib : t.ib = { comps := t.ib.comps, allClosed := false, pacing := Vector.replicate 8 ⟨0, false⟩, sending := none
                snapNumber := 0, buffer := [] }
  al : t.al = ⟨records, k.al.lost, decide (records ≠ [])⟩
  ports : ∀ q : PortIx, t.sp[q] = { k.sp[q] with rx := .HUNT, queue := t.sp[q].queue, part := none, partGone := false
                                                 hbElapsed := 0, silent := false }
  frames : ∀ q : PortIx, ∀ f ∈ t.sp[q].queue, IsStartFrame f
  room : ∀ q : PortIx, t.sp[q].queue.length ≤ records.length + if serves then 1 else 0
  summaries : ∀ q : PortIx, (summariesAt t q).length = if serves ∧ (k.row q).summaryMask ≠ 0 then 1 else 0
  gru : t.gru = { slots := (Vector.replicate 5 none).set slotS (if serves then startRun { t with gru := k.gru } else none)
                  slotting := [], stack := [], resumed := []
                  counter := if serves ∧ startMode t ≠ .LOCAL then k.gru.counter + 1 else k.gru.counter }
  rest : serves = false → t.rc = idleRc k ∧ t.pins = k.pins
  polling : serves = true → ∃ d ∈ firstDoor k,
    t.rc = { idleRc k with txSeq := 1, polled := some d, pollEnded := false, replyLimit := 3 }
    ∧ t.pins = { k.pins with ringOut := [ringFrameBytes (byteOf k.tables.doors[d].node) 0 1 0 []] }

section
variable {k s t : State} {b : Bool} {records : List AlarmRecord}

/-- A start that has ended, as the obligations name it. -/
theorem Begun.started (h : Begun b k t records) (hb : b = decide (commissionChecks k.tables = none)) : Started k t records := by
  have hiff : (b = true) = (commissionChecks k.tables = none) := by rw [hb, decide_eq_true_eq]
  have hcfs := h.cfs
  have hmc := h.mc
  have hsum := h.summaries
  have hgru := h.gru
  simp only [hiff] at hcfs hmc hsum hgru
  refine ⟨h.tables, h.seconds, hcfs, h.entry, h.arrival, h.flow, h.doors, h.repeats, hmc, h.comps, h.ib, h.al, h.ports, h.frames,
    hsum, hgru, fun hno => h.rest ?_, fun hyes => h.polling ?_⟩
  · rw [← hiff] at hno
    exact Bool.eq_false_iff.mpr hno
  · rwa [hiff]

/-- Notices alone, and a list written beside them. -/
theorem Begun.noticed (h : Begun b k t records) {u : State} {more : List AlarmRecord} {n : Nat}
    (hu : u = { t with al := ⟨more, k.al.lost, decide (more ≠ [])⟩, sp := u.sp }) (hqueues : OnlyQueues t u)
    (hjoin : ∀ q : PortIx, ∃ l : List Frame, l.length ≤ n ∧ (∀ f ∈ l, IsNotice f) ∧ u.sp[q].queue = t.sp[q].queue ++ l)
    (hmore : records.length + n = more.length) : Begun b k u more := by
  have hports (q : PortIx) : u.sp[q] = { k.sp[q] with rx := .HUNT, queue := u.sp[q].queue, part := none, partGone := false,
                                                        hbElapsed := 0, silent := false } := by rw [hqueues q, h.ports q]
  have hframes (q : PortIx) : (∀ f ∈ u.sp[q].queue, IsStartFrame f) ∧ u.sp[q].queue.length ≤ more.length + (if b then 1 else 0)
      ∧ (summariesAt u q).length = if b ∧ (k.row q).summaryMask ≠ 0 then 1 else 0 := by
    obtain ⟨l, hl, hnotices, hq⟩ := hjoin q
    refine ⟨fun f hf => ?_, ?_, ?_⟩
    · rw [hq] at hf
      exact (List.mem_append.mp hf).elim (h.frames q f) fun hm => .inl (hnotices f hm)
    · have := h.room q
      rw [hq, List.length_append]
      omega
    · rw [summariesAt_append hnotices hq, h.summaries q]
  generalize u.sp = sp at hu hports hframes
  subst hu
  exact { tables := h.tables, seconds := h.seconds, cfs := h.cfs, entry := h.entry, arrival := h.arrival, flow := h.flow
          doors := h.doors, repeats := h.repeats, mc := h.mc, comps := h.comps, ib := h.ib, al := rfl, ports := hports
          frames := fun q => (hframes q).1, room := fun q => (hframes q).2.1, summaries := fun q => (hframes q).2.2
          gru := h.gru, rest := h.rest, polling := h.polling }

theorem inserted_new {r : AlarmRecord} (hr : r.kind ≠ .LIST_FULL) (h : ∀ q ∈ records, q.kind ≠ .LIST_FULL) :
    inserted records r = records ++ [r] := by
  have hkeep : records.filter (fun q => decide (q.kind ≠ .LIST_FULL)) = records :=
    List.filter_eq_self.mpr fun q hq => decide_eq_true (h q hq)
  have hnone : records.filter (fun q => decide (q.kind = .LIST_FULL)) = [] :=
    List.filter_eq_nil_iff.mpr fun q hq => by rw [decide_eq_true_eq]; exact h q hq
  rw [inserted_of_other _ hr, hkeep, hnone, List.append_nil]

/-- A condition raised where no record of it stands (R107, R184). -/
theorem Begun.raise (h : Begun b k t records) {kind : AlarmKind} (hk : kind ≠ .LIST_FULL)
    (hnew : ∀ r ∈ records, r.kind ≠ kind ∧ r.kind ≠ .LIST_FULL) (hfew : records.length ≤ 60) :
    Begun b k (raiseAlarm kind noSubject t) (records ++ [freshRecord kind noSubject k.seconds]) := by
  have hrecords : t.al.records = records := by rw [h.al]
  have hfind : findRecord kind noSubject t = none := findRecord_none.mpr fun r hr hpair =>
    (hnew r (hrecords ▸ hr)).1 (congrArg Prod.fst hpair)
  have hcount : otherCount t.al.records < otherPlaces := by
    rw [hrecords]
    have : otherCount records ≤ records.length := List.length_filter_le ..
    unfold otherPlaces
    omega
  have hraise : raiseAlarm kind noSubject t = createRecord kind noSubject .ACTIVE_UNACK t := by
    unfold raiseAlarm
    rw [hfind]
    exact if_pos hcount
  have frame := AlarmFrame.createRecord kind noSubject .ACTIVE_UNACK t
  have hroom (q : PortIx) : t.sp[q].queue.length + 1 ≤ 64 := by
    have := h.room q
    split at this <;> omega
  have happ := Appended.createRecord t kind noSubject .ACTIVE_UNACK
  have hpacing : (createRecord kind noSubject .ACTIVE_UNACK t).ib = t.ib := by
    have hsame : (createRecord kind noSubject .ACTIVE_UNACK t).ib.pacing = t.ib.pacing :=
      Vector.ext fun i hi => (happ.port ⟨i, hi⟩ (hroom ⟨i, hi⟩)).2
    rw [frame.pacing, hsame]
  have hal : (createRecord kind noSubject .ACTIVE_UNACK t).al =
      ⟨records ++ [freshRecord kind noSubject k.seconds], k.al.lost, decide (records ++ [freshRecord kind noSubject k.seconds] ≠ [])⟩ := by
    have hins : inserted records ⟨kind, noSubject, .ACTIVE_UNACK, t.seconds, 1⟩ = records ++ [freshRecord kind noSubject k.seconds] := by
      rw [inserted_new hk fun q hq => (hnew q hq).2, h.seconds]
      rfl
    rw [createRecord_al, hrecords, hins]
    unfold Al.write
    have hline : decide (0 < unackCount (records ++ [freshRecord kind noSubject k.seconds]))
        = decide (records ++ [freshRecord kind noSubject k.seconds] ≠ []) := by
      refine decide_eq_decide.mpr ⟨fun _ => List.append_ne_nil_of_right_ne_nil _ (List.cons_ne_nil _ _), fun _ => ?_⟩
      unfold unackCount
      rw [List.filter_append, List.length_append]
      exact Nat.lt_add_left _ Nat.zero_lt_one
    rw [hline, h.al]
  rw [hraise]
  refine h.noticed (n := 1) ?_ frame.queues (fun q => (happ.port q (hroom q)).1) (by rw [List.length_append]; rfl)
  have hstate := state_of_alarmFrame frame
  rw [hal, hpacing, ms_createRecord] at hstate
  exact hstate

end

end Sys2Proof.Proofs
end

section
/-! ## The entry into IN_SERVICE of a start (R127, R128, R133, R145, R150, R182) -/
namespace Sys2Proof.Proofs
open Sys2Proof Sys2Proof.Machine

set_option Elab.async false

section
variable {k w s t : State} {b : Bool} {records : List AlarmRecord}

theorem clearAtSea_stands (hal : ∀ r ∈ s.al.records, r.kind ≠ .DOOR_OPEN_AT_SEA) (hoas : s.mc.oas = Vector.replicate 96 ⟨0, false⟩) :
    clearAtSea s = s := by
  have hclears : forEach allDoors (clearDoor .DOOR_OPEN_AT_SEA) s = s :=
    forEach_stands _ fun d _ => clearAlarm_of_none fun r hr hpair => hal r hr (congrArg Prod.fst hpair)
  rw [clearAtSea_eq, hclears, ← hoas]

theorem startHeartbeats_stands (h : ∀ q : PortIx, s.sp[q].hbElapsed = 0) : startHeartbeats s = s := by
  have hsp : (startHeartbeats s).sp = s.sp := Vector.ext fun i hi => by
    refine (sp_startHeartbeats ⟨i, hi⟩ s).trans ?_
    have := h ⟨i, hi⟩
    split
    · rw [← this]; rfl
    · rfl
  have hshape : startHeartbeats s = { s with sp := (startHeartbeats s).sp } := rfl
  rw [hshape, hsp]

theorem aged_stands (h : ∀ x : HpuIx, s.rc.hpus[x].age = 0) : aged s = s := by
  have hhpus : updAll s.rc.hpus (fun _ x => { x with age := 0 }) = s.rc.hpus := Vector.ext fun i hi => by
    have : (s.rc.hpus[i]).age = 0 := h ⟨i, hi⟩
    rw [getElem_updAll, ← this]
  unfold aged
  rw [hhpus]

theorem Begun.rc (h : Begun false k w records) : w.rc = idleRc k := (h.rest rfl).1
theorem Begun.pins (h : Begun false k w records) : w.pins = k.pins := (h.rest rfl).2

theorem Begun.hpus (h : Begun false k w records) (x : HpuIx) : w.rc.hpus[x] = HpuReported.start := by
  rw [h.rc]
  unfold idleRc
  simp

theorem Begun.emptySlots (h : Begun false k w records) : w.gru = ⟨Vector.replicate 5 none, [], [], k.gru.counter, []⟩ := by
  have hslots : (Vector.replicate 5 (none : Option Run)).set slotS none = Vector.replicate 5 none := by
    refine Vector.ext fun i hi => ?_
    simp only [Vector.getElem_set, Vector.getElem_replicate]
    exact ite_self _
  rw [h.gru]
  exact congrArg (fun v : Vector (Option Run) 5 => (⟨v, [], [], k.gru.counter, []⟩ : Gru)) hslots

theorem Begun.atRest (h : Begun false k w records) : AtRest w where
  entry := h.entry
  passage d := by
    unfold State.passage
    rw [h.mc]
    simp
  slot i := by
    rw [h.emptySlots]
    simp
  stack := by rw [h.emptySlots]

theorem Begun.heard (h : Begun b k w records) (q : PortIx) : w.sp[q].silent = false := by rw [h.ports q]

/-- Where nothing was heard, counted or raised before, the entry sends the first POLL and takes the mode, nothing else. -/
theorem Begun.enterBlocks (h : Begun false k w records) (hkinds : ∀ r ∈ records, r.kind ≠ .DOOR_OPEN_AT_SEA) :
    enterBlocks w = startPolling (moded (opened w)) := by
  have hmc : (moded (opened w)).mc = { w.mc with mode := startMode w } := rfl
  have hrecords : (moded (opened w)).al.records = records := congrArg Al.records h.al
  have htaken : modeTaken (opened w) = moded (opened w) := by
    unfold modeTaken
    split
    · refine clearAtSea_stands (by rw [hrecords]; exact hkinds) ?_
      rw [hmc, h.mc]
    · rfl
  have hunlost : unlost (moded (opened w)) = moded (opened w) := by
    refine if_neg ?_
    rw [hmc, h.mc]
    exact Bool.false_ne_true
  have hhearts : startHeartbeats (moded (opened w)) = moded (opened w) := startHeartbeats_stands fun q => by
    show w.sp[q].hbElapsed = 0
    rw [h.ports q]
  have hages : aged (moded (opened w)) = moded (opened w) := aged_stands fun x => by
    show (w.rc.hpus[x]).age = 0
    rw [h.hpus x]
    rfl
  have hfailures : failuresRaised (moded (opened w)) = moded (opened w) := by
    have hnone : failedHpus (aged (moded (opened w))) = [] := List.eq_nil_iff_forall_not_mem.mpr fun x hx => by
      have hstate : (w.rc.hpus[x]).state = .FAILED := (mem_failedHpus.mp hx).2
      rw [h.hpus x] at hstate
      cases hstate
    unfold failuresRaised
    rw [hnone]
    exact hages
  rw [enterBlocks_eq h.atRest h.heard, htaken, hunlost, hhearts, startRing_eq, hfailures]
  refine settleRuns_of_resumed ?_
  rw [startPolling_eq]
  cases firstDoor (moded (opened w)) <;> exact startGru_resumed w

theorem firstDoor_of_checks (h : commissionChecks s.tables = none) : ∃ d, firstDoor s = some d := by
  obtain ⟨-, ⟨d, hd⟩, -⟩ := commissionChecks_eq_none.mp h
  exact Option.isSome_iff_exists.mp (List.find?_isSome.mpr ⟨d, mem_allDoors d, hd⟩)

theorem startGru_started {c : Byte} (w : State) (hslots : w.gru = ⟨Vector.replicate 5 none, [], [], c, []⟩) : startGru w =
    { slots := (Vector.replicate 5 none).set slotS (startRun w), slotting := [], stack := [], resumed := []
      counter := if startMode w ≠ .LOCAL then c + 1 else c } := by
  have hcounter : w.gru.counter = c := congrArg Gru.counter hslots
  unfold startGru
  split
  · next hlocal =>
    have hnone : startRun w = none := by unfold startRun; rw [hlocal]
    have hset : (Vector.replicate 5 (none : Option Run)).set slotS none = Vector.replicate 5 none := by
      refine Vector.ext fun i hi => ?_
      simp only [Vector.getElem_set, Vector.getElem_replicate]
      exact ite_self _
    rw [hnone, hset, if_neg (fun hne => hne hlocal), hcounter]
  · next hlocal =>
    have hvec : w.gru.slots = Vector.replicate 5 none := congrArg Gru.slots hslots
    have hslotting : w.gru.slotting = [] := congrArg Gru.slotting hslots
    have hstack : w.gru.stack = [] := congrArg Gru.stack hslots
    simp only [hvec, hslotting, hstack, hcounter]

theorem gru_congr {a b : Option Run} {c d : Byte} (hrun : a = b) (hcount : c = d) :
    (⟨(Vector.replicate 5 none).set slotS a, [], [], c, []⟩ : Gru) = ⟨(Vector.replicate 5 none).set slotS b, [], [], d, []⟩ := by
  rw [hrun, hcount]

theorem startRun_congr (hmode : startMode t = startMode s) (hcounter : t.gru.counter = s.gru.counter) : startRun t = startRun s := by
  unfold startRun
  rw [hmode, hcounter]

theorem Begun.entered (h : Begun false k w records) (hkinds : ∀ r ∈ records, r.kind ≠ .DOOR_OPEN_AT_SEA)
    (hfew : records.length ≤ 60) (hchecks : commissionChecks k.tables = none) : Begun true k (enterService w) records := by
  obtain ⟨d, hd⟩ := firstDoor_of_checks (s := w) (by rw [h.tables]; exact hchecks)
  have hsent := sendSummaries_sent (Machine.enterBlocks w)
  have hservice : enterService w = sendSummaries (Machine.enterBlocks w) := rfl
  have hblocks : Machine.enterBlocks w = { w with
      cfs := { w.cfs with part := .IN_SERVICE }, mc := { w.mc with mode := startMode w }, gru := startGru w
      rc := { w.rc with txSeq := w.rc.txSeq + 1, polled := some d, pollEnded := false, replyLimit := 3 }
      pins := { w.pins with ringOut := [ringFrameBytes (byteOf w.tables.doors[d].node) 0 1 w.rc.txSeq []] } } := by
    rw [h.enterBlocks hkinds, startPolling_eq, show firstDoor (moded (opened w)) = some d from hd]
    rfl
  rw [hservice]
  have hmasks : allPorts.filter (hasMask (Machine.enterBlocks w)) = allPorts.filter (hasMask w) := by rw [hblocks]; rfl
  rw [hmasks] at hsent
  generalize Machine.enterBlocks w = e at hblocks hsent
  generalize sendSummaries e = t at hsent
  have hesp : e.sp = w.sp := by rw [hblocks]
  have heib : e.ib = w.ib := by rw [hblocks]
  have hlen (q : PortIx) : e.sp[q].queue.length < queueSize := by
    rw [hesp]
    exact Nat.lt_of_le_of_lt ((h.room q).trans hfew) (by decide)
  have hrow (q : PortIx) : w.row q = k.row q := congrArg (·.permits[q]) h.tables
  have hpacing : t.ib.pacing = w.ib.pacing := Vector.ext fun i hi => by
    show t.ib.pacing[(⟨i, hi⟩ : PortIx)] = w.ib.pacing[(⟨i, hi⟩ : PortIx)]
    by_cases hm : (⟨i, hi⟩ : PortIx) ∈ allPorts.filter (hasMask w)
    · rw [hsent.begun _ hm (hlen ⟨i, hi⟩), h.ib]
      simp
    · rw [hsent.others _ hm, heib]
  have hib : t.ib = w.ib := by rw [hsent.pacing, hpacing, heib]
  have hports (q : PortIx) : t.sp[q] = { k.sp[q] with rx := .HUNT, queue := t.sp[q].queue, part := none, partGone := false,
                                                      hbElapsed := 0, silent := false } := by
    rw [hsent.queues q, hesp, h.ports q]
  have hqueue (q : PortIx) : t.sp[q].queue = w.sp[q].queue ++ (if (k.row q).summaryMask ≠ 0 then [zoneSummary e q] else []) := by
    rw [hsent.queue q, placedIn_of_room (hlen q), hesp]
    by_cases hm : (k.row q).summaryMask ≠ 0
    · rw [if_pos hm, if_pos (mem_masked.mpr (by rwa [hrow]))]
    · rw [if_neg hm, if_neg (fun hmem => hm (by rw [← hrow]; exact mem_masked.mp hmem)), List.append_nil]
  have hframes (q : PortIx) : (∀ f ∈ t.sp[q].queue, IsStartFrame f) ∧ t.sp[q].queue.length ≤ records.length + 1
      ∧ (summariesAt t q).length = if (k.row q).summaryMask ≠ 0 then 1 else 0 := by
    have hold := h.summaries q
    have hroom := h.room q
    rw [if_neg (fun hc => Bool.false_ne_true hc.1)] at hold
    unfold summariesAt at hold ⊢
    refine ⟨fun f hf => ?_, ?_, ?_⟩
    · rw [hqueue, List.mem_append] at hf
      rcases hf with hf | hf
      · exact h.frames q f hf
      · split at hf
        · rw [List.mem_singleton.mp hf]; exact .inr rfl
        · exact absurd hf List.not_mem_nil
    · rw [hqueue, List.length_append]
      simp only [Bool.false_eq_true, if_false] at hroom
      split <;> simp only [List.length_nil, List.length_singleton] <;> omega
    · rw [hqueue, List.filter_append, List.length_append, hold]
      split <;> rfl
  have hstate : t = { w with
      cfs := { w.cfs with part := .IN_SERVICE }, mc := { w.mc with mode := startMode w }, gru := startGru w, sp := t.sp
      rc := { w.rc with txSeq := w.rc.txSeq + 1, polled := some d, pollEnded := false, replyLimit := 3 }
      pins := { w.pins with ringOut := [ringFrameBytes (byteOf w.tables.doors[d].node) 0 1 w.rc.txSeq []] }
      freeCount := t.freeCount } := by
    rw [hsent.state, hib, hblocks]
  have htables : t.tables = w.tables := by rw [hstate]
  have hcs : t.cs = w.cs := by rw [hstate]
  have hms : t.ms = w.ms := by rw [hstate]
  have hrc : t.rc = { w.rc with txSeq := w.rc.txSeq + 1, polled := some d, pollEnded := false, replyLimit := 3 } := by rw [hstate]
  have hmc : t.mc = { w.mc with mode := startMode w } := by rw [hstate]
  have hmode : startMode t = startMode w := by
    unfold startMode
    rw [htables, hmc]
  have hcounter : k.gru.counter = w.gru.counter := by rw [h.emptySlots]
  have hrun : startRun { t with gru := k.gru } = startRun w := startRun_congr hmode hcounter
  have hfull : startGru w = _ := startGru_started w h.emptySlots
  refine { tables := htables.trans h.tables, seconds := ?_, cfs := ?_, entry := fun d => ?_, arrival := ?_, flow := fun x => ?_
           doors := fun d => ?_, repeats := ?_, mc := ?_, comps := fun c => ?_, ib := by rw [hib]; exact h.ib, al := ?_
           ports := hports, frames := fun q => (hframes q).1, room := fun q => (hframes q).2.1, summaries := fun q => ?_
           gru := ?_, rest := fun hno => absurd hno (by decide)
           polling := fun _ => ⟨d, (firstDoor_congr h.tables).symm.trans hd, ?_, ?_⟩ }
  · rw [hstate]; exact h.seconds
  · rw [show t.cfs = { w.cfs with part := .IN_SERVICE } by rw [hstate], h.cfs]
    rfl
  · unfold State.entry
    rw [hcs]
    exact h.entry d
  · rw [hcs]; exact h.arrival
  · rw [hcs, effectiveCapacity_congr htables (by rw [hrc])]
    exact h.flow x
  · rw [hms]; exact h.doors d
  · rw [hms]; exact h.repeats
  · rw [hmc, hmode, h.mc]
    rfl
  · rw [hib, h.comps c]
    exact compIndication_congr (isPresent_congr htables.symm) (fun d _ => by unfold bounds; rw [htables])
      fun d _ _ => by unfold State.position; rw [hrc]
  · rw [show t.al = w.al by rw [hstate]]; exact h.al
  · rw [(hframes q).2.2]
    exact if_congr (by simp) rfl rfl
  · rw [show t.gru = startGru w by rw [hstate], hfull]
    refine gru_congr ?_ ?_
    · rw [if_pos rfl, hrun]
    · rw [hmode]
      exact if_congr (by simp) rfl rfl
  · rw [hrc, h.rc]
    rfl
  · rw [show t.pins = { w.pins with ringOut := [ringFrameBytes (byteOf w.tables.doors[d].node) 0 1 w.rc.txSeq []] } by rw [hstate],
      h.pins, h.rc, h.tables]
    rfl

end

end Sys2Proof.Proofs
end

section
/-! ## The warm restart and the cold start (O42, O43) -/
namespace Sys2Proof.Proofs
open Sys2Proof Sys2Proof.Machine

set_option Elab.async false

section
variable {k w s t : State} {b : Bool} {records : List AlarmRecord} {c : CompIx} {p q : PortIx}

/-- The indications as the positions stand. -/
def compsNow (s : State) : Vector Indication 32 :=
  updAll s.ib.comps fun c old => if allComps.contains c then compIndication s c else old

theorem recomputeReleased_eq (s : State) :
    recomputeReleased s = { s with ib := { s.ib with comps := compsNow s, allClosed := false } } := by
  unfold recomputeReleased writeComps compsNow
  with_reducible rfl

theorem compsNow_eq (s : State) (c : CompIx) : (compsNow s)[c] = compIndication s c := by
  unfold compsNow
  have hmem : allComps.contains c = true := List.contains_iff_mem.mpr (List.mem_finRange c)
  simp only [Fin.getElem_fin, getElem_updAll, Fin.eta, hmem, if_true]

theorem startFlow_flow (s : State) (h : HpuIx) : (startFlow s)[h] = ⟨0, effectiveCapacity s h, false⟩ := by
  unfold startFlow
  simp

/-- The values of a warm restart before its indications. -/
def warmBlocks (s : State) : State :=
  { s with
    cfs := { s.cfs with part := .UNCONFIGURED, restartPending := false }
    sp := updAll s.sp fun _ t => t.warm
    cs := Cs.empty
    ms := { s.ms with doors := updAll s.ms.doors fun _ m => m.warm }
    gru := { Gru.cold with counter := s.gru.counter }
    mc := { Mc.cold s.pins.emClose with sea := s.mc.sea }
    rc := { Rc.cold with east := s.rc.east.warm, west := s.rc.west.warm, secondCopies := s.rc.secondCopies,
                         loopMisses := s.rc.loopMisses }
    ib := Ib.cold
    al := ⟨[], s.al.lost, false⟩ }

/-- The committed flows 0 and the capacities of a start. -/
def flowing (w : State) : State := { w with cs := { w.cs with flow := startFlow w } }

theorem warmState_eq (s : State) : warmState s = recomputeReleased (flowing (warmBlocks s)) := rfl

theorem begun_released (h : ∀ t : State, t = { flowing w with ib := t.ib } → t.ib = { Ib.cold with comps := t.ib.comps } →
    (∀ c : CompIx, t.ib.comps[c] = compIndication t c) → Begun b k t records) (hib : w.ib = Ib.cold) :
    Begun b k (recomputeReleased (flowing w)) records := by
  have hcomps (c : CompIx) := compsNow_eq (flowing w) c
  rw [recomputeReleased_eq]
  generalize compsNow (flowing w) = v at hcomps ⊢
  refine h _ rfl ?_ hcomps
  show { w.ib with comps := v, allClosed := false } = { Ib.cold with comps := v }
  rw [hib]
  rfl

theorem slots_cold : (Vector.replicate 5 (none : Option Run)).set slotS none = Vector.replicate 5 none := by
  refine Vector.ext fun i hi => ?_
  simp only [Vector.getElem_set, Vector.getElem_replicate, ite_self]

theorem warmState_begun (s : State) : Begun false s (warmState s) [] := by
  rw [warmState_eq]
  refine begun_released (fun t ht hib hcomps => ?_) rfl
  have htables : t.tables = s.tables := (congrArg State.tables ht :)
  have hcfs : t.cfs = { s.cfs with part := .UNCONFIGURED, restartPending := false } := (congrArg State.cfs ht :)
  have hsp : t.sp = updAll s.sp fun _ x => x.warm := (congrArg State.sp ht :)
  have hcs : t.cs = { Cs.empty with flow := startFlow (warmBlocks s) } := (congrArg State.cs ht :)
  have hms : t.ms = (warmBlocks s).ms := (congrArg State.ms ht :)
  have hrc : t.rc = idleRc s := (congrArg State.rc ht :)
  have hmc : t.mc = ⟨.LOCAL, s.pins.emClose, Vector.replicate 96 none, s.mc.sea, Vector.replicate 96 ⟨0, false⟩, false⟩ :=
    (congrArg State.mc ht :)
  have hgru : t.gru = ⟨Vector.replicate 5 none, [], [], s.gru.counter, []⟩ := (congrArg State.gru ht :)
  have hal : t.al = ⟨[], s.al.lost, false⟩ := (congrArg State.al ht :)
  have hpins : t.pins = s.pins := (congrArg State.pins ht :)
  have hseconds : t.seconds = s.seconds := (congrArg State.seconds ht :)
  clear ht
  have hqueue (q : PortIx) : t.sp[q] = s.sp[q].warm := by
    rw [hsp]
    exact getElem_updAll _ _ _ _
  refine { tables := htables, seconds := hseconds, cfs := hcfs, entry := fun d => ?_
           arrival := by rw [hcs]; rfl, flow := fun h => ?_, doors := fun d => ?_
           repeats := by rw [hms, warmBlocks], mc := hmc, comps := hcomps, ib := hib, al := hal
           ports := fun q => ?_, frames := fun q f hf => ?_
           room := fun q => ?_, summaries := fun q => ?_, gru := ?_, rest := fun _ => ⟨hrc, hpins⟩, polling := fun hno => ?_ }
  · unfold State.entry
    rw [hcs]
    exact Vector.getElem_replicate ..
  · rw [hcs, effectiveCapacity_congr (s := warmBlocks s) htables (by rw [hrc]; rfl)]
    exact startFlow_flow _ h
  · rw [hms, warmBlocks]
    exact getElem_updAll _ _ _ _
  · rw [hqueue]; rfl
  · rw [hqueue] at hf
    exact absurd hf List.not_mem_nil
  · rw [hqueue]; exact Nat.zero_le _
  · unfold summariesAt
    rw [hqueue]
    rfl
  · exact hgru.trans (congrArg (fun v : Vector (Option Run) 5 => (⟨v, [], [], s.gru.counter, []⟩ : Gru)) slots_cold.symm)
  · cases hno

/-- The values of a cold start before its indications. -/
def coldBlocks (x : Tables) (status : ImageStatus) (s : State) : State :=
  { tables := x
    cfs := ⟨.UNCONFIGURED, status, none, [], false, s.cfs.image⟩
    sp := Vector.replicate 8 StationPort.cold
    cs := Cs.empty
    ms := Ms.cold
    gru := Gru.cold
    mc := Mc.cold s.pins.emClose
    rc := Rc.cold
    ib := Ib.cold
    al := ⟨[], 0, false⟩
    pins := ⟨s.pins.emClose, false, [], Vector.replicate 8 []⟩
    seconds := 0
    freeCount := s.freeCount
    pending := s.pending }

theorem coldState_eq (x : Tables) (status : ImageStatus) (s : State) :
    coldState x status s = recomputeReleased (flowing (coldBlocks x status s)) := by
  unfold coldState flowing coldBlocks
  rfl

theorem coldState_begun (x : Tables) (status : ImageStatus) (s : State) : Begun false (coldBlocks x status s) (coldState x status s) [] := by
  rw [coldState_eq]
  refine begun_released (fun t ht hib hcomps => ?_) rfl
  generalize hk : coldBlocks x status s = k at ht ⊢
  have htables : t.tables = k.tables := (congrArg State.tables ht :)
  have hcfs : t.cfs = k.cfs := (congrArg State.cfs ht :)
  have hsp : t.sp = k.sp := (congrArg State.sp ht :)
  have hcs : t.cs = { k.cs with flow := startFlow k } := (congrArg State.cs ht :)
  have hms : t.ms = k.ms := (congrArg State.ms ht :)
  have hrc : t.rc = k.rc := (congrArg State.rc ht :)
  have hmc : t.mc = k.mc := (congrArg State.mc ht :)
  have hgru : t.gru = k.gru := (congrArg State.gru ht :)
  have hal : t.al = k.al := (congrArg State.al ht :)
  have hpins : t.pins = k.pins := (congrArg State.pins ht :)
  have hseconds : t.seconds = k.seconds := (congrArg State.seconds ht :)
  clear ht
  have hqueue (q : PortIx) : t.sp[q] = StationPort.cold := by
    rw [hsp, ← hk, coldBlocks]
    exact Vector.getElem_replicate ..
  have hold (q : PortIx) : k.sp[q] = StationPort.cold := by rw [← hsp, hqueue]
  refine { tables := htables, seconds := hseconds, cfs := ?_, entry := fun d => ?_
           arrival := by rw [hcs, ← hk, coldBlocks]; rfl, flow := fun h => ?_, doors := fun d => ?_
           repeats := by rw [hms], mc := ?_, comps := hcomps, ib := hib, al := ?_
           ports := fun q => ?_, frames := fun q f hf => ?_
           room := fun q => ?_, summaries := fun q => ?_, gru := ?_, rest := fun _ => ⟨?_, hpins⟩, polling := fun hno => ?_ }
  · rw [hcfs, ← hk, coldBlocks]
    rfl
  · unfold State.entry
    rw [hcs, ← hk, coldBlocks]
    exact Vector.getElem_replicate ..
  · rw [hcs, effectiveCapacity_congr htables (by rw [hrc])]
    exact startFlow_flow _ h
  · have hdoor : k.ms.doors[d] = Supervision.cold := by
      rw [← hk, coldBlocks]
      exact Vector.getElem_replicate ..
    rw [hms, hdoor]
    rfl
  · rw [hmc, ← hk, coldBlocks]
    rfl
  · rw [hal, ← hk, coldBlocks]
    rfl
  · rw [hqueue, hold]; rfl
  · rw [hqueue] at hf
    exact absurd hf List.not_mem_nil
  · rw [hqueue]; exact Nat.zero_le _
  · unfold summariesAt
    rw [hqueue]
    rfl
  · rw [hgru, ← hk, coldBlocks]
    exact congrArg (fun v : Vector (Option Run) 5 => (⟨v, [], [], 0, []⟩ : Gru)) slots_cold.symm
  · rw [hrc, ← hk, coldBlocks]
    rfl
  · cases hno

/-- A start counts no alarm of the list before it but the lost ones. -/
theorem Begun.forgets (h : Begun b k t records) {a : Al} (ha : a.lost = k.al.lost) : Begun b { k with al := a } t records where
  tables := h.tables
  seconds := h.seconds
  cfs := h.cfs
  entry := h.entry
  arrival := h.arrival
  flow := h.flow
  doors := h.doors
  repeats := h.repeats
  mc := h.mc
  comps := h.comps
  ib := h.ib
  al := by rw [h.al, ← ha]
  ports := h.ports
  frames := h.frames
  room := h.room
  summaries := h.summaries
  gru := h.gru
  rest := h.rest
  polling := h.polling

/-! ### The records of a start (R107, R184) -/

theorem Begun.raiseLine (h : Begun b k w records) (hnew : ∀ r ∈ records, r.kind ≠ .EMERGENCY_LINE ∧ r.kind ≠ .LIST_FULL)
    (hfew : records.length ≤ 60) : Begun b k (raiseLine w)
      (records ++ if k.pins.emClose then [freshRecord .EMERGENCY_LINE noSubject k.seconds] else []) := by
  have hline : w.mc.line = k.pins.emClose := by rw [h.mc]
  unfold Machine.raiseLine
  rw [hline]
  split
  · exact h.raise (by decide) hnew hfew
  · rw [List.append_nil]; exact h

theorem Begun.raiseStore (h : Begun b k w records) (hnew : ∀ r ∈ records, r.kind ≠ .STORE_INVALID ∧ r.kind ≠ .LIST_FULL)
    (hfew : records.length ≤ 60) : Begun b k (raiseStore w)
      (records ++ if k.cfs.status = .INVALID then [freshRecord .STORE_INVALID noSubject k.seconds] else []) := by
  have hstatus : w.cfs.status = k.cfs.status := by rw [h.cfs]
  unfold Machine.raiseStore
  rw [hstatus]
  split
  · exact h.raise (by decide) hnew hfew
  · rw [List.append_nil]; exact h

/-- The record of the line, where it is asserted at a start. -/
abbrev lineRecords (k : State) : List AlarmRecord :=
  if k.pins.emClose then [freshRecord .EMERGENCY_LINE noSubject k.seconds] else []

theorem lineRecords_kind : ∀ r ∈ lineRecords k, r.kind = .EMERGENCY_LINE := fun r hr => by
  unfold lineRecords at hr
  split at hr
  · rw [List.mem_singleton.mp hr]; rfl
  · exact absurd hr List.not_mem_nil

theorem lineRecords_few : (lineRecords k).length ≤ 60 := by
  unfold lineRecords
  split <;> simp

theorem isRestartResult_iff {f : Frame} : isRestartResult f = true ↔ f = resultFrame 16 .DONE false [] := by
  unfold isRestartResult
  rw [Bool.and_eq_true_iff, decide_eq_true_iff, decide_eq_true_iff]
  constructor
  · rintro ⟨hkind, hpayload⟩
    cases f
    cases hkind
    cases hpayload
    rfl
  · rintro rfl
    exact ⟨rfl, rfl⟩

theorem restartDue_iff : restartDue s = true ↔
    s.cfs.restartPending = true ∧ ∀ q : PortIx, resultFrame 16 .DONE false [] ∉ s.sp[q].queue := by
  unfold restartDue
  simp only [Bool.and_eq_true, List.all_eq_true, Bool.not_eq_true', List.any_eq_false, isRestartResult_iff]
  exact and_congr_right fun _ => ⟨fun h q hm => h q (List.mem_finRange q) _ hm rfl, fun h q _ f hf he => h q (he ▸ hf)⟩

theorem exec_warmRestart (h : Awake s) : exec .warmRestart s = .next (if restartDue s then warmRestart s else s) := exec_awake h rfl

end

/-- Settles O42: the start values with the records of the line and the store, and between them the entry by the checks. -/
theorem restarted : Obligations.Restarted := by
  intro p s
  refine ⟨fun h => ?_, fun h hno => ?_, fun h hq => ?_, fun h hp hq => ?_⟩
  · rw [exec_awake h.1.1 rfl, decide_exclusive _ h]
    rfl
  · rw [exec_warmRestart h, if_neg (fun hdue => ?_)]
    exact Bool.false_ne_true (hno.symm.trans (restartDue_iff.mp hdue).1)
  · obtain ⟨q, hq⟩ := hq
    rw [exec_warmRestart h, if_neg (fun hdue => (restartDue_iff.mp hdue).2 q hq)]
  · refine ends_of ((exec_warmRestart h).trans (congrArg _ (if_pos (restartDue_iff.mpr ⟨hp, hq⟩)))) ?_
    have hlined : Begun false s (raiseLine (warmState s)) (lineRecords s) := (warmState_begun s).raiseLine nofun (by decide)
    have hkinds (r) (hr : r ∈ lineRecords s) : r.kind ≠ .STORE_INVALID ∧ r.kind ≠ .LIST_FULL := by
      rw [lineRecords_kind r hr]
      decide
    unfold warmRestart
    simp only [hlined.tables]
    split
    · next hchecks =>
      have hserving := hlined.entered (fun r hr => by rw [lineRecords_kind r hr]; decide) lineRecords_few hchecks
      exact (hserving.raiseStore hkinds lineRecords_few).started (decide_eq_true hchecks).symm
    · next hchecks => exact (hlined.raiseStore hkinds lineRecords_few).started (decide_eq_false hchecks).symm

section
variable {s : State} {x : Tables}

/-! ### Blank tables -/

theorem blank_hpuPresent (h : HpuIx) : Tables.blank.hpuPresent h = false := by
  unfold Tables.hpuPresent Tables.blank HpuConfig.blank
  simp

theorem blank_doorPresent (d : DoorIx) : Tables.blank.doorPresent d = false := by
  unfold Tables.doorPresent Tables.blank DoorConfig.blank
  simp

theorem notify_blank (c : Change) (r : AlarmRecord) (h : s.tables = Tables.blank) : notify c r s = s := by
  have hnone : allPorts.filter (wantsNotice s r.kind) = [] := List.filter_eq_nil_iff.mpr fun p _ => by
    have hrow : s.row p = PermitRow.blank := by
      unfold State.row
      rw [h]
      exact Vector.getElem_replicate ..
    unfold wantsNotice
    rw [hrow]
    simp [PermitRow.blank]
  unfold notify
  rw [hnone]
  rfl

theorem raise_blank {k : AlarmKind} (h : s.tables = Tables.blank) (hk : k ≠ .LIST_FULL)
    (hnew : ∀ r ∈ s.al.records, r.kind ≠ k ∧ r.kind ≠ .LIST_FULL) (hfew : s.al.records.length ≤ 60) :
    raiseAlarm k noSubject s = setRecords (s.al.records ++ [freshRecord k noSubject s.seconds]) s := by
  have hfind : findRecord k noSubject s = none := findRecord_none.mpr fun r hr hpair => (hnew r hr).1 (congrArg Prod.fst hpair)
  have hcount : otherCount s.al.records < otherPlaces := by
    have : otherCount s.al.records ≤ s.al.records.length := List.length_filter_le ..
    unfold otherPlaces
    omega
  have hins : inserted s.al.records ⟨k, noSubject, .ACTIVE_UNACK, s.seconds, 1⟩ = s.al.records ++ [freshRecord k noSubject s.seconds] :=
    inserted_new hk fun q hq => (hnew q hq).2
  unfold raiseAlarm
  rw [hfind]
  refine (if_pos hcount).trans ?_
  unfold createRecord
  simp only [hins]
  exact notify_blank _ _ h

/-- A cold start of blank tables before its records. -/
theorem coldState_blank (s : State) : coldState Tables.blank .INVALID s = { coldBlank s with al := ⟨[], 0, false⟩ } := by
  have hcapacity (h : HpuIx) : effectiveCapacity (coldBlocks Tables.blank .INVALID s) h = 0 :=
    if_neg (by rw [show (coldBlocks Tables.blank .INVALID s).hpuPresent h = false from blank_hpuPresent h]; exact Bool.false_ne_true)
  have hflow : startFlow (coldBlocks Tables.blank .INVALID s) = Vector.replicate 8 ⟨0, 0, false⟩ := Vector.ext fun i hi => by
    rw [show (startFlow (coldBlocks Tables.blank .INVALID s))[i] = _ from startFlow_flow _ ⟨i, hi⟩, hcapacity]
    exact (Vector.getElem_replicate ..).symm
  have hpresent : (flowing (coldBlocks Tables.blank .INVALID s)).presentDoors = [] :=
    List.filter_eq_nil_iff.mpr fun d _ => by
      rw [show (flowing (coldBlocks Tables.blank .INVALID s)).isPresent d = false from blank_doorPresent d]
      exact Bool.false_ne_true
  have hcomps : compsNow (flowing (coldBlocks Tables.blank .INVALID s)) = Vector.replicate 32 .NONE := Vector.ext fun i hi => by
    rw [show (compsNow (flowing (coldBlocks Tables.blank .INVALID s)))[i] = _ from compsNow_eq _ ⟨i, hi⟩]
    unfold compIndication
    rw [hpresent]
    exact (Vector.getElem_replicate ..).symm
  rw [coldState_eq, recomputeReleased_eq, hcomps]
  unfold flowing
  rw [hflow]
  rfl

theorem coldStart_bad (h : loadImage s.cfs.image = none) : coldStart s = raiseLine (raiseStore (coldState Tables.blank .INVALID s)) := by
  unfold coldStart
  rw [h]

theorem coldStart_good (h : loadImage s.cfs.image = some x) : coldStart s =
    if commissionChecks x = none then enterService (raiseLine (coldState x .GOOD s))
    else raiseLine (raiseStore (coldState x .INVALID s)) := by
  unfold coldStart
  rw [h]

theorem raiseStore_blank (s : State) : raiseStore (coldState Tables.blank .INVALID s) = coldBlank s := by
  rw [coldState_blank]
  unfold raiseStore
  refine (if_pos rfl).trans ?_
  rw [raise_blank rfl (by decide) (fun r hr => absurd hr List.not_mem_nil) (Nat.zero_le _)]
  rfl

theorem coldBlank_stored (x : Tables) (status : ImageStatus) (s : State) :
    { coldBlank s with tables := x, cfs := ⟨.UNCONFIGURED, status, none, [], false, s.cfs.image⟩ } =
      { coldBlocks x status s with al := State.reset.al } := by
  unfold coldBlank coldBlocks
  rfl

end

/-- Settles O43: the blank part of a bad image; and the cold-start values, the records and the entry of a good one. -/
theorem coldStarts : Obligations.ColdStarts := by
  refine ⟨fun s hbad => ⟨fun hline => ?_, fun hline => ?_⟩, fun x s hgood => ?_⟩
  · refine congrArg _ ((coldStart_bad hbad).trans ?_)
    rw [raiseStore_blank]
    exact if_neg (by rw [show (coldBlank s).mc.line = _ from hline]; exact Bool.false_ne_true)
  · refine congrArg _ ((coldStart_bad hbad).trans ?_)
    rw [raiseStore_blank]
    unfold raiseLine
    rw [if_pos (show (coldBlank s).mc.line = true from hline), raise_blank rfl (by decide) ?_ Nat.one_le_ofNat]
    · rfl
    · intro r hr
      rw [List.mem_singleton.mp hr]
      decide
  · have hload : loadImage s.cfs.image = some x := hgood.elim id fun ⟨hrange, himage⟩ => by
      rw [himage]
      exact (storedImageReadsBack x hrange).2
    intro serves blank
    refine ⟨coldStart s, rfl, ?_⟩
    have hblank : blank = { coldBlocks x (if serves then .GOOD else .INVALID) s with al := State.reset.al } := coldBlank_stored ..
    rw [coldStart_good hload, hblank]
    by_cases hserves : serves
    · have hchecks : commissionChecks x = none := hserves
      rw [if_pos hchecks, if_pos hserves, if_pos hserves]
      have hlined := (coldState_begun x .GOOD s).raiseLine nofun (by decide)
      have hentered := hlined.entered (fun r hr => by rw [lineRecords_kind r hr]; decide) lineRecords_few hchecks
      exact (hentered.forgets rfl).started (decide_eq_true hchecks).symm
    · have hchecks : ¬commissionChecks x = none := hserves
      rw [if_neg hchecks, if_neg hserves, if_neg hserves]
      have hstored := (coldState_begun x .INVALID s).raiseStore nofun (by decide)
      rw [if_pos (show (coldBlocks x .INVALID s).cfs.status = .INVALID from rfl)] at hstored
      refine ((hstored.raiseLine (fun r hr => ?_) ?_).forgets rfl).started (decide_eq_false hchecks).symm
      · rw [List.mem_singleton.mp hr]
        exact ⟨AlarmKind.noConfusion, AlarmKind.noConfusion⟩
      · exact Nat.one_le_ofNat

end Sys2Proof.Proofs
end

section
/-! ## DECOMMISSION (O40) -/
namespace Sys2Proof.Proofs
open Sys2Proof Sys2Proof.Machine

set_option Elab.async false

section
variable {s t u : State} {p q : PortIx} {k : AlarmKind} {x : Nat}

/-! ### A pass of an empty schedule -/

theorem pass_of_empty (hempty : ∀ d : DoorIx, s.entry d = none) (h : HpuIx) : pass h s = s := by
  have hnone : readyOn s h = [] := List.eq_nil_iff_forall_not_mem.mpr fun d hd => by
    have hready := mem_readyOn.mp hd
    unfold entryIn at hready
    rw [hempty d] at hready
    exact Bool.false_ne_true hready
  unfold Machine.pass
  rw [hnone]
  rfl

/-! ### The orders that leave (R140) -/

/-- RC and the pins after every pending order was sent. -/
theorem sendOrders_eq (s : State) : ∃ out : List (List Byte), out.length = s.pins.ringOut.length + s.rc.orders.length
    ∧ sendOrders s = { s with
        rc := { s.rc with orders := [], txSeq := s.rc.txSeq + BitVec.ofNat 8 s.rc.orders.length }
        pins := { s.pins with ringOut := out } } := by
  have hall (l : List PendingOrder) (s : State) (hl : s.rc.orders = l) : ∃ out : List (List Byte),
      out.length = s.pins.ringOut.length + l.length
      ∧ l.foldl (fun s _ => sendHeadOrder s) s = { s with
          rc := { s.rc with orders := [], txSeq := s.rc.txSeq + BitVec.ofNat 8 l.length }
          pins := { s.pins with ringOut := out } } := by
    induction l generalizing s with
    | nil =>
      refine ⟨s.pins.ringOut, rfl, ?_⟩
      rw [List.foldl_nil, List.length_nil, ← hl]
      simp
    | cons o rest ih =>
      have hsent : sendHeadOrder s = ringSend (byteOf s.tables.doors[o.door].node) o.kind.wire.1 o.kind.wire.2
          { s with rc := { s.rc with orders := rest } } := by
        unfold sendHeadOrder
        rw [hl]
      obtain ⟨out, hlen, heq⟩ := ih (sendHeadOrder s) (by rw [hsent]; rfl)
      refine ⟨out, ?_, ?_⟩
      · rw [hlen, hsent]
        unfold ringSend
        simp only [List.length_append, List.length_cons, List.length_nil]
        omega
      · rw [List.foldl_cons, heq, hsent]
        have hseq : s.rc.txSeq + 1 + BitVec.ofNat 8 rest.length = s.rc.txSeq + BitVec.ofNat 8 (o :: rest).length := by
          rw [List.length_cons, BitVec.ofNat_add, add_assoc, add_comm (1 : Byte)]
          rfl
        unfold ringSend
        simp only [hseq]
  exact hall s.rc.orders s rfl

/-! ### What every stage of a DECOMMISSION keeps -/

/-- A stage of a DECOMMISSION changes what RC holds of doors and HPUs, E, the windows, and clears conditions. -/
structure Hushed (s t : State) : Prop where
  tables : t.tables = s.tables
  cfs : t.cfs = s.cfs
  pins : t.pins = s.pins
  seconds : t.seconds = s.seconds
  ms : t.ms = s.ms
  entries : t.cs.entries = s.cs.entries
  mode : t.mc.mode = s.mc.mode
  sea : t.mc.sea = s.mc.sea
  rc : t.rc = { s.rc with reported := t.rc.reported, hpus := t.rc.hpus }
  early : ∀ q : PortIx, t.sp[q].early = s.sp[q].early
  pacing : OnlyPacing s t
  law : AlarmLaw s → AlarmLaw t
  cleared : AlarmLaw s → ∀ (k : AlarmKind) (x : Nat), k ≠ .LIST_FULL → Cleared s k x → Cleared t k x

theorem Hushed.refl (s : State) : Hushed s s :=
  ⟨rfl, rfl, rfl, rfl, rfl, rfl, rfl, rfl, rfl, fun _ => rfl, rfl, id, fun _ _ _ _ h => h⟩

theorem Hushed.trans (h : Hushed s t) (g : Hushed t u) : Hushed s u where
  tables := g.tables.trans h.tables
  cfs := g.cfs.trans h.cfs
  pins := g.pins.trans h.pins
  seconds := g.seconds.trans h.seconds
  ms := g.ms.trans h.ms
  entries := g.entries.trans h.entries
  mode := g.mode.trans h.mode
  sea := g.sea.trans h.sea
  rc := by rw [g.rc, h.rc]
  early q := (g.early q).trans (h.early q)
  pacing := OnlyPacing.trans h.pacing g.pacing
  law hs := g.law (h.law hs)
  cleared hs k x hk hc := g.cleared (h.law hs) k x hk (h.cleared hs k x hk hc)

/-- A stage without alarms. -/
theorem Hushed.of_al (hal : t.al = s.al) (tables : t.tables = s.tables) (cfs : t.cfs = s.cfs) (pins : t.pins = s.pins)
    (seconds : t.seconds = s.seconds) (ms : t.ms = s.ms) (entries : t.cs.entries = s.cs.entries) (mode : t.mc.mode = s.mc.mode)
    (sea : t.mc.sea = s.mc.sea) (rc : t.rc = { s.rc with reported := t.rc.reported, hpus := t.rc.hpus })
    (early : ∀ q : PortIx, t.sp[q].early = s.sp[q].early) (ib : t.ib = s.ib) : Hushed s t :=
  ⟨tables, cfs, pins, seconds, ms, entries, mode, sea, rc, early, by unfold OnlyPacing; rw [ib], (alarmLaw_congr (by rw [hal])).mpr,
    fun _ _ _ _ hc => (cleared_congr hal).mpr hc⟩

/-- What a clear leaves (R155), its condition included. -/
structure ClearTaken (k : AlarmKind) (x : Nat) (s t : State) : Prop extends Hushed s t where
  cs : t.cs = s.cs
  allRc : t.rc = s.rc
  mc : t.mc = s.mc
  queues : OnlyQueues s t
  done : AlarmLaw s → Cleared t k x

theorem clear_taken (hk : k ≠ .LIST_FULL) (hdoor : k ≠ .DOOR_FAULT) (x : Nat) (s : State) : ClearTaken k x s (clearAlarm k x s) := by
  have frame := AlarmFrame.clearAlarm k x s
  refine { tables := frame.tables, cfs := frame.cfs, pins := frame.pins, seconds := frame.seconds, ms := ms_clearAlarm hdoor
           entries := by rw [frame.cs], mode := frame.mode, sea := frame.sea, rc := by rw [frame.rc]
           early := fun q => by rw [frame.queues q], pacing := frame.pacing, law := fun h => alarmLaw_clearAlarm h k x
           cleared := fun hs l y hl hc => ?_, cs := frame.cs, allRc := frame.rc, mc := frame.mc, queues := frame.queues
           done := fun hs => cleared_clearAlarm hs hk }
  by_cases hpair : (l, y) = (k, x)
  · cases hpair
    exact cleared_clearAlarm hs hl
  · exact cleared_of_onlyAlarms (onlyAlarms_clearAlarm k x s) (fun hm => hpair (List.mem_singleton.mp hm)) hl hc

/-! ### The HPUs (R64, R145) -/

/-- What RC holds of an HPU after a DECOMMISSION. -/
def hushedHpu (x : HpuReported) : HpuReported := if x.state = .LOST then { x with state := .UNKNOWN } else x

structure HpusQuieted (l : List HpuIx) (s t : State) : Prop extends Hushed s t where
  reported : t.rc.reported = s.rc.reported
  mc : t.mc = s.mc
  queues : OnlyQueues s t
  hpus : ∀ x : HpuIx, t.rc.hpus[x] = if x ∈ l then hushedHpu s.rc.hpus[x] else s.rc.hpus[x]
  capacity : ∀ x ∈ l, s.rc.hpus[x].state = .LOST → t.cs.flow[x].capacityE = effectiveCapacity t x
  flows : ∀ x : HpuIx, x ∉ l → t.cs.flow[x] = s.cs.flow[x]
  done : AlarmLaw s → ∀ x ∈ l, Cleared t .HPU_FAILED x.val ∧ Cleared t .HPU_SILENT x.val

theorem effectiveCapacity_congr_at {h : HpuIx} (ht : t.tables = s.tables) (hh : t.rc.hpus[h] = s.rc.hpus[h]) :
    effectiveCapacity t h = effectiveCapacity s h := by
  unfold effectiveCapacity State.hpuPresent
  rw [ht, hh]

/-- The state LOST of an HPU ended and its E recomputed, the schedule empty. -/
def lostEnded (h : HpuIx) (s : State) : State :=
  if s.rc.hpus[h].state = .LOST then recomputeE h (s.modHpu h fun x => { x with state := .UNKNOWN }) else s

/-- The HPU's capacity as E holds it. -/
theorem recomputeE_of_empty (hempty : ∀ d : DoorIx, s.entry d = none) (h : HpuIx) :
    recomputeE h s = s.modFlow h fun f => { f with capacityE := effectiveCapacity s h } := by
  unfold recomputeE
  simp only
  split
  · next he =>
    have hflow : upd s.cs.flow h (fun f => { f with capacityE := effectiveCapacity s h }) = s.cs.flow := by
      refine Vector.ext fun i hi => ?_
      rw [getElem_upd]
      split
      · next heq =>
        subst heq
        rw [← he]
        rfl
      · rfl
    unfold State.modFlow
    rw [hflow]
  · exact pass_of_empty (s := s.modFlow h fun f => { f with capacityE := effectiveCapacity s h }) hempty h

theorem lostEnded_quieted (hempty : ∀ d : DoorIx, s.entry d = none) (h : HpuIx) :
    Hushed s (lostEnded h s) ∧ (lostEnded h s).rc.reported = s.rc.reported ∧ (lostEnded h s).mc = s.mc
    ∧ (lostEnded h s).sp = s.sp
    ∧ (∀ x : HpuIx, (lostEnded h s).rc.hpus[x] = if x = h then hushedHpu s.rc.hpus[x] else s.rc.hpus[x])
    ∧ (s.rc.hpus[h].state = .LOST → (lostEnded h s).cs.flow[h].capacityE = effectiveCapacity (lostEnded h s) h)
    ∧ (∀ x : HpuIx, x ≠ h → (lostEnded h s).cs.flow[x] = s.cs.flow[x]) := by
  unfold lostEnded
  split
  · next hlost =>
    rw [recomputeE_of_empty (s := s.modHpu h fun x => { x with state := .UNKNOWN }) hempty]
    refine ⟨.of_al rfl rfl rfl rfl rfl rfl rfl rfl rfl rfl (fun _ => rfl) rfl, rfl, rfl, rfl, fun x => ?_, fun _ => ?_, fun x hx => ?_⟩
    · simp only [State.modFlow, State.modHpu, Fin.getElem_fin, getElem_upd, Fin.val_inj]
      unfold hushedHpu
      by_cases hx : h = x
      · subst hx
        rw [if_pos rfl, if_pos rfl, if_pos (show s.rc.hpus[h.val].state = .LOST from hlost)]
      · rw [if_neg hx, if_neg (Ne.symm hx)]
    · simp only [State.modFlow, Fin.getElem_fin, getElem_upd, if_true]
      exact (effectiveCapacity_congr rfl rfl).symm
    · have hval : h.val ≠ x.val := fun he => hx (Fin.ext he.symm)
      simp only [State.modFlow, State.modHpu, Fin.getElem_fin, getElem_upd, hval, if_false]
  · next hlost =>
    refine ⟨.refl s, rfl, rfl, rfl, fun x => ?_, fun h => absurd h hlost, fun _ _ => rfl⟩
    unfold hushedHpu
    split
    · next hx =>
      subst hx
      exact (if_neg hlost).symm
    · rfl

theorem quietHpu_quieted (hempty : ∀ d : DoorIx, s.entry d = none) (h : HpuIx) : HpusQuieted [h] s (quietHpu h s) := by
  obtain ⟨hushed, hreported, hmc, hsp, hhpus, hcap, hflows⟩ := lostEnded_quieted hempty h
  have hshape : quietHpu h s = clearAlarm .HPU_SILENT h.val (clearAlarm .HPU_FAILED h.val (lostEnded h s)) := rfl
  rw [hshape]
  generalize lostEnded h s = t at hushed hreported hmc hsp hhpus hcap hflows ⊢
  have h₁ := clear_taken (k := .HPU_FAILED) (by decide) (by decide) h.val t
  generalize clearAlarm .HPU_FAILED h.val t = u at h₁ ⊢
  have h₂ := clear_taken (k := .HPU_SILENT) (by decide) (by decide) h.val u
  generalize clearAlarm .HPU_SILENT h.val u = v at h₂ ⊢
  have hrc : v.rc = t.rc := h₂.allRc.trans h₁.allRc
  have hcs : v.cs = t.cs := h₂.cs.trans h₁.cs
  refine { toHushed := (hushed.trans h₁.toHushed).trans h₂.toHushed, reported := by rw [hrc]; exact hreported
           mc := (h₂.mc.trans h₁.mc).trans hmc, queues := fun q => ?_, hpus := fun x => ?_, capacity := fun x hx hl => ?_
           flows := fun x hx => ?_, done := fun hs x hx => ?_ }
  · rw [h₂.queues q, h₁.queues q, hsp]
  · rw [hrc, hhpus x]
    simp only [List.mem_singleton]
  · cases List.mem_singleton.mp hx
    rw [hcs, hcap hl]
    exact (effectiveCapacity_congr (h₂.tables.trans h₁.tables) (by rw [hrc])).symm
  · rw [hcs]
    exact hflows x fun he => hx (List.mem_singleton.mpr he)
  · cases List.mem_singleton.mp hx
    have hlaw := hushed.law hs
    exact ⟨h₂.cleared (h₁.law hlaw) _ _ (by decide) (h₁.done hlaw), h₂.done (h₁.law hlaw)⟩

theorem HpusQuieted.cons {h : HpuIx} {l : List HpuIx} (hh : h ∉ l) (a : HpusQuieted [h] s t) (b : HpusQuieted l t u) :
    HpusQuieted (h :: l) s u where
  toHushed := a.toHushed.trans b.toHushed
  reported := b.reported.trans a.reported
  mc := b.mc.trans a.mc
  queues := OnlyQueues.trans a.queues b.queues
  hpus x := by
    rw [b.hpus x, a.hpus x]
    by_cases hx : x = h
    · subst hx
      simp [hh]
    · simp [hx]
  capacity x hx hl := by
    by_cases he : x = h
    · subst he
      rw [b.flows x hh, a.capacity x (List.mem_singleton_self x) hl]
      exact (effectiveCapacity_congr_at b.tables (by rw [b.hpus x, if_neg hh])).symm
    · have hmem : x ∈ l := (List.mem_cons.mp hx).resolve_left he
      refine b.capacity x hmem ?_
      rw [a.hpus x, if_neg (fun hm => he (List.mem_singleton.mp hm))]
      exact hl
  flows x hx := by
    rw [List.mem_cons, not_or] at hx
    rw [b.flows x hx.2, a.flows x (fun hm => hx.1 (List.mem_singleton.mp hm))]
  done hs x hx := by
    rcases List.mem_cons.mp hx with rfl | hx
    · obtain ⟨hf, hsil⟩ := a.done hs x (List.mem_singleton_self x)
      exact ⟨b.cleared (a.law hs) _ _ (by decide) hf, b.cleared (a.law hs) _ _ (by decide) hsil⟩
    · exact b.done (a.law hs) x hx

theorem hpus_quieted {l : List HpuIx} (hnodup : l.Nodup) (hempty : ∀ d : DoorIx, s.entry d = none) :
    HpusQuieted l s (forEach l quietHpu s) := by
  induction l generalizing s with
  | nil =>
    exact { toHushed := .refl s, reported := rfl, mc := rfl, queues := fun _ => rfl, hpus := fun _ => rfl, capacity := nofun
            flows := fun _ _ => rfl, done := nofun }
  | cons h rest ih =>
    obtain ⟨hh, hrest⟩ := List.nodup_cons.mp hnodup
    have step := quietHpu_quieted hempty h
    exact step.cons hh (ih hrest fun d => by unfold State.entry; rw [step.entries]; exact hempty d)

/-! ### The doors (R18) -/

/-- The reported fields of a present door after a DECOMMISSION. -/
def hushedDoor (r : Reported) : Reported := { r with position := .UNKNOWN, lost := false, misses := 0, shown := false }

structure DoorsQuieted (l : List DoorIx) (s t : State) : Prop extends Hushed s t where
  hpus : t.rc.hpus = s.rc.hpus
  cs : t.cs = s.cs
  mc : t.mc = s.mc
  queues : OnlyQueues s t
  reported : ∀ d : DoorIx, t.rc.reported[d] = if d ∈ l then hushedDoor s.rc.reported[d] else s.rc.reported[d]
  done : AlarmLaw s → ∀ d ∈ l, Cleared t .DOOR_SILENT d.val

theorem quietDoor_quieted (d : DoorIx) (s : State) : DoorsQuieted [d] s (quietDoor d s) := by
  have hreported (x : DoorIx) : (s.modReported d hushedDoor).rc.reported[x] =
      if x ∈ [d] then hushedDoor s.rc.reported[x] else s.rc.reported[x] := by
    simp only [State.modReported, Fin.getElem_fin, getElem_upd, Fin.val_inj, List.mem_singleton]
    by_cases hx : d = x
    · subst hx; simp
    · simp [hx, Ne.symm hx]
  have hushed : Hushed s (s.modReported d hushedDoor) := .of_al rfl rfl rfl rfl rfl rfl rfl rfl rfl rfl (fun _ => rfl) rfl
  have hshape : quietDoor d s = clearAlarm .DOOR_SILENT d.val (s.modReported d hushedDoor) := rfl
  rw [hshape]
  have h := clear_taken (k := .DOOR_SILENT) (by decide) (by decide) d.val (s.modReported d hushedDoor)
  exact { toHushed := hushed.trans h.toHushed, hpus := by rw [h.allRc]; rfl, cs := h.cs, mc := h.mc, queues := h.queues
          reported := fun x => by rw [h.allRc]; exact hreported x
          done := fun hs x hx => by rw [List.mem_singleton.mp hx]; exact h.done (hushed.law hs) }

theorem DoorsQuieted.cons {d : DoorIx} {l : List DoorIx} (hd : d ∉ l) (a : DoorsQuieted [d] s t) (b : DoorsQuieted l t u) :
    DoorsQuieted (d :: l) s u where
  toHushed := a.toHushed.trans b.toHushed
  hpus := b.hpus.trans a.hpus
  cs := b.cs.trans a.cs
  mc := b.mc.trans a.mc
  queues := OnlyQueues.trans a.queues b.queues
  reported x := by
    rw [b.reported x, a.reported x]
    by_cases hx : x = d
    · subst hx
      simp [hd]
    · simp [hx]
  done hs x hx := by
    rcases List.mem_cons.mp hx with rfl | hx
    · exact b.cleared (a.law hs) _ _ (by decide) (a.done hs x (List.mem_singleton_self x))
    · exact b.done (a.law hs) x hx

theorem doors_quieted {l : List DoorIx} (hnodup : l.Nodup) (s : State) : DoorsQuieted l s (forEach l quietDoor s) := by
  induction l generalizing s with
  | nil => exact ⟨.refl s, rfl, rfl, rfl, fun _ => rfl, fun _ => rfl, nofun⟩
  | cons d rest ih =>
    obtain ⟨hd, hrest⟩ := List.nodup_cons.mp hnodup
    exact (quietDoor_quieted d s).cons hd (ih hrest _)

/-! ### The ports (R128) -/

structure PortsQuieted (l : List PortIx) (s t : State) : Prop extends Hushed s t where
  allRc : t.rc = s.rc
  cs : t.cs = s.cs
  mc : t.mc = s.mc
  windows : ∀ q ∈ l, t.sp[q].hbElapsed = 0 ∧ t.sp[q].silent = false
  stands : ∀ q : PortIx, q ∉ l → t.sp[q].hbElapsed = s.sp[q].hbElapsed ∧ t.sp[q].silent = s.sp[q].silent
  done : AlarmLaw s → ∀ q ∈ l, Cleared t .STATION_SILENT q.val

theorem quietPort_quieted (p : PortIx) (s : State) : PortsQuieted [p] s (quietPort p s) := by
  have hports (q : PortIx) : (s.modPort p fun t => { t with hbElapsed := 0, silent := false }).sp[q] =
      if p = q then { s.sp[q] with hbElapsed := 0, silent := false } else s.sp[q] := by
    simp only [State.modPort, Fin.getElem_fin, getElem_upd, Fin.val_inj]
    split
    · next he => subst he; rfl
    · rfl
  have hshape : quietPort p s = clearAlarm .STATION_SILENT p.val (s.modPort p fun t => { t with hbElapsed := 0, silent := false }) := rfl
  rw [hshape]
  have h := clear_taken (k := .STATION_SILENT) (by decide) (by decide) p.val (s.modPort p fun t => { t with hbElapsed := 0, silent := false })
  have hushed : Hushed s (s.modPort p fun t => { t with hbElapsed := 0, silent := false }) :=
    .of_al rfl rfl rfl rfl rfl rfl rfl rfl rfl rfl (fun q => by rw [hports q]; split <;> rfl) rfl
  refine { toHushed := hushed.trans h.toHushed, allRc := h.allRc, cs := h.cs, mc := h.mc, windows := fun q hq => ?_
           stands := fun q hq => ?_, done := fun hs q hq => ?_ }
  · rw [h.queues q, hports q, if_pos (List.mem_singleton.mp hq).symm]
    exact ⟨rfl, rfl⟩
  · rw [h.queues q, hports q, if_neg (fun he => hq (List.mem_singleton.mpr he.symm))]
    exact ⟨rfl, rfl⟩
  · rw [List.mem_singleton.mp hq]
    exact h.done (hushed.law hs)

theorem PortsQuieted.cons {l : List PortIx} (a : PortsQuieted [p] s t) (b : PortsQuieted l t u) (hp : p ∉ l) :
    PortsQuieted (p :: l) s u where
  toHushed := a.toHushed.trans b.toHushed
  allRc := b.allRc.trans a.allRc
  cs := b.cs.trans a.cs
  mc := b.mc.trans a.mc
  windows q hq := by
    rcases List.mem_cons.mp hq with rfl | hq
    · rw [(b.stands q hp).1, (b.stands q hp).2]
      exact a.windows q (List.mem_singleton_self q)
    · exact b.windows q hq
  stands q hq := by
    rw [List.mem_cons, not_or] at hq
    rw [(b.stands q hq.2).1, (b.stands q hq.2).2]
    exact a.stands q fun hm => hq.1 (List.mem_singleton.mp hm)
  done hs q hq := by
    rcases List.mem_cons.mp hq with rfl | hq
    · exact b.cleared (a.law hs) _ _ (by decide) (a.done hs q (List.mem_singleton_self q))
    · exact b.done (a.law hs) q hq

theorem ports_quieted {l : List PortIx} (hnodup : l.Nodup) (s : State) : PortsQuieted l s (forEach l quietPort s) := by
  induction l generalizing s with
  | nil => exact ⟨.refl s, rfl, rfl, rfl, nofun, fun _ _ => ⟨rfl, rfl⟩, nofun⟩
  | cons p rest ih =>
    obtain ⟨hp, hrest⟩ := List.nodup_cons.mp hnodup
    exact (quietPort_quieted p s).cons (ih hrest _) hp

/-! ### The mode (R127, R128) -/

structure ModeQuieted (s t : State) : Prop extends Hushed s t where
  allRc : t.rc = s.rc
  cs : t.cs = s.cs
  mc : t.mc = { s.mc with bridgeLost := false, oas := Vector.replicate 96 ⟨0, false⟩ }
  queues : OnlyQueues s t
  done : AlarmLaw s → Cleared t .BRIDGE_LOST noSubject

theorem mode_quieted (s : State) : ModeQuieted s (quietMode s) := by
  unfold quietMode
  generalize hv : Vector.replicate 96 (⟨0, false⟩ : OasTimer) = v
  have h := clear_taken (k := .BRIDGE_LOST) (by decide) (by decide) noSubject { s with mc := { s.mc with bridgeLost := false, oas := v } }
  have hushed : Hushed s { s with mc := { s.mc with bridgeLost := false, oas := v } } :=
    .of_al rfl rfl rfl rfl rfl rfl rfl rfl rfl rfl (fun _ => rfl) rfl
  exact { toHushed := hushed.trans h.toHushed, allRc := h.allRc, cs := h.cs, mc := by rw [hv]; exact h.mc, queues := h.queues
          done := fun hs => h.done (hushed.law hs) }

/-! ### The whole of a DECOMMISSION (R183) -/

/-- The part UNCONFIGURED, its orders sent and its poll cycle stopped. -/
abbrev ringStopped (s : State) : State := stopPolling (sendOrders (setPart .UNCONFIGURED (ringQuiet s)))

/-- The blocks after their clears, before the indications. -/
def blocksQuieted (s : State) : State :=
  quietMode (forEach allPorts quietPort (forEach (ringStopped s).presentDoors quietDoor (forEach allHpus quietHpu (ringStopped s))))

theorem decommissioned_eq (s : State) : decommissioned s = recomputeReleased (clearPacing (blocksQuieted s)) := rfl

/-- What a DECOMMISSION leaves of a part with an empty schedule, before its RESULT. -/
structure QuietPart (s t : State) : Prop where
  cfs : t.cfs = { s.cfs with part := .UNCONFIGURED }
  tables : t.tables = s.tables
  mode : t.mc.mode = s.mc.mode
  ring : t.rc = { s.rc with orders := [], polled := none, pollEnded := true, replyLimit := 0, interval := 0
                            txSeq := s.rc.txSeq + BitVec.ofNat 8 s.rc.orders.length
                            reported := t.rc.reported, hpus := t.rc.hpus }
  sent : t.pins.ringOut.length = s.rc.orders.length
  reported : ∀ d : DoorIx, t.rc.reported[d] = if s.isPresent d then hushedDoor s.rc.reported[d] else s.rc.reported[d]
  hpus : ∀ h : HpuIx, t.rc.hpus[h] = hushedHpu s.rc.hpus[h]
  capacity : ∀ h : HpuIx, s.rc.hpus[h].state = .LOST → t.cs.flow[h].capacityE = effectiveCapacity t h
  windows : ∀ q : PortIx, t.sp[q].hbElapsed = 0 ∧ t.sp[q].silent = false ∧ t.sp[q].early = s.sp[q].early
  lost : t.mc.bridgeLost = false
  oas : ∀ d : DoorIx, t.mc.oas[d] = ⟨0, false⟩
  sea : t.mc.sea = s.mc.sea
  cleared : AlarmLaw s → (∀ d : DoorIx, s.isPresent d = true → Cleared t .DOOR_SILENT d.val)
    ∧ (∀ h : HpuIx, Cleared t .HPU_FAILED h.val ∧ Cleared t .HPU_SILENT h.val)
    ∧ (∀ q : PortIx, Cleared t .STATION_SILENT q.val) ∧ Cleared t .BRIDGE_LOST noSubject
  comps : ∀ c : CompIx, t.ib.comps[c] = compIndication t c
  ib : t.ib = { s.ib with comps := t.ib.comps, allClosed := false, pacing := Vector.replicate 8 ⟨0, false⟩ }
  ms : t.ms = s.ms
  seconds : t.seconds = s.seconds

theorem ringStopped_eq (s : State) : ∃ out : List (List Byte), out.length = s.rc.orders.length ∧ ringStopped s =
    { s with
      cfs := { s.cfs with part := .UNCONFIGURED }
      rc := { s.rc with orders := [], polled := none, pollEnded := true, replyLimit := 0, interval := 0
                        txSeq := s.rc.txSeq + BitVec.ofNat 8 s.rc.orders.length }
      pins := { s.pins with ringOut := out } } := by
  obtain ⟨out, hlen, heq⟩ := sendOrders_eq (setPart .UNCONFIGURED (ringQuiet s))
  refine ⟨out, hlen.trans (Nat.zero_add _), ?_⟩
  unfold ringStopped
  rw [heq]
  rfl

theorem decommissioned_quiet (hempty : ∀ d : DoorIx, s.entry d = none) : QuietPart s (decommissioned s) := by
  obtain ⟨out, hout, hring⟩ := ringStopped_eq s
  have hquieted : blocksQuieted s =
      quietMode (forEach allPorts quietPort (forEach (ringStopped s).presentDoors quietDoor (forEach allHpus quietHpu (ringStopped s)))) := rfl
  have hpresent : (ringStopped s).presentDoors = s.presentDoors := by rw [hring]; rfl
  rw [hpresent] at hquieted
  rw [decommissioned_eq, hquieted]
  generalize ringStopped s = a at hring ⊢
  have hh : HpusQuieted allHpus a (forEach allHpus quietHpu a) := hpus_quieted (List.nodup_finRange 8) (fun d => by rw [hring]; exact hempty d)
  generalize forEach allHpus quietHpu a = b at hh ⊢
  have hd : DoorsQuieted s.presentDoors b (forEach s.presentDoors quietDoor b) := doors_quieted ((List.nodup_finRange 96).filter _) b
  generalize forEach s.presentDoors quietDoor b = c at hd ⊢
  have hp : PortsQuieted allPorts c (forEach allPorts quietPort c) := ports_quieted (List.nodup_finRange 8) c
  generalize forEach allPorts quietPort c = e at hp ⊢
  have hm := mode_quieted e
  generalize quietMode e = f at hm ⊢
  have hushed : Hushed a f := ((hh.toHushed.trans hd.toHushed).trans hp.toHushed).trans hm.toHushed
  have hmc : f.mc = { a.mc with bridgeLost := false, oas := Vector.replicate 96 ⟨0, false⟩ } := by
    rw [hm.mc, hp.mc, hd.mc, hh.mc]
  have hreported (d : DoorIx) : f.rc.reported[d] = if s.isPresent d then hushedDoor s.rc.reported[d] else s.rc.reported[d] := by
    rw [hm.allRc, hp.allRc, hd.reported d, hh.reported, hring]
    exact if_congr (by rw [State.presentDoors, List.mem_filter]; exact ⟨fun h => h.2, fun h => ⟨mem_allDoors d, h⟩⟩) rfl rfl
  have hhpus (h : HpuIx) : f.rc.hpus[h] = hushedHpu s.rc.hpus[h] := by
    rw [hm.allRc, hp.allRc, hd.hpus, hh.hpus h, if_pos (show h ∈ allHpus from List.mem_finRange h), hring]
  have hcapacity (h : HpuIx) (hl : s.rc.hpus[h].state = .LOST) : f.cs.flow[h].capacityE = effectiveCapacity f h := by
    rw [hm.cs, hp.cs, hd.cs, hh.capacity h (List.mem_finRange h) (by rw [hring]; exact hl)]
    exact (effectiveCapacity_congr (hm.tables.trans (hp.tables.trans hd.tables)) (by rw [hm.allRc, hp.allRc, hd.hpus])).symm
  have hwindows (q : PortIx) : f.sp[q].hbElapsed = 0 ∧ f.sp[q].silent = false ∧ f.sp[q].early = s.sp[q].early := by
    obtain ⟨hel, hsil⟩ := hp.windows q (List.mem_finRange q)
    refine ⟨?_, ?_, (hushed.early q).trans (by rw [hring])⟩
    · rw [hm.queues q]; exact hel
    · rw [hm.queues q]; exact hsil
  have hcleared (hlaw : AlarmLaw s) : (∀ d : DoorIx, s.isPresent d = true → Cleared f .DOOR_SILENT d.val)
      ∧ (∀ h : HpuIx, Cleared f .HPU_FAILED h.val ∧ Cleared f .HPU_SILENT h.val)
      ∧ (∀ q : PortIx, Cleared f .STATION_SILENT q.val) ∧ Cleared f .BRIDGE_LOST noSubject := by
    have ha : AlarmLaw a := (alarmLaw_congr (by rw [hring])).mpr hlaw
    have hb := hh.law ha
    have hc := hd.law hb
    have he := hp.law hc
    have hlast := hp.toHushed.trans hm.toHushed
    refine ⟨fun d hpd => ?_, fun h => ?_, fun q => ?_, hm.done he⟩
    · exact hlast.cleared hc _ _ (by decide) (hd.done hb d (List.mem_filter.mpr ⟨mem_allDoors d, hpd⟩))
    · obtain ⟨hf, hsil⟩ := hh.done ha h (List.mem_finRange h)
      exact ⟨(hd.toHushed.trans hlast).cleared hb _ _ (by decide) hf, (hd.toHushed.trans hlast).cleared hb _ _ (by decide) hsil⟩
    · exact hm.cleared he _ _ (by decide) (hp.done hc q (List.mem_finRange q))
  have hrc := hushed.rc
  have hib : (clearPacing f).ib = { s.ib with pacing := Vector.replicate 8 ⟨0, false⟩ } := by
    show { f.ib with pacing := Vector.replicate 8 ⟨0, false⟩ } = _
    rw [hushed.pacing, hring]
  have hcomps (x : CompIx) := compsNow_eq (clearPacing f) x
  rw [recomputeReleased_eq]
  generalize compsNow (clearPacing f) = v at hcomps ⊢
  exact { cfs := by rw [show (clearPacing f).cfs = f.cfs from rfl, hushed.cfs, hring]
          tables := by rw [show (clearPacing f).tables = f.tables from rfl, hushed.tables, hring]
          mode := by rw [show (clearPacing f).mc = f.mc from rfl, hmc, hring]
          ring := by rw [show (clearPacing f).rc = f.rc from rfl, hrc, hring]
          sent := by rw [show (clearPacing f).pins = f.pins from rfl, hushed.pins, hring]; exact hout
          reported := hreported, hpus := hhpus, capacity := hcapacity, windows := hwindows
          lost := by rw [show (clearPacing f).mc = f.mc from rfl, hmc]
          oas := fun d => by rw [show (clearPacing f).mc = f.mc from rfl, hmc]; exact Vector.getElem_replicate ..
          sea := by rw [show (clearPacing f).mc = f.mc from rfl, hmc, hring]
          cleared := hcleared, comps := hcomps
          ib := by rw [hib]
          ms := by rw [show (clearPacing f).ms = f.ms from rfl, hushed.ms, hring]
          seconds := by rw [show (clearPacing f).seconds = f.seconds from rfl, hushed.seconds, hring] }

end

/-- Settles O40: the refusals, and the stages of a DECOMMISSION with its RESULT last. -/
theorem decommissioned : Obligations.Decommissioned := by
  intro p s h u
  have hexec : exec (.decommission p) s = .next (decommission p u) := by
    rw [exec_awake h.1.1 rfl, decide_exclusive _ h]
  refine ⟨fun hno => ?_, fun hin hmode hbusy => ?_, fun hin hmode hempty hruns hlaw => ?_⟩
  · exact hexec.trans (congrArg _ (if_pos hno))
  · have hserves : ¬(u.inService = false ∨ u.mc.mode ≠ .LOCAL) := by
      rintro (hf | hf)
      · exact Bool.false_ne_true (hf.symm.trans hin)
      · exact hf hmode
    have hpart : partBusy u = true := by
      unfold partBusy
      rw [Bool.or_eq_true]
      rcases hbusy with ⟨d, hd⟩ | hl
      · exact .inl (List.any_eq_true.mpr ⟨d, mem_allDoors d, Option.isSome_iff_ne_none.mpr hd⟩)
      · right
        rw [Bool.not_eq_true', List.isEmpty_eq_false_iff]
        exact hl
    exact hexec.trans (congrArg _ ((if_neg hserves).trans (if_pos hpart)))
  · have hserves : ¬(u.inService = false ∨ u.mc.mode ≠ .LOCAL) := by
      rintro (hf | hf)
      · exact Bool.false_ne_true (hf.symm.trans hin)
      · exact hf hmode
    have hpart : ¬partBusy u = true := by
      unfold partBusy
      rw [Bool.or_eq_true, Bool.not_eq_true', List.isEmpty_eq_false_iff]
      rintro (hany | hl)
      · obtain ⟨d, -, hd⟩ := List.any_eq_true.mp hany
        exact Option.isSome_iff_ne_none.mp hd (hempty d)
      · exact hl hruns
    refine ends_of (hexec.trans (congrArg _ ((if_neg hserves).trans (if_neg hpart)))) ?_
    have quiet : QuietPart u (Machine.decommissioned u) := decommissioned_quiet hempty
    generalize Machine.decommissioned u = t at quiet ⊢
    have frame := frame_answerDone p 14 false [] t
    have hanswer : Done (answerDone p 14 false [] t) p 14 false [] := done_answerDone ..
    change PlaceFrame t (answerDone p decommissionKind false [] t) at frame
    change Done (answerDone p decommissionKind false [] t) p 14 false [] at hanswer
    have helapsed (q : PortIx) : (answerDone p decommissionKind false [] t).ib.pacing[q].elapsed = t.ib.pacing[q].elapsed := elapsed_place ..
    generalize answerDone p decommissionKind false [] t = v at frame hanswer helapsed ⊢
    have hcleared {k : AlarmKind} {x : Nat} (hc : Cleared t k x) : Cleared v k x := (cleared_congr frame.al).mpr hc
    obtain ⟨hdoors, hhpus, hstations, hbridge⟩ := quiet.cleared hlaw
    have hrc : v.rc = t.rc := frame.rc
    have hring := quiet.ring
    have hib := quiet.ib
    have hvib := frame.pacing
    refine ⟨frame.cfs.trans quiet.cfs, frame.tables.trans quiet.tables, (frame.mode.trans quiet.mode).trans hmode,
      by rw [hrc, hring], by rw [hrc, hring], by rw [hrc, hring], by rw [hrc, hring], by rw [frame.pins]; exact quiet.sent,
      by rw [hrc, hring]; rfl, by rw [hrc, hring]; rfl, by rw [hrc, hring]; rfl, by rw [hrc, hring]; rfl,
      fun d => by rw [hrc]; exact quiet.reported d, fun h => by rw [hrc]; exact quiet.hpus h, fun h hl => ?_, fun q => ?_,
      by rw [frame.mc]; exact quiet.lost, fun d => by rw [frame.mc]; exact quiet.oas d, frame.sea.trans quiet.sea,
      fun d hd => hcleared (hdoors d hd), fun h => ⟨hcleared (hhpus h).1, hcleared (hhpus h).2⟩, fun q => hcleared (hstations q),
      hcleared hbridge, by rw [hvib, hib], by rw [hvib, hib]; rfl, by rw [hvib, hib]; rfl, by rw [hvib, hib]; rfl, fun c => ?_,
      fun q => ?_, fun d => ?_, frame.seconds.trans quiet.seconds, hanswer⟩
    · rw [frame.cs, quiet.capacity h hl]
      exact (effectiveCapacity_congr frame.tables (by rw [hrc])).symm
    · obtain ⟨hel, hsil, hearly⟩ := quiet.windows q
      rw [frame.queues q]
      refine ⟨hel, hsil, hearly.trans ?_⟩
      rw [sp_acceptFrame_port]
      split <;> rfl
    · rw [hvib, quiet.comps c]
      exact compIndication_congr (isPresent_congr frame.tables.symm) (fun d _ => by unfold bounds; rw [frame.tables])
        fun d _ _ => by unfold State.position; rw [hrc]
    · rw [helapsed, hib]
      show ((Vector.replicate 8 (⟨0, false⟩ : Pacing))[q]).elapsed = 0
      rw [show (Vector.replicate 8 (⟨0, false⟩ : Pacing))[q] = ⟨0, false⟩ from Vector.getElem_replicate ..]
    · unfold State.latch
      rw [frame.ms, quiet.ms]
      rfl

end Sys2Proof.Proofs
end

section
/-! ## Frames of a door, and what a presentation leaves of RC and of the ring's alarms (R5 to R9, R131 to R135) -/
namespace Sys2Proof.Proofs
open Sys2Proof Sys2Proof.Machine

set_option Elab.async false

/-! ### What a presentation carries -/

/-- The kinds of alarm that a presentation may raise or clear. -/
def presentKinds : List AlarmKind := .DOOR_FAULT :: .UNSUPERVISED_MOTION :: .DOOR_OPEN_AT_SEA :: blockKinds

/-- A relation between an earlier and a later state that the frames placed and the alarms of a presentation meet, and every update
beside them and beside IB. -/
structure Presented (R : State → State → Prop) : Prop where
  refl : ∀ s, R s s
  trans : ∀ {s t u}, R s t → R t u → R s u
  quiet : ∀ {s t}, t.al = s.al → t.sp = s.sp → t.ib = s.ib → R s t
  raise : ∀ k x s, k ∈ presentKinds → R s (raiseAlarm k x s)
  event : ∀ x s, R s (raiseEvent .PRECONDITION_BYPASSED x s)
  clear : ∀ k x s, k ∈ presentKinds → R s (clearAlarm k x s)
  place : ∀ p f s, f.isSummary = false → R s (place p f s)

section
variable {R : State → State → Prop} (c : Presented R)
include c

theorem Presented.toCarried : Carried R where
  refl := c.refl
  trans := c.trans
  quiet hal hsp _ hib := c.quiet hal hsp hib
  raise k x s hk := c.raise k x s (by simp [presentKinds, hk])
  event := c.event
  clear k x s hk := c.clear k x s (by simp [presentKinds, hk])
  place := c.place

theorem Presented.ite {p : Prop} [Decidable p] {s a b : State} (h : R s a) (g : R s b) : R s (if p then a else b) :=
  c.toCarried.ite h g

/-! ### The Movement Supervisor -/

theorem Presented.faultDoor (k : Latch) (d : DoorIx) (s : State) : R s (faultDoor k d s) :=
  c.trans (c.trans (c.toCarried.removeEntry (.FAULT k) d s)
    (c.trans (c.quiet (t := setLatch d k _) rfl rfl rfl) (c.raise .DOOR_FAULT d.val _ (by decide)))) (c.toCarried.bypassWaits ..)

theorem Presented.arrive (d : DoorIx) (e : Entry) (b : Before) (s : State) : R s (arrive d e b s) := by
  have captured : R s (if captures e b then s.modSup d (Supervision.capture e.direction e.elapsed) else s) :=
    c.ite (c.quiet rfl rfl rfl) (c.refl s)
  exact c.trans captured (c.toCarried.removeEntry ..)

theorem Presented.judgeEntry (d : DoorIx) (e : Entry) (b : Before) (s : State) : R s (judgeEntry d e b s) := by
  unfold Machine.judgeEntry
  split
  · exact c.arrive ..
  · exact c.quiet rfl rfl rfl
  · exact c.faultDoor ..
  · exact c.faultDoor ..
  · exact c.refl s

theorem Presented.releaseOnIdle (d : DoorIx) (prev : Handle) (s : State) : R s (releaseOnIdle d prev s) := by
  unfold Machine.releaseOnIdle
  split
  · exact c.ite (c.toCarried.removeEntry ..) (c.refl s)
  · exact c.refl s

theorem Presented.adopt (d : DoorIx) (dir : Direction) (s : State) : R s (adopt d dir s) := by
  have hn : R s (takeArrival d s).2 := by
    have renumbered : R s (if s.cs.nextArrival = arrivalTop then renumber d s else s) := by
      unfold renumber
      exact c.ite (c.quiet rfl rfl rfl) (c.refl s)
    refine c.trans renumbered ?_
    unfold takeArrival
    generalize (if s.cs.nextArrival = arrivalTop then renumber d s else s) = u
    exact c.quiet rfl rfl rfl
  unfold Machine.adopt
  generalize takeArrival d s = a at hn ⊢
  have made (u : State) (e : Entry) : R u (u.makeEntry d e) := c.quiet rfl rfl rfl
  have flowed (u : State) (f : HpuFlow → HpuFlow) : R u (u.modFlow (u.hpuOf d) f) := c.quiet rfl rfl rfl
  exact c.trans hn (c.trans (made ..) (flowed ..))

theorem Presented.foundMoving (d : DoorIx) (dir : Direction) (s : State) : R s (foundMoving d dir s) := by
  unfold Machine.foundMoving reverseAdopted
  refine c.ite (c.trans (c.adopt d dir s) (c.ite ?_ (c.refl _))) (c.raise _ _ _ (by decide))
  refine c.trans ?_ (c.toCarried.pass ..)
  unfold reverseOne
  split
  · exact c.toCarried.reverseEntry ..
  · exact c.refl _

theorem Presented.clearAtRest (d : DoorIx) (s : State) : R s (clearAtRest d s) :=
  c.ite (c.trans (c.clear .DOOR_FAULT d.val s (by decide)) (c.clear .UNSUPERVISED_MOTION d.val _ (by decide))) (c.refl s)

theorem Presented.presentMS (d : DoorIx) (b : Before) (s : State) : R s (presentMS d b s) := by
  refine c.trans (c.clearAtRest d s) ?_
  unfold Machine.presentMS
  generalize Machine.clearAtRest d s = u
  simp only
  split
  · exact c.ite (c.trans (c.judgeEntry ..) (c.releaseOnIdle ..)) (c.refl _)
  · split
    · exact c.foundMoving ..
    · exact c.refl _

theorem Presented.presentCS (d : DoorIx) (s : State) : R s (presentCS d s) := by
  unfold Machine.presentCS
  split
  · exact c.ite (c.toCarried.removeEntry ..) (c.refl s)
  · exact c.refl s

/-! ### The Mode Controller -/

theorem Presented.submitReclose (d : DoorIx) (x : Passage) (s : State) : R s (submitReclose d x s) := by
  refine c.trans (c.quiet (t := s.setPassage d { x with phase := .RECLOSING, demanded := true }) rfl rfl rfl) ?_
  unfold Machine.submitReclose recloseOutcome
  generalize s.setPassage d { x with phase := .RECLOSING, demanded := true } = u
  have decided := c.toCarried.decideDemand (passageDemand .CLOSE (passageClass u.mc.mode) d) u
  exact c.trans decided (c.ite (c.toCarried.endPassage ..) (c.refl _))

theorem Presented.presentPassage (d : DoorIx) (s : State) : R s (presentPassage d s) := by
  have cleared : R s (if s.position d = .CLOSED then clearDoor .DOOR_OPEN_AT_SEA d s else s) :=
    c.ite (c.clear .DOOR_OPEN_AT_SEA d.val s (by decide)) (c.refl s)
  refine c.trans cleared ?_
  unfold Machine.presentPassage
  generalize (if s.position d = .CLOSED then clearDoor .DOOR_OPEN_AT_SEA d s else s) = u
  simp only
  split
  · unfold progressPassage
    split
    · exact c.ite (c.quiet rfl rfl rfl) (c.refl _)
    · exact c.refl _
    · exact c.ite (c.ite (c.toCarried.endPassage ..) (c.refl _)) (c.ite (c.refl _) (c.submitReclose ..))
  · exact c.refl _

theorem Presented.releaseLocal (d : DoorIx) (s : State) : R s (releaseLocal d s) := by
  unfold Machine.releaseLocal
  split
  · exact c.ite (c.toCarried.removeEntry ..) (c.refl s)
  · exact c.refl s

theorem Presented.endHoldOf (d : DoorIx) (s : State) : R s (endHoldOf d s) := by
  unfold Machine.endHoldOf
  split
  · refine c.ite (c.refl s) ?_
    have freed : R s (releasePassageEntry d s) := by
      unfold releasePassageEntry
      split
      · exact c.ite (c.toCarried.removeEntry ..) (c.refl s)
      · exact c.refl s
    refine c.trans freed ?_
    unfold endHold
    generalize releasePassageEntry d s = u
    exact c.ite (c.quiet rfl rfl rfl) (c.submitReclose ..)
  · exact c.refl s

theorem Presented.openPassage (d : DoorIx) (s : State) : R s (openPassage d s) := by
  have decided := c.toCarried.decideDemand (passageDemand .OPEN (passageClass s.mc.mode) d) s
  unfold Machine.openPassage endAnyPassage
  generalize Machine.decideDemand (passageDemand .OPEN (passageClass s.mc.mode) d) s = a at decided ⊢
  simp only
  split
  · have made (u : State) (x : Passage) : R u (u.makePassage d x) := c.quiet rfl rfl rfl
    split
    · exact c.trans (c.trans decided (c.toCarried.endPassage ..)) (made ..)
    · exact c.trans decided (made ..)
  · exact decided

theorem Presented.denyHandle (d : DoorIx) (s : State) : R s (denyHandle d s) := by
  refine c.trans (c.quiet (t := s.modSea d fun x => { x with denied := satInc 255 x.denied }) rfl rfl rfl) ?_
  unfold Machine.denyHandle
  generalize (s.modSea d fun x => { x with denied := satInc 255 x.denied }) = u
  simp only
  split
  · exact c.ite (c.toCarried.queueOrder ..) (c.refl u)
  · exact c.toCarried.queueOrder ..

theorem Presented.handleDemand (d : DoorIx) (new : Handle) (s : State) : R s (handleDemand d new s) := by
  unfold Machine.handleDemand localDemand
  split
  · exact c.toCarried.decideDemand ..
  · exact c.toCarried.decideDemand ..
  · exact c.openPassage ..
  · exact c.ite (c.openPassage ..) (c.denyHandle ..)
  all_goals exact c.refl s

theorem Presented.presentHandle (d : DoorIx) (prev : Handle) (s : State) : R s (presentHandle d prev s) := by
  refine c.ite (c.refl s) ?_
  have freed : R s (if prev = .OPEN ∨ prev = .CLOSE then Machine.releaseLocal d s else s) := c.ite (c.releaseLocal ..) (c.refl s)
  refine c.trans freed ?_
  unfold handleChange
  generalize (if prev = .OPEN ∨ prev = .CLOSE then Machine.releaseLocal d s else s) = u
  exact c.trans (c.ite (c.endHoldOf ..) (c.refl u)) (c.handleDemand ..)

theorem Presented.takePresentation (d : DoorIx) (b : Before) (a : PresentAct) (ha : a ≠ .IB) (s : State) :
    R s (takePresentation d b a s) := by
  cases a with
  | MS => exact c.presentMS ..
  | CS => exact c.presentCS ..
  | MC_PASSAGE => exact c.presentPassage ..
  | MC_HANDLE => exact c.presentHandle ..
  | GRU => exact c.toCarried.pokeRuns ..
  | IB => exact absurd rfl ha

end

/-! ### The Indication Block, and the six actions -/

/-- Such a relation that what IB writes meets too. -/
structure Indicated (R : State → State → Prop) : Prop extends Presented R where
  shown : ∀ {s t}, t.al = s.al → t.sp = s.sp → R s t
  summary : ∀ p s, R s (Machine.place p (zoneSummary s p) s)

section
variable {R : State → State → Prop} (c : Indicated R)
include c

theorem Indicated.sendSummary (p : PortIx) (s : State) : R s (sendSummary p s) := by
  have placed := c.summary p s
  unfold Machine.sendSummary
  generalize Machine.place p (zoneSummary s p) s = u at placed ⊢
  exact c.toPresented.ite (c.trans placed (c.shown rfl rfl)) (c.trans placed (c.shown rfl rfl))

theorem Indicated.recomputeComps (l : List CompIx) (s : State) : R s (recomputeComps l s) := by
  have written : R s (writeComps l s) := by unfold writeComps; exact c.shown rfl rfl
  have paced (p : PortIx) (u : State) : R u (pacingChange p u) := c.toPresented.ite (c.shown rfl rfl) (c.sendSummary ..)
  exact c.toPresented.ite (c.trans written (c.toPresented.toCarried.forEach paced _ _)) written

theorem Indicated.presentIB (d : DoorIx) (prev : Position) (s : State) : R s (presentIB d prev s) :=
  c.toPresented.ite (c.refl s) (c.recomputeComps ..)

theorem Indicated.takePresentation (d : DoorIx) (b : Before) (a : PresentAct) (s : State) : R s (takePresentation d b a s) := by
  by_cases ha : a = .IB
  · rw [ha]
    exact c.presentIB ..
  · exact c.toPresented.takePresentation d b a ha s

theorem Indicated.present (d : DoorIx) (b : Before) (s : State) : R s (present d b s) := by
  unfold Machine.present
  refine c.toPresented.ite ?_ (c.presentIB ..)
  have chosen : R s { s with freeCount := s.freeCount + 1 } := c.shown rfl rfl
  refine c.trans chosen ?_
  generalize actOrder (Config.presentationPlace s.freeCount) = order
  generalize { s with freeCount := s.freeCount + 1 } = u
  exact c.trans (c.toPresented.toCarried.forEach (fun a v => c.takePresentation d b a v) order u) (c.toPresented.toCarried.settleRuns _)

end

/-- The records of the ring's own conditions of a door stand. -/
def RingRecordsStand (s t : State) : Prop :=
  ∀ r : AlarmRecord, r.kind = .DOOR_SILENT ∨ r.kind = .DOOR_SENSOR → (r ∈ t.al.records ↔ r ∈ s.al.records)

theorem ringRecordsStand_of_onlyAlarms {s t : State} {k : AlarmKind} {x : Nat} (h : OnlyAlarms s t [(k, x)]) (hk : k ∈ presentKinds) :
    RingRecordsStand s t := fun r hr => by
  have hmem : ∀ k ∈ presentKinds, k ≠ .DOOR_SILENT ∧ k ≠ .DOOR_SENSOR := by decide
  have hpair : r.pair ∉ [(k, x)] := by
    rw [List.mem_singleton]
    intro he
    have hkind : r.kind = k := congrArg Prod.fst he
    exact hr.elim (fun h' => (hmem k hk).1 (hkind.symm.trans h')) fun h' => (hmem k hk).2 (hkind.symm.trans h')
  have hfull : r.kind ≠ .LIST_FULL := by rcases hr with hr | hr <;> rw [hr] <;> decide
  exact ⟨fun hm => h.2 r hm hpair hfull, fun hm => h.1 r hm hpair hfull⟩

/-- No presentation raises or clears a condition of the ring. -/
theorem presented_ringRecords : Indicated RingRecordsStand where
  refl _ _ _ := Iff.rfl
  trans h g r hr := (g r hr).trans (h r hr)
  quiet hal _ _ _ _ := by rw [hal]
  shown hal _ _ _ := by rw [hal]
  raise k x s hk := ringRecordsStand_of_onlyAlarms (onlyAlarms_raiseAlarm k x s) hk
  event x s := ringRecordsStand_of_onlyAlarms (onlyAlarms_raiseEvent .PRECONDITION_BYPASSED x s) (by decide)
  clear k x s hk := ringRecordsStand_of_onlyAlarms (onlyAlarms_clearAlarm k x s) hk
  place p f s _ _ _ := by rw [(PlaceFrame.place p f s).al]
  summary p s _ _ := by rw [(PlaceFrame.place p _ s).al]

section
variable {s t : State} {k : AlarmKind} {x : Nat}

theorem RingRecordsStand.cleared (h : RingRecordsStand s t) (hk : k = .DOOR_SILENT ∨ k = .DOOR_SENSOR) (hs : Cleared s k x) :
    Cleared t k x := fun r hr hkind hsubject => hs r ((h r (hkind ▸ hk)).mp hr) hkind hsubject

theorem RingRecordsStand.standing (h : RingRecordsStand s t) (hk : k = .DOOR_SILENT ∨ k = .DOOR_SENSOR) (hs : Standing s k x) :
    Standing t k x := by
  obtain ⟨r, hr, hpair, hstate⟩ := hs
  have hkind : r.kind = k := congrArg Prod.fst hpair
  exact ⟨r, (h r (hkind ▸ hk)).mpr hr, hpair, hstate⟩

end

theorem PresentFrame.present (d : DoorIx) (b : Before) (s : State) : PresentFrame s (present d b s) := by
  have chosen : PresentFrame s { s with freeCount := s.freeCount + 1 } :=
    ⟨rfl, rfl, rfl, rfl, rfl, fun _ => rfl, rfl, rfl, rfl, rfl, rfl, rfl, rfl⟩
  exact .ite (chosen.trans (.presentIn ..)) (.presentIB ..)

end Sys2Proof.Proofs
end

section
/-! ## REPORT, EVENT and the third miss (R5 to R9, R131 to R135) -/
namespace Sys2Proof.Proofs
open Sys2Proof Sys2Proof.Machine

set_option Elab.async false

/-! ### A door's reported fields -/

/-- The state in which a door's reported fields and MC are as given. -/
def showing (d : DoorIx) (x : Reported) (m : Mc) (s : State) : State :=
  { s with rc := { s.rc with reported := put s.rc.reported d x }, mc := m }

/-- MC after a door's position was written: at CLOSED its open-at-sea timer is 0 (R123). -/
def mcShown (d : DoorIx) (p : Position) (s : State) : Mc := if p = .CLOSED then (s.zeroOas d).mc else s.mc

/-- The reported fields that a REPORT leaves (R5). -/
def reportedBy (r : ReportBits) (x : Reported) : Reported :=
  ⟨reportPosition r, reportedHandle r.handle, r.lowPressure, r.sensorFault, false, 0, x.shown || decide (reportPosition r ≠ .UNKNOWN)⟩

/-- The reported fields that an EVENT leaves (R8). -/
def eventReported (h : HandleCode) (low fault : Bool) (x : Reported) : Reported :=
  ⟨if fault then .UNKNOWN else x.position, reportedHandle h, low, fault, false, 0, x.shown⟩

section
variable {s t v : State} {d y : DoorIx} {x : Reported} {m : Mc} {f g : Reported → Reported}

theorem alarmFrame_showing (h : AlarmFrame s t) (d : DoorIx) (x : Reported) (m : Mc) :
    AlarmFrame (showing d x m s) (showing d x m t) where
  tables := h.tables
  cfs := h.cfs
  pins := h.pins
  seconds := h.seconds
  pending := h.pending
  queues := h.queues
  orders := by unfold OnlyOrders Proofs.showing; simp only [h.rc]
  pacing := h.pacing
  sea := rfl
  line := rfl
  mode := rfl
  bridgeLost := rfl
  counter := h.counter
  freeCount := h.freeCount
  moveRepeats := h.moveRepeats
  gru := h.gru
  mc := rfl
  nextArrival := h.nextArrival
  cs := h.cs
  rc := by unfold Proofs.showing; simp only [h.rc]

theorem reported_showing (d y : DoorIx) (x : Reported) (m : Mc) (s : State) :
    (showing d x m s).rc.reported[y] = if d = y then x else s.rc.reported[y] := by
  simp only [showing, Fin.getElem_fin, getElem_put, Fin.val_inj]

theorem showing_modReported (d : DoorIx) (x : Reported) (m : Mc) (f : Reported → Reported) (s : State) :
    showing d x m (s.modReported d f) = showing d x m s := by
  have hput : put (upd s.rc.reported d f) d x = put s.rc.reported d x := by
    refine Vector.ext fun k hk => ?_
    by_cases hdk : d.val = k <;> simp [hdk]
  unfold showing State.modReported
  simp only [hput]

theorem modReported_eq (d : DoorIx) (f : Reported → Reported) (s : State) :
    s.modReported d f = showing d (f s.rc.reported[d]) s.mc s := rfl

theorem setPosition_eq (d : DoorIx) (p : Position) (s : State) :
    s.setPosition d p = showing d { s.rc.reported[d] with position := p } (mcShown d p s) s := by
  unfold State.setPosition mcShown
  simp only
  split <;> rfl

theorem showing_showing (d : DoorIx) (x x' : Reported) (m m' : Mc) (s : State) :
    showing d x' m' (showing d x m s) = showing d x' m' s := by
  have := showing_modReported d x' m' (fun _ => x) s
  exact this

/-! ### What is taken from a frame -/

/-- A frame of the door was taken: its reported fields are `x`, MC is `m`, and of the alarms those of the ring for the door alone
may differ. -/
structure Heeded (d : DoorIx) (x : Reported) (m : Mc) (s v : State) : Prop where
  frame : AlarmFrame (showing d x m s) v
  ms : v.ms = s.ms
  alarms : OnlyAlarms s v [(.DOOR_SILENT, d.val), (.DOOR_SENSOR, d.val)]
  silent : AlarmLaw s → Cleared v .DOOR_SILENT d.val
  law : AlarmLaw s → AlarmLaw v
  count : otherCount v.al.records ≤ otherCount s.al.records + 1
  calm : x.position ≠ .UNKNOWN → otherCount v.al.records ≤ otherCount s.al.records
  appended : Appended 4 s v
  joined : QueuesJoined IsNotice s v

theorem heardFrom_frame (d : DoorIx) (s : State) :
    AlarmFrame (showing d { s.rc.reported[d] with lost := false, misses := 0 } s.mc s) (heardFrom d s) :=
  AlarmFrame.clearDoor .DOOR_SILENT d (s.modReported d fun r => { r with lost := false, misses := 0 })

/-- The state in which a frame of the door is to raise or clear DOOR_SENSOR. -/
theorem heeded_of_showing (d : DoorIx) (x : Reported) (m : Mc) (s : State) :
    AlarmFrame (showing d x m s) (showing d x m (heardFrom d s)) := by
  have h := alarmFrame_showing (heardFrom_frame d s) d x m
  rw [showing_showing] at h
  exact h

theorem appended_heard (d : DoorIx) (x : Reported) (m : Mc) (s : State) : Appended 2 s (showing d x m (heardFrom d s)) := by
  have hclear : Appended 2 s (heardFrom d s) := (Appended.clearAlarm ..).after rfl rfl
  have hshown : Appended 0 (heardFrom d s) (showing d x m (heardFrom d s)) := .of_eq (fun _ => rfl) rfl
  exact hclear.trans hshown

theorem otherCount_heard (d : DoorIx) (x : Reported) (m : Mc) (s : State) :
    otherCount (showing d x m (heardFrom d s)).al.records ≤ otherCount s.al.records :=
  otherCount_clearAlarm (s := s.modReported d fun r => { r with lost := false, misses := 0 }) .DOOR_SILENT d.val

/-- What DOOR_SILENT's clear leaves. -/
theorem heeded_heard (d : DoorIx) (x : Reported) (m : Mc) (s : State) : Heeded d x m s (showing d x m (heardFrom d s)) := by
  have honly := onlyAlarms_clearAlarm .DOOR_SILENT d.val (s.modReported d fun r => { r with lost := false, misses := 0 })
  have hcount := otherCount_heard d x m s
  refine { frame := heeded_of_showing d x m s, ms := ms_clearAlarm (by decide), alarms := onlyAlarms_mono honly (by simp),
           silent := fun hlaw => cleared_clearAlarm hlaw (by decide), law := fun hlaw => alarmLaw_clearAlarm (s := s.modReported d fun r => { r with lost := false, misses := 0 }) hlaw .DOOR_SILENT d.val,
           count := Nat.le_succ_of_le hcount, calm := fun _ => hcount, appended := (appended_heard d x m s).mono (by omega), joined := ?_ }
  · have hhear : QueuesJoined IsNotice s (s.modReported d fun r => { r with lost := false, misses := 0 }) := .of_sp rfl
    have hshown : QueuesJoined IsNotice (heardFrom d s) (showing d x m (heardFrom d s)) := .of_sp rfl
    exact (hhear.trans (clearAlarm_joined ..)).trans hshown

/-- DOOR_SENSOR of the door raised after the fields were taken. -/
theorem Heeded.raiseSensor (h : Heeded d x m s v) (hcount : otherCount v.al.records ≤ otherCount s.al.records)
    (hpos : x.position = .UNKNOWN) (happ : Appended 2 s v) : Heeded d x m s (raiseDoor .DOOR_SENSOR d v) := by
  have honly := onlyAlarms_raiseAlarm .DOOR_SENSOR d.val v
  have hgrow := otherCount_raiseAlarm (s := v) .DOOR_SENSOR d.val
  exact { frame := h.frame.trans (.raiseDoor ..), ms := (ms_raiseAlarm ..).trans h.ms
          alarms := onlyAlarms_trans h.alarms (onlyAlarms_mono honly (by simp))
          silent := fun hlaw => cleared_of_onlyAlarms honly (by simp) (by decide) (h.silent hlaw)
          law := fun hlaw => alarmLaw_raiseAlarm (h.law hlaw) (by decide) (by decide)
          count := hgrow.trans (Nat.succ_le_succ hcount), calm := fun hne => absurd hpos hne
          appended := (happ.trans (Appended.raiseAlarm ..)).mono (by omega), joined := h.joined.trans (raiseAlarm_joined ..) }

/-- DOOR_SENSOR of the door cleared after the fields were taken. -/
theorem Heeded.clearSensor (h : Heeded d x m s v) (hcount : otherCount v.al.records ≤ otherCount s.al.records)
    (happ : Appended 2 s v) : Heeded d x m s (clearDoor .DOOR_SENSOR d v) := by
  have honly := onlyAlarms_clearAlarm .DOOR_SENSOR d.val v
  have hless := (otherCount_clearAlarm (s := v) .DOOR_SENSOR d.val).trans hcount
  exact { frame := h.frame.trans (.clearDoor ..), ms := (ms_clearAlarm (by decide)).trans h.ms
          alarms := onlyAlarms_trans h.alarms (onlyAlarms_mono honly (by simp))
          silent := fun hlaw => cleared_of_onlyAlarms honly (by simp) (by decide) (h.silent hlaw)
          law := fun hlaw => alarmLaw_clearAlarm (h.law hlaw) _ _
          count := Nat.le_succ_of_le hless, calm := fun _ => hless
          appended := (happ.trans (Appended.clearAlarm ..)).mono (by omega), joined := h.joined.trans (clearAlarm_joined ..) }

/-! ### The frames, and the third miss -/

theorem takeReport_eq (d : DoorIx) (r : ReportBits) (s : State) : takeReport d r s =
    (fun w => if contradiction r then raiseDoor .DOOR_SENSOR d w else clearDoor .DOOR_SENSOR d w)
      (showing d (reportedBy r s.rc.reported[d]) (mcShown d (reportPosition r) s) (heardFrom d s)) := by
  have hframe := heardFrom_frame d s
  have hreported : (heardFrom d s).rc.reported[d] = { s.rc.reported[d] with lost := false, misses := 0 } := by
    rw [hframe.rc, reported_showing, if_pos rfl]
  have hmc : (heardFrom d s).mc = s.mc := hframe.mc
  unfold takeReport
  simp only [modReported_eq, setPosition_eq, showing_showing, reported_showing, if_pos, hreported, hmc]
  rfl

theorem takeEvent_eq (d : DoorIx) (h : HandleCode) (low fault : Bool) (s : State) : takeEvent d h low fault s =
    if fault then raiseDoor .DOOR_SENSOR d (showing d (eventReported h low fault s.rc.reported[d]) s.mc (heardFrom d s))
    else showing d (eventReported h low fault s.rc.reported[d]) s.mc (heardFrom d s) := by
  have hframe := heardFrom_frame d s
  have hreported : (heardFrom d s).rc.reported[d] = { s.rc.reported[d] with lost := false, misses := 0 } := by
    rw [hframe.rc, reported_showing, if_pos rfl]
  have hmc : (heardFrom d s).mc = s.mc := hframe.mc
  unfold takeEvent
  simp only [modReported_eq, setPosition_eq, showing_showing, reported_showing, if_pos, hreported, hmc]
  cases fault <;> rfl

/-- What a REPORT leaves before its presentation. -/
theorem heeded_takeReport (d : DoorIx) (r : ReportBits) (s : State) :
    Heeded d (reportedBy r s.rc.reported[d]) (mcShown d (reportPosition r) s) s (takeReport d r s)
    ∧ (contradiction r = true → HasRoom s .DOOR_SENSOR d.val → Standing (takeReport d r s) .DOOR_SENSOR d.val)
    ∧ (contradiction r = false → AlarmLaw s → Cleared (takeReport d r s) .DOOR_SENSOR d.val) := by
  have hheard := heeded_heard d (reportedBy r s.rc.reported[d]) (mcShown d (reportPosition r) s) s
  have hcount := otherCount_heard d (reportedBy r s.rc.reported[d]) (mcShown d (reportPosition r) s) s
  have happ := appended_heard d (reportedBy r s.rc.reported[d]) (mcShown d (reportPosition r) s) s
  have honly : OnlyAlarms s (showing d (reportedBy r s.rc.reported[d]) (mcShown d (reportPosition r) s) (heardFrom d s))
      [(.DOOR_SILENT, d.val)] := onlyAlarms_clearAlarm .DOOR_SILENT d.val (s.modReported d fun r => { r with lost := false, misses := 0 })
  rw [takeReport_eq]
  generalize showing d (reportedBy r s.rc.reported[d]) (mcShown d (reportPosition r) s) (heardFrom d s) = w at *
  cases hc : contradiction r with
  | true =>
    have hpos : reportPosition r = .UNKNOWN := by unfold reportPosition; rw [if_pos hc]
    refine ⟨hheard.raiseSensor hcount hpos happ, fun _ hroom => standing_raiseAlarm ?_, nofun⟩
    exact hasRoom_of_onlyAlarms honly (by simp) (by decide) (lt_of_le_of_lt hcount) hroom
  | false => exact ⟨hheard.clearSensor hcount happ, nofun, fun _ hlaw => cleared_clearAlarm (hheard.law hlaw) (by decide)⟩

/-- What an EVENT leaves before its presentation. -/
theorem heeded_takeEvent (d : DoorIx) (h : HandleCode) (low fault : Bool) (s : State) :
    Heeded d (eventReported h low fault s.rc.reported[d]) s.mc s (takeEvent d h low fault s)
    ∧ (fault = true → HasRoom s .DOOR_SENSOR d.val → Standing (takeEvent d h low fault s) .DOOR_SENSOR d.val)
    ∧ (fault = false → OnlyAlarms s (takeEvent d h low fault s) [(.DOOR_SILENT, d.val)]) := by
  have hheard := heeded_heard d (eventReported h low fault s.rc.reported[d]) s.mc s
  have hcount := otherCount_heard d (eventReported h low fault s.rc.reported[d]) s.mc s
  have happ := appended_heard d (eventReported h low fault s.rc.reported[d]) s.mc s
  have honly : OnlyAlarms s (showing d (eventReported h low fault s.rc.reported[d]) s.mc (heardFrom d s)) [(.DOOR_SILENT, d.val)] :=
    onlyAlarms_clearAlarm .DOOR_SILENT d.val (s.modReported d fun r => { r with lost := false, misses := 0 })
  rw [takeEvent_eq]
  generalize showing d (eventReported h low fault s.rc.reported[d]) s.mc (heardFrom d s) = w at *
  cases fault with
  | true =>
    refine ⟨hheard.raiseSensor hcount rfl happ, fun _ hroom => standing_raiseAlarm ?_, nofun⟩
    exact hasRoom_of_onlyAlarms honly (by simp) (by decide) (lt_of_le_of_lt hcount) hroom
  | false => exact ⟨hheard, nofun, fun _ => honly⟩

end

end Sys2Proof.Proofs
end

section
/-! ## The frames of a door, as RC takes them (R5 to R9, R131 to R135) -/
namespace Sys2Proof.Proofs
open Sys2Proof Sys2Proof.Machine

set_option Elab.async false

section
variable {s t u v : State} {d y : DoorIx} {x : Reported} {m : Mc} {rp : RingPort} {src seq : Byte}

/-! ### The commands -/

theorem before_heardAt (d : DoorIx) : before (heardAt rp src seq s) d = before s d := by
  obtain ⟨f, e, w, hheard⟩ := heardAt_eq rp src seq s
  rw [hheard]
  rfl

theorem exec_report_taken (hs : Awake s) (hd : NamesDoor s src d) (hpolled : s.rc.polled = some d)
    (hseq : s.filterAt src.toNat ≠ some seq) (r : ReportBits) : exec (.report rp src seq r) s
      = .next (present d (before s d) (takeReport d r (endPoll (heardAt rp src seq s)))) := by
  refine (exec_report hs r).trans (congrArg _ ?_)
  rw [reportArrives, doorAt_ringHunt, doorAt_of_names hd]
  simp only [polled_ringHunt, if_pos hpolled]
  rw [filtered_first hseq, before_heardAt]

theorem exec_event_taken (hs : Awake s) (hd : NamesDoor s src d) (hseq : s.filterAt src.toNat ≠ some seq) (h : HandleCode)
    (low fault : Bool) : exec (.event rp src seq h low fault) s
      = .next (present d (before s d) (takeEvent d h low fault (heardAt rp src seq s))) := by
  refine (exec_event hs h low fault).trans (congrArg _ ?_)
  rw [eventArrives, doorAt_ringHunt, doorAt_of_names hd]
  simp only
  rw [filtered_first hseq, before_heardAt]

/-! ### What RC holds after a presentation -/

/-- RC and the blocks aside after a presentation: RC holds the door's fields as given, and stands but for its orders. -/
structure Heard (d : DoorIx) (x : Reported) (u t : State) : Prop where
  rc : t.rc = { u.rc with reported := put u.rc.reported d x, orders := t.rc.orders }
  tables : t.tables = u.tables
  cfs : t.cfs = u.cfs
  pins : t.pins = u.pins
  seconds : t.seconds = u.seconds
  mode : t.mc.mode = u.mc.mode

theorem Heeded.heard (h : Heeded d x m u v) (hm : m.mode = u.mc.mode) (hf : PresentFrame v t) : Heard d x u t where
  rc := by
    have hv := h.frame.rc
    have ht := hf.orders
    unfold OnlyOrders at ht
    rw [ht, hv]
    rfl
  tables := hf.tables.trans h.frame.tables
  cfs := hf.cfs.trans h.frame.cfs
  pins := hf.pins.trans h.frame.pins
  seconds := hf.seconds.trans h.frame.seconds
  mode := (hf.mode.trans (congrArg Mc.mode h.frame.mc)).trans hm

theorem Heard.reported (h : Heard d x u t) : t.rc.reported[d] = x := by
  rw [h.rc]; simp only [Fin.getElem_fin, getElem_put, if_pos]

theorem Heard.other (h : Heard d x u t) (hy : y ≠ d) : t.rc.reported[y] = u.rc.reported[y] := by
  rw [h.rc]; simp only [Fin.getElem_fin, getElem_put, Fin.val_inj, if_neg hy.symm]

theorem mode_mcShown (d : DoorIx) (p : Position) (s : State) : (mcShown d p s).mode = s.mc.mode := by
  unfold mcShown
  split <;> rfl

end

/-- Settles O45: the fields and the alarms of the ring are taken before the presentation, and no block that acts on it touches
them, in whatever order. -/
theorem doorFramesTaken : Obligations.DoorFramesTaken := by
  unfold Obligations.DoorFramesTaken
  refine ⟨fun rp src seq r s hs hnode hlaw d hpolled hd hseq => ?_, fun rp src seq h low fault d s hs hnode hlaw hd hseq => ?_⟩
  · have haccepted := accepted_heardAt (s := s) (rp := rp) (seq := seq) hnode
    obtain ⟨f, e, w, hheard⟩ := heardAt_eq rp src seq s
    have hexec := exec_report_taken (rp := rp) (seq := seq) hs hd hpolled hseq r
    generalize hu : endPoll (heardAt rp src seq s) = u at hexec
    have hal : u.al = s.al := by rw [← hu, hheard]; rfl
    obtain ⟨hv, hstanding, hcleared⟩ := heeded_takeReport d r u
    have hring := presented_ringRecords.present d (before s d) (takeReport d r u)
    have ht := hv.heard (mode_mcShown ..) (PresentFrame.present d (before s d) (takeReport d r u))
    generalize present d (before s d) (takeReport d r u) = t at hexec hring ht
    have hulaw : AlarmLaw u := (alarmLaw_congr (congrArg Al.records hal)).mpr hlaw
    have hcontradiction : contradiction r = (r.closedLimit && r.openLimit || r.sensorFault) := rfl
    refine ends_of hexec ⟨?_, fun y hy => ?_, accepted_of_rc haccepted ?_ ?_ ?_ ?_, ?_, ?_, ?_, ?_, fun hc hroom => ?_, fun hc => ?_,
      ?_, ?_, ?_, ?_, ?_⟩
    · rw [ht.reported, ← hu, hheard]; rfl
    · rw [ht.other hy, ← hu, hheard]; rfl
    · rw [ht.rc, ← hu]; rfl
    · rw [ht.rc, ← hu]; rfl
    · rw [ht.rc, ← hu]; rfl
    · rw [ht.rc, ← hu]; rfl
    · rw [ht.rc, ← hu]; rfl
    · rw [ht.rc, ← hu, hheard]; rfl
    · rw [ht.rc, ← hu, hheard]; rfl
    · exact hring.cleared (.inl rfl) (hv.silent hulaw)
    · exact hring.standing (.inr rfl) (hstanding hc ((hasRoom_congr hal).mpr hroom))
    · exact hring.cleared (.inr rfl) (hcleared hc hulaw)
    · rw [ht.tables, ← hu, hheard]; rfl
    · rw [ht.cfs, ← hu, hheard]; rfl
    · rw [ht.pins, ← hu, hheard]; rfl
    · rw [ht.seconds, ← hu, hheard]; rfl
    · rw [ht.mode, ← hu, hheard]; rfl
  · have haccepted := accepted_heardAt (s := s) (rp := rp) (seq := seq) hnode
    obtain ⟨f, e, w, hheard⟩ := heardAt_eq rp src seq s
    have hexec := exec_event_taken (rp := rp) (seq := seq) hs hd hseq h low fault
    generalize hu : heardAt rp src seq s = u at *
    have hal : u.al = s.al := by rw [hheard]
    obtain ⟨hv, hstanding, honly⟩ := heeded_takeEvent d h low fault u
    have hring := presented_ringRecords.present d (before s d) (takeEvent d h low fault u)
    have ht := hv.heard rfl (PresentFrame.present d (before s d) (takeEvent d h low fault u))
    generalize present d (before s d) (takeEvent d h low fault u) = t at hexec hring ht
    have hulaw : AlarmLaw u := (alarmLaw_congr (congrArg Al.records hal)).mpr hlaw
    refine ends_of hexec ⟨?_, fun y hy => ?_, accepted_of_rc haccepted ?_ ?_ ?_ ?_, ?_, ?_, ?_, ?_, fun hc hroom => ?_,
      fun hc q hq hpair => ?_, ?_, ?_, ?_, ?_, ?_⟩
    · rw [ht.reported, hheard]; rfl
    · rw [ht.other hy, hheard]
    · rw [ht.rc]
    · rw [ht.rc]
    · rw [ht.rc]
    · rw [ht.rc]
    · rw [ht.rc, hheard]
    · rw [ht.rc, hheard]
    · rw [ht.rc, hheard]
    · exact hring.cleared (.inl rfl) (hv.silent hulaw)
    · exact hring.standing (.inr rfl) (hstanding hc ((hasRoom_congr hal).mpr hroom))
    · have hkind : q.kind = .DOOR_SENSOR := congrArg Prod.fst hpair
      refine (hring q (.inr hkind)).mpr ((honly hc).1 q (by rw [hal]; exact hq) (by rw [hpair]; simp) (by rw [hkind]; decide))
    · rw [ht.tables, hheard]
    · rw [ht.cfs, hheard]
    · rw [ht.pins, hheard]
    · rw [ht.seconds, hheard]
    · rw [ht.mode, hheard]

end Sys2Proof.Proofs
end

section
/-! ## Polls that are missed (R9, R134) -/
namespace Sys2Proof.Proofs
open Sys2Proof Sys2Proof.Machine

set_option Elab.async false

section
variable {s : State} {d : DoorIx}

theorem exec_replyLimit (hs : Awake s) : exec .replyLimitExpiry s = .next (match replyOverdue s with
    | some d => missPoll d s
    | none => s) := exec_awake hs rfl

theorem replyOverdue_eq_some : replyOverdue s = some d ↔
    s.inService = true ∧ s.rc.pollEnded = false ∧ s.rc.replyLimit = 0 ∧ s.rc.polled = some d := by
  unfold replyOverdue
  split
  · next h => simp only [h.1, h.2.1, h.2.2, true_and]
  · next h =>
    refine ⟨nofun, fun ⟨h1, h2, h3, _⟩ => absurd ⟨h1, h2, h3⟩ h⟩

/-- R9: a door becomes LOST, with its condition raised, before the presentation. -/
theorem loseDoor_eq (d : DoorIx) (s : State) : loseDoor d s = present d (before s d) (raiseDoor .DOOR_SILENT d
    (showing d { s.rc.reported[d] with lost := true, position := .UNKNOWN } s.mc s)) := by
  unfold loseDoor
  simp only [modReported_eq, setPosition_eq, showing_showing, reported_showing, if_pos]
  rfl

end

/-- Settles O50. -/
theorem pollsAreMissed : Obligations.PollsAreMissed := by
  unfold Obligations.PollsAreMissed
  refine fun s hs => ⟨fun hnot => ?_, fun hin hended hlimit d hd => ?_⟩
  · rw [exec_replyLimit hs]
    cases hd : replyOverdue s with
    | none => rfl
    | some d =>
      obtain ⟨h1, h2, h3, h4⟩ := replyOverdue_eq_some.mp hd
      rw [h1, h2, h3, h4] at hnot
      simp at hnot
  · intro misses
    have hpolled : s.rc.polled = some d := hd
    have hexec : exec .replyLimitExpiry s = .next (missPoll d s) := by
      rw [exec_replyLimit hs, replyOverdue_eq_some.mpr ⟨hin, hended, hlimit, hpolled⟩]
    generalize hu : (endPoll s).modReported d (fun r => { r with misses := satInc missLimit r.misses }) = u
    have hreported : u.rc.reported[d] = { s.rc.reported[d] with misses := misses } := by
      rw [← hu, modReported_eq, reported_showing, if_pos rfl]
      rfl
    have hother (y : DoorIx) (hy : y ≠ d) : u.rc.reported[y] = s.rc.reported[y] := by
      rw [← hu, modReported_eq, reported_showing, if_neg hy.symm]
      rfl
    have hmiss : missPoll d s = if misses = 3 ∧ s.rc.reported[d].lost = false then loseDoor d u else u := by
      rw [missPoll, hu]
      simp only [hreported]
      rfl
    by_cases hlost : misses = 3 ∧ s.rc.reported[d].lost = false
    · rw [hmiss, if_pos hlost, loseDoor_eq] at hexec
      have hv := AlarmFrame.raiseDoor .DOOR_SILENT d (showing d { u.rc.reported[d] with lost := true, position := .UNKNOWN } u.mc u)
      have hstanding : HasRoom s .DOOR_SILENT d.val → Standing (raiseDoor .DOOR_SILENT d
          (showing d { u.rc.reported[d] with lost := true, position := .UNKNOWN } u.mc u)) .DOOR_SILENT d.val := fun hroom =>
        standing_raiseAlarm ((hasRoom_congr (by rw [← hu]; rfl)).mpr hroom)
      generalize raiseDoor .DOOR_SILENT d (showing d { u.rc.reported[d] with lost := true, position := .UNKNOWN } u.mc u) = v at *
      have hring := presented_ringRecords.present d (before u d) v
      have hf := PresentFrame.present d (before u d) v
      have hrc : (present d (before u d) v).rc = { u.rc with
          reported := put u.rc.reported d { u.rc.reported[d] with lost := true, position := .UNKNOWN }
          orders := (present d (before u d) v).rc.orders } := by
        have ht := hf.orders
        unfold OnlyOrders at ht
        rw [ht, hv.rc]
        rfl
      generalize present d (before u d) v = t at *
      refine ends_of hexec ⟨?_, ?_, fun hor => absurd hlost ?_, fun _ _ => ⟨?_, fun hroom => hring.standing (.inl rfl) (hstanding hroom)⟩,
        fun y hy => ?_, ?_, ?_, ?_, ?_, ?_⟩
      · rw [hrc, ← hu]; rfl
      · rw [hrc, ← hu]; rfl
      · rintro ⟨h3, hl⟩
        exact hor.elim (fun h => by omega) fun h => by rw [hl] at h; cases h
      · rw [hrc]
        simp only [Fin.getElem_fin, getElem_put, if_pos]
        have := hreported
        simp only [Fin.getElem_fin] at this
        rw [this, hlost.1]
      · rw [← hother y hy, hrc]
        simp only [Fin.getElem_fin, getElem_put, Fin.val_inj, if_neg hy.symm]
      · rw [hrc, ← hu]; rfl
      · rw [hrc, ← hu]; rfl
      · rw [hf.tables, hv.tables, ← hu]; rfl
      · rw [hf.cfs, hv.cfs, ← hu]; rfl
      · rw [hf.pins, hv.pins, ← hu]; rfl
    · rw [hmiss, if_neg hlost] at hexec
      refine ends_of hexec ⟨by rw [← hu]; rfl, by rw [← hu]; rfl, fun _ => ⟨hreported, ?_⟩, fun h3 hl => absurd ⟨h3, hl⟩ hlost, hother, ?_⟩
      · rw [← hu]; exact ⟨rfl, rfl, rfl, rfl⟩
      · rw [← hu]; exact ⟨rfl, rfl, rfl, rfl, rfl⟩

end Sys2Proof.Proofs
end

section
/-! ## What a settled position clears (R12, R76, R82) -/
namespace Sys2Proof.Proofs
open Sys2Proof Sys2Proof.Machine

set_option Elab.async false

section
variable {s t u : State} {d y : DoorIx}

/-- The DOOR_FAULT record of a door stands ACTIVE_ACKED: its clear removes it. -/
def faultAcked (d : DoorIx) (s : State) : Bool := (findRecord .DOOR_FAULT d.val s).any fun r => decide (r.state = .ACTIVE_ACKED)

theorem faultAcked_iff (hlaw : AlarmLaw s) : faultAcked d s = true ↔
    ∃ r ∈ s.al.records, r.pair = (.DOOR_FAULT, d.val) ∧ r.state = .ACTIVE_ACKED := by
  have law := (alarmLaw_iff s).mp hlaw
  unfold faultAcked
  rw [Option.any_eq_true]
  constructor
  · rintro ⟨r, hr, hstate⟩
    obtain ⟨hmem, hkind, hsubject⟩ := findRecord_some hr
    exact ⟨r, hmem, Prod.ext hkind hsubject, of_decide_eq_true hstate⟩
  · rintro ⟨r, hmem, hpair, hstate⟩
    cases hfind : findRecord .DOOR_FAULT d.val s with
    | none => exact absurd hpair (findRecord_none.mp hfind r hmem)
    | some q =>
      obtain ⟨hq, hkind, hsubject⟩ := findRecord_some hfind
      have hqr : q = r := law.eq_of_pair hq hmem (((Prod.ext hkind hsubject : (q.kind, q.subject) = (.DOOR_FAULT, d.val))).trans hpair.symm)
      exact ⟨q, rfl, by rw [hqr]; exact decide_eq_true hstate⟩

/-- R12, R160: the clear of DOOR_FAULT takes the latch of its door to NONE where it removes the record. -/
theorem sups_clearFault (d y : DoorIx) (s : State) : (clearDoor .DOOR_FAULT d s).ms.doors[y] =
    { s.ms.doors[y] with latch := if y = d ∧ faultAcked d s = true then .NONE else s.latch y } := by
  unfold faultAcked
  cases hfind : findRecord .DOOR_FAULT d.val s with
  | none =>
    have hclear : clearDoor .DOOR_FAULT d s = s := clearAlarm_of_none (findRecord_none.mp hfind)
    rw [hclear]
    simp [State.latch]
  | some r =>
    obtain ⟨-, hkind, hsubject⟩ := findRecord_some hfind
    have hclear : clearDoor .DOOR_FAULT d s = if r.state = .ACTIVE_ACKED then removeRecord r s else clearRecord r s := by
      unfold clearDoor clearAlarm
      rw [hfind]
    rw [hclear]
    by_cases hacked : r.state = .ACTIVE_ACKED
    · rw [if_pos hacked, ms_removeRecord, (ms_dropRecord_eq r s).2 y]
      have hiff : (r.kind = .DOOR_FAULT ∧ r.subject = y.val) ↔ y = d := by
        rw [hkind, hsubject, Fin.val_inj, eq_comm (a := d)]
        exact and_iff_right rfl
      simp only [hiff, hacked, Option.any_some, decide_true, and_true]
    · have hms : (clearRecord r s).ms = s.ms := by
        unfold clearRecord
        split
        · exact ms_updateRecord ..
        · next h => exact absurd h hacked
        · rfl
      rw [if_neg hacked, hms]
      simp [hacked, State.latch]

/-- What the clears at a settled position leave (R76, R82). -/
structure Rested (d : DoorIx) (s t : State) : Prop where
  frame : AlarmFrame s t
  others : ∀ y : DoorIx, y ≠ d → t.ms.doors[y] = s.ms.doors[y]
  own : t.ms.doors[d] = { s.ms.doors[d] with latch := t.latch d }
  either : t.latch d = s.latch d ∨ t.latch d = .NONE
  latch : AlarmLaw s → t.latch d = restedLatch s d (s.position d)
  fault : AlarmLaw s → (s.position d).settled = true → Cleared t .DOOR_FAULT d.val
  motion : AlarmLaw s → (s.position d).settled = true → Cleared t .UNSUPERVISED_MOTION d.val
  alarms : OnlyAlarms s t [(.DOOR_FAULT, d.val), (.UNSUPERVISED_MOTION, d.val)]
  law : AlarmLaw s → AlarmLaw t
  count : otherCount t.al.records ≤ otherCount s.al.records
  grown : Grown 4 s t
  lasting : Lasting s t
  moving : (s.position d).settled = false → t = s

theorem settled_iff {p : Position} : p.settled = true ↔ p = .CLOSED ∨ p = .OPEN := by cases p <;> decide

theorem rested (d : DoorIx) (s : State) : Rested d s (clearAtRest d s) := by
  by_cases hset : (s.position d).settled = true
  · have hrest : clearAtRest d s = clearDoor .UNSUPERVISED_MOTION d (clearDoor .DOOR_FAULT d s) := if_pos hset
    rw [hrest]
    have hfault := sups_clearFault d (s := s)
    have hfirst := onlyAlarms_clearAlarm .DOOR_FAULT d.val s
    have hframe := AlarmFrame.clearDoor .DOOR_FAULT d s
    have hsecond := onlyAlarms_clearAlarm .UNSUPERVISED_MOTION d.val (clearDoor .DOOR_FAULT d s)
    have hms : (clearDoor .UNSUPERVISED_MOTION d (clearDoor .DOOR_FAULT d s)).ms = (clearDoor .DOOR_FAULT d s).ms :=
      ms_clearAlarm (by decide)
    have hlatch : (clearDoor .UNSUPERVISED_MOTION d (clearDoor .DOOR_FAULT d s)).latch d
        = if faultAcked d s = true then .NONE else s.latch d := by
      unfold State.latch
      rw [hms, hfault]
      simp [State.latch]
    refine { frame := hframe.trans (.clearDoor ..), others := fun y hy => ?_, own := ?_, either := ?_, latch := fun hlaw => ?_,
             fault := fun hlaw _ => ?_, motion := fun hlaw _ => ?_, alarms := ?_, law := fun hlaw => ?_, count := ?_, grown := ?_,
             lasting := ?_, moving := fun hm => absurd hset (by rw [hm]; decide) }
    · rw [hms, hfault, if_neg (fun h => hy h.1)]
      rfl
    · rw [hlatch, hms, hfault]
      simp
    · rw [hlatch]
      split
      · exact .inr rfl
      · exact .inl rfl
    · rw [hlatch]
      unfold restedLatch
      refine if_congr ?_ rfl rfl
      rw [faultAcked_iff hlaw]
      exact ⟨fun h => ⟨settled_iff.mp hset, h⟩, fun h => h.2⟩
    · exact cleared_of_onlyAlarms hsecond (by simp) (by decide) (cleared_clearAlarm hlaw (by decide))
    · exact cleared_clearAlarm (alarmLaw_clearAlarm hlaw _ _) (by decide)
    · exact onlyAlarms_trans (onlyAlarms_mono hfirst (by simp)) (onlyAlarms_mono hsecond (by simp))
    · exact alarmLaw_clearAlarm (alarmLaw_clearAlarm hlaw _ _) _ _
    · exact (otherCount_clearAlarm ..).trans (otherCount_clearAlarm ..)
    · exact Grown.trans (m := 2) (n := 2) (.clearAlarm ..) (.clearAlarm ..)
    · exact (Lasting.clearAlarm ..).trans (.clearAlarm ..)
  · have hrest : clearAtRest d s = s := if_neg hset
    rw [hrest]
    have hnot : ¬(s.position d = .CLOSED ∨ s.position d = .OPEN) := fun h => hset (settled_iff.mpr h)
    exact { frame := .refl s, others := fun _ _ => rfl, own := rfl, either := .inl rfl
            latch := fun _ => (if_neg fun h => hnot h.1).symm
            fault := fun _ h => absurd h hset, motion := fun _ h => absurd h hset, alarms := onlyAlarms_refl .., law := id
            count := le_rfl, grown := .refl s, lasting := .refl s, moving := fun _ => rfl }

end

end Sys2Proof.Proofs
end

section
/-! ## Movements judged (R68 to R79) -/
namespace Sys2Proof.Proofs
open Sys2Proof Sys2Proof.Machine

set_option Elab.async false

/-! ### The judgement -/

/-- The movement stalls (R75). -/
abbrev stalls (e : Entry) (now : Position) : Prop := now = .STOPPED ∧ e.started = true

/-- The handle of a hold-to-run movement came to IDLE (R79). -/
abbrev letGo (d : DoorIx) (b : Before) (e : Entry) (s : State) : Prop :=
  e.origin = .LOCAL ∧ s.handle d = .IDLE ∧ b.handle ≠ .IDLE

section
variable {s t u : State} {d x : DoorIx} {b : Before} {e : Entry} {prev now : Position} {l : List SlotIx}

theorem judge_arrived : judge e.direction e.started prev now = .ARRIVED ↔ now = e.direction.target := by
  cases e.direction <;> cases e.started <;> cases prev <;> cases now <;> decide

theorem judge_starts : judge e.direction e.started prev now = .STARTS ↔ now = e.direction.moving ∧ e.started = false := by
  cases e.direction <;> cases e.started <;> cases prev <;> cases now <;> decide

theorem judge_stalled : judge e.direction e.started prev now = .STALLED ↔ stalls e now := by
  unfold stalls
  cases e.direction <;> cases e.started <;> cases prev <;> cases now <;> decide

theorem judge_wrongWay : judge e.direction e.started prev now = .WRONG_WAY ↔ wrongWay e prev now := by
  unfold wrongWay
  cases e.direction <;> cases e.started <;> cases prev <;> cases now <;> decide

/-- The door's entry as a report that neither ends it nor faults it leaves it (R68, R69). -/
def leftStanding (d : DoorIx) (b : Before) (e : Entry) (s : State) : State :=
  if judge e.direction e.started b.position (s.position d) = .STARTS then startEntry d e s else s

theorem presentMS_moving (he : s.entry d = some e) (hm : e.phase = .MOVING) (b : Before) :
    presentMS d b s = releaseOnIdle d b.handle (judgeEntry d e b (clearAtRest d s)) := by
  have hentry : (clearAtRest d s).entry d = some e := (entry_congr (by rw [(rested d s).frame.cs]) d).trans he
  unfold presentMS
  simp only [hentry, if_pos hm]

theorem position_clearAtRest : (clearAtRest d s).position x = s.position x := by
  unfold State.position
  rw [(rested d s).frame.rc]

theorem handle_clearAtRest : (clearAtRest d s).handle x = s.handle x := by
  unfold State.handle
  rw [(rested d s).frame.rc]

theorem releaseOnIdle_of_none (h : s.entry d = none) (prev : Handle) : releaseOnIdle d prev s = s := by
  unfold releaseOnIdle
  rw [h]

/-- The state in which an arrival removes the entry: with the travel time captured, where it is (R13, R71). -/
def arriving (d : DoorIx) (b : Before) (e : Entry) (s : State) : State :=
  if captures e b then (clearAtRest d s).modSup d (Supervision.capture e.direction e.elapsed) else clearAtRest d s

theorem entry_arriving : (arriving d b e s).entry x = s.entry x := by
  have hclear : (clearAtRest d s).entry x = s.entry x := entry_congr (by rw [(rested d s).frame.cs]) x
  unfold arriving
  split
  · exact hclear
  · exact hclear

theorem presentMS_arrived (he : s.entry d = some e) (hm : e.phase = .MOVING) (h : s.position d = e.direction.target) :
    presentMS d b s = removeEntry .ARRIVAL d (arriving d b e s) := by
  have hjudge : judgeEntry d e b (clearAtRest d s) = removeEntry .ARRIVAL d (arriving d b e s) := by
    unfold judgeEntry
    rw [position_clearAtRest, judge_arrived.mpr h]
    rfl
  rw [presentMS_moving he hm, hjudge]
  exact releaseOnIdle_of_none (removed (entry_arriving.trans he) .ARRIVAL).gone _

theorem presentMS_faulted (hs : Deaf l s) (he : s.entry d = some e) (hm : e.phase = .MOVING) {k : Latch}
    (h : judgeEntry d e b (clearAtRest d s) = faultDoor k d (clearAtRest d s)) : presentMS d b s = faultTold k d (clearAtRest d s) := by
  have hentry : (clearAtRest d s).entry d = some e := (entry_congr (by rw [(rested d s).frame.cs]) d).trans he
  rw [presentMS_moving he hm, h, faultDoor_of_deaf (hs.of_gru (rested d s).frame.gru)]
  exact releaseOnIdle_of_none (faultEnds hentry k).gone _

theorem presentMS_stalled (hs : Deaf l s) (he : s.entry d = some e) (hm : e.phase = .MOVING) (h : stalls e (s.position d)) :
    presentMS d b s = faultTold .STALLED d (clearAtRest d s) := by
  refine presentMS_faulted hs he hm ?_
  unfold judgeEntry
  rw [position_clearAtRest, judge_stalled.mpr h]

theorem presentMS_wrongWay (hs : Deaf l s) (he : s.entry d = some e) (hm : e.phase = .MOVING)
    (h : wrongWay e b.position (s.position d)) : presentMS d b s = faultTold .WRONG_WAY d (clearAtRest d s) := by
  refine presentMS_faulted hs he hm ?_
  unfold judgeEntry
  rw [position_clearAtRest, judge_wrongWay.mpr h]

theorem presentMS_left (he : s.entry d = some e) (hm : e.phase = .MOVING) (harrived : s.position d ≠ e.direction.target)
    (hstalls : ¬stalls e (s.position d)) (hwrong : ¬wrongWay e b.position (s.position d)) :
    presentMS d b s =
      if letGo d b e s then removeEntry .RELEASE d (leftStanding d b e (clearAtRest d s)) else leftStanding d b e (clearAtRest d s) := by
  have hjudge : judgeEntry d e b (clearAtRest d s) = leftStanding d b e (clearAtRest d s) := by
    unfold judgeEntry leftStanding
    rw [position_clearAtRest]
    cases hj : judge e.direction e.started b.position (s.position d) with
    | ARRIVED => exact absurd (judge_arrived.mp hj) harrived
    | STALLED => exact absurd (judge_stalled.mp hj) hstalls
    | WRONG_WAY => exact absurd (judge_wrongWay.mp hj) hwrong
    | STARTS => rfl
    | NO_EFFECT => rfl
  rw [presentMS_moving he hm, hjudge]
  have hentry : ∃ f : Entry, (leftStanding d b e (clearAtRest d s)).entry d = some f ∧ f.phase = .MOVING ∧ f.origin = e.origin := by
    unfold leftStanding
    split
    · exact ⟨_, (entry_setEntry ..).trans (if_pos rfl), hm, rfl⟩
    · exact ⟨e, (entry_congr (by rw [(rested d s).frame.cs]) d).trans he, hm, rfl⟩
  have hhandle : (leftStanding d b e (clearAtRest d s)).handle d = s.handle d := by
    unfold leftStanding
    split
    · exact handle_clearAtRest
    · exact handle_clearAtRest
  obtain ⟨f, hf, hphase, horigin⟩ := hentry
  unfold releaseOnIdle
  rw [hf]
  refine if_congr ?_ rfl rfl
  rw [hhandle, horigin]
  unfold letGo comesToIdle
  simp [hphase]

end

end Sys2Proof.Proofs
end

section
/-! ## What a judgement leaves (O52, the presentation to MS) -/
namespace Sys2Proof.Proofs
open Sys2Proof Sys2Proof.Machine

set_option Elab.async false

section
variable {s t u : State} {d x : DoorIx} {b : Before} {e f : Entry} {fate : TagFate} {c : RemovalCause} {k : Latch}

/-- The state in which a judgement or a release ends a movement: the runs, the claims and the rest of the schedule as they were. -/
structure AboutToEnd (d : DoorIx) (e f : Entry) (s u : State) : Prop where
  frame : RunFrame s u
  entry : u.entry d = some f
  phase : f.phase = .MOVING
  tag : f.tag = e.tag
  sched : schedWithout u d = schedWithout s d
  claims : ∀ x : DoorIx, x ≠ d → claimOf u x = claimOf s x
  others : ∀ x : DoorIx, x ≠ d → u.ms.doors[x] = s.ms.doors[x]
  gru : u.gru = s.gru
  alarms : OnlyAlarms s u [(.DOOR_FAULT, d.val), (.UNSUPERVISED_MOTION, d.val)]
  law : AlarmLaw s → AlarmLaw u
  count : otherCount u.al.records ≤ otherCount s.al.records
  grown : Grown 4 s u
  lasting : Lasting s u

/-- A movement has ended: the entry is gone, its draw released with a pass, its tag told. -/
structure Vanished (d : DoorIx) (e : Entry) (fate : TagFate) (s t : State) : Prop extends RunFrame s t where
  gone : t.entry d = none
  claims : ∀ x : DoorIx, x ≠ d → claimOf t x = claimOf s x
  others : ∀ x : DoorIx, x ≠ d → t.ms.doors[x] = s.ms.doors[x]
  told : ∀ b : State, Prior 18 b s → Told b t (fated e.tag fate)
  passed : Passed s t (s.hpuOf d) (schedWithout s d)
  overtime : AlarmLaw s → Cleared t .TRAVEL_OVERTIME d.val

theorem passed_congr {h : HpuIx} {c : Cs} (hp : Passed u t h c) (htables : u.tables = s.tables) : Passed s t h c :=
  Eq.trans hp (pass_cs_congr (t := { u with cs := c }) (s := { s with cs := c }) rfl htables h)

theorem prior_aboutToEnd (h : AboutToEnd d e f s u) {β : State} (hb : Prior 18 β s) : Prior 22 β u :=
  ⟨h.gru.trans hb.gru, h.frame.tables.trans hb.tables, hb.grown.trans h.grown⟩

theorem vanished_removed (h : AboutToEnd d e f s u) (hc : c ≠ .FLUSH) (hfate : c.fate = some fate) :
    Vanished d e fate s (removeEntry c d u) := by
  have hr := removed h.entry c
  refine { toRunFrame := h.frame.trans hr.toRunFrame, gone := hr.gone, claims := fun x hx => (hr.claims x hx).trans (h.claims x hx),
           others := fun x hx => by rw [hr.ms]; exact h.others x hx, told := fun β hb => ?_, passed := ?_,
           overtime := fun hlaw => hr.overtime (h.law hlaw) }
  · rw [← h.tag]
    exact hr.told hc fate hfate β (prior_aboutToEnd h hb)
  · have hp := hr.moving h.phase
    rw [hpuOf_congr h.frame.tables, h.sched] at hp
    exact passed_congr hp h.frame.tables

theorem vanished_fault (h : AboutToEnd d e f s u) : Vanished d e .faulted s (faultTold k d u) := by
  have hr := faultEnds h.entry k
  refine { toRunFrame := h.frame.trans hr.toRunFrame, gone := hr.gone, claims := fun x hx => (hr.claims x hx).trans (h.claims x hx),
           others := fun x hx => ?_, told := fun β hb => ?_, passed := ?_, overtime := fun hlaw => hr.overtime (h.law hlaw) }
  · rw [hr.sups, if_neg hx.symm]; exact h.others x hx
  · rw [← h.tag]
    exact hr.told β (prior_aboutToEnd h hb)
  · have hp := hr.moving h.phase
    rw [hpuOf_congr h.frame.tables, h.sched] at hp
    exact passed_congr hp h.frame.tables

/-! ### The states before -/

theorem schedWithout_congr (hcs : u.cs = s.cs) (htables : u.tables = s.tables) : schedWithout u d = schedWithout s d := by
  unfold schedWithout movingDraw State.entry State.draw State.hpuOf
  rw [hcs, htables]

theorem aboutToEnd_rested (he : s.entry d = some e) (hm : e.phase = .MOVING) : AboutToEnd d e e s (clearAtRest d s) := by
  have hr := rested d s
  exact { frame := hr.frame.toRunFrame, entry := (entry_congr (by rw [hr.frame.cs]) d).trans he, phase := hm, tag := rfl
          sched := schedWithout_congr hr.frame.cs hr.frame.tables
          claims := fun x _ => congrArg (Option.map Entry.claim) (entry_congr (by rw [hr.frame.cs]) x)
          others := hr.others, gru := hr.frame.gru, alarms := hr.alarms, law := hr.law, count := hr.count, grown := hr.grown
          lasting := hr.lasting }

theorem aboutToEnd_arriving (he : s.entry d = some e) (hm : e.phase = .MOVING) (b : Before) :
    AboutToEnd d e e s (arriving d b e s) := by
  have h := aboutToEnd_rested he hm
  unfold arriving
  split
  · refine { h with frame := h.frame.trans (AlarmFrame.modSup ..).toRunFrame, others := fun x hx => ?_,
                      grown := ⟨h.grown.port⟩, lasting := ⟨h.lasting.stays⟩ }
    rw [sup_modSup, if_neg hx.symm]
    exact h.others x hx
  · exact h

theorem schedWithout_startEntry (he : s.entry d = some e) : schedWithout (startEntry d e s) d = schedWithout s d := by
  have hdraw : movingDraw (startEntry d e s) d = movingDraw s d := by
    unfold movingDraw
    rw [he, show (startEntry d e s).entry d = some { e with started := true, startWindow := 0 } from (entry_setEntry ..).trans (if_pos rfl)]
    rfl
  have hput : (put s.cs.entries d (some { e with started := true, startWindow := 0 })).set d none = s.cs.entries.set d none :=
    Vector.set_set ..
  unfold schedWithout
  rw [hdraw]
  exact congrArg (fun v => { s.cs with entries := v, flow := upd s.cs.flow (s.hpuOf d) fun f =>
    { f with committed := f.committed - movingDraw s d } }) hput

theorem aboutToEnd_left (he : s.entry d = some e) (hm : e.phase = .MOVING) (b : Before) :
    ∃ f, AboutToEnd d e f s (leftStanding d b e (clearAtRest d s)) := by
  have h := aboutToEnd_rested he hm
  unfold leftStanding
  split
  · refine ⟨{ e with started := true, startWindow := 0 }, { h with
      frame := h.frame.trans (ScheduleFrame.setEntry ..).toRunFrame, entry := (entry_setEntry ..).trans (if_pos rfl)
      sched := (schedWithout_startEntry h.entry).trans h.sched, claims := fun x hx => ?_, phase := hm, tag := rfl
      grown := ⟨h.grown.port⟩, lasting := ⟨h.lasting.stays⟩ }⟩
    refine Eq.trans ?_ (h.claims x hx)
    unfold claimOf
    exact congrArg (Option.map _) ((entry_setEntry ..).trans (if_neg hx.symm))
  · exact ⟨e, h⟩

end

end Sys2Proof.Proofs
end

section
/-! ## Movements judged: arrival, fault, release and an entry that is left (R13, R68 to R79) -/
namespace Sys2Proof.Proofs
open Sys2Proof Sys2Proof.Machine

set_option Elab.async false

section
variable {s t u : State} {d x : DoorIx} {b : Before} {e f : Entry} {k : Latch}

/-! ### Arrival -/

/-- The supervision fields that an arrival leaves, the latch apart (R13, R71). -/
abbrev arrivedSup (d : DoorIx) (b : Before) (e : Entry) (now : Position) (s : State) : Supervision :=
  if e.origin = .ADOPTED ∨ b.position = now ∨ b.shown = false then s.ms.doors[d] else captured e.direction e.elapsed s.ms.doors[d]

theorem captures_iff (h : now = e.direction.target) :
    captures e b = true ↔ ¬(e.origin = .ADOPTED ∨ b.position = now ∨ b.shown = false) := by
  unfold captures
  rw [h]
  simp only [Bool.and_eq_true, decide_eq_true_eq, not_or, Bool.not_eq_false, and_assoc, ne_eq]

theorem capture_latch (dir : Direction) (time : Nat) (m : Supervision) (k : Latch) :
    Supervision.capture dir time { m with latch := k } = { captured dir time m with latch := k } := by
  cases dir <;> rfl

theorem latch_capture (dir : Direction) (time : Nat) (m : Supervision) : (Supervision.capture dir time m).latch = m.latch := by
  cases dir <;> rfl

theorem sup_arriving (h : s.position d = e.direction.target) :
    (arriving d b e s).latch d = (clearAtRest d s).latch d
    ∧ (arriving d b e s).ms.doors[d] = { arrivedSup d b e (s.position d) s with latch := (clearAtRest d s).latch d } := by
  have hown := (rested d s).own
  unfold arriving arrivedSup State.latch
  by_cases hc : captures e b = true
  · rw [if_pos hc, if_neg ((captures_iff h).mp hc), sup_modSup, if_pos rfl]
    refine ⟨latch_capture .., ?_⟩
    rw [hown]
    exact capture_latch ..
  · rw [if_neg hc, if_pos (not_not.mp (mt (captures_iff h).mpr hc))]
    exact ⟨rfl, hown⟩

/-- What an arrival leaves (R71). -/
structure ArrivalEnds (d : DoorIx) (b : Before) (e : Entry) (s t : State) : Prop extends Vanished d e .completed s t where
  sup : t.ms.doors[d] = { arrivedSup d b e (s.position d) s with latch := t.latch d }
  latch : t.latch d = (clearAtRest d s).latch d

theorem arrivalEnds (he : s.entry d = some e) (hm : e.phase = .MOVING) (h : s.position d = e.direction.target) :
    ArrivalEnds d b e s (presentMS d b s) := by
  have hr := removed (aboutToEnd_arriving he hm b).entry .ARRIVAL
  have hlatch : (removeEntry .ARRIVAL d (arriving d b e s)).latch d = (arriving d b e s).latch d := by
    unfold State.latch; rw [hr.ms]
  rw [presentMS_arrived he hm h]
  refine { toVanished := vanished_removed (aboutToEnd_arriving he hm b) (by simp) rfl, sup := ?_,
           latch := hlatch.trans (sup_arriving h).1 }
  rw [hlatch, (sup_arriving h).1, hr.ms]
  exact (sup_arriving h).2

/-! ### Faults -/

/-- What a fault judged at a presentation leaves. -/
structure FaultJudged (k : Latch) (d : DoorIx) (e : Entry) (s t : State) : Prop extends Vanished d e .faulted s t where
  sup : t.ms.doors[d] = { s.ms.doors[d] with latch := k }
  stopped : k = .WRONG_WAY → Pending t d .STOP
  room : otherCount s.al.records < 62 → Standing t .DOOR_FAULT d.val
  spare : (s.position d).settled = false → HasSpare s .DOOR_FAULT d.val → Standing t .DOOR_FAULT d.val
  alarms : OnlyAlarms s t [(.DOOR_FAULT, d.val), (.UNSUPERVISED_MOTION, d.val), (.PASSAGE_OVERDUE, d.val),
    (.ADMISSION_DELAY, (s.hpuOf d).val), (.TRAVEL_OVERTIME, d.val)]
  motion : AlarmLaw s → (s.position d).settled = true → Cleared t .UNSUPERVISED_MOTION d.val

theorem faultJudged (he : s.entry d = some e) (hm : e.phase = .MOVING) (k : Latch) :
    FaultJudged k d e s (faultTold k d (clearAtRest d s)) := by
  have hr := rested d s
  have hb := aboutToEnd_rested he hm
  have hf := faultEnds hb.entry k
  refine { toVanished := vanished_fault hb, sup := ?_, stopped := hf.stopped, room := fun hroom => hf.standing (.inl ?_),
           spare := fun hset hspare => hf.standing ?_, alarms := ?_, motion := fun hlaw hset => ?_ }
  · rw [hf.sups, if_pos rfl, hr.own]
  · exact lt_of_le_of_lt hr.count hroom
  · rw [hr.moving hset]; exact hspare
  · refine onlyAlarms_trans (onlyAlarms_mono hr.alarms (by simp)) (onlyAlarms_mono hf.alarms ?_)
    rw [hpuOf_congr hr.frame.tables]
    simp
  · exact cleared_of_onlyAlarms hf.alarms (by simp) (by decide) (hr.motion hlaw hset)

/-! ### Release, and what is left -/

theorem ms_leftStanding : (leftStanding d b e u).ms = u.ms := by
  unfold leftStanding
  split <;> rfl

theorem al_leftStanding : (leftStanding d b e u).al = u.al := by
  unfold leftStanding
  split <;> rfl

/-- What a hold-to-run release leaves (R79). -/
structure ReleaseEnds (d : DoorIx) (e : Entry) (s t : State) : Prop extends Vanished d e .completed s t where
  sup : t.ms.doors[d] = { s.ms.doors[d] with latch := t.latch d }
  latch : t.latch d = (clearAtRest d s).latch d
  stopped : Pending t d .STOP

theorem releaseEnds (he : s.entry d = some e) (hm : e.phase = .MOVING) (b : Before) :
    ReleaseEnds d e s (removeEntry .RELEASE d (leftStanding d b e (clearAtRest d s))) := by
  obtain ⟨f, hb⟩ := aboutToEnd_left he hm b
  have hr := removed hb.entry .RELEASE
  have hlatch : (removeEntry .RELEASE d (leftStanding d b e (clearAtRest d s))).latch d = (clearAtRest d s).latch d := by
    unfold State.latch; rw [hr.ms, ms_leftStanding]
  refine { toVanished := vanished_removed hb (by simp) rfl, sup := ?_, latch := hlatch, stopped := hr.ordered .STOP ?_ }
  · rw [hlatch, hr.ms, ms_leftStanding]
    exact (rested d s).own
  · simp [RemovalCause.order, hb.phase]

end

/-- The alarms that an entry's removal at a presentation may touch, beside those that rest clears. -/
theorem onlyAlarms_removed {s u : State} {d : DoorIx} {e f : Entry} {c : RemovalCause} (hb : AboutToEnd d e f s u) :
    OnlyAlarms s (removeEntry c d u) [(.DOOR_FAULT, d.val), (.UNSUPERVISED_MOTION, d.val), (.PASSAGE_OVERDUE, d.val),
      (.ADMISSION_DELAY, (s.hpuOf d).val), (.TRAVEL_OVERTIME, d.val)] := by
  refine onlyAlarms_trans (onlyAlarms_mono hb.alarms (by simp)) (onlyAlarms_mono (removed hb.entry c).alarms ?_)
  rw [hpuOf_congr hb.frame.tables]
  simp

end Sys2Proof.Proofs
end

section
/-! ## Presentations to MS and CS (O52, the parts beside a REPORT) -/
namespace Sys2Proof.Proofs
open Sys2Proof Sys2Proof.Machine

set_option Elab.async false

section
variable {s t u : State} {d x : DoorIx} {b : Before} {e f : Entry} {k : Latch} {prev now : Position} {l : List SlotIx}

/-! ### Which judgement excludes which -/

theorem not_stalls_of_arrived (h : now = e.direction.target) : ¬stalls e now := fun hs => by
  have hj := judge_arrived (e := e) (prev := .UNKNOWN).mpr h
  rw [judge_stalled.mpr hs] at hj
  cases hj

theorem not_wrongWay_of_arrived (h : now = e.direction.target) : ¬wrongWay e prev now := fun hs => by
  have hj := judge_arrived (e := e) (prev := prev).mpr h
  rw [judge_wrongWay.mpr hs] at hj
  cases hj

theorem not_wrongWay_of_stalls (h : stalls e now) : ¬wrongWay e prev now := fun hs => by
  have hj := judge_stalled (e := e) (prev := prev).mpr h
  rw [judge_wrongWay.mpr hs] at hj
  cases hj

theorem not_settled_of_stalls (h : stalls e now) : now.settled = false := by rw [h.1]; rfl

theorem leftStanding_of_not (h : ¬(s.position d = e.direction.moving ∧ e.started = false)) :
    leftStanding d b e s = s := if_neg fun hj => h (judge_starts.mp hj)

theorem position_leftStanding : (leftStanding d b e u).position x = u.position x := by
  unfold leftStanding
  split <;> rfl

/-! ### A MOVING entry -/

theorem clearAtRest_of_moving (h : ¬(s.position d = .CLOSED ∨ s.position d = .OPEN)) : clearAtRest d s = s :=
  if_neg (mt settled_iff.mp h)

theorem entry_of_left (he : s.entry d = some e) (h : ¬letGo d b e s) (hm : e.phase = .MOVING) (harrived : s.position d ≠ e.direction.target)
    (hstalls : ¬stalls e (s.position d)) (hwrong : ¬wrongWay e b.position (s.position d)) :
    presentMS d b s = leftStanding d b e (clearAtRest d s) := by
  rw [presentMS_left he hm harrived hstalls hwrong, if_neg h]

/-- The alarms that the judgement of a MOVING entry may touch. -/
abbrev judgedAlarms (d : DoorIx) (s : State) : List (AlarmKind × Nat) :=
  [(.DOOR_FAULT, d.val), (.UNSUPERVISED_MOTION, d.val), (.PASSAGE_OVERDUE, d.val), (.ADMISSION_DELAY, (s.hpuOf d).val),
    (.TRAVEL_OVERTIME, d.val)]

/-- The position leaves a MOVING entry: it neither ends it nor faults it. -/
abbrev Leaves (e : Entry) (prev now : Position) : Prop :=
  now = e.direction.moving ∨ now = .UNKNOWN ∨ (now = .STOPPED ∧ e.started = false)
  ∨ (now = e.direction.opposite.moving ∧ e.started = false ∧ prev = now)
  ∨ (now = e.direction.opposite.target ∧ e.started = false)

theorem not_judged_of_leaves (h : Leaves e prev now) : now ≠ e.direction.target ∧ ¬stalls e now ∧ ¬wrongWay e prev now := by
  have hjudge : judge e.direction e.started prev now = .STARTS ∨ judge e.direction e.started prev now = .NO_EFFECT := by
    revert h
    unfold Leaves
    cases e.direction <;> cases e.started <;> cases prev <;> cases now <;> decide
  refine ⟨fun h' => ?_, fun h' => ?_, fun h' => ?_⟩
  · rw [judge_arrived.mpr h'] at hjudge; simp at hjudge
  · rw [judge_stalled.mpr h'] at hjudge; simp at hjudge
  · rw [judge_wrongWay.mpr h'] at hjudge; simp at hjudge

/-- What the presentation of a door with a MOVING entry to MS leaves. -/
structure MovingJudged (d : DoorIx) (b : Before) (e : Entry) (s t : State) : Prop where
  arrived : s.position d = e.direction.target →
    t.entry d = none ∧ t.ms.doors[d] = { arrivedSup d b e (s.position d) s with latch := t.latch d }
    ∧ (t.latch d = s.latch d ∨ t.latch d = .NONE)
  latch : AlarmLaw s → ¬stalls e (s.position d) → ¬wrongWay e b.position (s.position d) →
    t.latch d = restedLatch s d (s.position d)
  left : ¬letGo d b e s → Leaves e b.position (s.position d) → t = leftStanding d b e (clearAtRest d s)
  released : letGo d b e s → s.position d ≠ e.direction.target → ¬stalls e (s.position d) →
    ¬wrongWay e b.position (s.position d) →
    t.entry d = none ∧ Pending t d .STOP ∧ t.ms.doors[d] = { s.ms.doors[d] with latch := t.latch d }
    ∧ (t.latch d = s.latch d ∨ t.latch d = .NONE)
  stalled : stalls e (s.position d) →
    t.entry d = none ∧ t.latch d = .STALLED ∧ (HasSpare s .DOOR_FAULT d.val → Standing t .DOOR_FAULT d.val)
  wrong : wrongWay e b.position (s.position d) →
    t.entry d = none ∧ t.latch d = .WRONG_WAY ∧ Pending t d .STOP
    ∧ (s.position d = e.direction.opposite.moving → HasSpare s .DOOR_FAULT d.val → Standing t .DOOR_FAULT d.val)
    ∧ (otherCount s.al.records < 62 → Standing t .DOOR_FAULT d.val)
  completed : s.position d = e.direction.target
    ∨ (letGo d b e s ∧ ¬stalls e (s.position d) ∧ ¬wrongWay e b.position (s.position d)) →
    Vanished d e .completed s t
  faulted : stalls e (s.position d) ∨ wrongWay e b.position (s.position d) → Vanished d e .faulted s t
  overtime : AlarmLaw s → t.entry d = none → Cleared t .TRAVEL_OVERTIME d.val
  rest : AlarmLaw s → s.position d = .CLOSED ∨ s.position d = .OPEN → Cleared t .UNSUPERVISED_MOTION d.val
    ∧ (¬wrongWay e b.position (s.position d) → Cleared t .DOOR_FAULT d.val)
  others : ∀ x : DoorIx, x ≠ d → claimOf t x = claimOf s x ∧ t.ms.doors[x] = s.ms.doors[x]

theorem either_of_rested (h : t.latch d = (clearAtRest d s).latch d) : t.latch d = s.latch d ∨ t.latch d = .NONE := by
  rw [h]; exact (rested d s).either

/-- A removal after rest has cleared leaves what rest cleared. -/
theorem rest_of_removed {c : RemovalCause} (hb : AboutToEnd d e f s u) (hal : u.al = (clearAtRest d s).al) (hlaw : AlarmLaw s)
    (hset : s.position d = .CLOSED ∨ s.position d = .OPEN) :
    Cleared (removeEntry c d u) .UNSUPERVISED_MOTION d.val ∧ Cleared (removeEntry c d u) .DOOR_FAULT d.val := by
  have hr := rested d s
  have honly := (removed hb.entry c).alarms
  exact ⟨cleared_of_onlyAlarms honly (by simp) (by decide) ((cleared_congr hal).mpr (hr.motion hlaw (settled_iff.mpr hset))),
    cleared_of_onlyAlarms honly (by simp) (by decide) ((cleared_congr hal).mpr (hr.fault hlaw (settled_iff.mpr hset)))⟩

theorem movingJudged_arrived (he : s.entry d = some e) (hm : e.phase = .MOVING) (h : s.position d = e.direction.target) :
    MovingJudged d b e s (presentMS d b s) := by
  have hends := arrivalEnds (b := b) he hm h
  have hrest := rest_of_removed (c := .ARRIVAL) (aboutToEnd_arriving he hm b) (by unfold arriving; split <;> rfl)
  rw [← presentMS_arrived he hm h] at hrest
  exact {
    arrived := fun _ => ⟨hends.gone, hends.sup, either_of_rested hends.latch⟩
    latch := fun hlaw _ _ => hends.latch.trans ((rested d s).latch hlaw)
    left := fun _ hl => absurd h (not_judged_of_leaves hl).1
    released := fun _ hne => absurd h hne
    stalled := fun hs => absurd hs (not_stalls_of_arrived h)
    wrong := fun hw => absurd hw (not_wrongWay_of_arrived h)
    completed := fun _ => hends.toVanished
    faulted := fun hf => absurd hf (not_or.mpr ⟨not_stalls_of_arrived h, not_wrongWay_of_arrived h⟩)
    overtime := fun hlaw _ => hends.overtime hlaw
    rest := fun hlaw hset => ⟨(hrest hlaw hset).1, fun _ => (hrest hlaw hset).2⟩
    others := fun x hx => ⟨hends.claims x hx, hends.others x hx⟩ }

theorem movingJudged_stalled (hs : Deaf l s) (he : s.entry d = some e) (hm : e.phase = .MOVING) (h : stalls e (s.position d)) :
    MovingJudged d b e s (presentMS d b s) := by
  have hends := faultJudged he hm .STALLED
  have harrived : s.position d ≠ e.direction.target := fun h' => not_stalls_of_arrived h' h
  have hset := not_settled_of_stalls h
  rw [presentMS_stalled hs he hm h]
  exact {
    arrived := fun h' => absurd h' harrived
    latch := fun _ hn => absurd h hn
    left := fun _ hl => absurd h (not_judged_of_leaves hl).2.1
    released := fun _ _ hn => absurd h hn
    stalled := fun _ => ⟨hends.gone, congrArg Supervision.latch hends.sup, hends.spare hset⟩
    wrong := fun hw => absurd hw (not_wrongWay_of_stalls h)
    completed := fun hc => absurd hc (not_or.mpr ⟨harrived, fun h' => h'.2.1 h⟩)
    faulted := fun _ => hends.toVanished
    overtime := fun hlaw _ => hends.overtime hlaw
    rest := fun _ hset' => absurd (settled_iff.mpr hset') (by rw [hset]; decide)
    others := fun x hx => ⟨hends.claims x hx, hends.others x hx⟩ }

theorem movingJudged_wrongWay (hs : Deaf l s) (he : s.entry d = some e) (hm : e.phase = .MOVING)
    (h : wrongWay e b.position (s.position d)) : MovingJudged d b e s (presentMS d b s) := by
  have hends := faultJudged he hm .WRONG_WAY
  have harrived : s.position d ≠ e.direction.target := fun h' => not_wrongWay_of_arrived h' h
  have hstalls : ¬stalls e (s.position d) := fun h' => not_wrongWay_of_stalls h' h
  rw [presentMS_wrongWay hs he hm h]
  exact {
    arrived := fun h' => absurd h' harrived
    latch := fun _ _ hn => absurd h hn
    left := fun _ hl => absurd h (not_judged_of_leaves hl).2.2
    released := fun _ _ _ hn => absurd h hn
    stalled := fun h' => absurd h' hstalls
    wrong := fun _ => ⟨hends.gone, congrArg Supervision.latch hends.sup, hends.stopped rfl,
      fun hmoving => hends.spare (by rw [hmoving]; cases e.direction <;> rfl), hends.room⟩
    completed := fun hc => absurd hc (not_or.mpr ⟨harrived, fun h' => h'.2.2 h⟩)
    faulted := fun _ => hends.toVanished
    overtime := fun hlaw _ => hends.overtime hlaw
    rest := fun hlaw hset => ⟨hends.motion hlaw (settled_iff.mpr hset), fun hn => absurd h hn⟩
    others := fun x hx => ⟨hends.claims x hx, hends.others x hx⟩ }

theorem movingJudged_released (he : s.entry d = some e) (hm : e.phase = .MOVING) (harrived : s.position d ≠ e.direction.target)
    (hstalls : ¬stalls e (s.position d)) (hwrong : ¬wrongWay e b.position (s.position d)) (h : letGo d b e s) :
    MovingJudged d b e s (presentMS d b s) := by
  have hends := releaseEnds he hm b
  obtain ⟨f, hb⟩ := aboutToEnd_left he hm b
  have hrest := rest_of_removed (c := .RELEASE) hb al_leftStanding
  rw [presentMS_left he hm harrived hstalls hwrong, if_pos h]
  exact {
    arrived := fun h' => absurd h' harrived
    latch := fun hlaw _ _ => hends.latch.trans ((rested d s).latch hlaw)
    left := fun hn => absurd h hn
    released := fun _ _ _ _ => ⟨hends.gone, hends.stopped, hends.sup, either_of_rested hends.latch⟩
    stalled := fun h' => absurd h' hstalls
    wrong := fun h' => absurd h' hwrong
    completed := fun _ => hends.toVanished
    faulted := fun hf => absurd hf (not_or.mpr ⟨hstalls, hwrong⟩)
    overtime := fun hlaw _ => hends.overtime hlaw
    rest := fun hlaw hset => ⟨(hrest hlaw hset).1, fun _ => (hrest hlaw hset).2⟩
    others := fun x hx => ⟨hends.claims x hx, hends.others x hx⟩ }

theorem movingJudged_left (he : s.entry d = some e) (hm : e.phase = .MOVING) (harrived : s.position d ≠ e.direction.target)
    (hstalls : ¬stalls e (s.position d)) (hwrong : ¬wrongWay e b.position (s.position d)) (h : ¬letGo d b e s) :
    MovingJudged d b e s (presentMS d b s) := by
  have hr := rested d s
  obtain ⟨f, hb⟩ := aboutToEnd_left he hm b
  rw [presentMS_left he hm harrived hstalls hwrong, if_neg h]
  exact {
    arrived := fun h' => absurd h' harrived
    latch := fun hlaw _ _ => (by unfold State.latch; rw [ms_leftStanding] : _ = (clearAtRest d s).latch d).trans (hr.latch hlaw)
    left := fun _ _ => rfl
    released := fun h' => absurd h' h
    stalled := fun h' => absurd h' hstalls
    wrong := fun h' => absurd h' hwrong
    completed := fun hc => absurd hc (not_or.mpr ⟨harrived, fun h' => h h'.1⟩)
    faulted := fun hf => absurd hf (not_or.mpr ⟨hstalls, hwrong⟩)
    overtime := fun _ hnone => by rw [hb.entry] at hnone; cases hnone
    rest := fun hlaw hset => ⟨(cleared_congr al_leftStanding).mpr (hr.motion hlaw (settled_iff.mpr hset)),
      fun _ => (cleared_congr al_leftStanding).mpr (hr.fault hlaw (settled_iff.mpr hset))⟩
    others := fun x hx => ⟨hb.claims x hx, hb.others x hx⟩ }

/-- R68: the judgement of a MOVING entry, by cases. -/
theorem movingJudged (hs : Deaf l s) (he : s.entry d = some e) (hm : e.phase = .MOVING) (b : Before) :
    MovingJudged d b e s (presentMS d b s) := by
  by_cases harrived : s.position d = e.direction.target
  · exact movingJudged_arrived he hm harrived
  by_cases hstalls : stalls e (s.position d)
  · exact movingJudged_stalled hs he hm hstalls
  by_cases hwrong : wrongWay e b.position (s.position d)
  · exact movingJudged_wrongWay hs he hm hwrong
  by_cases hletGo : letGo d b e s
  · exact movingJudged_released he hm harrived hstalls hwrong hletGo
  · exact movingJudged_left he hm harrived hstalls hwrong hletGo

end

end Sys2Proof.Proofs
end

section
/-! ## Doors found moving (R80 to R82) -/
namespace Sys2Proof.Proofs
open Sys2Proof Sys2Proof.Machine

set_option Elab.async false

section
variable {s t u : State} {d x : DoorIx} {b : Before} {dir : Direction}

/-- R81: the door adopted is turned to a CLOSE at once. -/
abbrev turns (d : DoorIx) (dir : Direction) (s : State) : Prop := dir = .OPEN ∧ s.mc.mode = .EMERGENCY ∧ s.isEscape d = false

/-- What MS makes of a door without an entry that it finds moving, its latch NONE (R80, R81). -/
structure FoundEnds (d : DoorIx) (dir : Direction) (s t : State) : Prop where
  phase : phaseOf t d = some .MOVING
  turned : turns d dir s → claimOf t d = some (.CLOSE, 3, .A, .MODE, none, s.cs.nextArrival) ∧ Pending t d (.MOVE .CLOSE true)
  adopted : ¬turns d dir s → claimOf t d = some (dir, 1, .A, .ADOPTED, none, s.cs.nextArrival)
    ∧ (t.entry d).map (fun e => (e.started, e.elapsed, e.deadline)) = some (true, 0, doorDeadline s d dir)
    ∧ t.cs.flow[s.hpuOf d].committed = s.cs.flow[s.hpuOf d].committed + s.draw d
    ∧ t.rc = s.rc ∧ t.al = s.al
  arrival : t.cs.nextArrival = s.cs.nextArrival + 1
  oas : t.mc.oas[d] = ⟨0, false⟩
  others : ∀ x : DoorIx, x ≠ d → claimOf t x = claimOf s x
  ms : t.ms = s.ms
  gru : t.gru = s.gru
  passages : t.mc.passages = s.mc.passages

/-- The state of a door adopted below the top of the arrival counter. -/
theorem adopt_eq (h : s.cs.nextArrival ≠ arrivalTop) : adopt d dir s = { s with
    cs := { s.cs with entries := put s.cs.entries d (some (adoptedEntry dir s.cs.nextArrival (doorDeadline s d dir)))
                      nextArrival := s.cs.nextArrival + 1
                      flow := upd s.cs.flow (s.hpuOf d) fun f => { f with committed := f.committed + s.draw d } }
    mc := (s.zeroOas d).mc } := by
  unfold adopt takeArrival
  rw [if_neg h]
  rfl

theorem entry_adopt (h : s.cs.nextArrival ≠ arrivalTop) : (adopt d dir s).entry x =
    if d = x then some (adoptedEntry dir s.cs.nextArrival (doorDeadline s d dir)) else s.entry x := by
  rw [adopt_eq h]
  simp only [State.entry, Fin.getElem_fin, getElem_put, Fin.val_inj]

theorem foundEnds_adopted (h : s.cs.nextArrival ≠ arrivalTop) (hturns : ¬turns d dir s) : FoundEnds d dir s (adopt d dir s) := by
  have hentry : (adopt d dir s).entry d = some (adoptedEntry dir s.cs.nextArrival (doorDeadline s d dir)) :=
    (entry_adopt h).trans (if_pos rfl)
  refine { phase := ?_, turned := fun ht => absurd ht hturns, adopted := fun _ => ⟨?_, ?_, ?_, ?_, ?_⟩, arrival := ?_, oas := ?_,
           others := fun x hx => ?_, ms := ?_, gru := ?_, passages := ?_ }
  · unfold phaseOf; rw [hentry]; rfl
  · unfold claimOf; rw [hentry]; rfl
  · rw [hentry]; rfl
  · rw [adopt_eq h]; simp
  · rw [adopt_eq h]
  · rw [adopt_eq h]
  · rw [adopt_eq h]
  · rw [adopt_eq h]; simp [State.zeroOas]
  · unfold claimOf
    rw [entry_adopt h, if_neg hx.symm]
  · rw [adopt_eq h]
  · rw [adopt_eq h]
  · rw [adopt_eq h]; rfl

/-- The adopted door as R81 turns it. -/
theorem turned_eq (h : s.cs.nextArrival ≠ arrivalTop) (hturns : turns d dir s) : ∃ E : Entry,
    E.claim = (.CLOSE, 3, .A, .MODE, none, s.cs.nextArrival) ∧ E.phase = .MOVING
    ∧ reverseAdopted d dir (adopt d dir s) = pass ((adopt d dir s).hpuOf d)
        (queueOrder d (.MOVE .CLOSE true) ((adopt d dir s).setEntry d E)) := by
  have hentry : (adopt d dir s).entry d = some (adoptedEntry dir s.cs.nextArrival (doorDeadline s d dir)) :=
    (entry_adopt h).trans (if_pos rfl)
  have hcond : dir = .OPEN ∧ (adopt d dir s).mc.mode = .EMERGENCY ∧ (adopt d dir s).isEscape d = false := by
    rw [adopt_eq h]; exact hturns
  refine ⟨(adoptedEntry dir s.cs.nextArrival (doorDeadline s d dir)).reversed (emergencyClose .MODE d)
    (doorDeadline (adopt d dir s) d .CLOSE), rfl, rfl, ?_⟩
  unfold reverseAdopted
  rw [if_pos hcond]
  unfold reverseOne
  rw [hentry]
  rfl

theorem foundEnds_turned (h : s.cs.nextArrival ≠ arrivalTop) (hturns : turns d dir s) :
    FoundEnds d dir s (reverseAdopted d dir (adopt d dir s)) := by
  obtain ⟨E, hclaim, hphase, heq⟩ := turned_eq h hturns
  rw [heq]
  generalize hw : queueOrder d (.MOVE .CLOSE true) ((adopt d dir s).setEntry d E) = w
  generalize (adopt d dir s).hpuOf d = hpu
  have hwentry (y : DoorIx) : w.entry y = if d = y then some E else s.entry y := by
    rw [← hw]
    refine (entry_setEntry ..).trans ?_
    by_cases hy : d = y
    · rw [if_pos hy, if_pos hy]
    · rw [if_neg hy, if_neg hy, entry_adopt h, if_neg hy]
  have hready : entryIn w hpu .READY d = false := by
    unfold entryIn
    rw [hwentry, if_pos rfl]
    simp [hphase]
  have hframe := ScheduleFrame.pass hpu w
  have hpassed : (pass hpu w).entry d = some E := (entry_pass_of_not_ready hready).trans ((hwentry d).trans (if_pos rfl))
  refine { phase := ?_, turned := fun _ => ⟨?_, ?_⟩, adopted := fun hn => absurd hturns hn, arrival := ?_, oas := ?_,
           others := fun x hx => ?_, ms := ?_, gru := ?_, passages := ?_ }
  · unfold phaseOf; rw [hpassed]; exact congrArg some hphase
  · unfold claimOf; rw [hpassed]; exact congrArg some hclaim
  · refine (pass_orders_of_not_ready (o := ⟨d, .MOVE .CLOSE true⟩) hready).mpr ?_
    rw [← hw]
    exact mem_queued_self ..
  · rw [hframe.nextArrival, ← hw, adopt_eq h]; rfl
  · rw [hframe.mc, ← hw, adopt_eq h]
    simp [State.zeroOas]
  · rw [claimOf_pass]
    unfold claimOf
    rw [hwentry, if_neg hx.symm]
  · rw [ms_pass, ← hw, adopt_eq h]; rfl
  · rw [hframe.gru, ← hw, adopt_eq h]; rfl
  · rw [hframe.mc, ← hw, adopt_eq h]; rfl

theorem foundEnds (h : s.cs.nextArrival ≠ arrivalTop) : FoundEnds d dir s (reverseAdopted d dir (adopt d dir s)) := by
  by_cases hturns : turns d dir s
  · exact foundEnds_turned h hturns
  · have hstays : reverseAdopted d dir (adopt d dir s) = adopt d dir s := by
      refine if_neg fun hc => hturns ?_
      rw [adopt_eq h] at hc
      exact hc
    rw [hstays]
    exact foundEnds_adopted h hturns

/-! ### Presentations of a door without a MOVING entry -/

theorem presentMS_idle (hphase : phaseOf s d ≠ some .MOVING) (hset : s.position d = .CLOSED ∨ s.position d = .OPEN) (b : Before) :
    presentMS d b s = clearAtRest d s := by
  have hr := rested d s
  have hentry : (clearAtRest d s).entry d = s.entry d := entry_congr (by rw [hr.frame.cs]) d
  unfold presentMS
  simp only [hentry, position_clearAtRest]
  cases he : s.entry d with
  | none =>
    have hfound : foundDirection b.position (s.position d) = none := by
      unfold foundDirection
      rcases hset with h | h <;> rw [h] <;> split <;> rfl
    simp only [hfound]
  | some e =>
    have hm : e.phase ≠ .MOVING := fun h => hphase (by unfold phaseOf; rw [he]; exact congrArg some h)
    simp only [if_neg hm]

theorem presentMS_other (hphase : phaseOf s d ≠ some .MOVING) (hset : ¬(s.position d = .CLOSED ∨ s.position d = .OPEN)) (b : Before) :
    presentMS d b s = match s.entry d, foundDirection b.position (s.position d) with
      | none, some dir => foundMoving d dir s
      | _, _ => s := by
  unfold presentMS
  rw [clearAtRest_of_moving hset]
  simp only
  cases he : s.entry d with
  | none => cases foundDirection b.position (s.position d) <;> rfl
  | some e =>
    have hm : e.phase ≠ .MOVING := fun h => hphase (by unfold phaseOf; rw [he]; exact congrArg some h)
    simp only [if_neg hm]

theorem ms_reverseAdopted (d : DoorIx) (dir : Direction) (s : State) : (reverseAdopted d dir (adopt d dir s)).ms = s.ms := by
  have hadopt : (adopt d dir s).ms = s.ms := by
    show (Proofs.arrived d s).ms = s.ms
    rw [arrived_eq]
  unfold reverseAdopted
  split
  · rw [ms_pass]
    unfold reverseOne
    split
    · exact ((ReportFrame.reportTag ..).ms).trans hadopt
    · exact hadopt
  · exact hadopt

theorem ms_foundMoving (d : DoorIx) (dir : Direction) (s : State) : (foundMoving d dir s).ms = s.ms := by
  unfold foundMoving
  split
  · exact ms_reverseAdopted ..
  · exact ms_raiseAlarm ..

end

end Sys2Proof.Proofs
end

section
/-! ## The summaries of a recomputation (R146 to R149) -/
namespace Sys2Proof.Proofs
open Sys2Proof Sys2Proof.Machine

set_option Elab.async false

section
variable {s t u : State} {p q : PortIx} {l : List PortIx}

/-- What is left of the pacing of a port, and of its queue, where a change of indication was handed to it (R149). -/
structure PacedAt (q : PortIx) (s t : State) : Prop where
  held : s.ib.pacing[q].elapsed < summaryHold → t.sp[q].queue = s.sp[q].queue ∧ t.ib.pacing[q] = ⟨s.ib.pacing[q].elapsed, true⟩
  sent : summaryHold ≤ s.ib.pacing[q].elapsed → t.sp[q].queue = placedIn (zoneSummary s q) s.sp[q].queue
    ∧ t.ib.pacing[q].elapsed = 0 ∧ (s.sp[q].queue.length < queueSize → t.ib.pacing[q] = ⟨0, false⟩)

/-- A change of indication was handed to the pacing of each port of a list, once. -/
structure Paced (l : List PortIx) (s t : State) : Prop where
  state : t = { s with sp := t.sp, ib := t.ib, freeCount := t.freeCount }
  queues : OnlyQueues s t
  pacing : OnlyPacing s t
  handed : ∀ q ∈ l, PacedAt q s t
  others : ∀ q : PortIx, q ∉ l → t.sp[q].queue = s.sp[q].queue ∧ t.ib.pacing[q] = s.ib.pacing[q]

theorem paced_one (p : PortIx) (s : State) : Paced [p] s (pacingChange p s) := by
  unfold pacingChange
  by_cases h : s.ib.pacing[p].elapsed < summaryHold
  · rw [if_pos h]
    refine { state := rfl, queues := fun _ => rfl, pacing := rfl, handed := fun q hq => ?_, others := fun q hq => ⟨rfl, ?_⟩ }
    · rw [List.mem_singleton.mp hq]
      refine { held := fun _ => ⟨rfl, ?_⟩, sent := fun hle => absurd h (Nat.not_lt.mpr hle) }
      simp [State.setPacing]
    · have hval : p.val ≠ q.val := fun hv => hq (List.mem_singleton.mpr (Fin.ext hv).symm)
      simp [State.setPacing, hval]
  · rw [if_neg h]
    have hsent := sendSummary_sent p s
    refine { state := hsent.state, queues := hsent.queues, pacing := hsent.pacing, handed := fun q hq => ?_, others := fun q hq => ⟨?_, hsent.others q hq⟩ }
    · refine { held := fun hlt => absurd (List.mem_singleton.mp hq ▸ hlt) h, sent := fun _ => ⟨?_, hsent.elapsed q hq, hsent.begun q hq⟩ }
      rw [hsent.queue q, if_pos hq]
    · rw [hsent.queue q, if_neg hq]

/-- Where a change was handed to ports, a summary is built as before. -/
theorem Paced.zoneSummary (h : Paced l s t) : Machine.zoneSummary t q = Machine.zoneSummary s q := by
  have hcomps : t.ib.comps = s.ib.comps := by rw [h.pacing]
  have hstate := h.state
  generalize t.sp = sp, t.ib = ib, t.freeCount = n at hstate hcomps
  subst hstate
  exact zoneSummary_congr rfl hcomps rfl rfl rfl

theorem PacedAt.congr_left (h : PacedAt q s t) (hqueue : s.sp[q].queue = u.sp[q].queue) (hpacing : s.ib.pacing[q] = u.ib.pacing[q])
    (hsummary : Machine.zoneSummary s q = Machine.zoneSummary u q) : PacedAt q u t := by
  obtain ⟨hheld, hsent⟩ := h
  rw [hqueue, hpacing] at hheld
  rw [hqueue, hpacing, hsummary] at hsent
  exact ⟨hheld, hsent⟩

theorem PacedAt.congr_right (h : PacedAt q s t) (hqueue : u.sp[q].queue = t.sp[q].queue) (hpacing : u.ib.pacing[q] = t.ib.pacing[q]) :
    PacedAt q s u := by
  obtain ⟨hheld, hsent⟩ := h
  rw [← hqueue, ← hpacing] at hheld hsent
  exact ⟨hheld, hsent⟩

theorem paced_each (hnodup : l.Nodup) (s : State) : Paced l s (forEach l pacingChange s) := by
  induction l generalizing s with
  | nil => exact ⟨rfl, fun _ => rfl, rfl, nofun, fun _ _ => ⟨rfl, rfl⟩⟩
  | cons p rest ih =>
    obtain ⟨hp, hrest⟩ := List.nodup_cons.mp hnodup
    have h := paced_one p s
    have g : Paced rest (pacingChange p s) (forEach (p :: rest) pacingChange s) := ih hrest _
    generalize forEach (p :: rest) pacingChange s = v at g ⊢
    generalize pacingChange p s = t at h g
    refine { state := ?_, queues := OnlyQueues.trans h.queues g.queues, pacing := OnlyPacing.trans h.pacing g.pacing,
             handed := fun q hq => ?_, others := fun q hq => ?_ }
    · rw [g.state, h.state]
    · by_cases hr : q ∈ rest
      · obtain ⟨hqueue, hpacing⟩ := h.others q (fun hm => hp (List.mem_singleton.mp hm ▸ hr))
        exact (g.handed q hr).congr_left hqueue hpacing h.zoneSummary
      · obtain ⟨hqueue, hpacing⟩ := g.others q hr
        exact (h.handed q (List.mem_singleton.mpr ((List.mem_cons.mp hq).resolve_right hr))).congr_right hqueue hpacing
    · rw [List.mem_cons, not_or] at hq
      obtain ⟨hqueue, hpacing⟩ := g.others q hq.2
      obtain ⟨hqueue', hpacing'⟩ := h.others q (fun hm => hq.1 (List.mem_singleton.mp hm))
      exact ⟨hqueue.trans hqueue', hpacing.trans hpacing'⟩

/-! ### A recomputation -/

/-- The ports that a recomputation of compartments hands a change to: in service, those that watch one whose indication changes. -/
def toldPorts (cs : List CompIx) (s : State) : List PortIx :=
  if s.inService then allPorts.filter fun p => (changedComps s cs).any (watches s p) else []

theorem nodup_toldPorts (cs : List CompIx) (s : State) : (toldPorts cs s).Nodup := by
  unfold toldPorts
  split
  · exact (List.nodup_finRange 8).filter _
  · exact List.nodup_nil

theorem recomputeComps_forEach (cs : List CompIx) (s : State) :
    recomputeComps cs s = forEach (toldPorts cs s) pacingChange (writeComps cs s) := by
  have hserves : (writeComps cs s).inService = s.inService := inService_congr (PresentFrame.writeComps cs s).cfs
  have hwatches : watches (writeComps cs s) = watches s := by
    funext p
    unfold watches State.row
    rw [(PresentFrame.writeComps cs s).tables]
  unfold recomputeComps toldPorts
  simp only [hserves, hwatches]
  generalize writeComps cs s = w
  by_cases h : s.inService = true
  · rw [if_pos h, if_pos h]
  · rw [if_neg h, if_neg h]
    rfl

/-- What a recomputation leaves, on the indications as written. -/
theorem recomputed_paced (cs : List CompIx) (s : State) : Paced (toldPorts cs s) (writeComps cs s) (recomputeComps cs s) := by
  rw [recomputeComps_forEach]
  exact paced_each (nodup_toldPorts cs s) _

theorem comps_writeComps (cs : List CompIx) (s : State) (c : CompIx) :
    (writeComps cs s).ib.comps[c] = if c ∈ cs then compIndication s c else s.ib.comps[c] := by
  unfold writeComps
  simp only [Fin.getElem_fin, getElem_updAll, Fin.eta, List.contains_iff_mem]

theorem mem_toldPorts (cs : List CompIx) (s : State) (hs : s.inService = true) (p : PortIx) :
    p ∈ toldPorts cs s ↔ Watched s p (cs.map Fin.val) (compIndication s) := by
  unfold toldPorts Watched changedComps watches
  rw [if_pos hs, List.mem_filter, List.any_eq_true]
  constructor
  · rintro ⟨-, c, hc, hmask⟩
    obtain ⟨hmem, hne⟩ := List.mem_filter.mp hc
    exact ⟨c, List.mem_map_of_mem hmem, hmask, of_decide_eq_true hne⟩
  · rintro ⟨c, hmem, hmask, hne⟩
    obtain ⟨c', hc', hval⟩ := List.mem_map.mp hmem
    rw [Fin.ext hval] at hc'
    exact ⟨List.mem_finRange p, c, List.mem_filter.mpr ⟨hc', decide_eq_true hne⟩, hmask⟩

end

end Sys2Proof.Proofs
end

section
/-! ## ZONE_SUMMARY: what is due, and what a recomputation hands on (O58, the parts beside a REPORT) -/
namespace Sys2Proof.Proofs
open Sys2Proof Sys2Proof.Machine

set_option Elab.async false

section
variable {s t : State} {p q : PortIx}

theorem summaryOf_eq (s : State) (p : PortIx) : summaryOf s p = zoneSummary s p := by
  have hcode (c : Nat) (hc : c < 32) : (if h : c < 32 then
      (if (s.row p).summaryMask.getLsbD c then s.ib.comps[c].code else 5) else 5) = summaryCode s p ⟨c, hc⟩ := by
    rw [dif_pos hc]
    rfl
  have hbytes : ((List.range 16).map fun m => byteOf (16 * (if h : 2 * m < 32 then
        (if (s.row p).summaryMask.getLsbD (2 * m) then s.ib.comps[2 * m].code else 5) else 5)
      + (if h : 2 * m + 1 < 32 then
        (if (s.row p).summaryMask.getLsbD (2 * m + 1) then s.ib.comps[2 * m + 1].code else 5) else 5)))
      = (List.finRange 16).map (summaryByte s p) := by
    rw [← List.map_coe_finRange_eq_range, List.map_map]
    refine List.map_congr_left fun m _ => ?_
    have hm := m.isLt
    simp only [Function.comp_apply]
    rw [hcode _ (by omega), hcode _ (by omega)]
    rfl
  unfold summaryOf zoneSummary
  simp only
  rw [hbytes]
  rfl

theorem answered_of_queue {f : Frame} {q : List Frame} (h : t.sp[p].queue = placedIn f q) : Answered t p f := by
  unfold Answered
  rw [h]
  obtain ⟨l, hl⟩ | ⟨hsame, hlost⟩ := placedIn_cases f q
  · exact .inl (by rw [hl, List.getLast?_append]; rfl)
  · exact .inr (by rw [hsame]; exact hlost)

theorem port_eq_of_queue (h : OnlyQueues s t) (hq : t.sp[q].queue = s.sp[q].queue) : t.sp[q] = s.sp[q] := by
  rw [h q, hq]

theorem exec_summaryElapsed (hs : Awake s) : exec (.summaryElapsedExpiry p) s = .next (if summaryDue s p then sendSummary p s else s) :=
  exec_awake hs rfl

theorem summaryDue_iff : summaryDue s p = true ↔ s.inService = true ∧ (s.row p).summaryMask ≠ 0
    ∧ ((5 ≤ s.ib.pacing[p].elapsed ∧ s.ib.pacing[p].pending = true) ∨ 20 ≤ s.ib.pacing[p].elapsed) := by
  unfold summaryDue hasMask summaryHold summaryPeriod
  simp only [Bool.and_eq_true, Bool.or_eq_true, decide_eq_true_eq, and_assoc]

end

/-- R149: a summary that is due, and one that is not. -/
theorem summaryExpiry (p : PortIx) (s : State) (hs : Awake s) :
    let x := s.ib.pacing[p]
    let due := s.inService = true ∧ (s.row p).summaryMask ≠ 0 ∧ ((5 ≤ x.elapsed ∧ x.pending = true) ∨ 20 ≤ x.elapsed)
    (¬due → exec (.summaryElapsedExpiry p) s = .next s)
    ∧ (due → Ends (.summaryElapsedExpiry p) s fun t =>
        Answered t p (summaryOf s p) ∧ t.ib.pacing[p].elapsed = 0
        ∧ (s.sp[p].queue.length < 64 → t.ib.pacing[p].pending = false)
        ∧ (∀ q : PortIx, q ≠ p → t.sp[q] = s.sp[q] ∧ t.ib.pacing[q] = s.ib.pacing[q])
        ∧ OnlyQueues s t ∧ OnlyPacing s t ∧ t = { s with sp := t.sp, ib := t.ib, freeCount := t.freeCount }) := by
  intro x due
  refine ⟨fun hnot => ?_, fun hdue => ?_⟩
  · rw [exec_summaryElapsed hs, if_neg (mt summaryDue_iff.mp hnot)]
  · have hsent := sendSummary_sent p s
    have hexec : exec (.summaryElapsedExpiry p) s = .next (sendSummary p s) := by
      rw [exec_summaryElapsed hs, if_pos (summaryDue_iff.mpr hdue)]
    have hmem : p ∈ [p] := List.mem_singleton_self p
    refine ends_of hexec ⟨?_, hsent.elapsed p hmem, fun hroom => ?_, fun q hq => ?_, hsent.queues, hsent.pacing, hsent.state⟩
    · rw [summaryOf_eq]
      exact answered_of_queue ((hsent.queue p).trans (if_pos hmem))
    · rw [hsent.begun p hmem hroom]
    · have hnot : q ∉ [p] := fun h => hq (List.mem_singleton.mp h)
      exact ⟨port_eq_of_queue hsent.queues ((hsent.queue q).trans (if_neg hnot)), hsent.others q hnot⟩

theorem writeComps_eq (l : List CompIx) (s : State) : (writeComps l s).sp = s.sp
    ∧ (writeComps l s).ib = { s.ib with comps := (writeComps l s).ib.comps, allClosed := everyDoorClosed s }
    ∧ writeComps l s = { s with ib := (writeComps l s).ib } := by
  unfold writeComps
  exact ⟨rfl, rfl, rfl⟩

/-- R146, R147, R149: a recomputation. -/
theorem recomputation (l : List CompIx) (s : State) :
    let t := recomputeComps l s
    (∀ c : CompIx, t.ib.comps[c] = if c ∈ l then compIndication s c else s.ib.comps[c])
    ∧ t.ib = { s.ib with comps := t.ib.comps, allClosed := everyDoorClosed s, pacing := t.ib.pacing }
    ∧ (s.inService = false → t.sp = s.sp ∧ t.ib.pacing = s.ib.pacing)
    ∧ (s.inService = true → ∀ p : PortIx,
        let x := s.ib.pacing[p]
        let changed := Watched s p (l.map Fin.val) (compIndication s)
        (¬changed → t.sp[p] = s.sp[p] ∧ t.ib.pacing[p] = x)
        ∧ (changed → x.elapsed < 5 → t.sp[p] = s.sp[p] ∧ t.ib.pacing[p] = ⟨x.elapsed, true⟩)
        ∧ (changed → 5 ≤ x.elapsed → Answered t p (summaryOf t p) ∧ t.ib.pacing[p].elapsed = 0
            ∧ (s.sp[p].queue.length < 64 → t.sp[p].queue = s.sp[p].queue ++ [summaryOf t p]
                ∧ t.ib.pacing[p].pending = false)))
    ∧ OnlyQueues s t ∧ t = { s with sp := t.sp, ib := t.ib, freeCount := t.freeCount } := by
  intro t
  have hpaced : Paced (toldPorts l s) (writeComps l s) t := recomputed_paced l s
  have hstands : s.inService = false → t = writeComps l s := fun hout => by
    have hnone : toldPorts l s = [] := if_neg (by rw [hout]; decide)
    show recomputeComps l s = _
    rw [recomputeComps_forEach, hnone]
    rfl
  have hcomps := comps_writeComps l s
  obtain ⟨hsp, hwritten, hstate⟩ := writeComps_eq l s
  generalize writeComps l s = w at hpaced hstands hcomps hsp hwritten hstate
  have hwpacing : w.ib.pacing = s.ib.pacing := by rw [hwritten]
  have hib : t.ib = { w.ib with pacing := t.ib.pacing } := hpaced.pacing
  have hqueues : OnlyQueues s t := fun q => by rw [hpaced.queues q, hsp]
  refine ⟨fun c => ?_, ?_, fun hout => ?_, fun hin p => ⟨fun hnot => ?_, fun hchanged hlt => ?_, fun hchanged hle => ?_⟩, hqueues, ?_⟩
  · rw [hib]
    exact hcomps c
  · rw [hib, hwritten]
  · rw [hstands hout]
    exact ⟨hsp, hwpacing⟩
  · obtain ⟨hqueue, hpacing⟩ := hpaced.others p (fun h => hnot ((mem_toldPorts l s hin p).mp h))
    rw [hsp] at hqueue
    rw [hwpacing] at hpacing
    exact ⟨port_eq_of_queue hqueues hqueue, hpacing⟩
  · have hat := hpaced.handed p ((mem_toldPorts l s hin p).mpr hchanged)
    have hheld := hat.held
    rw [hsp, hwpacing] at hheld
    obtain ⟨hqueue, hpacing⟩ := hheld hlt
    exact ⟨port_eq_of_queue hqueues hqueue, hpacing⟩
  · have hat := hpaced.handed p ((mem_toldPorts l s hin p).mpr hchanged)
    have hsent := hat.sent
    rw [hsp, hwpacing] at hsent
    obtain ⟨hqueue, helapsed, hbegun⟩ := hsent hle
    rw [summaryOf_eq, hpaced.zoneSummary]
    refine ⟨answered_of_queue hqueue, helapsed, fun hroom => ⟨?_, ?_⟩⟩
    · rw [hqueue, placedIn_of_room hroom]
    · rw [hbegun hroom]
  · rw [hpaced.state, hstate]

/-- R146: a presentation to IB. -/
theorem presentedIB (d : DoorIx) (prev : Position) (s : State) :
    (s.position d = prev → presentIB d prev s = s)
    ∧ (s.position d ≠ prev → ∃ l : List CompIx,
        (∀ c : CompIx, c ∈ l ↔ c.val = s.tables.doors[d].compA ∨ c.val = s.tables.doors[d].compB)
        ∧ presentIB d prev s = recomputeComps l s) := by
  refine ⟨fun h => if_pos h, fun h => ⟨compsOf [s.tables.doors[d].compA, s.tables.doors[d].compB], fun c => ?_, if_neg h⟩⟩
  simp [compsOf, allComps]

end Sys2Proof.Proofs
end

section
/-! ## The actions of a presentation that act on no entry (R5, entry 1) -/
namespace Sys2Proof.Proofs
open Sys2Proof Sys2Proof.Machine

set_option Elab.async false

/-- The frames that an action which acts on no entry may add to a queue. -/
def actCost : PresentAct → Nat
  | .MS => 4
  | .MC_PASSAGE => 2
  | .IB => 1
  | .CS | .MC_HANDLE | .GRU => 0

/-- Beside the door's entry, the runs and the passages, actions have cleared what rest and CLOSED clear and recomputed the door's
compartments; `rests` says whether the clears of rest, which may free the latch, are among them. -/
structure Near (rests : Bool) (n : Nat) (d : DoorIx) (s t : State) : Prop where
  state : t = { s with ms := t.ms, al := t.al, sp := t.sp, ib := t.ib, freeCount := t.freeCount }
  ms : rests = false → t.ms = s.ms
  others : ∀ x : DoorIx, x ≠ d → t.ms.doors[x] = s.ms.doors[x]
  own : t.ms.doors[d] = { s.ms.doors[d] with latch := t.latch d }
  alarms : OnlyAlarms s t [(.DOOR_FAULT, d.val), (.UNSUPERVISED_MOTION, d.val), (.DOOR_OPEN_AT_SEA, d.val)]
  opens : rests = false → OnlyAlarms s t [(.DOOR_OPEN_AT_SEA, d.val)]
  law : AlarmLaw s → AlarmLaw t
  count : otherCount t.al.records ≤ otherCount s.al.records
  grown : Grown n s t
  lasting : Lasting s t

section
variable {s t u v : State} {r : Bool} {m n : Nat} {d x : DoorIx} {b : Before} {l : List SlotIx}

theorem Near.refl (r : Bool) (d : DoorIx) (s : State) : Near r 0 d s s where
  state := rfl
  ms _ := rfl
  others _ _ := rfl
  own := rfl
  alarms := onlyAlarms_refl ..
  opens _ := onlyAlarms_refl ..
  law := id
  count := le_rfl
  grown := .refl s
  lasting := .refl s

theorem Near.trans (h : Near r m d s t) (g : Near r n d t u) : Near r (m + n) d s u where
  state := by rw [g.state, h.state]
  ms hr := (g.ms hr).trans (h.ms hr)
  others x hx := (g.others x hx).trans (h.others x hx)
  own := by rw [g.own, h.own]
  alarms := onlyAlarms_trans h.alarms g.alarms
  opens hr := onlyAlarms_trans (h.opens hr) (g.opens hr)
  law hlaw := g.law (h.law hlaw)
  count := g.count.trans h.count
  grown := h.grown.trans g.grown
  lasting := h.lasting.trans g.lasting

/-- What stands beside. -/
structure Stands (s t : State) : Prop where
  cs : t.cs = s.cs
  gru : t.gru = s.gru
  mc : t.mc = s.mc
  rc : t.rc = s.rc
  tables : t.tables = s.tables
  cfs : t.cfs = s.cfs
  pins : t.pins = s.pins
  seconds : t.seconds = s.seconds

theorem Near.stands (h : Near r n d s t) : Stands s t := by
  have hstate := h.state
  exact ⟨by rw [hstate], by rw [hstate], by rw [hstate], by rw [hstate], by rw [hstate], by rw [hstate], by rw [hstate], by rw [hstate]⟩

/-! ### Each action -/

theorem near_alarmFrame (h : AlarmFrame s t) (hms : t.ms = s.ms) (halarms : OnlyAlarms s t [(.DOOR_OPEN_AT_SEA, d.val)])
    (hlaw : AlarmLaw s → AlarmLaw t) (hcount : otherCount t.al.records ≤ otherCount s.al.records) (hgrown : Grown n s t)
    (hlasting : Lasting s t) : Near r n d s t where
  state := by
    have hstate := state_of_alarmFrame h
    rw [hstate]
  ms _ := hms
  others _ _ := by rw [hms]
  own := by unfold State.latch; rw [hms]
  alarms := onlyAlarms_mono halarms (by simp)
  opens _ := halarms
  law := hlaw
  count := hcount
  grown := hgrown
  lasting := hlasting

/-- R123: MC takes the position at a door without a passage. -/
theorem near_presentPassage (h : s.passage d = none) : Near r 2 d s (presentPassage d s) := by
  have hstep : presentPassage d s = if s.position d = .CLOSED then clearDoor .DOOR_OPEN_AT_SEA d s else s := by
    have hnone : (if s.position d = .CLOSED then clearDoor .DOOR_OPEN_AT_SEA d s else s).passage d = none := by
      split
      · exact (passage_of_mc_passages (by rw [(AlarmFrame.clearDoor ..).mc]) d).trans h
      · exact h
    unfold presentPassage
    simp only [hnone]
  rw [hstep]
  split
  · exact near_alarmFrame (.clearDoor ..) (ms_clearAlarm (by decide)) (onlyAlarms_clearAlarm ..) (fun hlaw => alarmLaw_clearAlarm hlaw _ _)
      (otherCount_clearAlarm ..) (.clearAlarm ..) (.clearAlarm ..)
  · exact { Near.refl r d s with grown := .refl s }

theorem near_clearAtRest (d : DoorIx) (s : State) : Near true 4 d s (clearAtRest d s) := by
  have h := rested d s
  exact { state := by rw [state_of_alarmFrame h.frame], ms := nofun, others := h.others, own := h.own
          alarms := onlyAlarms_mono h.alarms (by simp), opens := nofun, law := h.law, count := h.count, grown := h.grown
          lasting := h.lasting }

theorem near_recomputeComps (cs : List CompIx) (s : State) : Near r 1 d s (recomputeComps cs s) := by
  have hpaced := recomputed_paced cs s
  obtain ⟨hsp, -, hstate⟩ := writeComps_eq cs s
  generalize recomputeComps cs s = t at hpaced
  generalize writeComps cs s = w at hpaced hsp hstate
  have hqueue (q : PortIx) : t.sp[q].queue = s.sp[q].queue ∨ t.sp[q].queue = placedIn (zoneSummary w q) s.sp[q].queue := by
    rw [← hsp]
    by_cases hq : q ∈ toldPorts cs s
    · have hat := hpaced.handed q hq
      by_cases hlt : w.ib.pacing[q].elapsed < summaryHold
      · exact .inl (hat.held hlt).1
      · exact .inr (hat.sent (Nat.not_lt.mp hlt)).1
    · exact .inl (hpaced.others q hq).1
  have hall : t = { s with sp := t.sp, ib := t.ib, freeCount := t.freeCount } := by rw [hpaced.state, hstate]
  have hms : t.ms = s.ms := by rw [hall]
  have hal : t.al = s.al := by rw [hall]
  refine { state := by rw [hall], ms := fun _ => hms, others := fun _ _ => by rw [hms], own := by unfold State.latch; rw [hms],
           alarms := onlyAlarms_of_records (congrArg Al.records hal) _, opens := fun _ => onlyAlarms_of_records (congrArg Al.records hal) _,
           law := (alarmLaw_congr (congrArg Al.records hal)).mpr, count := by rw [hal], grown := ⟨fun q => ?_⟩,
           lasting := ⟨fun q f hf hmem => ?_⟩ }
  · obtain h | h := hqueue q
    · rw [h]; omega
    · rw [h]; exact length_placedIn_succ ..
  · obtain h | h := hqueue q
    · rw [h]; exact hmem
    · rw [h]; exact mem_placedIn hf hmem

theorem near_presentIB (d : DoorIx) (prev : Position) (s : State) : Near r 1 d s (presentIB d prev s) := by
  unfold presentIB
  split
  · exact { Near.refl r d s with grown := .refl s }
  · exact near_recomputeComps ..

/-- The door has no passage, its handle is the one before, and no run hears. -/
structure Inert (l : List SlotIx) (d : DoorIx) (b : Before) (s : State) : Prop where
  passage : s.passage d = none
  handle : s.handle d = b.handle
  deaf : Deaf l s

theorem Inert.of_stands (h : Inert l d b s) (hs : Stands s t) : Inert l d b t where
  passage := (passage_of_mc_passages (by rw [hs.mc]) d).trans h.passage
  handle := by
    have := h.handle
    unfold State.handle at this ⊢
    rw [hs.rc, this]
  deaf := h.deaf.of_gru hs.gru

/-- MS takes a presentation of the door by the clears of rest alone. -/
def MsIdle (d : DoorIx) (b : Before) (s : State) : Prop :=
  phaseOf s d ≠ some .MOVING ∧ (s.entry d ≠ none ∨ foundDirection b.position (s.position d) = none)

/-- CS takes a presentation of the door by nothing. -/
def CsIdle (d : DoorIx) (s : State) : Prop := ∀ e, s.entry d = some e → e.phase = .MOVING ∨ s.position d ≠ e.direction.target

theorem presentMS_of_idle (h : MsIdle d b s) : presentMS d b s = clearAtRest d s := by
  obtain ⟨hphase, hor⟩ := h
  by_cases hset : s.position d = .CLOSED ∨ s.position d = .OPEN
  · exact presentMS_idle hphase hset b
  · rw [presentMS_other hphase hset, clearAtRest_of_moving hset]
    obtain hsome | hnone := hor
    · obtain ⟨e, he⟩ := Option.ne_none_iff_exists'.mp hsome
      rw [he]
    · rw [hnone]
      cases s.entry d <;> rfl

theorem presentCS_of_idle (h : CsIdle d s) : presentCS d s = s := by
  unfold presentCS
  split
  · next e he =>
    refine if_neg fun hc => ?_
    exact (h e he).elim hc.1 fun hne => hne hc.2
  · rfl

theorem MsIdle.of_stands (h : MsIdle d b s) (hs : Stands s t) : MsIdle d b t := by
  unfold MsIdle phaseOf State.entry State.position at h ⊢
  rw [hs.cs, hs.rc]
  exact h

theorem CsIdle.of_stands (h : CsIdle d s) (hs : Stands s t) : CsIdle d t := by
  unfold CsIdle State.entry State.position at h ⊢
  rw [hs.cs, hs.rc]
  exact h

/-- At a door without a passage, whose handle is the one before, an action acts on no entry, where MS and CS are idle and no run hears. -/
theorem near_act (a : PresentAct) (hpassage : s.passage d = none) (hhandle : s.handle d = b.handle) (hgru : a = .GRU → Deaf l s)
    (hms : a = .MS → r = true ∧ MsIdle d b s) (hcs : a = .CS → CsIdle d s) : Near r (actCost a) d s (takePresentation d b a s) := by
  have stays {u : State} (hu : u = s) : Near r 0 d s u := by rw [hu]; exact .refl r d s
  cases a with
  | MS =>
    obtain ⟨rfl, hidle⟩ := hms rfl
    show Near true 4 d s (presentMS d b s)
    rw [presentMS_of_idle hidle]
    exact near_clearAtRest d s
  | CS => exact stays (presentCS_of_idle (hcs rfl))
  | MC_PASSAGE => exact near_presentPassage hpassage
  | MC_HANDLE => exact stays (if_pos (.inl hhandle))
  | GRU => exact stays (forWaiting_of_deaf (hgru rfl) d _)
  | IB => exact near_presentIB ..

theorem Stands.passage (h : Stands s t) (x : DoorIx) : t.passage x = s.passage x := passage_of_mc_passages (by rw [h.mc]) x
theorem Stands.handle (h : Stands s t) (x : DoorIx) : t.handle x = s.handle x := by unfold State.handle; rw [h.rc]

/-- The actions of a list, where those of MS, of CS and of GRU among them act on no entry. -/
theorem near_acts_among (acts : List PresentAct) (hpassage : s.passage d = none) (hhandle : s.handle d = b.handle)
    (hgru : .GRU ∈ acts → Deaf l s) (hms : .MS ∈ acts → r = true ∧ MsIdle d b s) (hcs : .CS ∈ acts → CsIdle d s) :
    Near r (acts.map actCost).sum d s (forEach acts (takePresentation d b) s) := by
  induction acts generalizing s with
  | nil => exact .refl r d s
  | cons a rest ih =>
    have among {P : Prop} {k : PresentAct} (h : k ∈ a :: rest → P) (ha : a = k) : P := h (ha ▸ List.mem_cons_self)
    have hstep := near_act a hpassage hhandle (among hgru) (among hms) (among hcs)
    have hstands := hstep.stands
    have hrest := ih ((hstands.passage d).trans hpassage) ((hstands.handle d).trans hhandle)
      (fun hmem => (hgru (List.mem_cons_of_mem a hmem)).of_gru hstands.gru)
      (fun hmem => (hms (List.mem_cons_of_mem a hmem)).imp_right fun h => h.of_stands hstands)
      (fun hmem => (hcs (List.mem_cons_of_mem a hmem)).of_stands hstands)
    rw [List.map_cons, List.sum_cons]
    exact hstep.trans hrest

theorem near_acts (acts : List PresentAct) (h : Inert l d b s) (hms : .MS ∈ acts → r = true ∧ MsIdle d b s) (hcs : .CS ∈ acts → CsIdle d s) :
    Near r (acts.map actCost).sum d s (forEach acts (takePresentation d b) s) :=
  near_acts_among acts h.passage h.handle (fun _ => h.deaf) hms hcs

/-! ### An order, cut at one action -/

/-- An order of the six actions holds a given one once. -/
theorem order_split {order : List PresentAct} (horder : order.Perm presentActs) (a : PresentAct) :
    ∃ before after, order = before ++ a :: after ∧ a ∉ before ∧ a ∉ after
      ∧ (before.map actCost).sum + (after.map actCost).sum + actCost a = 7 ∧ (∀ x, x ≠ a → x ∈ before ∨ x ∈ after) := by
  have hmem : ∀ x, x ∈ order := fun x => horder.mem_iff.mpr (by cases x <;> decide)
  have hnodup : order.Nodup := horder.nodup_iff.mpr (by decide)
  obtain ⟨before, after, rfl⟩ := List.append_of_mem (hmem a)
  obtain ⟨-, hafter, hdisjoint⟩ := List.nodup_append.mp hnodup
  have hsum := (horder.map actCost).sum_eq
  refine ⟨before, after, rfl, fun h => hdisjoint a h a List.mem_cons_self rfl, (List.nodup_cons.mp hafter).1, ?_, fun x hx => ?_⟩
  · rw [List.map_append, List.sum_append, List.map_cons, List.sum_cons] at hsum
    have htotal : (presentActs.map actCost).sum = 7 := by decide
    omega
  · have := hmem x
    rw [List.mem_append, List.mem_cons] at this
    exact this.imp_right fun h => h.resolve_left hx

theorem forEach_append {ι : Type} (f : ι → State → State) (before after : List ι) (a : ι) (s : State) :
    forEach (before ++ a :: after) f s = forEach after f (f a (forEach before f s)) := by
  unfold forEach
  rw [List.foldl_append, List.foldl_cons]

end

end Sys2Proof.Proofs
end

section
/-! ## The state that a frame of a door presents (R5, R8, R131, R132) -/
namespace Sys2Proof.Proofs
open Sys2Proof Sys2Proof.Machine

set_option Elab.async false

/-- The state to which a frame of the door is presented: the door's reported fields taken, the alarms of the ring moved, the rest of
the blocks as they stood. -/
structure Ready (d : DoorIx) (x : Reported) (s v : State) : Prop where
  cs : v.cs = s.cs
  gru : v.gru = s.gru
  ms : v.ms = s.ms
  tables : v.tables = s.tables
  cfs : v.cfs = s.cfs
  passages : v.mc.passages = s.mc.passages
  mode : v.mc.mode = s.mc.mode
  reported : v.rc.reported[d] = x
  others : ∀ y : DoorIx, y ≠ d → v.rc.reported[y] = s.rc.reported[y]
  orders : v.rc.orders = s.rc.orders
  alarms : OnlyAlarms s v [(.DOOR_SILENT, d.val), (.DOOR_SENSOR, d.val)]
  law : AlarmLaw s → AlarmLaw v
  count : otherCount v.al.records ≤ otherCount s.al.records + 1
  calm : x.position ≠ .UNKNOWN → otherCount v.al.records ≤ otherCount s.al.records
  grown : Grown 4 s v
  lasting : Lasting s v
  appended : Appended 4 s v
  pacing : OnlyPacing s v

section
variable {s t u v : State} {d y : DoorIx} {x : Reported} {m : Mc} {rp : RingPort} {src seq : Byte}

theorem passages_mcShown (d : DoorIx) (p : Position) (s : State) : (mcShown d p s).passages = s.mc.passages := by
  unfold mcShown
  split <;> rfl

/-- A frame heeded from a state in which RC's other fields alone had moved. -/
theorem ready_of_heeded (hu : ∃ f e w b, u = { s with rc := { s.rc with filter := f, east := e, west := w, pollEnded := b } })
    (h : Heeded d x m u v) (hgrown : Grown 4 u v) (hpassages : m.passages = s.mc.passages) (hmode : m.mode = s.mc.mode) (n : Nat) :
    Ready d x s { v with freeCount := n } := by
  obtain ⟨f, e, w, b, rfl⟩ := hu
  have hrc := h.frame.rc
  exact {
    cs := h.frame.cs
    gru := h.frame.gru
    ms := h.ms
    tables := h.frame.tables
    cfs := h.frame.cfs
    passages := (congrArg Mc.passages h.frame.mc).trans hpassages
    mode := (congrArg Mc.mode h.frame.mc).trans hmode
    reported := by
      show v.rc.reported[d] = x
      rw [hrc, reported_showing, if_pos rfl]
    others := fun y hy => by
      show v.rc.reported[y] = _
      rw [hrc, reported_showing, if_neg hy.symm]
    orders := by
      show v.rc.orders = _
      rw [hrc]
      rfl
    alarms := h.alarms
    law := h.law
    count := h.count
    calm := h.calm
    grown := ⟨hgrown.port⟩
    lasting := ⟨(Lasting.of_joined h.joined).stays⟩
    appended := ⟨h.appended.port⟩
    pacing := h.frame.pacing }

theorem grown_takeReport (d : DoorIx) (r : ReportBits) (s : State) : Grown 4 s (takeReport d r s) := by
  have hheard : Grown 2 s (heardFrom d s) := (Grown.clearAlarm ..).after rfl
  rw [takeReport_eq]
  have hshown : Grown 0 (heardFrom d s) (showing d (reportedBy r s.rc.reported[d]) (mcShown d (reportPosition r) s) (heardFrom d s)) :=
    .of_sp rfl
  have hfirst := hheard.trans hshown
  generalize showing d (reportedBy r s.rc.reported[d]) (mcShown d (reportPosition r) s) (heardFrom d s) = w at hfirst
  show Grown 4 s (if contradiction r then _ else _)
  exact .ite (Grown.mono (n := 4) (hfirst.trans (Grown.raiseAlarm ..)) (by omega)) (hfirst.trans (Grown.clearAlarm ..))

theorem grown_takeEvent (d : DoorIx) (h : HandleCode) (low fault : Bool) (s : State) : Grown 4 s (takeEvent d h low fault s) := by
  have hheard : Grown 2 s (heardFrom d s) := (Grown.clearAlarm ..).after rfl
  rw [takeEvent_eq]
  have hshown : Grown 0 (heardFrom d s) (showing d (eventReported h low fault s.rc.reported[d]) s.mc (heardFrom d s)) := .of_sp rfl
  have hfirst := hheard.trans hshown
  generalize showing d (eventReported h low fault s.rc.reported[d]) s.mc (heardFrom d s) = w at hfirst
  exact .ite (Grown.mono (n := 4) (hfirst.trans (Grown.raiseAlarm ..)) (by omega)) (Grown.mono hfirst (by omega))

theorem present_serves (h : s.inService = true) (b : Before) : ∃ order : List PresentAct, order.Perm presentActs
    ∧ present d b s = settleRuns (forEach order (takePresentation d b) { s with freeCount := s.freeCount + 1 }) := by
  refine ⟨actOrder (Config.presentationPlace s.freeCount), actOrder_perm _, ?_⟩
  unfold present presentIn
  rw [if_pos h]

/-- A REPORT of the polled door is taken in service: it presents a state that is ready, in some order of the actions. -/
theorem report_ready (h : ReportTaken s src seq r d) : ∃ v order, Ready d (reportedBy r s.rc.reported[d]) s v
    ∧ order.Perm presentActs
    ∧ exec (.report rp src seq r) s = .next (settleRuns (forEach order (takePresentation d (before s d)) v)) := by
  obtain ⟨hs, hin, -, hpolled, hd, hseq, -, -, -⟩ := h
  obtain ⟨f, e, w, hheard⟩ := heardAt_eq rp src seq s
  have hexec := exec_report_taken (rp := rp) (seq := seq) hs hd hpolled hseq r
  have hu : endPoll (heardAt rp src seq s) = { s with rc := { s.rc with filter := f, east := e, west := w, pollEnded := true } } := by
    rw [hheard]; rfl
  rw [hu] at hexec
  generalize hv : ({ s with rc := { s.rc with filter := f, east := e, west := w, pollEnded := true } } : State) = u at hexec
  have hheeded := (heeded_takeReport d r u).1
  have hreported : u.rc.reported[d] = s.rc.reported[d] := by rw [← hv]
  rw [hreported] at hheeded
  have hserves : (takeReport d r u).inService = true := by
    rw [inService_congr (t := takeReport d r u) (s := s) (hheeded.frame.cfs.trans (by rw [← hv]; rfl))]
    exact hin
  obtain ⟨order, horder, hpresent⟩ := present_serves (d := d) hserves (before s d)
  rw [hpresent] at hexec
  refine ⟨_, order, ready_of_heeded ⟨f, e, w, true, hv.symm⟩ hheeded (grown_takeReport d r u) ?_ ?_ _, horder, hexec⟩
  · rw [passages_mcShown, ← hv]
  · rw [mode_mcShown, ← hv]

/-- An EVENT of a present door in service presents a state that is ready, in some order of the actions. -/
theorem event_ready (hs : Awake s) (hin : s.inService = true) (hd : NamesDoor s src d) (hseq : s.filterAt src.toNat ≠ some seq)
    (h : HandleCode) (low fault : Bool) : ∃ v order, Ready d (eventReported h low fault s.rc.reported[d]) s v
    ∧ v.mc = s.mc ∧ order.Perm presentActs
    ∧ exec (.event rp src seq h low fault) s = .next (settleRuns (forEach order (takePresentation d (before s d)) v)) := by
  obtain ⟨f, e, w, hheard⟩ := heardAt_eq rp src seq s
  have hexec := exec_event_taken (rp := rp) (seq := seq) hs hd hseq h low fault
  have hu : heardAt rp src seq s = { s with rc := { s.rc with filter := f, east := e, west := w, pollEnded := s.rc.pollEnded } } := hheard
  rw [hu] at hexec
  generalize hv : ({ s with rc := { s.rc with filter := f, east := e, west := w, pollEnded := s.rc.pollEnded } } : State) = u at hexec
  have hheeded := (heeded_takeEvent d h low fault u).1
  have hreported : u.rc.reported[d] = s.rc.reported[d] := by rw [← hv]
  have hmc : u.mc = s.mc := by rw [← hv]
  rw [hreported, hmc] at hheeded
  have hserves : (takeEvent d h low fault u).inService = true := by
    rw [inService_congr (t := takeEvent d h low fault u) (s := s) (hheeded.frame.cfs.trans (by rw [← hv]; rfl))]
    exact hin
  obtain ⟨order, horder, hpresent⟩ := present_serves (d := d) hserves (before s d)
  rw [hpresent] at hexec
  exact ⟨_, order, ready_of_heeded ⟨f, e, w, _, hv.symm⟩ hheeded (grown_takeEvent d h low fault u) rfl rfl
    ((takeEvent d h low fault u).freeCount + 1), hheeded.frame.mc, horder, hexec⟩

/-! ### What the state that is ready gives -/

theorem Ready.entry (h : Ready d x s v) (y : DoorIx) : v.entry y = s.entry y := entry_congr (by rw [h.cs]) y
theorem Ready.claimOf (h : Ready d x s v) (y : DoorIx) : claimOf v y = claimOf s y := by unfold Machine.claimOf; rw [h.entry]
theorem Ready.passage (h : Ready d x s v) (y : DoorIx) : v.passage y = s.passage y := passage_of_mc_passages h.passages y
theorem Ready.position (h : Ready d x s v) : v.position d = x.position := congrArg Reported.position h.reported
theorem Ready.handle (h : Ready d x s v) : v.handle d = x.handle := congrArg Reported.handle h.reported
theorem Ready.latch (h : Ready d x s v) (y : DoorIx) : v.latch y = s.latch y := by unfold State.latch; rw [h.ms]

theorem Ready.deaf (h : Ready d x s v) (hdeaf : NoRunHears s) (hsettled : SettledLaw s) : Deaf [] v :=
  (settled_deaf hdeaf hsettled).of_gru h.gru

/-- A REPORT whose handle is the one before, at a door without a passage, while no run hears: the other actions act on no entry. -/
theorem Ready.inert {r : ReportBits} (h : Ready d (reportedBy r s.rc.reported[d]) s v) (hr : ReportTaken s src seq r d) (hdeaf : NoRunHears s) :
    Inert [] d (before s d) v := by
  obtain ⟨-, -, -, -, -, -, hsettled, hhandle, hpassage⟩ := hr
  exact ⟨(h.passage d).trans hpassage, h.handle.trans hhandle, h.deaf hdeaf hsettled⟩

theorem Ready.restedLatch (h : Ready d x s v) (p : Position) : restedLatch v d p = restedLatch s d p := by
  unfold Machine.restedLatch
  rw [h.latch]
  refine if_congr (and_congr_right fun _ => ?_) rfl rfl
  constructor
  · rintro ⟨q, hq, hpair, hstate⟩
    exact ⟨q, h.alarms.2 q hq (by rw [hpair]; simp) (by rw [show q.kind = .DOOR_FAULT from congrArg Prod.fst hpair]; decide), hpair, hstate⟩
  · rintro ⟨q, hq, hpair, hstate⟩
    exact ⟨q, h.alarms.1 q hq (by rw [hpair]; simp) (by rw [show q.kind = .DOOR_FAULT from congrArg Prod.fst hpair]; decide), hpair, hstate⟩

end

end Sys2Proof.Proofs
end

section
/-! ## After the action that acts on the entry (entry 1) -/
namespace Sys2Proof.Proofs
open Sys2Proof Sys2Proof.Machine

set_option Elab.async false

section
variable {s t u v : State} {r : Bool} {m n : Nat} {d x : DoorIx} {b : Before} {l : List SlotIx} {e f : Entry} {c : RemovalCause}
  {k : Latch}

theorem handle_of_orders (h : OnlyOrders s t) : t.handle x = s.handle x := by
  unfold State.handle
  rw [(rc_of_orders h).2.1]

theorem position_of_orders (h : OnlyOrders s t) : t.position x = s.position x := by
  unfold State.position
  rw [(rc_of_orders h).2.1]

theorem Inert.rested (h : Inert l d b s) : Inert l d b (clearAtRest d s) := h.of_stands (near_clearAtRest d s).stands

theorem inert_of_eq (h : Inert l d b s) (hmc : t.mc = s.mc) (hrc : t.rc = s.rc) (hgru : t.gru = s.gru) : Inert l d b t where
  passage := (passage_of_mc_passages (by rw [hmc]) d).trans h.passage
  handle := by
    have := h.handle
    unfold State.handle at this ⊢
    rw [hrc, this]
  deaf := h.deaf.of_gru hgru

/-- A removal at a door without a passage while no run hears leaves the door so. -/
theorem Inert.removeEntry (h : Inert l d b s) (he : s.entry d = some e) (hc : c ≠ .FLUSH) : Inert l d b (removeEntry c d s) where
  passage := by
    have hr := removed he c
    cases hdir : e.direction with
    | OPEN => rw [hr.opened hdir, h.passage]
    | CLOSE => rw [hr.closed hdir, h.passage]; rfl
  handle := (handle_of_orders (removed he c).orders).trans h.handle
  deaf := (h.deaf.removeEntry hc d).1

theorem Inert.faultTold (h : Inert l d b s) (he : s.entry d = some e) (k : Latch) : Inert l d b (faultTold k d s) where
  passage := by
    have hr := faultEnds he k
    cases hdir : e.direction with
    | OPEN => rw [hr.opened hdir, h.passage]
    | CLOSE => rw [hr.closed hdir, h.passage]; rfl
  handle := (handle_of_orders (faultEnds he k).orders).trans h.handle
  deaf := by
    rw [← faultDoor_of_deaf h.deaf]
    exact (h.deaf.faultDoor k d).1

theorem Inert.leftStanding (h : Inert l d b s) (e : Entry) : Inert l d b (leftStanding d b e s) := by
  unfold Proofs.leftStanding
  split
  · exact inert_of_eq h rfl rfl rfl
  · exact h

theorem Inert.arriving (h : Inert l d b s) (e : Entry) : Inert l d b (arriving d b e s) := by
  unfold Proofs.arriving
  split
  · exact inert_of_eq h.rested rfl rfl rfl
  · exact h.rested

theorem csIdle_of_none (h : s.entry d = none) : CsIdle d s := fun e he => by rw [h] at he; cases he

/-- After MS judged the door's MOVING entry the other actions still act on no entry. -/
theorem inert_presentMS (h : Inert l d b s) (he : s.entry d = some e) (hm : e.phase = .MOVING) :
    Inert l d b (presentMS d b s) ∧ CsIdle d (presentMS d b s) := by
  have hrest := aboutToEnd_rested he hm
  by_cases harrived : s.position d = e.direction.target
  · rw [presentMS_arrived he hm harrived]
    have hb := aboutToEnd_arriving he hm b
    exact ⟨(h.arriving e).removeEntry hb.entry (by simp), csIdle_of_none (removed hb.entry .ARRIVAL).gone⟩
  by_cases hstalls : stalls e (s.position d)
  · rw [presentMS_stalled h.deaf he hm hstalls]
    exact ⟨h.rested.faultTold hrest.entry _, csIdle_of_none (faultEnds hrest.entry _).gone⟩
  by_cases hwrong : wrongWay e b.position (s.position d)
  · rw [presentMS_wrongWay h.deaf he hm hwrong]
    exact ⟨h.rested.faultTold hrest.entry _, csIdle_of_none (faultEnds hrest.entry _).gone⟩
  obtain ⟨f, hb⟩ := aboutToEnd_left he hm b
  rw [presentMS_left he hm harrived hstalls hwrong]
  split
  · exact ⟨(h.rested.leftStanding e).removeEntry hb.entry (by simp), csIdle_of_none (removed hb.entry .RELEASE).gone⟩
  · refine ⟨h.rested.leftStanding e, fun g hg => .inl ?_⟩
    rw [hb.entry] at hg
    cases hg
    exact hb.phase

/-! ### The latch (R12, R76) -/

/-- The door's latch and its DOOR_FAULT record stand, and so do the reported fields. -/
structure FaultStands (d : DoorIx) (s t : State) : Prop where
  ms : t.ms = s.ms
  records : ∀ q : AlarmRecord, q.pair = (.DOOR_FAULT, d.val) → (q ∈ t.al.records ↔ q ∈ s.al.records)
  law : AlarmLaw s → AlarmLaw t
  reported : t.rc.reported = s.rc.reported

theorem FaultStands.trans (h : FaultStands d s t) (g : FaultStands d t u) : FaultStands d s u :=
  ⟨g.ms.trans h.ms, fun q hq => (g.records q hq).trans (h.records q hq), fun hlaw => g.law (h.law hlaw), g.reported.trans h.reported⟩

theorem records_of_onlyAlarms {kinds : List (AlarmKind × Nat)} (h : OnlyAlarms s t kinds) (hk : (.DOOR_FAULT, d.val) ∉ kinds)
    (q : AlarmRecord) (hq : q.pair = (.DOOR_FAULT, d.val)) : q ∈ t.al.records ↔ q ∈ s.al.records := by
  have hkind : q.kind ≠ .LIST_FULL := by rw [show q.kind = .DOOR_FAULT from congrArg Prod.fst hq]; decide
  exact ⟨fun hm => h.2 q hm (by rw [hq]; exact hk) hkind, fun hm => h.1 q hm (by rw [hq]; exact hk) hkind⟩

theorem Near.faultStands (h : Near false n d s t) : FaultStands d s t :=
  ⟨h.ms rfl, records_of_onlyAlarms (h.opens rfl) (by simp), h.law, by rw [h.stands.rc]⟩

theorem faultStands_removed (he : s.entry d = some e) (c : RemovalCause) : FaultStands d s (removeEntry c d s) := by
  have hr := removed he c
  exact ⟨hr.ms, records_of_onlyAlarms hr.alarms (by simp), alarmLaw_steps (.removeEntry c d s), (rc_of_orders hr.orders).2.1⟩

theorem restedLatch_congr (h : FaultStands d s t) (p : Position) : restedLatch t d p = restedLatch s d p := by
  unfold restedLatch State.latch
  rw [h.ms]
  refine if_congr (and_congr_right fun _ => ?_) rfl rfl
  exact exists_congr fun q => ⟨fun ⟨hm, hp, hs⟩ => ⟨(h.records q hp).mp hm, hp, hs⟩, fun ⟨hm, hp, hs⟩ => ⟨(h.records q hp).mpr hm, hp, hs⟩⟩

/-- MS takes the presentation by the clears of rest, and CS by nothing or by the removal of the door's entry. -/
structure AtRestHere (l : List SlotIx) (d : DoorIx) (b : Before) (s : State) : Prop where
  inert : Inert l d b s
  idle : MsIdle d b s
  removes : CsIdle d s ∨ foundDirection b.position (s.position d) = none

theorem AtRestHere.of_stands (h : AtRestHere l d b s) (hs : Stands s t) : AtRestHere l d b t where
  inert := h.inert.of_stands hs
  idle := h.idle.of_stands hs
  removes := h.removes.imp (·.of_stands hs) fun hn => by
    unfold State.position at hn ⊢
    rw [hs.rc]
    exact hn

/-- An action other than MS keeps this, and the latch with its record. -/
theorem AtRestHere.act (h : AtRestHere l d b s) (a : PresentAct) (ha : a ≠ .MS) :
    AtRestHere l d b (takePresentation d b a s) ∧ FaultStands d s (takePresentation d b a s) := by
  by_cases hcs : a = .CS ∧ ¬CsIdle d s
  · obtain ⟨rfl, hnot⟩ := hcs
    have hfound := h.removes.resolve_left hnot
    obtain ⟨e, he, hph, hpos⟩ : ∃ e, s.entry d = some e ∧ e.phase ≠ .MOVING ∧ s.position d = e.direction.target := by
      unfold CsIdle at hnot
      push Not at hnot
      exact hnot
    have hstep : takePresentation d b .CS s = removeEntry .WITHOUT_MOVEMENT d s := by
      show presentCS d s = _
      unfold presentCS
      rw [he]
      exact if_pos ⟨hph, hpos⟩
    rw [hstep]
    have hr := removed he .WITHOUT_MOVEMENT
    have hposition : (removeEntry .WITHOUT_MOVEMENT d s).position d = s.position d := position_of_orders hr.orders
    refine ⟨⟨h.inert.removeEntry he (by simp), ⟨?_, .inr (by rw [hposition]; exact hfound)⟩, .inl (csIdle_of_none hr.gone)⟩,
      faultStands_removed he _⟩
    unfold phaseOf
    rw [hr.gone]
    simp
  · have hstep := near_act (r := false) a h.inert.passage h.inert.handle (fun _ => h.inert.deaf) (fun hms => absurd hms ha) (fun hc => by
      by_contra hn
      exact hcs ⟨hc, hn⟩)
    exact ⟨h.of_stands hstep.stands, hstep.faultStands⟩

theorem AtRestHere.acts (acts : List PresentAct) (h : AtRestHere l d b s) (hms : .MS ∉ acts) :
    AtRestHere l d b (forEach acts (takePresentation d b) s) ∧ FaultStands d s (forEach acts (takePresentation d b) s) := by
  induction acts generalizing s with
  | nil => exact ⟨h, rfl, fun _ _ => Iff.rfl, id, rfl⟩
  | cons a rest ih =>
    obtain ⟨hstep, hfault⟩ := h.act a (fun ha => hms (ha ▸ List.mem_cons_self))
    obtain ⟨hrest, hlast⟩ := ih hstep (fun hm => hms (List.mem_cons_of_mem a hm))
    exact ⟨hrest, hfault.trans hlast⟩

/-- R12, R76: the latch after a presentation that judges no movement, in whatever order. -/
theorem AtRestHere.latch {order : List PresentAct} (h : AtRestHere l d b s) (horder : order.Perm presentActs) (hlaw : AlarmLaw s) :
    (forEach order (takePresentation d b) s).latch d = restedLatch s d (s.position d) := by
  obtain ⟨before, after, rfl, hbefore, hafter, -, -⟩ := order_split horder .MS
  rw [forEach_append]
  obtain ⟨hu, hfirst⟩ := h.acts before hbefore
  generalize forEach before (takePresentation d b) s = u at hu hfirst ⊢
  have hms : takePresentation d b .MS u = clearAtRest d u := presentMS_of_idle hu.idle
  rw [hms]
  have hrested := rested d u
  have hw : AtRestHere l d b (clearAtRest d u) := hu.of_stands (near_clearAtRest d u).stands
  obtain ⟨-, hlast⟩ := hw.acts after hafter
  have hposition : u.position d = s.position d := by unfold State.position; rw [hfirst.reported]
  have hlatch : (forEach after (takePresentation d b) (clearAtRest d u)).latch d = (clearAtRest d u).latch d := by
    unfold State.latch; rw [hlast.ms]
  rw [hlatch, hrested.latch (hfirst.law hlaw), hposition]
  exact restedLatch_congr hfirst _

/-- The actions other than MS and CS, with the clears of rest: the frame of the whole. -/
theorem AtRestHere.near {order : List PresentAct} (h : AtRestHere l d b s) (horder : order.Perm presentActs) (hcs : CsIdle d s) :
    Near true 7 d s (forEach order (takePresentation d b) s) := by
  have hsum : (order.map actCost).sum = 7 := (horder.map actCost).sum_eq.trans (by decide)
  rw [← hsum]
  exact near_acts order h.inert (fun _ => ⟨rfl, h.idle⟩) fun _ => hcs

end

end Sys2Proof.Proofs
end

section
/-! ## Movements judged, and O52 -/
namespace Sys2Proof.Proofs
open Sys2Proof Sys2Proof.Machine

set_option Elab.async false

section
variable {s t u v w : State} {r : ReportBits} {d x : DoorIx} {b : Before} {l : List SlotIx} {e f : Entry} {order : List PresentAct}
  {src seq : Byte} {rp : RingPort} {fate : TagFate} {n m : Nat}

/-! ### What stands beside, read on the schedule -/

theorem Stands.entry (h : Stands s t) (x : DoorIx) : t.entry x = s.entry x := entry_congr (by rw [h.cs]) x
theorem Stands.claimOf (h : Stands s t) (x : DoorIx) : claimOf t x = claimOf s x := by unfold Machine.claimOf; rw [h.entry]
theorem Stands.position (h : Stands s t) (x : DoorIx) : t.position x = s.position x := by unfold State.position; rw [h.rc]
theorem Stands.sched (h : Stands s t) : schedWithout t d = schedWithout s d := schedWithout_congr h.cs h.tables

/-- The state ready, and what stands beside it: the earlier state that a report of a tag is told from. -/
theorem prior_ready {x : Reported} (h : Ready d x s v) (hn : Near b' n d v u) (hle : n ≤ 7) : Prior 18 s u :=
  ⟨hn.stands.gru.trans h.gru, hn.stands.tables.trans h.tables, (h.grown.trans hn.grown).mono (by omega)⟩

/-- A REPORT at a door with a MOVING entry: MS judges it on a state that is ready but for clears and summaries, and nothing but
clears and summaries follows. -/
theorem moving_report (hI : Inert [] d b v) (he : v.entry d = some e) (hm : e.phase = .MOVING) (horder : order.Perm presentActs) :
    ∃ u n m, Near false n d v u ∧ n ≤ 7 ∧ MovingJudged d b e u (presentMS d b u) ∧ RunFrame u (presentMS d b u)
      ∧ Near false m d (presentMS d b u) (settleRuns (forEach order (takePresentation d b) v)) := by
  obtain ⟨before, after, rfl, hbefore, hafter, hsum, -⟩ := order_split horder .MS
  rw [forEach_append]
  have hfirst := near_acts (r := false) before hI (fun h => absurd h hbefore) fun _ f hf => by
    rw [he] at hf; cases hf; exact .inl hm
  generalize hu : forEach before (takePresentation d b) v = u at hfirst ⊢
  have hIu := hI.of_stands hfirst.stands
  have heu : u.entry d = some e := (hfirst.stands.entry d).trans he
  obtain ⟨hIw, hcs⟩ := inert_presentMS hIu heu hm
  have hlast := near_acts (r := false) after hIw (fun h => absurd h hafter) fun _ => hcs
  show ∃ u n m, _ ∧ _ ∧ _ ∧ _ ∧ Near false m d (presentMS d b u) (settleRuns (forEach after (takePresentation d b) (presentMS d b _)))
  have hdeaf := (hIw.of_stands hlast.stands).deaf
  rw [settleRuns_of_deaf hdeaf]
  exact ⟨u, _, _, hfirst, by omega, movingJudged hIu.deaf heu hm b, .presentMS d b u, hlast⟩

/-- What a REPORT at a door with a MOVING entry leaves. -/
structure MovingReported (d : DoorIx) (e : Entry) (now : Position) (s t : State) : Prop where
  faulted : stalls e now ∨ wrongWay e (s.position d) now → Told s t (faultedBy e.tag) ∧ Passed s t (s.hpuOf d) (schedWithout s d)
  arrived : now = e.direction.target → t.entry d = none ∧ Told s t (completedBy e.tag) ∧ Passed s t (s.hpuOf d) (schedWithout s d)
    ∧ t.ms.doors[d] = { arrivedSup d (before s d) e now s with latch := t.latch d }
  starts : now = e.direction.moving → e.started = false → t.entry d = some { e with started := true, startWindow := 0 } ∧ t.ms = s.ms
  stalled : stalls e now → t.entry d = none ∧ t.latch d = .STALLED
  wrong : wrongWay e (s.position d) now → t.entry d = none ∧ t.latch d = .WRONG_WAY ∧ Pending t d .STOP
  latch : AlarmLaw s → ¬stalls e now → ¬wrongWay e (s.position d) now → t.latch d = restedLatch s d now
  position : t.position d = now
  others : ∀ x : DoorIx, x ≠ d → claimOf t x = claimOf s x ∧ t.ms.doors[x] = s.ms.doors[x]

theorem vanished_after (hv : Ready d y s v) (hn : Near false n d v u) (hle : n ≤ 7) (h : Vanished d e fate u w) (hm : Near false m d w t) :
    Told s t (fated e.tag fate) ∧ Passed s t (s.hpuOf d) (schedWithout s d) := by
  refine ⟨Told.mono (h.told s (prior_ready hv hn hle)) hm.stands.gru hm.lasting, ?_⟩
  have hp := h.passed
  have htables : u.tables = s.tables := hn.stands.tables.trans hv.tables
  rw [hpuOf_congr htables, hn.stands.sched, schedWithout_congr hv.cs hv.tables] at hp
  exact Eq.trans hm.stands.cs (passed_congr hp htables)

theorem movingReported (hr : ReportTaken s src seq r d) (hdeaf : NoRunHears s) (he : s.entry d = some e) (hm : e.phase = .MOVING)
    (hv : Ready d (reportedBy r s.rc.reported[d]) s v) (horder : order.Perm presentActs) :
    MovingReported d e (reportPosition r) s (settleRuns (forEach order (takePresentation d (before s d)) v)) := by
  obtain ⟨u, n, m, hn, hle, hj, hf, hl⟩ := moving_report (hv.inert hr hdeaf) ((hv.entry d).trans he) hm horder
  generalize settleRuns (forEach order (takePresentation d (before s d)) v) = t at hl
  generalize hw : presentMS d (before s d) u = w at hj hf hl
  have hposition : u.position d = reportPosition r := (hn.stands.position d).trans hv.position
  have hms : u.ms = s.ms := (hn.ms rfl).trans hv.ms
  have htms : t.ms = w.ms := hl.ms rfl
  have hnot : ¬letGo d (before s d) e u := fun h => h.2.2 (by
    have hhandle : u.handle d = (before s d).handle := ((hv.inert hr hdeaf).of_stands hn.stands).handle
    rw [← hhandle]
    exact h.2.1)
  have hsup (now : Position) : arrivedSup d (before s d) e now u = arrivedSup d (before s d) e now s := by
    unfold arrivedSup
    rw [hms]
  have hlatch : t.latch d = w.latch d := by unfold State.latch; rw [htms]
  obtain ⟨jarrived, jlatch, jleft, -, jstalled, jwrong, jcompleted, jfaulted, -, -, jothers⟩ := hj
  rw [hposition] at jarrived jlatch jleft jstalled jwrong jcompleted jfaulted
  exact {
    faulted := fun h => vanished_after hv hn hle (jfaulted h) hl
    arrived := fun h => by
      obtain ⟨hgone, hdoors, -⟩ := jarrived h
      obtain ⟨htold, hpassed⟩ := vanished_after hv hn hle (jcompleted (.inl h)) hl
      refine ⟨(hl.stands.entry d).trans hgone, htold, hpassed, ?_⟩
      rw [htms, hlatch, hdoors, hsup]
    starts := fun h hstarted => by
      have hstands := jleft hnot (.inl h)
      have hrest : clearAtRest d u = u := clearAtRest_of_moving (by rw [hposition, h]; cases e.direction <;> decide)
      rw [hrest] at hstands
      have hstart : leftStanding d (before s d) e u = startEntry d e u := if_pos (judge_starts.mpr ⟨hposition.trans h, hstarted⟩)
      rw [hstart] at hstands
      refine ⟨(hl.stands.entry d).trans ?_, ?_⟩
      · rw [hstands]
        exact (entry_setEntry ..).trans (if_pos rfl)
      · rw [htms, hstands]
        exact hms
    stalled := fun h => ⟨(hl.stands.entry d).trans (jstalled h).1, hlatch.trans (jstalled h).2.1⟩
    wrong := fun h => by
      obtain ⟨hgone, hwlatch, hpending, -⟩ := jwrong h
      refine ⟨(hl.stands.entry d).trans hgone, hlatch.trans hwlatch, ?_⟩
      show _ ∈ t.rc.orders
      rw [hl.stands.rc]
      exact hpending
    latch := fun hlaw hstalls hwrong => by
      rw [hlatch, jlatch (hn.law (hv.law hlaw)) hstalls hwrong, restedLatch_congr hn.faultStands, hv.restedLatch]
    position := ((hl.stands.position d).trans (position_of_orders hf.orders)).trans hposition
    others := fun x hx => by
      obtain ⟨hclaim, hdoors⟩ := jothers x hx
      refine ⟨((hl.stands.claimOf x).trans hclaim).trans ((hn.stands.claimOf x).trans (hv.claimOf x)), ?_⟩
      rw [htms, hdoors, hms] }

end

end Sys2Proof.Proofs
end

section
/-! ## Entries completed without movement (R46), and O52 -/
namespace Sys2Proof.Proofs
open Sys2Proof Sys2Proof.Machine

set_option Elab.async false

section
variable {s t u v w : State} {r : ReportBits} {d x : DoorIx} {b : Before} {l : List SlotIx} {e f : Entry} {order : List PresentAct}
  {src seq : Byte} {rp : RingPort} {fate : TagFate} {n m : Nat} {c : RemovalCause}

theorem passedAndTested_congr {h : HpuIx} {k : Cs} (hp : PassedAndTested u w h k) (htables : u.tables = s.tables) (hcs : t.cs = w.cs)
    (ht : t.tables = w.tables) : PassedAndTested s t h k := by
  have hdelay : admissionDelayed t h = admissionDelayed w h := admissionDelayed_congr (by rw [hcs]) ht h
  have hpass := pass_cs_congr (t := { u with cs := k }) (s := { s with cs := k }) rfl htables h
  unfold PassedAndTested at hp ⊢
  simp only at hp ⊢
  rw [hcs, hp, hpass, hdelay]

/-- R46, R47: the removal of an entry that queues no order queues none for its door. -/
theorem orders_removed (he : s.entry d = some e) (hc : c.order e.phase = none) {q : PendingOrder} (hq : q.door = d)
    (hmem : q ∈ (removeEntry c d s).rc.orders) : q ∈ s.rc.orders := by
  have hout := takenOut he c
  rw [removeEntry_eq he] at hmem
  have hv := readmitted_frame d e s (takeOut c d s)
  have hclear := AlarmFrame.clearDoor .TRAVEL_OVERTIME d (readmitted d e s (takeOut c d s))
  rw [hclear.rc] at hmem
  have hnone : (takeOut c d s).entry d = none := (entry_schedWithout d d hout.cs).trans (if_pos rfl)
  have hidle : entryIn (takeOut c d s) (s.hpuOf d) .READY q.door = false := by unfold entryIn; rw [hq, hnone]
  have := (hv.otherOrders q hidle).mp hmem
  rwa [hout.unordered hc] at this

theorem nextArrival_removed (he : s.entry d = some e) (c : RemovalCause) : (removeEntry c d s).cs.nextArrival = s.cs.nextArrival := by
  have hr := removed he c
  have hpass : (pass (s.hpuOf d) { s with cs := schedWithout s d }).cs.nextArrival = s.cs.nextArrival := (ScheduleFrame.pass ..).nextArrival
  cases hph : e.phase with
  | WARNING => rw [hr.warning hph]; rfl
  | READY => rw [hr.ready hph]; exact hpass
  | MOVING => exact (congrArg Cs.nextArrival (hr.moving hph)).trans hpass

/-- R46: what a presentation leaves of a WARNING or READY entry whose door stands at its target. -/
structure CompletedStill (d : DoorIx) (e : Entry) (s t : State) : Prop where
  gone : t.entry d = none
  warning : e.phase = .WARNING → Pending t d .STOP ∧ t.cs = schedWithout s d
  ready : e.phase = .READY → PassedAndTested s t (s.hpuOf d) (schedWithout s d)
  told : Told s t (completedBy e.tag)
  claims : ∀ x : DoorIx, x ≠ d → claimOf t x = claimOf s x

theorem presentCS_completes (he : s.entry d = some e) (hph : e.phase ≠ .MOVING) (hpos : s.position d = e.direction.target) :
    presentCS d s = removeEntry .WITHOUT_MOVEMENT d s := by
  unfold presentCS
  rw [he]
  exact if_pos ⟨hph, hpos⟩

theorem completedStill (he : s.entry d = some e) : CompletedStill d e s (removeEntry .WITHOUT_MOVEMENT d s) := by
  have hr := removed he .WITHOUT_MOVEMENT
  exact { gone := hr.gone, warning := fun h => ⟨hr.ordered .STOP (by simp [RemovalCause.order, h]), hr.warning h⟩, ready := hr.ready
          told := hr.told (by simp) .completed rfl s (.refl 22 s), claims := hr.claims }

/-! ### A REPORT at a door whose entry does not move -/

theorem settled_target (dir : Direction) : dir.target = .CLOSED ∨ dir.target = .OPEN := by cases dir <;> decide

theorem foundDirection_settled {prev now : Position} (h : now = .CLOSED ∨ now = .OPEN) : foundDirection prev now = none := by
  unfold foundDirection
  rcases h with h | h <;> rw [h] <;> split <;> rfl

/-- MS clears at most, and CS removes the entry only at its target. -/
theorem atRestHere (hI : Inert l d b v) (he : v.entry d = some e) (hph : e.phase ≠ .MOVING) : AtRestHere l d b v where
  inert := hI
  idle := by
    refine ⟨?_, .inl (by rw [he]; simp)⟩
    unfold phaseOf
    rw [he]
    exact fun h => hph (Option.some_inj.mp h)
  removes := by
    by_cases hpos : v.position d = e.direction.target
    · exact .inr (foundDirection_settled (by rw [hpos]; exact settled_target _))
    · exact .inl fun f hf => by
        rw [he] at hf; cases hf; exact .inr hpos

theorem idle_removed (he : u.entry d = some e) (hpos : u.position d = e.direction.target) :
    MsIdle d b (removeEntry .WITHOUT_MOVEMENT d u) := by
  have hr := removed he .WITHOUT_MOVEMENT
  refine ⟨by unfold phaseOf; rw [hr.gone]; simp, .inr ?_⟩
  rw [position_of_orders hr.orders, hpos]
  exact foundDirection_settled (settled_target _)

theorem deaf_after (h : AtRestHere [] d b v) (horder : order.Perm presentActs) :
    settleRuns (forEach order (takePresentation d b) v) = forEach order (takePresentation d b) v := by
  obtain ⟨before, after, rfl, hbefore, hafter, -, -⟩ := order_split horder .MS
  rw [forEach_append]
  obtain ⟨hu, -⟩ := h.acts before hbefore
  generalize forEach before (takePresentation d b) v = u at hu ⊢
  have hms : takePresentation d b .MS u = clearAtRest d u := presentMS_of_idle hu.idle
  rw [hms]
  obtain ⟨ht, -⟩ := (hu.of_stands (near_clearAtRest d u).stands).acts after hafter
  exact settleRuns_of_deaf ht.inert.deaf

/-- CS completes the entry in whatever order: clears and summaries stand before it and after it. -/
theorem still_split (h : AtRestHere [] d b v) (he : v.entry d = some e) (hph : e.phase ≠ .MOVING)
    (hpos : v.position d = e.direction.target) (horder : order.Perm presentActs) : ∃ u n m, Near true n d v u ∧ n + m ≤ 7
      ∧ u.entry d = some e ∧ Near true m d (removeEntry .WITHOUT_MOVEMENT d u) (forEach order (takePresentation d b) v) := by
  obtain ⟨before, after, rfl, hbefore, hafter, hsum, -⟩ := order_split horder .CS
  rw [forEach_append]
  have hfirst := near_acts (r := true) before h.inert (fun _ => ⟨rfl, h.idle⟩) (fun hm => absurd hm hbefore)
  generalize forEach before (takePresentation d b) v = u at hfirst ⊢
  have hu := h.of_stands hfirst.stands
  have heu : u.entry d = some e := (hfirst.stands.entry d).trans he
  have hposu : u.position d = e.direction.target := (hfirst.stands.position d).trans hpos
  have hcs : takePresentation d b .CS u = removeEntry .WITHOUT_MOVEMENT d u := presentCS_completes heu hph hposu
  rw [hcs]
  have hlast := near_acts (r := true) after (hu.inert.removeEntry heu (by simp)) (fun _ => ⟨rfl, idle_removed heu hposu⟩)
    (fun hm => absurd hm hafter)
  exact ⟨u, _, _, hfirst, by omega, heu, hlast⟩

/-- What a REPORT at a door whose entry does not move leaves. -/
structure StillReported (d : DoorIx) (e : Entry) (now : Position) (s t : State) : Prop where
  completed : now = e.direction.target → CompletedStill d e s t
  latch : AlarmLaw s → t.latch d = restedLatch s d now
  position : t.position d = now
  others : ∀ x : DoorIx, x ≠ d → claimOf t x = claimOf s x ∧ t.ms.doors[x] = s.ms.doors[x]

theorem stillReported (hr : ReportTaken s src seq r d) (hdeaf : NoRunHears s) (he : s.entry d = some e) (hph : e.phase ≠ .MOVING)
    (hv : Ready d (reportedBy r s.rc.reported[d]) s v) (horder : order.Perm presentActs) :
    StillReported d e (reportPosition r) s (settleRuns (forEach order (takePresentation d (before s d)) v)) := by
  have hev : v.entry d = some e := (hv.entry d).trans he
  have hposv : v.position d = reportPosition r := hv.position
  have hrest := atRestHere (hv.inert hr hdeaf) hev hph
  have hlatch := fun hlaw => hrest.latch horder (hv.law hlaw)
  rw [hposv] at hlatch
  rw [deaf_after hrest horder]
  by_cases hpos : reportPosition r = e.direction.target
  · obtain ⟨u, n, m, hn, hle, heu, hl⟩ := still_split hrest hev hph (hposv.trans hpos) horder
    generalize forEach order (takePresentation d (before s d)) v = t at hl hlatch ⊢
    have hrem := removed heu .WITHOUT_MOVEMENT
    generalize removeEntry .WITHOUT_MOVEMENT d u = w at hl hrem
    have htables : u.tables = s.tables := hn.stands.tables.trans hv.tables
    have hsched : schedWithout u d = schedWithout s d := hn.stands.sched.trans (schedWithout_congr hv.cs hv.tables)
    have hhpu : u.hpuOf d = s.hpuOf d := hpuOf_congr htables d
    refine { completed := fun _ => { gone := (hl.stands.entry d).trans hrem.gone, warning := fun h => ⟨?_, ?_⟩, ready := fun h => ?_, told := ?_,
                                     claims := fun x hx => ?_ },
             latch := fun hlaw => (hlatch hlaw).trans (hv.restedLatch _), position := ?_, others := fun x hx => ⟨?_, ?_⟩ }
    · show _ ∈ t.rc.orders
      rw [hl.stands.rc]
      exact hrem.ordered .STOP (by simp [RemovalCause.order, h])
    · rw [hl.stands.cs, hrem.warning h, hsched]
    · have hp := hrem.ready h
      rw [hhpu, hsched] at hp
      exact passedAndTested_congr hp htables hl.stands.cs hl.stands.tables
    · refine Told.mono (hrem.told (by simp) .completed rfl s ?_) hl.stands.gru hl.lasting
      exact ⟨hn.stands.gru.trans hv.gru, htables, (hv.grown.trans hn.grown).mono (by omega)⟩
    · exact ((hl.stands.claimOf x).trans (hrem.claims x hx)).trans ((hn.stands.claimOf x).trans (hv.claimOf x))
    · exact ((hl.stands.position d).trans (position_of_orders hrem.orders)).trans ((hn.stands.position d).trans hposv)
    · exact ((hl.stands.claimOf x).trans (hrem.claims x hx)).trans ((hn.stands.claimOf x).trans (hv.claimOf x))
    · rw [hl.others x hx, hrem.ms, hn.others x hx, hv.ms]
  · have hcs : CsIdle d v := fun f hf => by
      rw [hev] at hf; cases hf; exact .inr (by rw [hposv]; exact hpos)
    have hl := hrest.near horder hcs
    generalize forEach order (takePresentation d (before s d)) v = t at hl hlatch ⊢
    exact { completed := fun h => absurd h hpos, latch := fun hlaw => (hlatch hlaw).trans (hv.restedLatch _)
            position := (hl.stands.position d).trans hposv
            others := fun x hx => ⟨(hl.stands.claimOf x).trans (hv.claimOf x), by rw [hl.others x hx, hv.ms]⟩ }

end

end Sys2Proof.Proofs
end

section
/-! ## O52 and O53 -/
namespace Sys2Proof.Proofs
open Sys2Proof Sys2Proof.Machine

set_option Elab.async false

section
variable {s t u v w : State} {r : ReportBits} {d x : DoorIx} {b : Before} {e f : Entry} {order : List PresentAct}
  {src seq : Byte} {rp : RingPort} {dir : Direction}

/-- Settles O52: the judgement of a MOVING entry by its cases, the completion without movement by the removal of the entry; for a
REPORT, the one action that acts on the entry is cut out of the order. -/
theorem movementsJudged : Obligations.MovementsJudged := by
  unfold Obligations.MovementsJudged
  refine ⟨fun d b s _ hdeaf e he hm => ?_, fun d b s hlaw hset hphase => ?_, fun d b s hclosed hopen hphase => ?_, fun d s e he => ?_,
    fun c d s hlaw he => ?_, fun c d s e he => ?_, fun rp src seq r d s hr hdeaf e he => ?_⟩
  · intro prev now t released stalls
    have hj : MovingJudged d b e s t := movingJudged (noRunHears_deaf hdeaf) he hm b
    refine ⟨hj.arrived, hj.latch, fun hnot => ?_, hj.released, hj.stalled, hj.wrong, fun h => ?_, fun h => ?_, hj.overtime, hj.rest,
      hj.others⟩
    · have hstands (hl : Leaves e prev now) : t = leftStanding d b e (clearAtRest d s) := hj.left hnot hl
      have hmoving (h : ¬(now = .CLOSED ∨ now = .OPEN)) : clearAtRest d s = s := clearAtRest_of_moving h
      refine ⟨fun h hstarted => ?_, fun h hstarted => ?_, fun h => ?_, fun h hstarted => ?_, fun h hstarted hprev => ?_,
        fun h hstarted => ?_⟩
      · rw [hstands (.inl h), hmoving (by rw [h]; cases e.direction <;> decide)]
        exact if_pos (judge_starts.mpr ⟨h, hstarted⟩)
      · rw [hstands (.inl h), hmoving (by rw [h]; cases e.direction <;> decide)]
        exact leftStanding_of_not fun hc => by rw [hstarted] at hc; exact absurd hc.2 (by decide)
      · rw [hstands (.inr (.inl h)), hmoving (by rw [h]; decide)]
        exact leftStanding_of_not fun hc => by
          have hmove : now = e.direction.moving := hc.1
          rw [h] at hmove
          revert hmove
          cases e.direction <;> decide
      · rw [hstands (.inr (.inr (.inl ⟨h, hstarted⟩))), hmoving (by rw [h]; decide)]
        exact leftStanding_of_not fun hc => by
          have hmove : now = e.direction.moving := hc.1
          rw [h] at hmove
          revert hmove
          cases e.direction <;> decide
      · rw [hstands (.inr (.inr (.inr (.inl ⟨h, hstarted, hprev⟩)))), hmoving (by rw [h]; cases e.direction <;> decide)]
        exact leftStanding_of_not fun hc => by
          have hmove : now = e.direction.moving := hc.1
          rw [h] at hmove
          revert hmove
          cases e.direction <;> decide
      · have hleft : leftStanding d b e (clearAtRest d s) = clearAtRest d s := leftStanding_of_not fun hc => by
          have hmove : now = e.direction.moving := position_clearAtRest.symm.trans hc.1
          rw [h] at hmove
          revert hmove
          cases e.direction <;> decide
        rw [hstands (.inr (.inr (.inr (.inr ⟨h, hstarted⟩)))), hleft]
        have hrest := rested d s
        exact ⟨hrest.frame.cs, hrest.frame.rc, hrest.frame.gru, hrest.frame.mc, aside_of_block hrest.frame.toBlockFrame, hrest.own,
          hrest.alarms⟩
    · have hv := hj.completed h
      exact ⟨hv.told s (.refl 18 s), hv.passed⟩
    · have hv := hj.faulted h
      exact ⟨hv.told s (.refl 18 s), hv.passed⟩
  · intro t
    have ht : t = clearAtRest d s := presentMS_idle hphase hset b
    have hrest := rested d s
    rw [ht]
    refine ⟨fun x => ?_, hrest.fault hlaw (settled_iff.mpr hset), hrest.motion hlaw (settled_iff.mpr hset), hrest.frame.cs, hrest.frame.rc,
      hrest.frame.gru, hrest.frame.mc, hrest.alarms, aside_of_block hrest.frame.toBlockFrame⟩
    by_cases hx : x = d
    · subst hx
      rw [if_pos rfl, hrest.own, hrest.latch hlaw]
    · rw [if_neg hx, hrest.others x hx]
      rfl
  · rw [presentMS_other hphase (not_or.mpr ⟨hclosed, hopen⟩)]
    split
    · exact ms_foundMoving ..
    · rfl
  · intro t
    refine ⟨fun hor => presentCS_of_idle fun f hf => ?_, fun hph hpos => ?_⟩
    · rw [show s.entry d = some e from he] at hf
      cases hf
      exact hor
    · have ht : t = removeEntry .WITHOUT_MOVEMENT d s := presentCS_completes he hph hpos
      rw [ht]
      have hr := removed he .WITHOUT_MOVEMENT
      have hc := completedStill he
      refine ⟨hc.gone, hc.warning, hc.ready, fun hready q hq hdoor => ?_, hc.told, hc.claims, ?_, hr.ms, hr.orders,
        aside_of_block hr.toBlockFrame⟩
      · exact orders_removed he (by simp [RemovalCause.order, hready]) hdoor hq
      · exact nextArrival_removed he _
  · obtain ⟨e, he⟩ := Option.isSome_iff_exists.mp he
    have hr := removed he c
    exact ⟨hr.gone, hr.overtime hlaw⟩
  · have hr := removed he c
    exact ⟨hr.warning, hr.ready, hr.moving⟩
  · obtain ⟨v, order, hv, horder, hexec⟩ := report_ready (rp := rp) hr
    have hentry : s.entry d = some e := he
    by_cases hm : e.phase = .MOVING
    · have hj := movingReported hr hdeaf hentry hm hv horder
      exact ends_of hexec ⟨fun _ h => hj.faulted h, fun _ h => hj.arrived h, fun _ h hst => hj.starts h hst,
        fun _ h hst => hj.stalled ⟨h, hst⟩, fun _ h => hj.wrong h, fun hne => absurd hm hne,
        fun hlaw hor => hj.latch hlaw (fun hs => (hor.resolve_left (fun hne => hne hm)).1.elim (fun hne => hne hs.1)
          fun hf => by rw [hs.2] at hf; cases hf) (hor.resolve_left (fun hne => hne hm)).2,
        hj.position, hj.others⟩
    · have hj := stillReported hr hdeaf hentry hm hv horder
      exact ends_of hexec ⟨fun h => absurd h hm, fun h => absurd h hm, fun h => absurd h hm, fun h => absurd h hm, fun h => absurd h hm,
        fun _ h => ⟨(hj.completed h).gone, (hj.completed h).told, (hj.completed h).warning, (hj.completed h).ready⟩,
        fun hlaw _ => hj.latch hlaw, hj.position, hj.others⟩

end

end Sys2Proof.Proofs
end

section
/-! ## O53 -/
namespace Sys2Proof.Proofs
open Sys2Proof Sys2Proof.Machine

set_option Elab.async false

section
variable {s t u v w : State} {r : ReportBits} {d x : DoorIx} {b : Before} {e f : Entry} {order : List PresentAct}
  {src seq : Byte} {rp : RingPort} {dir : Direction} {l : List SlotIx}

theorem not_settled_moving (dir : Direction) : ¬(dir.moving = .CLOSED ∨ dir.moving = .OPEN) := by cases dir <;> decide

/-- A door without an entry that begins to move is found moving. -/
theorem presentMS_found (he : s.entry d = none) (hpos : s.position d = dir.moving) (hprev : b.position ≠ dir.moving) :
    presentMS d b s = foundMoving d dir s := by
  have hfound : foundDirection b.position (s.position d) = some dir := by
    unfold foundDirection
    rw [hpos, if_neg hprev.symm]
    cases dir <;> rfl
  have hphase : phaseOf s d ≠ some .MOVING := by unfold phaseOf; rw [he]; simp
  rw [presentMS_other hphase (by rw [hpos]; exact not_settled_moving dir), he, hfound]

theorem foundMoving_latched (h : s.latch d ≠ .NONE) (dir : Direction) : foundMoving d dir s = raiseDoor .UNSUPERVISED_MOTION d s := if_neg h
theorem foundMoving_free (h : s.latch d = .NONE) (dir : Direction) : foundMoving d dir s = reverseAdopted d dir (adopt d dir s) := if_pos h

/-- After MS found the door moving the other actions still act on no entry. -/
theorem inert_foundMoving (h : Inert l d b s) (he : s.entry d = none) (htop : s.cs.nextArrival ≠ arrivalTop) (dir : Direction) :
    Inert l d b (foundMoving d dir s) ∧ CsIdle d (foundMoving d dir s) := by
  by_cases hl : s.latch d = .NONE
  · have hf : FoundEnds d dir s (foundMoving d dir s) := by
      rw [foundMoving_free hl]
      exact foundEnds htop
    refine ⟨⟨(passage_of_mc_passages hf.passages d).trans h.passage, ?_, h.deaf.of_gru hf.gru⟩, fun e hent => .inl ?_⟩
    · exact (handle_of_orders (RunFrame.foundMoving d dir s).orders).trans h.handle
    · have hphase := hf.phase
      unfold phaseOf at hphase
      rw [hent] at hphase
      exact Option.some_inj.mp hphase
  · rw [foundMoving_latched hl]
    have hframe := AlarmFrame.raiseDoor .UNSUPERVISED_MOTION d s
    exact ⟨inert_of_eq h hframe.mc hframe.rc hframe.gru, csIdle_of_none ((entry_congr (by rw [hframe.cs]) d).trans he)⟩

/-- A REPORT at a door without an entry that begins to move: MS finds it on a state that is ready but for clears and summaries. -/
theorem found_report (hI : Inert [] d b v) (he : v.entry d = none) (hpos : v.position d = dir.moving) (hprev : b.position ≠ dir.moving)
    (htop : v.cs.nextArrival ≠ arrivalTop) (horder : order.Perm presentActs) : ∃ u n m, Near false n d v u
      ∧ Near false m d (foundMoving d dir u) (settleRuns (forEach order (takePresentation d b) v)) := by
  obtain ⟨before, after, rfl, hbefore, hafter, -, -⟩ := order_split horder .MS
  rw [forEach_append]
  have hfirst := near_acts (r := false) before hI (fun h => absurd h hbefore) (fun _ => csIdle_of_none he)
  generalize forEach before (takePresentation d b) v = u at hfirst ⊢
  have heu : u.entry d = none := (hfirst.stands.entry d).trans he
  have hms : takePresentation d b .MS u = foundMoving d dir u := presentMS_found heu ((hfirst.stands.position d).trans hpos) hprev
  obtain ⟨hIw, hcs⟩ := inert_foundMoving (hI.of_stands hfirst.stands) heu (by rw [hfirst.stands.cs]; exact htop) dir
  rw [hms]
  have hlast := near_acts (r := false) after hIw (fun h => absurd h hafter) (fun _ => hcs)
  rw [settleRuns_of_deaf (hIw.of_stands hlast.stands).deaf]
  exact ⟨u, _, _, hfirst, hlast⟩

end

/-- Settles O53. -/
theorem doorsFoundMoving : Obligations.DoorsFoundMoving := by
  unfold Obligations.DoorsFoundMoving
  refine ⟨fun d dir b s he hpos hprev htop => ?_, fun rp src seq r d dir s hr hdeaf he hpos hprev htop => ?_⟩
  · intro t turned
    have ht : t = foundMoving d dir s := presentMS_found he hpos hprev
    rw [ht]
    refine ⟨fun hl => ?_, fun hl => ?_⟩
    · rw [foundMoving_latched hl]
      have hframe := AlarmFrame.raiseDoor .UNSUPERVISED_MOTION d s
      exact ⟨standing_raiseAlarm, hframe.cs, hframe.rc, ms_raiseAlarm .., hframe.mc, hframe.gru, aside_of_block hframe.toBlockFrame⟩
    · rw [foundMoving_free hl]
      have hf := foundEnds (dir := dir) htop (d := d)
      exact ⟨hf.phase, hf.turned, hf.adopted, hf.arrival, hf.oas, hf.others, hf.ms, hf.gru⟩
  · intro turned
    obtain ⟨v, order, hv, horder, hexec⟩ := report_ready (rp := rp) hr
    have hposv : v.position d = dir.moving := hv.position.trans hpos
    have hcalm := hv.calm (by
      show reportPosition r ≠ .UNKNOWN
      rw [hpos]
      cases dir <;> decide)
    obtain ⟨u, n, m, hn, hl⟩ := found_report (hv.inert hr hdeaf) ((hv.entry d).trans he) hposv hprev (by rw [hv.cs]; exact htop) horder
    generalize settleRuns (forEach order (takePresentation d (before s d)) v) = t at hexec hl
    have hms : u.ms = s.ms := (hn.ms rfl).trans hv.ms
    have hcs : u.cs = s.cs := hn.stands.cs.trans hv.cs
    have hlatch : u.latch d = s.latch d := by unfold State.latch; rw [hms]
    have hclaims (x : DoorIx) : claimOf u x = claimOf s x := (hn.stands.claimOf x).trans (hv.claimOf x)
    have htables : u.tables = s.tables := hn.stands.tables.trans hv.tables
    by_cases hlatched : s.latch d = .NONE
    · have hf : FoundEnds d dir u (foundMoving d dir u) := by
        rw [foundMoving_free (hlatch.trans hlatched)]
        exact foundEnds (by rw [hcs]; exact htop)
      generalize foundMoving d dir u = w at hf hl
      have hturns : turns d dir u ↔ turned := by
        have hmode : u.mc.mode = s.mc.mode := (congrArg Mc.mode hn.stands.mc).trans hv.mode
        unfold turns State.isEscape
        rw [hmode, htables]
        exact Iff.rfl
      have hphase : phaseOf t d = phaseOf w d := by unfold phaseOf; rw [hl.stands.entry]
      refine ends_of hexec ⟨fun h => absurd hlatched h, fun _ => ⟨hphase.trans hf.phase, fun h => ⟨?_, ?_⟩, fun h => ?_⟩,
        (hl.ms rfl).trans (hf.ms.trans hms), fun x hx => (hl.stands.claimOf x).trans ((hf.others x hx).trans (hclaims x))⟩
      · rw [hl.stands.claimOf, (hf.turned (hturns.mpr h)).1, hcs]
      · show _ ∈ t.rc.orders
        rw [hl.stands.rc]
        exact (hf.turned (hturns.mpr h)).2
      · rw [hl.stands.claimOf, (hf.adopted (mt hturns.mp h)).1, hcs]
    · rw [foundMoving_latched (by rw [hlatch]; exact hlatched)] at hl
      have hframe := AlarmFrame.raiseDoor .UNSUPERVISED_MOTION d u
      refine ends_of hexec ⟨fun _ => ⟨?_, fun hroom => ?_⟩, fun h => absurd h hlatched, ?_, fun x hx => ?_⟩
      · exact (hl.stands.entry d).trans ((entry_congr (by rw [hframe.cs, hcs]) d).trans he)
      · refine standing_of_onlyAlarms (hl.opens rfl) (by simp) (by decide) (standing_raiseAlarm ?_)
        refine hasRoom_of_onlyAlarms (onlyAlarms_trans (onlyAlarms_mono hv.alarms ?_) (onlyAlarms_mono (hn.opens rfl) ?_)) ?_ (by decide)
          (fun h => lt_of_le_of_lt (hn.count.trans hcalm) h) hroom (l := [(.DOOR_SILENT, d.val), (.DOOR_SENSOR, d.val), (.DOOR_OPEN_AT_SEA, d.val)])
        · simp
        · simp
        · simp
      · exact (hl.ms rfl).trans ((ms_raiseAlarm ..).trans hms)
      · have hclaim : claimOf (raiseDoor .UNSUPERVISED_MOTION d u) x = claimOf u x := congrArg (Option.map Entry.claim) (entry_congr (by rw [hframe.cs]) x)
        exact (hl.stands.claimOf x).trans (hclaim.trans (hclaims x))

end Sys2Proof.Proofs
end

section
/-! ## How many frames a presentation adds that no run hears (R172) -/
namespace Sys2Proof.Proofs
open Sys2Proof Sys2Proof.Machine

set_option Elab.async false

section
variable {s t u v w : State} {d x : DoorIx} {b : Before} {e f : Entry} {order : List PresentAct} {dir : Direction} {l : List SlotIx}

/-! ### MS -/

/-- A door adopted, at whatever arrival number. -/
theorem adopt_cases (d : DoorIx) (dir : Direction) (s : State) : ∃ (e : Entry) (c : Cs), e.phase = .MOVING ∧ e.tag = none
    ∧ adopt d dir s = { s with cs := { c with entries := put c.entries d (some e) }, mc := (s.zeroOas d).mc } := by
  obtain ⟨c, hc⟩ : ∃ c : Cs, (if s.cs.nextArrival = arrivalTop then renumber d s else s) = { s with cs := c } := by
    split
    · exact ⟨_, rfl⟩
    · exact ⟨s.cs, rfl⟩
  unfold adopt takeArrival
  rw [hc]
  exact ⟨adoptedEntry dir c.nextArrival (doorDeadline s d dir),
    { c with nextArrival := c.nextArrival + 1, flow := upd c.flow (s.hpuOf d) fun f => { f with committed := f.committed + s.draw d } },
    rfl, rfl, rfl⟩

/-- What MS leaves beside the schedule where it finds a door moving: an entry that moves, and at most three frames a queue. -/
structure FoundBeside (d : DoorIx) (s t : State) : Prop where
  gru : t.gru = s.gru
  passages : t.mc.passages = s.mc.passages
  phase : phaseOf t d = some .MOVING
  grown : Grown 3 s t

theorem foundBeside_adopted (d : DoorIx) (dir : Direction) (s : State) : FoundBeside d s (reverseAdopted d dir (adopt d dir s)) := by
  obtain ⟨e, c, hphase, htag, hadopt⟩ := adopt_cases d dir s
  have hentry : (adopt d dir s).entry d = some e := by rw [hadopt]; simp [State.entry]
  have hsp : (adopt d dir s).sp = s.sp := by rw [hadopt]
  have adopted : FoundBeside d s (adopt d dir s) := by
    refine ⟨by rw [hadopt], by rw [hadopt]; rfl, ?_, .of_sp (by rw [hadopt])⟩
    unfold phaseOf
    rw [hentry]
    exact congrArg some hphase
  unfold reverseAdopted
  split
  · have hone : reverseOne .MODE d (adopt d dir s) = queueOrder d (.MOVE .CLOSE true)
        ((adopt d dir s).setEntry d (e.reversed (emergencyClose .MODE d) (doorDeadline (adopt d dir s) d .CLOSE))) := by
      unfold reverseOne reverseEntry
      rw [hentry]
      simp only [htag]
      rfl
    rw [hone]
    have hmoves : (e.reversed (emergencyClose .MODE d) (doorDeadline (adopt d dir s) d .CLOSE)).phase = .MOVING := hphase
    generalize e.reversed (emergencyClose .MODE d) (doorDeadline (adopt d dir s) d .CLOSE) = E at hmoves ⊢
    generalize adopt d dir s = a at adopted hsp
    have hready : entryIn (queueOrder d (.MOVE .CLOSE true) (a.setEntry d E)) (a.hpuOf d) .READY d = false := by
      unfold entryIn
      rw [show (queueOrder d (.MOVE .CLOSE true) (a.setEntry d E)).entry d = some E from (entry_setEntry ..).trans (if_pos rfl)]
      simp [hmoves]
    have hframe := ScheduleFrame.pass (a.hpuOf d) (queueOrder d (.MOVE .CLOSE true) (a.setEntry d E))
    refine ⟨hframe.gru.trans adopted.gru, (congrArg Mc.passages hframe.mc).trans adopted.passages, ?_, ?_⟩
    · unfold phaseOf
      rw [entry_pass_of_not_ready hready, show (queueOrder d (.MOVE .CLOSE true) (a.setEntry d E)).entry d = some E from
        (entry_setEntry ..).trans (if_pos rfl)]
      exact congrArg some hmoves
    · exact (DelayBounded.pass ..).grown.after hsp
  · exact adopted

theorem moving_of_found {prev now : Position} (h : foundDirection prev now = some dir) : now = dir.moving ∧ prev ≠ dir.moving := by
  unfold foundDirection at h
  split at h
  · cases h
  · next hne =>
    have hnow : now = dir.moving := by cases now <;> cases dir <;> simp_all [Position.motionDirection, Direction.moving]
    exact ⟨hnow, fun hp => hne (hnow.trans hp.symm)⟩

theorem phaseOf_of_none (he : s.entry d = none) : phaseOf s d ≠ some .MOVING := by
  unfold phaseOf
  rw [he]
  simp

theorem grown_arriving (e : Entry) : Grown 4 s (arriving d b e s) := by
  have hrest := (near_clearAtRest d s).grown
  unfold arriving
  exact .ite ⟨hrest.port⟩ hrest

theorem grown_leftStanding (e : Entry) : Grown 4 s (leftStanding d b e (clearAtRest d s)) := by
  have hrest := (near_clearAtRest d s).grown
  unfold leftStanding
  exact .ite ⟨hrest.port⟩ hrest

/-- The judgement of a MOVING entry, at most thirteen frames a queue. -/
theorem grown_judged (hdeaf : Deaf l s) (he : s.entry d = some e) (hm : e.phase = .MOVING) : Grown 13 s (presentMS d b s) := by
  have hrest := (near_clearAtRest d s)
  have hdeafrest := hdeaf.of_gru hrest.stands.gru
  by_cases harrived : s.position d = e.direction.target
  · rw [presentMS_arrived he hm harrived]
    have harriving : (arriving d b e s).gru = s.gru := by
      unfold arriving
      split <;> exact hrest.stands.gru
    exact ((grown_arriving e).trans ((hdeaf.of_gru harriving).removeEntry (by simp) d).2).mono (by omega)
  have faulted (k : Latch) : Grown 13 s (faultTold k d (clearAtRest d s)) := by
    rw [← faultDoor_of_deaf hdeafrest]
    exact hrest.grown.trans (hdeafrest.faultDoor k d).2
  by_cases hstalls : stalls e (s.position d)
  · rw [presentMS_stalled hdeaf he hm hstalls]
    exact faulted _
  by_cases hwrong : wrongWay e b.position (s.position d)
  · rw [presentMS_wrongWay hdeaf he hm hwrong]
    exact faulted _
  rw [presentMS_left he hm harrived hstalls hwrong]
  have hleft : (leftStanding d b e (clearAtRest d s)).gru = s.gru := by
    unfold leftStanding
    split <;> exact hrest.stands.gru
  refine .ite (((grown_leftStanding e).trans ((hdeaf.of_gru hleft).removeEntry (by simp) d).2).mono (by omega)) ?_
  exact (grown_leftStanding e).mono (by omega)

/-- The door has no entry but one that moves. -/
abbrev Bare (d : DoorIx) (s : State) : Prop := ∀ e, s.entry d = some e → e.phase = .MOVING

/-- MS takes a presentation of a door that has no entry but one that moves: at most thirteen frames a queue, and the door is left
so. -/
theorem bare_presentMS (h : Inert l d b s) (hbare : Bare d s) :
    Inert l d b (presentMS d b s) ∧ CsIdle d (presentMS d b s) ∧ Grown 13 s (presentMS d b s) := by
  cases he : s.entry d with
  | some e =>
    obtain ⟨hinert, hcs⟩ := inert_presentMS h he (hbare e he)
    exact ⟨hinert, hcs, grown_judged h.deaf he (hbare e he)⟩
  | none =>
    cases hfound : foundDirection b.position (s.position d) with
    | none =>
      rw [presentMS_of_idle ⟨phaseOf_of_none he, .inr hfound⟩]
      have hnear := near_clearAtRest d s
      exact ⟨h.rested, csIdle_of_none ((hnear.stands.entry d).trans he), hnear.grown.mono (by omega)⟩
    | some dir =>
      obtain ⟨hpos, hprev⟩ := moving_of_found hfound
      rw [presentMS_found he hpos hprev]
      have hhandle : (foundMoving d dir s).handle d = b.handle :=
        (handle_of_orders (RunFrame.foundMoving d dir s).orders).trans h.handle
      by_cases hl : s.latch d = .NONE
      · rw [foundMoving_free hl] at hhandle ⊢
        have hf := foundBeside_adopted d dir s
        refine ⟨⟨(passage_of_mc_passages hf.passages d).trans h.passage, hhandle, h.deaf.of_gru hf.gru⟩, fun e hent => .inl ?_,
          hf.grown.mono (by omega)⟩
        have hphase := hf.phase
        unfold phaseOf at hphase
        rw [hent] at hphase
        exact Option.some_inj.mp hphase
      · rw [foundMoving_latched hl]
        have hframe := AlarmFrame.raiseDoor .UNSUPERVISED_MOTION d s
        exact ⟨inert_of_eq h hframe.mc hframe.rc hframe.gru, csIdle_of_none ((entry_congr (by rw [hframe.cs]) d).trans he),
          (Grown.raiseAlarm ..).mono (by omega)⟩

/-- A presentation that no run hears, at a door without a passage whose handle is the one before, adds at most sixteen frames to a
queue. -/
theorem grown_presentation (h : Inert [] d b v) (horder : order.Perm presentActs) :
    Grown 16 v (settleRuns (forEach order (takePresentation d b) v)) := by
  by_cases hbare : Bare d v
  · obtain ⟨before, after, rfl, hbefore, hafter, hsum, -⟩ := order_split horder .MS
    rw [forEach_append]
    have hfirst := near_acts (r := false) before h (fun hm => absurd hm hbefore) (fun _ e he => .inl (hbare e he))
    generalize forEach before (takePresentation d b) v = u at hfirst ⊢
    obtain ⟨hinert, hcs, hgrown⟩ := bare_presentMS (h.of_stands hfirst.stands) (fun e he => hbare e ((hfirst.stands.entry d).symm.trans he))
    have hlast := near_acts (r := false) after hinert (fun hm => absurd hm hafter) (fun _ => hcs)
    have hdeaf := (hinert.of_stands hlast.stands).deaf
    show Grown 16 v (settleRuns (forEach after (takePresentation d b) (presentMS d b u)))
    rw [settleRuns_of_deaf hdeaf]
    have hcost : actCost .MS = 4 := rfl
    exact ((hfirst.grown.trans hgrown).trans hlast.grown).mono (by omega)
  · unfold Bare at hbare
    push Not at hbare
    obtain ⟨e, he, hph⟩ := hbare
    have hrest := atRestHere h he hph
    rw [deaf_after hrest horder]
    by_cases hpos : v.position d = e.direction.target
    · obtain ⟨u, n, m, hn, hle, -, hl⟩ := still_split hrest he hph hpos horder
      have hgrown := ((h.deaf.of_gru hn.stands.gru).removeEntry (c := .WITHOUT_MOVEMENT) (by simp) d).2
      exact ((hn.grown.trans hgrown).trans hl.grown).mono (by omega)
    · have hcs : CsIdle d v := fun f hf => by
        rw [he] at hf; cases hf; exact .inr hpos
      exact (hrest.near horder hcs).grown.mono (by omega)

end

end Sys2Proof.Proofs
end

section
/-! ## The summaries that a REPORT hands on, and O58 -/
namespace Sys2Proof.Proofs
open Sys2Proof Sys2Proof.Machine

set_option Elab.async false

/-! ### The alarm list's operations carry what their notices carry -/

/-- A relation that the frames placed, no summaries, meet, and every update beside the queues and IB. -/
structure Sent (R : State → State → Prop) : Prop where
  refl : ∀ s, R s s
  trans : ∀ {s t u}, R s t → R t u → R s u
  still : ∀ {s t}, t.sp = s.sp → t.ib = s.ib → R s t
  place : ∀ p f s, f.isSummary = false → R s (place p f s)

section
variable {R : State → State → Prop}

theorem Sent.ite (_ : Sent R) {p : Prop} [Decidable p] {s a b : State} (h : R s a) (g : R s b) : R s (if p then a else b) := by
  split
  · exact h
  · exact g

theorem Sent.after (c : Sent R) {s t u : State} (g : R t u) (hsp : t.sp = s.sp) (hib : t.ib = s.ib) : R s u :=
  c.trans (c.still hsp hib) g

variable (c : Sent R) (s : State) (r : AlarmRecord) (k : AlarmKind) (x : Nat)
include c

theorem Sent.notify (h : Change) : R s (notify h r s) := forEach_rel c.refl c.trans (fun _ _ => c.place _ _ _ rfl) _ s
theorem Sent.updateRecord : R s (updateRecord r s) := c.after (c.notify ..) rfl rfl
theorem Sent.createRecord (st : AlarmState) : R s (createRecord k x st s) := c.after (c.notify ..) rfl rfl
theorem Sent.reraise : R s (reraise r s) := c.ite (c.updateRecord ..) (c.refl s)
theorem Sent.loseRaise : R s (loseRaise s) := by
  refine c.trans (c.still (t := { s with al := { s.al with lost := satInc 65535 s.al.lost } }) rfl rfl) ?_
  unfold Machine.loseRaise raiseListFull
  split
  · exact c.reraise ..
  · exact c.createRecord ..
theorem Sent.raiseAlarm : R s (raiseAlarm k x s) := by
  unfold Machine.raiseAlarm
  split
  · exact c.reraise ..
  · exact c.ite (c.createRecord ..) (c.loseRaise ..)
theorem Sent.raiseEvent : R s (raiseEvent k x s) := by
  unfold Machine.raiseEvent
  split
  · exact c.ite (c.updateRecord ..) (c.refl s)
  · exact c.ite (c.createRecord ..) (c.loseRaise ..)
theorem Sent.dropRecord : R s (dropRecord r s) := by
  have hremoved (u : State) : R u (onRemoval r u) := by
    unfold onRemoval
    split
    · split <;> exact c.still rfl rfl
    · exact c.refl u
  exact c.trans (c.after (c.notify (setRecords (s.al.records.filter fun q => !q.isFor r.kind r.subject) s) ..) rfl rfl) (hremoved _)
theorem Sent.clearRecord : R s (clearRecord r s) := by
  unfold Machine.clearRecord
  split
  · exact c.updateRecord ..
  · exact c.dropRecord ..
  · exact c.refl s
theorem Sent.testListFull : R s (testListFull s) := by
  unfold Machine.testListFull
  split
  · exact c.ite (c.clearRecord ..) (c.refl s)
  · exact c.refl s
theorem Sent.clearAlarm : R s (clearAlarm k x s) := by
  unfold Machine.clearAlarm
  split
  · exact c.ite (c.trans (c.dropRecord ..) (c.testListFull _)) (c.clearRecord ..)
  · exact c.refl s

/-- So does every action of a presentation but IB's. -/
theorem Sent.presented : Presented R where
  refl := c.refl
  trans := c.trans
  quiet _ hsp hib := c.still hsp hib
  raise k x s _ := c.raiseAlarm s k x
  event x s := c.raiseEvent s _ x
  clear k x s _ := c.clearAlarm s k x
  place := c.place

end

/-! ### The summaries and the pacing of a port whose queue still has room -/

/-- No queue became shorter, and the summaries and the pacing of a port whose queue still has room stand. -/
structure Kept (s t : State) : Prop where
  longer : ∀ q : PortIx, s.sp[q].queue.length ≤ t.sp[q].queue.length
  summaries : ∀ q : PortIx, t.sp[q].queue.length < queueSize → summariesAt t q = summariesAt s q ∧ t.ib.pacing[q] = s.ib.pacing[q]
  others : OnlyPacing s t

section
variable {s t u v : State} {d : DoorIx} {b : Before} {p q : PortIx} {order : List PresentAct} {r : ReportBits} {src seq : Byte}

theorem le_length_placedIn (f : Frame) (q : List Frame) : q.length ≤ (placedIn f q).length := by
  have dropped {P : Frame → Bool} (h : q.any P = true) : q.length ≤ (q.eraseP P ++ [f]).length := by
    rw [List.length_append, List.length_eraseP, if_pos h, List.length_singleton]
    omega
  unfold placedIn placing
  by_cases hroom : q.length < queueSize
  · rw [if_pos hroom]
    simp
  by_cases hsummary : q.any Frame.isSummary = true
  · rw [if_neg hroom, if_pos hsummary]
    exact dropped hsummary
  by_cases hnotice : q.any Frame.isNotice = true
  · rw [if_neg hroom, if_neg hsummary, if_pos hnotice]
    exact dropped hnotice
  · rw [if_neg hroom, if_neg hsummary, if_neg hnotice]

theorem sent_kept : Sent Kept where
  refl s := ⟨fun _ => le_rfl, fun _ _ => ⟨rfl, rfl⟩, rfl⟩
  trans h g := by
    refine ⟨fun q => (h.longer q).trans (g.longer q), fun q hq => ?_, OnlyPacing.trans h.others g.others⟩
    obtain ⟨hsum, hpace⟩ := g.summaries q hq
    obtain ⟨hsum', hpace'⟩ := h.summaries q (lt_of_le_of_lt (g.longer q) hq)
    exact ⟨hsum.trans hsum', hpace.trans hpace'⟩
  still hsp hib := by
    refine ⟨fun q => by rw [hsp], fun q _ => ⟨?_, by rw [hib]⟩, ?_⟩
    · unfold summariesAt
      rw [hsp]
    · unfold OnlyPacing
      rw [hib]
  place p f s hf := by
    have hlonger (q : PortIx) : s.sp[q].queue.length ≤ (place p f s).sp[q].queue.length := by
      rw [queue_place]
      split
      · exact le_length_placedIn ..
      · exact le_rfl
    refine ⟨hlonger, fun q hq => ?_, (PlaceFrame.place p f s).pacing⟩
    have hroom := lt_of_le_of_lt (hlonger q) hq
    exact ⟨summariesAt_place_result hf hroom, pacing_place_of_room hroom⟩

theorem compIndication_of_frame (h : PresentFrame s t) : compIndication t = compIndication s := by
  have hreported := (rc_of_orders h.orders).2.1
  funext c
  refine compIndication_congr (fun x => isPresent_congr h.tables x) (fun x _ => ?_) fun x _ _ => ?_
  · unfold bounds
    rw [h.tables]
  · unfold State.position
    rw [hreported]

/-- The actions of MS, CS, MC and GRU keep the summaries. -/
theorem kept_acts (acts : List PresentAct) (h : .IB ∉ acts) (d : DoorIx) (b : Before) (s : State) :
    Kept s (forEach acts (takePresentation d b) s) := by
  induction acts generalizing s with
  | nil => exact sent_kept.refl s
  | cons a rest ih =>
    have hact := sent_kept.presented.takePresentation d b a (fun ha => h (ha ▸ List.mem_cons_self)) s
    exact sent_kept.trans hact (ih (fun hm => h (List.mem_cons_of_mem a hm)) _)

theorem longer_recomputeComps (cs : List CompIx) (s : State) (q : PortIx) :
    s.sp[q].queue.length ≤ (recomputeComps cs s).sp[q].queue.length := by
  have hpaced := recomputed_paced cs s
  have hsp := (writeComps_eq cs s).1
  by_cases hq : q ∈ toldPorts cs s
  · obtain ⟨hheld, hsent⟩ := hpaced.handed q hq
    rw [hsp] at hheld hsent
    by_cases hlt : (writeComps cs s).ib.pacing[q].elapsed < summaryHold
    · rw [(hheld hlt).1]
    · rw [(hsent (Nat.not_lt.mp hlt)).1]
      exact le_length_placedIn ..
  · rw [(hpaced.others q hq).1, hsp]

/-- What a REPORT of another position leaves of the pacing and of the summaries of a port with room: a presentation hands IB its
change of the position once. -/
theorem summaries_report (hr : ReportTaken s src seq r d) (hdeaf : NoRunHears s) (hmoved : reportPosition r ≠ s.position d)
    (hv : Ready d (reportedBy r s.rc.reported[d]) s v) (horder : order.Perm presentActs)
    (ht : t = settleRuns (forEach order (takePresentation d (before s d)) v)) (hp : s.sp[p].queue.length ≤ 40) :
    let x := s.ib.pacing[p]
    let changed := Watched s p [s.tables.doors[d].compA, s.tables.doors[d].compB] (compIndication t)
    (¬changed → summariesAt t p = summariesAt s p ∧ t.ib.pacing[p] = x)
    ∧ (changed → x.elapsed < 5 → summariesAt t p = summariesAt s p ∧ t.ib.pacing[p] = ⟨x.elapsed, true⟩)
    ∧ (changed → 5 ≤ x.elapsed → t.ib.pacing[p] = ⟨0, false⟩
        ∧ ∃ f : Frame, f.isSummary = true ∧ summariesAt t p = summariesAt s p ++ [f]) := by
  have hgrown := grown_presentation (hv.inert hr hdeaf) horder
  rw [← ht] at hgrown
  obtain ⟨before', after, rfl, hbefore, hafter, -, -⟩ := order_split horder .IB
  rw [forEach_append] at ht
  have hfirst := kept_acts before' hbefore d (before s d) v
  have hframe := PresentFrame.forEach (PresentFrame.takePresentation d (before s d)) before' v
  generalize forEach before' (takePresentation d (before s d)) v = u at hfirst hframe ht
  have hreported : u.rc.reported = v.rc.reported := (rc_of_orders hframe.orders).2.1
  have hposition : u.position d ≠ s.position d := by
    have hpos : u.position d = reportPosition r := by
      unfold State.position
      rw [hreported]
      exact hv.position
    rw [hpos]
    exact hmoved
  obtain ⟨cs, hcs, hshown⟩ := (presentedIB d (s.position d) u).2 hposition
  have htaken : takePresentation d (before s d) .IB u = recomputeComps cs u := hshown
  rw [htaken] at ht
  obtain ⟨-, -, -, hserves, -, -⟩ := recomputation cs u
  have hlast : Kept (recomputeComps cs u) t := by
    rw [ht]
    exact sent_kept.trans (kept_acts after hafter d (before s d) _) (sent_kept.presented.toCarried.settleRuns _)
  have hafterwards : PresentFrame u t := by
    rw [ht]
    exact (PresentFrame.recomputeComps cs u).trans (PresentFrame.presentIn after d (before s d) _)
  have hlonger := longer_recomputeComps cs u p
  generalize recomputeComps cs u = w at hserves hlast hlonger
  have htables : u.tables = s.tables := hframe.tables.trans hv.tables
  have hin : u.inService = true := (inService_congr (hframe.cfs.trans hv.cfs)).trans hr.2.1
  have hcomps : u.ib.comps = s.ib.comps := by rw [hfirst.others, hv.pacing]
  obtain ⟨⟨notices, hlen, hnotices, hqueue⟩, hvpacing⟩ := hv.appended.port p (by omega)
  have hvqueue : v.sp[p].queue.length ≤ 44 := by rw [hqueue, List.length_append]; omega
  have hroom : t.sp[p].queue.length < queueSize := by have := hgrown.port p; unfold queueSize; omega
  obtain ⟨htsum, htpace⟩ := hlast.summaries p hroom
  have huroom : u.sp[p].queue.length < queueSize := lt_of_le_of_lt (hlonger.trans (hlast.longer p)) hroom
  obtain ⟨husum, hupace⟩ := hfirst.summaries p huroom
  have hwatched : Watched u p (cs.map Fin.val) (compIndication u)
      ↔ Watched s p [s.tables.doors[d].compA, s.tables.doors[d].compB] (compIndication t) := by
    unfold Watched State.row
    rw [compIndication_of_frame hafterwards, htables, hcomps]
    refine exists_congr fun c => and_congr_left' ?_
    rw [htables] at hcs
    rw [List.mem_map]
    simp only [List.mem_cons, List.not_mem_nil, or_false]
    exact ⟨fun ⟨c', hc', hval⟩ => hval ▸ (hcs c').mp hc', fun hc => ⟨c, (hcs c).mpr hc, rfl⟩⟩
  have hserved := hserves hin p
  have hpace : u.ib.pacing[p] = s.ib.pacing[p] := hupace.trans hvpacing
  have hsum : summariesAt u p = summariesAt s p := husum.trans (summariesAt_append hnotices hqueue)
  intro x changed
  have hw : w.sp[p] = u.sp[p] → summariesAt t p = summariesAt s p := fun h => by
    rw [htsum, ← hsum]
    unfold summariesAt
    rw [h]
  rw [hpace, hwatched] at hserved
  obtain ⟨hstands, hheld, hsent⟩ := hserved
  refine ⟨fun hnot => ?_, fun hchanged hlt => ?_, fun hchanged hle => ?_⟩
  · obtain ⟨hport, hpacing⟩ := hstands hnot
    exact ⟨hw hport, htpace.trans hpacing⟩
  · obtain ⟨hport, hpacing⟩ := hheld hchanged hlt
    exact ⟨hw hport, htpace.trans hpacing⟩
  · obtain ⟨-, helapsed, hjoined⟩ := hsent hchanged hle
    obtain ⟨hwqueue, hpending⟩ := hjoined huroom
    refine ⟨htpace.trans ?_, summaryOf w p, rfl, ?_⟩
    · generalize w.ib.pacing[p] = y at helapsed hpending
      cases y
      simp_all
    · rw [htsum, ← hsum]
      unfold summariesAt
      rw [hwqueue, List.filter_append]
      rfl

end

/-- Settles O58. -/
theorem summaryExpires : Obligations.SummaryExpires := by
  unfold Obligations.SummaryExpires
  refine ⟨summaryExpiry, recomputation, presentedIB, fun rp src seq r d s hr hdeaf hmoved => ?_⟩
  obtain ⟨v, order, hv, horder, hexec⟩ := report_ready (rp := rp) hr
  exact ends_of hexec fun p hp => summaries_report hr hdeaf hmoved hv horder rfl hp

end Sys2Proof.Proofs
end

section
/-! ## What a demand leaves, by its outcome (R22) -/
namespace Sys2Proof.Proofs
open Sys2Proof Sys2Proof.Machine

set_option Elab.async false

section
variable {m : Demand} {s t u : State} {d x : DoorIx} {e f : Entry} {h : HpuIx} {k : AlarmKind} {n : Nat}

/-- A demand that a step before its settling refuses. -/
abbrev Refused (o : DemandOutcome) : Prop := o = .NOT_CONFIGURED ∨ o = .WRONG_MODE ∨ o = .DOOR_FAULT ∨ o = .OVERRULED

/-- The outcomes of a demand at a door without an entry, and at one with an entry. -/
inductive Decided (m : Demand) (s : State) : DemandOutcome × State → Prop where
  | refused {o : DemandOutcome} (ho : Refused o) : Decided m s (o, s)
  | already (he : s.entry m.door = none) (hp : s.position m.door = m.direction.target) : Decided m s (.ALREADY, endBeaten m s)
  | enqueued (he : s.entry m.door = none) (hp : s.position m.door ≠ m.direction.target) :
      Decided m s (.ENQUEUED, enqueue m (endBeaten m s))
  | merged {e : Entry} (he : s.entry m.door = some e) (hd : e.direction = m.direction) : Decided m s (.MERGED, merge m e s)
  | reversed {e : Entry} (he : s.entry m.door = some e) (hd : e.direction ≠ m.direction) (hph : e.phase = .MOVING) :
      Decided m s (.REVERSED, reverse m e s)
  | replaced {e : Entry} (he : s.entry m.door = some e) (hd : e.direction ≠ m.direction) (hph : e.phase ≠ .MOVING) :
      Decided m s (.REPLACED, replace m e s)

theorem decided (m : Demand) (s : State) : Decided m s (decideDemand m s) := by
  unfold decideDemand
  split
  · exact .refused (.inl rfl)
  split
  · exact .refused (.inr (.inl rfl))
  split
  · exact .refused (.inr (.inr (.inl rfl)))
  unfold decideClaims
  split
  · next e he =>
    split
    · next hd => exact .merged he hd
    split
    · split
      · next hd _ hph => exact .reversed he hd hph
      · next hd _ hph => exact .replaced he hd hph
    · exact .refused (.inr (.inr (.inr rfl)))
  · next he =>
    split
    · unfold settleDemand
      have hposition : (endBeaten m s).position m.door = s.position m.door := position_endBeaten ..
      split
      · next hp => exact .already he (hposition.symm.trans hp)
      · next hp => exact .enqueued he fun h => hp (hposition.trans h)
    · exact .refused (.inr (.inr (.inr rfl)))

theorem decideDemand_refused (h : Refused (decideDemand m s).1) : (decideDemand m s).2 = s := by
  have hd := decided m s
  generalize decideDemand m s = p at hd h
  cases hd with
  | refused _ => rfl
  | already | enqueued | merged | reversed | replaced => simp [Refused] at h

theorem decideDemand_already (h : (decideDemand m s).1 = .ALREADY) :
    s.entry m.door = none ∧ s.position m.door = m.direction.target ∧ (decideDemand m s).2 = endBeaten m s := by
  have hd := decided m s
  generalize decideDemand m s = p at hd h
  cases hd with
  | refused ho => simp only at h; subst h; simp [Refused] at ho
  | already he hp => exact ⟨he, hp, rfl⟩
  | enqueued | merged | reversed | replaced => cases h

theorem decideDemand_merged (h : (decideDemand m s).1 = .MERGED) :
    ∃ e, s.entry m.door = some e ∧ e.direction = m.direction ∧ (decideDemand m s).2 = merge m e s := by
  have hd := decided m s
  generalize decideDemand m s = p at hd h
  cases hd with
  | refused ho => simp only at h; subst h; simp [Refused] at ho
  | merged he hdir => exact ⟨_, he, hdir, rfl⟩
  | enqueued | already | reversed | replaced => cases h

/-! ### The other doors -/

/-- A demand leaves the passages of the other doors. -/
theorem passage_decideDemand_of_ne (hx : x ≠ m.door) : (decideDemand m s).2.passage x = s.passage x := by
  have hd := decided m s
  obtain ⟨hmerged, hreplaced, hreversed⟩ := demandOnAnEntry
  generalize hp : decideDemand m s = p at hd
  cases hd with
  | refused => rfl
  | already => exact (Ending.endBeaten m s).others x hx
  | enqueued =>
    refine Eq.trans (passage_of_mc_passages (s := endBeaten m s) ?_ x) ((Ending.endBeaten m s).others x hx)
    rw [enqueue_mc]
  | @merged e he hdir =>
    obtain ⟨hsame, hraised⟩ := hmerged m s (by rw [hp]) e he
    rw [hp] at hsame hraised
    by_cases hle : m.cls ≤ e.cls
    · have hs : merge m e s = s := hsame hle
      rw [hs]
    · obtain ⟨-, -, -, -, -, -, -, hmc, -⟩ := hraised (Nat.not_le.mp hle)
      exact passage_of_mc_passages (by rw [hmc]) x
  | @reversed e he hdir hph =>
    obtain ⟨-, -, -, -, -, -, -, hpassages, -⟩ := hreversed m s (by rw [hp]) e he
    rw [hp] at hpassages
    exact hpassages x hx
  | @replaced e he hdir hph =>
    obtain ⟨-, -, -, -, -, -, hpassages, -⟩ := hreplaced m s (by rw [hp]) e he
    rw [hp] at hpassages
    exact hpassages x hx

/-- A demand below the top of the arrival counter leaves the claims and the passages of the other doors. -/
theorem decideDemand_others (hin : s.inService = true) (htop : s.cs.nextArrival ≠ arrivalTop) (hx : x ≠ m.door) :
    claimOf (decideDemand m s).2 x = claimOf s x ∧ (decideDemand m s).2.passage x = s.passage x := by
  refine ⟨?_, passage_decideDemand_of_ne hx⟩
  have hd := decided m s
  obtain ⟨henqueued, -⟩ := demandEnqueued
  obtain ⟨hmerged, hreplaced, hreversed⟩ := demandOnAnEntry
  generalize hp : decideDemand m s = p at hd
  cases hd with
  | refused => rfl
  | already => exact congrArg (Option.map Entry.claim) (entry_congr (by rw [(Ending.endBeaten m s).cs]) x)
  | enqueued =>
    obtain ⟨-, hclaims, -⟩ := henqueued m s hin (by rw [hp]) htop
    rw [hp] at hclaims
    exact hclaims x hx
  | @merged e he hdir =>
    obtain ⟨hsame, hraised⟩ := hmerged m s (by rw [hp]) e he
    rw [hp] at hsame hraised
    by_cases hle : m.cls ≤ e.cls
    · have hs : merge m e s = s := hsame hle
      rw [hs]
    · obtain ⟨-, -, -, hclaims, -⟩ := hraised (Nat.not_le.mp hle)
      exact hclaims x hx
  | @reversed e he hdir hph =>
    obtain ⟨-, -, hclaims, -⟩ := hreversed m s (by rw [hp]) e he
    rw [hp] at hclaims
    exact hclaims x hx
  | @replaced e he hdir hph =>
    obtain ⟨hbelow, -⟩ := hreplaced m s (by rw [hp]) e he
    rw [hp] at hbelow
    obtain ⟨-, hclaims, -⟩ := hbelow htop
    exact hclaims x hx

theorem decideDemand_ms (m : Demand) (s : State) : (decideDemand m s).2.ms = s.ms := carried_ms.decideDemand m s

/-! ### The passage of the door -/

/-- A CLOSE demand leaves a passage record in RECLOSING. -/
theorem passage_decideDemand_reclosing {p : Passage} (hm : m.direction = .CLOSE) (hp : s.passage m.door = some p)
    (hph : p.phase = .RECLOSING) : (decideDemand m s).2.passage m.door = some p := by
  have hafter : passageAfter s m = some p := by
    unfold passageAfter
    rw [hp]
    exact if_neg fun h => h.2 hph
  have hd := decided m s
  obtain ⟨hmerged, hreplaced, hreversed⟩ := demandOnAnEntry
  generalize hq : decideDemand m s = q at hd
  cases hd with
  | refused => exact hp
  | already => exact (passage_endBeaten m s).trans hafter
  | enqueued =>
    refine Eq.trans (passage_of_mc_passages (s := endBeaten m s) ?_ _) ((passage_endBeaten m s).trans hafter)
    rw [enqueue_mc]
  | @merged e he hdir =>
    obtain ⟨hsame, hraised⟩ := hmerged m s (by rw [hq]) e he
    rw [hq] at hsame hraised
    by_cases hle : m.cls ≤ e.cls
    · have hs : merge m e s = s := hsame hle
      rw [hs]
      exact hp
    · obtain ⟨-, -, -, -, -, -, -, hmc, -⟩ := hraised (Nat.not_le.mp hle)
      exact (passage_of_mc_passages (by rw [hmc]) _).trans hp
  | @reversed e he hdir hphase =>
    obtain ⟨-, -, -, -, -, -, -, -, hclosed, -⟩ := hreversed m s (by rw [hq]) e he
    rw [hq] at hclosed
    exact (hclosed hm).trans hafter
  | @replaced e he hdir hphase =>
    obtain ⟨-, -, -, -, -, -, -, hclosed, -⟩ := hreplaced m s (by rw [hq]) e he
    rw [hq] at hclosed
    exact (hclosed hm).trans hafter

/-! ### The outcome at a door without an entry, and against one entry -/

/-- A demand that no step refuses before the claims. -/
abbrev Submits (m : Demand) (s : State) : Prop :=
  s.inService = true ∧ ¬(s.mc.mode = .EMERGENCY ∧ m.direction = .OPEN ∧ m.origin ≠ .PASSAGE)
    ∧ ¬(m.direction = .OPEN ∧ s.latch m.door ≠ .NONE)

theorem submits_close (hin : s.inService = true) (hm : m.direction = .CLOSE) : Submits m s :=
  ⟨hin, fun h => by rw [hm] at h; exact absurd h.2.1 (by decide), fun h => by rw [hm] at h; exact absurd h.1 (by decide)⟩

/-- R22: at a door with no entry and no claim of a passage against it a demand is ENQUEUED or ALREADY. -/
theorem decideDemand_free (hs : Submits m s) (he : s.entry m.door = none)
    (hpassage : ∀ p, s.passage m.door = some p → p.phase = .RECLOSING ∨ m.direction = .OPEN) :
    (s.position m.door = m.direction.target → (decideDemand m s).1 = .ALREADY)
    ∧ (s.position m.door ≠ m.direction.target → (decideDemand m s).1 = .ENQUEUED) := by
  obtain ⟨hin, hmode, hlatch⟩ := hs
  obtain ⟨-, -, -, hclaims⟩ := demandDecision m s
  obtain ⟨-, -, hwins⟩ := hclaims hin hmode hlatch
  have hnone : directionOf s m.door ≠ some m.direction := by unfold directionOf; rw [he]; nofun
  have hfree : Wins s m := fun c hc hdir => by
    unfold claims at hc
    rw [he, List.nil_append] at hc
    cases hp : s.passage m.door with
    | none => rw [hp] at hc; cases hc
    | some p =>
      rw [hp] at hc
      simp only at hc
      split at hc
      · cases hc
      · next hph =>
        rw [List.mem_singleton.mp hc] at hdir
        exact absurd ((hpassage p hp).resolve_left hph).symm hdir
  have hphase : phaseOf s m.door = none := by unfold phaseOf; rw [he]; rfl
  obtain ⟨-, -, halready, henqueued⟩ := hwins hnone hfree
  exact ⟨halready hphase, henqueued hphase⟩

/-- R22, R28: a CLOSE demand that does not beat an OPEN entry is OVERRULED. -/
theorem decideDemand_overruled (hin : s.inService = true) (hm : m.direction = .CLOSE) (he : s.entry m.door = some e) (hdir : e.direction = .OPEN)
    (hbeats : ¬Beats s.tables.system.orderCode m ⟨.OPEN, e.cls, e.group⟩) : (decideDemand m s).1 = .OVERRULED := by
  obtain ⟨-, -, -, hclaims⟩ := demandDecision m s
  obtain ⟨-, hmode, hlatch⟩ := submits_close hin hm
  obtain ⟨-, hover, -⟩ := hclaims hin hmode hlatch
  refine (hover ?_ fun hw => hbeats ?_).1
  · unfold directionOf
    rw [he, hm]
    simp [hdir]
  · refine hw ⟨.OPEN, e.cls, e.group⟩ ?_ (by rw [hm]; nofun)
    unfold claims
    rw [he, ← hdir]
    exact List.mem_append_left _ List.mem_cons_self

/-! ### The alarms of an entry made, and its start -/

theorem onlyAlarms_enqueue (m : Demand) (s : State) : ∃ h : HpuIx, OnlyAlarms s (enqueue m s) [(.ADMISSION_DELAY, h.val)] := by
  refine ⟨s.hpuOf m.door, ?_⟩
  have hal : ((renewed m s).zeroOas m.door).al = s.al := by
    have h : (arrived m.door s).al = s.al := by rw [arrived_eq]
    exact h
  rw [enqueue_eq]
  split
  · exact onlyAlarms_of_records (congrArg Al.records hal) _
  · exact onlyAlarms_trans (onlyAlarms_of_records (congrArg Al.records hal) _) (pass_admits ..).delay.only

/-- A pass starts no entry. -/
theorem started_pass (hf : (pass h s).entry d = some f) :
    ∃ e, s.entry d = some e ∧ f.origin = e.origin ∧ f.direction = e.direction ∧ (f.started = e.started ∨ f.started = false) := by
  have ha := pass_admits h s
  by_cases hd : d ∈ passFirst s h ++ passBehind s h
  · rw [ha.admitted d hd] at hf
    obtain ⟨e, he, rfl⟩ := Option.map_eq_some_iff.mp hf
    exact ⟨e, he, rfl, rfl, .inr rfl⟩
  · rw [ha.stays d hd] at hf
    obtain ⟨e, he, rfl⟩ := Option.map_eq_some_iff.mp hf
    exact ⟨e, he, rfl, rfl, .inl rfl⟩

/-- The entry that an ENQUEUED demand made has not started. -/
theorem enqueued_entry (hf : (enqueue m s).entry m.door = some f) :
    f.started = false ∧ f.origin = m.origin ∧ f.direction = m.direction := by
  have hnew : ((renewed m s).zeroOas m.door).entry m.door = some (m.newEntry (s.preWarn m.door) (arrivalFor m.door s)) :=
    (entry_setEntry ..).trans (if_pos rfl)
  rw [enqueue_eq] at hf
  split at hf
  · have hsame : some (m.newEntry (s.preWarn m.door) (arrivalFor m.door s)) = some f := hnew.symm.trans hf
    cases hsame
    exact ⟨rfl, rfl, rfl⟩
  · obtain ⟨e, he, horigin, hdir, hstarted⟩ := started_pass hf
    have hsame : some (m.newEntry (s.preWarn m.door) (arrivalFor m.door s)) = some e := hnew.symm.trans he
    cases hsame
    exact ⟨hstarted.elim id id, horigin, hdir⟩

end

end Sys2Proof.Proofs
end

section
/-! ## Passages at a presentation, and the removal of a demanded reclose (R117 to R119, R121, R123) -/
namespace Sys2Proof.Proofs
open Sys2Proof Sys2Proof.Machine

set_option Elab.async false

section
variable {s t u w : State} {d y : DoorIx} {x : Passage} {e : Entry} {c : RemovalCause}

/-! ### The clear of CLOSED -/

/-- R123: MC clears DOOR_OPEN_AT_SEA where the door is presented CLOSED. -/
def shut (d : DoorIx) (s : State) : State := if s.position d = .CLOSED then clearDoor .DOOR_OPEN_AT_SEA d s else s

theorem shut_of_ne (h : s.position d ≠ .CLOSED) : shut d s = s := if_neg h

theorem shut_frame (d : DoorIx) (s : State) : AlarmFrame s (shut d s) := by
  unfold shut
  split
  · exact .clearDoor ..
  · exact .refl s

theorem alarmLaw_shut (h : AlarmLaw s) : AlarmLaw (shut d s) := by
  unfold shut
  split
  · exact alarmLaw_clearAlarm h ..
  · exact h

theorem cleared_shut (h : AlarmLaw s) (hp : s.position d = .CLOSED) : Cleared (shut d s) .DOOR_OPEN_AT_SEA d.val := by
  unfold shut
  rw [if_pos hp]
  exact cleared_clearAlarm h (by decide)

theorem presentPassage_none (h : s.passage d = none) : presentPassage d s = shut d s := by
  have hu : (shut d s).passage d = none := (passage_of_mc_passages (by rw [(shut_frame d s).mc]) d).trans h
  show (match (shut d s).passage d with | some x => progressPassage d x (shut d s) | none => shut d s) = _
  rw [hu]

theorem presentPassage_some (h : s.passage d = some x) : presentPassage d s = progressPassage d x (shut d s) := by
  have hu : (shut d s).passage d = some x := (passage_of_mc_passages (by rw [(shut_frame d s).mc]) d).trans h
  show (match (shut d s).passage d with | some x => progressPassage d x (shut d s) | none => shut d s) = _
  rw [hu]

/-! ### The end of a record -/

/-- What the end of a door's record leaves of the state before. -/
structure RecordEnded (d : DoorIx) (s t : State) : Prop where
  gone : t.passage d = none
  cleared : AlarmLaw s → Cleared t .PASSAGE_OVERDUE d.val
  others : ∀ y : DoorIx, y ≠ d → t.passage y = s.passage y
  cs : t.cs = s.cs
  rc : t.rc = s.rc
  gru : t.gru = s.gru

theorem recordEnded (d : DoorIx) (s : State) : RecordEnded d s (endPassage d s) where
  gone := (passage_endPassage ..).trans (if_pos rfl)
  cleared h := cleared_clearAlarm (s := s.dropPassage d) h (by decide)
  others := (Ending.endPassage d s).others
  cs := (Ending.endPassage d s).cs
  rc := (Ending.endPassage d s).rc
  gru := (Ending.endPassage d s).gru

theorem RecordEnded.after (h : RecordEnded d u t) (hcs : u.cs = s.cs) (hrc : u.rc = s.rc) (hgru : u.gru = s.gru)
    (hlaw : AlarmLaw s → AlarmLaw u) (hothers : ∀ y : DoorIx, y ≠ d → u.passage y = s.passage y) : RecordEnded d s t where
  gone := h.gone
  cleared hs := h.cleared (hlaw hs)
  others y hy := (h.others y hy).trans (hothers y hy)
  cs := h.cs.trans hcs
  rc := h.rc.trans hrc
  gru := h.gru.trans hgru

theorem RecordEnded.shut (h : RecordEnded d (shut d s) t) : RecordEnded d s t :=
  have hf := shut_frame d s
  h.after hf.cs hf.rc hf.gru alarmLaw_shut fun _ _ => passage_of_mc_passages (by rw [hf.mc]) _

theorem passage_setPassage (x : Passage) (s : State) (d y : DoorIx) :
    (s.setPassage d x).passage y = if d = y then some x else s.passage y := by
  simp only [State.setPassage, State.passage, Fin.getElem_fin, getElem_put, Fin.val_inj]

theorem RecordEnded.set (h : RecordEnded d (s.setPassage d x) t) : RecordEnded d s t :=
  h.after rfl rfl rfl id fun _ hy => (passage_setPassage ..).trans (if_neg hy.symm)

/-! ### A reclose submitted -/

/-- R118: the reclose demand of a door. -/
abbrev recloseDemand (d : DoorIx) (s : State) : Demand := passageDemand .CLOSE (passageClass s.mc.mode) d

theorem submitReclose_eq (d : DoorIx) (x : Passage) (s : State) :
    submitReclose d x s = recloseOutcome d (decideDemand (recloseDemand d s) (s.setPassage d { x with phase := .RECLOSING, demanded := true })).1
      (decideDemand (recloseDemand d s) (s.setPassage d { x with phase := .RECLOSING, demanded := true })).2 := rfl

theorem submitReclose_refused
    (h : (decideDemand (recloseDemand d s) (s.setPassage d { x with phase := .RECLOSING, demanded := true })).1 = .OVERRULED) :
    submitReclose d x s = endPassage d (s.setPassage d { x with phase := .RECLOSING, demanded := true }) := by
  rw [submitReclose_eq, decideDemand_refused (.inr (.inr (.inr h))), h]
  rfl

/-- R22, R119: at CLOSED, without an entry, a reclose is ALREADY, and the record ends. -/
theorem submitReclose_closed (hin : s.inService = true) (he : s.entry d = none) (hp : s.position d = .CLOSED) :
    submitReclose d x s = endPassage d (s.setPassage d { x with phase := .RECLOSING, demanded := true }) := by
  have hset : (s.setPassage d { x with phase := .RECLOSING, demanded := true }).passage d
      = some { x with phase := .RECLOSING, demanded := true } := (passage_setPassage ..).trans (if_pos rfl)
  have ho : (decideDemand (recloseDemand d s) (s.setPassage d { x with phase := .RECLOSING, demanded := true })).1 = .ALREADY := by
    refine (decideDemand_free (m := recloseDemand d s) (s := s.setPassage d { x with phase := .RECLOSING, demanded := true }) (submits_close hin rfl) he fun p hpass => .inl ?_).1 hp
    rw [show (recloseDemand d s).door = d from rfl, hset] at hpass
    cases hpass
    rfl
  obtain ⟨-, -, hstate⟩ := decideDemand_already ho
  have hstands : endBeaten (recloseDemand d s) (s.setPassage d { x with phase := .RECLOSING, demanded := true })
      = s.setPassage d { x with phase := .RECLOSING, demanded := true } := by
    unfold endBeaten passageClaims
    rw [show (recloseDemand d s).door = d from rfl, hset]
    simp
  rw [submitReclose_eq, ho, hstate, hstands]
  rfl

/-- R119: a reclose that is neither ALREADY nor OVERRULED keeps the record. -/
theorem submitReclose_kept
    (h : (decideDemand (recloseDemand d s) (s.setPassage d { x with phase := .RECLOSING, demanded := true })).1 ≠ .OVERRULED)
    (hp : s.position d ≠ .CLOSED) :
    submitReclose d x s = (decideDemand (recloseDemand d s) (s.setPassage d { x with phase := .RECLOSING, demanded := true })).2
    ∧ (submitReclose d x s).passage d = some { x with phase := .RECLOSING, demanded := true } := by
  have hnot : ¬((decideDemand (recloseDemand d s) (s.setPassage d { x with phase := .RECLOSING, demanded := true })).1 = .ALREADY
      ∨ (decideDemand (recloseDemand d s) (s.setPassage d { x with phase := .RECLOSING, demanded := true })).1 = .OVERRULED) := by
    rintro (ho | ho)
    · exact hp (decideDemand_already ho).2.1
    · exact h ho
  have heq : submitReclose d x s
      = (decideDemand (recloseDemand d s) (s.setPassage d { x with phase := .RECLOSING, demanded := true })).2 := by
    rw [submitReclose_eq]
    exact if_neg hnot
  exact ⟨heq, by rw [heq]; exact passage_decideDemand_reclosing rfl ((passage_setPassage ..).trans (if_pos rfl)) rfl⟩

/-! ### The presentation of a position -/

theorem othersStand_progressPassage (d : DoorIx) (x : Passage) (s : State) : OthersStand s (progressPassage d x s) := by
  have c := carried_othersStand
  have set (v : State) (p : Passage) : OthersStand v (v.setPassage d p) := .of_al rfl
  unfold progressPassage
  split
  · exact c.ite (set _ _) (c.refl s)
  · exact c.refl s
  · refine c.ite (c.ite (c.endPassage _ _) (c.refl s)) (c.ite (c.refl s) ?_)
    rw [submitReclose_eq]
    have decided := c.trans (set s { x with phase := .RECLOSING, demanded := true }) (c.decideDemand (recloseDemand d s) _)
    exact c.ite (c.trans decided (c.endPassage _ _)) decided

theorem cleared_of_othersStand {k : AlarmKind} {n : Nat} (h : OthersStand s t) (hk : k ∉ blockKinds) (hs : Cleared s k n) :
    Cleared t k n := fun r hr hkind hsubject => hs r ((h r (hkind ▸ hk)).mp hr) hkind hsubject

/-- R123: a presentation of CLOSED clears DOOR_OPEN_AT_SEA. -/
theorem cleared_presentPassage (h : AlarmLaw s) (hp : s.position d = .CLOSED) :
    Cleared (presentPassage d s) .DOOR_OPEN_AT_SEA d.val := by
  have hc := cleared_shut h hp
  cases hx : s.passage d with
  | none => rw [presentPassage_none hx]; exact hc
  | some x =>
    rw [presentPassage_some hx]
    exact cleared_of_othersStand (othersStand_progressPassage d x _) (by decide) hc

end

/-- R117 to R119, R123: the passage at a presentation of the position. -/
theorem passageAtPosition (d : DoorIx) (s : State) (hin : s.inService = true) :
    let t := presentPassage d s
    let now := s.position d
    let stands := (now ≠ .CLOSED → t = s) ∧ t.mc = s.mc ∧ t.cs = s.cs ∧ t.rc = s.rc ∧ t.gru = s.gru
    let becomes := fun (x : Passage) => { s with mc := { s.mc with passages := s.mc.passages.set d (some x) } }
    let ended := t.passage d = none ∧ (AlarmLaw s → Cleared t .PASSAGE_OVERDUE d.val)
      ∧ (∀ y : DoorIx, y ≠ d → t.passage y = s.passage y) ∧ t.cs = s.cs ∧ t.rc = s.rc ∧ t.gru = s.gru
    let reclose := (⟨d, .CLOSE, if s.mc.mode = .EMERGENCY then 3 else 2, .C, .PASSAGE, none⟩ : Demand)
    (now = .CLOSED → AlarmLaw s → Cleared t .DOOR_OPEN_AT_SEA d.val)
    ∧ (s.passage d = none → stands)
    ∧ ∀ x ∈ s.passage d,
        (x.phase = .OPENING → now = .OPEN → s.handle d = .OPEN → t = becomes { x with phase := .HELD })
        ∧ (x.phase = .OPENING → now ≠ .OPEN ∨ s.handle d ≠ .OPEN → stands)
        ∧ (x.phase = .HELD → stands)
        ∧ (x.phase = .RECLOSING → x.demanded = true → (now = .CLOSED → ended) ∧ (now ≠ .CLOSED → t = s))
        ∧ (x.phase = .RECLOSING → x.demanded = false →
            let o := (decideDemand reclose (becomes { x with demanded := true })).1
            let u := (decideDemand reclose (becomes { x with demanded := true })).2
            (now = .OPENING → t = s)
            ∧ (now ≠ .OPENING → now ≠ .CLOSED →
                (o = .OVERRULED → ended) ∧ (o ≠ .OVERRULED → t = u ∧ t.passage d = some { x with demanded := true }))
            ∧ (now = .CLOSED → s.entry d = none → ended)) := by
  intro t now stands becomes ended reclose
  have hf := shut_frame d s
  have standing (h : t = shut d s) : stands := by
    rw [show stands ↔ ((now ≠ .CLOSED → t = s) ∧ t.mc = s.mc ∧ t.cs = s.cs ∧ t.rc = s.rc ∧ t.gru = s.gru) from Iff.rfl, h]
    exact ⟨fun hne => shut_of_ne hne, hf.mc, hf.cs, hf.rc, hf.gru⟩
  have ending (h : RecordEnded d s t) : ended := ⟨h.gone, h.cleared, h.others, h.cs, h.rc, h.gru⟩
  have hposition : (shut d s).position d = now := by unfold State.position; rw [hf.rc]; rfl
  have hhandle : (shut d s).handle d = s.handle d := by unfold State.handle; rw [hf.rc]
  refine ⟨fun hp hlaw => cleared_presentPassage hlaw hp, fun hnone => standing (presentPassage_none hnone), fun x hx => ?_⟩
  have ht : t = progressPassage d x (shut d s) := presentPassage_some (Option.mem_def.mp hx)
  unfold progressPassage at ht
  rw [hposition, hhandle] at ht
  refine ⟨fun hph hopen hhand => ?_, fun hph hnot => ?_, fun hph => ?_, fun hph hdem => ⟨fun hclosed => ?_, fun hne => ?_⟩, fun hph hdem => ?_⟩
  · simp only [hph] at ht
    rw [if_pos ⟨hopen, hhand⟩, shut_of_ne (by rw [show s.position d = _ from hopen]; decide)] at ht
    exact ht
  · simp only [hph] at ht
    rw [if_neg (fun h => hnot.elim (· h.1) (· h.2))] at ht
    exact standing ht
  · simp only [hph] at ht
    exact standing ht
  · simp only [hph, hdem, if_true] at ht
    rw [if_pos hclosed] at ht
    exact ending (by rw [ht]; exact (recordEnded d (shut d s)).shut)
  · simp only [hph, hdem, if_true] at ht
    rw [if_neg hne, shut_of_ne hne] at ht
    exact ht
  · intro o u
    have hx : ({ x with phase := .RECLOSING, demanded := true } : Passage) = { x with demanded := true } := by rw [← hph]
    simp only [hph, hdem, Bool.false_eq_true, if_false] at ht
    refine ⟨fun hopening => ?_, fun hne hopen => ⟨fun ho => ?_, fun ho => ?_⟩, fun hclosed he => ?_⟩
    · rw [if_pos hopening, shut_of_ne (by rw [show s.position d = _ from hopening]; decide)] at ht
      exact ht
    · rw [if_neg hne, shut_of_ne hopen, submitReclose_refused (by rw [hx]; exact ho)] at ht
      exact ending (by rw [ht]; exact (recordEnded d _).set)
    · rw [if_neg hne, shut_of_ne hopen] at ht
      obtain ⟨hstate, hpassage⟩ := submitReclose_kept (x := x) (s := s) (d := d) (by rw [hx]; exact ho) hopen
      rw [hx] at hstate hpassage
      exact ⟨ht.trans hstate, by rw [ht]; exact hpassage⟩
    · have hu : (shut d s).entry d = none := (entry_congr (by rw [hf.cs]) d).trans he
      have hserves : (shut d s).inService = true := (inService_congr hf.cfs).trans hin
      rw [if_neg (by rw [hclosed]; decide), submitReclose_closed hserves hu (hposition.trans hclosed)] at ht
      exact ending (by rw [ht]; exact (recordEnded d _).set.shut)

end Sys2Proof.Proofs
end

section
/-! ## The end of hold (R118, R119) -/
namespace Sys2Proof.Proofs
open Sys2Proof Sys2Proof.Machine

set_option Elab.async false

section
variable {s t u v w : State} {d y : DoorIx} {x : Passage} {e : Entry} {c : RemovalCause}

/-! ### The removal of a demanded reclose -/

theorem recloseGone_reclosing (hx : s.passage d = some x) (hph : x.phase = .RECLOSING) (hdem : x.demanded = true) :
    recloseGone d .CLOSE s = endPassage d s := by
  unfold recloseGone Passage.reclosed
  rw [hx]
  simp [hph, hdem]

theorem cleared_takeOut (he : s.entry d = some e) (hdir : e.direction = .CLOSE) (hx : s.passage d = some x) (hph : x.phase = .RECLOSING)
    (hdem : x.demanded = true) (c : RemovalCause) (hlaw : AlarmLaw s) : Cleared (takeOut c d s) .PASSAGE_OVERDUE d.val := by
  have hrel := released_eq he
  have hreport := ReportFrame.report c e.tag (released d e s)
  rw [takeOut_eq he, hdir]
  generalize c.report e.tag (released d e s) = v at hreport
  have hw := queueOrder?_eq d (c.order e.phase) (v.dropEntry d)
  generalize queueOrder? d (c.order e.phase) (v.dropEntry d) = w at hw
  have hal : w.al = s.al := by
    rw [hw]
    show v.al = _
    rw [hreport.al, hrel]
  have hpassage : w.passage d = some x := by
    refine (passage_of_mc_passages (s := s) ?_ d).trans hx
    rw [hw]
    show v.mc.passages = _
    rw [hreport.mc, hrel]
  rw [recloseGone_reclosing hpassage hph hdem]
  exact (recordEnded d w).cleared ((alarmLaw_congr (congrArg Al.records hal)).mpr hlaw)

/-- R119, R121: the removal of the CLOSE entry ends a demanded reclose. -/
theorem recloseRemoved (c : RemovalCause) (hx : s.passage d = some x) (hph : x.phase = .RECLOSING) (hdem : x.demanded = true)
    (he : s.entry d = some e) (hdir : e.direction = .CLOSE) :
    (removeEntry c d s).passage d = none ∧ (AlarmLaw s → Cleared (removeEntry c d s) .PASSAGE_OVERDUE d.val) := by
  have hr := removed he c
  refine ⟨?_, fun hlaw => ?_⟩
  · rw [hr.closed hdir, hx, Option.filter_some]
    simp [hph, hdem]
  · have hout := cleared_takeOut he hdir hx hph hdem c hlaw
    rw [removeEntry_eq he]
    have hv := readmitted_frame d e s (takeOut c d s)
    exact cleared_of_onlyAlarms (onlyAlarms_clearAlarm ..) (by simp) (by decide)
      (cleared_of_onlyAlarms hv.alarms (by simp) (by decide) hout)

/-! ### The PASSAGE entry released -/

/-- The entry of the door, if it has one, is the passage's own OPEN entry. -/
abbrev OwnEntry (d : DoorIx) (s : State) : Prop := ∀ e ∈ s.entry d, e.direction = .OPEN ∧ e.origin = .PASSAGE

/-- What stands of a state after the release of the passage's entry. -/
structure PassageFreed (d : DoorIx) (s v : State) : Prop extends RunFrame s v where
  passages : ∀ y : DoorIx, v.passage y = s.passage y
  claims : ∀ y : DoorIx, y ≠ d → claimOf v y = claimOf s y
  arrival : v.cs.nextArrival = s.cs.nextArrival
  ms : v.ms = s.ms
  law : AlarmLaw s → AlarmLaw v

theorem passageFreed (d : DoorIx) (s : State) : PassageFreed d s (releasePassageEntry d s) := by
  have stands : PassageFreed d s s := ⟨.refl s, fun _ => rfl, fun _ _ => rfl, rfl, rfl, id⟩
  unfold releasePassageEntry
  split
  · next e he =>
    split
    · next hown =>
      have hr := removed he .RELEASE
      refine ⟨hr.toRunFrame, fun y => ?_, hr.claims, nextArrival_removed he _, hr.ms, alarmLaw_steps (.removeEntry .RELEASE d s)⟩
      by_cases hy : y = d
      · rw [hy]; exact hr.opened hown.1
      · exact hr.others y hy
    · exact stands
  · exact stands

theorem freed_gone (hown : OwnEntry d s) : (releasePassageEntry d s).entry d = none := by
  unfold releasePassageEntry
  split
  · next e he =>
    rw [if_pos (hown e he)]
    exact (removed he .RELEASE).gone
  · next he => exact he

theorem freed_stopped (hown : OwnEntry d s) (hm : phaseOf s d = some .MOVING) : Pending (releasePassageEntry d s) d .STOP := by
  obtain ⟨e, he, hph⟩ := Option.map_eq_some_iff.mp hm
  unfold releasePassageEntry
  rw [he]
  simp only
  rw [if_pos (hown e he)]
  exact (removed he .RELEASE).ordered .STOP (by simp [RemovalCause.order, hph])

theorem freed_overtime (hown : OwnEntry d s) (hsome : (s.entry d).isSome = true) (hlaw : AlarmLaw s) :
    Cleared (releasePassageEntry d s) .TRAVEL_OVERTIME d.val := by
  obtain ⟨e, he⟩ := Option.isSome_iff_exists.mp hsome
  unfold releasePassageEntry
  rw [he]
  simp only
  rw [if_pos (hown e he)]
  exact (removed he .RELEASE).overtime hlaw

theorem freed_of_other (he : s.entry d = some e) (h : ¬(e.direction = .OPEN ∧ e.origin = .PASSAGE)) : releasePassageEntry d s = s := by
  unfold releasePassageEntry
  rw [he]
  exact if_neg h

/-! ### The handle leaves OPEN -/

/-- R114, R118: out of LOCAL the handle that leaves OPEN for IDLE or CLOSE ends the hold, and asks for nothing. -/
theorem presentHandle_ends (hmode : s.mc.mode ≠ .LOCAL) (hhandle : s.handle d = .IDLE ∨ s.handle d = .CLOSE) (hx : s.passage d = some x)
    (hph : x.phase ≠ .RECLOSING) (hlocal : ∀ e ∈ s.entry d, e.origin ≠ .LOCAL) : presentHandle d .OPEN s = endHold d x s := by
  have hfree : releaseLocal d s = s := by
    unfold releaseLocal
    split
    · next e he => exact if_neg fun h => hlocal e he h.1
    · rfl
  have hend : endHoldOf d s = endHold d x s := by
    unfold endHoldOf
    rw [hx]
    exact if_neg hph
  have hasks (u : State) (hu : u.mc.mode ≠ .LOCAL) : handleDemand d (s.handle d) u = u := by
    unfold handleDemand
    obtain hh | hh := hhandle
    · rw [hh]
    · rw [hh]
      cases hm : u.mc.mode
      case LOCAL => exact absurd hm hu
      all_goals rfl
  have hchange : handleChange d .OPEN (s.handle d) s = handleDemand d (s.handle d) (endHold d x s) := by
    rw [← hend]
    unfold handleChange
    simp only [hfree, if_true, true_or, true_and, ne_eq, hmode, not_false_eq_true]
  have hne : ¬(s.handle d = .OPEN ∨ s.handle d = .UNKNOWN) := by
    obtain hh | hh := hhandle <;> rw [hh] <;> decide
  unfold presentHandle
  simp only
  rw [if_neg hne, hchange]
  have hkept := (RunFrame.endHoldOf d s).mode
  rw [hend] at hkept
  exact hasks _ (by rw [hkept]; exact hmode)

theorem endHold_opening (h : s.position d = .OPENING) :
    endHold d x s = (releasePassageEntry d s).setPassage d { x with phase := .RECLOSING, demanded := false } := by
  have hp : (releasePassageEntry d s).position d = .OPENING := (position_of_orders (RunFrame.releasePassageEntry d s).orders).trans h
  exact if_pos hp

theorem endHold_submits (h : s.position d ≠ .OPENING) : endHold d x s = submitReclose d x (releasePassageEntry d s) := by
  have hp : (releasePassageEntry d s).position d ≠ .OPENING := by
    rw [position_of_orders (RunFrame.releasePassageEntry d s).orders]
    exact h
  exact if_neg hp

/-! ### What the end of hold keeps -/

/-- What the end of hold keeps beside the door. -/
structure HoldBeside (d : DoorIx) (s t : State) : Prop extends RunFrame s t where
  ms : t.ms = s.ms
  others : ∀ y : DoorIx, y ≠ d → claimOf t y = claimOf s y ∧ t.passage y = s.passage y

theorem HoldBeside.refl (d : DoorIx) (s : State) : HoldBeside d s s := ⟨.refl s, rfl, fun _ _ => ⟨rfl, rfl⟩⟩
theorem HoldBeside.trans (h : HoldBeside d s t) (g : HoldBeside d t u) : HoldBeside d s u :=
  ⟨h.toRunFrame.trans g.toRunFrame, g.ms.trans h.ms, fun y hy =>
    ⟨(g.others y hy).1.trans (h.others y hy).1, (g.others y hy).2.trans (h.others y hy).2⟩⟩

theorem HoldBeside.setPassage (d : DoorIx) (x : Passage) (s : State) : HoldBeside d s (s.setPassage d x) :=
  ⟨.setPassage .., rfl, fun _ hy => ⟨rfl, (passage_setPassage ..).trans (if_neg hy.symm)⟩⟩

theorem HoldBeside.endPassage (d : DoorIx) (s : State) : HoldBeside d s (endPassage d s) :=
  have h := Ending.endPassage d s
  ⟨h.toRunFrame, h.ms, fun y hy => ⟨congrArg (Option.map Entry.claim) (entry_congr (by rw [h.cs]) y), h.others y hy⟩⟩

theorem HoldBeside.submitReclose (hin : s.inService = true) (htop : s.cs.nextArrival ≠ arrivalTop) (x : Passage) :
    HoldBeside d s (submitReclose d x s) := by
  have hset := HoldBeside.setPassage d { x with phase := .RECLOSING, demanded := true } s
  have hdecided : HoldBeside d (s.setPassage d { x with phase := .RECLOSING, demanded := true })
      (decideDemand (recloseDemand d s) (s.setPassage d { x with phase := .RECLOSING, demanded := true })).2 :=
    ⟨.decideDemand .., decideDemand_ms .., fun y hy => decideDemand_others (m := recloseDemand d s) hin htop hy⟩
  rw [submitReclose_eq]
  unfold recloseOutcome
  split
  · exact (hset.trans hdecided).trans (.endPassage ..)
  · exact hset.trans hdecided

theorem HoldBeside.endHold (hin : s.inService = true) (htop : s.cs.nextArrival ≠ arrivalTop) (x : Passage) :
    HoldBeside d s (endHold d x s) := by
  have hf := passageFreed d s
  have hfreed : HoldBeside d s (releasePassageEntry d s) := ⟨hf.toRunFrame, hf.ms, fun y hy => ⟨hf.claims y hy, hf.passages y⟩⟩
  by_cases h : s.position d = .OPENING
  · rw [endHold_opening h]
    exact hfreed.trans (.setPassage ..)
  · rw [endHold_submits h]
    exact hfreed.trans (.submitReclose ((inService_congr hf.cfs).trans hin) (by rw [hf.arrival]; exact htop) x)

/-! ### The reclose submitted -/

/-- The reclose of a door whose passage's own entry was released: it stands in its pre-warning, or READY, or admitted. -/
structure Reclosed (d : DoorIx) (x : Passage) (s t : State) : Prop where
  claim : claimOf t d = some (.CLOSE, if s.mc.mode = .EMERGENCY then 3 else 2, .C, .PASSAGE, none, s.cs.nextArrival)
  passage : t.passage d = some { x with phase := .RECLOSING, demanded := true }
  warned : 0 < s.preWarn d → phaseOf t d = some .WARNING ∧ Pending t d .WARN
  ready : s.preWarn d = 0 → phaseOf t d = some .READY ∨ phaseOf t d = some .MOVING
  fresh : ∀ e, t.entry d = some e → e.started = false ∧ e.origin = .PASSAGE ∧ e.direction = .CLOSE
  overtime : Cleared s .TRAVEL_OVERTIME d.val → Cleared t .TRAVEL_OVERTIME d.val
  gru : t.gru = s.gru

theorem reclosed (hin : s.inService = true) (he : s.entry d = none) (hp : s.position d ≠ .CLOSED) (htop : s.cs.nextArrival ≠ arrivalTop)
    (x : Passage) : Reclosed d x s (submitReclose d x s) := by
  generalize hw : s.setPassage d { x with phase := .RECLOSING, demanded := true } = w
  have hset : w.passage d = some { x with phase := .RECLOSING, demanded := true } := by
    rw [← hw]
    exact (passage_setPassage ..).trans (if_pos rfl)
  have hwin : w.inService = true := by rw [← hw]; exact hin
  have ho : (decideDemand (recloseDemand d s) w).1 = .ENQUEUED := by
    refine (decideDemand_free (submits_close hwin rfl) (by rw [← hw]; exact he) fun p hpass => .inl ?_).2 (by rw [← hw]; exact hp)
    rw [show (recloseDemand d s).door = d from rfl, hset] at hpass
    cases hpass
    rfl
  obtain ⟨hstate, hpassage⟩ := submitReclose_kept (x := x) (d := d) (s := s) (by rw [hw, ho]; decide) hp
  rw [hw] at hstate
  rw [hstate] at hpassage ⊢
  obtain ⟨hclaim, -, -, hwarn, -, hready, -, -, -, -, -, hgru, -⟩ := demandEnqueued.1 (recloseDemand d s) w hwin ho (by rw [← hw]; exact htop)
  obtain ⟨-, henqueued⟩ := decide_enqueued ho
  have hbeaten : endBeaten (recloseDemand d s) w = w := by
    unfold endBeaten passageClaims
    rw [show (recloseDemand d s).door = d from rfl, hset]
    simp
  rw [hbeaten] at henqueued
  have hwpre : w.preWarn d = s.preWarn d := by rw [← hw]; rfl
  have hwarrival : w.cs.nextArrival = s.cs.nextArrival := by rw [← hw]; rfl
  have hwgru : w.gru = s.gru := by rw [← hw]; rfl
  have hwal : w.al = s.al := by rw [← hw]; rfl
  clear hw
  refine ⟨by rw [hwarrival] at hclaim; exact hclaim, hpassage, fun h => ?_, fun h => ?_, fun e hent => ?_, fun hc => ?_, hgru.trans hwgru⟩
  · obtain ⟨hphase, -, hpending, -⟩ := hwarn rfl (show Origin.PASSAGE ≠ .LOCAL by decide) (by show 0 < w.preWarn d; rw [hwpre]; exact h)
    exact ⟨hphase, hpending⟩
  · exact (hready (.inr (.inr (hwpre.trans h)))).imp_right And.left
  · rw [henqueued] at hent
    exact enqueued_entry hent
  · rw [henqueued]
    obtain ⟨h, honly⟩ := onlyAlarms_enqueue (recloseDemand d s) w
    exact cleared_of_onlyAlarms honly (by simp) (by decide) ((cleared_congr hwal).mpr hc)

end

/-- R118, R119: the handle leaves OPEN. -/
theorem holdEnds (d : DoorIx) (s : State) (hin : s.inService = true) (hmode : s.mc.mode ≠ .LOCAL)
    (hhandle : s.handle d = .IDLE ∨ s.handle d = .CLOSE) (htop : s.cs.nextArrival ≠ arrivalTop) (x : Passage) (hx : x ∈ s.passage d)
    (hph : x.phase ≠ .RECLOSING) (hlocal : ∀ e ∈ s.entry d, e.origin ≠ .LOCAL) :
    let t := presentHandle d .OPEN s
    let now := s.position d
    let cls := if s.mc.mode = .EMERGENCY then 3 else 2
    let own := ∀ e ∈ s.entry d, e.direction = .OPEN ∧ e.origin = .PASSAGE
    let recloses := fun (b : Bool) => t.passage d = some { x with phase := .RECLOSING, demanded := b }
    (own → now = .OPENING → t.entry d = none ∧ recloses false ∧ (phaseOf s d = some .MOVING → Pending t d .STOP))
    ∧ (own → now = .CLOSED → t.entry d = none ∧ t.passage d = none ∧ (AlarmLaw s → Cleared t .PASSAGE_OVERDUE d.val))
    ∧ (own → now ≠ .OPENING → now ≠ .CLOSED →
        claimOf t d = some (.CLOSE, cls, .C, .PASSAGE, none, s.cs.nextArrival) ∧ recloses true
        ∧ (0 < s.preWarn d → phaseOf t d = some .WARNING ∧ Pending t d .WARN)
        ∧ (s.preWarn d = 0 → phaseOf t d = some .READY ∨ phaseOf t d = some .MOVING))
    ∧ (own → (s.entry d).isSome = true → AlarmLaw s → Cleared t .TRAVEL_OVERTIME d.val)
    ∧ (∀ e ∈ s.entry d, e.direction = .OPEN → e.origin ≠ .PASSAGE →
        (now = .OPENING → t.entry d = some e ∧ recloses false)
        ∧ (now ≠ .OPENING →
            ¬Beats s.tables.system.orderCode ⟨d, .CLOSE, cls, .C, .PASSAGE, none⟩ ⟨.OPEN, e.cls, e.group⟩ →
            t.entry d = some e ∧ t.passage d = none))
    ∧ t.ms = s.ms ∧ t.mc.sea = s.mc.sea ∧ (∀ y : DoorIx, y ≠ d → claimOf t y = claimOf s y ∧ t.passage y = s.passage y)
    ∧ OnlyOrders s t ∧ Aside s t := by
  intro t now cls own recloses
  have ht : t = endHold d x s := presentHandle_ends hmode hhandle hx hph hlocal
  have hbeside := HoldBeside.endHold (d := d) hin htop x
  rw [← ht] at hbeside
  have hf := passageFreed d s
  have hvin : (releasePassageEntry d s).inService = true := (inService_congr hf.cfs).trans hin
  have hvposition : (releasePassageEntry d s).position d = now := position_of_orders hf.orders
  have hvmode : (releasePassageEntry d s).mc.mode = s.mc.mode := hf.mode
  have hvtop : (releasePassageEntry d s).cs.nextArrival ≠ arrivalTop := by rw [hf.arrival]; exact htop
  have hvwarn : (releasePassageEntry d s).preWarn d = s.preWarn d := by unfold State.preWarn; rw [hf.tables]
  clear_value t
  refine ⟨fun hown hp => ?_, fun hown hp => ?_, fun hown hne hclosed => ?_, fun hown hsome hlaw => ?_, fun e he hdir horigin => ⟨fun hp => ?_, fun hp hbeats => ?_⟩,
    hbeside.ms, hbeside.sea, hbeside.others, hbeside.orders, aside_of_block hbeside.toBlockFrame⟩
  · rw [endHold_opening hp] at ht
    refine ⟨by rw [ht]; exact freed_gone hown, ?_, fun hm => ?_⟩
    · show t.passage d = _
      rw [ht]
      exact (passage_setPassage ..).trans (if_pos rfl)
    · rw [ht]
      exact freed_stopped hown hm
  · rw [endHold_submits (by rw [show s.position d = _ from hp]; decide), submitReclose_closed hvin (freed_gone hown) (hvposition.trans hp)] at ht
    have hend := recordEnded d ((releasePassageEntry d s).setPassage d { x with phase := .RECLOSING, demanded := true })
    rw [← ht] at hend
    exact ⟨(entry_congr (by rw [hend.cs]; rfl) d).trans (freed_gone hown), hend.gone, fun hlaw => hend.cleared (hf.law hlaw)⟩
  · rw [endHold_submits hne] at ht
    have hr := reclosed hvin (freed_gone hown) (by rw [hvposition]; exact hclosed) hvtop x
    rw [← ht] at hr
    obtain ⟨hclaim, hpassage, hwarned, hready, -⟩ := hr
    rw [hvmode, hf.arrival] at hclaim
    rw [hvwarn] at hwarned hready
    exact ⟨hclaim, hpassage, hwarned, hready⟩
  · have hc := freed_overtime hown hsome hlaw
    by_cases hp : s.position d = .OPENING
    · rw [endHold_opening hp] at ht
      rw [ht]
      exact (cleared_congr rfl).mpr hc
    · rw [endHold_submits hp] at ht
      by_cases hclosed : s.position d = .CLOSED
      · rw [submitReclose_closed hvin (freed_gone hown) (hvposition.trans hclosed)] at ht
        rw [ht]
        exact cleared_of_onlyAlarms (onlyAlarms_clearAlarm ..) (by simp) (by decide) ((cleared_congr rfl).mpr hc)
      · have hr := reclosed hvin (freed_gone hown) (by rw [hvposition]; exact hclosed) hvtop x
        rw [← ht] at hr
        exact hr.overtime hc
  · rw [endHold_opening hp, freed_of_other he fun h => horigin h.2] at ht
    refine ⟨by rw [ht]; exact he, ?_⟩
    show t.passage d = _
    rw [ht]
    exact (passage_setPassage ..).trans (if_pos rfl)
  · rw [endHold_submits hp, freed_of_other he fun h => horigin h.2] at ht
    rw [submitReclose_refused (decideDemand_overruled hin rfl he hdir hbeats)] at ht
    have hend := recordEnded d (s.setPassage d { x with phase := .RECLOSING, demanded := true })
    rw [← ht] at hend
    exact ⟨(entry_congr (by rw [hend.cs]; rfl) d).trans he, hend.gone⟩

end Sys2Proof.Proofs
end

section
/-! ## An EVENT that repeats the position: the actions beside the handle's (entry 1) -/
namespace Sys2Proof.Proofs
open Sys2Proof Sys2Proof.Machine

set_option Elab.async false

/-- The presented position repeats the one before, and neither ends nor faults the door's entry, nor moves its passage. -/
structure Repeats (d : DoorIx) (b : Before) (s : State) : Prop where
  position : s.position d = b.position
  deaf : Deaf [] s
  opening : ∀ x, s.passage d = some x → x.phase = .OPENING → s.position d ≠ .OPEN
  reclosing : ∀ x, s.passage d = some x → x.phase = .RECLOSING → x.demanded = true ∧ s.position d ≠ .CLOSED
  away : ∀ e, s.entry d = some e → s.position d ≠ e.direction.target
  unstarted : ∀ e, s.entry d = some e → e.phase = .MOVING → e.started = false ∨ s.position d = e.direction.moving
  held : ∀ e, s.entry d = some e → e.origin = .LOCAL → s.handle d ≠ .IDLE

/-- Beside alarms, and the start of the door's own entry, the blocks stand. -/
structure Claimed (d : DoorIx) (s t : State) : Prop where
  claims : ∀ x : DoorIx, claimOf t x = claimOf s x
  phases : ∀ x : DoorIx, phaseOf t x = phaseOf s x
  mc : t.mc = s.mc
  gru : t.gru = s.gru
  rc : t.rc = s.rc
  tables : t.tables = s.tables
  cfs : t.cfs = s.cfs
  arrival : t.cs.nextArrival = s.cs.nextArrival
  latch : s.latch d = .NONE → t.latch d = .NONE

section
variable {s t u : State} {d x : DoorIx} {b : Before} {e : Entry}

theorem Claimed.refl (d : DoorIx) (s : State) : Claimed d s s := ⟨fun _ => rfl, fun _ => rfl, rfl, rfl, rfl, rfl, rfl, rfl, id⟩
theorem Claimed.trans (h : Claimed d s t) (g : Claimed d t u) : Claimed d s u :=
  ⟨fun x => (g.claims x).trans (h.claims x), fun x => (g.phases x).trans (h.phases x), g.mc.trans h.mc, g.gru.trans h.gru, g.rc.trans h.rc,
    g.tables.trans h.tables, g.cfs.trans h.cfs, g.arrival.trans h.arrival, fun hl => g.latch (h.latch hl)⟩

theorem Claimed.of_frame (h : AlarmFrame s t) (hl : s.latch d = .NONE → t.latch d = .NONE) : Claimed d s t where
  claims x := congrArg (Option.map Entry.claim) (entry_congr (by rw [h.cs]) x)
  phases x := congrArg (Option.map Entry.phase) (entry_congr (by rw [h.cs]) x)
  mc := h.mc
  gru := h.gru
  rc := h.rc
  tables := h.tables
  cfs := h.cfs
  arrival := by rw [h.cs]
  latch := hl

theorem claimed_clearAtRest (d : DoorIx) (s : State) : Claimed d s (clearAtRest d s) :=
  have h := rested d s
  .of_frame h.frame fun hl => h.either.elim (·.trans hl) id

theorem claimed_shut (d : DoorIx) (s : State) : Claimed d s (shut d s) := by
  refine .of_frame (shut_frame d s) fun hl => ?_
  have hms : (shut d s).ms = s.ms := by
    unfold shut
    split
    · exact ms_clearAlarm (by decide)
    · rfl
  unfold State.latch at hl ⊢
  rw [hms, hl]

theorem claimed_startEntry (he : s.entry d = some e) : Claimed d s (startEntry d e s) := by
  have hentry (x : DoorIx) : (startEntry d e s).entry x = if d = x then some { e with started := true, startWindow := 0 } else s.entry x :=
    entry_setEntry ..
  refine ⟨fun x => ?_, fun x => ?_, rfl, rfl, rfl, rfl, rfl, rfl, id⟩
  · unfold claimOf
    rw [hentry]
    split
    · next hx => subst hx; rw [he]; rfl
    · rfl
  · unfold phaseOf
    rw [hentry]
    split
    · next hx => subst hx; rw [he]; rfl
    · rfl

theorem Claimed.position (h : Claimed d s t) : t.position x = s.position x := by unfold State.position; rw [h.rc]
theorem Claimed.handle (h : Claimed d s t) : t.handle x = s.handle x := by unfold State.handle; rw [h.rc]
theorem Claimed.passage (h : Claimed d s t) : t.passage x = s.passage x := passage_of_mc_passages (by rw [h.mc]) x

theorem Claimed.pending {k : OrderKind} (h : Claimed d s t) (hp : Pending s x k) : Pending t x k := by
  show _ ∈ t.rc.orders
  rw [h.rc]
  exact hp

theorem Claimed.entry_none (h : Claimed d s t) (he : s.entry x = none) : t.entry x = none := by
  have := h.claims x
  unfold claimOf at this
  rw [he] at this
  exact Option.map_eq_none_iff.mp this

/-- The door's entry stands, but that it may have started. -/
abbrev Starts (d : DoorIx) (s t : State) : Prop := t.entry d = s.entry d
  ∨ ∃ e, s.entry d = some e ∧ s.position d = e.direction.moving ∧ t.entry d = some { e with started := true, startWindow := 0 }

theorem Starts.source (hs : Starts d s t) (he : t.entry d = some e) : ∃ f, s.entry d = some f ∧ e.direction = f.direction
    ∧ e.origin = f.origin ∧ e.phase = f.phase ∧ (e.started = f.started ∨ s.position d = f.direction.moving) := by
  obtain hsame | ⟨f, hf, hpos, hstarted⟩ := hs
  · exact ⟨e, hsame.symm.trans he, rfl, rfl, rfl, .inl rfl⟩
  · rw [hstarted] at he
    cases he
    exact ⟨f, hf, rfl, rfl, rfl, .inr hpos⟩

theorem Repeats.of_claimed (h : Repeats d b s) (hc : Claimed d s t) (hs : Starts d s t) : Repeats d b t := by
  refine ⟨hc.position.trans h.position, h.deaf.of_gru hc.gru, fun x hx hph => ?_, fun x hx hph => ?_, fun e he => ?_, fun e he hm => ?_,
    fun e he ho => ?_⟩
  · rw [hc.position]; exact h.opening x (hc.passage.symm.trans hx) hph
  · rw [hc.position]; exact h.reclosing x (hc.passage.symm.trans hx) hph
  · obtain ⟨f, hf, hdir, -⟩ := hs.source he
    rw [hc.position, hdir]
    exact h.away f hf
  · obtain ⟨f, hf, hdir, -, hphase, hstarted⟩ := hs.source he
    rw [hc.position, hdir]
    exact hstarted.elim (fun hst => hst ▸ h.unstarted f hf (hphase.symm.trans hm)) .inr
  · obtain ⟨f, hf, -, horigin, -⟩ := hs.source he
    rw [hc.handle]
    exact h.held f hf (horigin.symm.trans ho)

/-! ### Each action -/

theorem starts_of_cs (h : t.cs = s.cs) : Starts d s t := .inl (entry_congr (by rw [h]) d)

/-- MS clears what rest clears, and marks a MOVING entry as started at most. -/
theorem repeats_presentMS (h : Repeats d b s) : Claimed d s (presentMS d b s) ∧ Starts d s (presentMS d b s) := by
  have hrest := claimed_clearAtRest d s
  have hframe := (rested d s).frame
  have hidle (hi : MsIdle d b s) : Claimed d s (presentMS d b s) ∧ Starts d s (presentMS d b s) := by
    rw [presentMS_of_idle hi]
    exact ⟨hrest, starts_of_cs hframe.cs⟩
  cases he : s.entry d with
  | none =>
    refine hidle ⟨phaseOf_of_none he, .inr ?_⟩
    unfold foundDirection
    rw [if_pos h.position]
  | some e =>
    by_cases hm : e.phase = .MOVING
    · have hstalls : ¬stalls e (s.position d) := fun hs => (h.unstarted e he hm).elim
        (fun hst => by rw [hs.2] at hst; cases hst) fun hp => by
          rw [hs.1] at hp; cases hd : e.direction <;> rw [hd] at hp <;> cases hp
      have hwrong : ¬wrongWay e b.position (s.position d) := by
        rintro (⟨hp, hst⟩ | ⟨hp, hor⟩)
        · obtain hst' | hp' := h.unstarted e he hm
          · rw [hst] at hst'; cases hst'
          · rw [hp] at hp'; cases hd : e.direction <;> rw [hd] at hp' <;> cases hp'
        · obtain hst' | hp' := h.unstarted e he hm
          · exact hor.elim (fun hst => by rw [hst] at hst'; cases hst') fun hne => hne (h.position.symm.trans hp)
          · rw [hp] at hp'; cases hd : e.direction <;> rw [hd] at hp' <;> cases hp'
      rw [entry_of_left he (fun hl => h.held e he hl.1 hl.2.1) hm (h.away e he) hstalls hwrong]
      unfold leftStanding
      rw [position_clearAtRest]
      split
      · next hj =>
        have hu : (clearAtRest d s).entry d = some e := (entry_congr (by rw [hframe.cs]) d).trans he
        exact ⟨hrest.trans (claimed_startEntry hu), .inr ⟨e, he, (judge_starts.mp hj).1, (entry_setEntry ..).trans (if_pos rfl)⟩⟩
      · exact ⟨hrest, starts_of_cs hframe.cs⟩
    · refine hidle ⟨?_, .inl (by rw [he]; nofun)⟩
      unfold phaseOf
      rw [he]
      exact fun hp => hm (Option.some_inj.mp hp)

theorem repeats_presentPassage (h : Repeats d b s) : presentPassage d s = shut d s := by
  cases hx : s.passage d with
  | none => exact presentPassage_none hx
  | some x =>
    rw [presentPassage_some hx]
    have hf := shut_frame d s
    have hposition : (shut d s).position d = s.position d := by unfold State.position; rw [hf.rc]
    unfold progressPassage
    rw [hposition]
    split
    · next hph => exact if_neg fun hc => h.opening x hx hph hc.1
    · rfl
    · next hph =>
      obtain ⟨hdem, hne⟩ := h.reclosing x hx hph
      rw [if_pos hdem, if_neg hne]

/-- An action beside the handle's leaves this, and the claims. -/
theorem repeats_act (a : PresentAct) (ha : a ≠ .MC_HANDLE) (h : Repeats d b s) :
    Claimed d s (takePresentation d b a s) ∧ Starts d s (takePresentation d b a s) := by
  have stands {t : State} (ht : t = s) : Claimed d s t ∧ Starts d s t := by
    rw [ht]
    exact ⟨.refl d s, .inl rfl⟩
  cases a with
  | MS => exact repeats_presentMS h
  | CS => exact stands (presentCS_of_idle fun e he => .inr (h.away e he))
  | MC_PASSAGE =>
    show Claimed d s (presentPassage d s) ∧ Starts d s (presentPassage d s)
    rw [repeats_presentPassage h]
    exact ⟨claimed_shut d s, starts_of_cs (shut_frame d s).cs⟩
  | MC_HANDLE => exact absurd rfl ha
  | GRU => exact stands (forWaiting_of_deaf h.deaf d _)
  | IB => exact stands (if_pos h.position)

theorem repeats_acts (acts : List PresentAct) (ha : .MC_HANDLE ∉ acts) (h : Repeats d b s) :
    Claimed d s (forEach acts (takePresentation d b) s) ∧ Repeats d b (forEach acts (takePresentation d b) s) := by
  induction acts generalizing s with
  | nil => exact ⟨.refl d s, h⟩
  | cons a rest ih =>
    obtain ⟨hclaimed, hstarts⟩ := repeats_act a (fun he => ha (he ▸ List.mem_cons_self)) h
    obtain ⟨hrest, hlast⟩ := ih (fun hm => ha (List.mem_cons_of_mem a hm)) (h.of_claimed hclaimed hstarts)
    exact ⟨hclaimed.trans hrest, hlast⟩

/-! ### The handle's action among them -/

/-- A presentation that repeats the position: what the handle's action makes of a state that stands but for alarms, it leaves. -/
theorem repeats_handle {order : List PresentAct} (h : Repeats d b s) (horder : order.Perm presentActs)
    (hafter : ∀ u, Claimed d s u → Repeats d b u → Repeats d b (presentHandle d b.handle u)) :
    ∃ u, Claimed d s u ∧ Repeats d b u
      ∧ Claimed d (presentHandle d b.handle u) (settleRuns (forEach order (takePresentation d b) s)) := by
  obtain ⟨before, after, rfl, hbefore, hnot, -, -⟩ := order_split horder .MC_HANDLE
  rw [forEach_append]
  obtain ⟨hfirst, hu⟩ := repeats_acts before hbefore h
  generalize forEach before (takePresentation d b) s = u at hfirst hu ⊢
  obtain ⟨hlast, hw⟩ := repeats_acts after hnot (hafter u hfirst hu)
  refine ⟨u, hfirst, hu, ?_⟩
  show Claimed d _ (settleRuns (forEach after (takePresentation d b) (presentHandle d b.handle u)))
  rw [settleRuns_of_deaf hw.deaf]
  exact hlast

end

end Sys2Proof.Proofs
end

section
/-! ## An EVENT that shows the handle let go, and O44 -/
namespace Sys2Proof.Proofs
open Sys2Proof Sys2Proof.Machine

set_option Elab.async false

section
variable {s t u v w : State} {d y : DoorIx} {b : Before} {x : Passage} {p : Reported}

theorem reported_repeats (h : HandleCode) (low : Bool) (hv : Ready d (eventReported h low false s.rc.reported[d]) s v) :
    v.position d = s.position d ∧ v.handle d = reportedHandle h := ⟨hv.position, hv.handle⟩

theorem releasePassageEntry_none (h : s.entry d = none) : releasePassageEntry d s = s := by
  unfold releasePassageEntry
  rw [h]

/-- R118: the hold that ends at OPEN, without an entry, submits the reclose. -/
theorem holdReclosed (hin : s.inService = true) (hmode : s.mc.mode ≠ .LOCAL) (hhandle : s.handle d = .IDLE) (hpos : s.position d = .OPEN)
    (he : s.entry d = none) (htop : s.cs.nextArrival ≠ arrivalTop) (hx : s.passage d = some x) (hph : x.phase = .HELD) :
    Reclosed d x s (presentHandle d .OPEN s) ∧ HoldBeside d s (presentHandle d .OPEN s) := by
  have hends := presentHandle_ends hmode (.inl hhandle) hx (by rw [hph]; decide) fun e hent => by rw [he] at hent; cases hent
  have hsubmits := endHold_submits (x := x) (d := d) (s := s) (by rw [hpos]; decide)
  rw [releasePassageEntry_none he] at hsubmits
  rw [hends, hsubmits]
  exact ⟨reclosed hin he (by rw [hpos]; decide) htop x, .submitReclose hin htop x⟩

/-- The state after the reclose repeats the position too. -/
theorem Reclosed.repeats (h : Reclosed d x s t) (hb : HoldBeside d s t) (hs : Repeats d b s) (hpos : s.position d = .OPEN) :
    Repeats d b t := by
  have hposition : t.position d = .OPEN := (position_of_orders hb.orders).trans hpos
  refine ⟨?_, hs.deaf.of_gru h.gru, fun y hy hph => ?_, fun y hy _ => ?_, fun e he => ?_, fun e he _ => .inl (h.fresh e he).1, fun e he ho => ?_⟩
  · rw [hposition, ← hs.position, hpos]
  · rw [h.passage] at hy; cases hy; cases hph
  · rw [h.passage] at hy; cases hy
    exact ⟨rfl, by rw [hposition]; decide⟩
  · rw [hposition, (h.fresh e he).2.2]; decide
  · rw [(h.fresh e he).2.1] at ho; cases ho

end

/-- Settles O44. -/
theorem passagesProgress : Obligations.PassagesProgress := by
  unfold Obligations.PassagesProgress
  refine ⟨passageAtPosition, holdEnds, fun c d s x hx hph hdem e he hdir => recloseRemoved c hx hph hdem he hdir,
    fun rp src seq low d s hs hin _ hd hseq hdeaf hsettled hmode hhandle hpos he htop x hx hph => ?_⟩
  obtain ⟨v, order, hv, hmc, horder, hexec⟩ := event_ready (rp := rp) hs hin hd hseq .IDLE low false
  obtain ⟨hvposition, hvhandle⟩ := reported_repeats .IDLE low hv
  have hvpos : v.position d = .OPEN := hvposition.trans hpos
  have hvpassage : v.passage d = some x := (hv.passage d).trans hx
  have hrepeats : Repeats d (before s d) v := by
    refine ⟨hvposition, hv.deaf hdeaf hsettled, fun y hy hopening => ?_, fun y hy hreclosing => ?_, fun e hent => ?_, fun e hent => ?_,
      fun e hent => ?_⟩
    · rw [hvpassage] at hy; cases hy; rw [hph] at hopening; cases hopening
    · rw [hvpassage] at hy; cases hy; rw [hph] at hreclosing; cases hreclosing
    all_goals rw [(hv.entry d).trans he] at hent; cases hent
  have hbefore : (before s d).handle = .OPEN := hhandle
  have hstep (u : State) (hu : Claimed d v u) : Reclosed d x u (presentHandle d .OPEN u) ∧ HoldBeside d u (presentHandle d .OPEN u) := by
    refine holdReclosed ((inService_congr (hu.cfs.trans hv.cfs)).trans hin) ?_ (hu.handle.trans hvhandle) (hu.position.trans hvpos)
      (hu.entry_none ((hv.entry d).trans he)) ?_ (hu.passage.trans hvpassage) hph
    · rw [hu.mc, hmc]; exact hmode
    · rw [hu.arrival, hv.cs]; exact htop
  have hafter : ∀ u, Claimed d v u → Repeats d (before s d) u → Repeats d (before s d) (presentHandle d (before s d).handle u) := by
    intro u hu hru
    rw [hbefore]
    exact (hstep u hu).1.repeats (hstep u hu).2 hru (hu.position.trans hvpos)
  obtain ⟨u, hu, -, hlast⟩ := repeats_handle hrepeats horder hafter
  rw [hbefore] at hlast
  obtain ⟨hreclosed, hbeside⟩ := hstep u hu
  generalize presentHandle d .OPEN u = w at hlast hreclosed hbeside
  obtain ⟨hclaim, hpassage, hwarned, hready, -⟩ := hreclosed
  rw [hu.mc, hmc, hu.arrival, hv.cs] at hclaim
  have hpre : u.preWarn d = s.preWarn d := by unfold State.preWarn; rw [hu.tables, hv.tables]
  rw [hpre] at hwarned hready
  refine ends_of hexec ⟨(hlast.claims d).trans hclaim, hlast.passage.trans hpassage, fun h => ?_, fun h => ?_, fun y hy => ⟨?_, ?_⟩⟩
  · obtain ⟨hphase, hpending⟩ := hwarned h
    exact ⟨(hlast.phases d).trans hphase, hlast.pending hpending⟩
  · rw [hlast.phases d]
    exact hready h
  · exact ((hlast.claims y).trans (hbeside.others y hy).1).trans ((hu.claims y).trans (hv.claimOf y))
  · exact (hlast.passage.trans (hbeside.others y hy).2).trans (hu.passage.trans (hv.passage y))

end Sys2Proof.Proofs
end

section
/-! ## What a handle change asks for (R112 to R116) -/
namespace Sys2Proof.Proofs
open Sys2Proof Sys2Proof.Machine

set_option Elab.async false

section
variable {s t u v w : State} {d y : DoorIx} {x : Passage} {e : Entry} {m : Demand} {c : RemovalCause} {prev new : Handle} {o : DemandOutcome}

/-! ### An OPEN demand that ends the record of a reclose -/

theorem onlyAlarms_replacedFrom (m : Demand) (e : Entry) (u : State) :
    OnlyAlarms (exchanged m u) (replacedFrom m e u) [(.ADMISSION_DELAY, (u.hpuOf m.door).val)] := by
  unfold replacedFrom
  split
  · exact onlyAlarms_trans (pass_admits ..).delay.only (onlyAlarms_evalDelay ..)
  · exact (pass_admits ..).delay.only

/-- R33, R119: where an OPEN demand ends the door's record, PASSAGE_OVERDUE is cleared. -/
theorem cleared_of_displaced (hlaw : AlarmLaw s) (hdir : m.direction = .OPEN) (hsome : (s.passage m.door).isSome = true)
    (hgone : (decideDemand m s).2.passage m.door = none) : Cleared (decideDemand m s).2 .PASSAGE_OVERDUE m.door.val := by
  obtain ⟨x, hx⟩ := Option.isSome_iff_exists.mp hsome
  have kept {t : State} (h : t.passage m.door = s.passage m.door) (ht : t.passage m.door = none) : Cleared t .PASSAGE_OVERDUE m.door.val := by
    rw [h, hx] at ht
    cases ht
  have displacing {e : Entry} (he : e.direction ≠ m.direction) (hnone : (s.passage m.door).filter (fun x => decide (x.phase ≠ .RECLOSING) || !x.demanded) = none) :
      Cleared (displaced m e s) .PASSAGE_OVERDUE m.door.val := by
    have hclose : e.direction = .CLOSE := by
      cases hed : e.direction
      · rfl
      · rw [hed, hdir] at he; exact absurd rfl he
    rw [hx, Option.filter_some] at hnone
    have hreclosing : x.phase = .RECLOSING ∧ x.demanded = true := by
      by_contra hnot
      have : (decide (x.phase ≠ .RECLOSING) || !x.demanded) = true := by
        by_cases hp : x.phase = .RECLOSING
        · cases hd : x.demanded
          · simp
          · exact absurd ⟨hp, hd⟩ hnot
        · simp [hp]
      rw [if_pos this] at hnone
      cases hnone
    have hrep := ReportFrame.reportTag e.tag .overruled (recloseGone m.door e.direction (endBeaten m s))
    refine (cleared_congr hrep.al).mpr ?_
    rw [hclose, endBeaten_of_open hdir, recloseGone_reclosing hx hreclosing.1 hreclosing.2]
    exact (recordEnded m.door s).cleared hlaw
  have hd := decided m s
  obtain ⟨-, hreplaced, hreversed⟩ := demandOnAnEntry
  generalize hq : decideDemand m s = q at hd hgone
  cases hd with
  | refused => exact kept rfl hgone
  | already => exact kept (by rw [endBeaten_of_open hdir]) hgone
  | enqueued =>
    refine kept (passage_of_mc_passages ?_ _) hgone
    rw [enqueue_mc, endBeaten_of_open hdir]
  | @merged e he hed =>
    obtain ⟨hmerged, -⟩ := demandOnAnEntry
    obtain ⟨hsame, hraised⟩ := hmerged m s (by rw [hq]) e he
    rw [hq] at hsame hraised
    by_cases hle : m.cls ≤ e.cls
    · have hs : merge m e s = s := hsame hle
      exact kept (by rw [hs]) hgone
    · obtain ⟨-, -, -, -, -, -, -, hmc, -⟩ := hraised (Nat.not_le.mp hle)
      exact kept (passage_of_mc_passages (by rw [hmc]) _) hgone
  | @reversed e he hed hph =>
    obtain ⟨-, -, -, -, -, -, -, -, -, hopened, -⟩ := hreversed m s (by rw [hq]) e he
    rw [hq] at hopened
    have hc := displacing hed ((hopened hdir).symm.trans hgone)
    show Cleared (reverse m e s) _ _
    rw [reverse_eq]
    split
    · exact cleared_of_onlyAlarms (pass_admits ..).delay.only (by simp) (by decide) ((cleared_congr rfl).mpr hc)
    · exact (cleared_congr rfl).mpr hc
  | @replaced e he hed hph =>
    obtain ⟨-, -, -, -, -, -, -, -, hopened, -⟩ := hreplaced m s (by rw [hq]) e he
    rw [hq] at hopened
    have hc := displacing hed ((hopened hdir).symm.trans hgone)
    show Cleared (replace m e s) _ _
    rw [replace_eq]
    exact cleared_of_onlyAlarms (onlyAlarms_replacedFrom m e _) (by simp) (by decide) ((cleared_congr (by rw [exchanged_eq])).mpr hc)

/-! ### The record made -/

/-- What a passage demand's outcome makes of the door's record. -/
structure RecordMade (d : DoorIx) (ph : PassagePhase) (u t : State) : Prop where
  mc : t.mc = { u.mc with passages := u.mc.passages.set d (some ⟨ph, 0, false, false⟩), oas := u.mc.oas.set d ⟨0, false⟩ }
  cs : t.cs = u.cs
  rc : t.rc = u.rc
  ms : t.ms = u.ms
  gru : t.gru = u.gru
  aside : Aside u t
  cleared : AlarmLaw u → (u.passage d).isSome = true ∨ Cleared u .PASSAGE_OVERDUE d.val → Cleared t .PASSAGE_OVERDUE d.val

theorem recordMade (d : DoorIx) (ph : PassagePhase) (u : State) :
    RecordMade d ph u ((endAnyPassage d u).makePassage d ⟨ph, 0, false, false⟩) := by
  cases hx : u.passage d with
  | none =>
    have hany : endAnyPassage d u = u := by
      unfold endAnyPassage
      rw [hx]
    rw [hany]
    refine ⟨rfl, rfl, rfl, rfl, rfl, ⟨rfl, rfl, rfl, rfl, fun _ => rfl, rfl⟩, fun _ h => ?_⟩
    rw [hx] at h
    exact h.elim nofun fun hc => (cleared_congr rfl).mpr hc
  | some x =>
    have hany : endAnyPassage d u = endPassage d u := by
      unfold endAnyPassage
      rw [hx]
    rw [hany]
    have hend := Ending.endPassage d u
    have haside : Aside u (endPassage d u) := aside_of_block hend.toBlockFrame
    have hmc : (endPassage d u).mc = { u.mc with passages := put u.mc.passages d none } := (AlarmFrame.clearDoor .PASSAGE_OVERDUE d (u.dropPassage d)).mc
    refine ⟨?_, hend.cs, hend.rc, hend.ms, hend.gru, haside, fun hlaw _ => (cleared_congr rfl).mpr ((recordEnded d u).cleared hlaw)⟩
    have hset : put (put u.mc.passages d none) d (some ⟨ph, 0, false, false⟩) = u.mc.passages.set d (some ⟨ph, 0, false, false⟩) := Vector.set_set ..
    have hmade : ((endPassage d u).makePassage d ⟨ph, 0, false, false⟩).mc =
        { (endPassage d u).mc with passages := put (endPassage d u).mc.passages d (some ⟨ph, 0, false, false⟩)
                                   oas := put (endPassage d u).mc.oas d ⟨0, false⟩ } := rfl
    rw [hmade, hmc]
    exact congrArg (fun p => { u.mc with passages := p, oas := u.mc.oas.set d ⟨0, false⟩ }) hset

/-- R115, R118: the passage demand of a handle taken to OPEN. -/
abbrev openDemand (d : DoorIx) (s : State) : Demand := passageDemand .OPEN (passageClass s.mc.mode) d

theorem openPassage_refused (h : Refused (decideDemand (openDemand d s) s).1) : openPassage d s = s := by
  have hs := decideDemand_refused h
  have hnone : passageMade (decideDemand (openDemand d s) s).1 = none := by
    obtain h | h | h | h := h <;> rw [h] <;> rfl
  unfold openPassage
  simp only [hnone, hs]

theorem openPassage_made {ph : PassagePhase} (h : passageMade (decideDemand (openDemand d s) s).1 = some ⟨ph, 0, false, false⟩) :
    RecordMade d ph (decideDemand (openDemand d s) s).2 (openPassage d s) := by
  have heq : openPassage d s = (endAnyPassage d (decideDemand (openDemand d s) s).2).makePassage d ⟨ph, 0, false, false⟩ := by
    unfold openPassage
    simp only [h]
  rw [heq]
  exact recordMade ..

/-- R115, R121: the end of the earlier record clears PASSAGE_OVERDUE. -/
theorem cleared_openPassage {ph : PassagePhase} (h : passageMade (decideDemand (openDemand d s) s).1 = some ⟨ph, 0, false, false⟩)
    (hlaw : AlarmLaw s) (hsome : (s.passage d).isSome = true) : Cleared (openPassage d s) .PASSAGE_OVERDUE d.val := by
  refine (openPassage_made h).cleared (alarmLaw_steps (.decideDemand ..) hlaw) ?_
  cases hu : (decideDemand (openDemand d s) s).2.passage d with
  | some => exact .inl rfl
  | none => exact .inr (cleared_of_displaced (m := openDemand d s) hlaw rfl hsome hu)

/-! ### A handle denied -/

theorem denyHandle_eq (d : DoorIx) (s : State) :
    denyHandle d s = { s with
      rc := (denyHandle d s).rc
      mc := { s.mc with sea := s.mc.sea.set d { s.mc.sea[d] with denied := min (s.mc.sea[d].denied + 1) 255 } } }
    ∧ OnlyOrders s (denyHandle d s)
    ∧ (phaseOf s d = none ∨ phaseOf s d = some .READY → Pending (denyHandle d s) d .DENY)
    ∧ (phaseOf s d = some .WARNING ∨ phaseOf s d = some .MOVING → (denyHandle d s).rc = s.rc) := by
  have hentry : (s.modSea d fun x => { x with denied := satInc 255 x.denied }).entry d = s.entry d := rfl
  have hqueued (u : State) : queueOrder d .DENY u = { u with rc := (queueOrder d .DENY u).rc } ∧ OnlyOrders u (queueOrder d .DENY u) :=
    ⟨rfl, (ScheduleFrame.queueOrder ..).orders⟩
  unfold denyHandle phaseOf
  simp only [hentry]
  generalize hw : (s.modSea d fun x => { x with denied := satInc 255 x.denied }) = w
  have hstate : w = { s with mc := { s.mc with sea := s.mc.sea.set d { s.mc.sea[d] with denied := min (s.mc.sea[d].denied + 1) 255 } } } :=
    hw.symm
  have hrc : w.rc = s.rc := by rw [hstate]
  have horders : OnlyOrders s (queueOrder d .DENY w) := OnlyOrders.trans (t := w) (by unfold OnlyOrders; rw [hrc]) (hqueued w).2
  have hstands : OnlyOrders s w := by unfold OnlyOrders; rw [hrc]
  have hpending : Pending (queueOrder d .DENY w) d .DENY := mem_queued_self ..
  have hdenied : queueOrder d .DENY w = { s with
      rc := (queueOrder d .DENY w).rc
      mc := { s.mc with sea := s.mc.sea.set d { s.mc.sea[d] with denied := min (s.mc.sea[d].denied + 1) 255 } } } := by
    rw [(hqueued w).1, hstate]
  have hcounted : w = { s with
      rc := w.rc
      mc := { s.mc with sea := s.mc.sea.set d { s.mc.sea[d] with denied := min (s.mc.sea[d].denied + 1) 255 } } } := by
    rw [hrc]
    exact hstate
  cases s.entry d with
  | none => exact ⟨hdenied, horders, fun _ => hpending, nofun⟩
  | some e =>
    by_cases hph : e.phase = .READY
    · simp only [if_pos hph]
      exact ⟨hdenied, horders, fun _ => hpending, fun h => by simp [hph] at h⟩
    · simp only [if_neg hph]
      exact ⟨hcounted, hstands, fun h => by simp [hph] at h, fun _ => hrc⟩

/-! ### The release of a local entry -/

/-- The entry of a door without a tag, at a door without a passage, leaves the runs and MC as they stand. -/
theorem untagged_removeEntry (he : s.entry d = some e) (htag : e.tag = none) (hp : s.passage d = none) (c : RemovalCause) :
    (removeEntry c d s).gru = s.gru ∧ (removeEntry c d s).mc = s.mc := by
  have hrel := released_eq he
  have hreport : c.report e.tag (released d e s) = released d e s := by
    unfold RemovalCause.report
    rw [htag]
    split
    · split <;> rfl
    · rfl
  have hw := queueOrder?_eq d (c.order e.phase) ((released d e s).dropEntry d)
  have hwmc : (queueOrder? d (c.order e.phase) ((released d e s).dropEntry d)).mc = s.mc := by
    rw [hw]
    show (released d e s).mc = _
    rw [hrel]
  have hwgru : (queueOrder? d (c.order e.phase) ((released d e s).dropEntry d)).gru = s.gru := by
    rw [hw]
    show (released d e s).gru = _
    rw [hrel]
  have hout : takeOut c d s = queueOrder? d (c.order e.phase) ((released d e s).dropEntry d) := by
    rw [takeOut_eq he, hreport]
    unfold recloseGone
    rw [(passage_of_mc_passages (by rw [hwmc]) d).trans hp]
  have hv := readmitted_frame d e s (takeOut c d s)
  have hf := AlarmFrame.clearDoor .TRAVEL_OVERTIME d (readmitted d e s (takeOut c d s))
  rw [removeEntry_eq he]
  exact ⟨(hf.gru.trans hv.gru).trans (by rw [hout]; exact hwgru), (hf.mc.trans hv.mc).trans (by rw [hout]; exact hwmc)⟩

/-! ### The steps of a handle change -/

theorem presentHandle_stands (h : ¬(s.handle d ≠ prev ∧ s.handle d ≠ .UNKNOWN)) : presentHandle d prev s = s := by
  refine if_pos ?_
  by_contra hn
  exact h ⟨fun he => hn (.inl he), fun he => hn (.inr he)⟩

theorem presentHandle_changes (h : s.handle d ≠ prev ∧ s.handle d ≠ .UNKNOWN) : presentHandle d prev s = handleChange d prev (s.handle d) s :=
  if_neg fun hor => hor.elim h.1 h.2

theorem endHoldOf_stands (h : ¬∃ x ∈ s.passage d, x.phase ≠ .RECLOSING) : endHoldOf d s = s := by
  unfold endHoldOf
  split
  · next x hx => exact if_pos (by_contra fun hn => h ⟨x, hx, hn⟩)
  · rfl

/-- A change that releases no local entry and ends no hold is its demand alone. -/
theorem handleChange_asks (hmine : ¬((prev = .OPEN ∨ prev = .CLOSE) ∧ ∃ e ∈ s.entry d, e.origin = .LOCAL ∧ e.phase ≠ .WARNING))
    (hhold : ¬(prev = .OPEN ∧ s.mc.mode ≠ .LOCAL ∧ ∃ x ∈ s.passage d, x.phase ≠ .RECLOSING)) :
    handleChange d prev new s = handleDemand d new s := by
  have hfree : (if prev = .OPEN ∨ prev = .CLOSE then releaseLocal d s else s) = s := by
    split
    · next hl =>
      unfold releaseLocal
      split
      · next e he => exact if_neg fun h => hmine ⟨hl, e, he, h⟩
      · rfl
    · rfl
  have hend : (if prev = .OPEN ∧ s.mc.mode ≠ .LOCAL then endHoldOf d s else s) = s := by
    split
    · next hl => exact endHoldOf_stands fun h => hhold ⟨hl.1, hl.2, h⟩
    · rfl
  unfold handleChange
  simp only [hfree, hend]

/-- A change that releases the local entry of a door without a passage. -/
theorem handleChange_releases (hleaves : prev = .OPEN ∨ prev = .CLOSE) (hp : s.passage d = none) (he : s.entry d = some e)
    (hlocal : e.origin = .LOCAL) (hph : e.phase ≠ .WARNING) (htag : e.tag = none) :
    handleChange d prev new s = handleDemand d new (removeEntry .RELEASE d s) := by
  have hfree : releaseLocal d s = removeEntry .RELEASE d s := by
    unfold releaseLocal
    rw [he]
    exact if_pos ⟨hlocal, hph⟩
  have hmc := (untagged_removeEntry he htag hp .RELEASE).2
  have hstands : endHoldOf d (removeEntry .RELEASE d s) = removeEntry .RELEASE d s := endHoldOf_stands fun ⟨x, hx, _⟩ => by
    rw [(passage_of_mc_passages (by rw [hmc]) d).trans hp] at hx
    cases hx
  unfold handleChange
  simp only [if_pos hleaves, hfree, hstands, ite_self]

end

end Sys2Proof.Proofs
end

section
/-! ## Handles, and O32 -/
namespace Sys2Proof.Proofs
open Sys2Proof Sys2Proof.Machine

set_option Elab.async false

/-- R112 to R116: what a handle change asks for. -/
theorem handleTaken (d : DoorIx) (prev : Handle) (s : State) :
    let new := s.handle d
    let t := presentHandle d prev s
    let changed := new ≠ prev ∧ new ≠ .UNKNOWN
    let leaves := prev = .OPEN ∨ prev = .CLOSE
    let mine := ∃ e ∈ s.entry d, e.origin = .LOCAL ∧ e.phase ≠ .WARNING
    let endsHold := prev = .OPEN ∧ s.mc.mode ≠ .LOCAL ∧ ∃ x ∈ s.passage d, x.phase ≠ .RECLOSING
    let asked := fun (dir : Direction) => (⟨d, dir, 0, .C, .LOCAL, none⟩ : Demand)
    let passing := (⟨d, .OPEN, if s.mc.mode = .EMERGENCY then 3 else 2, .C, .PASSAGE, none⟩ : Demand)
    let o := (decideDemand passing s).1
    let u := (decideDemand passing s).2
    let made := fun (ph : PassagePhase) =>
      t.mc = { u.mc with passages := u.mc.passages.set d (some ⟨ph, 0, false, false⟩), oas := u.mc.oas.set d ⟨0, false⟩ }
      ∧ t.cs = u.cs ∧ t.rc = u.rc ∧ t.ms = u.ms ∧ t.gru = u.gru ∧ Aside u t
      ∧ (AlarmLaw s → (s.passage d).isSome = true → Cleared t .PASSAGE_OVERDUE d.val)
    (¬changed → t = s)
    ∧ (changed → ¬(leaves ∧ mine) → ¬endsHold →
        (new = .IDLE → t = s)
        ∧ (new = .CLOSE → s.mc.mode ≠ .LOCAL → t = s)
        ∧ (new = .CLOSE → s.mc.mode = .LOCAL → t = (decideDemand (asked .CLOSE) s).2)
        ∧ (new = .OPEN → s.mc.mode = .LOCAL → t = (decideDemand (asked .OPEN) s).2)
        ∧ (new = .OPEN → s.mc.mode = .CLOSED ∨ (s.mc.mode = .EMERGENCY ∧ s.isEscape d = true) →
            (o = .OVERRULED ∨ o = .DOOR_FAULT → t = s)
            ∧ (o = .ALREADY → made .HELD)
            ∧ (o = .ENQUEUED ∨ o = .REPLACED ∨ o = .REVERSED ∨ o = .MERGED → made .OPENING))
        ∧ (new = .OPEN → s.mc.mode = .EMERGENCY → s.isEscape d = false →
            t = { s with
              rc := t.rc
              mc := { s.mc with
                sea := s.mc.sea.set d { s.mc.sea[d] with denied := min (s.mc.sea[d].denied + 1) 255 } } }
            ∧ OnlyOrders s t
            ∧ (phaseOf s d = none ∨ phaseOf s d = some .READY → Pending t d .DENY)
            ∧ (phaseOf s d = some .WARNING ∨ phaseOf s d = some .MOVING → t.rc = s.rc)))
    ∧ (changed → leaves → s.passage d = none → ∀ e ∈ s.entry d, e.origin = .LOCAL → e.phase ≠ .WARNING → e.tag = none →
        let v := removeEntry .RELEASE d s
        (new = .IDLE → t = v) ∧ (new ≠ .IDLE → t = presentHandle d .IDLE v)
        ∧ v.entry d = none
        ∧ (e.phase = .MOVING → Pending v d .STOP)
        ∧ (e.phase = .READY → ∀ q ∈ v.rc.orders, q.door = d → q ∈ s.rc.orders)
        ∧ (AlarmLaw s → Cleared v .TRAVEL_OVERTIME d.val)
        ∧ (∀ x : DoorIx, x ≠ d → claimOf v x = claimOf s x)
        ∧ v.ms = s.ms ∧ v.gru = s.gru ∧ v.mc = s.mc ∧ OnlyOrders s v ∧ Aside s v) := by
  intro new t changed leaves mine endsHold asked passing o u made
  refine ⟨fun h => presentHandle_stands h, fun h hmine hhold => ?_, fun h hleaves hp e he hlocal hph htag => ?_⟩
  · have ht : t = handleDemand d new s := (presentHandle_changes h).trans (handleChange_asks hmine hhold)
    clear_value t
    have hpassing : (s.mc.mode = .CLOSED ∨ (s.mc.mode = .EMERGENCY ∧ s.isEscape d = true)) → new = .OPEN → t = openPassage d s := by
      rintro (hm | ⟨hm, hescape⟩) hnew
      · rw [ht, hnew]
        unfold handleDemand
        rw [hm]
      · rw [ht, hnew]
        unfold handleDemand
        rw [hm]
        exact if_pos hescape
    have hmade (ph : PassagePhase) (ho : passageMade o = some ⟨ph, 0, false, false⟩) (heq : t = openPassage d s) : made ph := by
      have hr := openPassage_made (d := d) (s := s) ho
      have hc := cleared_openPassage (d := d) (s := s) ho
      rw [← heq] at hr hc
      exact ⟨hr.mc, hr.cs, hr.rc, hr.ms, hr.gru, hr.aside, hc⟩
    refine ⟨fun hnew => ?_, fun hnew hmode => ?_, fun hnew hmode => ?_, fun hnew hmode => ?_, fun hnew hmode => ⟨fun ho => ?_, fun ho => ?_, fun ho => ?_⟩,
      fun hnew hmode hstandard => ?_⟩
    · rw [ht, hnew]
      rfl
    · rw [ht, hnew]
      unfold handleDemand
      cases hm : s.mc.mode
      case LOCAL => exact absurd hm hmode
      all_goals rfl
    · rw [ht, hnew]
      unfold handleDemand
      rw [hmode]
      rfl
    · rw [ht, hnew]
      unfold handleDemand
      rw [hmode]
      rfl
    · rw [hpassing hmode hnew]
      exact openPassage_refused (ho.elim (fun h => .inr (.inr (.inr h))) fun h => .inr (.inr (.inl h)))
    · exact hmade .HELD (by rw [ho]; rfl) (hpassing hmode hnew)
    · exact hmade .OPENING (by obtain h | h | h | h := ho <;> rw [h] <;> rfl) (hpassing hmode hnew)
    · have hdenied : t = denyHandle d s := by
        rw [ht, hnew]
        unfold handleDemand
        rw [hmode]
        exact if_neg (by rw [hstandard]; exact Bool.false_ne_true)
      rw [hdenied]
      exact denyHandle_eq d s
  · intro v
    have hr := removed (Option.mem_def.mp he) .RELEASE
    obtain ⟨hgru, hmc⟩ := untagged_removeEntry (Option.mem_def.mp he) htag hp .RELEASE
    have ht : t = handleDemand d new v :=
      (presentHandle_changes h).trans (handleChange_releases hleaves hp (Option.mem_def.mp he) hlocal hph htag)
    have hhandle : v.handle d = new := handle_of_orders hr.orders
    refine ⟨fun hnew => ?_, fun hnew => ?_, hr.gone, fun hm => hr.ordered .STOP (by simp [RemovalCause.order, hm]), fun hready q hq hdoor => ?_,
      hr.overtime, hr.claims, hr.ms, hgru, hmc, hr.orders, aside_of_block hr.toBlockFrame⟩
    · rw [ht, hnew]
      rfl
    · rw [ht, presentHandle_changes (by rw [hhandle]; exact ⟨hnew, h.2⟩), hhandle]
      refine (handleChange_asks (fun hl => ?_) fun hl => ?_).symm
      · exact hl.1.elim nofun nofun
      · cases hl.1
    · exact orders_removed (Option.mem_def.mp he) (by simp [RemovalCause.order, hready]) hdoor hq

end Sys2Proof.Proofs
end

section
/-! ## An EVENT that shows the handle taken to OPEN, and O32 -/
namespace Sys2Proof.Proofs
open Sys2Proof Sys2Proof.Machine

set_option Elab.async false

/-- The door a handle is taken to OPEN at: in service, not OPEN, without entry, passage and latch. -/
structure Opens (d : DoorIx) (s : State) : Prop where
  serves : s.inService = true
  handle : s.handle d = .OPEN
  position : s.position d ≠ .OPEN
  entry : s.entry d = none
  passage : s.passage d = none
  latch : s.latch d = .NONE
  arrival : s.cs.nextArrival ≠ arrivalTop

/-- What the taken handle leaves of MC's records and of the door's claim. -/
structure OpenAsked (d : DoorIx) (claim : Option (Direction × Nat × SourceGroup × Origin × Option RunTag × Nat)) (x : Option Passage)
    (s t : State) : Prop where
  claim : claimOf t d = claim
  passage : t.passage d = x
  opening : ∀ y, x = some y → y.phase = .OPENING
  fresh : ∀ e, t.entry d = some e → e.started = false ∧ e.direction = .OPEN
  gru : t.gru = s.gru
  orders : OnlyOrders s t
  others : ∀ y : DoorIx, y ≠ d → claimOf t y = claimOf s y ∧ t.passage y = s.passage y

section
variable {s t u v w : State} {d y : DoorIx} {b : Before} {m : Demand} {x : Option Passage}
  {k : Option (Direction × Nat × SourceGroup × Origin × Option RunTag × Nat)}

theorem OpenAsked.repeats (h : OpenAsked d k x s t) (hs : Repeats d b s) (ho : Opens d s) : Repeats d b t := by
  have hposition : t.position d = s.position d := position_of_orders h.orders
  have hhandle : t.handle d = .OPEN := (handle_of_orders h.orders).trans ho.handle
  refine ⟨hposition.trans hs.position, hs.deaf.of_gru h.gru, fun _ _ _ => ?_, fun y hy hph => ?_, fun e he => ?_,
    fun e he _ => .inl (h.fresh e he).1, fun _ _ _ => by rw [hhandle]; decide⟩
  · rw [hposition]; exact ho.position
  · rw [h.opening y (h.passage.symm.trans hy)] at hph; cases hph
  · rw [hposition, (h.fresh e he).2]; exact ho.position

/-- R22: an OPEN demand of group C at such a door is ENQUEUED. -/
theorem openAsked (ho : Opens d s) (hdoor : m.door = d) (hdir : m.direction = .OPEN) (hgroup : m.group = .C) (htag : m.tag = none)
    (hmode : s.mc.mode = .EMERGENCY → m.origin = .PASSAGE) : (decideDemand m s).1 = .ENQUEUED
    ∧ OpenAsked d (some (.OPEN, m.cls, .C, m.origin, none, s.cs.nextArrival)) none s (decideDemand m s).2
    ∧ (decideDemand m s).2.mc.sea = s.mc.sea := by
  subst hdoor
  have hsubmits : Submits m s := ⟨ho.serves, fun h => h.2.2 (hmode h.1), fun h => h.2 ho.latch⟩
  have hout := (decideDemand_free hsubmits ho.entry fun _ _ => .inr hdir).2 (by rw [hdir]; exact ho.position)
  obtain ⟨hclaim, hothers, -, -, -, -, hpassage, hpassages, -, hsea, -, hgru, -, horders, -⟩ := demandEnqueued.1 m s ho.serves hout ho.arrival
  rw [hdir, hgroup, htag] at hclaim
  refine ⟨hout, ⟨hclaim, ?_, nofun, fun e he => ?_, hgru, horders, fun y hy => ⟨hothers y hy, hpassages y hy⟩⟩, hsea⟩
  · rw [hpassage]
    unfold passageAfter
    rw [ho.passage]
  · rw [(decide_enqueued hout).2] at he
    obtain ⟨hstarted, -, hed⟩ := enqueued_entry he
    exact ⟨hstarted, hed.trans hdir⟩

/-- R113: in LOCAL. -/
theorem handleOpen_local (ho : Opens d s) (hmode : s.mc.mode = .LOCAL) :
    OpenAsked d (some (.OPEN, 0, .C, .LOCAL, none, s.cs.nextArrival)) none s (handleDemand d .OPEN s)
    ∧ (handleDemand d .OPEN s).mc.sea = s.mc.sea := by
  have hstep : handleDemand d .OPEN s = (decideDemand ⟨d, .OPEN, 0, .C, .LOCAL, none⟩ s).2 := by
    unfold handleDemand
    rw [hmode]
    rfl
  rw [hstep]
  exact (openAsked (m := ⟨d, .OPEN, 0, .C, .LOCAL, none⟩) ho rfl rfl rfl rfl fun h => by rw [hmode] at h; cases h).2

theorem openPassage_asked (ho : Opens d s) :
    OpenAsked d (some (.OPEN, passageClass s.mc.mode, .C, .PASSAGE, none, s.cs.nextArrival)) (some ⟨.OPENING, 0, false, false⟩) s (openPassage d s)
    ∧ (openPassage d s).mc.sea = s.mc.sea := by
  obtain ⟨hout, ⟨hclaim, -, -, hfresh, hgru, horders, hothers⟩, hsea⟩ := openAsked (m := openDemand d s) ho rfl rfl rfl rfl fun _ => rfl
  have hmade := openPassage_made (d := d) (s := s) (ph := .OPENING) (by rw [hout]; rfl)
  generalize (decideDemand (openDemand d s) s).2 = u at *
  generalize openPassage d s = t at hmade ⊢
  have hentry (y : DoorIx) : t.entry y = u.entry y := entry_congr (by rw [hmade.cs]) y
  have hpassage (y : DoorIx) : t.passage y = if d = y then some ⟨.OPENING, 0, false, false⟩ else u.passage y := by
    unfold State.passage
    rw [hmade.mc]
    simp only [Fin.getElem_fin, Vector.getElem_set, Fin.val_inj]
  have hclaims (y : DoorIx) : claimOf t y = claimOf u y := by unfold claimOf; rw [hentry]
  refine ⟨⟨(hclaims d).trans hclaim, (hpassage d).trans (if_pos rfl), fun y hy => by cases hy; rfl, fun e he => hfresh e ((hentry d).symm.trans he),
    hmade.gru.trans hgru, ?_, fun y hy => ⟨(hclaims y).trans (hothers y hy).1, ?_⟩⟩, ?_⟩
  · exact OnlyOrders.trans horders (by unfold OnlyOrders; rw [hmade.rc])
  · rw [hpassage, if_neg hy.symm]
    exact (hothers y hy).2
  · rw [hmade.mc]
    exact hsea

/-- R115: a passage in CLOSED, and in EMERGENCY at an ESCAPE door. -/
theorem handleOpen_passage (ho : Opens d s) (hmode : s.mc.mode = .CLOSED ∨ (s.mc.mode = .EMERGENCY ∧ s.isEscape d = true)) :
    OpenAsked d (some (.OPEN, passageClass s.mc.mode, .C, .PASSAGE, none, s.cs.nextArrival)) (some ⟨.OPENING, 0, false, false⟩) s
      (handleDemand d .OPEN s)
    ∧ (handleDemand d .OPEN s).mc.sea = s.mc.sea := by
  have hstep : handleDemand d .OPEN s = openPassage d s := by
    unfold handleDemand
    obtain hm | ⟨hm, hescape⟩ := hmode
    · rw [hm]
    · rw [hm]
      exact if_pos hescape
  rw [hstep]
  exact openPassage_asked ho

/-- R116: in EMERGENCY at a STANDARD door. -/
theorem handleOpen_denied (ho : Opens d s) (hmode : s.mc.mode = .EMERGENCY) (hstandard : s.isEscape d = false) :
    OpenAsked d none none s (handleDemand d .OPEN s) ∧ Pending (handleDemand d .OPEN s) d .DENY
    ∧ (handleDemand d .OPEN s).mc.sea[d].denied = min (s.mc.sea[d].denied + 1) 255 := by
  have hstep : handleDemand d .OPEN s = denyHandle d s := by
    unfold handleDemand
    rw [hmode]
    exact if_neg (by rw [hstandard]; exact Bool.false_ne_true)
  rw [hstep]
  obtain ⟨hstate, horders, hpending, -⟩ := denyHandle_eq d s
  have hphase : phaseOf s d = none := by unfold phaseOf; rw [ho.entry]; rfl
  replace hpending := hpending (.inl hphase)
  generalize denyHandle d s = t at *
  have hentry (y : DoorIx) : t.entry y = s.entry y := entry_congr (by rw [hstate]) y
  have hpassage (y : DoorIx) : t.passage y = s.passage y := passage_of_mc_passages (by rw [hstate]) y
  have hclaims (y : DoorIx) : claimOf t y = claimOf s y := by unfold claimOf; rw [hentry]
  refine ⟨⟨?_, (hpassage d).trans ho.passage, nofun, fun e he => ?_, by rw [hstate], horders, fun y _ => ⟨hclaims y, hpassage y⟩⟩, hpending, ?_⟩
  · rw [hclaims]
    unfold claimOf
    rw [ho.entry]
    rfl
  · rw [hentry, ho.entry] at he
    cases he
  · rw [hstate]
    simp

/-- R112: a handle taken to OPEN asks, in whatever mode. -/
theorem handleOpen (ho : Opens d s) : ∃ k x, OpenAsked d k x s (handleDemand d .OPEN s) := by
  cases hm : s.mc.mode with
  | LOCAL => exact ⟨_, _, (handleOpen_local ho hm).1⟩
  | CLOSED => exact ⟨_, _, (handleOpen_passage ho (.inl hm)).1⟩
  | EMERGENCY =>
    cases he : s.isEscape d with
    | true => exact ⟨_, _, (handleOpen_passage ho (.inr ⟨hm, he⟩)).1⟩
    | false => exact ⟨_, _, (handleOpen_denied ho hm he).1⟩

theorem presentHandle_opens (ho : Opens d s) : presentHandle d .IDLE s = handleDemand d .OPEN s := by
  rw [presentHandle_changes (by rw [ho.handle]; decide), ho.handle]
  exact handleChange_asks (fun h => h.1.elim nofun nofun) fun h => by cases h.1

theorem Opens.of_claimed (h : Opens d s) (hc : Claimed d s t) : Opens d t where
  serves := (inService_congr hc.cfs).trans h.serves
  handle := hc.handle.trans h.handle
  position := by rw [hc.position]; exact h.position
  entry := hc.entry_none h.entry
  passage := hc.passage.trans h.passage
  latch := hc.latch h.latch
  arrival := by rw [hc.arrival]; exact h.arrival

end

/-- Settles O32. -/
theorem handlesTaken : Obligations.HandlesTaken := by
  unfold Obligations.HandlesTaken
  refine ⟨fun d prev s _ => handleTaken d prev s, fun rp src seq low d s hs hin _ hd hseq hdeaf hsettled hhandle hpos he hp hlatch htop => ?_⟩
  intro opens
  obtain ⟨v, order, hv, hmc, horder, hexec⟩ := event_ready (rp := rp) hs hin hd hseq .OPEN low false
  obtain ⟨hvposition, hvhandle⟩ := reported_repeats .OPEN low hv
  have hopens : Opens d v := ⟨(inService_congr hv.cfs).trans hin, hvhandle, by rw [hvposition]; exact hpos, (hv.entry d).trans he,
    (hv.passage d).trans hp, (hv.latch d).trans hlatch, by rw [hv.cs]; exact htop⟩
  have hrepeats : Repeats d (before s d) v := by
    refine ⟨hvposition, hv.deaf hdeaf hsettled, fun y hy _ => ?_, fun y hy _ => ?_, fun e hent => ?_, fun e hent => ?_, fun e hent => ?_⟩
    · rw [hopens.passage] at hy; cases hy
    · rw [hopens.passage] at hy; cases hy
    all_goals rw [hopens.entry] at hent; cases hent
  have hbefore : (before s d).handle = .IDLE := hhandle
  have hafter : ∀ u, Claimed d v u → Repeats d (before s d) u → Repeats d (before s d) (presentHandle d (before s d).handle u) := by
    intro u hu hru
    have hou := hopens.of_claimed hu
    obtain ⟨k, x, hasked⟩ := handleOpen hou
    rw [hbefore, presentHandle_opens hou]
    exact hasked.repeats hru hou
  obtain ⟨u, hu, -, hlast⟩ := repeats_handle hrepeats horder hafter
  have hou := hopens.of_claimed hu
  rw [hbefore, presentHandle_opens hou] at hlast
  have hmode : u.mc.mode = s.mc.mode := by rw [hu.mc, hmc]
  have hsea : u.mc.sea = s.mc.sea := by rw [hu.mc, hmc]
  have hescape : u.isEscape d = s.isEscape d := by unfold State.isEscape; rw [hu.tables, hv.tables]
  have harrival : u.cs.nextArrival = s.cs.nextArrival := by rw [hu.arrival, hv.cs]
  obtain ⟨k, x, hasked⟩ := handleOpen hou
  have hlocal := fun hm => handleOpen_local hou hm
  have hpassing := fun hm => handleOpen_passage hou hm
  have hdenied := fun hm he => handleOpen_denied hou hm he
  rw [hmode, hsea, harrival] at hlocal hpassing
  rw [hmode, hsea, hescape] at hdenied
  generalize settleRuns (forEach order (takePresentation d (before s d)) v) = t at hexec hlast
  generalize handleDemand d .OPEN u = w at hasked hlocal hpassing hdenied hlast
  have hclaim := hlast.claims d
  have hrecord : t.passage d = w.passage d := hlast.passage
  refine ends_of hexec ⟨?_, fun hm => ⟨⟨?_, ?_⟩, ?_⟩, fun hm => ⟨⟨?_, ?_⟩, ?_⟩, fun hm hesc => ⟨⟨?_, ?_⟩, ?_⟩, fun hm hesc => ⟨?_, ?_, ?_, ?_⟩,
    fun y hy => ⟨?_, ?_⟩⟩
  · exact hlast.handle.trans ((handle_of_orders hasked.orders).trans hou.handle)
  · exact hclaim.trans (hlocal hm).1.claim
  · rw [hlast.mc]; exact (hlocal hm).2
  · exact hrecord.trans (hlocal hm).1.passage
  · exact hclaim.trans (by rw [(hpassing (.inl hm)).1.claim, hm]; rfl)
  · rw [hlast.mc]; exact (hpassing (.inl hm)).2
  · exact hrecord.trans (hpassing (.inl hm)).1.passage
  · exact hclaim.trans (by rw [(hpassing (.inr ⟨hm, hescape.trans hesc⟩)).1.claim, hm]; rfl)
  · rw [hlast.mc]; exact (hpassing (.inr ⟨hm, hescape.trans hesc⟩)).2
  · exact hrecord.trans (hpassing (.inr ⟨hm, hescape.trans hesc⟩)).1.passage
  · exact Option.map_eq_none_iff.mp (hclaim.trans (hdenied hm hesc).1.claim)
  · exact hrecord.trans (hdenied hm hesc).1.passage
  · exact hlast.pending (hdenied hm hesc).2.1
  · rw [hlast.mc]; exact (hdenied hm hesc).2.2
  · exact ((hlast.claims y).trans (hasked.others y hy).1).trans ((hu.claims y).trans (hv.claimOf y))
  · exact (hlast.passage.trans (hasked.others y hy).2).trans (hu.passage.trans (hv.passage y))

end Sys2Proof.Proofs
end

section
/-! ## A demand: its alarms, its frames, the runs it leaves, and what it reads -/
namespace Sys2Proof.Proofs
open Sys2Proof Sys2Proof.Machine

set_option Elab.async false

section
variable {m : Demand} {s t u v : State} {d x : DoorIx} {e : Entry} {h : HpuIx} {i j : SlotIx} {r : Run} {tag : Option RunTag} {fate : TagFate}

/-! ### The displacement, and the parts that follow it -/

/-- The alarms that a demand may touch. -/
abbrev demandAlarms (m : Demand) (s : State) : List (AlarmKind × Nat) := [(.PASSAGE_OVERDUE, m.door.val), (.ADMISSION_DELAY, (s.hpuOf m.door).val)]

theorem onlyAlarms_endBeaten (m : Demand) (s : State) : OnlyAlarms s (endBeaten m s) [(.PASSAGE_OVERDUE, m.door.val)] := by
  unfold endBeaten
  split
  · exact onlyAlarms_clearAlarm .PASSAGE_OVERDUE m.door.val (s.dropPassage m.door)
  · exact onlyAlarms_refl ..

theorem onlyAlarms_displaced (m : Demand) (e : Entry) (s : State) : OnlyAlarms s (displaced m e s) [(.PASSAGE_OVERDUE, m.door.val)] := by
  have hrep := ReportFrame.reportTag e.tag .overruled (recloseGone m.door e.direction (endBeaten m s))
  exact onlyAlarms_trans (onlyAlarms_trans (onlyAlarms_endBeaten m s) (onlyAlarms_recloseGone ..))
    (onlyAlarms_of_records (congrArg Al.records hrep.al) _)

/-- A demand touches PASSAGE_OVERDUE of its door and ADMISSION_DELAY of its HPU alone. -/
theorem onlyAlarms_decideDemand (m : Demand) (s : State) : OnlyAlarms s (decideDemand m s).2 (demandAlarms m s) := by
  have hpassed {u : State} (hu : OnlyAlarms s u [(.PASSAGE_OVERDUE, m.door.val)]) {w t : State} (hal : w.al = u.al) (htables : w.tables = s.tables)
      (hd : OnlyAlarms w t [(.ADMISSION_DELAY, (w.hpuOf m.door).val)]) : OnlyAlarms s t (demandAlarms m s) := by
    rw [hpuOf_congr htables] at hd
    exact onlyAlarms_trans (onlyAlarms_mono hu (by simp)) (onlyAlarms_trans (onlyAlarms_of_records (congrArg Al.records hal) _) (onlyAlarms_mono hd (by simp)))
  have hd := decided m s
  generalize decideDemand m s = p at hd
  cases hd with
  | refused => exact onlyAlarms_refl ..
  | already => exact onlyAlarms_mono (onlyAlarms_endBeaten m s) (by simp)
  | enqueued =>
    have hend := Ending.endBeaten m s
    have hal : ((renewed m (endBeaten m s)).zeroOas m.door).al = (endBeaten m s).al := by
      show (renewed m (endBeaten m s)).al = _
      rw [renewed_eq]
    have htables : ((renewed m (endBeaten m s)).zeroOas m.door).tables = s.tables := by
      show (renewed m (endBeaten m s)).tables = _
      rw [renewed_eq]
      exact hend.tables
    show OnlyAlarms s (enqueue m (endBeaten m s)) _
    rw [enqueue_eq]
    refine hpassed (onlyAlarms_endBeaten m s) hal htables ?_
    rw [hpuOf_congr (hend.tables), hpuOf_congr htables]
    split
    · exact onlyAlarms_refl ..
    · exact (pass_admits ..).delay.only
  | @merged e =>
    show OnlyAlarms s (merge m e s) _
    unfold merge
    simp only
    split
    · exact hpassed (u := s) (w := s.setEntry m.door (e.merged m)) (onlyAlarms_refl ..) rfl rfl (pass_admits ..).delay.only
    · exact onlyAlarms_refl ..
  | @reversed e he hdir hph =>
    have hu := displaced_frame (e := e) m s hdir
    show OnlyAlarms s (reverse m e s) _
    rw [reverse_eq]
    refine hpassed (onlyAlarms_displaced m e s) (w := turned m e (displaced m e s)) rfl hu.tables ?_
    split
    · exact (pass_admits ..).delay.only
    · exact onlyAlarms_refl ..
  | @replaced e he hdir hph =>
    have hu := displaced_frame (e := e) m s hdir
    show OnlyAlarms s (replace m e s) _
    rw [replace_eq]
    have htables : (exchanged m (displaced m e s)).tables = s.tables := (frame_exchanged m (displaced m e s)).tables.trans hu.tables
    refine hpassed (onlyAlarms_displaced m e s) (w := exchanged m (displaced m e s)) (by rw [exchanged_eq]) htables ?_
    have hrep := onlyAlarms_replacedFrom m e (displaced m e s)
    rw [hpuOf_congr hu.tables] at hrep
    rwa [hpuOf_congr htables]

/-! ### The runs -/

/-- A tag of another run than that of the slot. -/
abbrev OtherTag (r : Run) (tag : Option RunTag) : Prop := ∀ tg, tag = some tg → tg.number ≠ r.number

/-- A report of another run's tag leaves the run in its slot. -/
theorem slot_reportTag (hr : s.gru.slots[i] = some r) (htag : OtherTag r tag) : (reportTag tag fate s).gru.slots[i] = some r := by
  cases tag with
  | none => exact hr
  | some tg =>
    have hne := htag tg rfl
    have hcount : (countTag (some tg) fate s).gru.slots[i] = some r := by
      rw [(countTag_gru (some tg) fate s).1 i, hr, Option.map_some, fated_of_ne hne.symm]
    show (completeRun tg.number (countTag (some tg) fate s)).gru.slots[i] = some r
    generalize countTag (some tg) fate s = v at hcount
    unfold completeRun
    split
    · next j hj =>
      obtain ⟨x, hx, hn⟩ := slotNumbered_eq_some hj
      have hij : i ≠ j := fun h => by
        subst h
        rw [hcount] at hx
        cases hx
        exact hne hn.symm
      rw [completeSlot_slots hij, hcount]
    · unfold completeStacked
      split
      · next x _ =>
        show (sendReport .COMPLETE x v).gru.slots[i] = _
        rw [(PlaceFrame.sendReport .COMPLETE x v).gru]
        exact hcount
      · exact hcount

/-- What a demand leaves of the runs while none is suspended. -/
structure Unresumed (n : Nat) (s t : State) : Prop where
  stack : t.gru.stack = []
  resumed : t.gru.resumed = s.gru.resumed
  grown : Grown n s t

theorem unresumed_of_gru {n : Nat} (hstack : s.gru.stack = []) (h : t.gru = s.gru) (hg : Grown n s t) : Unresumed n s t :=
  ⟨by rw [h]; exact hstack, by rw [h], hg⟩

theorem unresumed_reportTag (hstack : s.gru.stack = []) (tag : Option RunTag) (fate : TagFate) : Unresumed 1 s (reportTag tag fate s) := by
  cases tag with
  | none => exact unresumed_of_gru hstack rfl (.refl s)
  | some tg =>
    obtain ⟨-, hst, -, hres, hsp⟩ := countTag_gru (some tg) fate s
    have hcstack : (countTag (some tg) fate s).gru.stack = [] := by rw [hst, hstack]; rfl
    have hgrown : Grown 0 s (countTag (some tg) fate s) := .of_sp hsp
    show Unresumed 1 s (completeRun tg.number (countTag (some tg) fate s))
    generalize countTag (some tg) fate s = v at hcstack hres hgrown
    have stands : Unresumed 1 s v := ⟨hcstack, hres, hgrown.mono (by omega)⟩
    unfold completeRun
    split
    · next i _ =>
      unfold completeSlot
      split
      · next r _ =>
        split
        · have hsent := PlaceFrame.sendReport .COMPLETE r v
          have hempty : (sendReport .COMPLETE r v).gru.stack = [] := by rw [hsent.gru]; exact hcstack
          rw [vacate_of_idle hempty]
          exact ⟨hempty, by rw [← hres, ← hsent.gru], (hgrown.trans (.sendReport ..)).trans (n := 0) (.of_sp rfl)⟩
        · exact stands
      · exact stands
    · unfold completeStacked
      rw [hcstack]
      exact stands

theorem unresumed_displaced (hstack : s.gru.stack = []) (m : Demand) (e : Entry) : Unresumed 5 s (displaced m e s) := by
  have hend := (Ending.endBeaten m s).trans (.recloseGone m.door e.direction _)
  have hgrown := (Grown.endBeaten m s).trans (.recloseGone m.door e.direction _)
  have hrep := unresumed_reportTag (by rw [hend.gru]; exact hstack) e.tag .overruled (s := recloseGone m.door e.direction (endBeaten m s))
  exact ⟨hrep.stack, hrep.resumed.trans (by rw [hend.gru]), hgrown.trans hrep.grown⟩

theorem grown_pass (h : HpuIx) (s : State) : Grown 3 s (pass h s) := (DelayBounded.pass h s).grown
theorem grown_evalDelay (h : HpuIx) (s : State) : Grown 3 s (evalDelay h s) := (DelayBounded.evalDelay h s).grown

/-- While no context is suspended a demand suspends and resumes none, and adds at most eleven frames to a queue. -/
theorem unresumed_decideDemand (hstack : s.gru.stack = []) (m : Demand) : Unresumed 11 s (decideDemand m s).2 := by
  have hd := decided m s
  generalize decideDemand m s = p at hd
  cases hd with
  | refused => exact unresumed_of_gru hstack rfl (.refl s)
  | already => exact unresumed_of_gru hstack (Ending.endBeaten m s).gru ((Grown.endBeaten m s).mono (by omega))
  | enqueued =>
    refine unresumed_of_gru hstack ((enqueue_gru ..).trans (Ending.endBeaten m s).gru) ?_
    have hsp : ((renewed m (endBeaten m s)).zeroOas m.door).sp = (endBeaten m s).sp := by
      show (renewed m (endBeaten m s)).sp = _
      rw [renewed_eq]
    have hmade : Grown 3 (endBeaten m s) (enqueue m (endBeaten m s)) := by
      rw [enqueue_eq]
      split
      · exact .of_sp hsp
      · exact (grown_pass ..).after hsp
    exact ((Grown.endBeaten m s).trans hmade).mono (by omega)
  | @merged e =>
    show Unresumed 11 s (merge m e s)
    unfold merge
    simp only
    split
    · exact unresumed_of_gru hstack (ScheduleFrame.pass ..).gru (((grown_pass ..).mono (by omega)).after rfl)
    · exact unresumed_of_gru hstack rfl (.of_sp rfl)
  | @reversed e he hdir hph =>
    have hu := unresumed_displaced hstack m e
    show Unresumed 11 s (reverse m e s)
    rw [reverse_eq]
    have hturned : Unresumed 5 s (turned m e (displaced m e s)) := ⟨hu.stack, hu.resumed, ⟨hu.grown.port⟩⟩
    generalize turned m e (displaced m e s) = w at hturned
    split
    · have hf := ScheduleFrame.pass ((displaced m e s).hpuOf m.door) w
      exact ⟨by rw [hf.gru]; exact hturned.stack, by rw [hf.gru]; exact hturned.resumed, (hturned.grown.trans (grown_pass ..)).mono (by omega)⟩
    · exact ⟨hturned.stack, hturned.resumed, hturned.grown.mono (by omega)⟩
  | @replaced e he hdir hph =>
    have hu := unresumed_displaced hstack m e
    show Unresumed 11 s (replace m e s)
    rw [replace_eq]
    have hw := exchanged_eq m (displaced m e s)
    have hexchanged : Unresumed 5 s (exchanged m (displaced m e s)) := by
      rw [hw]
      exact ⟨hu.stack, hu.resumed, ⟨hu.grown.port⟩⟩
    obtain ⟨hf, -⟩ := replacedFrom_facts m e (displaced m e s)
    show Unresumed 11 s (replacedFrom m e (displaced m e s))
    refine ⟨by rw [hf.gru]; exact hexchanged.stack, by rw [hf.gru]; exact hexchanged.resumed, ?_⟩
    unfold replacedFrom
    split
    · exact (hexchanged.grown.trans (grown_pass ..)).trans (grown_evalDelay ..)
    · exact (hexchanged.grown.trans (grown_pass ..)).mono (by omega)

theorem slots_of_gru (h : t.gru = s.gru) : t.gru.slots[i] = s.gru.slots[i] := congrArg (fun g : Gru => g.slots[i]) h

theorem merge_gru (m : Demand) (e : Entry) (s : State) : (merge m e s).gru = s.gru := by
  unfold merge
  simp only
  split
  · exact (ScheduleFrame.pass ..).gru
  · rfl

/-- A demand for a door whose entry carries no tag of the run leaves the run in its slot. -/
theorem slot_decideDemand (hr : s.gru.slots[i] = some r) (htag : ∀ e ∈ s.entry m.door, e.tag.map RunTag.number ≠ some r.number) :
    (decideDemand m s).2.gru.slots[i] = some r := by
  have hother {e : Entry} (he : s.entry m.door = some e) : OtherTag r e.tag := fun tg htg hn => htag e he (by rw [htg, Option.map_some, hn])
  have hdisplaced {e : Entry} (he : s.entry m.door = some e) : (displaced m e s).gru.slots[i] = some r := by
    have hend := (Ending.endBeaten m s).trans (.recloseGone m.door e.direction _)
    exact slot_reportTag (by rw [hend.gru]; exact hr) (hother he)
  have hd := decided m s
  generalize decideDemand m s = p at hd
  cases hd with
  | refused => exact hr
  | already => exact (slots_of_gru (Ending.endBeaten m s).gru).trans hr
  | enqueued => exact (slots_of_gru ((enqueue_gru ..).trans (Ending.endBeaten m s).gru)).trans hr
  | @merged e =>
    show (merge m e s).gru.slots[i] = _
    rw [slots_of_gru (merge_gru m e s)]
    exact hr
  | @reversed e he hdir hph =>
    show (reverse m e s).gru.slots[i] = _
    rw [slots_of_gru (reverse_gru m e s)]
    exact hdisplaced he
  | @replaced e he hdir hph =>
    show (replace m e s).gru.slots[i] = _
    rw [slots_of_gru (replace_gru m e s)]
    exact hdisplaced he

end

end Sys2Proof.Proofs
end

section
/-! ## What a demand reads: the schedule, the tables, the mode, and its own door (R22) -/
namespace Sys2Proof.Proofs
open Sys2Proof Sys2Proof.Machine

set_option Elab.async false

section
variable {m : Demand} {s t u v : State} {d x : DoorIx} {e : Entry}

/-- Two states that a demand for the door cannot tell apart. -/
structure Alike (d : DoorIx) (s t : State) : Prop where
  cs : t.cs = s.cs
  tables : t.tables = s.tables
  inService : t.inService = s.inService
  mode : t.mc.mode = s.mc.mode
  latch : t.latch d = s.latch d
  position : t.position d = s.position d
  passage : t.passage d = s.passage d

theorem Alike.refl (d : DoorIx) (s : State) : Alike d s s := ⟨rfl, rfl, rfl, rfl, rfl, rfl, rfl⟩

theorem Alike.trans (h : Alike d s t) (g : Alike d t u) : Alike d s u :=
  ⟨g.cs.trans h.cs, g.tables.trans h.tables, g.inService.trans h.inService, g.mode.trans h.mode, g.latch.trans h.latch,
    g.position.trans h.position, g.passage.trans h.passage⟩

theorem Alike.entry (h : Alike d s t) (x : DoorIx) : t.entry x = s.entry x := entry_congr (by rw [h.cs]) x

theorem Alike.of_frame (h : AlarmFrame s t) (hms : t.ms = s.ms) : Alike d s t where
  cs := h.cs
  tables := h.tables
  inService := inService_congr h.cfs
  mode := by rw [h.mc]
  latch := by unfold State.latch; rw [hms]
  position := by unfold State.position; rw [h.rc]
  passage := passage_of_mc_passages (by rw [h.mc]) d

/-! ### The claims that each outcome leaves -/

theorem claimOf_of_cs (h : t.cs = s.cs) (x : DoorIx) : claimOf t x = claimOf s x := congrArg (Option.map Entry.claim) (entry_congr (by rw [h]) x)

/-- The arrival number that a door's entry takes, and the entries of the other doors with it, follow the schedule alone. -/
theorem arrived_congr (h : t.cs = s.cs) (d : DoorIx) :
    arrivalFor d t = arrivalFor d s ∧ ∀ x : DoorIx, x ≠ d → (arrived d t).entry x = (arrived d s).entry x := by
  have hothers : otherEntries t d = otherEntries s d := otherEntries_congr h d
  have hentry (x : DoorIx) : t.entry x = s.entry x := entry_congr (by rw [h]) x
  by_cases htop : s.cs.nextArrival = arrivalTop
  · obtain ⟨hn, -, hs⟩ := arrived_of_top htop d
    obtain ⟨hn', -, ht⟩ := arrived_of_top (s := t) (by rw [h]; exact htop) d
    refine ⟨by rw [hn, hn', hothers], fun x hx => ?_⟩
    rw [hs x hx, ht x hx, hentry]
    simp only [renumbered_congr h]
  · obtain ⟨hn, hs⟩ := arrived_of_below htop d
    obtain ⟨hn', ht⟩ := arrived_of_below (s := t) (by rw [h]; exact htop) d
    exact ⟨by rw [hn, hn', h], fun x _ => entry_congr (by rw [hs, ht, h]) x⟩

theorem claimOf_renewed_congr (h : t.cs = s.cs) (m : Demand) (x : DoorIx) : claimOf (renewed m t) x = claimOf (renewed m s) x := by
  obtain ⟨hnumber, hothers⟩ := arrived_congr h m.door
  by_cases hx : x = m.door
  · subst hx
    rw [claimOf_renewed_self, claimOf_renewed_self, hnumber]
  · rw [claimOf_renewed_of_ne hx, claimOf_renewed_of_ne hx]
    exact congrArg (Option.map Entry.claim) (hothers x hx)

theorem claimOf_merge (m : Demand) (e : Entry) (s : State) (x : DoorIx) :
    claimOf (merge m e s) x = claimOf (s.setEntry m.door (e.merged m)) x := by
  unfold merge
  simp only
  split
  · exact claimOf_pass ..
  · rfl

theorem claimOf_setEntry (d x : DoorIx) (e : Entry) (s : State) :
    claimOf (s.setEntry d e) x = if d = x then some e.claim else claimOf s x := by
  unfold claimOf
  rw [entry_setEntry]
  split <;> rfl

theorem claimOf_reverse (m : Demand) (e : Entry) (s : State) (x : DoorIx) :
    claimOf (reverse m e s) x = if m.door = x then some (m.direction, m.cls, m.group, m.origin, m.tag, e.arrival) else claimOf s x := by
  have hturned : claimOf (turned m e (displaced m e s)) x
      = if m.door = x then some (m.direction, m.cls, m.group, m.origin, m.tag, e.arrival) else claimOf s x := by
    refine (claimOf_setEntry ..).trans ?_
    rw [claimOf_of_cs (displaced_cs m e s)]
    rfl
  rw [reverse_eq]
  split
  · exact (claimOf_pass ..).trans hturned
  · exact hturned

theorem claimOf_replace (m : Demand) (e : Entry) (s : State) (x : DoorIx) :
    claimOf (replace m e s) x = claimOf (renewed m s) x := by
  rw [replace_eq]
  exact (claimOf_replacedFrom ..).trans (claimOf_renewed_congr (displaced_cs m e s) m x)

theorem claimOf_enqueued (m : Demand) (s : State) (x : DoorIx) :
    claimOf (enqueue m (endBeaten m s)) x = claimOf (renewed m s) x :=
  (claimOf_enqueue ..).trans (claimOf_renewed_congr (Ending.endBeaten m s).cs m x)

/-! ### Alike states -/

/-- The same outcome and the same claims. -/
structure Agrees (p q : DemandOutcome × State) : Prop where
  outcome : q.1 = p.1
  claims : ∀ x : DoorIx, claimOf q.2 x = claimOf p.2 x

theorem agrees_stands {o : DemandOutcome} (h : t.cs = s.cs) : Agrees (o, s) (o, t) := ⟨rfl, claimOf_of_cs h⟩

theorem agrees_settle (h : Alike m.door s t) : Agrees (settleDemand m (endBeaten m s)) (settleDemand m (endBeaten m t)) := by
  unfold settleDemand
  rw [position_endBeaten, position_endBeaten, h.position]
  split
  · exact ⟨rfl, fun x => (claimOf_of_cs (Ending.endBeaten m t).cs x).trans
      ((claimOf_of_cs h.cs x).trans (claimOf_of_cs (Ending.endBeaten m s).cs x).symm)⟩
  · refine ⟨rfl, fun x => ?_⟩
    show claimOf (enqueue m (endBeaten m t)) x = claimOf (enqueue m (endBeaten m s)) x
    rw [claimOf_enqueued, claimOf_enqueued]
    exact claimOf_renewed_congr h.cs m x

theorem agrees_entry (h : Alike m.door s t) (e : Entry) :
    Agrees (.MERGED, merge m e s) (.MERGED, merge m e t) ∧ Agrees (.REVERSED, reverse m e s) (.REVERSED, reverse m e t)
      ∧ Agrees (.REPLACED, replace m e s) (.REPLACED, replace m e t) := by
  refine ⟨⟨rfl, fun x => ?_⟩, ⟨rfl, fun x => ?_⟩, ⟨rfl, fun x => ?_⟩⟩
  · show claimOf (merge m e t) x = claimOf (merge m e s) x
    rw [claimOf_merge, claimOf_merge, claimOf_setEntry, claimOf_setEntry, claimOf_of_cs h.cs]
  · show claimOf (reverse m e t) x = claimOf (reverse m e s) x
    rw [claimOf_reverse, claimOf_reverse, claimOf_of_cs h.cs]
  · show claimOf (replace m e t) x = claimOf (replace m e s) x
    rw [claimOf_replace, claimOf_replace]
    exact claimOf_renewed_congr h.cs m x

/-- A demand decides alike, and leaves the same claims, in states that it cannot tell apart. -/
theorem decideDemand_alike (h : Alike m.door s t) : Agrees (decideDemand m s) (decideDemand m t) := by
  have hbeats : beatsPassage t m = beatsPassage s m := by
    unfold beatsPassage passageClaims
    rw [h.tables, h.mode, h.passage]
  have hentry : beatsEntry t m = beatsEntry s m := by
    unfold beatsEntry
    rw [h.tables]
  obtain hmerge := fun e => agrees_entry h e
  unfold decideDemand
  rw [h.inService, h.mode, h.latch]
  split
  · exact agrees_stands h.cs
  split
  · exact agrees_stands h.cs
  split
  · exact agrees_stands h.cs
  unfold decideClaims
  rw [h.entry, hentry, hbeats]
  split
  · next e _ =>
    obtain ⟨hm, hv, hp⟩ := hmerge e
    split
    · exact hm
    split
    · split
      · exact hv
      · exact hp
    · exact agrees_stands h.cs
  · split
    · exact agrees_settle h
    · exact agrees_stands h.cs

/-! ### A door without an entry -/

/-- A demand makes an entry at its own door alone. -/
theorem entry_none_decideDemand (hx : x ≠ m.door) (he : s.entry x = none) : (decideDemand m s).2.entry x = none := by
  have hnone {t : State} (h : claimOf t x = none) : t.entry x = none := Option.map_eq_none_iff.mp h
  have hclaim : claimOf s x = none := by unfold claimOf; rw [he]; rfl
  have hrenewed : claimOf (renewed m s) x = none := by
    rw [claimOf_renewed_of_ne hx]
    by_cases htop : s.cs.nextArrival = arrivalTop
    · obtain ⟨-, -, hothers⟩ := arrived_of_top htop m.door
      unfold claimOf
      rw [hothers x hx, he]
      rfl
    · rw [(arrived_below_top htop m.door).2]
      exact hclaim
  have hd := decided m s
  generalize decideDemand m s = p at hd
  refine hnone ?_
  cases hd with
  | refused => exact hclaim
  | already => exact (claimOf_of_cs (Ending.endBeaten m s).cs x).trans hclaim
  | enqueued => exact (claimOf_enqueued m s x).trans hrenewed
  | merged => exact (claimOf_merge ..).trans ((claimOf_setEntry ..).trans ((if_neg hx.symm).trans hclaim))
  | reversed => exact (claimOf_reverse ..).trans ((if_neg hx.symm).trans hclaim)
  | replaced => exact (claimOf_replace ..).trans hrenewed

end

end Sys2Proof.Proofs
end

section
/-! ## A list entry taken: the run past it, the wait and the bypass (R93 to R97) -/
namespace Sys2Proof.Proofs
open Sys2Proof Sys2Proof.Machine

set_option Elab.async false

section
variable {s t u v : State} {i j : SlotIx} {r x y : Run} {o : DemandOutcome} {d p q : DoorIx} {e : GroupEntry} {k : AlarmKind} {n : Nat}

/-! ### A record of an event -/

/-- A record of the pair stands in the list. -/
abbrev Recorded (s : State) (k : AlarmKind) (n : Nat) : Prop := ∃ r ∈ s.al.records, r.pair = (k, n)

theorem recorded_of_onlyAlarms {l : List (AlarmKind × Nat)} (h : OnlyAlarms s t l) (hl : (k, n) ∉ l) (hk : k ≠ .LIST_FULL)
    (hs : Recorded s k n) : Recorded t k n := by
  obtain ⟨r, hr, hpair⟩ := hs
  exact ⟨r, h.1 r hr (by rw [hpair]; exact hl) (by rw [show r.kind = k from congrArg Prod.fst hpair]; exact hk), hpair⟩

/-- R156: an event that finds the pair's record or a free place leaves a record of it. -/
theorem recorded_raiseEvent (h : HasRoom s k n) : Recorded (raiseEvent k n s) k n := by
  unfold raiseEvent
  split
  · next r hr =>
    obtain ⟨hmem, hk, hx⟩ := findRecord_some hr
    have hpair : r.pair = (k, n) := Prod.ext hk hx
    split
    · refine ⟨{ r with count := r.count + 1 }, ?_, hpair⟩
      rw [updateRecord_al]
      exact mem_replaced_self hmem rfl
    · exact ⟨r, hmem, hpair⟩
  · next hnone =>
    have hroom : otherCount s.al.records < otherPlaces :=
      h.resolve_right fun ⟨r, hr, hpair⟩ => findRecord_none.mp hnone r hr hpair
    rw [if_pos hroom]
    refine ⟨⟨k, n, .CLEARED_UNACK, s.seconds, 1⟩, ?_, rfl⟩
    rw [createRecord_al]
    exact mem_inserted.mpr (.inl rfl)

/-! ### The cursor moves on -/

/-- The run as it leaves the entry at its cursor. -/
def beyond (s : State) (r : Run) : Run :=
  { r with cursor := r.cursor + 1, state := if r.cursor + 1 < listLength s r then .WALKING else .TRACKING }

theorem listLength_congr (h : t.tables = s.tables) (r : Run) : listLength t r = listLength s r := by unfold listLength; rw [h]
theorem listEntry_congr (h : t.tables = s.tables) (r : Run) : listEntry t r = listEntry s r := by unfold listEntry; rw [h]
theorem beyond_congr (h : t.tables = s.tables) (r : Run) : beyond t r = beyond s r := by unfold beyond; rw [listLength_congr h]

theorem beyond_takeOutcome (o : DemandOutcome) (s : State) (r : Run) : beyond s (Run.takeOutcome o r) = { Run.takeOutcome o r with
    cursor := r.cursor + 1, state := if r.cursor + 1 < listLength s r then .WALKING else .TRACKING } := by
  cases o <;> rfl

theorem advance_eq (hr : s.gru.slots[i] = some r) : advance i s = completeSlot i (setSlot i (some (beyond s r)) s) := by
  unfold advance
  rw [hr]
  rfl

/-- A run that is not complete past its entry stands in its slot, and nothing else has changed. -/
theorem advance_stands (hr : s.gru.slots[i] = some r) (h : (beyond s r).state = .WALKING ∨ (beyond s r).outstanding ≠ 0) :
    advance i s = setSlot i (some (beyond s r)) s := by
  rw [advance_eq hr]
  refine completeSlot_eq_self fun x hx => ?_
  rw [slots_setSlot, if_pos rfl] at hx
  cases hx
  by_contra hdone
  obtain ⟨htracking, hnothing⟩ := done_iff.mp (Bool.eq_true_of_not_eq_false hdone)
  exact h.elim (fun hw => by rw [hw] at htracking; cases htracking) fun hne => hne hnothing

/-- What a run that has passed its entry leaves, from the state in which its outcome was counted. -/
structure Onward (i : SlotIx) (x : Run) (s u t : State) : Prop where
  stands : x.state = .WALKING ∨ x.outstanding ≠ 0 → t.gru.slots[i] = some x
  ended : x.state = .TRACKING → x.outstanding = 0 → u.gru.stack = [] → Grown 22 s u → SlotIdle t i ∧ i ∉ t.gru.slotting ∧ ReportSent s t .COMPLETE x
  resumed : u.gru.stack = [] → t.gru.resumed = u.gru.resumed
  frame : ReportFrame u t

theorem ReportFrame.advance (i : SlotIx) (s : State) : ReportFrame s (advance i s) := by
  unfold Machine.advance
  split
  · exact (ReportFrame.setSlot ..).trans (.completeSlot ..)
  · exact .refl s

theorem onward_advance (hr : u.gru.slots[i] = some r) (htables : u.tables = s.tables) :
    Onward i (beyond u r) s u (advance i u) := by
  have hslot : (setSlot i (some (beyond u r)) u).gru.slots[i] = some (beyond u r) := (slots_setSlot _).trans (if_pos rfl)
  refine ⟨fun h => ?_, fun htracking hnothing hstack hgrown => ?_, fun hstack => ?_, .advance i u⟩
  · rw [advance_stands hr h]
    exact hslot
  · rw [advance_eq hr, completeSlot_done hslot (done_iff.mpr ⟨htracking, hnothing⟩)]
    have hsent : ReportSent s (sendReport .COMPLETE (beyond u r) (setSlot i (some (beyond u r)) u)) .COMPLETE (beyond u r) :=
      reportSent_sendReport htables ⟨hgrown.port⟩
    have hempty : (sendReport .COMPLETE (beyond u r) (setSlot i (some (beyond u r)) u)).gru.stack = [] := by
      rw [(PlaceFrame.sendReport ..).gru]
      exact hstack
    generalize sendReport .COMPLETE (beyond u r) (setSlot i (some (beyond u r)) u) = w at hsent hempty
    rw [vacate_of_idle hempty]
    refine ⟨?_, ?_, hsent⟩
    · simp only [SlotIdle, Fin.getElem_fin, put, Vector.getElem_set_self]
    · simp
  · rw [advance_eq hr]
    by_cases hd : (beyond u r).done = true
    · rw [completeSlot_done hslot hd]
      have hgru := (PlaceFrame.sendReport .COMPLETE (beyond u r) (setSlot i (some (beyond u r)) u)).gru
      rw [vacate_of_idle (by rw [hgru]; exact hstack)]
      show (sendReport .COMPLETE (beyond u r) (setSlot i (some (beyond u r)) u)).gru.resumed = _
      rw [hgru]
      rfl
    · rw [completeSlot_eq_self fun z hz => by
        rw [hslot] at hz
        cases hz
        exact Bool.eq_false_of_not_eq_true hd]
      rfl

/-! ### The demand -/

/-- The state in which the outcome of the run's demand is counted. -/
abbrev submitted (r : Run) (d : DoorIx) (s : State) : State :=
  modRun r.number (Run.takeOutcome (decideDemand (r.demand d) s).1) (decideDemand (r.demand d) s).2

theorem submitAt_eq (hr : s.gru.slots[i] = some r) (hd : walkDoor s r = some d) : submitAt i s = advance i (submitted r d s) := by
  unfold submitAt
  rw [hr]
  simp only [hd]

theorem slot_submitted (hr : s.gru.slots[i] = some r) (htag : ∀ e ∈ s.entry d, e.tag.map RunTag.number ≠ some r.number) :
    (submitted r d s).gru.slots[i] = some (Run.takeOutcome (decideDemand (r.demand d) s).1 r) := by
  have hslot := slot_decideDemand (m := r.demand d) hr htag
  unfold submitted
  generalize (decideDemand (r.demand d) s).1 = o
  generalize (decideDemand (r.demand d) s).2 = u at hslot
  show (modRun r.number (Run.takeOutcome o) u).gru.slots[i] = _
  simp only [modRun, Fin.getElem_fin, getElem_updAll]
  rw [Fin.getElem_fin] at hslot
  rw [hslot]
  simp

/-- The run past the entry at its cursor, when its demand for the listed door had this outcome. -/
abbrev stepped (o : DemandOutcome) (s : State) (r : Run) : Run := beyond s (Run.takeOutcome o r)

/-- R93: a run that submits its demand: its outcome is counted, and it goes on past the entry. -/
theorem onward_submitAt (hr : s.gru.slots[i] = some r) (hd : walkDoor s r = some d)
    (htag : ∀ e ∈ s.entry d, e.tag.map RunTag.number ≠ some r.number)
    (htables : s.tables = v.tables) :
    Onward i (stepped (decideDemand (r.demand d) s).1 v r) v (submitted r d s) (submitAt i s) := by
  have htaken : (submitted r d s).tables = v.tables := ((RunFrame.decideDemand ..).trans (.modRun ..)).tables.trans htables
  have h := onward_advance (slot_submitted hr htag) htaken
  rw [submitAt_eq hr hd]
  unfold stepped
  rwa [beyond_congr htaken] at h

/-! ### What a run leaves that took its entry -/

/-- A run took the entry at its cursor, whose precondition was met or bypassed: its demand was decided as the state stood. -/
structure Entered (i : SlotIx) (d : DoorIx) (r : Run) (s t : State) : Prop where
  stands : (stepped (decideDemand (r.demand d) s).1 s r).state = .WALKING ∨ (stepped (decideDemand (r.demand d) s).1 s r).outstanding ≠ 0 →
    t.gru.slots[i] = some (stepped (decideDemand (r.demand d) s).1 s r)
  ended : (stepped (decideDemand (r.demand d) s).1 s r).state = .TRACKING → (stepped (decideDemand (r.demand d) s).1 s r).outstanding = 0 →
    s.gru.stack = [] → SlotIdle t i ∧ i ∉ t.gru.slotting ∧ ReportSent s t .COMPLETE (stepped (decideDemand (r.demand d) s).1 s r)
  resumed : s.gru.stack = [] → t.gru.resumed = s.gru.resumed
  claims : ∀ y : DoorIx, claimOf t y = claimOf (decideDemand (r.demand d) s).2 y
  passages : ∀ y : DoorIx, y ≠ d → t.passage y = s.passage y
  frame : RunFrame s t
  ms : t.ms = s.ms

/-- The run takes its entry after alarms alone have changed. -/
theorem entered_after (hframe : AlarmFrame s v) (hms : v.ms = s.ms) (hgrown : Grown 1 s v) (hr : s.gru.slots[i] = some r)
    (hd : walkDoor v r = some d) (htag : ∀ e ∈ s.entry d, e.tag.map RunTag.number ≠ some r.number) :
    Entered i d r s (submitAt i v) ∧ (submitAt i v).al = (decideDemand (r.demand d) v).2.al := by
  have hrv : v.gru.slots[i] = some r := by rw [hframe.gru]; exact hr
  have hentry : v.entry d = s.entry d := entry_congr (by rw [hframe.cs]) d
  have h := onward_submitAt hrv hd (by rw [hentry]; exact htag) (v := s) hframe.tables
  have hunresumed (hstack : s.gru.stack = []) := unresumed_decideDemand (s := v) (by rw [hframe.gru]; exact hstack) (r.demand d)
  have hempty (hstack : s.gru.stack = []) : (submitted r d v).gru.stack = [] := by
    show List.map _ (decideDemand (r.demand d) v).2.gru.stack = []
    rw [(hunresumed hstack).stack]
    rfl
  have hagrees := decideDemand_alike (m := r.demand d) (Alike.of_frame (d := (r.demand d).door) hframe hms)
  have hpassage (y : DoorIx) (hy : y ≠ d) : (submitAt i v).passage y = v.passage y :=
    (passage_of_mc_passages (by rw [h.frame.mc]; rfl) y).trans (passage_decideDemand_of_ne (m := r.demand d) hy)
  have hsubmitted : Grown 12 s (submitted r d v) ∨ s.gru.stack ≠ [] := or_iff_not_imp_right.mpr fun hstack => by
    have hdemand := (hunresumed (not_not.mp hstack)).grown
    exact (hgrown.trans hdemand).trans (n := 0) (.of_sp rfl)
  obtain ⟨hstands, hended, hresumed, hkept⟩ := h
  unfold stepped at hstands hended
  rw [hagrees.outcome] at hstands hended
  refine ⟨⟨hstands, fun ht ho hstack => hended ht ho (hempty hstack) ((hsubmitted.resolve_right (not_not.mpr hstack)).mono (by omega)),
    fun hstack => ?_, fun y => (claimOf_of_cs hkept.cs y).trans (hagrees.claims y),
    fun y hy => (hpassage y hy).trans (passage_of_mc_passages (by rw [hframe.mc]) y), hframe.toRunFrame.trans (.submitAt i v), ?_⟩, hkept.al⟩
  · exact (hresumed (hempty hstack)).trans ((hunresumed hstack).resumed.trans (by rw [hframe.gru]))
  · exact hkept.ms.trans ((decideDemand_ms (r.demand d) v).trans hms)

theorem entered_submitAt (hr : s.gru.slots[i] = some r) (hd : walkDoor s r = some d)
    (htag : ∀ e ∈ s.entry d, e.tag.map RunTag.number ≠ some r.number) :
    Entered i d r s (submitAt i s) ∧ (submitAt i s).al = (decideDemand (r.demand d) s).2.al :=
  entered_after (.refl s) rfl (.of_sp rfl) hr hd htag

/-- The listed door of a run, as an entry of its list names it. -/
theorem walkDoor_eq (he : listEntry s r = some e) (hd : e.door = d.val) (hpresent : r.group = .ALL → s.isPresent d = true) :
    walkDoor s r = some d := by
  unfold walkDoor
  rw [he]
  simp only [ix?_val hd]
  refine if_neg fun h => ?_
  rw [hpresent h.1] at h
  cases h.2

theorem entered_bypassAt (hr : s.gru.slots[i] = some r) (he : listEntry s r = some e) (hd : e.door = d.val)
    (hpresent : r.group = .ALL → s.isPresent d = true) (htag : ∀ e ∈ s.entry d, e.tag.map RunTag.number ≠ some r.number) :
    Entered i d r s (bypassAt i s)
      ∧ (HasRoom s .PRECONDITION_BYPASSED d.val → Recorded (bypassAt i s) .PRECONDITION_BYPASSED d.val) := by
  have hbypass : bypassAt i s = submitAt i (raiseEvent .PRECONDITION_BYPASSED d.val s) := by
    unfold bypassAt raiseBypass
    rw [hr]
    simp only [he, hd]
  have hrecorded := recorded_raiseEvent (s := s) (k := .PRECONDITION_BYPASSED) (n := d.val)
  have hframe := AlarmFrame.raiseEvent .PRECONDITION_BYPASSED d.val s
  have hgrown := Grown.raiseEvent s .PRECONDITION_BYPASSED d.val
  have hms := ms_raiseEvent .PRECONDITION_BYPASSED d.val s
  rw [hbypass]
  generalize raiseEvent .PRECONDITION_BYPASSED d.val s = v at hrecorded hframe hgrown hms
  have hdoor : walkDoor v r = some d := walkDoor_eq ((listEntry_congr hframe.tables r).trans he) hd fun h => by
    have := hpresent h
    unfold State.isPresent at this ⊢
    rw [hframe.tables]
    exact this
  obtain ⟨hentered, hal⟩ := entered_after hframe hms hgrown hr hdoor htag
  refine ⟨hentered, fun hroom => recorded_of_onlyAlarms (s := v) (l := demandAlarms (r.demand d) v) ?_ (by simp) (by decide) (hrecorded hroom)⟩
  exact onlyAlarms_trans (onlyAlarms_decideDemand (r.demand d) v) (onlyAlarms_of_records (congrArg Al.records hal) _)

end

end Sys2Proof.Proofs
end

section
/-! ## O59 -/
namespace Sys2Proof.Proofs
open Sys2Proof Sys2Proof.Machine

set_option Elab.async false

section
variable {s t : State} {i : SlotIx} {r : Run} {e : GroupEntry} {d q : DoorIx} {age : Nat}

theorem preconditionOf_eq (he : listEntry s r = some e) : preconditionOf s r = ix? 96 e.pre := by
  unfold preconditionOf
  rw [he]

/-- R94: the precondition that the entry names is met, or it names none. -/
theorem takeListEntry_met (hr : s.gru.slots[i] = some r) (he : listEntry s r = some e) (h : PreMet s r e) :
    takeListEntry i age s = submitAt i s := by
  unfold takeListEntry
  rw [hr]
  simp only [preconditionOf_eq he]
  split
  · next q hq =>
    have hmet : evalPrecondition s r.direction q = .MET := if_pos (h q (ix?_eq_some.mp hq).symm)
    rw [hmet]
  · rfl

theorem takeListEntry_bypassed (hr : s.gru.slots[i] = some r) (he : listEntry s r = some e) (h : PreBypassed s r e) :
    takeListEntry i age s = bypassAt i s := by
  obtain ⟨q, hq, hne, hor⟩ := h
  have hbypassed : evalPrecondition s r.direction q = .BYPASSED := (if_neg hne).trans (if_pos hor)
  unfold takeListEntry
  rw [hr]
  simp only [preconditionOf_eq he, ix?_val hq, hbypassed]

theorem takeListEntry_waits (hr : s.gru.slots[i] = some r) (he : listEntry s r = some e) (h : PreWaits s r e) :
    takeListEntry i age s = setSlot i (some { r with state := .WAITING, waitAge := age }) s := by
  obtain ⟨q, hq, hne, hknown, hlatch⟩ := h
  unfold takeListEntry
  rw [hr]
  simp only [preconditionOf_eq he, ix?_val hq, evalPrecondition_notMet hne hknown hlatch]
  unfold setStage
  rw [hr]

/-- An entry of the list of ALL names no precondition door. -/
theorem preMet_of_all (hall : r.group = .ALL) (he : listEntry s r = some e) : PreMet s r e := by
  unfold listEntry at he
  rw [hall] at he
  simp only at he
  split at he
  · cases he
    exact fun q hq => by
      have := q.isLt
      simp only at hq
      omega
  · cases he

/-- R87: ALL passes over a door that is not present. -/
theorem submitAt_absent (hr : s.gru.slots[i] = some r) (he : listEntry s r = some e) (hd : e.door = d.val) (hall : r.group = .ALL)
    (hp : s.isPresent d = false) : submitAt i s = advance i s := by
  have hdoor : walkDoor s r = none := by
    unfold walkDoor
    rw [he]
    simp only [ix?_val hd]
    exact if_pos ⟨hall, hp⟩
  unfold submitAt
  rw [hr]
  simp only [hdoor]

theorem walkStep_walking (hr : s.gru.slots[i] = some r) (hw : r.state = .WALKING) : walkStep i s = takeListEntry i 0 s := by
  refine if_pos ?_
  unfold slotIn
  rw [hr]
  exact decide_eq_true hw

/-- A walk step of a run that leaves none to look. -/
theorem exec_walkStep (hs : Awake s) (h : (walkStep i s).gru.resumed = []) : exec (.walkStep i) s = .next (walkStep i s) := by
  have hexec : exec (.walkStep i) s = .next (if s.pins.reset then s else settleRuns (walkStep i s)) := rfl
  rw [settleRuns_of_resumed h] at hexec
  exact exec_awake hs hexec

end

/-- Settles O59. -/
theorem runsWalk : Obligations.RunsWalk := by
  unfold Obligations.RunsWalk
  rintro i s hs ⟨-, hres⟩ hstack
  refine ⟨fun hslot => ?_, fun r hr hwalk e he => ?_⟩
  · have hstep : walkStep i s = s := if_neg (by rw [hslot]; exact Bool.false_ne_true)
    rw [exec_walkStep hs (by rw [hstep]; exact hres), hstep]
  intro past goesOn
  have hr : s.gru.slots[i] = some r := hr
  have he : listEntry s r = some e := he
  have hstep := walkStep_walking hr hwalk
  have hpast (o : DemandOutcome) : past o = stepped o s r := (beyond_takeOutcome o s r).symm
  have hentered {d : DoorIx} {t : State} (h : Entered i d r s t) : goesOn (past (decideDemand (r.demand d) s).1) (decideDemand (r.demand d) s).2 t := by
    rw [hpast]
    exact ⟨h.stands, fun ht ho => h.ended ht ho hstack, h.claims, h.ms, h.frame.mode, h.frame.orders, aside_of_block h.frame.toBlockFrame⟩
  refine ⟨fun hwaits => ?_, fun d hd => ⟨fun hall habsent => ?_, fun hpresent htag => ⟨fun hmet => ?_, fun hbypassed => ?_⟩⟩⟩
  · rw [takeListEntry_waits hr he hwaits] at hstep
    rw [exec_walkStep hs (by rw [hstep]; exact hres), hstep]
    rfl
  · rw [takeListEntry_met hr he (preMet_of_all hall he), submitAt_absent hr he hd hall habsent] at hstep
    intro x
    have hx : x = beyond s r := hpast .NOT_CONFIGURED
    have honward := onward_advance (i := i) hr rfl (s := s)
    have hexec : exec (.walkStep i) s = .next (advance i s) := by
      rw [exec_walkStep hs (by rw [hstep]; exact (honward.resumed hstack).trans hres), hstep]
    rw [← hx] at honward
    refine ⟨fun hgo => ?_, ends_of hexec ⟨⟨honward.stands, fun ht ho => honward.ended ht ho hstack (.of_sp rfl),
      claimOf_of_cs honward.frame.cs, honward.frame.ms, honward.frame.mode, honward.frame.orders,
      aside_of_block honward.frame.toBlockFrame⟩, honward.frame.cs, honward.frame.al, honward.frame.rc⟩⟩
    rw [hx] at hgo ⊢
    rw [hexec, advance_stands hr hgo]
    rfl
  · rw [takeListEntry_met hr he hmet] at hstep
    obtain ⟨h, -⟩ := entered_submitAt (i := i) hr (walkDoor_eq he hd hpresent) htag
    rw [← hstep] at h
    exact ends_of (exec_walkStep hs ((h.resumed hstack).trans hres)) (hentered h)
  · rw [takeListEntry_bypassed hr he hbypassed] at hstep
    obtain ⟨h, hrecord⟩ := entered_bypassAt (i := i) hr he hd hpresent htag
    rw [← hstep] at h hrecord
    exact ends_of (exec_walkStep hs ((h.resumed hstack).trans hres)) ⟨hentered h, hrecord⟩

end Sys2Proof.Proofs
end

section
/-! ## O60 -/
namespace Sys2Proof.Proofs
open Sys2Proof Sys2Proof.Machine

set_option Elab.async false

/-- The one run that waits on the precondition door `p` to submit its demand for the door `d`. -/
structure AloneWaiting (i : SlotIx) (p d : DoorIx) (r : Run) (s : State) : Prop where
  slot : s.gru.slots[i] = some r
  waits : r.state = .WAITING
  entry : listEntry s r = some ⟨d.val, p.val⟩
  cursor : r.cursor + 1 < listLength s r
  alone : ∀ j : SlotIx, j ≠ i → slotIn s j .WAITING = false
  tag : ∀ x ∈ s.entry d, x.tag.map RunTag.number ≠ some r.number

section
variable {s t u v w : State} {i j : SlotIx} {r : Run} {e : GroupEntry} {d p x : DoorIx} {b : Before} {act : SlotIx → State → State}
  {y : Reported} {order : List PresentAct} {n : Nat}

/-- The run walks on past its entry, the demand of the listed door decided as the state stood. -/
structure WalksOn (i : SlotIx) (d : DoorIx) (r : Run) (s t : State) : Prop where
  slot : t.gru.slots[i] = some { Run.takeOutcome (decideDemand (r.demand d) s).1 r with cursor := r.cursor + 1, state := .WALKING }
  resumed : s.gru.stack = [] → t.gru.resumed = s.gru.resumed
  claims : ∀ y : DoorIx, claimOf t y = claimOf (decideDemand (r.demand d) s).2 y
  passages : ∀ y : DoorIx, y ≠ d → t.passage y = s.passage y
  frame : RunFrame s t
  ms : t.ms = s.ms

theorem Entered.walksOn (h : Entered i d r s t) (hcur : r.cursor + 1 < listLength s r) : WalksOn i d r s t := by
  have hstep (o : DemandOutcome) : stepped o s r = { Run.takeOutcome o r with cursor := r.cursor + 1, state := .WALKING } := by
    unfold stepped
    rw [beyond_takeOutcome, if_pos hcur]
  refine ⟨?_, h.resumed, h.claims, h.passages, h.frame, h.ms⟩
  rw [h.stands (.inl (by rw [hstep])), hstep]

/-- A run that waits walks a list of its group: ALL names no precondition. -/
theorem AloneWaiting.present (h : AloneWaiting i p d r s) : r.group = .ALL → s.isPresent d = true := fun hall => by
  have he := h.entry
  unfold listEntry at he
  rw [hall] at he
  simp only at he
  split at he
  · have hp : (127 : Nat) = p.val := congrArg GroupEntry.pre (Option.some_inj.mp he)
    have := p.isLt
    omega
  · cases he

theorem AloneWaiting.submits (h : AloneWaiting i p d r s) : WalksOn i d r s (submitAt i s)
    ∧ (submitAt i s).al = (decideDemand (r.demand d) s).2.al :=
  (entered_submitAt h.slot (walkDoor_eq h.entry rfl h.present) h.tag).imp_left fun he => he.walksOn h.cursor

theorem AloneWaiting.bypasses (h : AloneWaiting i p d r s) : WalksOn i d r s (bypassAt i s)
    ∧ (HasRoom s .PRECONDITION_BYPASSED d.val → Recorded (bypassAt i s) .PRECONDITION_BYPASSED d.val) :=
  (entered_bypassAt h.slot h.entry rfl h.present h.tag).imp_left fun he => he.walksOn h.cursor

/-! ### The runs that hear of a door -/

theorem waitsOn_of_not_waiting (h : slotIn s j .WAITING = false) (x : DoorIx) : waitsOn s x j = false := by
  by_contra hw
  rw [slotIn_of_waitsOn (Bool.eq_true_of_not_eq_false hw)] at h
  cases h

theorem AloneWaiting.waitsOn (h : AloneWaiting i p d r s) (x : DoorIx) (j : SlotIx) : waitsOn s x j = decide (j = i ∧ x = p) := by
  by_cases hj : j = i
  · subst hj
    unfold Machine.waitsOn
    rw [h.slot]
    simp only [preconditionOf_eq h.entry, ix?_val rfl, h.waits]
    simp [eq_comm]
  · rw [waitsOn_of_not_waiting (h.alone j hj)]
    simp [hj]

theorem AloneWaiting.forWaiting_other (h : AloneWaiting i p d r s) (hx : x ≠ p) (act : SlotIx → State → State) : forWaiting x act s = s := by
  unfold forWaiting
  rw [List.filter_eq_nil_iff.mpr fun j _ => by rw [h.waitsOn]; simp [hx]]
  rfl

theorem AloneWaiting.forWaiting (h : AloneWaiting i p d r s) (act : SlotIx → State → State) : forWaiting p act s = act i s := by
  have hfilter : allSlots.filter (Machine.waitsOn s p) = [i] := by
    have hcongr : allSlots.filter (Machine.waitsOn s p) = allSlots.filter (· == i) :=
      List.filter_congr fun j _ => by rw [h.waitsOn, Bool.beq_eq_decide_eq]; simp
    have hone : allSlots.count i = 1 := List.count_eq_one_of_mem (List.nodup_finRange 5) (List.mem_finRange i)
    rw [hcongr, List.filter_beq, hone]
    rfl
  unfold Machine.forWaiting
  rw [hfilter]
  rfl

theorem AloneWaiting.hears (h : AloneWaiting i p d r s) : pokeRuns p s = if s.position p = r.direction.target then submitAt i s
    else if s.position p = .UNKNOWN then bypassAt i s else s := by
  refine (h.forWaiting _).trans ?_
  unfold hearPresentation
  rw [h.slot]

/-! ### The wait age -/

theorem exec_waitAge (hs : Awake s) (hres : (if waitedOut s i then bypassAt i s else s).gru.resumed = []) :
    exec (.waitAgeExpiry i) s = .next (if waitedOut s i then bypassAt i s else s) := by
  have hexec : exec (.waitAgeExpiry i) s = .next (if s.pins.reset then s else settleRuns (if waitedOut s i then bypassAt i s else s)) := rfl
  rw [settleRuns_of_resumed hres] at hexec
  exact exec_awake hs hexec

theorem waitedOut_iff : waitedOut s i = true ↔ ∃ r, s.gru.slots[i] = some r ∧ r.state = .WAITING
    ∧ ∃ g, r.group = .stored g ∧ 10 * s.tables.groups[g].waitLimit ≤ r.waitAge := by
  unfold waitedOut
  cases hr : s.gru.slots[i] with
  | none => simp
  | some r =>
    unfold waitLimitTicks
    cases hg : r.group <;> simp [hg]

/-! ### A REPORT that ends the wait (entry 1) -/

theorem AloneWaiting.congr (h : AloneWaiting i p d r s) (hgru : t.gru = s.gru) (htables : t.tables = s.tables) (hcs : t.cs = s.cs) :
    AloneWaiting i p d r t where
  slot := by rw [hgru]; exact h.slot
  waits := h.waits
  entry := (listEntry_congr htables r).trans h.entry
  cursor := by rw [listLength_congr htables]; exact h.cursor
  alone j hj := by
    have := h.alone j hj
    unfold slotIn at this ⊢
    rw [hgru]
    exact this
  tag := by
    have hentry : t.entry d = s.entry d := entry_congr (by rw [hcs]) d
    rw [hentry]
    exact h.tag

/-- At a position that is settled or UNKNOWN MS takes a presentation of a door without an entry by the clears of rest. -/
theorem idle_of_none (he : s.entry p = none) (hpos : s.position p = .CLOSED ∨ s.position p = .OPEN ∨ s.position p = .UNKNOWN) :
    MsIdle p b s := by
  refine ⟨phaseOf_of_none he, .inr ?_⟩
  unfold foundDirection
  obtain h | h | h := hpos <;> rw [h] <;> split <;> rfl

/-- The state that is presented, and what acts before the runs hear, look alike to a demand for another door. -/
theorem alike_ready (hv : Ready p y s v) (hn : Near true n p v u) (hd : d ≠ p) : Alike d s u := by
  have hstands := hn.stands
  exact {
    cs := hstands.cs.trans hv.cs
    tables := hstands.tables.trans hv.tables
    inService := inService_congr (hstands.cfs.trans hv.cfs)
    mode := (congrArg Mc.mode hstands.mc).trans hv.mode
    latch := by
      unfold State.latch
      rw [hn.others d hd, hv.ms]
    position := by
      rw [hstands.position]
      unfold State.position
      rw [hv.others d hd]
    passage := (hstands.passage d).trans (hv.passage d) }

/-- A REPORT of the precondition door: the run takes its entry in a state that a demand for the listed door cannot tell from the
first, and the other blocks act on no entry. -/
theorem waiting_report (h : AloneWaiting i p d r s) (hv : Ready p y s v) (hd : d ≠ p) (he : s.entry p = none) (hpassage : s.passage p = none)
    (hhandle : v.handle p = b.handle) (hpos : v.position p = .CLOSED ∨ v.position p = .OPEN ∨ v.position p = .UNKNOWN)
    (hsettled : SettledLaw s) (hstack : s.gru.stack = []) (horder : order.Perm presentActs)
    (htakes : ∀ u, AloneWaiting i p d r u → u.position p = v.position p → WalksOn i d r u (pokeRuns p u)) : ∃ u n m, Near true n p v u
      ∧ WalksOn i d r u (pokeRuns p u) ∧ AloneWaiting i p d r u ∧ u.position p = v.position p
      ∧ Near true m p (pokeRuns p u) (settleRuns (forEach order (takePresentation p b) v)) := by
  obtain ⟨before, after, rfl, hbefore, hafter, -, -⟩ := order_split horder .GRU
  rw [forEach_append]
  have hev : v.entry p = none := (hv.entry p).trans he
  have hfirst := near_acts_among (r := true) (l := []) before ((hv.passage p).trans hpassage) hhandle (fun hm => absurd hm hbefore)
    (fun _ => ⟨rfl, idle_of_none hev hpos⟩) (fun _ => csIdle_of_none hev)
  generalize forEach before (takePresentation p b) v = u at hfirst ⊢
  have hstands := hfirst.stands
  have hu : AloneWaiting i p d r u := h.congr (hstands.gru.trans hv.gru) (hstands.tables.trans hv.tables) (hstands.cs.trans hv.cs)
  have hposu : u.position p = v.position p := hstands.position p
  have hwalks := htakes u hu hposu
  have hposw : (pokeRuns p u).position p = v.position p := (position_of_orders hwalks.frame.orders).trans hposu
  have hew : (pokeRuns p u).entry p = none := by
    have hnone : (decideDemand (r.demand d) u).2.entry p = none :=
      entry_none_decideDemand (m := r.demand d) (Ne.symm hd) ((hstands.entry p).trans hev)
    refine Option.map_eq_none_iff.mp ((hwalks.claims p).trans ?_)
    unfold claimOf
    rw [hnone]
    rfl
  have hlast := near_acts_among (r := true) (l := []) after (s := pokeRuns p u) (b := b)
    ((hwalks.passages p (Ne.symm hd)).trans ((hstands.passage p).trans ((hv.passage p).trans hpassage)))
    ((handle_of_orders hwalks.frame.orders).trans ((hstands.handle p).trans hhandle)) (fun hm => absurd hm hafter)
    (fun _ => ⟨rfl, idle_of_none hew (by rw [hposw]; exact hpos)⟩) (fun _ => csIdle_of_none hew)
  have hact : takePresentation p b .GRU u = pokeRuns p u := rfl
  rw [hact]
  have hresumed : (forEach after (takePresentation p b) (pokeRuns p u)).gru.resumed = [] := by
    rw [hlast.stands.gru, hwalks.resumed (by rw [hstands.gru, hv.gru]; exact hstack), hstands.gru, hv.gru]
    exact hsettled.2
  rw [settleRuns_of_resumed hresumed]
  exact ⟨u, _, _, hfirst, hwalks, hu, hposu, hlast⟩

end

end Sys2Proof.Proofs
end

section
/-! ## O60: the wait age, the runs that hear, the REPORT -/
namespace Sys2Proof.Proofs
open Sys2Proof Sys2Proof.Machine

set_option Elab.async false

section
variable {s t : State} {i : SlotIx} {r : Run} {g : GroupIx} {p d : DoorIx} {src seq : Byte} {b : ReportBits} {rp : RingPort}

/-- An expiry of a wait that is not due changes nothing. -/
theorem waitAge_early (hs : Awake s) (hsettled : SettledLaw s) (h : ∀ r ∈ s.gru.slots[i], r.state ≠ .WAITING ∨ r.group = .ALL
    ∨ (r.group = .stored g ∧ r.waitAge < 10 * s.tables.groups[g].waitLimit)) : exec (.waitAgeExpiry i) s = .next s := by
  have hout : ¬waitedOut s i = true := fun hw => by
    obtain ⟨r, hr, hwait, k, hk, hlimit⟩ := waitedOut_iff.mp hw
    obtain hn | hall | ⟨hg, hlt⟩ := h r hr
    · exact hn hwait
    · rw [hall] at hk; cases hk
    · rw [hk] at hg
      cases hg
      exact absurd hlimit (Nat.not_le.mpr hlt)
  have hstep : (if waitedOut s i then bypassAt i s else s) = s := if_neg hout
  rw [exec_waitAge hs (by rw [hstep]; exact hsettled.2), hstep]

/-- A wait that has lasted its limit is bypassed. -/
theorem waitAge_due (hs : Awake s) (hsettled : SettledLaw s) (hstack : s.gru.stack = []) (hr : s.gru.slots[i] = some r)
    (hwait : r.state = .WAITING) (hg : r.group = .stored g) (hlimit : 10 * s.tables.groups[g].waitLimit ≤ r.waitAge)
    (hdoor : (listEntry s r).map GroupEntry.door = some d.val) (hcur : r.cursor + 1 < listLength s r)
    (htag : ∀ x ∈ s.entry d, x.tag.map RunTag.number ≠ some r.number) : ∃ t, exec (.waitAgeExpiry i) s = .next t
      ∧ WalksOn i d r s t ∧ (HasRoom s .PRECONDITION_BYPASSED d.val → Recorded t .PRECONDITION_BYPASSED d.val) := by
  obtain ⟨e, he, hd⟩ := Option.map_eq_some_iff.mp hdoor
  obtain ⟨hentered, hrecord⟩ := entered_bypassAt (i := i) hr he hd (fun hall => by rw [hg] at hall; cases hall) htag
  have hstep : (if waitedOut s i then bypassAt i s else s) = bypassAt i s := if_pos (waitedOut_iff.mpr ⟨r, hr, hwait, g, hg, hlimit⟩)
  refine ⟨_, ?_, hentered.walksOn hcur, hrecord⟩
  rw [exec_waitAge hs (by rw [hstep]; exact (hentered.resumed hstack).trans hsettled.2), hstep]

/-- The run takes its entry at a position of the precondition door that meets it or is UNKNOWN. -/
theorem AloneWaiting.walks (h : AloneWaiting i p d r s) (hpos : s.position p = r.direction.target ∨ s.position p = .UNKNOWN) :
    WalksOn i d r s (pokeRuns p s) := by
  rw [h.hears]
  split
  · exact h.submits.1
  · next hne =>
    rw [if_pos (hpos.resolve_left hne)]
    exact h.bypasses.1

theorem AloneWaiting.hears_unknown (h : AloneWaiting i p d r s) (hpos : s.position p = .UNKNOWN) : pokeRuns p s = bypassAt i s := by
  rw [h.hears, if_neg (by rw [hpos]; cases r.direction <;> decide), if_pos hpos]

/-- A REPORT that shows the precondition door at the target, or makes it UNKNOWN, ends the wait. -/
theorem waitReported (hr : ReportTaken s src seq b p) (hd : d ≠ p) (he : s.entry p = none) (hstack : s.gru.stack = [])
    (h : AloneWaiting i p d r s) (hpos : reportPosition b = r.direction.target ∨ reportPosition b = .UNKNOWN) :
    ∃ t, exec (.report rp src seq b) s = .next t
      ∧ t.gru.slots[i] = some { Run.takeOutcome (decideDemand (r.demand d) s).1 r with cursor := r.cursor + 1, state := .WALKING }
      ∧ (∀ x : DoorIx, claimOf t x = claimOf (decideDemand (r.demand d) s).2 x)
      ∧ (reportPosition b = .UNKNOWN → HasSpare s .PRECONDITION_BYPASSED d.val → Recorded t .PRECONDITION_BYPASSED d.val) := by
  obtain ⟨v, order, hv, horder, hexec⟩ := report_ready (rp := rp) hr
  obtain ⟨-, -, -, -, -, -, hsettled, hhandle, hpassage⟩ := hr
  have hposv : v.position p = reportPosition b := hv.position
  have hlimit : v.position p = .CLOSED ∨ v.position p = .OPEN ∨ v.position p = .UNKNOWN := by
    rw [hposv]
    obtain hp | hp := hpos
    · rw [hp]; exact (settled_target r.direction).imp_right .inl
    · exact .inr (.inr hp)
  obtain ⟨u, n, m, hn, hwalks, hu, hposu, hm⟩ := waiting_report (b := before s p) h hv hd he hpassage (hv.handle.trans hhandle) hlimit
    hsettled hstack horder fun u hu hposu => hu.walks (by rw [hposu, hposv]; exact hpos)
  generalize settleRuns (forEach order (takePresentation p (before s p)) v) = t at hexec hm
  have hagrees := decideDemand_alike (m := r.demand d) (alike_ready hv hn hd)
  refine ⟨t, hexec, ?_, fun x => (hm.stands.claimOf x).trans ((hwalks.claims x).trans (hagrees.claims x)), fun hunknown hspare => ?_⟩
  · rw [slots_of_gru hm.stands.gru, hwalks.slot, hagrees.outcome]
  · have hroom : HasRoom u .PRECONDITION_BYPASSED d.val := by
      refine hspare.imp (fun hlt => ?_) fun hrecord => ?_
      · have := hv.count
        have := hn.count
        omega
      · exact recorded_of_onlyAlarms hn.alarms (by simp) (by decide) (recorded_of_onlyAlarms hv.alarms (by simp) (by decide) hrecord)
    have hbypass := hu.hears_unknown (hposu.trans (hposv.trans hunknown))
    rw [hbypass] at hm
    exact recorded_of_onlyAlarms hm.alarms (by simp) (by decide) (hu.bypasses.2 hroom)

end

/-- Settles O60. -/
theorem waitAgeExpires : Obligations.WaitAgeExpires := by
  unfold Obligations.WaitAgeExpires
  refine ⟨fun i g d s hs hsettled => ⟨fun h => waitAge_early hs hsettled h, fun hstack r hr hwait hg hlimit hdoor hcur htag => ?_⟩,
    fun i p d s r hr hwait he hcur halone htag _ => ?_,
    fun rp src seq b i p d s hrep hne he hstack r hr hwait hentry hcur halone htag _ hpos => ?_⟩
  · obtain ⟨t, hexec, h, hrecord⟩ := waitAge_due hs hsettled hstack hr hwait hg hlimit hdoor hcur htag
    exact ends_of hexec ⟨h.slot, hrecord, h.claims, h.ms, h.frame.orders, aside_of_block h.frame.toBlockFrame⟩
  · intro u goesOn bypassed
    have h : AloneWaiting i p d r s := ⟨hr, hwait, he, hcur, halone, htag⟩
    have hgoes {t : State} (hw : WalksOn i d r s t) : goesOn t :=
      ⟨hw.slot, hw.claims, hw.ms, hw.frame.orders, aside_of_block hw.frame.toBlockFrame⟩
    obtain ⟨hsubmits, hal⟩ := h.submits
    obtain ⟨hbypasses, hrecord⟩ := h.bypasses
    have hpoke := h.hears
    refine ⟨fun htarget => ?_, fun hunknown => ?_, fun hne hknown => ?_, ?_, fun x hx => ⟨h.forWaiting_other hx _, h.forWaiting_other hx _⟩⟩
    · rw [if_pos htarget] at hpoke
      rw [hpoke]
      exact ⟨hgoes hsubmits, hal⟩
    · rw [h.hears_unknown hunknown]
      exact ⟨hgoes hbypasses, hrecord⟩
    · rw [hpoke, if_neg hne, if_neg hknown]
    · have hall : bypassWaits p s = bypassAt i s := h.forWaiting _
      rw [hall]
      exact ⟨hgoes hbypasses, hrecord⟩
  · obtain ⟨t, hexec, hslot, hclaims, hrecord⟩ := waitReported (rp := rp) hrep (Ne.symm hne) he hstack
      (⟨hr, hwait, hentry, hcur, halone, htag⟩ : AloneWaiting i p d r s) hpos
    exact ends_of hexec ⟨hslot, hclaims, hrecord⟩

end Sys2Proof.Proofs
end

section
/-! ## The run in slot S while entries lose their tags (R96, R97, R110)

While no context is suspended the run in slot S stands under its number with the entries that carry its tag, until it completes; then
no entry carries its tag any longer. -/
namespace Sys2Proof.Proofs
open Sys2Proof Sys2Proof.Machine

set_option Elab.async false

/-- Slot S holds the run of this number, with an outstanding count of the entries that carry its tag, or it is free and none does. -/
structure Systemic (number : Option Byte) (s : State) : Prop where
  stack : s.gru.stack = []
  resumed : s.gru.resumed = []
  others : ∀ i : SlotIx, i ≠ slotS → ∀ r, s.gru.slots[i] = some r → number ≠ some r.number
  runs : ∀ r, s.gru.slots[slotS] = some r → number = some r.number ∧ r.done = false ∧ r.outstanding = carried (tagOf s) r.number
  gone : s.gru.slots[slotS] = none → ∀ n, number = some n → carried (tagOf s) n = 0

section
variable {s t u v : State} {i j : SlotIx} {r x : Run} {number : Option Byte} {tag : Option RunTag} {fate : TagFate} {d : DoorIx}
  {n : Byte} {e : Entry} {m : Demand} {g : DoorIx → Option Byte}

theorem systemic_of_laws (hstack : s.gru.stack = []) (htags : TagLaw s) (hsettled : SettledLaw s) :
    Systemic ((s.gru.slots[slotS]).map Run.number) s := by
  obtain ⟨hdistinct, hlive, hcounts⟩ := htags
  obtain ⟨hdone, hresumed⟩ := hsettled
  refine ⟨hstack, hresumed, fun i hi r hr heq => ?_, fun r hr => ⟨by rw [hr]; rfl, hdone r (liveRuns_of_slot hr), ?_⟩, fun hnone n hn => ?_⟩
  · exact hi ((numberedIn_iff hdistinct hr).mp heq).symm
  · rw [hcounts r (liveRuns_of_slot hr), carried_eq_taggedDoors]
  · rw [hnone] at hn
    cases hn

theorem Systemic.of_tags (h : Systemic number s) (hgru : t.gru = s.gru) (htags : ∀ x, tagOf t x = tagOf s x) : Systemic number t := by
  obtain ⟨hstack, hresumed, hothers, hruns, hgone⟩ := h
  have htag : tagOf t = tagOf s := funext htags
  refine ⟨?_, ?_, ?_, ?_, ?_⟩ <;> rw [hgru] <;> try rw [htag]
  · exact hstack
  · exact hresumed
  · exact hothers
  · exact hruns
  · exact hgone

/-- A slot that completes while none is suspended is free; the others stand. -/
theorem completeSlot_idle (hstack : s.gru.stack = []) (j : SlotIx) : (completeSlot j s).gru.stack = []
    ∧ (completeSlot j s).gru.resumed = s.gru.resumed
    ∧ ∀ i : SlotIx, ∀ x, (completeSlot j s).gru.slots[i] = some x → s.gru.slots[i] = some x := by
  by_cases hdone : ∃ r, s.gru.slots[j] = some r ∧ r.done = true
  · obtain ⟨r, hr, hd⟩ := hdone
    have hgru := (PlaceFrame.sendReport .COMPLETE r s).gru
    rw [completeSlot_done hr hd]
    generalize sendReport .COMPLETE r s = w at hgru
    rw [vacate_of_idle (by rw [hgru]; exact hstack)]
    have hidle : w.gru.stack = [] ∧ w.gru.resumed = s.gru.resumed := by
      rw [hgru]
      exact ⟨hstack, rfl⟩
    refine ⟨hidle.1, hidle.2, fun i x hx => ?_⟩
    have hput : (put w.gru.slots j none)[i] = some x := hx
    rw [put_slots, hgru] at hput
    split at hput
    · cases hput
    · exact hput
  · rw [completeSlot_eq_self fun r hr => Bool.eq_false_of_not_eq_true fun hd => hdone ⟨r, hr, hd⟩]
    exact ⟨hstack, rfl, fun _ _ h => h⟩

/-- A report of another run's tag, counted, leaves slot S as it was. -/
theorem systemic_other (h : Systemic number s) (hne : number ≠ some n) (hslot : t.gru.slots[slotS] = s.gru.slots[slotS])
    (hothers : ∀ i : SlotIx, ∀ x, t.gru.slots[i] = some x → ∃ y, s.gru.slots[i] = some y ∧ x.number = y.number)
    (hstack : t.gru.stack = []) (hresumed : t.gru.resumed = s.gru.resumed)
    (hcarried : ∀ k, k ≠ n → carried (tagOf t) k = carried (tagOf s) k) : Systemic number t := by
  refine ⟨hstack, hresumed.trans h.resumed, fun i hi x hx => ?_, fun r hr => ?_, fun hnone k hk => ?_⟩
  · obtain ⟨y, hy, hxy⟩ := hothers i x hx
    rw [hxy]
    exact h.others i hi y hy
  · obtain ⟨hnumber, hdone, hout⟩ := h.runs r (hslot.symm.trans hr)
    refine ⟨hnumber, hdone, hout.trans (hcarried _ fun hk => hne ?_).symm⟩
    rw [hnumber, hk]
  · rw [hcarried k fun hkn => hne (by rw [hk, hkn])]
    exact h.gone (hslot.symm.trans hnone) k hk

/-- A report of the tag of the run in slot S, counted: the run stands with one fewer outstanding, or is gone with none. -/
theorem systemic_own (h : Systemic (some n) s) (hr : s.gru.slots[slotS] = some r)
    (hslots : ∀ i : SlotIx, u.gru.slots[i] = (s.gru.slots[i]).map fun x => if x.number = n then x.takeFate fate else x)
    (hstack : u.gru.stack = []) (hresumed : u.gru.resumed = s.gru.resumed) (hgru : t.gru = (completeSlot slotS u).gru)
    (hcarried : carried (tagOf t) n + 1 = carried (tagOf s) n) : Systemic (some n) t := by
  obtain ⟨hnumber, -, hout⟩ := h.runs r hr
  have hn : n = r.number := Option.some_inj.mp hnumber
  have hfate : (r.takeFate fate).number = n := (takeFate_number ..).trans hn.symm
  have hcount : (r.takeFate fate).outstanding = carried (tagOf t) n := by
    have hdown : (r.takeFate fate).outstanding = r.outstanding - 1 := by cases fate <;> rfl
    rw [hdown, hout, ← hn]
    omega
  have hslot : u.gru.slots[slotS] = some (r.takeFate fate) := by
    rw [hslots, hr, Option.map_some, if_pos hn.symm]
  obtain ⟨hempty, hres, hshrink⟩ := completeSlot_idle hstack slotS
  refine ⟨by rw [hgru]; exact hempty, by rw [hgru, hres, hresumed]; exact h.resumed, fun i hi x hx => ?_, fun x hx => ?_, fun hnone k hk => ?_⟩
  · rw [hgru] at hx
    have hux := hshrink i x hx
    rw [hslots] at hux
    obtain ⟨y, hy, rfl⟩ := Option.map_eq_some_iff.mp hux
    have := h.others i hi y hy
    split
    · rw [takeFate_number]; exact this
    · exact this
  · rw [hgru] at hx
    have hux := (hshrink slotS x hx).symm.trans hslot
    cases hux
    refine ⟨by rw [hfate], ?_, by rw [hfate]; exact hcount⟩
    by_contra hdone
    have hd := Bool.eq_true_of_not_eq_false hdone
    have hsent := (PlaceFrame.sendReport .COMPLETE (r.takeFate fate) u).gru
    rw [completeSlot_done hslot hd, vacate_gru (.inl rfl)] at hx
    have hput : (put (sendReport .COMPLETE (r.takeFate fate) u).gru.slots slotS none)[slotS] = some (r.takeFate fate) := hx
    rw [put_slots, if_pos rfl] at hput
    cases hput
  · cases hk
    rw [← hcount]
    by_contra hne
    have hstands : completeSlot slotS u = u := completeSlot_eq_self fun x hx => by
      have hx : u.gru.slots[slotS] = some x := hx
      rw [hslot] at hx
      cases hx
      by_contra hdone
      exact hne (done_iff.mp (Bool.eq_true_of_not_eq_false hdone)).2
    rw [hgru, hstands, hslot] at hnone
    cases hnone

/-- The report of the tag of a door's entry, which leaves the schedule. -/
theorem Systemic.report (h : Systemic number s) (hu : u.gru = s.gru) (ht : t.gru = (reportTag tag fate u).gru)
    (hd : tagOf s d = numberOf tag) (hsame : ∀ x, x ≠ d → tagOf t x = tagOf s x) (hnone : tagOf t d = none) : Systemic number t := by
  cases tag with
  | none =>
    refine h.of_tags (ht.trans hu) fun x => ?_
    by_cases hx : x = d
    · subst hx
      rw [hnone, hd]
      rfl
    · exact hsame x hx
  | some tg =>
    have hcarried (k : Byte) : carried (tagOf t) k + (if k = tg.number then 1 else 0) = carried (tagOf s) k := by
      have h := carried_retag hsame k
      rw [hd, hnone] at h
      simp only [one, numberOf, Option.map_some, Option.some_inj, reduceCtorEq, if_false] at h
      by_cases hk : k = tg.number
      · rw [if_pos hk]
        rw [if_pos hk.symm] at h
        omega
      · rw [if_neg hk]
        rw [if_neg (Ne.symm hk)] at h
        omega
    obtain ⟨hslots, hst, -, hres, -⟩ := countTag_gru (some tg) fate u
    have hcompleted : t.gru = (completeRun tg.number (countTag (some tg) fate u)).gru := ht
    generalize countTag (some tg) fate u = w at hslots hst hres hcompleted
    rw [hu] at hslots hst hres
    rw [h.stack] at hst
    have hempty : w.gru.stack = [] := hst
    have hfated (i : SlotIx) : w.gru.slots[i] = (s.gru.slots[i]).map fun x => if x.number = tg.number then x.takeFate fate else x := hslots i
    have hnumbers (i : SlotIx) (x : Run) (hx : w.gru.slots[i] = some x) : ∃ y, s.gru.slots[i] = some y ∧ x.number = y.number := by
      rw [hfated] at hx
      obtain ⟨y, hy, rfl⟩ := Option.map_eq_some_iff.mp hx
      refine ⟨y, hy, ?_⟩
      split
      · exact takeFate_number ..
      · rfl
    by_cases hown : number = some tg.number
    · subst hown
      have hpos := hcarried tg.number
      rw [if_pos rfl] at hpos
      cases hr : s.gru.slots[slotS] with
      | none =>
        have := h.gone hr tg.number rfl
        omega
      | some r =>
        obtain ⟨hnumber, -⟩ := h.runs r hr
        have hslot : slotNumbered w tg.number = some slotS := by
          cases hfind : slotNumbered w tg.number with
          | none =>
            have hno := List.find?_eq_none.mp hfind slotS (List.mem_finRange slotS)
            rw [hfated, hr, Option.map_some] at hno
            simp only [decide_eq_true_eq] at hno
            refine absurd ?_ hno
            split
            · exact (takeFate_number ..).trans (Option.some_inj.mp hnumber).symm
            · exact (Option.some_inj.mp hnumber).symm
          | some j =>
            obtain ⟨x, hx, hxn⟩ := slotNumbered_eq_some hfind
            obtain ⟨y, hy, hxy⟩ := hnumbers j x hx
            by_contra hj
            exact h.others j (fun h => hj (by rw [h])) y hy (by rw [← hxy, hxn])
        refine systemic_own h hr hfated hempty hres ?_ hpos
        rw [hcompleted]
        unfold completeRun
        rw [hslot]
    · have hstays : w.gru.slots[slotS] = s.gru.slots[slotS] := by
        rw [hfated]
        cases hr : s.gru.slots[slotS] with
        | none => rfl
        | some r =>
          obtain ⟨hnumber, -⟩ := h.runs r hr
          rw [Option.map_some, if_neg fun hn => hown (by rw [hnumber, hn])]
      have hothers (k : Byte) (hk : k ≠ tg.number) : carried (tagOf t) k = carried (tagOf s) k := by
        have := hcarried k
        rwa [if_neg hk] at this
      cases hfind : slotNumbered w tg.number with
      | none =>
        have hgru : t.gru = w.gru := by
          rw [hcompleted]
          unfold completeRun completeStacked
          rw [hfind, hempty]
          rfl
        exact systemic_other h hown (by rw [hgru]; exact hstays) (by rw [hgru]; exact hnumbers) (by rw [hgru]; exact hempty) (by rw [hgru, hres]) hothers
      | some j =>
        obtain ⟨x, hx, hxn⟩ := slotNumbered_eq_some hfind
        have hj : slotS ≠ j := fun hj => by
          subst hj
          rw [hstays] at hx
          exact hown (by rw [(h.runs x hx).1, hxn])
        have hgru : t.gru = (completeSlot j w).gru := by
          rw [hcompleted]
          unfold completeRun
          rw [hfind]
        obtain ⟨hst', hres', hshrink⟩ := completeSlot_idle hempty j
        refine systemic_other h hown ?_ (fun i x hx => ?_) (by rw [hgru]; exact hst') (by rw [hgru, hres', hres]) hothers
        · rw [hgru, completeSlot_slots hj, hstays]
        · rw [hgru] at hx
          exact hnumbers i x (hshrink i x hx)

end

end Sys2Proof.Proofs
end

section
/-! ## Passages that end, and the tags at slot S, through the operations of an entry into EMERGENCY (R110) -/
namespace Sys2Proof.Proofs
open Sys2Proof Sys2Proof.Machine

set_option Elab.async false

/-- No door is given a passage record. -/
def PassagesEnd (s t : State) : Prop := ∀ d : DoorIx, s.passage d = none → t.passage d = none

section
variable {s t u : State} {i : SlotIx} {r : Run} {d x : DoorIx} {e : Entry} {m : Demand} {c : RemovalCause} {number : Option Byte}
  {l : List DoorIx}

theorem PassagesEnd.trans (h : PassagesEnd s t) (g : PassagesEnd t u) : PassagesEnd s u := fun d hd => g d (h d hd)
theorem passagesEnd_of_mc (h : t.mc = s.mc) : PassagesEnd s t := fun d hd => (passage_of_mc_passages (by rw [h]) d).trans hd
theorem PassagesEnd.forEach {ι : Type} {act : ι → State → State} (h : ∀ i s, PassagesEnd s (act i s)) (l : List ι) (s : State) :
    PassagesEnd s (forEach l act s) := forEach_rel (fun _ => passagesEnd_of_mc rfl) .trans h l s

theorem passagesEnd_endPassage (d : DoorIx) (s : State) : PassagesEnd s (endPassage d s) := fun x hx => by
  by_cases hd : x = d
  · subst hd
    exact (passage_endPassage ..).trans (if_pos rfl)
  · exact ((Ending.endPassage d s).others x hd).trans hx

theorem passagesEnd_endBeaten (m : Demand) (s : State) : PassagesEnd s (endBeaten m s) := by
  unfold endBeaten
  split
  · exact passagesEnd_endPassage _ _
  · exact passagesEnd_of_mc rfl

theorem passagesEnd_recloseGone (d : DoorIx) (dir : Direction) (s : State) : PassagesEnd s (recloseGone d dir s) := by
  unfold recloseGone
  split
  · split
    · exact passagesEnd_endPassage _ _
    · exact passagesEnd_of_mc rfl
  · exact passagesEnd_of_mc rfl

theorem passagesEnd_displaced (m : Demand) (e : Entry) (s : State) : PassagesEnd s (displaced m e s) :=
  ((passagesEnd_endBeaten m s).trans (passagesEnd_recloseGone _ _ _)).trans (passagesEnd_of_mc (ReportFrame.reportTag ..).mc)

/-- A demand makes no passage record. -/
theorem passagesEnd_decideDemand (m : Demand) (s : State) : PassagesEnd s (decideDemand m s).2 := by
  have hd := decided m s
  generalize decideDemand m s = p at hd
  cases hd with
  | refused => exact passagesEnd_of_mc rfl
  | already => exact passagesEnd_endBeaten m s
  | enqueued =>
    refine (passagesEnd_endBeaten m s).trans fun x hx => ?_
    rw [passage_of_mc_passages (s := endBeaten m s) (by rw [enqueue_mc])]
    exact hx
  | @merged e he hdir =>
    show PassagesEnd s (merge m e s)
    unfold merge
    simp only
    split
    · exact passagesEnd_of_mc (ScheduleFrame.pass ..).mc
    · exact passagesEnd_of_mc rfl
  | @reversed e he hdir hph =>
    show PassagesEnd s (reverse m e s)
    refine (passagesEnd_displaced m e s).trans ?_
    rw [reverse_eq]
    split
    · exact passagesEnd_of_mc (ScheduleFrame.pass ..).mc
    · exact passagesEnd_of_mc rfl
  | @replaced e he hdir hph =>
    show PassagesEnd s (replace m e s)
    refine (passagesEnd_displaced m e s).trans ?_
    rw [replace_eq]
    obtain ⟨hf, -⟩ := replacedFrom_facts m e (displaced m e s)
    refine passagesEnd_of_mc (hf.mc.trans ?_)
    rw [exchanged_eq]

theorem passagesEnd_takeOut (c : RemovalCause) (d : DoorIx) (s : State) : PassagesEnd s (takeOut c d s) := by
  cases he : s.entry d with
  | none => rw [takeOut_of_none he]; exact passagesEnd_of_mc rfl
  | some e =>
    have h := takenOut he c
    intro x hx
    by_cases hd : x = d
    · subst hd
      cases hdir : e.direction with
      | OPEN => exact (h.opened hdir).trans hx
      | CLOSE => rw [h.closed hdir, hx]; rfl
    · exact (h.others x hd).trans hx

theorem passagesEnd_request {act : DoorIx → State → State} (h : ∀ d s, PassagesEnd s (act d s)) (l : List DoorIx) (s : State) :
    PassagesEnd s (request act l s) :=
  (PassagesEnd.forEach h l s).trans (passagesEnd_of_mc (Passing.passes ..).mc)

/-! ### The walks of resumed runs, and the launch -/

theorem passagesEnd_submitAt (i : SlotIx) (s : State) : PassagesEnd s (submitAt i s) := by
  unfold submitAt
  split
  · next r _ =>
    split
    · next d _ => exact (passagesEnd_decideDemand (r.demand d) s).trans (passagesEnd_of_mc ((ReportFrame.modRun ..).trans (.advance ..)).mc)
    · exact passagesEnd_of_mc (ReportFrame.advance ..).mc
  · exact passagesEnd_of_mc rfl

theorem passagesEnd_takeListEntry (i : SlotIx) (age : Nat) (s : State) : PassagesEnd s (takeListEntry i age s) := by
  unfold takeListEntry
  split
  · split
    · split
      · exact passagesEnd_submitAt i s
      · unfold bypassAt raiseBypass
        split
        · refine PassagesEnd.trans ?_ (passagesEnd_submitAt _ _)
          split
          · exact passagesEnd_of_mc (AlarmFrame.raiseEvent ..).mc
          · exact passagesEnd_of_mc rfl
        · exact passagesEnd_of_mc rfl
      · unfold setStage
        split <;> exact passagesEnd_of_mc rfl
    · exact passagesEnd_submitAt i s
  · exact passagesEnd_of_mc rfl

theorem passagesEnd_settleOne (s : State) : PassagesEnd s (settleOne s) := by
  unfold settleOne
  split
  · next i rest _ =>
    have hset : PassagesEnd s (setResumed rest s) := passagesEnd_of_mc rfl
    simp only
    split
    · refine hset.trans ?_
      unfold lookAgain
      split
      · exact passagesEnd_takeListEntry _ _ _
      · exact passagesEnd_of_mc rfl
    · exact hset
  · exact passagesEnd_of_mc rfl

theorem passagesEnd_settleRuns (s : State) : PassagesEnd s (settleRuns s) := .forEach (fun _ => passagesEnd_settleOne) _ s

/-- A launch makes no passage record, and leaves no resumed run to look. -/
theorem launchSystem_quiet (cls : Nat) (o : RunOrigin) (s : State) :
    PassagesEnd s (launchSystem cls o s) ∧ (launchSystem cls o s).gru.resumed = [] := by
  have hsettled := resumed_settleRuns s
  have hends := passagesEnd_settleRuns s
  unfold launchSystem
  generalize settleRuns s = u at hsettled hends
  simp only [takeSystemSlot_eq]
  split
  · next r _ =>
    have hdet := detachTag_detached r.number u
    exact ⟨hends.trans (passagesEnd_of_mc hdet.mc), (congrArg Gru.resumed hdet.gru).trans hsettled⟩
  · exact ⟨hends.trans (passagesEnd_of_mc rfl), hsettled⟩

/-! ### The tags -/

theorem Systemic.passing (h : Systemic number s) (hp : Passing s t) : Systemic number t := h.of_tags hp.gru hp.tags

theorem Systemic.takeOut {c : RemovalCause} (hc : reports c) (d : DoorIx) (h : Systemic number s) : Systemic number (takeOut c d s) := by
  cases he : s.entry d with
  | none => rw [takeOut_of_none he]; exact h
  | some e =>
    obtain ⟨fate, u, hgru, hu⟩ := takeOut_gru he hc
    exact h.report hu hgru (tagOf_eq he) (fun x hx => by rw [takeOut_cs_tags, if_neg (Ne.symm hx)]) (by rw [takeOut_cs_tags, if_pos rfl])

theorem tagOf_reverseEntry (o : Origin) (d : DoorIx) (e : Entry) (s : State) (x : DoorIx) :
    tagOf (reverseEntry (emergencyClose o d) e s) x = if d = x then none else tagOf s x := by
  rw [tagOf_of_cs (reverseEntry_cs ..), tagOf_setEntry]
  rfl

theorem Systemic.reverseOne (o : Origin) (d : DoorIx) (h : Systemic number s) : Systemic number (reverseOne o d s) := by
  unfold Machine.reverseOne
  split
  · next e he =>
    exact h.report rfl (reverseEntry_gru ..) (tagOf_eq he) (fun x hx => by rw [tagOf_reverseEntry, if_neg (Ne.symm hx)])
      (by rw [tagOf_reverseEntry, if_pos rfl])
  · exact h

/-- A demand without a tag. -/
theorem Systemic.decideDemand (hm : m.tag = none) (h : Systemic number s) : Systemic number (decideDemand m s).2 := by
  have hend := Ending.endBeaten m s
  have hd := decided m s
  generalize Machine.decideDemand m s = p at hd
  cases hd with
  | refused => exact h
  | already => exact h.of_tags hend.gru fun x => by rw [tagOf_of_cs hend.cs]
  | enqueued he =>
    refine h.of_tags ((enqueue_gru ..).trans hend.gru) fun x => ?_
    rw [tagOf_enqueue, tagOf_of_cs hend.cs, hm]
    split
    · next hx => subst hx; exact (tagOf_eq_none he).symm
    · rfl
  | merged he => exact h.of_tags (merge_gru ..) fun x => tagOf_merge he x
  | reversed he =>
    exact h.report (beaten_gru m _ s) (reverse_gru ..) (tagOf_eq he) (fun x hx => by rw [tagOf_reverse, if_neg (Ne.symm hx)])
      (by rw [tagOf_reverse, if_pos rfl, hm]; rfl)
  | replaced he =>
    exact h.report (beaten_gru m _ s) (replace_gru ..) (tagOf_eq he) (fun x hx => by rw [tagOf_replace, if_neg (Ne.symm hx)])
      (by rw [tagOf_replace, if_pos rfl, hm]; rfl)

theorem Systemic.forEach {act : DoorIx → State → State} (hact : ∀ d s, Systemic number s → Systemic number (act d s))
    (l : List DoorIx) (h : Systemic number s) : Systemic number (forEach l act s) := by
  induction l generalizing s with
  | nil => exact h
  | cons d rest ih => exact ih (hact d s h)

/-- The claims that a launch leaves are those that the launch found first, while the tags stand with slot S. -/
theorem Systemic.claimLess (h : Systemic ((s.gru.slots[slotS]).map Run.number) t) (he : t.entry d = some e) :
    claimLess t e = claimLess s e := by
  unfold Machine.claimLess
  cases hs : s.gru.slots[slotS] with
  | none =>
    cases ht : t.gru.slots[slotS] with
    | none => rfl
    | some r =>
      obtain ⟨hnumber, -⟩ := h.runs r ht
      rw [hs] at hnumber
      cases hnumber
  | some r =>
    cases ht : t.gru.slots[slotS] with
    | some x =>
      obtain ⟨hnumber, -⟩ := h.runs x ht
      rw [hs] at hnumber
      have hsame : r.number = x.number := Option.some_inj.mp hnumber
      cases htag : e.tag with
      | none => simp
      | some tg => simp only [hsame]
    | none =>
      have hgone := h.gone ht r.number (by rw [hs]; rfl)
      cases htag : e.tag with
      | none => simp
      | some tg =>
        have hne := ne_of_carried_eq_zero hgone d
        rw [tagOf_eq he, htag] at hne
        simp only
        rw [if_neg fun hn => hne (by rw [← hn]; rfl)]

end

end Sys2Proof.Proofs
end

section
/-! ## The entries that the raise, the deny and the reverse for EMERGENCY leave (R48, R110) -/
namespace Sys2Proof.Proofs
open Sys2Proof Sys2Proof.Machine

set_option Elab.async false

section
variable {s t u v : State} {d x : DoorIx} {e f : Entry} {o : Origin} {l : List DoorIx} {number : Option Byte} {k : OrderKind}
  {act : DoorIx → State → State}

/-! ### Actions on their own door's entry -/

theorem entry_forEach_of_not_mem (hact : ∀ d s x, x ≠ d → (act d s).entry x = s.entry x) (hx : x ∉ l) (s : State) :
    (forEach l act s).entry x = s.entry x := by
  induction l generalizing s with
  | nil => rfl
  | cons d rest ih =>
    exact (ih (fun h => hx (List.mem_cons_of_mem d h)) (act d s)).trans (hact d s x fun h => hx (h ▸ List.mem_cons_self))

/-- A MOVING entry of the door, and the orders of the door, stand. -/
def Rides (d : DoorIx) (s t : State) : Prop :=
  phaseOf s d = some .MOVING → t.entry d = s.entry d ∧ ∀ k, Pending s d k → Pending t d k

theorem Rides.refl (d : DoorIx) (s : State) : Rides d s s := fun _ => ⟨rfl, fun _ h => h⟩
theorem Rides.trans (h : Rides d s t) (g : Rides d t u) : Rides d s u := fun hm => by
  obtain ⟨he, hp⟩ := h hm
  obtain ⟨he', hp'⟩ := g (by unfold phaseOf; rw [he]; exact hm)
  exact ⟨he'.trans he, fun k hk => hp' k (hp k hk)⟩

theorem rides_of_eq (he : t.entry d = s.entry d) (hrc : t.rc = s.rc) : Rides d s t := fun _ => ⟨he, fun k hk => by
  show _ ∈ t.rc.orders
  rw [hrc]
  exact hk⟩

theorem Passing.rides (h : Passing s t) (d : DoorIx) : Rides d s t := fun hm => by
  have hready : phaseOf s d ≠ some .READY := by rw [hm]; decide
  exact ⟨h.idle d hready, fun k hk => (h.otherOrders ⟨d, k⟩ hready).mpr hk⟩

/-! ### The raise -/

/-- The entry at class 3. -/
def atThree (e : Entry) : Entry := { e with cls := 3 }

/-- The entry as the raise leaves it. -/
def raisedOf (e : Entry) : Entry := if e.direction = .CLOSE ∧ e.cls ≠ 3 then atThree e else e

theorem raisedOf_open (h : e.direction = .OPEN) : raisedOf e = e := if_neg fun hc => by rw [h] at hc; cases hc.1

theorem raisedOf_close (h : e.direction = .CLOSE) : raisedOf e = atThree e := by
  unfold raisedOf
  split
  · rfl
  · next hne =>
    have hcls : e.cls = 3 := by
      by_contra hc
      exact hne ⟨h, hc⟩
    unfold atThree
    rw [← hcls]

theorem raisedOf_direction (e : Entry) : (raisedOf e).direction = e.direction := by unfold raisedOf; split <;> rfl
theorem raisedOf_phase (e : Entry) : (raisedOf e).phase = e.phase := by unfold raisedOf; split <;> rfl

/-- R48: the raise rewrites the entries, and passes follow. -/
theorem raised_entries (s : State) : ∃ u, Passing u (raiseForEmergency s) ∧ (∀ d, u.entry d = (s.entry d).map raisedOf)
    ∧ u = { s with cs := { s.cs with entries := u.cs.entries } } := by
  have hact : raiseEntry = rewriteEntry atThree := rfl
  refine ⟨forEach (matching s raises) raiseEntry s, .passes .., fun d => ?_, ?_⟩
  · rw [hact, entry_forEach_rewriteEntry (f := atThree) (fun _ => rfl)]
    cases he : s.entry d with
    | none => simp
    | some e =>
      simp only [mem_matching, he, Option.some.injEq, exists_eq_left', Option.map_some, raises, Bool.and_eq_true, decide_eq_true_eq]
      unfold raisedOf
      split <;> rfl
  · rw [hact]
    exact forEach_rewriteEntry_eq ..

/-! ### The deny -/

theorem entry_takeOut (c : RemovalCause) (d x : DoorIx) (s : State) : (takeOut c d s).entry x = if d = x then none else s.entry x := by
  cases he : s.entry d with
  | none =>
    rw [takeOut_of_none he]
    split
    · next hx => subst hx; exact he
    · rfl
  | some e => exact entry_schedWithout d x (takenOut he c).cs

/-- R48: the deny takes the entries out, and passes and tests follow. -/
theorem denied_entries (s : State) : ∃ u, Passing u (denyForEmergency s)
    ∧ (∀ d, u.entry d = if d ∈ matching s (opensStandard s .READY) then none else s.entry d)
    ∧ u = forEach (matching s (opensStandard s .READY)) (takeOut .DENIED) s := by
  refine ⟨_, (Passing.passes ..).trans (.tests ..), fun d => ?_, rfl⟩
  generalize matching s (opensStandard s .READY) = l
  by_cases hd : d ∈ l
  · rw [if_pos hd]
    induction l generalizing s with
    | nil => cases hd
    | cons y rest ih =>
      by_cases hmem : d ∈ rest
      · exact ih (takeOut .DENIED y s) hmem
      · have hy : y = d := ((List.mem_cons.mp hd).resolve_right hmem).symm
        refine (entry_forEach_of_not_mem (fun y s x hx => by rw [entry_takeOut, if_neg (Ne.symm hx)]) hmem _).trans ?_
        rw [entry_takeOut, if_pos hy]
  · rw [if_neg hd]
    exact entry_forEach_of_not_mem (fun y s x hx => by rw [entry_takeOut, if_neg (Ne.symm hx)]) hd s

theorem nextArrival_takeOut (c : RemovalCause) (d : DoorIx) (s : State) : (takeOut c d s).cs.nextArrival = s.cs.nextArrival := by
  cases he : s.entry d with
  | none => rw [takeOut_of_none he]
  | some e => rw [(takenOut he c).cs]; rfl

theorem nextArrival_forEach (h : ∀ d s, (act d s).cs.nextArrival = s.cs.nextArrival) (l : List DoorIx) (s : State) :
    (forEach l act s).cs.nextArrival = s.cs.nextArrival := by
  induction l generalizing s with
  | nil => rfl
  | cons d rest ih => exact (ih (act d s)).trans (h d s)

/-! ### The reverse -/

/-- The entry as the reverse leaves it. -/
abbrev turnedOf (o : Origin) (s : State) (d : DoorIx) (e : Entry) : Entry := e.reversed (emergencyClose o d) (doorDeadline s d .CLOSE)

theorem entry_reverseOne (o : Origin) (d x : DoorIx) (s : State) :
    (reverseOne o d s).entry x = if d = x then (s.entry x).map (turnedOf o s d) else s.entry x := by
  unfold reverseOne
  cases he : s.entry d with
  | none =>
    simp only
    split
    · next hx => subst hx; rw [he]; rfl
    · rfl
  | some e =>
    refine (entry_congr (congrArg Cs.entries (reverseEntry_cs ..)) x).trans ?_
    refine (entry_setEntry ..).trans ?_
    show (if d = x then _ else _) = _
    split
    · next hx => subst hx; rw [he]; rfl
    · rfl

theorem pending_reverseOne_of_ne (hx : x ≠ d) (h : Pending s x k) : Pending (reverseOne o d s) x k := by
  unfold reverseOne
  split
  · next e he =>
    have hrc : (reportTag e.tag .overruled s).rc = s.rc := (ReportFrame.reportTag ..).rc
    show _ ∈ queued (reportTag e.tag .overruled s).rc.orders _
    rw [mem_queued_of_ne hx, hrc]
    exact h
  · exact h

theorem pending_reverseOne (he : s.entry d = some e) : Pending (reverseOne o d s) d (.MOVE .CLOSE true) := by
  unfold reverseOne
  rw [he]
  exact mem_queued_self ..

theorem nextArrival_reverseOne (o : Origin) (d : DoorIx) (s : State) : (reverseOne o d s).cs.nextArrival = s.cs.nextArrival := by
  unfold reverseOne
  split
  · exact (congrArg Cs.nextArrival (reverseEntry_cs ..)).trans rfl
  · rfl

theorem mc_reverseOne (o : Origin) (d : DoorIx) (s : State) : (reverseOne o d s).mc = s.mc := by
  unfold reverseOne
  split
  · exact (ReportFrame.reportTag ..).mc
  · rfl

/-- R48: the reverse of the doors of a list turns their entries round, each with its MOVE. -/
theorem turned_entries (hnodup : l.Nodup) (s : State) : ∀ d, (forEach l (reverseOne o) s).entry d = (if d ∈ l then (s.entry d).map (turnedOf o s d) else s.entry d)
    ∧ (d ∈ l → s.entry d ≠ none → Pending (forEach l (reverseOne o) s) d (.MOVE .CLOSE true))
    ∧ (d ∉ l → ∀ k, Pending s d k → Pending (forEach l (reverseOne o) s) d k) := by
  induction l generalizing s with
  | nil => exact fun d => ⟨rfl, nofun, fun _ _ h => h⟩
  | cons y rest ih =>
    obtain ⟨hy, hrest⟩ := List.nodup_cons.mp hnodup
    intro d
    obtain ⟨hentry, hpending, hstays⟩ := ih hrest (reverseOne o y s) d
    have hdeadline : turnedOf o (reverseOne o y s) d = turnedOf o s d := by
      unfold turnedOf
      rw [doorDeadline_congr (RunFrame.reverseOne ..).tables]
    by_cases hd : d = y
    · subst hd
      rw [if_neg hy, entry_reverseOne, if_pos rfl] at hentry
      refine ⟨by rw [if_pos List.mem_cons_self]; exact hentry, fun _ hne => ?_, fun hn => absurd List.mem_cons_self hn⟩
      obtain ⟨e, he⟩ := Option.ne_none_iff_exists'.mp hne
      exact hstays hy _ (pending_reverseOne he)
    · have hsame : (reverseOne o y s).entry d = s.entry d := by rw [entry_reverseOne, if_neg (Ne.symm hd)]
      rw [hsame] at hentry hpending
      simp only [List.mem_cons, hd, false_or]
      refine ⟨?_, hpending, fun hn k hk => hstays hn k (pending_reverseOne_of_ne hd hk)⟩
      rw [show (forEach (y :: rest) (reverseOne o) s).entry d = (forEach rest (reverseOne o) (reverseOne o y s)).entry d from rfl, hentry, hdeadline]

end

end Sys2Proof.Proofs
end

section
/-! ## The entries and the passages of an entry into EMERGENCY (R48, R110) -/
namespace Sys2Proof.Proofs
open Sys2Proof Sys2Proof.Machine

set_option Elab.async false

/-- Every CLOSE entry stands at class 3, and an OPEN one at a STANDARD door is within its warning. -/
def Shaped (s : State) : Prop := ∀ d : DoorIx, ∀ e, s.entry d = some e →
  (e.direction = .CLOSE → e.cls = 3) ∧ (e.direction = .OPEN → s.isEscape d = true ∨ e.phase = .WARNING)

/-- What the raise, the deny and the reverse leave of the entries. -/
structure Reshaped (o : Origin) (s t : State) : Prop where
  closes : ∀ d : DoorIx, ∀ e, s.entry d = some e → e.direction = .CLOSE → claimOf t d = some (atThree e).claim
  escapes : ∀ d : DoorIx, ∀ e, s.entry d = some e → e.direction = .OPEN → s.isEscape d = true → claimOf t d = some e.claim
  turned : ∀ d : DoorIx, ∀ e, s.entry d = some e → e.direction = .OPEN → s.isEscape d = false → e.phase = .MOVING →
    t.entry d = some (turnedOf o s d e) ∧ Pending t d (.MOVE .CLOSE true)
  shaped : Shaped t
  nextArrival : t.cs.nextArrival = s.cs.nextArrival

section
variable {s t u v z : State} {d x : DoorIx} {e f : Entry} {o : Origin} {number : Option Byte} {m : Demand} {l : List DoorIx}

theorem isEscape_of_tables (h : t.tables = s.tables) (d : DoorIx) : t.isEscape d = s.isEscape d := by unfold State.isEscape; rw [h]

theorem entry_of_claim (h : claimOf t d = claimOf s d) (he : t.entry d = some e) : ∃ f, s.entry d = some f ∧ e.claim = f.claim := by
  unfold claimOf at h
  rw [he] at h
  obtain ⟨f, hf, hclaim⟩ := Option.map_eq_some_iff.mp h.symm
  exact ⟨f, hf, hclaim.symm⟩

theorem direction_of_claim (h : e.claim = f.claim) : e.direction = f.direction ∧ e.cls = f.cls := by
  unfold Entry.claim at h
  simp only [Prod.mk.injEq] at h
  exact ⟨h.1, h.2.1⟩

theorem Shaped.passing (hs : Shaped s) (h : Passing s t) : Shaped t := fun d e he => by
  obtain ⟨f, hf, hclaim⟩ := entry_of_claim (h.claims d) he
  obtain ⟨hdir, hcls⟩ := direction_of_claim hclaim
  obtain ⟨hclose, hopen⟩ := hs d f hf
  refine ⟨fun hc => hcls.trans (hclose (hdir.symm.trans hc)), fun ho => ?_⟩
  rw [isEscape_of_tables h.tables]
  refine (hopen (hdir.symm.trans ho)).imp_right fun hw => ?_
  have hidle := h.idle d (by rw [phaseOf_eq hf, hw]; decide)
  rw [hidle, hf] at he
  cases he
  exact hw

theorem not_opens {ph : Phase} (he : s.entry d = some e) (h : e.direction ≠ .OPEN ∨ s.isEscape d = true ∨ e.phase ≠ ph) :
    d ∉ matching s (opensStandard s ph) := fun hmem => by
  obtain ⟨f, hf, hop⟩ := mem_matching.mp hmem
  rw [he] at hf
  cases hf
  simp only [opensStandard, Bool.and_eq_true, decide_eq_true_eq, Bool.not_eq_true'] at hop
  obtain ⟨⟨hdir, hesc⟩, hphase⟩ := hop
  obtain h | h | h := h
  · exact h hdir
  · rw [h] at hesc; cases hesc
  · exact h hphase

theorem mem_opens {ph : Phase} (he : s.entry d = some e) (hdir : e.direction = .OPEN) (hesc : s.isEscape d = false) (hph : e.phase = ph) :
    d ∈ matching s (opensStandard s ph) :=
  mem_matching.mpr ⟨e, he, by simp [opensStandard, hdir, hesc, hph]⟩

/-- R48: the raise, the deny and the reverse, one after the other. -/
theorem reshaped (o : Origin) (s : State) : Reshaped o s (reverseForEmergency o (denyForEmergency (raiseForEmergency s))) := by
  have hframeA : RunFrame s (raiseForEmergency s) := .request RunFrame.raiseEntry _ _
  obtain ⟨u1, hp1, h1, heq1⟩ := raised_entries s
  generalize raiseForEmergency s = a at hframeA hp1
  have hframeB : RunFrame a (denyForEmergency a) := .removeAll ..
  obtain ⟨u2, hp2, h2, heq2⟩ := denied_entries a
  generalize denyForEmergency a = b at hframeB hp2
  have hp3 : Passing (forEach (matching b (opensStandard b .MOVING)) (reverseOne o) b) (reverseForEmergency o b) := .passes ..
  have h3 := turned_entries (o := o) (nodup_matching b (opensStandard b .MOVING)) b
  have harrival3 := nextArrival_forEach (nextArrival_reverseOne o) (matching b (opensStandard b .MOVING)) b
  have hframe3 : RunFrame b (forEach (matching b (opensStandard b .MOVING)) (reverseOne o) b) := .forEach (fun _ _ => .reverseOne ..) _ _
  generalize forEach (matching b (opensStandard b .MOVING)) (reverseOne o) b = u3 at hp3 h3 harrival3 hframe3
  generalize reverseForEmergency o b = c at hp3
  have hescA (d : DoorIx) : a.isEscape d = s.isEscape d := isEscape_of_tables hframeA.tables d
  have hescB (d : DoorIx) : b.isEscape d = s.isEscape d := (isEscape_of_tables hframeB.tables d).trans (hescA d)
  have hescC (d : DoorIx) : u3.isEscape d = s.isEscape d := (isEscape_of_tables hframe3.tables d).trans (hescB d)
  have keeps {d : DoorIx} {f : Entry} (hu : u1.entry d = some f) (hor : f.direction ≠ .OPEN ∨ s.isEscape d = true) :
      claimOf c d = some f.claim := by
    have hclaimA : claimOf a d = some f.claim := (hp1.claims d).trans (claimOf_eq hu)
    obtain ⟨ea, hea, hca⟩ := Option.map_eq_some_iff.mp hclaimA
    have hora : ea.direction ≠ .OPEN ∨ a.isEscape d = true := hor.imp (by rw [(direction_of_claim hca).1]; exact id) (by rw [hescA]; exact id)
    have hnot2 : d ∉ matching a (opensStandard a .READY) := not_opens hea (hora.imp_right .inl)
    have hclaimB : claimOf b d = some f.claim := by
      refine (hp2.claims d).trans ?_
      unfold claimOf
      rw [h2, if_neg hnot2]
      exact hclaimA
    obtain ⟨eb, heb, hcb⟩ := Option.map_eq_some_iff.mp hclaimB
    have horb : eb.direction ≠ .OPEN ∨ b.isEscape d = true := hor.imp (by rw [(direction_of_claim hcb).1]; exact id) (by rw [hescB]; exact id)
    have hnot3 : d ∉ matching b (opensStandard b .MOVING) := not_opens heb (horb.imp_right .inl)
    refine (hp3.claims d).trans ?_
    unfold claimOf
    rw [(h3 d).1, if_neg hnot3]
    exact hclaimB
  refine ⟨fun d e he hdir => ?_, fun d e he hdir hesc => ?_, fun d e he hdir hesc hph => ?_, Shaped.passing (fun d e he => ?_) hp3, ?_⟩
  · have hu : u1.entry d = some (atThree e) := by rw [h1, he, Option.map_some, raisedOf_close hdir]
    exact keeps hu (.inl (by show e.direction ≠ _; rw [hdir]; decide))
  · have hu : u1.entry d = some e := by rw [h1, he, Option.map_some, raisedOf_open hdir]
    exact keeps hu (.inr hesc)
  · have hu : u1.entry d = some e := by rw [h1, he, Option.map_some, raisedOf_open hdir]
    have hnot : e.phase ≠ .READY := by rw [hph]; decide
    have hea : a.entry d = some e := (hp1.idle d (by rw [phaseOf_eq hu]; exact fun h => hnot (Option.some_inj.mp h))).trans hu
    have hu2 : u2.entry d = some e := by rw [h2, if_neg (not_opens hea (.inr (.inr hnot)))]; exact hea
    have heb : b.entry d = some e := (hp2.idle d (by rw [phaseOf_eq hu2]; exact fun h => hnot (Option.some_inj.mp h))).trans hu2
    have hmem := mem_opens heb hdir ((hescB d).trans hesc) hph
    obtain ⟨hentry, hpending, -⟩ := h3 d
    have hdeadline : turnedOf o b d e = turnedOf o s d e := by
      unfold turnedOf
      rw [doorDeadline_congr (hframeA.trans hframeB).tables]
    rw [if_pos hmem, heb, Option.map_some, hdeadline] at hentry
    obtain ⟨hstays, horders⟩ := hp3.rides d (by rw [phaseOf_eq hentry]; exact congrArg some hph)
    exact ⟨hstays.trans hentry, horders _ (hpending hmem (by rw [heb]; nofun))⟩
  · obtain ⟨hentry, -⟩ := h3 d
    have hshapeA : ∀ e, a.entry d = some e → e.direction = .CLOSE → e.cls = 3 := fun e he hdir => by
      obtain ⟨f, hf, hclaim⟩ := entry_of_claim (hp1.claims d) he
      obtain ⟨hfd, hfc⟩ := direction_of_claim hclaim
      rw [h1] at hf
      obtain ⟨y, -, rfl⟩ := Option.map_eq_some_iff.mp hf
      rw [hfc, raisedOf_close ((raisedOf_direction y).symm.trans (hfd.symm.trans hdir))]
      rfl
    have hshapeB : ∀ e, b.entry d = some e → (e.direction = .CLOSE → e.cls = 3)
        ∧ (e.direction = .OPEN → s.isEscape d = false → e.phase ≠ .READY) := fun e he => by
      obtain ⟨f, hf, hclaim⟩ := entry_of_claim (hp2.claims d) he
      obtain ⟨hfd, hfc⟩ := direction_of_claim hclaim
      have hu2 := hf
      rw [h2] at hf
      split at hf
      · cases hf
      · next hnot =>
        refine ⟨fun hdir => hfc.trans (hshapeA f hf (hfd.symm.trans hdir)), fun hdir hesc => ?_⟩
        have hready : f.phase ≠ .READY := fun hr => hnot (mem_opens hf (hfd.symm.trans hdir) ((hescA d).trans hesc) hr)
        have hidle := hp2.idle d (by rw [phaseOf_eq hu2]; exact fun h => hready (Option.some_inj.mp h))
        rw [hidle, hu2] at he
        cases he
        exact hready
    rw [he] at hentry
    rw [hescC]
    split at hentry
    · obtain ⟨f, -, rfl⟩ := Option.map_eq_some_iff.mp hentry.symm
      exact ⟨fun _ => rfl, fun hdir => by cases hdir⟩
    · next hnot =>
      obtain ⟨hclose, hready⟩ := hshapeB e hentry.symm
      refine ⟨hclose, fun hdir => ?_⟩
      by_cases hesc : s.isEscape d = true
      · exact .inl hesc
      · right
        have hstd := Bool.eq_false_of_not_eq_true hesc
        have hmoving : e.phase ≠ .MOVING := fun hm => hnot (mem_opens hentry.symm hdir ((hescB d).trans hstd) hm)
        have := hready hdir hstd
        cases hph : e.phase with
        | WARNING => rfl
        | READY => exact absurd hph this
        | MOVING => exact absurd hph hmoving
  · rw [hp3.nextArrival, harrival3, hp2.nextArrival, heq2, nextArrival_forEach (nextArrival_takeOut .DENIED), hp1.nextArrival, heq1]

end

end Sys2Proof.Proofs
end

section
/-! ## The passages taken at an entry into EMERGENCY (R110 step 2) -/
namespace Sys2Proof.Proofs
open Sys2Proof Sys2Proof.Machine

set_option Elab.async false

section
variable {s t u v w z : State} {d x : DoorIx} {e f : Entry} {number : Option Byte} {m : Demand} {l : List DoorIx} {n : Nat}

/-- The entries that a passage taken leaves: CLOSE entries and those of ESCAPE doors keep their claims, and MOVING ones ride on. -/
structure Recloses (n : Nat) (s t : State) : Prop where
  shaped : Shaped t
  kept : ∀ d : DoorIx, ∀ e, s.entry d = some e → e.direction = .CLOSE ∨ s.isEscape d = true → claimOf t d = claimOf s d ∧ Rides d s t
  arrival : t.cs.nextArrival ≤ s.cs.nextArrival + n
  frame : RunFrame s t

theorem recloses_of_eq (hs : Shaped s) (hcs : t.cs = s.cs) (hrc : t.rc = s.rc) (hf : RunFrame s t) : Recloses 0 s t where
  shaped d e he := by
    rw [isEscape_of_tables hf.tables]
    exact hs d e ((entry_congr (by rw [hcs]) d).symm.trans he)
  kept d _ _ _ := ⟨claimOf_of_cs hcs d, rides_of_eq (entry_congr (by rw [hcs]) d) hrc⟩
  arrival := by rw [hcs]; exact Nat.le_refl _
  frame := hf

theorem Recloses.trans {k : Nat} (h : Recloses n s t) (g : Recloses k t u) : Recloses (n + k) s u where
  shaped := g.shaped
  kept d e he hor := by
    obtain ⟨hclaim, hrides⟩ := h.kept d e he hor
    obtain ⟨y, hy, hcy⟩ := Option.map_eq_some_iff.mp (hclaim.trans (claimOf_eq he))
    obtain ⟨hclaim', hrides'⟩ := g.kept d y hy (hor.imp (by rw [(direction_of_claim hcy).1]; exact id)
      (by rw [isEscape_of_tables h.frame.tables]; exact id))
    exact ⟨hclaim'.trans hclaim, hrides.trans hrides'⟩
  arrival := by
    have := h.arrival
    have := g.arrival
    omega
  frame := h.frame.trans g.frame

/-- A CLOSE entry of class 3 made at a STANDARD door, where no CLOSE entry stood, and the passes that follow. -/
theorem recloses_fresh (hs : Shaped s) (hz : ∀ d, z.entry d = if x = d then some f else s.entry d) (hdir : f.direction = .CLOSE) (hcls : f.cls = 3)
    (hx : ∀ e, s.entry x = some e → e.direction ≠ .CLOSE) (hesc : s.isEscape x = false) (hpend : ∀ d, d ≠ x → ∀ k, Pending s d k → Pending z d k)
    (hp : Passing z t) (hf : RunFrame s t) (htables : z.tables = s.tables) (harrival : t.cs.nextArrival = s.cs.nextArrival + 1) : Recloses 1 s t where
  shaped := by
    refine Shaped.passing (s := z) (fun d e he => ?_) hp
    rw [hz] at he
    split at he
    · cases he
      exact ⟨fun _ => hcls, fun ho => by rw [hdir] at ho; cases ho⟩
    · rw [isEscape_of_tables htables]
      exact hs d e he
  kept d e he hor := by
    have hd : x ≠ d := fun h => by
      subst h
      exact hor.elim (hx e he) fun h => by rw [hesc] at h; cases h
    have hsame : z.entry d = s.entry d := (hz d).trans (if_neg hd)
    refine ⟨(hp.claims d).trans (congrArg (Option.map Entry.claim) hsame), Rides.trans (t := z) (fun _ => ⟨hsame, hpend d (Ne.symm hd)⟩) (hp.rides d)⟩
  arrival := by omega
  frame := hf

theorem entry_renewed_below (htop : s.cs.nextArrival ≠ arrivalTop) (m : Demand) (d : DoorIx) :
    (renewed m s).entry d = if m.door = d then some (m.newEntry (s.preWarn m.door) (arrivalFor m.door s)) else s.entry d := by
  refine (entry_setEntry ..).trans ?_
  rw [(arrived_below_top htop m.door).2]
  rfl

theorem nextArrival_renewed (htop : s.cs.nextArrival ≠ arrivalTop) (m : Demand) :
    (renewed m s).cs.nextArrival = s.cs.nextArrival + 1 := by
  show (arrived m.door s).cs.nextArrival = _
  rw [(arrived_below_top htop m.door).2]

/-- A reclose of class 3 at a STANDARD door, among entries so shaped. -/
theorem recloses_decideDemand (hs : Shaped s) (htop : s.cs.nextArrival ≠ arrivalTop) (hesc : s.isEscape m.door = false)
    (hdir : m.direction = .CLOSE) (hcls : m.cls = 3) : Recloses 1 s (decideDemand m s).2 := by
  have hframe := RunFrame.decideDemand m s
  have one {t : State} (h : Recloses 0 s t) : Recloses 1 s t := ⟨h.shaped, h.kept, h.arrival.trans (Nat.le_succ _), h.frame⟩
  have hend := Ending.endBeaten m s
  have hd := decided m s
  generalize decideDemand m s = p at hd hframe
  cases hd with
  | refused => exact one (recloses_of_eq hs rfl rfl (.refl s))
  | already => exact one (recloses_of_eq hs hend.cs hend.rc hframe)
  | enqueued he =>
    have htop' : (endBeaten m s).cs.nextArrival ≠ arrivalTop := by rw [hend.cs]; exact htop
    have hentry (d : DoorIx) : ((renewed m (endBeaten m s)).zeroOas m.door).entry d
        = if m.door = d then some (m.newEntry ((endBeaten m s).preWarn m.door) (arrivalFor m.door (endBeaten m s))) else s.entry d := by
      refine (entry_renewed_below htop' m d).trans ?_
      rw [entry_congr (s := s) (t := endBeaten m s) (by rw [hend.cs])]
    have hrc : ((renewed m (endBeaten m s)).zeroOas m.door).rc = s.rc := by
      show (renewed m (endBeaten m s)).rc = _
      rw [renewed_eq]
      exact hend.rc
    have htables : ((renewed m (endBeaten m s)).zeroOas m.door).tables = s.tables := by
      show (renewed m (endBeaten m s)).tables = _
      rw [renewed_eq]
      exact hend.tables
    have hnone (e : Entry) (h : s.entry m.door = some e) : e.direction ≠ .CLOSE := by rw [he] at h; cases h
    have harrival : (enqueue m (endBeaten m s)).cs.nextArrival = s.cs.nextArrival + 1 := by
      rw [nextArrival_enqueue, (arrived_below_top htop' m.door).2, hend.cs]
    have hframe : RunFrame s (enqueue m (endBeaten m s)) := hframe
    show Recloses 1 s (enqueue m (endBeaten m s))
    rw [enqueue_eq] at harrival hframe ⊢
    generalize (renewed m (endBeaten m s)).zeroOas m.door = z at hentry hrc htables harrival hframe
    split at harrival
    · next hw =>
      rw [if_pos hw] at hframe ⊢
      refine recloses_fresh (z := queueOrder m.door .WARN z) hs hentry hdir hcls hnone hesc (fun d hd k hk => ?_) (.refl _) hframe htables harrival
      show _ ∈ queued z.rc.orders _
      rw [mem_queued_of_ne hd, hrc]
      exact hk
    · next hw =>
      rw [if_neg hw] at hframe ⊢
      exact recloses_fresh (z := z) hs hentry hdir hcls hnone hesc (fun d _ k hk => by show _ ∈ z.rc.orders; rw [hrc]; exact hk) (.pass ..) hframe htables harrival
  | @merged e he hsame =>
    have hthree : e.cls = 3 := (hs m.door e he).1 (hsame.trans hdir)
    have hstands : merge m e s = s := merge_of_le he (by rw [hcls, hthree])
    show Recloses 1 s (merge m e s)
    rw [hstands]
    exact one (recloses_of_eq hs rfl rfl (.refl s))
  | @reversed e he hne hph =>
    have hopen : e.direction = .OPEN := by
      cases hd : e.direction with
      | OPEN => rfl
      | CLOSE => exact absurd (hd.trans hdir.symm) hne
    obtain h | h := (hs m.door e he).2 hopen
    · rw [hesc] at h; cases h
    · rw [hph] at h; cases h
  | @replaced e he hne hph =>
    have hframe : RunFrame s (replace m e s) := hframe
    have hcs := displaced_cs m e s
    have hrcd : (displaced m e s).rc = s.rc := (ReportFrame.reportTag ..).rc.trans ((Ending.recloseGone ..).rc.trans hend.rc)
    have htd : (displaced m e s).tables = s.tables := (displaced_frame m s hne).tables
    show Recloses 1 s (replace m e s)
    rw [replace_eq] at hframe ⊢
    have htop' : (displaced m e s).cs.nextArrival ≠ arrivalTop := by rw [hcs]; exact htop
    have hp : Passing (exchanged m (displaced m e s)) (replacedFrom m e (displaced m e s)) := by
      unfold replacedFrom
      split
      · exact (Passing.pass ..).trans (.evalDelay ..)
      · exact .pass ..
    generalize displaced m e s = y at hframe hcs hrcd htd htop' hp ⊢
    have hentry (d : DoorIx) : (exchanged m y).entry d = if m.door = d then some (m.newEntry (y.preWarn m.door) (arrivalFor m.door y)) else s.entry d := by
      rw [entry_exchanged, entry_renewed_below htop', entry_congr (s := s) (t := y) (by rw [hcs])]
    refine recloses_fresh hs hentry hdir hcls (fun f hf => ?_) hesc (fun d hd k hk => ?_) hp hframe ((frame_exchanged m y).tables.trans htd) ?_
    · rw [he] at hf
      cases hf
      rw [← hdir]
      exact hne
    · have hrenewed : (renewed m y).rc = s.rc := by rw [renewed_eq]; exact hrcd
      show _ ∈ (queueOrder? m.door _ (renewed m y)).rc.orders
      generalize replaceOrder m _ = k?
      cases k? with
      | none => show _ ∈ (renewed m y).rc.orders; rw [hrenewed]; exact hk
      | some k' => show _ ∈ queued (renewed m y).rc.orders _; rw [mem_queued_of_ne hd, hrenewed]; exact hk
    · rw [hp.nextArrival]
      have hcs' : (exchanged m y).cs = (renewed m y).cs := by rw [exchanged_eq]
      rw [hcs', nextArrival_renewed htop', hcs]

/-! ### The passages -/

theorem takePassage_taken {y : Passage} (hy : s.passage x = some y) (hesc : s.isEscape x = false) :
    takePassage x s = (decideDemand (passageDemand .CLOSE 3 x) (endPassage x s)).2 := by
  unfold takePassage
  rw [hy]
  exact if_neg (by rw [hesc]; exact Bool.false_ne_true)

theorem takePassage_stands (h : s.passage x = none ∨ s.isEscape x = true) : takePassage x s = s := by
  unfold takePassage
  cases hx : s.passage x with
  | none => rfl
  | some y => exact if_pos (h.resolve_left (by rw [hx]; nofun))

/-- The two cases of a passage taken. -/
theorem takePassage_cases (x : DoorIx) (s : State) : (takePassage x s = s ∧ (s.passage x = none ∨ s.isEscape x = true))
    ∨ (s.isEscape x = false ∧ takePassage x s = (decideDemand (passageDemand .CLOSE 3 x) (endPassage x s)).2) := by
  by_cases h : s.passage x = none ∨ s.isEscape x = true
  · exact .inl ⟨takePassage_stands h, h⟩
  · obtain ⟨hsome, hesc⟩ := not_or.mp h
    obtain ⟨y, hy⟩ := Option.ne_none_iff_exists'.mp hsome
    have hesc := Bool.eq_false_of_not_eq_true hesc
    exact .inr ⟨hesc, takePassage_taken hy hesc⟩

theorem passagesEnd_takePassage (x : DoorIx) (s : State) : PassagesEnd s (takePassage x s)
    ∧ (s.isEscape x = false → (takePassage x s).passage x = none) := by
  obtain ⟨hstands, hor⟩ | ⟨-, htaken⟩ := takePassage_cases x s
  · rw [hstands]
    exact ⟨passagesEnd_of_mc rfl, fun hesc => hor.resolve_right (by rw [hesc]; exact Bool.false_ne_true)⟩
  · rw [htaken]
    have hdemand := passagesEnd_decideDemand (passageDemand .CLOSE 3 x) (endPassage x s)
    exact ⟨(passagesEnd_endPassage x s).trans hdemand, fun _ => hdemand x ((passage_endPassage ..).trans (if_pos rfl))⟩

/-- No passage record at a STANDARD door is left. -/
theorem passages_taken (l : List DoorIx) (s : State) : PassagesEnd s (forEach l takePassage s)
    ∧ ∀ x ∈ l, s.isEscape x = false → (forEach l takePassage s).passage x = none := by
  induction l generalizing s with
  | nil => exact ⟨passagesEnd_of_mc rfl, nofun⟩
  | cons y rest ih =>
    obtain ⟨hends, hy⟩ := passagesEnd_takePassage y s
    obtain ⟨hrest, hgone⟩ := ih (takePassage y s)
    refine ⟨hends.trans hrest, fun x hx hesc => ?_⟩
    have htables := (frame_takePassage y s).tables
    obtain hxy | hmem := List.mem_cons.mp hx
    · subst hxy
      exact hrest x (hy hesc)
    · exact hgone x hmem (by rw [isEscape_of_tables htables]; exact hesc)

theorem recloses_takePassage (hs : Shaped s) (htop : s.cs.nextArrival ≠ arrivalTop) (x : DoorIx) : Recloses 1 s (takePassage x s) := by
  obtain ⟨hstands, -⟩ | ⟨hesc, htaken⟩ := takePassage_cases x s
  · rw [hstands]
    have h := recloses_of_eq hs rfl rfl (.refl s)
    exact ⟨h.shaped, h.kept, Nat.le_succ _, h.frame⟩
  · rw [htaken]
    have hend := Ending.endPassage x s
    have hframe := RunFrame.endPassage x s
    have hfirst := recloses_of_eq hs hend.cs hend.rc hframe
    have h := hfirst.trans (recloses_decideDemand (m := passageDemand .CLOSE 3 x) hfirst.shaped (by rw [hend.cs]; exact htop)
      ((isEscape_of_tables hframe.tables x).trans hesc) rfl rfl)
    rwa [Nat.zero_add] at h

theorem recloses_takePassages (l : List DoorIx) (hs : Shaped s) (htop : s.cs.nextArrival + l.length < arrivalTop) :
    Recloses l.length s (forEach l takePassage s) := by
  induction l generalizing s with
  | nil => exact recloses_of_eq hs rfl rfl (.refl s)
  | cons x rest ih =>
    rw [List.length_cons] at htop
    have hfirst := recloses_takePassage hs (by omega) x
    have h := hfirst.trans (ih hfirst.shaped (by have := hfirst.arrival; omega))
    rwa [Nat.add_comm] at h

theorem Systemic.takePassage (x : DoorIx) (h : Systemic number s) : Systemic number (takePassage x s) := by
  obtain ⟨hstands, -⟩ | ⟨-, htaken⟩ := takePassage_cases x s
  · rw [hstands]; exact h
  · rw [htaken]
    have hend := Ending.endPassage x s
    exact Systemic.decideDemand rfl (h.of_tags hend.gru fun y => by rw [tagOf_of_cs hend.cs])

end

end Sys2Proof.Proofs
end

section
/-! ## O26 -/
namespace Sys2Proof.Proofs
open Sys2Proof Sys2Proof.Machine

set_option Elab.async false

section
variable {s t u v w : State} {d : DoorIx} {e : Entry} {c : EmergencyCause} {p : PortIx}

theorem launchSystem_bridgeLost (cls : Nat) (o : RunOrigin) (s : State) : (launchSystem cls o s).mc.bridgeLost = s.mc.bridgeLost := by
  have hsettled := (RunFrame.settleRuns s).bridgeLost
  unfold launchSystem
  simp only
  split
  · rw [takeSlot_mc, (RunFrame.detachTag ..).bridgeLost, hsettled]
  · rw [takeSlot_mc, hsettled]

theorem raisedOf_tag (e : Entry) : (raisedOf e).tag = e.tag := by unfold raisedOf; split <;> rfl

theorem claimLess_of_claim {f : Entry} (h : e.claim = f.claim) : claimLess s e = claimLess s f := by
  unfold Entry.claim at h
  simp only [Prod.mk.injEq] at h
  obtain ⟨hdir, hcls, hgroup, horigin, htag, harrival⟩ := h
  unfold claimLess Entry.claim
  rw [htag, hdir, hcls, hgroup, horigin, harrival]

theorem claimLess_direction (s : State) (e : Entry) : (claimLess s e).1 = e.direction ∧ (claimLess s e).2.1 = e.cls := by
  unfold claimLess
  split
  · split <;> exact ⟨rfl, rfl⟩
  · exact ⟨rfl, rfl⟩

/-- An entry that does not wait for its pass keeps all but its tag at a launch. -/
theorem launched_idle {cls : Nat} {o : RunOrigin} (h : LaunchEnds cls o w t) (he : w.entry d = some e) (hph : e.phase ≠ .READY) :
    ∃ f, t.entry d = some f ∧ f.phase = e.phase ∧ (e.tag = none → f = e) := by
  have hidle := h.idle d (by rw [phaseOf_eq he]; exact fun hr => hph (Option.some_inj.mp hr))
  rw [he, Option.map_some] at hidle
  refine ⟨_, hidle, ?_, fun htag => ?_⟩
  · split
    · exact detached_phase ..
    · rfl
  · split
    · unfold detached tagged
      rw [htag]
      rfl
    · rfl

/-- The entries at the end of an entry into EMERGENCY, from the state `v` that the passages are taken in. -/
theorem launched_entries {o : Origin} {cls n : Nat} {ro : RunOrigin} (hv : Reshaped o s v) (hw : Recloses n v w) (ht : LaunchEnds cls ro w t)
    (hsystemic : Systemic ((s.gru.slots[slotS]).map Run.number) w) (htables : v.tables = s.tables) :
    (∀ d : DoorIx, ∀ e ∈ t.entry d, (e.direction = .CLOSE → e.cls = 3) ∧ (e.direction = .OPEN → s.isEscape d = true ∨ e.phase = .WARNING))
    ∧ (∀ d : DoorIx, ∀ e ∈ s.entry d, e.direction = .CLOSE → claimOf t d = some (claimLess s { e with cls := 3 }))
    ∧ (∀ d : DoorIx, ∀ e ∈ s.entry d, e.direction = .OPEN → s.isEscape d = true → claimOf t d = some (claimLess s e))
    ∧ (∀ d : DoorIx, ∀ e ∈ s.entry d, e.direction = .OPEN → s.isEscape d = false → e.phase = .MOVING →
        claimOf t d = some (.CLOSE, 3, .A, o, none, e.arrival) ∧ phaseOf t d = some .MOVING
        ∧ (t.entry d).map Entry.started = some false ∧ Pending t d (.MOVE .CLOSE true)) := by
  have hescv (d : DoorIx) : v.isEscape d = s.isEscape d := isEscape_of_tables htables d
  have hescw (d : DoorIx) : w.isEscape d = s.isEscape d := (isEscape_of_tables hw.frame.tables d).trans (hescv d)
  have keeps {d : DoorIx} {f : Entry} (hf : claimOf v d = some f.claim) (hor : f.direction = .CLOSE ∨ s.isEscape d = true) :
      claimOf t d = some (claimLess s f) := by
    obtain ⟨ev, hev, hcv⟩ := Option.map_eq_some_iff.mp hf
    obtain ⟨hkept, -⟩ := hw.kept d ev hev (hor.imp (by rw [(direction_of_claim hcv).1]; exact id) (by rw [hescv]; exact id))
    obtain ⟨ew, hew, hcw⟩ := Option.map_eq_some_iff.mp (hkept.trans hf)
    rw [ht.claims, hew, Option.map_some, hsystemic.claimLess hew, claimLess_of_claim hcw]
  refine ⟨fun d e he => ?_, fun d e he hdir => ?_, fun d e he hdir hesc => ?_, fun d e he hdir hesc hph => ?_⟩
  · have hclaim : (w.entry d).map (claimLess w) = some e.claim := (ht.claims d).symm.trans (claimOf_eq he)
    obtain ⟨f, hf, hcf⟩ := Option.map_eq_some_iff.mp hclaim
    obtain ⟨hd, hc⟩ := claimLess_direction w f
    rw [hcf] at hd hc
    obtain ⟨hclose, hopen⟩ := hw.shaped d f hf
    refine ⟨fun hdir => hc.trans (hclose (hd.symm.trans hdir)), fun hdir => ?_⟩
    rw [← hescw]
    refine (hopen (hd.symm.trans hdir)).imp_right fun hwarn => ?_
    obtain ⟨y, hy, hphase, -⟩ := launched_idle ht hf (by rw [hwarn]; decide)
    have he : t.entry d = some e := he
    rw [hy] at he
    cases he
    exact hphase.trans hwarn
  · exact keeps (hv.closes d e he hdir) (.inl hdir)
  · exact keeps (hv.escapes d e he hdir hesc) (.inr hesc)
  · obtain ⟨hev, hpending⟩ := hv.turned d e he hdir hesc hph
    have hmoving : (turnedOf o s d e).phase = .MOVING := hph
    obtain ⟨-, hrides⟩ := hw.kept d _ hev (.inl rfl)
    obtain ⟨hew, horders⟩ := hrides (by rw [phaseOf_eq hev, hmoving])
    obtain ⟨f, hf, -, hsame⟩ := launched_idle ht (hew.trans hev) (by rw [hmoving]; decide)
    rw [hsame rfl] at hf
    refine ⟨claimOf_eq hf, (phaseOf_eq hf).trans (congrArg some hmoving), by rw [hf]; rfl, ?_⟩
    have hnot : phaseOf w d ≠ some .READY := by rw [phaseOf_eq (hew.trans hev), hmoving]; decide
    exact (ht.otherOrders ⟨d, .MOVE .CLOSE true⟩ hnot).mpr (horders _ hpending)

/-- The state in which the system run is launched. -/
abbrev beforeLaunch (c : EmergencyCause) (s : State) : State :=
  forEach allDoors takePassage (reverseForEmergency c.origin (denyForEmergency (raiseForEmergency (setMode .EMERGENCY s))))

theorem systemic_beforeLaunch {number : Option Byte} (h : Systemic number s) (c : EmergencyCause) : Systemic number (beforeLaunch c s) := by
  have hset : Systemic number (setMode .EMERGENCY s) := h.of_tags rfl fun _ => rfl
  have hraised : Systemic number (raiseForEmergency (setMode .EMERGENCY s)) := by
    obtain ⟨u, hp, hentries, heq⟩ := raised_entries (setMode .EMERGENCY s)
    have hentries : ∀ d, u.entry d = ((setMode .EMERGENCY s).entry d).map raisedOf := hentries
    refine (hset.of_tags (t := u) (by rw [heq]) fun d => ?_).passing hp
    unfold tagOf
    rw [hentries]
    cases (setMode .EMERGENCY s).entry d with
    | none => rfl
    | some e => exact congrArg (Option.map RunTag.number) (raisedOf_tag e)
  have hdenied : Systemic number (denyForEmergency (raiseForEmergency (setMode .EMERGENCY s))) := by
    generalize raiseForEmergency (setMode .EMERGENCY s) = a at hraised
    obtain ⟨u, hp, -, heq⟩ := denied_entries a
    rw [heq] at hp
    exact (Systemic.forEach (fun d v hv => hv.takeOut ⟨by decide, by decide⟩ d) _ hraised).passing hp
  have hturned : Systemic number (reverseForEmergency c.origin (denyForEmergency (raiseForEmergency (setMode .EMERGENCY s)))) :=
    (Systemic.forEach (fun d v hv => hv.reverseOne c.origin d) _ hdenied).passing (.passes ..)
  exact Systemic.forEach (fun d v hv => hv.takePassage d) _ hturned

/-- R110: what an entry into EMERGENCY leaves. -/
theorem emergencyEntered (c : EmergencyCause) (s : State) : EmergencyEntered s (enterEmergency c s) c := by
  have hblock := BlockFrame.enterEmergency c s
  have hframe : RunFrame (setMode .EMERGENCY s) (beforeLaunch c s) :=
    (((frame_raiseForEmergency _).trans (frame_denyForEmergency _)).trans (frame_reverseForEmergency ..)).trans (.forEach frame_takePassage allDoors _)
  have hsystemic (hstack : s.gru.stack = []) (htags : TagLaw s) (hsettled : SettledLaw s) :=
    systemic_beforeLaunch (systemic_of_laws hstack htags hsettled) c
  have hreshaped := reshaped c.origin (setMode .EMERGENCY s)
  have hframev : RunFrame (setMode .EMERGENCY s) (reverseForEmergency c.origin (denyForEmergency (raiseForEmergency (setMode .EMERGENCY s)))) :=
    ((frame_raiseForEmergency _).trans (frame_denyForEmergency _)).trans (frame_reverseForEmergency ..)
  obtain ⟨-, hgone⟩ := passages_taken allDoors (reverseForEmergency c.origin (denyForEmergency (raiseForEmergency (setMode .EMERGENCY s))))
  have hrecloses := recloses_takePassages (s := reverseForEmergency c.origin (denyForEmergency (raiseForEmergency (setMode .EMERGENCY s))))
    allDoors hreshaped.shaped
  have hlaunch : enterEmergency c s = launchSystem 3 c.runOrigin (beforeLaunch c s) := rfl
  refine ⟨enterEmergency_mode c s, hblock.line, hblock.sea, ?_, fun _ _ => launchSystem_slot .., fun d hesc => ?_,
    fun hstack htags hsettled htop => ?_, carried_ms.enterEmergency c s, hblock.orders⟩
  · rw [hlaunch, launchSystem_bridgeLost]
    exact hframe.bridgeLost
  · rw [hlaunch]
    refine (launchSystem_quiet ..).1 d (hgone d (mem_allDoors d) ?_)
    rw [isEscape_of_tables hframev.tables]
    exact hesc
  · have hlen : allDoors.length = 96 := List.length_finRange ..
    have hrecloses := hrecloses (by rw [hreshaped.nextArrival, hlen]; exact htop)
    have hsystemic := hsystemic hstack htags hsettled
    have hends := launchSystem_ends 3 c.runOrigin hsystemic.resumed
    obtain ⟨hcloses, hescapes, hturned, hshaped, harrival⟩ := hreshaped
    exact launched_entries ⟨hcloses, hescapes, hturned, hshaped, harrival⟩ hrecloses hends hsystemic hframev.tables

/-- An entry into EMERGENCY leaves no resumed run to look. -/
theorem settle_enterEmergency (c : EmergencyCause) (s : State) : settleRuns (enterEmergency c s) = enterEmergency c s :=
  settleRuns_of_resumed (launchSystem_quiet ..).2

/-! ### The request and the line -/

theorem exec_modeSetEmergency (h : Operates s p [.BRIDGE, .SAFETY]) :
    exec (.modeSetEmergency p) s = .next (requestEmergency p (acceptFrame p s)) :=
  (exec_awake h.1 rfl).trans (congrArg _ (decide_operating _ h))

theorem requestEmergency_enters (hm : s.mc.mode ≠ .EMERGENCY) :
    requestEmergency p s = answerDone p 2 false [] (enterEmergency .MODE s) := by
  unfold requestEmergency
  rw [settle_enterEmergency]
  cases hmode : s.mc.mode with
  | EMERGENCY => exact absurd hmode hm
  | LOCAL | CLOSED => rfl

/-- What an entry leaves is read of the schedule, the runs, MC and MS alone. -/
theorem entered_congr (h : EmergencyEntered s t c) (hcs : u.cs = t.cs) (hgru : u.gru = t.gru) (hmc : u.mc = t.mc) (hms : u.ms = t.ms)
    (hrc : u.rc = t.rc) : EmergencyEntered s u c := by
  have hentry : u.entry = t.entry := funext (entry_congr (by rw [hcs]))
  unfold EmergencyEntered claimOf phaseOf State.passage Pending OnlyOrders at *
  rw [hentry, hgru, hmc, hms, hrc]
  exact h

/-- The entry at the assertion of the line, from the state after EMERGENCY_LINE was raised. -/
theorem entered_from {al : Al} {sp : Vector StationPort 8} {ib : Ib} {pins : Pins} (h : EmergencyEntered { s with al := al, sp := sp, ib := ib, pins := pins } t c) :
    EmergencyEntered s t c := h

theorem exec_lineAsserted (hs : Awake s) : exec .emergencyCloseAsserted s
    = .next (if s.mc.line = true then setPin true s else lineAsserted (setPin true s)) :=
  have hexec : exec .emergencyCloseAsserted s = .next (if s.pins.reset then setPin true s
    else if s.mc.line then setPin true s else lineAsserted (setPin true s)) := rfl
  hexec.trans (congrArg _ (if_neg (by rw [hs]; exact Bool.false_ne_true)))

theorem exec_lineReleased (hs : Awake s) : exec .emergencyCloseReleased s
    = .next (if s.mc.line = true then lineReleased (setPin false s) else setPin false s) :=
  have hexec : exec .emergencyCloseReleased s = .next (if s.pins.reset then setPin false s
    else if s.mc.line then lineReleased (setPin false s) else setPin false s) := rfl
  hexec.trans (congrArg _ (if_neg (by rw [hs]; exact Bool.false_ne_true)))

/-- R107: what the assertion of the line leaves. -/
theorem line_asserted (s : State) : (lineAsserted s).mc.line = true ∧ (lineAsserted s).pins = s.pins ∧ (lineAsserted s).tables = s.tables
    ∧ (lineAsserted s).cfs = s.cfs
    ∧ (HasRoom s .EMERGENCY_LINE noSubject → Standing (lineAsserted s) .EMERGENCY_LINE noSubject)
    ∧ (s.inService = false ∨ s.mc.mode = .EMERGENCY → (lineAsserted s).mc = { s.mc with line := true } ∧ (lineAsserted s).cs = s.cs
        ∧ (lineAsserted s).gru = s.gru ∧ (lineAsserted s).rc = s.rc ∧ (lineAsserted s).ms = s.ms)
    ∧ (s.inService = true → s.mc.mode ≠ .EMERGENCY → EmergencyEntered { s with mc := { s.mc with line := true } } (lineAsserted s) .LINE)
    ∧ OnlyQueues s (lineAsserted s) ∧ OnlyPacing s (lineAsserted s) ∧ (lineAsserted s).seconds = s.seconds := by
  have hf := AlarmFrame.raiseAlarm .EMERGENCY_LINE noSubject (setLine true s)
  have hms : (raiseAlarm .EMERGENCY_LINE noSubject (setLine true s)).ms = s.ms := ms_raiseAlarm ..
  have hstanding (hroom : HasRoom s .EMERGENCY_LINE noSubject) : Standing (raiseAlarm .EMERGENCY_LINE noSubject (setLine true s)) .EMERGENCY_LINE noSubject :=
    standing_raiseAlarm (s := setLine true s) hroom
  have hstate := state_of_alarmFrame hf
  unfold lineAsserted
  generalize raiseAlarm .EMERGENCY_LINE noSubject (setLine true s) = t at hf hms hstanding hstate
  have hin : t.inService = s.inService := inService_congr hf.cfs
  have hmode : t.mc.mode = s.mc.mode := by rw [hf.mc]; rfl
  simp only
  rw [hin, hmode]
  by_cases hc : s.inService = true ∧ s.mc.mode ≠ .EMERGENCY
  · rw [if_pos hc, settle_enterEmergency]
    have hblock := hf.toBlockFrame.trans (BlockFrame.enterEmergency .LINE t)
    have hentered := emergencyEntered .LINE t
    refine ⟨hblock.line, hblock.pins, hblock.tables, hblock.cfs,
      fun hroom => ((carried_othersStand.enterEmergency .LINE t).standing (by decide)).mpr (hstanding hroom), fun hor => ?_, fun _ _ => ?_,
      hblock.queues, hblock.pacing, hblock.seconds⟩
    · exact hor.elim (fun h => by rw [h] at hc; cases hc.1) fun h => absurd h hc.2
    · rw [hms] at hstate
      rw [hstate] at hentered ⊢
      exact entered_from (s := { s with mc := { s.mc with line := true } }) (pins := s.pins) hentered
  · rw [if_neg hc]
    refine ⟨by rw [hf.mc]; rfl, hf.pins, hf.tables, hf.cfs, hstanding, fun _ => ⟨hf.mc, hf.cs, hf.gru, hf.rc, hms⟩,
      fun h1 h2 => absurd ⟨h1, h2⟩ hc, hf.queues, hf.pacing, hf.seconds⟩

end

/-- Settles O26. -/
theorem emergencyEntries : Obligations.EmergencyEntries := by
  unfold Obligations.EmergencyEntries
  refine ⟨fun p s h => ?_, fun s hs => ⟨fun hl => ?_, fun hl => ?_⟩, fun s hs hlaw => ⟨fun hl => ?_, fun hl => ?_⟩⟩
  · intro u
    have hexec := exec_modeSetEmergency h
    refine ⟨fun hm => ?_, fun hm => ?_⟩
    · refine hexec.trans (congrArg _ ?_)
      unfold requestEmergency
      rw [show (acceptFrame p s).mc.mode = .EMERGENCY from hm]
    · rw [requestEmergency_enters (s := acceptFrame p s) hm] at hexec
      have hans := frame_answerDone p 2 false [] (enterEmergency .MODE (acceptFrame p s))
      have hentered := emergencyEntered .MODE (acceptFrame p s)
      have haside := aside_of_answer (BlockFrame.enterEmergency .MODE (acceptFrame p s)) p 2 false []
      have hdone := done_answerDone p 2 false [] (enterEmergency .MODE (acceptFrame p s))
      exact ends_of hexec ⟨entered_congr (s := s) hentered hans.cs hans.gru hans.mc hans.ms hans.rc, hdone, haside⟩
  · have hexec := exec_lineAsserted hs
    rw [if_pos hl] at hexec
    exact hexec
  · have hexec := exec_lineAsserted hs
    rw [if_neg (by rw [hl]; exact Bool.false_ne_true)] at hexec
    obtain ⟨hline, hpins, htables, hcfs, hstanding, hstays, henters, hqueues, hpacing, hseconds⟩ := line_asserted (setPin true s)
    exact ends_of hexec ⟨hline, hpins, htables, hcfs, hstanding, hstays, henters, hqueues, hpacing, hseconds⟩
  · have hexec := exec_lineReleased hs
    rw [if_neg (by rw [hl]; exact Bool.false_ne_true)] at hexec
    exact hexec
  · have hexec := exec_lineReleased hs
    rw [if_pos hl] at hexec
    have hf := AlarmFrame.clearAlarm .EMERGENCY_LINE noSubject (setLine false (setPin false s))
    exact ends_of hexec ⟨cleared_clearAlarm (s := setLine false (setPin false s)) hlaw (by decide), hf.mc, hf.pins, hf.tables, hf.cfs, hf.cs,
      ms_clearAlarm (by decide), hf.gru, hf.rc, hf.queues, hf.pacing, hf.seconds⟩

end Sys2Proof.Proofs
end

section
/-! ## TABLE_WRITE: what the write of a door record resets (O35) -/
namespace Sys2Proof.Proofs
open Sys2Proof Sys2Proof.Machine

set_option Elab.async false

section
variable {s t u : State} {d x : DoorIx} {b : Before} {l : List SlotIx}

/-! ### The filter (R138) -/

theorem filterAt_setFilter_self (a : Nat) (s : State) : (s.setFilter a none).filterAt a = none := by
  unfold State.filterAt State.setFilter
  cases hi : nodeIx a <;> simp

theorem filterAt_setFilter_none (c : Nat) {a : Nat} (h : s.filterAt a = none) : (s.setFilter c none).filterAt a = none := by
  unfold State.filterAt at h ⊢
  unfold State.setFilter
  cases ha : nodeIx a with
  | none => rfl
  | some i =>
    rw [ha] at h
    cases hc : nodeIx c with
    | none => exact h
    | some j =>
      simp only [Fin.getElem_fin, getElem_put]
      split
      · rfl
      · exact h

/-- R138: the reset of two addresses leaves the filter without them. -/
theorem filterAt_resetFilters (old new : Nat) (s : State) :
    (resetFilters old new s).filterAt old = none ∧ (resetFilters old new s).filterAt new = none :=
  ⟨filterAt_setFilter_none new (filterAt_setFilter_self old s), filterAt_setFilter_self new _⟩

theorem filterAt_congr (h : t.rc.filter = s.rc.filter) (a : Nat) : t.filterAt a = s.filterAt a := by
  unfold State.filterAt
  rw [h]

/-! ### A presentation of a door of which nothing is known -/

/-- The door has neither entry nor passage, its position and its handle are UNKNOWN, and no run hears. -/
structure Unheard (l : List SlotIx) (d : DoorIx) (s : State) : Prop where
  entry : s.entry d = none
  passage : s.passage d = none
  position : s.position d = .UNKNOWN
  handle : s.handle d = .UNKNOWN
  deaf : Deaf l s

theorem Stands.trans (h : Stands s t) (g : Stands t u) : Stands s u :=
  ⟨g.cs.trans h.cs, g.gru.trans h.gru, g.mc.trans h.mc, g.rc.trans h.rc, g.tables.trans h.tables, g.cfs.trans h.cfs,
    g.pins.trans h.pins, g.seconds.trans h.seconds⟩

theorem Unheard.of_stands (h : Unheard l d s) (hs : Stands s t) : Unheard l d t where
  entry := (entry_congr (by rw [hs.cs]) d).trans h.entry
  passage := (hs.passage d).trans h.passage
  position := by have := h.position; unfold State.position at this ⊢; rw [hs.rc, this]
  handle := (hs.handle d).trans h.handle
  deaf := h.deaf.of_gru hs.gru

theorem stands_act_of_unheard (h : Unheard l d s) (b : Before) (a : PresentAct) : Stands s (takePresentation d b a s) := by
  have stays {v : State} (hv : v = s) : Stands s v := by rw [hv]; exact (Near.refl true d s).stands
  cases a with
  | MS =>
    have hidle : MsIdle d b s := by
      refine ⟨by unfold phaseOf; rw [h.entry]; nofun, .inr ?_⟩
      unfold foundDirection
      rw [h.position]
      split <;> rfl
    show Stands s (presentMS d b s)
    rw [presentMS_of_idle hidle]
    exact (near_clearAtRest d s).stands
  | CS => exact stays (presentCS_of_idle fun e he => by rw [h.entry] at he; cases he)
  | MC_PASSAGE => exact (near_presentPassage (r := true) h.passage).stands
  | MC_HANDLE => exact stays (if_pos (.inr h.handle))
  | GRU => exact stays (forWaiting_of_deaf h.deaf d _)
  | IB => exact (near_presentIB (r := true) d b.position s).stands

theorem stands_acts_of_unheard (h : Unheard l d s) (b : Before) (acts : List PresentAct) :
    Stands s (forEach acts (takePresentation d b) s) := by
  induction acts generalizing s with
  | nil => exact (Near.refl true d s).stands
  | cons a rest ih =>
    have hstep := stands_act_of_unheard h b a
    exact hstep.trans (ih (h.of_stands hstep))

/-- R5, R135: a presentation of an unheard door, in service or out of it, acts on nothing but the alarms and the indications. -/
theorem stands_present_of_unheard (h : Unheard [] d s) (b : Before) : Stands s (present d b s) := by
  cases hin : s.inService with
  | false =>
    have hsilent : present d b s = presentIB d b.position s := if_neg (by rw [hin]; decide)
    rw [hsilent]
    exact (near_presentIB (r := true) ..).stands
  | true =>
    obtain ⟨order, -, hpresent⟩ := present_serves (d := d) hin b
    have hchosen : Stands s { s with freeCount := s.freeCount + 1 } := ⟨rfl, rfl, rfl, rfl, rfl, rfl, rfl, rfl⟩
    rw [hpresent]
    generalize ({ s with freeCount := s.freeCount + 1 } : State) = v at hchosen
    have hacts := hchosen.trans (stands_acts_of_unheard (h.of_stands hchosen) b order)
    rw [settleRuns_of_deaf (h.deaf.of_gru hacts.gru)]
    exact hacts

end
end Sys2Proof.Proofs
end

section
/-! ## TABLE_WRITE: the write of a door record (O35) -/
namespace Sys2Proof.Proofs
open Sys2Proof Sys2Proof.Machine

set_option Elab.async false

section
variable {s t u : State} {d x : DoorIx} {b : Before} {l : List SlotIx} {new : DoorConfig} {k : AlarmKind} {n : Nat}

/-! ### Conditions that clear together (R4, R62) -/

theorem Cleared.clearAlarm (h : Cleared s k n) (hlaw : AlarmLaw s) (hk : k ≠ .LIST_FULL) (j : AlarmKind) (m : Nat) :
    Cleared (clearAlarm j m s) k n := by
  by_cases hpair : k = j ∧ n = m
  · obtain ⟨rfl, rfl⟩ := hpair
    exact cleared_clearAlarm hlaw hk
  · refine cleared_of_onlyAlarms (onlyAlarms_clearAlarm j m s) (fun hm => hpair ?_) hk h
    exact Prod.mk.inj (List.mem_singleton.mp hm)

theorem alarmFrame_clearDoors (d : DoorIx) (ks : List AlarmKind) (s : State) :
    AlarmFrame s (forEach ks (fun k => clearDoor k d) s) :=
  forEach_rel .refl .trans (fun _ _ => .clearDoor ..) ks s

theorem cleared_clearConditions {ks : List AlarmKind} (hlaw : AlarmLaw s) (hk : k ≠ .LIST_FULL) (h : k ∈ ks ∨ Cleared s k d.val) :
    Cleared (forEach ks (fun k => clearDoor k d) s) k d.val := by
  induction ks generalizing s with
  | nil => exact h.resolve_left List.not_mem_nil
  | cons j rest ih =>
    refine ih (alarmLaw_clearAlarm hlaw j d.val) ?_
    obtain hmem | hcleared := h
    · obtain rfl | hrest := List.mem_cons.mp hmem
      · exact .inr (cleared_clearAlarm hlaw hk)
      · exact .inl hrest
    · exact .inr (Cleared.clearAlarm hcleared hlaw hk j d.val)

theorem dismissDoor_rc (d : DoorIx) (s : State) : (dismissDoor d s).rc = s.rc := (alarmFrame_clearDoors d doorConditions s).rc
theorem dismissDoor_gru (d : DoorIx) (s : State) : (dismissDoor d s).gru = s.gru := (alarmFrame_clearDoors d doorConditions s).gru
theorem dismissDoor_oas (d : DoorIx) (s : State) : (dismissDoor d s).mc.oas[d] = ⟨0, false⟩ := by
  unfold dismissDoor State.zeroOas
  simp

/-- R4: a door that is made not present has none of its conditions. -/
theorem cleared_dismissDoor (hlaw : AlarmLaw s) (hk : k ∈ doorConditions) : Cleared (dismissDoor d s) k d.val :=
  cleared_clearConditions hlaw (by rintro rfl; exact absurd hk (by decide)) (.inl hk)

/-! ### The record, its reset and its conditions -/

theorem filter_resetDoor (d : DoorIx) (old new : Nat) (s : State) :
    (resetDoor d old new s).rc.filter = (resetFilters old new s).rc.filter := by
  unfold resetDoor endPollOf
  split <;> rfl

theorem moved_iff {old new : DoorConfig} : old.moved new = true ↔ old.node ≠ new.node ∨ old.present ≠ new.present := by
  unfold DoorConfig.moved
  simp

/-- R4, R138: a moved record's door has begun anew. -/
theorem doorSet_moved (h : s.tables.doors[d].moved new = true) :
    doorSet d s.tables.doors[d] new s
      = resetDoor d s.tables.doors[d].node new.node (setTables (withDoor s.tables d new) s) := if_pos h

theorem doorSet_kept (h : s.tables.doors[d].moved new = false) :
    doorSet d s.tables.doors[d] new s = setTables (withDoor s.tables d new) s := if_neg (by rw [h]; decide)

/-- A door write keeps the schedule, the runs, the passages and the alarms as far as its record and its reset. -/
theorem doorSet_eq (d : DoorIx) (new : DoorConfig) (s : State) :
    doorSet d s.tables.doors[d] new s = { s with tables := withDoor s.tables d new, rc := (doorSet d s.tables.doors[d] new s).rc } := by
  cases h : s.tables.doors[d].moved new with
  | true =>
    obtain ⟨v, hv⟩ := resetDoor_eq d s.tables.doors[d].node new.node (setTables (withDoor s.tables d new) s)
    rw [doorSet_moved h, hv]
    rfl
  | false =>
    rw [doorSet_kept h]
    rfl

theorem doorRecorded_stays (h : ¬(s.tables.doors[d].present = 1 ∧ new.present ≠ 1)) :
    doorRecorded d new s = doorSet d s.tables.doors[d] new s := if_neg h

theorem doorRecorded_leaves (h : s.tables.doors[d].present = 1 ∧ new.present ≠ 1) :
    doorRecorded d new s = dismissDoor d (doorSet d s.tables.doors[d] new s) := if_pos h

theorem doorRecorded_rc (d : DoorIx) (new : DoorConfig) (s : State) :
    (doorRecorded d new s).rc = (doorSet d s.tables.doors[d] new s).rc := by
  unfold doorRecorded
  simp only
  split
  · exact dismissDoor_rc ..
  · rfl

theorem doorRecorded_gru (d : DoorIx) (new : DoorConfig) (s : State) : (doorRecorded d new s).gru = s.gru := by
  have hset : (doorSet d s.tables.doors[d] new s).gru = s.gru := by rw [doorSet_eq]
  unfold doorRecorded
  simp only
  split
  · exact (dismissDoor_gru ..).trans hset
  · exact hset

/-! ### The write -/

/-- A door write up to the presentation: its record, its reset, its conditions and its compartments. -/
def doorRezoned (d : DoorIx) (new : DoorConfig) (s : State) : State :=
  let old := s.tables.doors[d]
  if old.rezoned new then recomputeComps (compsOf [old.compA, old.compB, new.compA, new.compB]) (doorRecorded d new s)
  else doorRecorded d new s

theorem al_recomputeComps (l : List CompIx) (s : State) : (recomputeComps l s).al = s.al := by
  obtain ⟨-, -, hstate⟩ := writeComps_eq l s
  rw [(recomputed_paced l s).state, hstate]

theorem stands_doorRezoned (d : DoorIx) (new : DoorConfig) (s : State) :
    Stands (doorRecorded d new s) (doorRezoned d new s) ∧ (doorRezoned d new s).al = (doorRecorded d new s).al := by
  unfold doorRezoned
  simp only
  split
  · exact ⟨(near_recomputeComps (r := true) (d := d) ..).stands, al_recomputeComps ..⟩
  · exact ⟨(Near.refl true d _).stands, rfl⟩

/-- A present door whose address changed is presented anew. -/
theorem doorWritten_presents (h : s.tables.doors[d].node ≠ new.node ∧ s.tables.doors[d].present = 1 ∧ new.present = 1) :
    doorWritten d s.tables.doors[d] new s = present d (before s d) (doorRezoned d new s) := if_pos h

theorem doorWritten_silent (h : ¬(s.tables.doors[d].node ≠ new.node ∧ s.tables.doors[d].present = 1 ∧ new.present = 1)) :
    doorWritten d s.tables.doors[d] new s = doorRezoned d new s := if_neg h

theorem doorRezoned_rc (d : DoorIx) (new : DoorConfig) (s : State) :
    (doorRezoned d new s).rc = (doorSet d s.tables.doors[d] new s).rc :=
  (stands_doorRezoned d new s).1.rc.trans (doorRecorded_rc ..)

theorem doorRezoned_gru (d : DoorIx) (new : DoorConfig) (s : State) : (doorRezoned d new s).gru = s.gru :=
  (stands_doorRezoned d new s).1.gru.trans (doorRecorded_gru ..)

theorem onlyOrders_of_rc (h : t.rc = s.rc) : OnlyOrders s t := by unfold OnlyOrders; rw [h]

/-- After its reset a door write writes nothing of RC but orders. -/
theorem onlyOrders_doorWritten (d : DoorIx) (new : DoorConfig) (s : State) :
    OnlyOrders (doorSet d s.tables.doors[d] new s) (settleRuns (doorWritten d s.tables.doors[d] new s)) := by
  have hzoned : OnlyOrders (doorSet d s.tables.doors[d] new s) (doorRezoned d new s) := onlyOrders_of_rc (doorRezoned_rc ..)
  have hwritten : OnlyOrders (doorRezoned d new s) (doorWritten d s.tables.doors[d] new s) := by
    by_cases h : s.tables.doors[d].node ≠ new.node ∧ s.tables.doors[d].present = 1 ∧ new.present = 1
    · rw [doorWritten_presents h]
      exact (PresentFrame.present ..).orders
    · rw [doorWritten_silent h]
  exact OnlyOrders.trans (OnlyOrders.trans hzoned hwritten) (RunFrame.settleRuns _).orders

/-- A door of no entry and no passage whose record moved is unheard where no run hears. -/
theorem unheard_doorRezoned (hmoved : s.tables.doors[d].moved new = true) (hentry : s.entry d = none) (hpassage : s.passage d = none)
    (hstays : ¬(s.tables.doors[d].present = 1 ∧ new.present ≠ 1)) (hdeaf : Deaf l s) : Unheard l d (doorRezoned d new s) := by
  obtain ⟨hstands, -⟩ := stands_doorRezoned d new s
  refine .of_stands ?_ hstands
  rw [doorRecorded_stays hstays]
  have hset := doorSet_eq d new s
  have hmov : MovedOnly d _ _ := resetDoor_movedOnly d s.tables.doors[d].node new.node (setTables (withDoor s.tables d new) s)
  have hposition : (doorSet d s.tables.doors[d] new s).position d = .UNKNOWN := by
    obtain ⟨v, hv⟩ := resetDoor_eq d s.tables.doors[d].node new.node (setTables (withDoor s.tables d new) s)
    rw [doorSet_moved hmoved, hv]
    unfold State.position
    simp [Reported.start]
  have hhandle : (doorSet d s.tables.doors[d] new s).handle d = .UNKNOWN := by
    rw [doorSet_moved hmoved]
    exact handle_resetDoor ..
  exact { entry := (entry_congr (by rw [hset]) d).trans hentry
          passage := (passage_of_mc_passages (by rw [hset]) d).trans hpassage
          position := hposition, handle := hhandle, deaf := hdeaf.of_gru (by rw [hset]) }

/-- R138: out of service, without a run that hears, or where the door is not presented, no order is queued. -/
theorem rc_doorWritten (hentry : s.entry d = none) (hpassage : s.passage d = none) (hresumed : s.gru.resumed = [])
    (h : s.inService = false ∨ NoRunHears s
      ∨ ¬(s.tables.doors[d].node ≠ new.node ∧ s.tables.doors[d].present = 1 ∧ new.present = 1)) :
    (settleRuns (doorWritten d s.tables.doors[d] new s)).rc = (doorSet d s.tables.doors[d] new s).rc := by
  have hzoned := doorRezoned_rc d new s
  have hgru := doorRezoned_gru d new s
  have settled {v : State} (hv : v.gru = s.gru) (hrc : v.rc = (doorRezoned d new s).rc) :
      (settleRuns v).rc = (doorSet d s.tables.doors[d] new s).rc := by
    rw [settleRuns_of_resumed (by rw [hv]; exact hresumed), hrc, hzoned]
  by_cases hpresents : s.tables.doors[d].node ≠ new.node ∧ s.tables.doors[d].present = 1 ∧ new.present = 1
  · have hstays : ¬(s.tables.doors[d].present = 1 ∧ new.present ≠ 1) := fun hc => hc.2 hpresents.2.2
    rw [doorWritten_presents hpresents]
    by_cases hin : s.inService = false
    · have hsilent : present d (before s d) (doorRezoned d new s) = presentIB d (before s d).position (doorRezoned d new s) := by
        refine if_neg ?_
        rw [inService_congr ((stands_doorRezoned d new s).1.cfs.trans ?_), hin]
        · exact Bool.false_ne_true
        · rw [doorRecorded_stays hstays, doorSet_eq]
      have hib := (near_presentIB (r := true) d (before s d).position (doorRezoned d new s)).stands
      rw [hsilent]
      exact settled (hib.gru.trans hgru) hib.rc
    · have hdeaf : NoRunHears s := (h.resolve_left hin).resolve_right fun hn => hn hpresents
      have hunheard := unheard_doorRezoned (l := []) (moved_iff.mpr (.inl hpresents.1)) hentry hpassage hstays
        ⟨hdeaf.1, hdeaf.2, hresumed⟩
      have hstands := stands_present_of_unheard hunheard (before s d)
      exact settled (hstands.gru.trans hgru) hstands.rc
  · rw [doorWritten_silent hpresents]
    exact settled hgru rfl

end
end Sys2Proof.Proofs
end

section
/-! ## TABLE_WRITE: the door record's clause (O35) -/
namespace Sys2Proof.Proofs
open Sys2Proof Sys2Proof.Machine

set_option Elab.async false

section
variable {s t u : State} {d : DoorIx} {new : DoorConfig}

/-! ### What RC holds after the record and its reset (R4, R138) -/

/-- R4, R138: what a reset of the door leaves of the RC that stood. -/
structure DoorBegun (d : DoorIx) (old new : Nat) (r : Rc) (t : State) : Prop where
  reported : t.rc.reported[d] = Reported.start
  oldNode : t.filterAt old = none
  newNode : t.filterAt new = none
  poll : r.polled = some d → t.rc.pollEnded = true
  orders : t.rc.orders = r.orders.filter fun o => decide (o.door ≠ d)

theorem doorBegun_resetDoor (d : DoorIx) (old new : Nat) (s : State) : DoorBegun d old new s.rc (resetDoor d old new s) := by
  obtain ⟨hold, hnew⟩ := filterAt_resetFilters old new s
  have hfilter := filter_resetDoor d old new s
  obtain ⟨v, hv⟩ := resetDoor_eq d old new s
  exact { reported := by rw [hv]; simp
          oldNode := (filterAt_congr hfilter old).trans hold
          newNode := (filterAt_congr hfilter new).trans hnew
          poll := fun h => by rw [hv]; simp [h]
          orders := resetDoor_orders .. }

/-- What a door write leaves of RC, whether the record moved or not. -/
structure DoorAside (d : DoorIx) (r q : Rc) : Prop where
  reported : ∀ x : DoorIx, x ≠ d → q.reported[x] = r.reported[x]
  hpus : q.hpus = r.hpus
  txSeq : q.txSeq = r.txSeq
  loop : q.loop = r.loop

theorem doorAside_doorSet (d : DoorIx) (new : DoorConfig) (s : State) : DoorAside d s.rc (doorSet d s.tables.doors[d] new s).rc := by
  cases h : s.tables.doors[d].moved new with
  | true =>
    obtain ⟨v, hv⟩ := resetDoor_eq d s.tables.doors[d].node new.node (setTables (withDoor s.tables d new) s)
    rw [doorSet_moved h, hv]
    exact ⟨fun x hx => by simp [setTables, Fin.val_ne_iff.mpr (Ne.symm hx)], rfl, rfl, rfl⟩
  | false =>
    rw [doorSet_kept h]
    exact ⟨fun _ _ => rfl, rfl, rfl, rfl⟩

theorem DoorAside.of_orders {r : Rc} (h : DoorAside d r t.rc) (ho : OnlyOrders t u) : DoorAside d r u.rc := by
  unfold OnlyOrders at ho
  exact ⟨fun x hx => by rw [ho]; exact h.reported x hx, by rw [ho]; exact h.hpus, by rw [ho]; exact h.txSeq, by rw [ho]; exact h.loop⟩

theorem DoorBegun.of_orders {r : Rc} {old new : Nat} (h : DoorBegun d old new r t) (ho : OnlyOrders t u) :
    u.rc.reported[d] = Reported.start ∧ u.filterAt old = none ∧ u.filterAt new = none ∧ (r.polled = some d → u.rc.pollEnded = true) := by
  unfold OnlyOrders at ho
  have hfilter : u.rc.filter = t.rc.filter := by rw [ho]
  exact ⟨by rw [ho]; exact h.reported, (filterAt_congr hfilter old).trans h.oldNode, (filterAt_congr hfilter new).trans h.newNode,
    fun hp => by rw [ho]; exact h.poll hp⟩

/-! ### The conditions of a door that leaves (R4, R123) -/

theorem doorWritten_leaves (hlaw : AlarmLaw s) (hresumed : s.gru.resumed = [])
    (h : s.tables.doors[d].present = 1 ∧ new.present ≠ 1) :
    (∀ k ∈ doorConditions, Cleared (settleRuns (doorWritten d s.tables.doors[d] new s)) k d.val)
    ∧ (settleRuns (doorWritten d s.tables.doors[d] new s)).mc.oas[d] = ⟨0, false⟩ := by
  have hgru := doorRezoned_gru d new s
  obtain ⟨hstands, hal⟩ := stands_doorRezoned d new s
  rw [doorWritten_silent fun hp => h.2 hp.2.2, settleRuns_of_resumed (by rw [hgru]; exact hresumed)]
  have hsetlaw : AlarmLaw (doorSet d s.tables.doors[d] new s) := by
    rw [doorSet_eq]
    exact (alarmLaw_congr rfl).mpr hlaw
  have hrecorded := doorRecorded_leaves h
  refine ⟨fun k hk => (cleared_congr hal).mpr ?_, ?_⟩
  · rw [hrecorded]
    exact cleared_dismissDoor hsetlaw hk
  · rw [hstands.mc, hrecorded]
    exact dismissDoor_oas ..

end

/-- R173: a door write that no step refuses. -/
theorem exec_doorWrite {p : PortIx} {index : Byte} {image : List Byte} {d : DoorIx} {s : State} (h : ManagesStore s p)
    (hd : index.toNat = d.val) (hlen : image.length = 16) (href : (DoorConfig.decode image).refused = false)
    (hentry : s.entry d = none) (hpassage : s.passage d = none)
    (hcross : s.inService = true →
      crossDoor { s.tables with doors := s.tables.doors.set d (DoorConfig.decode image).clamp } d = none) :
    ∃ clamped, exec (.tableWriteDoor p index image) s = .next (answerDone p 10 clamped []
      (settleRuns (doorWritten d s.tables.doors[d] (DoorConfig.decode image).clamp (acceptFrame p s)))) := by
  have hfree : doorInUse (acceptFrame p s) d = false :=
    Bool.eq_false_iff.mpr fun hin => (doorInUse_iff (s := s).mp hin).elim (· hentry) (· hpassage)
  refine ⟨decide ((DoorConfig.decode image).clamp ≠ DoorConfig.decode image), (exec_writeDoor h).trans (congrArg _ ?_)⟩
  rw [if_pos (wfImage_iff.mpr hlen), writeDoor_eq hd]
  exact decideWrite_taken hfree href hcross

/-- R4, R138: what the effects of a door write reset. -/
structure DoorWritten (d : DoorIx) (new : DoorConfig) (s t : State) : Prop where
  aside : DoorAside d s.rc t.rc
  moved : s.tables.doors[d].moved new = true → t.rc.reported[d] = Reported.start ∧ t.filterAt s.tables.doors[d].node = none
    ∧ t.filterAt new.node = none ∧ (s.rc.polled = some d → t.rc.pollEnded = true)
  orders : s.tables.doors[d].moved new = true →
    s.inService = false ∨ NoRunHears s ∨ ¬(s.tables.doors[d].present = 1 ∧ new.present = 1) →
    t.rc.orders = s.rc.orders.filter fun o => decide (o.door ≠ d)
  kept : s.tables.doors[d].moved new = false → t.rc = s.rc
  leaves : s.tables.doors[d].present = 1 ∧ new.present ≠ 1 →
    (∀ k ∈ doorConditions, Cleared t k d.val) ∧ t.mc.oas[d] = ⟨0, false⟩

theorem doorWritten_written {d : DoorIx} {s : State} (new : DoorConfig) (hentry : s.entry d = none) (hpassage : s.passage d = none)
    (hlaw : AlarmLaw s) (hresumed : s.gru.resumed = []) :
    DoorWritten d new s (settleRuns (doorWritten d s.tables.doors[d] new s)) := by
  have horders := onlyOrders_doorWritten d new s
  have hrc := rc_doorWritten (new := new) hentry hpassage hresumed
  have haside := doorAside_doorSet d new s
  have hbegun (hm : s.tables.doors[d].moved new = true) :
      DoorBegun d s.tables.doors[d].node new.node s.rc (doorSet d s.tables.doors[d] new s) := by
    rw [doorSet_moved hm]
    exact doorBegun_resetDoor d _ _ (setTables (withDoor s.tables d new) s)
  exact { aside := haside.of_orders horders
          moved := fun hm => (hbegun hm).of_orders horders
          orders := fun hm h => (congrArg Rc.orders (hrc (h.imp_right (Or.imp_right fun hn hc => hn hc.2)))).trans (hbegun hm).orders
          kept := fun hm => by
            have hnode : ¬s.tables.doors[d].node ≠ new.node := fun hn =>
              Bool.false_ne_true (hm.symm.trans (moved_iff.mpr (.inl hn)))
            rw [hrc (.inr (.inr fun hc => hnode hc.1)), doorSet_kept hm]
            rfl
          leaves := doorWritten_leaves hlaw hresumed }

end Sys2Proof.Proofs
end

section
/-! ## TABLE_WRITE: the write of an HPU record (O35) -/
namespace Sys2Proof.Proofs
open Sys2Proof Sys2Proof.Machine

set_option Elab.async false

section
variable {s t u : State} {h : HpuIx} {new : HpuConfig}

theorem pass_of_no_ready (hnone : ∀ d : DoorIx, entryIn s h .READY d = false) : Machine.pass h s = s := by
  have hempty : readyOn s h = [] := List.eq_nil_iff_forall_not_mem.mpr fun d hd => by
    rw [mem_readyOn, hnone d] at hd
    cases hd
  unfold Machine.pass
  rw [hempty]
  rfl

/-- R52: with no READY entry a new E takes a pass of nothing. -/
theorem al_recomputeE_idle (hnone : ∀ d : DoorIx, entryIn s h .READY d = false) : (recomputeE h s).al = s.al := by
  unfold recomputeE
  simp only
  split
  · rfl
  · have hpass := congrArg State.al (pass_of_no_ready (s := s.modFlow h fun f => { f with capacityE := effectiveCapacity s h }) hnone)
    exact hpass

/-- An HPU write up to its conditions. -/
def hpuRecorded (h : HpuIx) (new : HpuConfig) (s : State) : State :=
  let t := setTables { s.tables with hpus := put s.tables.hpus h new } s
  if s.tables.hpus[h].moved new then (resetFilters s.tables.hpus[h].node new.node t).modHpu h fun _ => HpuReported.start else t

/-- An HPU write up to the recomputation of E. -/
def hpuDismissed (h : HpuIx) (new : HpuConfig) (s : State) : State :=
  if s.tables.hpus[h].present = 1 ∧ new.present ≠ 1 then dismissHpu h (hpuRecorded h new s) else hpuRecorded h new s

theorem hpuWritten_eq (h : HpuIx) (new : HpuConfig) (s : State) :
    hpuWritten h s.tables.hpus[h] new s = recomputeE h (hpuDismissed h new s) := rfl

theorem hpuMoved_iff {old new : HpuConfig} : old.moved new = true ↔ old.node ≠ new.node ∨ old.present ≠ new.present := by
  unfold HpuConfig.moved
  simp

theorem hpuRecorded_eq (h : HpuIx) (new : HpuConfig) (s : State) : ∃ v, hpuRecorded h new s = { s with
    tables := { s.tables with hpus := put s.tables.hpus h new }
    rc := { s.rc with filter := v, hpus := (hpuRecorded h new s).rc.hpus } } := by
  unfold hpuRecorded resetFilters
  simp only
  split
  · obtain ⟨v, hv⟩ := setFilter_eq s.tables.hpus[h].node none (setTables { s.tables with hpus := put s.tables.hpus h new } s)
    obtain ⟨w, hw⟩ := setFilter_eq new.node none
      ((setTables { s.tables with hpus := put s.tables.hpus h new } s).setFilter s.tables.hpus[h].node none)
    refine ⟨w, ?_⟩
    rw [hw, hv]
    rfl
  · exact ⟨s.rc.filter, rfl⟩

/-- R62, R138: what an HPU write resets of RC. -/
theorem hpuRecorded_moved (hm : s.tables.hpus[h].moved new = true) :
    (hpuRecorded h new s).rc.hpus[h] = HpuReported.start ∧ (hpuRecorded h new s).filterAt s.tables.hpus[h].node = none
    ∧ (hpuRecorded h new s).filterAt new.node = none := by
  have hrec : hpuRecorded h new s = (resetFilters s.tables.hpus[h].node new.node
      (setTables { s.tables with hpus := put s.tables.hpus h new } s)).modHpu h fun _ => HpuReported.start := if_pos hm
  rw [hrec]
  refine ⟨by simp, ?_⟩
  exact filterAt_resetFilters s.tables.hpus[h].node new.node (setTables { s.tables with hpus := put s.tables.hpus h new } s)

theorem hpuRecorded_kept (hm : s.tables.hpus[h].moved new = false) : (hpuRecorded h new s).rc = s.rc := by
  have hrec : hpuRecorded h new s = setTables { s.tables with hpus := put s.tables.hpus h new } s := if_neg (by rw [hm]; decide)
  rw [hrec]
  rfl

theorem dismissHpu_frame (h : HpuIx) (s : State) :
    AlarmFrame (s.modFlow h fun f => { f with delayAlarm := false }) (dismissHpu h s) :=
  ((AlarmFrame.clearAlarm ..).trans (.clearAlarm ..)).trans (.clearAlarm ..)

/-- R62: an HPU that is made not present has none of its conditions. -/
theorem cleared_dismissHpu (hlaw : AlarmLaw s) : Cleared (dismissHpu h s) .HPU_FAILED h.val
    ∧ Cleared (dismissHpu h s) .HPU_SILENT h.val ∧ Cleared (dismissHpu h s) .ADMISSION_DELAY h.val := by
  unfold dismissHpu
  have h0 : AlarmLaw (s.modFlow h fun f => { f with delayAlarm := false }) := (alarmLaw_congr rfl).mpr hlaw
  generalize s.modFlow h (fun f => { f with delayAlarm := false }) = u at h0
  have h1 := alarmLaw_clearAlarm h0 .HPU_FAILED h.val
  have hfailed := cleared_clearAlarm (k := .HPU_FAILED) (x := h.val) h0 (by decide)
  generalize clearAlarm .HPU_FAILED h.val u = v at h1 hfailed
  have h2 := alarmLaw_clearAlarm h1 .HPU_SILENT h.val
  have hsilent := cleared_clearAlarm (k := .HPU_SILENT) (x := h.val) h1 (by decide)
  exact ⟨Cleared.clearAlarm (Cleared.clearAlarm hfailed h1 (by decide) _ _) h2 (by decide) _ _,
    Cleared.clearAlarm hsilent h2 (by decide) _ _, cleared_clearAlarm h2 (by decide)⟩

/-- What the write of an HPU record leaves before E is recomputed. -/
theorem hpuDismissed_frame (h : HpuIx) (new : HpuConfig) (s : State) :
    (hpuDismissed h new s).rc = (hpuRecorded h new s).rc ∧ (hpuDismissed h new s).gru = s.gru
    ∧ (∀ d : DoorIx, (hpuDismissed h new s).entry d = s.entry d) ∧ (hpuDismissed h new s).tables.doors = s.tables.doors := by
  obtain ⟨v, hv⟩ := hpuRecorded_eq h new s
  have hgru : (hpuRecorded h new s).gru = s.gru := by rw [hv]
  have hcs : (hpuRecorded h new s).cs = s.cs := by rw [hv]
  have hdoors : (hpuRecorded h new s).tables.doors = s.tables.doors := by rw [hv]
  unfold hpuDismissed
  split
  · have frame := dismissHpu_frame h (hpuRecorded h new s)
    refine ⟨frame.rc, frame.gru.trans hgru, fun d => ?_, (congrArg Tables.doors frame.tables).trans hdoors⟩
    have hentries : (dismissHpu h (hpuRecorded h new s)).cs.entries = (hpuRecorded h new s).cs.entries := by rw [frame.cs]; simp
    exact entry_congr (hentries.trans (congrArg Cs.entries hcs)) d
  · exact ⟨rfl, hgru, fun d => entry_congr (by rw [hcs]) d, hdoors⟩

/-- R62, R138: what the effects of an HPU write leave. -/
structure HpuWritten (h : HpuIx) (new : HpuConfig) (s t : State) : Prop where
  moved : s.tables.hpus[h].moved new = true → t.rc.hpus[h] = HpuReported.start ∧ t.filterAt s.tables.hpus[h].node = none
    ∧ t.filterAt new.node = none
  kept : s.tables.hpus[h].moved new = false → t.rc.hpus = s.rc.hpus ∧ t.rc.filter = s.rc.filter
  leaves : s.tables.hpus[h].present = 1 ∧ new.present ≠ 1 →
    Cleared t .HPU_FAILED h.val ∧ Cleared t .HPU_SILENT h.val ∧ Cleared t .ADMISSION_DELAY h.val
  capacity : t.cs.flow[h].capacityE = effectiveCapacity t h
  reported : t.rc.reported = s.rc.reported

theorem hpuWritten_written (new : HpuConfig) (hlaw : AlarmLaw s) (hresumed : s.gru.resumed = []) (hfield : HpuFieldLaw s)
    (huse : hpuInUse s h = false) : HpuWritten h new s (settleRuns (hpuWritten h s.tables.hpus[h] new s)) := by
  obtain ⟨hrc, hgru, hentry, hdoors⟩ := hpuDismissed_frame h new s
  have hnone (d : DoorIx) : entryIn (hpuDismissed h new s) h .READY d = false := by
    rw [← not_readyOn_of_hpuInUse hfield huse d]
    unfold entryIn State.hpuOf
    rw [hentry, hdoors]
  have hal := al_recomputeE_idle hnone
  have hends := recomputeE_ends h (hpuDismissed h new s)
  have hframe := ScheduleFrame.recomputeE h (hpuDismissed h new s)
  rw [hpuWritten_eq, settleRuns_of_resumed (by rw [hframe.gru, hgru]; exact hresumed)]
  obtain ⟨v, hv⟩ := hpuRecorded_eq h new s
  have horders : OnlyOrders (hpuRecorded h new s) (recomputeE h (hpuDismissed h new s)) :=
    OnlyOrders.trans (t := hpuDismissed h new s) (onlyOrders_of_rc hrc) hframe.orders
  obtain ⟨hhpus, hreported, -, hfilter, -⟩ := rc_of_orders horders
  exact { moved := fun hm => by
            obtain ⟨hstart, hold, hnew⟩ := hpuRecorded_moved hm
            exact ⟨by rw [hhpus]; exact hstart, (filterAt_congr hfilter _).trans hold, (filterAt_congr hfilter _).trans hnew⟩
          kept := fun hm => by
            rw [hhpus, hfilter, hpuRecorded_kept hm]
            exact ⟨rfl, rfl⟩
          leaves := fun hgone => by
            have hlaw' : AlarmLaw (hpuRecorded h new s) := (alarmLaw_congr (by rw [hv])).mpr hlaw
            have hdismissed : hpuDismissed h new s = dismissHpu h (hpuRecorded h new s) := if_pos hgone
            obtain ⟨hfailed, hsilent, hdelay⟩ := cleared_dismissHpu (h := h) hlaw'
            rw [← hdismissed] at hfailed hsilent hdelay
            exact ⟨(cleared_congr hal).mpr hfailed, (cleared_congr hal).mpr hsilent, (cleared_congr hal).mpr hdelay⟩
          capacity := hends.capacity
          reported := by rw [hreported, hv] }

end
end Sys2Proof.Proofs
end

section
/-! ## TABLE_WRITE: the write of a permit row (O35) -/
namespace Sys2Proof.Proofs
open Sys2Proof Sys2Proof.Machine

set_option Elab.async false

section
variable {s t u v : State} {p q x : PortIx} {old new : PermitRow}

/-! ### The heartbeat state of the row (R125) -/

/-- What the write of a row leaves beside the ports: the heartbeat window of the port, and STATION_SILENT. -/
structure Rebeaten (q : PortIx) (old new : PermitRow) (s t : State) : Prop where
  state : t = { s with ms := t.ms, al := t.al, sp := t.sp, ib := t.ib }
  pacing : OnlyPacing s t
  beats : old.hbRequired ≠ new.hbRequired → t.sp[q].hbElapsed = 0 ∧ t.sp[q].silent = false
  kept : old.hbRequired = new.hbRequired → t.sp[q].hbElapsed = s.sp[q].hbElapsed ∧ t.sp[q].silent = s.sp[q].silent
  cleared : AlarmLaw s → old.hbRequired = 1 → new.hbRequired ≠ 1 → Cleared t .STATION_SILENT q.val
  alarms : OnlyAlarms s t [(.STATION_SILENT, q.val)]
  count : otherCount t.al.records ≤ otherCount s.al.records
  law : AlarmLaw s → AlarmLaw t
  grown : Grown 2 s t
  summaries : Kept s t

theorem kept_of_queues (hqueue : ∀ q : PortIx, t.sp[q].queue = s.sp[q].queue) (hib : t.ib = s.ib) : Kept s t := by
  refine ⟨fun q => (congrArg List.length (hqueue q)).ge, fun q _ => ⟨?_, by rw [hib]⟩, by unfold OnlyPacing; rw [hib]⟩
  unfold summariesAt
  rw [hqueue q]

theorem heartbeatWritten_rebeaten (q : PortIx) (old new : PermitRow) (s : State) :
    Rebeaten q old new s (heartbeatWritten q old new s) := by
  unfold heartbeatWritten
  by_cases hsame : old.hbRequired = new.hbRequired
  · rw [if_pos hsame]
    exact { state := rfl, pacing := rfl, beats := fun h => absurd hsame h, kept := fun _ => ⟨rfl, rfl⟩
            cleared := fun _ h h' => absurd (hsame.symm.trans h) h', alarms := onlyAlarms_refl .., count := le_rfl, law := id
            grown := .refl s, summaries := sent_kept.refl s }
  rw [if_neg hsame]
  simp only
  have hqueue (x : PortIx) : (s.modPort q fun t => { t with hbElapsed := 0, silent := false }).sp[x].queue = s.sp[x].queue := by
    simp only [State.modPort_sp, Fin.getElem_fin, getElem_upd]
    split
    · next hx => simp only [hx]
    · rfl
  have hself : (s.modPort q fun t => { t with hbElapsed := 0, silent := false }).sp[q]
      = { s.sp[q] with hbElapsed := 0, silent := false } := by simp
  have hstate : (s.modPort q fun t => { t with hbElapsed := 0, silent := false })
      = { s with sp := (s.modPort q fun t => { t with hbElapsed := 0, silent := false }).sp } := rfl
  have hal : (s.modPort q fun t => { t with hbElapsed := 0, silent := false }).al = s.al := rfl
  have hib : (s.modPort q fun t => { t with hbElapsed := 0, silent := false }).ib = s.ib := rfl
  generalize s.modPort q (fun t => { t with hbElapsed := 0, silent := false }) = w at hqueue hself hstate hal hib
  have hlaw : AlarmLaw s → AlarmLaw w := (alarmLaw_congr (congrArg Al.records hal)).mpr
  have hfirst : OnlyAlarms s w [(.STATION_SILENT, q.val)] := onlyAlarms_of_records (congrArg Al.records hal) _
  have hkept : Kept s w := kept_of_queues hqueue hib
  have hgrown : Grown 0 s w := ⟨fun x => (congrArg List.length (hqueue x)).le⟩
  by_cases hold : old.hbRequired = 1
  · rw [if_pos hold]
    have frame := AlarmFrame.clearAlarm .STATION_SILENT q.val w
    have hclear := state_of_alarmFrame frame
    exact { state := by rw [hclear, hstate]
            pacing := by
              have := frame.pacing
              unfold OnlyPacing at this ⊢
              rw [this, hib]
            beats := fun _ => by rw [frame.queues q, hself]; exact ⟨rfl, rfl⟩
            kept := fun h => absurd h hsame
            cleared := fun h _ _ => cleared_clearAlarm (hlaw h) (by decide)
            alarms := onlyAlarms_trans hfirst (onlyAlarms_clearAlarm ..)
            count := (otherCount_clearAlarm ..).trans (by rw [hal])
            law := fun h => alarmLaw_clearAlarm (hlaw h) _ _
            grown := (hgrown.trans (Grown.clearAlarm ..)).mono (by omega)
            summaries := sent_kept.trans hkept (sent_kept.clearAlarm ..) }
  · rw [if_neg hold]
    exact { state := by rw [hstate]
            pacing := by unfold OnlyPacing; rw [hib]
            beats := fun _ => by rw [hself]; exact ⟨rfl, rfl⟩
            kept := fun h => absurd h hsame
            cleared := fun _ h => absurd h hold
            alarms := hfirst
            count := by rw [hal]
            law := hlaw
            grown := hgrown.mono (by omega)
            summaries := hkept }

/-! ### The frames and the summaries of an evaluation of bridge loss (R126) -/

/-- A pass of each HPU of a list makes two frames an HPU at most. -/
theorem grown_passes (l : List HpuIx) (s : State) : Grown (2 * l.length) s (forEach l Machine.pass s) := by
  induction l generalizing s with
  | nil => exact .refl s
  | cons h rest ih =>
    have hstep := (DelayBounded.pass h s).grown_two.trans (ih (Machine.pass h s))
    exact hstep.mono (by rw [List.length_cons]; omega)

theorem grown_detachTag (number : Byte) (s : State) : Grown 16 s (detachTag number s) := by
  have hsp (l : List DoorIx) : (forEach l dropTag s).sp = s.sp := by
    refine forEach_rel (R := fun a b => b.sp = a.sp) (fun _ => rfl) (fun h g => g.trans h) (fun d u => ?_) l s
    unfold dropTag
    split <;> rfl
  unfold detachTag request
  refine ((grown_passes _ _).mono ?_).after (hsp _)
  have hlen : (hpusOf s (matching s (tagged number))).length ≤ allHpus.length := List.length_filter_le ..
  have height : allHpus.length = 8 := List.length_finRange
  omega

theorem grown_launchSystem (cls : Nat) (o : RunOrigin) (hsettled : s.gru.resumed = []) : Grown 16 s (launchSystem cls o s) := by
  have htaken (w : State) : (takeSlot slotS .ALL .CLOSE cls .A o w).sp = w.sp := rfl
  unfold launchSystem
  rw [settleRuns_of_resumed hsettled]
  simp only
  split
  · refine ⟨fun q => ?_⟩
    rw [htaken]
    exact (grown_detachTag ..).port q
  · exact .of_sp (htaken s)

theorem resumed_evalBridge (hsettled : s.gru.resumed = []) : (evalBridge s).gru.resumed = [] ∧ Grown 17 s (evalBridge s) := by
  have hlaunched (u : State) (hu : u.gru.resumed = []) : (enterClosedFromLocal u).gru.resumed = []
      ∧ Grown 16 u (enterClosedFromLocal u) :=
    ⟨(congrArg Gru.resumed (launchSystem_ends 2 .MODE (s := setMode .CLOSED u) hu).gru).trans hu,
      (grown_launchSystem 2 .MODE (s := setMode .CLOSED u) hu).after rfl⟩
  have hraised := AlarmFrame.raiseAlarm .BRIDGE_LOST noSubject (setBridgeLost true s)
  have hraisedGrown : Grown 1 s (lossRaised s) := (Grown.raiseAlarm ..).after rfl
  have hclear := AlarmFrame.clearAlarm .BRIDGE_LOST noSubject (setBridgeLost false s)
  have hclearGrown : Grown 2 s (clearAlarm .BRIDGE_LOST noSubject (setBridgeLost false s)) := (Grown.clearAlarm ..).after rfl
  have hraisedGru : (lossRaised s).gru.resumed = [] := (congrArg Gru.resumed hraised.gru).trans hsettled
  unfold evalBridge
  split
  · exact ⟨hsettled, .refl s⟩
  split
  · split
    · exact ⟨hsettled, .refl s⟩
    · unfold loseBridge
      simp only
      split
      · obtain ⟨hresumed, hgrown⟩ := hlaunched (lossRaised s) hraisedGru
        exact ⟨hresumed, hraisedGrown.trans hgrown⟩
      · exact ⟨hraisedGru, hraisedGrown.mono (by omega)⟩
  · split
    · exact ⟨(congrArg Gru.resumed hclear.gru).trans hsettled, hclearGrown.mono (by omega)⟩
    · exact ⟨hsettled, .refl s⟩

theorem kept_evalBridge (s : State) : Kept s (evalBridge s) := by
  have hset (b : Bool) : Kept s (setBridgeLost b s) := sent_kept.still rfl rfl
  unfold evalBridge loseBridge
  refine sent_kept.ite (sent_kept.refl s) (sent_kept.ite (sent_kept.ite (sent_kept.refl s) ?_)
    (sent_kept.ite (sent_kept.trans (hset false) (sent_kept.clearAlarm ..)) (sent_kept.refl s)))
  have hraised : Kept s (lossRaised s) := sent_kept.trans (hset true) (sent_kept.raiseAlarm ..)
  exact sent_kept.ite (sent_kept.trans hraised (sent_kept.presented.toCarried.enterClosedFromLocal _)) hraised

/-- Out of service no bridge loss is judged. -/
theorem evalBridge_unserved (h : s.inService = false) : evalBridge s = s := if_pos h

/-! ### The pacing of the row (R150) -/

/-- What the write of a row leaves of the pacing of its port. -/
structure Repaced (q : PortIx) (old new : PermitRow) (s t : State) : Prop where
  state : t = { s with sp := t.sp, ib := t.ib, freeCount := t.freeCount }
  queues : OnlyQueues s t
  pacing : OnlyPacing s t
  others : ∀ x : PortIx, x ≠ q → t.sp[x].queue = s.sp[x].queue ∧ t.ib.pacing[x] = s.ib.pacing[x]
  kept : new.summaryMask = old.summaryMask → t = s
  stopped : new.summaryMask ≠ old.summaryMask → new.summaryMask = 0 →
    t.sp[q].queue = s.sp[q].queue ∧ t.ib.pacing[q] = ⟨0, false⟩
  unserved : new.summaryMask ≠ old.summaryMask → new.summaryMask ≠ 0 → s.inService = false → t = s
  held : new.summaryMask ≠ old.summaryMask → new.summaryMask ≠ 0 → s.inService = true → old.summaryMask ≠ 0 →
    s.ib.pacing[q].elapsed < 5 → t.sp[q].queue = s.sp[q].queue ∧ t.ib.pacing[q] = ⟨s.ib.pacing[q].elapsed, true⟩
  sent : new.summaryMask ≠ old.summaryMask → new.summaryMask ≠ 0 → s.inService = true →
    (old.summaryMask ≠ 0 → 5 ≤ s.ib.pacing[q].elapsed) → s.sp[q].queue.length < queueSize →
    t.sp[q].queue = s.sp[q].queue ++ [zoneSummary s q] ∧ t.ib.pacing[q] = ⟨0, false⟩

theorem pacingWritten_repaced (q : PortIx) (old new : PermitRow) (s : State) : Repaced q old new s (pacingWritten q old new s) := by
  unfold pacingWritten
  by_cases hsame : old.summaryMask = new.summaryMask
  · rw [if_pos hsame]
    exact ⟨rfl, fun _ => rfl, rfl, fun _ _ => ⟨rfl, rfl⟩, fun _ => rfl, fun h => absurd hsame.symm h, fun h => absurd hsame.symm h,
      fun h => absurd hsame.symm h, fun h => absurd hsame.symm h⟩
  rw [if_neg hsame]
  by_cases hzero : new.summaryMask = 0
  · rw [if_pos hzero]
    refine { state := rfl, queues := fun _ => rfl, pacing := rfl, others := fun x hx => ⟨rfl, ?_⟩, kept := fun h => absurd h.symm hsame
             stopped := fun _ _ => ⟨rfl, ?_⟩, unserved := fun _ h => absurd hzero h, held := fun _ h => absurd hzero h
             sent := fun _ h => absurd hzero h }
    · have hval : q.val ≠ x.val := fun hv => hx (Fin.ext hv).symm
      simp [State.setPacing, hval]
    · simp [State.setPacing]
  rw [if_neg hzero]
  cases hin : s.inService with
  | false =>
    rw [if_pos rfl]
    exact ⟨rfl, fun _ => rfl, rfl, fun _ _ => ⟨rfl, rfl⟩, fun _ => rfl, fun _ h => absurd h hzero, fun _ _ _ => rfl,
      fun _ _ h => absurd (hin.symm.trans h) (by decide), fun _ _ h => absurd (hin.symm.trans h) (by decide)⟩
  | true =>
    rw [if_neg (by decide)]
    by_cases hold : old.summaryMask = 0
    · rw [if_pos hold]
      have hsent := sendSummary_sent q s
      refine { state := hsent.state, queues := hsent.queues, pacing := hsent.pacing, others := fun x hx => ?_
               kept := fun h => absurd h.symm hsame, stopped := fun _ h => absurd h hzero, unserved := fun _ _ h => absurd (hin.symm.trans h) (by decide)
               held := fun _ _ _ h => absurd hold h, sent := fun _ _ _ _ hroom => ?_ }
      · have hnot : x ∉ [q] := fun hm => hx (List.mem_singleton.mp hm)
        exact ⟨(hsent.queue x).trans (if_neg hnot), hsent.others x hnot⟩
      · have hmem : q ∈ [q] := List.mem_singleton.mpr rfl
        refine ⟨?_, hsent.begun q hmem hroom⟩
        rw [hsent.queue q, if_pos hmem, placedIn_of_room hroom]
    · rw [if_neg hold]
      have hpaced := paced_one q s
      have hmem : q ∈ [q] := List.mem_singleton.mpr rfl
      refine { state := hpaced.state, queues := hpaced.queues, pacing := hpaced.pacing
               others := fun x hx => hpaced.others x fun hm => hx (List.mem_singleton.mp hm)
               kept := fun h => absurd h.symm hsame, stopped := fun _ h => absurd h hzero, unserved := fun _ _ h => absurd (hin.symm.trans h) (by decide)
               held := fun _ _ _ _ hlt => (hpaced.handed q hmem).held hlt, sent := fun _ _ _ hle hroom => ?_ }
      obtain ⟨hqueue, -, hbegun⟩ := (hpaced.handed q hmem).sent (hle hold)
      exact ⟨hqueue.trans (placedIn_of_room hroom), hbegun hroom⟩

end
end Sys2Proof.Proofs
end

section
/-! ## TABLE_WRITE: the permit row's clause (O35) -/
namespace Sys2Proof.Proofs
open Sys2Proof Sys2Proof.Machine

set_option Elab.async false

section
variable {s t a b c : State} {p q x : PortIx} {old new : PermitRow}

/-- The RESULT of a command joins the queues with room, and leaves their summaries and their pacing. -/
theorem answered_with_room {clamped : Bool} {data : List Byte} {kind : Nat} (h : c.sp[x].queue.length < queueSize) :
    summariesAt (answerDone p kind clamped data c) x = summariesAt c x
    ∧ (answerDone p kind clamped data c).ib.pacing[x] = c.ib.pacing[x] :=
  ⟨summariesAt_place_result rfl h, pacing_place_of_room h⟩

/-! ### The effects of the write, one after another -/

/-- The heartbeat state of the row is written, then bridge loss is judged, then the pacing is. -/
structure PermitChain (q : PortIx) (old new : PermitRow) (s a b c : State) : Prop where
  beat : Rebeaten q old new s a
  bridge : b = evalBridge a
  paced : Repaced q old new b c

theorem permitWritten_chain (q : PortIx) (old new : PermitRow) (s : State) :
    ∃ a b, PermitChain q old new (setTables { s.tables with permits := put s.tables.permits q new } s) a b
      (permitWritten q old new s) :=
  ⟨_, _, heartbeatWritten_rebeaten .., rfl, pacingWritten_repaced ..⟩

/-- What the evaluation of bridge loss keeps, in service or out of it. -/
theorem evalBridge_keeps (a : State) : OnlyQueues a (evalBridge a) ∧ (evalBridge a).tables = a.tables ∧ (evalBridge a).cfs = a.cfs
    ∧ ∀ n, Cleared a .STATION_SILENT n → Cleared (evalBridge a) .STATION_SILENT n := by
  cases hin : a.inService with
  | false =>
    rw [evalBridge_unserved hin]
    exact ⟨fun _ => rfl, rfl, rfl, fun _ => id⟩
  | true =>
    have h := evalBridge_evaluated hin
    exact ⟨h.queues, h.tables, h.cfs, fun n => (h.others .STATION_SILENT n (by decide) (by decide)).2⟩

/-! ### What the write leaves -/

/-- R125, R126: bridge loss after a permit-row write in service. -/
theorem PermitChain.bridgeFollows (h : PermitChain q old new s a b c) (hin : s.inService = true) :
    b.mc.bridgeLost = bridgeSilent a ∧ BridgeAlarmFollows s b (HasRoom s .BRIDGE_LOST noSubject)
    ∧ b.mc.mode = if s.mc.bridgeLost = false ∧ bridgeSilent a = true ∧ s.tables.system.lossAction = 1 ∧ s.mc.mode = .LOCAL
        then .CLOSED else s.mc.mode := by
  obtain ⟨hbeat, rfl, -⟩ := h
  have hstate := hbeat.state
  have hmc : a.mc = s.mc := by rw [hstate]
  have htables : a.tables = s.tables := by rw [hstate]
  have hserves : a.inService = true := (inService_congr (by rw [hstate])).trans hin
  have hbridge := evalBridge_evaluated hserves
  refine ⟨hbridge.lost, ?_, ?_⟩
  · refine bridgeAlarmFollows hbridge (by rw [hmc]) ?_ hbeat.law fun r hr hpair => ?_
    · exact hasRoom_of_onlyAlarms hbeat.alarms (by simp) (by decide) fun hlt => lt_of_le_of_lt hbeat.count hlt
    · refine hbeat.alarms.1 r hr (by rw [hpair]; simp) ?_
      rw [show r.kind = .BRIDGE_LOST from congrArg Prod.fst hpair]
      decide
  · by_cases hcloses : LossCloses a
    · rw [(hbridge.closes hcloses).1, ← hmc, ← htables]
      exact (if_pos ⟨hcloses.2.1, hcloses.1, hcloses.2.2⟩).symm
    · rw [(hbridge.stands hcloses).1, ← hmc, ← htables]
      exact (if_neg fun hc => hcloses ⟨hc.2.1, hc.1, hc.2.2⟩).symm

/-- A permit-row write of a part with nothing left to look adds few frames to each queue before its own summary. -/
theorem PermitChain.grown (h : PermitChain q old new s a b c) (hresumed : s.gru.resumed = []) :
    Grown 19 s b ∧ c.gru.resumed = [] := by
  obtain ⟨hbeat, rfl, hpaced⟩ := h
  have hgru : a.gru = s.gru := by rw [hbeat.state]
  obtain ⟨hleft, hgrown⟩ := resumed_evalBridge (s := a) (by rw [hgru]; exact hresumed)
  exact ⟨hbeat.grown.trans hgrown, by rw [hpaced.state]; exact hleft⟩

theorem PermitChain.kept (h : PermitChain q old new s a b c) : Kept s b := by
  obtain ⟨hbeat, rfl, -⟩ := h
  exact sent_kept.trans hbeat.summaries (kept_evalBridge a)

/-- What the write leaves of the ports, the conditions and bridge loss. -/
structure PermitWritten (q : PortIx) (old new : PermitRow) (s t : State) : Prop where
  beats : old.hbRequired ≠ new.hbRequired → t.sp[q].hbElapsed = 0 ∧ t.sp[q].silent = false
  kept : old.hbRequired = new.hbRequired → t.sp[q].hbElapsed = s.sp[q].hbElapsed ∧ t.sp[q].silent = s.sp[q].silent
  cleared : old.hbRequired = 1 → new.hbRequired ≠ 1 → Cleared t .STATION_SILENT q.val
  bridge : s.inService = true → t.mc.bridgeLost = bridgeSilent t
    ∧ BridgeAlarmFollows s t (HasRoom s .BRIDGE_LOST noSubject)
    ∧ t.mc.mode = if s.mc.bridgeLost = false ∧ bridgeSilent t = true ∧ s.tables.system.lossAction = 1 ∧ s.mc.mode = .LOCAL
        then .CLOSED else s.mc.mode

theorem PermitChain.written (h : PermitChain q old new s a b c) (hlaw : AlarmLaw s) {kind : Nat} {clamped : Bool} {data : List Byte} :
    PermitWritten q old new s (answerDone p kind clamped data c) := by
  have hans := frame_answerDone p kind clamped data c
  have hbeat := h.beat
  have hpaced := h.paced
  have hfollows := h.bridgeFollows
  obtain ⟨hqueues, htables, -, hsilent⟩ := evalBridge_keeps a
  rw [← h.bridge] at hqueues htables hsilent
  generalize answerDone p kind clamped data c = t at hans ⊢
  have hall : OnlyQueues a t := OnlyQueues.trans (OnlyQueues.trans hqueues hpaced.queues) hans.queues
  have hal : t.al = b.al := by rw [hans.al, hpaced.state]
  have hmc : t.mc = b.mc := by rw [hans.mc, hpaced.state]
  have hbridge : bridgeSilent t = bridgeSilent a :=
    bridgeSilent_congr (by rw [hans.tables, hpaced.state]; exact htables) fun x => by rw [hall x]
  refine ⟨fun hne => ?_, fun he => ?_, fun ho hn => ?_, fun hin => ?_⟩
  · rw [hall q]
    exact hbeat.beats hne
  · rw [hall q]
    exact hbeat.kept he
  · exact (cleared_congr hal).mpr (hsilent _ (hbeat.cleared hlaw ho hn))
  · rw [hmc, hbridge]
    unfold BridgeAlarmFollows Standing Cleared
    rw [hal, hmc]
    exact hfollows hin

/-- R148 to R150: what the write leaves of the summaries and of the pacing. -/
structure PermitPaced (q : PortIx) (old new : PermitRow) (s t : State) : Prop where
  others : ∀ x : PortIx, x ≠ q → s.sp[x].queue.length ≤ 40 → t.ib.pacing[x] = s.ib.pacing[x] ∧ summariesAt t x = summariesAt s x
  own : s.sp[q].queue.length ≤ 40 →
    (new.summaryMask = old.summaryMask → t.ib.pacing[q] = s.ib.pacing[q] ∧ summariesAt t q = summariesAt s q)
    ∧ (new.summaryMask ≠ old.summaryMask → new.summaryMask = 0 → t.ib.pacing[q] = ⟨0, false⟩ ∧ summariesAt t q = summariesAt s q)
    ∧ (new.summaryMask ≠ old.summaryMask → new.summaryMask ≠ 0 → s.inService = false →
        t.ib.pacing[q] = s.ib.pacing[q] ∧ summariesAt t q = summariesAt s q)
    ∧ (new.summaryMask ≠ old.summaryMask → new.summaryMask ≠ 0 → s.inService = true → old.summaryMask ≠ 0 →
        s.ib.pacing[q].elapsed < 5 → t.ib.pacing[q] = ⟨s.ib.pacing[q].elapsed, true⟩ ∧ summariesAt t q = summariesAt s q)
    ∧ (new.summaryMask ≠ old.summaryMask → new.summaryMask ≠ 0 → s.inService = true →
        (old.summaryMask ≠ 0 → 5 ≤ s.ib.pacing[q].elapsed) →
        t.ib.pacing[q] = ⟨0, false⟩ ∧ summariesAt t q = summariesAt s q ++ [summaryOf t q])

theorem summariesAt_congr (h : t.sp[x].queue = s.sp[x].queue) : summariesAt t x = summariesAt s x := by
  unfold summariesAt
  rw [h]

theorem PermitChain.summaries (h : PermitChain q old new s a b c) (hresumed : s.gru.resumed = []) {kind : Nat} {clamped : Bool}
    {data : List Byte} : PermitPaced q old new s (answerDone p kind clamped data c) := by
  have hpaced := h.paced
  have hkept := h.kept
  obtain ⟨hgrown, -⟩ := h.grown hresumed
  have hin : b.inService = s.inService := inService_congr <| by
    rw [h.bridge, (evalBridge_keeps a).2.2.1, h.beat.state]
  have hroom {x : PortIx} (hx : s.sp[x].queue.length ≤ 40) : b.sp[x].queue.length ≤ 59 := by
    have := hgrown.port x
    omega
  have hbefore {x : PortIx} (hx : s.sp[x].queue.length ≤ 40) : summariesAt b x = summariesAt s x ∧ b.ib.pacing[x] = s.ib.pacing[x] :=
    hkept.summaries x (by have := hroom hx; unfold queueSize; omega)
  have same {x : PortIx} {y : Pacing} (hx : s.sp[x].queue.length ≤ 40) (hqueue : c.sp[x].queue = b.sp[x].queue)
      (hy : c.ib.pacing[x] = y) : (answerDone p kind clamped data c).ib.pacing[x] = y
        ∧ summariesAt (answerDone p kind clamped data c) x = summariesAt s x := by
    obtain ⟨hsum, hpace⟩ := answered_with_room (p := p) (clamped := clamped) (data := data) (kind := kind) (c := c) (x := x)
      (by have := hroom hx; rw [hqueue]; unfold queueSize; omega)
    exact ⟨hpace.trans hy, hsum.trans ((summariesAt_congr hqueue).trans (hbefore hx).1)⟩
  refine ⟨fun x hx hlen => ?_, fun hlen => ?_⟩
  · obtain ⟨hqueue, hpace⟩ := hpaced.others x hx
    exact same hlen hqueue (hpace.trans (hbefore hlen).2)
  · have hpace : b.ib.pacing[q] = s.ib.pacing[q] := (hbefore hlen).2
    refine ⟨fun he => ?_, fun hne hz => ?_, fun hne hz hout => ?_, fun hne hz hserves ho hlt => ?_, fun hne hz hserves ho => ?_⟩
    · have hc := hpaced.kept he
      exact same hlen (by rw [hc]) (by rw [hc, hpace])
    · obtain ⟨hqueue, hstop⟩ := hpaced.stopped hne hz
      exact same hlen hqueue hstop
    · have hc := hpaced.unserved hne hz (hin.trans hout)
      exact same hlen (by rw [hc]) (by rw [hc, hpace])
    · obtain ⟨hqueue, hheld⟩ := hpaced.held hne hz (hin.trans hserves) ho (by rw [hpace]; exact hlt)
      exact same hlen hqueue (by rw [hheld, hpace])
    · have hbroom := hroom hlen
      obtain ⟨hqueue, hbegun⟩ := hpaced.sent hne hz (hin.trans hserves) (by rw [hpace]; exact ho) (by unfold queueSize; omega)
      have hclen : c.sp[q].queue.length < queueSize := by
        rw [hqueue, List.length_append, List.length_singleton]
        unfold queueSize
        omega
      obtain ⟨hsum, hstands⟩ := answered_with_room (p := p) (clamped := clamped) (data := data) (kind := kind) hclen
      refine ⟨hstands.trans hbegun, hsum.trans ?_⟩
      have hzone : summaryOf (answerDone p kind clamped data c) q = zoneSummary b q := by
        rw [summaryOf_eq]
        refine (zoneSummary_place _ c).trans ?_
        have hstate := hpaced.state
        exact zoneSummary_congr (by rw [hstate]) (by rw [hpaced.pacing]) (by rw [hstate]) (by rw [hstate]) (by rw [hstate])
      rw [hzone, ← (hbefore hlen).1]
      unfold summariesAt
      rw [hqueue, List.filter_append]
      rfl

end
end Sys2Proof.Proofs
end

section
/-! ## What passes and tests leave does not depend on the ports (R55, R60) -/
namespace Sys2Proof.Proofs
open Sys2Proof Sys2Proof.Machine

set_option Elab.async false

/-- The two states differ in the ports and the indications alone. -/
def Ashore (s t : State) : Prop := t = { s with sp := t.sp, ib := t.ib }

section
variable {s t u v : State} {h : HpuIx} {d head : DoorIx} {k : AlarmKind} {n : Nat} {r : AlarmRecord}

theorem Ashore.refl (s : State) : Ashore s s := rfl
theorem Ashore.trans (h : Ashore s t) (g : Ashore t u) : Ashore s u := by
  unfold Ashore at *
  rw [g, h]
theorem Ashore.symm (h : Ashore s t) : Ashore t s := by
  unfold Ashore at *
  rw [h]

/-- Operations that leave the ports as their cores leave ashore keep two states ashore as their cores do. -/
theorem Ashore.through (h : Ashore s u) (g : Ashore t v) (hst : Ashore s t) : Ashore u v := h.symm.trans (hst.trans g)

theorem Ashore.notify (c : Change) (r : AlarmRecord) (s : State) : Ashore s (notify c r s) :=
  forEach_rel (R := Ashore) Ashore.refl (fun h g => Ashore.trans h g) (fun p u => place_state p _ u) _ s

theorem Ashore.setRecords (hst : Ashore s t) (f : List AlarmRecord → List AlarmRecord) :
    Ashore (setRecords (f s.al.records) s) (setRecords (f t.al.records) t) := by
  unfold Ashore at hst ⊢
  rw [hst]
  rfl

theorem Ashore.findRecord (hst : Ashore s t) (k : AlarmKind) (n : Nat) : findRecord k n t = findRecord k n s := by
  rw [hst]
  rfl

theorem Ashore.records (hst : Ashore s t) : t.al.records = s.al.records := by rw [hst]

theorem Ashore.updateRecord (hst : Ashore s t) (r : AlarmRecord) : Ashore (updateRecord r s) (updateRecord r t) :=
  .through (.notify ..) (.notify ..) (hst.setRecords _)

theorem Ashore.createRecord (hst : Ashore s t) (k : AlarmKind) (n : Nat) (st : AlarmState) :
    Ashore (createRecord k n st s) (createRecord k n st t) := by
  have hseconds : t.seconds = s.seconds := by rw [hst]
  unfold Machine.createRecord
  rw [hseconds]
  exact .through (.notify ..) (.notify ..) (hst.setRecords fun l => inserted l ⟨k, n, st, s.seconds, 1⟩)

theorem Ashore.ite {c : Prop} [Decidable c] {a b a' b' : State} (h : Ashore a a') (g : Ashore b b') :
    Ashore (if c then a else b) (if c then a' else b') := by
  split
  · exact h
  · exact g

theorem Ashore.reraise (hst : Ashore s t) (r : AlarmRecord) : Ashore (reraise r s) (reraise r t) := .ite (hst.updateRecord _) hst

theorem Ashore.loseRaise (hst : Ashore s t) : Ashore (loseRaise s) (loseRaise t) := by
  unfold Machine.loseRaise raiseListFull
  have hlost : Ashore { s with al := { s.al with lost := satInc 65535 s.al.lost } }
      { t with al := { t.al with lost := satInc 65535 t.al.lost } } := by
    unfold Ashore at hst ⊢
    rw [hst]
  generalize ({ s with al := { s.al with lost := satInc 65535 s.al.lost } } : State) = a at hlost
  generalize ({ t with al := { t.al with lost := satInc 65535 t.al.lost } } : State) = b at hlost
  rw [hlost.findRecord]
  split
  · exact hlost.reraise _
  · exact hlost.createRecord ..

theorem Ashore.raiseAlarm (hst : Ashore s t) (k : AlarmKind) (n : Nat) : Ashore (raiseAlarm k n s) (raiseAlarm k n t) := by
  unfold Machine.raiseAlarm
  rw [hst.findRecord, hst.records]
  split
  · exact hst.reraise _
  · exact .ite (hst.createRecord ..) hst.loseRaise

theorem Ashore.onRemoval (hst : Ashore s t) (r : AlarmRecord) : Ashore (onRemoval r s) (onRemoval r t) := by
  unfold Machine.onRemoval
  refine .ite ?_ hst
  split
  · unfold Ashore at hst ⊢
    rw [hst]
    rfl
  · exact hst

theorem Ashore.dropRecord (hst : Ashore s t) (r : AlarmRecord) : Ashore (dropRecord r s) (dropRecord r t) :=
  .onRemoval (.through (.notify ..) (.notify ..) (hst.setRecords fun l => l.filter fun q => !q.isFor r.kind r.subject)) r

theorem Ashore.clearRecord (hst : Ashore s t) (r : AlarmRecord) : Ashore (clearRecord r s) (clearRecord r t) := by
  unfold Machine.clearRecord
  split
  · exact hst.updateRecord _
  · exact hst.dropRecord r
  · exact hst

theorem Ashore.testListFull (hst : Ashore s t) : Ashore (testListFull s) (testListFull t) := by
  unfold Machine.testListFull
  rw [hst.findRecord, hst.records]
  split
  · exact .ite (hst.clearRecord _) hst
  · exact hst

theorem Ashore.clearAlarm (hst : Ashore s t) (k : AlarmKind) (n : Nat) : Ashore (clearAlarm k n s) (clearAlarm k n t) := by
  unfold Machine.clearAlarm
  rw [hst.findRecord]
  split
  · exact .ite (hst.dropRecord _).testListFull (hst.clearRecord _)
  · exact hst

/-! ### The schedule -/

theorem Ashore.sameSchedule (hst : Ashore s t) : SameSchedule s t := by
  unfold SameSchedule
  rw [hst]
  exact ⟨rfl, rfl⟩

theorem Ashore.modFlow (hst : Ashore s t) (h : HpuIx) (f : HpuFlow → HpuFlow) : Ashore (s.modFlow h f) (t.modFlow h f) := by
  unfold Ashore at hst ⊢
  rw [hst]
  rfl

theorem Ashore.setEntry (hst : Ashore s t) (d : DoorIx) (e : Entry) : Ashore (s.setEntry d e) (t.setEntry d e) := by
  unfold Ashore at hst ⊢
  rw [hst]
  rfl

theorem Ashore.queueOrder (hst : Ashore s t) (d : DoorIx) (o : OrderKind) : Ashore (queueOrder d o s) (queueOrder d o t) := by
  unfold Ashore at hst ⊢
  rw [hst]
  rfl

theorem Ashore.evalDelay (hst : Ashore s t) (h : HpuIx) : Ashore (evalDelay h s) (evalDelay h t) := by
  obtain ⟨hcs, htables⟩ := hst.sameSchedule
  unfold Machine.evalDelay
  rw [admissionDelayed_congr (by rw [hcs]) htables, hcs]
  exact .ite (.ite hst ((hst.modFlow ..).raiseAlarm ..)) (.ite ((hst.modFlow ..).clearAlarm ..) hst)

theorem Ashore.admitDoor (hst : Ashore s t) (d : DoorIx) : Ashore (admitDoor d s) (admitDoor d t) := by
  have hentry := hst.sameSchedule.entry d
  have htables := hst.sameSchedule.2
  cases he : s.entry d with
  | some e =>
    rw [admitDoor_eq he, admitDoor_eq (hentry.trans he), hpuOf_congr htables, draw_congr htables, doorDeadline_congr htables]
    exact (((hst.setEntry ..).modFlow ..).queueOrder ..).evalDelay _
  | none =>
    unfold Machine.admitDoor
    rw [hentry, he]
    exact hst

theorem Ashore.overtake (hst : Ashore s t) (d : DoorIx) : Ashore (overtake d s) (overtake d t) := by
  unfold Machine.overtake
  rw [hst.sameSchedule.entry]
  split
  · exact hst.setEntry ..
  · exact hst

theorem Ashore.lookAhead (hst : Ashore s t) (h : HpuIx) (head : DoorIx) (l : List DoorIx) :
    Ashore (lookAhead h head l s) (lookAhead h head l t) := by
  induction l generalizing s t with
  | nil => exact hst
  | cons x rest ih =>
    unfold Machine.lookAhead
    rw [hst.sameSchedule.entryFits,
      show overtakenOf t head = overtakenOf s head by unfold overtakenOf; rw [hst.sameSchedule.entry]]
    exact .ite hst (.ite (ih ((hst.admitDoor x).overtake head)) (ih hst))

theorem Ashore.passWalk (hst : Ashore s t) (h : HpuIx) (l : List DoorIx) : Ashore (passWalk h l s) (passWalk h l t) := by
  induction l generalizing s t with
  | nil => exact hst
  | cons x rest ih =>
    have hclass (d : DoorIx) : entryClass t d = entryClass s d := by unfold entryClass; rw [hst.sameSchedule.entry]
    unfold Machine.passWalk
    simp only [hst.sameSchedule.entryFits, hclass, hst.sameSchedule.2]
    exact .ite (ih (hst.admitDoor x)) (hst.lookAhead ..)

theorem Ashore.pass (hst : Ashore s t) (h : HpuIx) : Ashore (pass h s) (pass h t) := by
  unfold Machine.pass
  rw [readyOn_congr hst.sameSchedule.entry hst.sameSchedule.2]
  exact hst.passWalk ..

theorem Ashore.passes (hst : Ashore s t) (l : List HpuIx) : Ashore (forEach l Machine.pass s) (forEach l Machine.pass t) := by
  induction l generalizing s t with
  | nil => exact hst
  | cons h rest ih => exact ih (hst.pass h)

end
end Sys2Proof.Proofs
end

section
/-! ## TABLE_WRITE: the tests of R60 that the write of the system record makes (O35) -/
namespace Sys2Proof.Proofs
open Sys2Proof Sys2Proof.Machine

set_option Elab.async false

section
variable {s t u : State} {h x : HpuIx} {l : List HpuIx}

/-! ### The records that the tests of all HPUs can make -/

/-- The records other than LIST_FULL with those that the tests of the HPUs can still make. -/
def delayPotential (s : State) : Nat := otherCount s.al.records + ∑ x : HpuIx, delayDue x s

theorem delayDue_le (h : HpuIx) (s : State) : delayDue h s ≤ 1 := by unfold delayDue; split <;> omega

theorem delayPotential_le (s : State) : delayPotential s ≤ otherCount s.al.records + 8 := by
  have hsum : ∑ x : HpuIx, delayDue x s ≤ ∑ _x : HpuIx, 1 := Finset.sum_le_sum fun x _ => delayDue_le x s
  have hcard : ∑ _x : HpuIx, 1 = 8 := by simp
  unfold delayPotential
  omega

/-- What an HPU's pass or test makes it could make before; the other HPUs' tests stand. -/
theorem delayPotential_mono (hb : DelayBounded h s t) (hothers : ∀ x : HpuIx, x ≠ h → delayDue x t = delayDue x s) :
    delayPotential t ≤ delayPotential s := by
  have hrest : ∑ x ∈ Finset.univ.erase h, delayDue x t = ∑ x ∈ Finset.univ.erase h, delayDue x s :=
    Finset.sum_congr rfl fun x hx => hothers x (Finset.ne_of_mem_erase hx)
  have hs := Finset.add_sum_erase Finset.univ (fun x => delayDue x s) (Finset.mem_univ h)
  have ht := Finset.add_sum_erase Finset.univ (fun x => delayDue x t) (Finset.mem_univ h)
  have := hb.records
  unfold delayPotential
  omega

/-- A pass of one HPU leaves the READY entries of the others. -/
theorem admissionDelayed_pass_of_ne (hx : x ≠ h) (s : State) : admissionDelayed (Machine.pass h s) x = admissionDelayed s x := by
  have htables := (ScheduleFrame.pass h s).tables
  unfold admissionDelayed
  refine List.any_congr rfl fun d => ?_
  by_cases hd : s.hpuOf d = x
  · refine waitsTooLong_congr (entry_pass_of_not_ready ?_) htables
    cases hin : entryIn s h .READY d with
    | false => rfl
    | true =>
      obtain ⟨e, -, -, hhpu⟩ := entry_of_entryIn hin
      exact absurd (hd.symm.trans hhpu) hx
  · have hnot {v : State} (hv : v.tables = s.tables) : waitsTooLong v x d = false := by
      unfold waitsTooLong
      split
      · rw [hpuOf_congr hv, decide_eq_false hd, Bool.and_false, Bool.false_and]
      · rfl
    rw [hnot htables, hnot rfl]

theorem delayPotential_pass (h : HpuIx) (s : State) : delayPotential (Machine.pass h s) ≤ delayPotential s := by
  refine delayPotential_mono (.pass h s) fun x hx => ?_
  unfold delayDue
  rw [admissionDelayed_pass_of_ne hx, (pass_admits h s).others x hx]

theorem delayPotential_passes (l : List HpuIx) (s : State) : delayPotential (forEach l Machine.pass s) ≤ delayPotential s :=
  forEach_rel (R := fun a b => delayPotential b ≤ delayPotential a) (fun _ => le_rfl) (fun h g => g.trans h) delayPotential_pass l s

/-! ### One test, and the tests of a list -/

theorem admissionDelayed_evalDelay (h x : HpuIx) (s : State) : admissionDelayed (Machine.evalDelay h s) x = admissionDelayed s x :=
  admissionDelayed_congr (by rw [evalDelay_cs]) (ScheduleFrame.evalDelay ..).tables x

theorem flow_evalDelay_self (h : HpuIx) (s : State) :
    (Machine.evalDelay h s).cs.flow[h] = { s.cs.flow[h] with delayAlarm := admissionDelayed s h } := by
  rw [evalDelay_cs]
  simp

theorem flow_evalDelay_of_ne (hx : x ≠ h) (s : State) : (Machine.evalDelay h s).cs.flow[x] = s.cs.flow[x] := by
  have hval : h.val ≠ x.val := fun hv => hx (Fin.ext hv).symm
  rw [evalDelay_cs]
  simp [hval]

theorem delayPotential_evalDelay (h : HpuIx) (s : State) : delayPotential (Machine.evalDelay h s) ≤ delayPotential s := by
  refine delayPotential_mono (.evalDelay h s) fun x hx => ?_
  unfold delayDue
  rw [admissionDelayed_evalDelay, flow_evalDelay_of_ne hx]

/-- R60: what the tests of a list of HPUs leave. -/
structure Tested (l : List HpuIx) (s t : State) : Prop where
  flow : ∀ h ∈ l, t.cs.flow[h] = { s.cs.flow[h] with delayAlarm := admissionDelayed s h }
  others : ∀ h : HpuIx, h ∉ l → t.cs.flow[h] = s.cs.flow[h]
  rc : t.rc = s.rc
  raised : delayPotential s ≤ 63 → ∀ h ∈ l, s.cs.flow[h].delayAlarm = false → admissionDelayed s h = true →
    Standing t .ADMISSION_DELAY h.val
  cleared : AlarmLaw s → ∀ h ∈ l, s.cs.flow[h].delayAlarm = true → admissionDelayed s h = false → Cleared t .ADMISSION_DELAY h.val

theorem onlyAlarms_tests (l : List HpuIx) (s : State) :
    OnlyAlarms s (forEach l Machine.evalDelay s) (l.map fun h => (.ADMISSION_DELAY, h.val)) :=
  onlyAlarms_forEach l (fun h hh u => onlyAlarms_mono (onlyAlarms_evalDelay h u) fun y hy => by
    rw [List.mem_singleton.mp hy]
    exact List.mem_map.mpr ⟨h, hh, rfl⟩) s

theorem tested_evalDelays (hnodup : l.Nodup) (s : State) : Tested l s (forEach l Machine.evalDelay s) := by
  induction l generalizing s with
  | nil => exact ⟨nofun, fun _ _ => rfl, rfl, nofun, nofun⟩
  | cons h rest ih =>
    obtain ⟨hh, hrest⟩ := List.nodup_cons.mp hnodup
    have hlast := ih hrest (Machine.evalDelay h s)
    have honly := onlyAlarms_tests rest (Machine.evalDelay h s)
    have hpair : (AlarmKind.ADMISSION_DELAY, h.val) ∉ rest.map fun x => (AlarmKind.ADMISSION_DELAY, x.val) := fun hm => by
      obtain ⟨x, hx, he⟩ := List.mem_map.mp hm
      have hval : x.val = h.val := congrArg Prod.snd he
      exact hh (Fin.ext hval ▸ hx)
    have hpotential := delayPotential_evalDelay h s
    have hlaw : AlarmLaw s → AlarmLaw (Machine.evalDelay h s) := alarmLaw_steps (.evalDelay h s)
    have hstands {x : HpuIx} (hx : x ∈ rest) : (Machine.evalDelay h s).cs.flow[x] = s.cs.flow[x] :=
      flow_evalDelay_of_ne (fun he : x = h => hh (he ▸ hx)) s
    show Tested (h :: rest) s (forEach rest Machine.evalDelay (Machine.evalDelay h s))
    generalize forEach rest Machine.evalDelay (Machine.evalDelay h s) = v at hlast honly
    refine { flow := fun x hx => ?_, others := fun x hx => ?_, rc := hlast.rc.trans (evalDelay_rc h s)
             raised := fun hp x hx hwas his => ?_, cleared := fun hl x hx hwas his => ?_ }
    · obtain rfl | hx := List.mem_cons.mp hx
      · exact (hlast.others x hh).trans (flow_evalDelay_self x s)
      · rw [hlast.flow x hx, hstands hx, admissionDelayed_evalDelay]
    · obtain ⟨hne, hnot⟩ := not_or.mp (mt List.mem_cons.mpr hx)
      exact (hlast.others x hnot).trans (flow_evalDelay_of_ne hne s)
    · obtain rfl | hx := List.mem_cons.mp hx
      · refine standing_of_onlyAlarms honly hpair (by decide) (standing_evalDelay hwas his (.inl ?_))
        have hdue : delayDue x s = 1 := if_pos ⟨his, hwas⟩
        have hsum : delayDue x s ≤ ∑ y : HpuIx, delayDue y s := Finset.single_le_sum (f := fun y => delayDue y s) (fun _ _ => Nat.zero_le _) (Finset.mem_univ x)
        unfold delayPotential at hp
        omega
      · exact hlast.raised (hpotential.trans hp) x hx ((congrArg HpuFlow.delayAlarm (hstands hx)).trans hwas)
          ((admissionDelayed_evalDelay ..).trans his)
    · obtain rfl | hx := List.mem_cons.mp hx
      · exact cleared_of_onlyAlarms honly hpair (by decide) (cleared_evalDelay hwas his hl)
      · exact hlast.cleared (hlaw hl) x hx ((congrArg HpuFlow.delayAlarm (hstands hx)).trans hwas)
          ((admissionDelayed_evalDelay ..).trans his)

theorem admissionDelayed_iff : admissionDelayed s h = true ↔ ∃ d : DoorIx, ∃ e ∈ s.entry d, s.hpuOf d = h ∧ e.phase = .READY
    ∧ 10 * s.tables.system.waitLimit < e.readyAge := by
  unfold admissionDelayed waitsTooLong
  simp only [List.any_eq_true]
  refine ⟨fun ⟨d, _, hd⟩ => ⟨d, ?_⟩, fun ⟨d, e, he, hhpu, hph, hlate⟩ => ⟨d, mem_allDoors d, ?_⟩⟩
  · cases he : s.entry d with
    | none => rw [he] at hd; cases hd
    | some e =>
      rw [he] at hd
      simp only [Bool.and_eq_true, decide_eq_true_eq] at hd
      exact ⟨e, rfl, hd.1.2, hd.1.1, hd.2⟩
  · rw [Option.mem_def.mp he]
    simp [hph, hhpu, hlate]

end
end Sys2Proof.Proofs
end

section
/-! ## TABLE_WRITE: the system record's clause, and O35 -/
namespace Sys2Proof.Proofs
open Sys2Proof Sys2Proof.Machine

set_option Elab.async false

/-! ### The write of the system record (R59, R60) -/

/-- The part with the system record written. -/
def withSystem (new : SystemRecord) (s : State) : State := { s with tables := { s.tables with system := new } }

/-- R59: the passes that a system-record write takes. -/
def systemPassed (new : SystemRecord) (s : State) : State :=
  if new.directLane = s.tables.system.directLane ∧ new.lookAhead = s.tables.system.lookAhead then withSystem new s
  else forEach (presentHpus s) Machine.pass (withSystem new s)

section
variable {s t : State} {h : HpuIx} {new : SystemRecord}

theorem systemWritten_eq (new : SystemRecord) (s : State) : systemWritten s.tables.system new s =
    if new.waitLimit = s.tables.system.waitLimit then systemPassed new s
    else forEach (presentHpus s) Machine.evalDelay (systemPassed new s) := by
  have hpresent {v : State} (hv : v.tables = (withSystem new s).tables) : presentHpus v = presentHpus s := by
    unfold presentHpus State.hpuPresent
    rw [hv]
    rfl
  have hpassed : (systemPassed new s).tables = (withSystem new s).tables := by
    unfold systemPassed
    split
    · rfl
    · exact (Passing.passes ..).tables
  have hbranch : (if s.tables.system.directLane ≠ new.directLane ∨ s.tables.system.lookAhead ≠ new.lookAhead
      then forEach (presentHpus (withSystem new s)) Machine.pass (withSystem new s) else withSystem new s) = systemPassed new s := by
    unfold systemPassed
    rw [hpresent rfl]
    by_cases hsame : new.directLane = s.tables.system.directLane ∧ new.lookAhead = s.tables.system.lookAhead
    · rw [if_pos hsame, if_neg (not_or.mpr ⟨fun hne => hne hsame.1.symm, fun hne => hne hsame.2.symm⟩)]
    · rw [if_neg hsame, if_pos]
      by_contra hno
      obtain ⟨hlane, hahead⟩ := not_or.mp hno
      exact hsame ⟨(not_not.mp hlane).symm, (not_not.mp hahead).symm⟩
  have hsystem : systemWritten s.tables.system new s = (fun v => if s.tables.system.waitLimit ≠ new.waitLimit
      then forEach (presentHpus v) Machine.evalDelay v else v) (if s.tables.system.directLane ≠ new.directLane
        ∨ s.tables.system.lookAhead ≠ new.lookAhead
      then forEach (presentHpus (withSystem new s)) Machine.pass (withSystem new s) else withSystem new s) := rfl
  rw [hsystem, hbranch]
  simp only
  rw [hpresent hpassed]
  by_cases hwait : new.waitLimit = s.tables.system.waitLimit
  · rw [if_pos hwait, if_neg fun hne => hne hwait.symm]
  · rw [if_neg hwait, if_pos (Ne.symm hwait)]

theorem systemPassed_passing (new : SystemRecord) (s : State) : Passing (withSystem new s) (systemPassed new s) := by
  unfold systemPassed
  split
  · exact .refl _
  · exact .passes ..

theorem ashore_systemPassed (new : SystemRecord) (hst : Ashore s t) : Ashore (systemPassed new s) (systemPassed new t) := by
  have hwith : Ashore (withSystem new s) (withSystem new t) := by
    unfold Ashore withSystem at *
    rw [hst]
  have htables : t.tables = s.tables := hst.sameSchedule.2
  have hpresent : presentHpus t = presentHpus s := by
    unfold presentHpus State.hpuPresent
    rw [htables]
  unfold systemPassed
  rw [htables, hpresent]
  exact .ite hwith (hwith.passes _)

/-- R59, R60: what a system-record write leaves, the passes taken. -/
structure SystemWritten (new : SystemRecord) (s v t : State) : Prop where
  entries : ∀ d : DoorIx, t.entry d = v.entry d
  rc : t.rc = v.rc
  nextArrival : t.cs.nextArrival = s.cs.nextArrival
  ms : t.ms = s.ms
  gru : t.gru = s.gru
  mc : t.mc = s.mc
  kept : new.waitLimit = s.tables.system.waitLimit → t.cs = v.cs ∧ t.al = v.al
  tested : new.waitLimit ≠ s.tables.system.waitLimit → ∀ h : HpuIx,
    t.cs.flow[h] = { v.cs.flow[h] with delayAlarm := t.cs.flow[h].delayAlarm }
    ∧ (s.hpuPresent h = false → t.cs.flow[h].delayAlarm = v.cs.flow[h].delayAlarm)
    ∧ (s.hpuPresent h = true → t.cs.flow[h].delayAlarm = admissionDelayed v h
        ∧ (v.cs.flow[h].delayAlarm = false → t.cs.flow[h].delayAlarm = true → otherCount s.al.records ≤ 54 →
            Standing t .ADMISSION_DELAY h.val)
        ∧ (v.cs.flow[h].delayAlarm = true → t.cs.flow[h].delayAlarm = false → Cleared t .ADMISSION_DELAY h.val))

theorem delayPotential_systemPassed (new : SystemRecord) (s : State) :
    delayPotential (systemPassed new s) ≤ otherCount s.al.records + 8 := by
  have hwith : delayPotential (withSystem new s) ≤ otherCount s.al.records + 8 := delayPotential_le (withSystem new s)
  unfold systemPassed
  split
  · exact hwith
  · exact (delayPotential_passes ..).trans hwith

theorem alarmLaw_systemPassed (new : SystemRecord) (hlaw : AlarmLaw s) : AlarmLaw (systemPassed new s) := by
  have hwith : AlarmLaw (withSystem new s) := (alarmLaw_congr rfl).mpr hlaw
  unfold systemPassed
  split
  · exact hwith
  · exact alarmLaw_steps (Steps.forEach (fun h u => Steps.pass h u) _ _) hwith

theorem systemWritten_written (new : SystemRecord) (hlaw : AlarmLaw s) :
    SystemWritten new s (systemPassed new s) (systemWritten s.tables.system new s) := by
  have hpassing := systemPassed_passing new s
  have hpotential := delayPotential_systemPassed new s
  have hvlaw := alarmLaw_systemPassed new hlaw
  rw [systemWritten_eq]
  by_cases hwait : new.waitLimit = s.tables.system.waitLimit
  · rw [if_pos hwait]
    exact ⟨fun _ => rfl, rfl, hpassing.nextArrival, hpassing.ms, hpassing.gru, hpassing.mc, fun _ => ⟨rfl, rfl⟩,
      fun hne => absurd hwait hne⟩
  rw [if_neg hwait]
  have hnodup : (presentHpus s).Nodup := (List.nodup_finRange 8).filter _
  have htests := tested_evalDelays hnodup (systemPassed new s)
  have hafter := hpassing.trans (.tests (presentHpus s) (systemPassed new s))
  have hentries (d : DoorIx) : (forEach (presentHpus s) Machine.evalDelay (systemPassed new s)).entry d = (systemPassed new s).entry d :=
    forEach_rel (R := fun a b => b.entry d = a.entry d) (fun _ => rfl) (fun h g => g.trans h) (fun h u => evalDelay_entry h u d) _ _
  generalize forEach (presentHpus s) Machine.evalDelay (systemPassed new s) = t at htests hafter hentries
  refine ⟨hentries, htests.rc, hafter.nextArrival, hafter.ms, hafter.gru, hafter.mc, fun he => absurd he hwait, fun _ h => ?_⟩
  cases hp : s.hpuPresent h with
  | false =>
    have hsame := htests.others h fun hm => by rw [mem_presentHpus, hp] at hm; cases hm
    exact ⟨by rw [hsame], fun _ => by rw [hsame], fun hpresent => nomatch hpresent⟩
  | true =>
    have hmem : h ∈ presentHpus s := mem_presentHpus.mpr hp
    have hflow := htests.flow h hmem
    have hflag : t.cs.flow[h].delayAlarm = admissionDelayed (systemPassed new s) h := by rw [hflow]
    refine ⟨by rw [hflow], fun habsent => (nomatch habsent), fun _ => ⟨hflag, fun hwas his hcount => ?_, fun hwas his => ?_⟩⟩
    · exact htests.raised (by omega) h hmem hwas (hflag.symm.trans his)
    · exact htests.cleared hvlaw h hmem hwas (hflag.symm.trans his)

end
end Sys2Proof.Proofs
end

section
/-! ## O35 -/
namespace Sys2Proof.Proofs
open Sys2Proof Sys2Proof.Machine

set_option Elab.async false

section
variable {s t : State} {p q : PortIx} {index : Byte} {image : List Byte} {d : DoorIx} {h : HpuIx}

/-! ### The writes that no step refuses (R173) -/

theorem exec_hpuWrite (hs : ManagesStore s p) (hh : index.toNat = h.val) (hlen : image.length = 8)
    (href : (HpuConfig.decode image).refused = false) (huse : hpuInUse s h = false)
    (hcross : s.inService = true → crossHpu { s.tables with hpus := s.tables.hpus.set h (HpuConfig.decode image).clamp } h = none) :
    ∃ clamped, exec (.tableWriteHpu p index image) s = .next (answerDone p 10 clamped []
      (settleRuns (hpuWritten h s.tables.hpus[h] (HpuConfig.decode image).clamp (acceptFrame p s)))) := by
  refine ⟨decide ((HpuConfig.decode image).clamp ≠ HpuConfig.decode image), (exec_writeHpu hs).trans (congrArg _ ?_)⟩
  rw [if_pos (wfImage_iff.mpr hlen), writeHpu_eq hh]
  exact decideWrite_taken (s := acceptFrame p s) huse href hcross

theorem exec_permitWrite (hs : ManagesStore s p) (hq : index.toNat = q.val) (hlen : image.length = 12)
    (href : (PermitRow.decode image).refused = false)
    (hservice : s.inService = true → ∃ r : PortIx, (s.tables.permits.set q (PermitRow.decode image).clamp)[r].role = 4) :
    ∃ clamped, exec (.tableWritePermitRow p index image) s = .next (answerDone p 10 clamped []
      (settleRuns (permitWritten q (s.row q) (PermitRow.decode image).clamp (acceptFrame p s)))) := by
  refine ⟨decide ((PermitRow.decode image).clamp ≠ PermitRow.decode image), (exec_writePermit hs).trans (congrArg _ ?_)⟩
  rw [if_pos (wfImage_iff.mpr hlen), writePermit_eq hq]
  exact decideWrite_taken (s := acceptFrame p s) rfl href fun hin => if_pos (hasService_iff.mpr (hservice hin))

theorem exec_systemWrite (hs : ManagesStore s p) (hi : index.toNat = 0) (hlen : image.length = 9) (hmode : s.mc.mode = .LOCAL)
    (href : (SystemRecord.decode image).refused = false) :
    ∃ clamped, exec (.tableWriteSystemRecord p index image) s = .next (answerDone p 10 clamped []
      (settleRuns (systemWritten s.tables.system (SystemRecord.decode image).clamp (acceptFrame p s)))) := by
  refine ⟨decide ((SystemRecord.decode image).clamp ≠ SystemRecord.decode image), (exec_writeSystem hs).trans (congrArg _ ?_)⟩
  rw [if_pos (wfImage_iff.mpr hlen), writeSystem_eq hi]
  exact decideWrite_taken (s := acceptFrame p s) (decide_eq_false (not_not.mpr hmode)) href fun _ => rfl

/-! ### What the RESULT leaves of each write -/

theorem DoorWritten.answered {new : DoorConfig} (hw : DoorWritten d new s t) (kind : Nat) (clamped : Bool) (data : List Byte) :
    DoorWritten d new s (answerDone p kind clamped data t) := by
  have hans := frame_answerDone p kind clamped data t
  generalize answerDone p kind clamped data t = u at hans
  have hrc := hans.rc
  refine ⟨by rw [hrc]; exact hw.aside, fun hm => ?_, fun hm hn => by rw [hrc]; exact hw.orders hm hn,
    fun hm => hrc.trans (hw.kept hm), fun hl => ?_⟩
  · unfold State.filterAt
    rw [hrc]
    exact hw.moved hm
  · obtain ⟨hcleared, hoas⟩ := hw.leaves hl
    exact ⟨fun k hk => (cleared_congr hans.al).mpr (hcleared k hk), by rw [hans.mc]; exact hoas⟩

theorem HpuWritten.answered {new : HpuConfig} (hw : HpuWritten h new s t) (kind : Nat) (clamped : Bool) (data : List Byte) :
    HpuWritten h new s (answerDone p kind clamped data t) := by
  have hans := frame_answerDone p kind clamped data t
  generalize answerDone p kind clamped data t = u at hans
  have hrc := hans.rc
  refine ⟨fun hm => ?_, fun hm => by rw [hrc]; exact hw.kept hm, fun hl => ?_, ?_, by rw [hrc]; exact hw.reported⟩
  · unfold State.filterAt
    rw [hrc]
    exact hw.moved hm
  · obtain ⟨hfailed, hsilent, hdelay⟩ := hw.leaves hl
    exact ⟨(cleared_congr hans.al).mpr hfailed, (cleared_congr hans.al).mpr hsilent, (cleared_congr hans.al).mpr hdelay⟩
  · rw [hans.cs, effectiveCapacity_congr hans.tables (by rw [hrc])]
    exact hw.capacity

theorem hbElapsed_acceptFrame (p q : PortIx) (s : State) : (acceptFrame p s).sp[q].hbElapsed = s.sp[q].hbElapsed := by
  rw [sp_acceptFrame_port]
  split <;> rfl

/-- The pacing of a write is the same told from a part with the same queues. -/
theorem PermitPaced.of_queues {old new : PermitRow} {u : State} (hp : PermitPaced q old new u t)
    (hqueue : ∀ x : PortIx, u.sp[x].queue = s.sp[x].queue) (hib : u.ib = s.ib) (hcfs : u.cfs = s.cfs) : PermitPaced q old new s t where
  others x hx hlen := by
    have hat := hp.others x hx (by rw [hqueue]; exact hlen)
    rwa [hib, summariesAt_congr (hqueue x)] at hat
  own hlen := by
    have hat := hp.own (by rw [hqueue]; exact hlen)
    rwa [hib, summariesAt_congr (hqueue q), inService_congr hcfs] at hat

/-- R125, R126, R150: a permit-row write with the RESULT after it. -/
theorem permitWrite_written {new : PermitRow} (clamped : Bool) (hlaw : AlarmLaw s) (hresumed : s.gru.resumed = []) :
    PermitWritten q (s.row q) new (acceptFrame p s)
      (answerDone p 10 clamped [] (settleRuns (permitWritten q (s.row q) new (acceptFrame p s))))
    ∧ PermitPaced q (s.row q) new s
      (answerDone p 10 clamped [] (settleRuns (permitWritten q (s.row q) new (acceptFrame p s)))) := by
  obtain ⟨a, b, hchain⟩ := permitWritten_chain q (s.row q) new (acceptFrame p s)
  generalize hw : permitWritten q (s.row q) new (acceptFrame p s) = c at hchain
  obtain ⟨w, hset⟩ : ∃ w, w = setTables { (acceptFrame p s).tables with permits := put (acceptFrame p s).tables.permits q new }
      (acceptFrame p s) := ⟨_, rfl⟩
  rw [← hset] at hchain
  have hwlaw : AlarmLaw w := (alarmLaw_congr (by rw [hset]; rfl)).mpr hlaw
  have hwresumed : w.gru.resumed = [] := by rw [hset]; exact hresumed
  rw [settleRuns_of_resumed (hchain.grown hwresumed).2]
  have hwritten := hchain.written (p := p) (kind := 10) (clamped := clamped) (data := []) hwlaw
  have hpaced := hchain.summaries (p := p) (kind := 10) (clamped := clamped) (data := []) hwresumed
  subst hset
  obtain ⟨hbeats, hkept, hcleared, hbridge⟩ := hwritten
  exact ⟨⟨hbeats, hkept, hcleared, hbridge⟩, hpaced.of_queues (fun x => queue_acceptFrame p x s) rfl rfl⟩

/-- R59: the passes of a write leave the same beside the ports, whether its frame was counted before or not. -/
theorem SystemWritten.answered {new : SystemRecord} {v u : State} (hw : SystemWritten new (acceptFrame p s) v t) (hv : Ashore u v)
    (kind : Nat) (clamped : Bool) (data : List Byte) : SystemWritten new s u (answerDone p kind clamped data t) := by
  have hans := frame_answerDone p kind clamped data t
  generalize answerDone p kind clamped data t = w at hans
  have hcs : v.cs = u.cs := by rw [hv]
  have htables : v.tables = u.tables := by rw [hv]
  refine ⟨fun x => (entry_congr (by rw [hans.cs]) x).trans ((hw.entries x).trans (entry_congr (by rw [hcs]) x)),
    hans.rc.trans (hw.rc.trans (by rw [hv])), (congrArg Cs.nextArrival hans.cs).trans hw.nextArrival, hans.ms.trans hw.ms,
    hans.gru.trans hw.gru, hans.mc.trans hw.mc, fun hwait => ?_, fun hwait x => ?_⟩
  · obtain ⟨hkcs, hkal⟩ := hw.kept hwait
    exact ⟨hans.cs.trans (hkcs.trans hcs), hans.al.trans (hkal.trans (by rw [hv]))⟩
  · obtain ⟨hflow, habsent, hpresent⟩ := hw.tested hwait x
    rw [hcs] at hflow habsent hpresent
    rw [admissionDelayed_congr (by rw [hcs]) htables] at hpresent
    have hstanding := standing_congr (k := .ADMISSION_DELAY) (x := x.val) hans.al
    have hcleared := cleared_congr (k := .ADMISSION_DELAY) (x := x.val) hans.al
    rw [hans.cs]
    refine ⟨hflow, habsent, fun hp => ?_⟩
    obtain ⟨hflag, hraised, hclears⟩ := hpresent hp
    exact ⟨hflag, fun hwas his hcount => hstanding.mpr (hraised hwas his hcount), fun hwas his => hcleared.mpr (hclears hwas his)⟩

end

/-- Settles O35: each write is its record's effects in their order, with the RESULT after them. -/
theorem tableWritesReset : Obligations.TableWritesReset := by
  unfold Obligations.TableWritesReset
  refine ⟨fun p index image d s hs hd hlen => ?_, fun p index image s hs hlaw hsettled hfield =>
    ⟨fun h hh hlen => ?_, fun q hq hlen => ?_, fun hi hlen hmode => ?_⟩⟩
  · intro c old href hentry hpassage hlaw hsettled hfield hcross
    obtain ⟨clamped, hexec⟩ := exec_doorWrite hs hd hlen href hentry hpassage hcross
    refine ends_of hexec ?_
    have hw := (doorWritten_written (s := acceptFrame p s) (d := d) c.clamp hentry hpassage hlaw hsettled.2).answered (p := p) 10 clamped []
    change DoorWritten d c.clamp (acceptFrame p s) (answerDone p 10 clamped []
      (settleRuns (doorWritten d s.tables.doors[d] c.clamp (acceptFrame p s)))) at hw
    generalize answerDone p 10 clamped [] (settleRuns (doorWritten d s.tables.doors[d] c.clamp (acceptFrame p s))) = t at hw
    refine ⟨fun hm => ?_, fun hnode hpresent => ?_, fun hwas hnow => ?_, hw.aside.reported, hw.aside.hpus, hw.aside.txSeq, hw.aside.loop⟩
    · have hmoved : old.moved c.clamp = true := moved_iff.mpr hm
      obtain ⟨hreported, hold, hnew, hpoll⟩ := hw.moved hmoved
      exact ⟨hreported, hold, hnew, hpoll, hw.orders hmoved⟩
    · have hkept : old.moved c.clamp = false := Bool.eq_false_iff.mpr fun hm =>
        (moved_iff.mp hm).elim (fun hne => hne hnode) fun hne => hne hpresent
      rw [hw.kept hkept]
      exact ⟨rfl, rfl, rfl⟩
    · have hgone : old.present = 1 ∧ c.clamp.present ≠ 1 := ⟨hwas, by rw [show c.clamp.present = 0 from hnow]; decide⟩
      obtain ⟨hcleared, hoas⟩ := hw.leaves hgone
      have hmoved : old.moved c.clamp = true := moved_iff.mpr (.inr fun he => hgone.2 (he.symm.trans hwas))
      refine ⟨hcleared, hoas, fun o ho => ?_⟩
      rw [hw.orders hmoved (.inr (.inr fun hb => hgone.2 hb.2))] at ho
      exact of_decide_eq_true (List.mem_filter.mp ho).2
  · intro c old href huse hcross
    obtain ⟨clamped, hexec⟩ := exec_hpuWrite hs hh hlen href huse hcross
    refine ends_of hexec ?_
    have hw := (hpuWritten_written (s := acceptFrame p s) (h := h) c.clamp hlaw hsettled.2 hfield huse).answered (p := p) 10 clamped []
    change HpuWritten h c.clamp (acceptFrame p s) (answerDone p 10 clamped []
      (settleRuns (hpuWritten h s.tables.hpus[h] c.clamp (acceptFrame p s)))) at hw
    generalize answerDone p 10 clamped [] (settleRuns (hpuWritten h s.tables.hpus[h] c.clamp (acceptFrame p s))) = t at hw
    refine ⟨fun hm => hw.moved (hpuMoved_iff.mpr hm), fun hnode hpresent => ?_, fun hwas hnow => ?_, hw.capacity, hw.reported⟩
    · exact hw.kept (Bool.eq_false_iff.mpr fun hm => (hpuMoved_iff.mp hm).elim (fun hne => hne hnode) fun hne => hne hpresent)
    · exact hw.leaves ⟨hwas, by rw [show c.clamp.present = 0 from hnow]; decide⟩
  · intro c href hservice
    obtain ⟨clamped, hexec⟩ := exec_permitWrite hs hq hlen href hservice
    refine ends_of hexec ?_
    obtain ⟨hw, hpaced⟩ := permitWrite_written (p := p) (q := q) (new := c.clamp) clamped hlaw hsettled.2
    change PermitWritten q (s.row q) c.clamp (acceptFrame p s) (answerDone p 10 clamped []
      (settleRuns (permitWritten q (s.row q) c.clamp (acceptFrame p s)))) at hw
    generalize answerDone p 10 clamped [] (settleRuns (permitWritten q (s.row q) c.clamp (acceptFrame p s))) = t at hw hpaced
    refine ⟨hw.beats, fun he => ?_, fun hwas hnow => ?_, hw.bridge, hpaced.others, fun hroom => ?_⟩
    · obtain ⟨helapsed, hsilent⟩ := hw.kept he
      exact ⟨helapsed.trans (hbElapsed_acceptFrame p q s), hsilent.trans (silent_acceptFrame p q s)⟩
    · exact hw.cleared hwas (by rw [show c.clamp.hbRequired = 0 from hnow]; decide)
    · obtain ⟨hsame, hstopped, hunserved, hheld, hsent⟩ := hpaced.own hroom
      exact ⟨hsame, hstopped, hunserved, fun hne hz hin => ⟨fun ho => hsent hne hz hin fun hn => absurd ho hn,
        hheld hne hz hin, fun ho hle => hsent hne hz hin fun _ => hle⟩⟩
  · intro c old new hpus u v href
    obtain ⟨clamped, hexec⟩ := exec_systemWrite hs hi hlen hmode href
    refine ends_of hexec ?_
    have hv : v = systemPassed new s := rfl
    have hwritten := systemWritten_written (s := acceptFrame p s) new hlaw
    have hsettle : settleRuns (systemWritten s.tables.system new (acceptFrame p s))
        = systemWritten s.tables.system new (acceptFrame p s) :=
      settleRuns_of_resumed ((congrArg Gru.resumed hwritten.gru).trans hsettled.2)
    have hash : Ashore v (systemPassed new (acceptFrame p s)) := ashore_systemPassed new (s := s) (t := acceptFrame p s) rfl
    have hw := hwritten.answered hash 10 clamped []
    rw [hsettle]
    change SystemWritten new s v (answerDone p 10 clamped [] (systemWritten s.tables.system new (acceptFrame p s))) at hw
    generalize answerDone p 10 clamped [] (systemWritten s.tables.system new (acceptFrame p s)) = t at hw
    refine ⟨hw.entries, hw.rc, hw.nextArrival, hw.ms, hw.gru, hw.mc, hw.kept, fun hwait h => ?_⟩
    obtain ⟨hflow, habsent, hpresent⟩ := hw.tested hwait h
    refine ⟨hflow, habsent, fun hp => ?_⟩
    obtain ⟨hflag, hraised, hclears⟩ := hpresent hp
    refine ⟨?_, hraised, hclears⟩
    have htables : v.tables = (withSystem new s).tables := (systemPassed_passing new s).tables
    show t.cs.flow[h].delayAlarm = true ↔ _
    rw [hflag, admissionDelayed_iff]
    have hhpu (d : DoorIx) : v.hpuOf d = s.hpuOf d := hpuOf_congr (t := v) (s := withSystem new s) htables d
    simp only [hhpu, htables]
    rfl

end Sys2Proof.Proofs
end
